-- ==== Sys2Proof/Word.lean ====
section
/-!
DEFINITION. Words of the UV2460-M model: bytes, digests, status codes, and the little-endian field lists of
controller-defined structures (00_scope R7, R9, R15, R17).
-/
namespace Sys2Proof

/-- One byte. -/
abbrev Byte := BitVec 8
/-- A run of bytes, the first at the lowest offset (R7). -/
abbrev Bytes := List (BitVec 8)
/-- A 16-bit field. -/
abbrev Word16 := BitVec 16
/-- A 32-bit parameter word (R17). -/
abbrev Word32 := BitVec 32
/-- A 64-bit field. -/
abbrev Word64 := BitVec 64
/-- A 32-byte digest or MAC, read as an unsigned 256-bit little-endian integer (R9, R138). -/
abbrev Digest := BitVec 256
/-- A status code: class in bits 15 to 8, code in bits 7 to 0 (R15). -/
abbrev Status := BitVec 16

/-- A field of a structure: its size in bytes and its value, least significant byte first (R9). -/
abbrev Fld := Nat × Nat
/-- The fields of a structure in offset order. -/
abbrev Flds := List Fld

end Sys2Proof
end

