-- ==== Sys2Proof/Syntax.lean ====
section
/-!
DEFINITION. The commands the UV2460-M takes, one constructor of `Instr` for each row of spec/opcode_table.json, and the
types of their operands. Reserved fields that R10 makes a command reject are operands; so are the outcomes of the signature
and certificate checks a message carries (log entry 4).
-/
namespace Sys2Proof

/-- The common part of a mailbox command as it stands in its request ring (19 R465 to R467): the mailbox, the tag, the
counter of the signature trailer, whether the trailer is present and its hybrid signature verifies under the connection's
key (log entry 4), and the inclusive OR of the message's reserved fields (R10). -/
structure Call where
  mbx     : Nat
  tag     : Nat
  counter : Nat
  sigOk   : Bool
  rsv     : Word64
deriving DecidableEq, Repr

/-- How a quorum act arrives: sent directly in a mailbox message, or as the body of the ceremony with this statement
digest (19 R470). -/
inductive Via where
  | direct
  | ceremony (statement : Digest)
deriving DecidableEq, Repr

/-- One scope entry of a grant record (02 Table 2.2): bit 31 and bits 15 to 0 of the entry. -/
structure ScopeEntry where
  isNs : Bool
  num  : Word16
deriving DecidableEq, Repr

/-- A grant record without its signature (02 Table 2.2). -/
structure GrantRec where
  version   : Word16
  kind      : Byte
  tenant    : Word16
  serial    : Word64
  notBefore : Nat
  notAfter  : Nat
  holder    : Digest
  issuer    : Digest
  scope     : List ScopeEntry
deriving DecidableEq, Repr

/-- A time beacon without its signature (03 Table 3.3). -/
structure Beacon where
  version     : Word16
  seconds     : Nat
  nanos       : Nat
  uncertainty : Word32
  nonce       : Digest
  module      : Digest
  signer      : Digest
deriving DecidableEq, Repr

/-- One masked write of a PARAM_SET (19 R474). -/
structure ParamWrite where
  addr  : Word32
  mask  : Word32
  value : Word32
deriving DecidableEq, Repr

/-- The scheduling part of a quota record (15 Table 15.1), with the OR of its reserved fields. -/
structure SchedQuota where
  weight      : Word16
  policer     : Byte
  cir         : Word32
  pir         : Word32
  cbs         : Word32
  ebs         : Word32
  driveRate   : Word32
  driveBurst  : Word32
  egressRate  : Word32
  egressBurst : Word32
  opAllow     : Word32
  rsv         : Word64
deriving DecidableEq, Repr

/-- A quota record (19 Table 19.5). -/
structure QuotaRec where
  byteQuota   : Word64
  openAllow   : Word32
  ctxAllow    : Word32
  landAllow   : Word32
  landSize    : Word16
  hintShare   : Byte
  rsv         : Word64
  sched       : SchedQuota
deriving DecidableEq, Repr

/-- A UOP command header (05 Table 5.1). -/
structure UopHdr where
  version    : Byte
  opcode     : Byte
  tag        : Byte
  flags      : Byte
  coll       : Word16
  nameLen    : Word16
  bodyLen    : Word32
  addressing : Byte
  rsvA       : BitVec 24
  handle     : Word64
  rsvB       : Word64
  mac        : Digest
deriving DecidableEq, Repr

/-- A data descriptor (05 Table 5.2). -/
structure Desc where
  kind : Byte
  rsvA : BitVec 24
  len  : Word32
  key  : Word32
  rsvB : Word32
  addr : Word64
deriving DecidableEq, Repr

/-- A UOP command capsule up to its body (05 R120): header, name, the padding after the name and the capsule's length. -/
structure Capsule where
  hdr     : UopHdr
  name    : Bytes
  namePad : Bytes
  len     : Nat
deriving DecidableEq, Repr

/-- PUT body (05 Table 5.5) with the bytes its descriptor delivers under kinds 1 and 3. -/
structure PutBody where
  metaLen : Word16
  rsv     : BitVec 48
  desc    : Desc
  sha2    : Digest
  sha3    : Digest
  metadata : Bytes
  metaPad : Bytes
  data    : Bytes
deriving DecidableEq, Repr

/-- PUT_PART body (05 Table 5.5) with the bytes its descriptor delivers under kinds 1 and 3. -/
structure PartBody where
  part : Word32
  rsv  : Word32
  desc : Desc
  data : Bytes
deriving DecidableEq, Repr

/-- SEAL body (05 Table 5.5). -/
structure SealBody where
  count : Word32
  rsv   : Word32
  size  : Word64
  sha2  : Digest
  sha3  : Digest
deriving DecidableEq, Repr

/-- GET body (05 Table 5.5). -/
structure GetBody where
  offset : Word64
  desc   : Desc
deriving DecidableEq, Repr

/-- LIST body (05 Table 5.5). -/
structure ListBody where
  cursor  : Digest
  preLen  : Word16
  rsv     : Word16
  maxEnt  : Word32
  desc    : Desc
  pre     : Bytes
  prePad  : Bytes
deriving DecidableEq, Repr

/-- COPY body (05 Table 5.5). -/
structure CopyBody where
  src : Word16
  rsv : BitVec 48
  mac : Digest
deriving DecidableEq, Repr

/-- HOLD and STOPPER body (05 Table 5.5). -/
structure LockBody where
  expiry : Word64
  reason : Digest
deriving DecidableEq, Repr

/-- RELEASE body (05 Table 5.5). -/
structure RelBody where
  hold : Byte
  rsv  : BitVec 56
deriving DecidableEq, Repr

/-- COLL_CREATE body (05 Table 5.5). -/
structure CollBody where
  geom  : Byte
  flags : Byte
  rsv   : BitVec 48
deriving DecidableEq, Repr

/-- The capsule body that UOP_RELAY may carry (05 R127). -/
inductive RelayBody where
  | hold (b : LockBody)
  | stopper (b : LockBody)
  | verify
  | other
deriving DecidableEq, Repr

/-- The body of a custody certificate up to its ceremony (09 Table 9.1). -/
structure CertBody where
  version  : Word16
  epoch    : Word16
  module   : Digest
  previous : Digest
  key      : Digest
deriving DecidableEq, Repr

/-- A grant by its issuer and serial (02 Table 2.2: the serial is unique per issuer). -/
structure GrantId where
  issuer : Digest
  serial : Nat
deriving DecidableEq, Repr

/-- The identity a session, mailbox connection or custody link carries (02 R31, Table 2.1). The vendor has no session. -/
inductive Principal where
  | custodian (key : Digest)
  | tenant (n : Nat)
  | depositor (n : Nat) (g : GrantId) (holder : Digest)
  | reader (n : Nat) (g : GrantId) (holder : Digest)
  | auditor (g : GrantId) (holder : Digest)
  | operator (g : GrantId) (holder : Digest)
  | peer (hitch : BitVec 128)
deriving DecidableEq, Repr

/-- A base image (20 Table 20.1 with its entries). -/
structure BaseImage where
  version    : Word16
  svcClass   : Byte
  length     : Word32
  count      : Word16
  shelf      : Word64
  generation : Nat
  releaseOk  : Bool
  rsv        : Word64
  entries    : List ParamWrite
  digest     : Digest
deriving DecidableEq, Repr

/-- A QUIET item (20 Table 20.3, type 2). -/
structure QuietItem where
  tenant   : Word16
  period   : Word32
  macs     : Word32
  sizeE    : Word32
  countA   : Byte
  countN   : Byte
  sizeD    : Word32
  sizeW    : Word32
  ipVer    : Byte
  udpPort  : Word16
  sink     : BitVec 128
deriving DecidableEq, Repr

/-- A DORMANT item (20 Table 20.3, type 4). -/
structure DormantItem where
  period : Word32
  window : Word32
  phase  : Word32
  idle   : Word32
  flags  : Word32
deriving DecidableEq, Repr

/-- A PEER item (20 Table 20.3, type 3). -/
structure PeerItem where
  shelf : Word64
  port  : Word16
  ipVer : Byte
  addr  : BitVec 128
deriving DecidableEq, Repr

/-- One overlay item (20 Table 20.3). The item header's length field and the inclusive OR of the item's reserved fields
stand beside the data. -/
inductive OvlItem where
  | param (w : ParamWrite)
  | quiet (q : QuietItem)
  | peer (p : PeerItem)
  | dormant (d : DormantItem)
  | expiry (seconds : Word32)
  | rmwTest (segment : Word32) (row strip unit count pattern : Byte)
  | windowTest (slot window direction sizeLog : Byte) (driveAddr modAddr : Word64)
  | unknown (type : Word16)
deriving DecidableEq, Repr

/-- An overlay record (20 Table 20.2 with its items). `lenOk`: every length field, of the header and of each item, agrees
with the bytes received. -/
structure OvlRec where
  version   : Word16
  cls       : Byte
  flags     : Byte
  length    : Word32
  count     : Word16
  shelf     : Word64
  serial    : Word64
  releaseOk : Bool
  rsv       : Word64
  lenOk     : Bool
  items     : List OvlItem
  digest    : Digest
deriving DecidableEq, Repr

/-- One scope entry of a pairing record (11 Table 11.1). -/
structure PairScope where
  tenant : Word16
  coll   : Word16
  key    : Digest
deriving DecidableEq, Repr

/-- A pairing record (11 Table 11.1). -/
structure PairingRec where
  version   : Word16
  rsv       : Word64
  id        : BitVec 128
  srcShelf  : Word64
  dstShelf  : Word64
  srcA      : Digest
  srcB      : Digest
  dstA      : Digest
  dstB      : Digest
  srcCust   : Digest
  dstCust   : Digest
  notBefore : Nat
  notAfter  : Nat
  rate      : Word32
  streams   : Byte
  geometry  : Byte
  count     : Word16
  scope     : List PairScope
deriving DecidableEq, Repr

/-- The body of a quorum act (19 R470): what QUORUM_BEGIN names. `bad opcode` is any opcode that is no quorum act. -/
inductive QAct where
  | setChange (k n : Byte) (keys : List Digest) (escrow : Option Digest)
  | timeAuth (key : Digest)
  | escrowImport (escrow : Digest) (wrapKey : BitVec 256) (unwraps : Bool)
  | custodyCertify (cert : CertBody)
  | tenantErase (tenant : Word16) (key : Digest)
  | fwStage (image : Digest)
  | debugUnlock (nonce : Digest)
  | ovlApply (r : OvlRec)
  | ovlRemove (cls : Byte)
  | baseLoad (b : BaseImage)
  | sanitiseStart
  | hitchOpen (p : PairingRec)
  | hitchClose (id : BitVec 128)
  | hitchAbort (id : BitVec 128)
  | uopRelease (cap : Capsule) (b : RelBody)
  | bad (opcode : Word16)
deriving DecidableEq, Repr

/-- Shelf Time as its fields travel (03 Table 3.1). -/
structure ShelfIn where
  frac : Word16
  ns   : Word32
  sec  : BitVec 48
deriving DecidableEq, Repr

/-- A debug unlock token (02 R60): its ceremony statement and its signers, whose signatures all verify or not. -/
structure DebugToken where
  statement : Digest
  nonce     : Digest
  expiry    : ShelfIn
  signers   : List Digest
  sigsOk    : Bool
deriving DecidableEq, Repr

/-- A ceremony statement as the signer of QUORUM_SIGN names it (02 R39): its digest, the key that signs and whether the
hybrid signature verifies. -/
structure QSign where
  statement : Digest
  key       : Digest
  sigOk     : Bool
deriving DecidableEq, Repr

/-- A keyed SGL data block: address, length and memory key of host memory (12 R329). -/
structure Sgl where
  addr : Word64
  len  : BitVec 24
  key  : Word32
deriving DecidableEq, Repr

/-- One NVMe command as its queue's context received it (04 R95): context of the queue, command identifier, NSID, the opcode byte and the FUSE
field of its capsule. A command whose opcode byte is not the one its name has in Table 4.1 is one of a kind that is not supported. -/
structure NvmeCmd where
  ctx  : Nat
  cid  : Nat
  nsid : Word32
  opcode : Byte
  fuse : BitVec 2
  sgl  : Option Sgl
deriving DecidableEq, Repr

/-- The protection information fields of one LBA (04 R101). -/
structure PiData where
  guard : Word64
  app   : Word16
  ref   : BitVec 48
deriving DecidableEq, Repr

/-- The PRINFO fields of a command (04 R102): PRACT, the three PRCHK bits and the expected tags. -/
structure PrInfo where
  pract    : Bool
  chkGuard : Bool
  chkApp   : Bool
  chkRef   : Bool
  app      : Word16
  appMask  : Word16
  ref      : BitVec 48
deriving DecidableEq, Repr

/-- The subsystem a Connect names (04 R92 to R94). -/
inductive SubNqn where
  | tenant (n : Nat)
  | discovery
  | other
deriving DecidableEq, Repr

/-- A Connect command (04 R93, R103, R104): the context it came on, its command identifier, SUBNQN, HOSTNQN and HOSTID, the controller and queue
it names, SQSIZE, KATO in ms, and whether it asks for submission queue flow control to be disabled. -/
structure ConnectIn where
  ctx      : Nat
  cid      : Nat
  subnqn   : SubNqn
  hostNqn  : Bytes
  hostId   : BitVec 128
  cntlid   : Word16
  qid      : Word16
  sqsize   : Word16
  kato     : Word32
  noSqFlow : Bool
deriving DecidableEq, Repr

/-- Namespace Management host data structure (04 R98): size, capacity, FLBAS, DPS, byte 3,072 and whether bytes 3,073 to
4,095 are zero. -/
structure NsCreate where
  nsze     : Word64
  ncap     : Word64
  flbas    : Byte
  dps      : Byte
  geom     : Byte
  tailZero : Bool
deriving DecidableEq, Repr

/-- Format NVM parameters (04 R114). -/
structure FormatParm where
  lbaf : BitVec 4
  mset : Bool
  pi   : BitVec 3
  pil  : Bool
  ses  : BitVec 3
deriving DecidableEq, Repr

/-- The firmware image whose last chunk FW_STAGE carries (02 R63, R64): its digest, SVN, vendor key and signature, its release as the
identity record gives it (19 Table 19.4), and the vendor keys it revokes. -/
structure FwImage where
  digest    : Digest
  svn       : Nat
  vendorKey : Digest
  sigOk     : Bool
  release   : BitVec 128
  revokes   : List Digest
deriving DecidableEq, Repr

/-- The grandmaster data set of a PTP Announce (03 R68, default best master selection). -/
structure AnnounceData where
  mac       : Nat
  /-- the transport it came by: 0 UDP over IPv4, 1 UDP over IPv6, 2 Ethernet -/
  transport : Nat
  domain    : Nat
  gm        : Word64
  priority1 : Nat
  cls       : Nat
  accuracy  : Nat
  variance  : Nat
  priority2 : Nat
  steps     : Nat
  logSync   : Int
  /-- logMessageInterval of the Announce, which announceReceiptTimeout counts -/
  logAnnounce : Int
deriving DecidableEq, Repr

/-- A custody stamp as a peer sends it (03 Table 3.4). -/
structure StampIn where
  sec   : Nat
  ns    : Nat
  flags : Nat
  count : Nat
deriving DecidableEq, Repr

/-- A lock as it crosses in a hitch (11 R291, 10 Table 10.8): 1 to 16 a hold, 0x80 a stopper. -/
structure LockIn where
  num    : Nat
  issuer : Nat
  expiry : Nat
  reason : Digest
deriving DecidableEq, Repr

/-- The Myavo header of a received message (11 Table 11.3): the session it came on, hitch, stream, sequence, OR of its RSV fields, and whether the
magic, version and type are known. -/
structure Myavo where
  ctx    : Nat
  id     : BitVec 128
  stream : Nat
  seq    : Nat
  rsv    : Word32
  known  : Bool
deriving DecidableEq, Repr

/-- What the receiver finds in a HELLO (11 R282). -/
structure HelloIn where
  identity   : Digest
  ceremonyOk : Bool
  custBody   : Digest
  certOk     : Bool
  custodyKey : Digest
  lanyard    : Digest
  stamp      : StampIn
deriving DecidableEq, Repr

/-- One scope entry of SCOPE (11 Table 11.4). -/
structure ScopeIn where
  coll    : Nat
  durable : Bool
  objects : Nat
  bytes   : Nat
  locks   : List LockIn
deriving DecidableEq, Repr

/-- OBJ_BEGIN body (11 Table 11.5). -/
structure ObjBegin where
  srcColl   : Nat
  dstColl   : Nat
  stream    : Nat
  srcMac    : Digest
  srcTime   : Nat
  srcSeq    : Nat
  srcStamp  : StampIn
  size      : Nat
  parts     : Nat
  name      : Bytes
  metadata  : Bytes
  sha2      : Digest
  sha3      : Digest
  excerpts  : Nat
  locks     : List LockIn
  srcF3     : Digest
  srcF2     : Digest
  srcPos    : Nat
deriving DecidableEq, Repr

/-- One manifest line's fields that the source can compare with what it sent (11 R293). -/
structure LineIn where
  srcColl : Nat
  dstColl : Nat
  result  : Nat
  srcMac  : Digest
  dstMac  : Digest
  size    : Nat
  dstF3   : Digest
  dstF2   : Digest
  dstPos  : Nat
  /-- its source fields: F3 and F2 under the source's salt, the source's Ingest position -/
  srcF3   : Digest
  srcF2   : Digest
  srcPos  : Nat
deriving DecidableEq, Repr

/-- The IP address and UDP port a datagram comes from or goes to (12 R308); an IPv4 address in the low 32 bits. -/
structure PeerAddr where
  addr : BitVec 128
  port : Word16
  eth  : BitVec 48
deriving DecidableEq, Repr

/-- The keys of a session (12 R324, Table 12.5): whether this module is the initiator, the traffic keys it sends and receives under, the
receive key before (R327), the child secret, and for service 5 the ESP key with its salt each way and the inbound one before (R333). A
256-bit key stands in the low half. -/
structure SessionKeys where
  initiator : Bool
  tx        : BitVec 512
  rx        : BitVec 512
  prevRx    : Option (BitVec 512)
  child     : BitVec 512
  espTx     : BitVec 512
  espRx     : BitVec 512
  prevEspRx : Option (BitVec 512)
deriving DecidableEq, Repr

/-- A received Bryndle DATA packet (12 Table 12.2), with whether its header is well formed and its tag passes. -/
structure DataPkt where
  ctx      : Nat
  gen      : Nat
  headerOk : Bool
  rsv      : Word32
  tagOk    : Bool
  id       : Nat
  seq      : Nat
  opcode   : Nat
  index    : Nat
  count    : Nat
  length   : Nat
  key      : Word32
  addr     : Word64
  imm      : Word32
  phase    : Bool
  ackNow   : Bool
  ce       : Bool
  mac      : Nat
  src      : PeerAddr
  data     : Bytes
deriving DecidableEq, Repr

/-- A received Bryndle control packet other than DATA (12 Table 12.3): context, generation, whether header and tag pass,
its control counter. -/
structure CtlPkt where
  ctx      : Nat
  gen      : Nat
  mac      : Nat
  src      : PeerAddr
  headerOk : Bool
  tagOk    : Bool
  counter  : Nat
deriving DecidableEq, Repr

/-- SETUP_INIT (12 Table 12.4), with where it comes from and its destination UDP port: X25519 public key, ML-KEM-1024 encapsulation key. -/
structure InitMsg where
  src     : PeerAddr
  udp     : Word16
  version : Nat
  service : Nat
  sizes   : BitVec 3
  suite   : Nat
  ictx    : Nat
  rsv     : Word64
  nonce   : Digest
  dh      : Digest
  kem     : Nat
  mac     : Nat
deriving DecidableEq, Repr

/-- SETUP_RESP (12 Table 12.4): the initiator context it answers, and whether its certificate chain and signature are good. -/
structure RespMsg where
  handle  : Nat
  status  : Nat
  payload : Nat
  setup   : Nat
  nonce   : Digest
  dh      : Digest
  ct      : Nat
  chain   : Bytes
  sig     : Nat
  sigOk   : Bool
deriving DecidableEq, Repr

/-- SETUP_AUTH (12 Table 12.4): the kind, the key digest, the grant record of kind 2 and what the signatures prove. -/
structure AuthMsg where
  handle    : Nat
  kind      : Nat
  key       : Digest
  grant     : Option GrantRec
  sig       : Nat
  sigOk     : Bool
  grantSig  : Nat
  grantOk   : Bool
  timestamp : Nat
  depth     : Nat
deriving DecidableEq, Repr

/-- A received RoCE v2 packet (12 R331, R332). -/
structure RocePkt where
  esp    : Bool
  spi    : Nat
  /-- its extended sequence number (12 R332) -/
  espSeq : Nat
  icvOk  : Bool
  qp     : Nat
  psn    : Nat
  opcode : Nat
  first  : Bool
  last   : Bool
  key    : Word32
  addr   : Word64
  length : Nat
  imm    : Word32
  ce     : Bool
  mac    : Nat
  data   : Bytes
deriving DecidableEq, Repr

/-- A received frame (14 R359): MAC, length, FCS, destination address, EtherType, tags, and the packet it carries. -/
structure FrameIn where
  mac     : Nat
  length  : Nat
  fcsOk   : Bool
  dst     : BitVec 48
  etype   : Word16
  tags    : Nat
  pcp     : Nat
  vlan    : Nat
  output  : Nat
  ipFragmentOrOptions : Bool
  patterns : BitVec 8
  setupInit : Bool
  magic   : Bool
  tenant  : Option Nat
deriving DecidableEq, Repr

/-- What the SPDM handshake of the pair link finds in the other module (18 R444). -/
structure PeerIn where
  sameProduct  : Bool
  sameStepping : Bool
  sameRelease  : Bool
  sameProtocol : Bool
  unlocked     : Bool
  certOk       : Bool
  digest       : Digest
  /-- the other module serves a formed shelf: single-controller, pair-mode or none -/
  serving      : Bool
  /-- the session key of the link, and the shelf wrapping key received under it, where the other module holds one (02 R44) -/
  session      : BitVec 256
  shelfKey     : Option (BitVec 256)
deriving DecidableEq, Repr

/-- An escrow wrap as a bank record carries it: the ephemeral public key, the ciphertext, the wrapped key (02 R45; 10 R279). -/
structure EscrowIn where
  ephemeral : Nat
  ct        : Nat
  wrapped   : Nat
deriving DecidableEq, Repr

/-- A record of the banks that a bank change carries over the pair link (10 R264, R266): the custodian set with its escrow key, a
tenant with its root key as unwrapped from its record and its escrow wrap, a collection with its locks, a namespace with its format salt, or one
of them that is gone. -/
inductive BankRec where
  | custodians (k : Nat) (keys : List Digest) (escrow : Option Digest)
  | tenant (num epoch : Nat) (key : Digest) (quota : QuotaRec) (root : BitVec 256) (escrow : Option EscrowIn)
  | tenantGone (num : Nat)
  | coll (num tenant geometry : Nat) (durable : Bool) (shard : Nat) (locks : List LockIn)
  | collGone (num : Nat)
  | ns (num nsid tenant ncap : Nat) (format1 : Bool) (piType : Nat) (piFirst : Bool) (geometry shard : Nat) (salt : Digest)
  | nsGone (num : Nat)
deriving DecidableEq, Repr

/-- A manifest line (11 Table 11.7). -/
structure ManifestLine where
  srcColl : Nat
  dstColl : Nat
  result  : Nat
  srcMac  : Digest
  dstMac  : Digest
  size    : Nat
  srcF3   : Digest
  srcF2   : Digest
  dstF3   : Digest
  dstF2   : Digest
  srcPos  : Nat
  dstPos  : Nat
deriving DecidableEq, Repr

/-- A batch of one tenant (11 R293). -/
structure HBatch where
  tenant    : Nat
  number    : Nat
  lines     : List ManifestLine
  closed    : Bool
  receipted : Bool
  acked     : Bool
  /-- rows of its objects' parts that were written directly -/
  rows      : List (Nat × Nat)
deriving DecidableEq, Repr

/-- What both modules of a shelf keep of a hitch in their vaults: its record and state, the cursors, the batch counters, the last sequences (11
R298). `session` says that the sender holds the Myavo session; a state is numbered in the order of 11 Table 11.2, a stamp is time and order. -/
structure HitchVault where
  record    : PairingRec
  source    : Bool
  state     : Nat
  session   : Bool
  sent      : Nat
  received  : Nat
  collMap   : List (Nat × Nat)
  pass      : Nat
  cuts      : List (Nat × Nat × Nat)
  todo      : List (Nat × Digest)
  batches   : List HBatch
  chains    : List (Nat × Digest)
  delivered : List (Nat × Digest × Digest × Nat × Nat)
  retry     : List (Nat × Digest)
  retried   : List (Nat × Digest)
  owed      : List (Nat × Flds)
  closing   : Bool
  final     : Bool
  peerKey   : Option Digest
  peerLanyard : Digest
  statement : Flds
  signers   : List Digest
deriving DecidableEq, Repr

/-- A session or queue-pair context of the partner (12 R328): its number, generation, principal, service (16 and 17 for an NVMe and a UOP
queue pair), the session whose SA carries a queue pair, queue depth, MAC, payload, whether it is open, its peer's context and address, its key phases, keys and SPIs. -/
structure CtxIn where
  num     : Nat
  gen     : Nat
  who     : Principal
  service : Nat
  parent  : Nat
  depth   : Nat
  mac     : Nat
  payload : Nat
  alive   : Bool
  peer    : Nat
  src     : PeerAddr
  txPhase : Nat
  rxPhase : Nat
  keys    : SessionKeys
  spiIn   : Nat
  spiOut  : Nat
deriving DecidableEq, Repr

/-- A state-class message of the pair link (18 Table 18.1). -/
inductive PairState where
  | memberState (slot state : Nat)
  | context (c : CtxIn)
  | segmentGrant (first count : Nat)
  | segmentAsk
  /-- bank content of a generation: being written or held by every bank, and the records that change -/
  | bank (generation : Nat) (held : Bool) (recs : List BankRec)
  | rootTable (shard part root gen coveredTime coveredSeq : Nat)
  /-- a recorded phase: 1 of a format of a namespace, 2 of a tenant's erasure, 3 of a shelf-wide sanitise, with the statement, body and
  signers of the act that runs it -/
  | phase (kind num phase : Nat) (statement body : Digest) (signers : List Digest)
  | ceremonyOpen (id : Digest) (act : QAct) (stampTime stampSeq expiry : Nat) (nonce : Digest)
  /-- a signature that the module holding the ceremony has counted, or, at that module, one that the other forwards to it -/
  | ceremonySigner (id key : Digest)
  /-- the answer to a signature this module forwarded: a status and the response's payload -/
  | ceremonyAnswer (id key : Digest) (status : Nat) (body : List (Nat × Nat))
  | ceremonyClosed (id : Digest)
  | overlay (r : OvlRec)
  /-- an overlay of a class removed, for QUIET that of a tenant; a base image accepted (20 R488) -/
  | overlayGone (cls tenant : Nat)
  | baseImage (b : BaseImage)
  | yield
  /-- an enable change of a slot; the state and latch kind of the partner's channel of a slot; a latch cleared (21 R506, R507) -/
  | slotEnable (slot : Nat) (on : Bool)
  | channel (slot code kind : Nat) (pg : Bool)
  | latchClear (slot : Nat)
  /-- the partner's steps 1 and 2 of a drive power-down are complete, or it takes that back (22 R519) -/
  | drivesQuiet (on : Bool)
  /-- the state of a hitch (11 R298, R299); its last sequences; what a target is to be told of a lock (some) or a deletion (none) that this
  module's partner performed on what has crossed, with the object's seal stamp (11 R281, R291, R292) -/
  | hitch (v : HitchVault)
  | hitchSeq (id : BitVec 128) (sent received : Nat)
  | hitchNotice (id : BitVec 128) (coll : Nat) (mac : Option Digest) (lock : Option LockIn) (stampTime stampSeq : Nat)
deriving DecidableEq, Repr

/-- A hot-swap channel (21 R497): the input channel or the channel of a slot. -/
inductive ChanId where
  | input
  | slot (n : Fin 24)
deriving DecidableEq, Repr

/-- What one scrub visit finds (08 R234, R235): of a row, the roles whose strips cannot be read, those that fail their CRC or
parity check, and whether the stripe header is valid; of a splice-log ring copy of a member, whether it is valid; of a member's
descriptor region, whether it agrees with the majority. -/
inductive ScrubFound where
  | row (unreadable bad : List Nat) (headerOk : Bool)
  | ringCopy (slot : Fin 24) (shard seq : Nat) (valid : Bool)
  | descriptor (slot : Fin 24) (agrees : Bool)
deriving DecidableEq, Repr

/-- What the check of one whole row gives (08 R235, R557): it passes; a trial over whole strips names bad strips; no trial repairs it. -/
inductive RowCheck where
  | passes
  | repaired (bad : List Nat)
  | fails
deriving DecidableEq, Repr

/-- What the checks of the range that a read serves give (08 R218, R557): they pass, or none applies; the trial names bad strips, each a segment,
a row and a role; or no trial passes, and each row of the range, first unit first, is read whole and checked alone. -/
inductive ReadChecks where
  | whole
  | trial (bad : List (Nat × Nat × Nat))
  /-- the Sanitize Status log page of a drive: SPROG and the status of SSTAT (04 R118) -/
  | sanitize (sprog sstat : Nat)
  | rows (l : List (Nat × Nat × RowCheck))
deriving DecidableEq, Repr

/-- What a walk finds in the leaf it reaches (06 R154, R171): a page whose tag is right, and whose inline record's tag is right where the
entry has one; a page that fails its tag; a page that stands and an inline record that fails its own tag. -/
inductive WalkFound where
  | whole
  | page
  | inline_
deriving DecidableEq, Repr

/-- The three tests of a pass device (21 R504). -/
inductive DamageTest where
  | gateDoesNotRise
  | staysOpen
  | conductsWhenOff
deriving DecidableEq, Repr

/-- What a start-up phase finds when it ends (24 Table 24.1): whether it succeeded, the SVN of the image of P2, the usable
hold-up capacity measured in P4 in joules, whether P4 finds a valid belay image, whether the module sits at position B,
whether P9 holds the shelf wrapping key, and the mask of slots whose drive is
present. -/
structure PhaseIn where
  ok       : Bool
  svn      : Nat
  capacity : Nat
  image    : Bool
  posB     : Bool
  keyHeld  : Bool
  present  : Word32
deriving DecidableEq, Repr

/-- What discovery finds in a drive once its link is up (17 Table 17.2): function 0 is NVM Express with a memory BAR0, CSTS.RDY
is set in time, version and features of D4, two ports and a shared namespace, namespace 1 offers the LBA format and has it in use, its LBAs,
the I/O queue pairs it allows and the entries of each, the longest transfer in LBAs of 4,096 bytes (0: no limit), CAP.TO. -/
structure DriveFound where
  nvme     : Bool
  ready    : Bool
  features : Bool
  dualPort : Bool
  format   : Bool
  inUse    : Bool
  lbas     : Nat
  queues   : Nat
  depth    : Nat
  mdts     : Nat
  capTo    : Nat
deriving DecidableEq, Repr

/-- A command of the module: a message it receives, a timer or event of one of its engines, or an edge of one of its pins
(the rows of spec/opcode_table.json). -/
inductive Instr where
  -- Block service (04)
  | connect (c : ConnectIn)
  | disconnect (c : NvmeCmd) (controller : Bool)
  | propertyGet (c : NvmeCmd) (ofst : Word32)
  | propertySet (c : NvmeCmd) (ofst : Word32) (value : Word64)
  | getLogPage (c : NvmeCmd) (lid : Byte)
  | identify (c : NvmeCmd) (cns csi : Byte)
  | abort (c : NvmeCmd) (sqCtx cid : Nat)
  | setFeatures (c : NvmeCmd) (fid : Byte) (save : Bool) (value : Word32)
  | getFeatures (c : NvmeCmd) (fid : Byte)
  | asynchronousEventRequest (c : NvmeCmd)
  | namespaceCreate (c : NvmeCmd) (d : NsCreate)
  | namespaceDelete (c : NvmeCmd)
  | keepAlive (c : NvmeCmd)
  | keepAliveExpiry (controller : Nat)
  | formatNvm (c : NvmeCmd) (f : FormatParm)
  | sanitize (c : NvmeCmd) (action : BitVec 3) (ause : Bool)
  | flush (c : NvmeCmd)
  | nvmeWrite (c : NvmeCmd) (slba : Word64) (nlb : Word16) (fua : Bool) (pr : PrInfo) (data : Bytes) (pi : List PiData)
  | nvmeRead (c : NvmeCmd) (slba : Word64) (nlb : Word16) (pr : PrInfo)
  | prefetchExpiry (ctx : Nat)
  | compare (c : NvmeCmd) (slba : Word64) (nlb : Word16) (pr : PrInfo) (data : Bytes) (pi : List PiData)
  | writeZeroes (c : NvmeCmd) (slba : Word64) (nlb : Word16)
  | datasetManagement (c : NvmeCmd) (deallocate : Bool) (ranges : List (Word64 × Word32))
  | nvmeVerify (c : NvmeCmd) (slba : Word64) (nlb : Word16) (pr : PrInfo)
  | reservationRegister (c : NvmeCmd) (action : BitVec 3) (ignoreKey : Bool) (cptpl : BitVec 2) (crkey nrkey : Word64)
  | reservationReport (c : NvmeCmd)
  | reservationAcquire (c : NvmeCmd) (action : BitVec 3) (ignoreKey : Bool) (rtype : Byte) (crkey prkey : Word64)
  | reservationRelease (c : NvmeCmd) (action : BitVec 3) (ignoreKey : Bool) (rtype : Byte) (crkey : Word64)
  | admitCommand
  | notVisibleRelease (id : Nat)
  | completionRelease (id : Nat)
  -- Object service (05)
  | put (q : Nat) (cap : Capsule) (b : PutBody)
  | putPart (q : Nat) (cap : Capsule) (b : PartBody)
  | putAbort (q : Nat) (cap : Capsule)
  | sealObject (q : Nat) (cap : Capsule) (b : SealBody)
  | get (q : Nat) (cap : Capsule) (b : GetBody)
  | head (q : Nat) (cap : Capsule)
  | list (q : Nat) (cap : Capsule) (b : ListBody)
  | delete (q : Nat) (cap : Capsule)
  | copy (q : Nat) (cap : Capsule) (b : CopyBody)
  | hold (q : Nat) (cap : Capsule) (b : LockBody)
  | release (q : Nat) (cap : Capsule) (b : RelBody)
  | stopper (q : Nat) (cap : Capsule) (b : LockBody)
  | verify (q : Nat) (cap : Capsule)
  | collCreate (q : Nat) (cap : Capsule) (b : CollBody)
  | collDelete (q : Nat) (cap : Capsule)
  | openIdleExpiry (handle : Word64)
  | lockSweep
  -- Fixity, receipts and the lanyard (09)
  | receiptBatchClose (tenant : Nat)
  | receiptBatchSigned (tenant : Nat)
  | lanyardCheckpoint
  | lanyardRead (c : Call) (id : Digest) (chain : Word16) (first : Word64) (count : Word32)
  | lanyardProof (c : Call) (id : Digest) (chain : Word16) (number : Word64)
  | lanyardExport (c : Call) (id : Digest) (cursor : Word64)
  | receiptRead (c : Call) (id : Digest) (chain : Word16) (pos : Word64)
  | fixityDisclose (c : Call) (coll : Word16) (mac : Digest)
  | custodyCertify (c : Call) (via : Via) (cert : CertBody)
  -- Mailboxes and the command catalogue (19), authority (02), time (03), overlays (20), events (23)
  | mailboxDoorbell (mbx tag : Nat) (endpoint : Bool) (opcode : Word16) (entries length : Nat) (sequenceOk : Bool) (tail : Nat)
  | responseHeadWrite (mbx : Nat) (head : Nat)
  | mailboxIdleTimeout (mbx : Nat)
  | mbxChallenge (mbx tag : Nat) (rsv : Word64)
  | mbxOpen (mbx tag : Nat) (rsv : Word64) (kind : Byte) (key : Digest) (grant : Option GrantRec) (sigOk : Bool)
  | mbxClose (c : Call)
  | identityGet (c : Call)
  | paramGet (c : Call) (addr : Word32) (count : Word16)
  | paramSet (c : Call) (count : Word16) (entries : List ParamWrite)
  | tsStatusClear (c : Call)
  | quorumBegin (c : Call) (act : QAct)
  | quorumSign (c : Call) (q : QSign)
  | quorumStatus (c : Call)
  | ceremonyExpiry (statement : Digest)
  | custodianSetChange (c : Call) (via : Via) (k n : Byte) (keys : List Digest) (escrow : Option Digest)
  | timeAuthEnrol (c : Call) (via : Via) (key : Digest)
  | escrowImport (c : Call) (via : Via) (escrow : Digest) (wrapKey : BitVec 256) (unwraps : Bool)
  | tenantCreate (c : Call) (key : Digest) (quota : Option QuotaRec)
  | tenantQuotaSet (c : Call) (tenant : Word16) (quota : QuotaRec)
  | tenantErase (c : Call) (via : Via) (tenant : Word16) (key : Digest)
  | grantIssue (c : Call) (g : GrantRec) (grantSigOk : Bool)
  | grantRevoke (c : Call) (holder : Digest) (serial : Word64)
  | timeChallenge (c : Call)
  | timeBeacon (c : Call) (b : Beacon) (beaconSigOk : Bool)
  | anchorAged
  | custodyPersist
  | fwStage (c : Call) (offset length : Word64) (chunk : Bytes) (image : FwImage)
  | fwCommit (c : Call) (svn : Byte)
  | debugChallenge (c : Call)
  | debugUnlock (c : Call) (t : DebugToken)
  | ovlApply (c : Call) (via : Via) (r : OvlRec)
  | ovlRemove (c : Call) (via : Via) (cls : Byte)
  | baseLoad (c : Call) (via : Via) (b : BaseImage)
  | rebuildSafeExpiry
  | slotPower (c : Call) (slot action : Byte)
  | sanitiseStart (c : Call) (via : Via)
  | sanitiseStatus (c : Call)
  | uopRelay (c : Call) (cap : Capsule) (b : RelayBody)
  | uopRelease (c : Call) (via : Via) (cap : Capsule) (b : RelBody)
  | evtRead (c : Call) (ack : Word32) (maxRec : Word16) (mask : Word16)
  | pldmEventResponse (ok : Bool)
  | pldmEventTimeout
  | setEventReceiver (eid : Option Nat)
  | getVersion
  | getCapabilities
  | negotiateAlgorithms (offersP384 offersSha384 : Bool)
  | getDigests
  | getCertificate (slot : Byte) (offset length : Word16)
  | challenge (slot : Byte) (nonce : Digest)
  | getMeasurements (index : Byte) (signed : Bool) (nonce : Digest)
  | ptpAnnounce (a : AnnounceData)
  | ptpSync (mac transport : Nat) (gm : Word64) (offset : Int) (logSync : Int)
  | delayResp (mac transport : Nat) (gm : Word64) (delay : Int)
  | delayReqSend
  | announceReceiptTimeout
  | ptpLockAchieved
  | holdoverLimit
  | ppsEdge (rising : Bool) (offset : Int)
  | ref10mQualified (ppb : Int)
  | ref10mLoss
  -- The object index (06)
  | indexWalkComplete (id : Nat) (found : WalkFound)
  | deltaFlushAge (shard part : Nat)
  | indexFlushCommit (shard part : Nat)
  | subtreeRebuildComplete (shard part : Nat)
  -- The log, stripes and the splice log (07)
  | stripeCloseDelay (shard d : Nat) (reloc : Bool)
  | driveCompletion (slot : Fin 24) (queue tag sct sc : Nat) (checks : ReadChecks)
  | logCheckpoint (shard : Nat)
  | relocationSelect
  | segmentFree (seg : Nat)
  | belayDriveAbandon
  | belayStop
  | rmwUpdate (seg row strip first : Nat) (data : Bytes)
  | rmwRetire (seg row : Nat)
  -- Members, rebuild and scrub (08)
  | strikeExpiry (slot : Fin 24)
  | driveCriticalWarning (slot : Fin 24) (bits : Byte) (cfs : Bool)
  | memberFail (c : Call) (slot : Byte) (flags : Byte)
  | hedgeTimeout (slot : Fin 24) (tag : Nat)
  | rebuildRow
  | driveInsert (slot : Fin 24) (lbas : Nat) (dualPort ours checksOk cryptoErase blockErase : Bool) (nguid : BitVec 128) (serial : BitVec 160)
  | restoreRow (slot : Fin 24)
  | scrubRow (f : ScrubFound)
  | scrubPassEnd
  | scrubStart (c : Call)
  | lossReportRead (c : Call) (cursor : Word64) (count : Word32)
  -- Shelf-to-shelf migration (11)
  | hitchOpen (c : Call) (via : Via) (p : PairingRec)
  | hitchClose (c : Call) (via : Via) (id : BitVec 128)
  | hitchAbort (c : Call) (via : Via) (id : BitVec 128)
  | hitchStatus (c : Call) (id : BitVec 128)
  | hello (m : Myavo) (h : HelloIn)
  | scope (m : Myavo) (entries : List ScopeIn)
  | collMap (m : Myavo) (entries : List (Nat × Nat × Word16))
  | resume (m : Myavo) (tenants : List (Nat × Nat))
  | myavoHeartbeat (m : Myavo) (stamp : StampIn)
  | myavoHeartbeatSend (id : BitVec 128)
  | hitchSilenceTimeout (id : BitVec 128)
  | hitchSetupRetry (id : BitVec 128)
  | hitchNotAfter (id : BitVec 128)
  | hitchPassStart (id : BitVec 128)
  | objBegin (m : Myavo) (b : ObjBegin)
  | objData (m : Myavo) (slot part : Nat) (lastPart lastObj : Bool) (offset : Nat) (data : Bytes)
  | objAbort (m : Myavo) (cause : Nat)
  | excerpt (m : Myavo) (chain position : Nat) (entry : Bytes)
  | checkpoint (m : Myavo) (bytes : Bytes)
  | credit (m : Myavo) (stream slots : Nat)
  | batchClose (m : Myavo) (tenant number objects : Nat)
  | batchReceipt (m : Myavo) (tenant number : Nat) (lines : List LineIn) (receiptOk : Bool) (leaf : Digest)
  | batchAck (m : Myavo) (tenant number : Nat)
  | lockUpdate (m : Myavo) (srcColl : Nat) (srcMac : Option Digest) (lock : LockIn)
  | deleteNotice (m : Myavo) (srcColl : Nat) (srcMac : Digest)
  | passEnd (m : Myavo) (pass objects : Nat)
  | complete (m : Myavo) (receipts : List (Nat × Bool × Digest))
  -- Bryndle and queue-pair transports (12)
  | setupInit (m : InitMsg)
  | setupResp (r : RespMsg)
  | setupAuth (m : AuthMsg)
  | setupDone (handle status ctx : Nat)
  | setupChild (parent service ictx : Nat) (nonce : Digest) (timestamp depth : Nat)
  | setupChildDone (parent status ctx : Nat) (nonce : Digest) (spiIn spiOut : Nat)
  | setupTimeout (handle : Nat)
  | dataPacket (p : DataPkt)
  | send (ctx seq : Nat)
  | write (ctx seq : Nat)
  | writeImm (ctx seq : Nat)
  | readReq (ctx seq : Nat)
  | readResp (ctx seq : Nat)
  | ack (p : CtlPkt) (through : Nat) (bitmap : BitVec 256) (ceMarks : Nat)
  | nak (p : CtlPkt) (seq : Nat) (ranges : List (Nat × Nat))
  | statusReq (p : CtlPkt) (seq : Nat)
  | status (p : CtlPkt) (through : Nat) (bitmap : BitVec 256) (asked : Nat)
  | close (p : CtlPkt) (code : Word16)
  | contextFetchComplete (ctx : Nat)
  | contextEvict
  | seenEntryExpiry (ctx id : Nat)
  | reassemblyExpiry (ctx seq : Nat)
  | ackDelayTimer (ctx : Nat)
  | nakDelayTimer (ctx seq : Nat)
  | retransmitTimeout (ctx : Nat)
  | messageAgeTimeout (ctx seq : Nat)
  | deadTimeExpiry (ctx : Nat)
  | keyPhaseChange (ctx : Nat)
  | oldKeyExpiry (ctx : Nat)
  | saRekey (ctx : Nat)
  | oldSaExpiry (ctx : Nat)
  | rocePacket (p : RocePkt)
  | rdmaCm (parent : Nat) (uop : Bool) (depth : Nat)
  | roceAckTimeout (ctx : Nat)
  | cnp (ctx : Nat)
  | ccRecoverTimer (ctx : Nat)
  -- Memory regions and triggered work (13)
  | regionRefusalTimeout (ctx seq : Nat)
  | pushAbandonTimeout (owner : Nat)
  | regionDrained (owner : Nat)
  | workRequestComplete (entry : Nat) (status : Status)
  | exceptionService (action : Nat)
  -- Network ports (14)
  | frameReceive (f : FrameIn)
  | arpRequest (mac : Nat) (v6 : Bool) (target : BitVec 128) (from_ : Nat)
  | icmpEcho (mac : Nat) (v6 : Bool) (from_ : Nat) (data : Bytes)
  | linkUp (mac : Nat)
  | linkDown (mac : Nat)
  | pauseFrame (mac : Nat) (pfc : Bool) (prios : List (Nat × Nat))
  | pauseExpiry (mac prio : Nat)
  | pauseWatchdogTrip (mac prio : Nat)
  | pauseIgnoreEnd (mac prio : Nat)
  | xoffRefresh (mac cls : Nat)
  | opticInsert (port media cls : Nat)
  | neighbourRefresh (mac tenant : Nat)
  | frameTransmitComplete (mac : Nat)
  | macPortModeWrite (c : Call) (port mode : Nat)
  | macPortRestart (c : Call) (port : Nat)
  -- Policing, shaping and fair queueing (15)
  | tokenRefill
  | shareWindowEnd (slot : Fin 24)
  | quietPeriodStart (tenant : Nat)
  | flowWeightSet (c : Call) (dflt : Byte) (entries : List (Byte × Word16 × Byte))
  | tenantStats (c : Call)
  -- The hold and the mover (16)
  | coilCountVisit (cell : Nat)
  | coilPassEnd
  | moverBurstComplete (channel : Nat)
  | movAbort (c : Call) (channels : Word64)
  | moverFault (channel : Nat) (ecc : Bool)
  -- Drive ports and the service endpoint (17)
  | discoveryStepTimeout (slot : Fin 24)
  | driveMemoryRequest (slot : Fin 24) (addr len : Nat) (isWrite relaxed : Bool)
  | windowCommit (slot : Fin 24)
  | windowDrainEnd (slot : Fin 24)
  | driveTimeout (slot : Fin 24) (tag : Nat)
  | tagQuarantineEnd (slot : Fin 24) (tag : Nat)
  | configReadTimeout (slot : Fin 24) (num : Nat)
  | driveLinkDown (slot : Fin 24) (containment : Bool)
  | perstPulseEnd (slot : Fin 24)
  | driveLinkDownTimeout (slot : Fin 24)
  | slotReset (c : Call) (slot : Nat)
  | sepCtrlWrite (c : Call) (enable : Bool)
  | sepMbxMapWrite (c : Call) (map : Word64)
  | sepReset
  | busMasterEnable (on : Bool)
  | driveLinkUp (slot : Fin 24) (rate width : Nat) (d : DriveFound)
  | sepLinkUp (rate width : Nat)
  -- The module pair and the tether chain (18)
  | pairLinkUp (peer : PeerIn)
  | pairLinkDown
  | pairLaneFail
  | mirrorRecord (num kind shard seq time sub bytes ctx tag addr : Nat) (data : Bytes) (capsule : Instr)
  | mirrorAck (num room : Nat)
  | pairStateMessage (m : PairState)
  | pairTimeMessage (offset : Int) (mode : Fin 4)
  | forwardedCommand (num : Nat) (capsule : Instr)
  | forwardReply (num : Nat) (status : Status) (stampTime stampSeq : Nat) (extents : List (Nat × Nat)) (data : Bytes)
  | pairHeartbeatSend
  | pairHeartbeat (tether ack : Bool) (ackStamp power : Nat)
  | pairHeartbeatMiss
  | dyingMessage
  | leaseLapse
  | fenceDeferExpiry
  | tetherYield
  | takeover
  | pairRejoin
  | shardHandover (shard : Nat) (stampTime stampSeq : Nat)
  | pairHomeWrite (c : Call) (low high : Word32)
  | pairCtrlHandover (c : Call)
  | tetherHopUp (down : Bool) (authOk : Bool)
  | tetherHopDown (down cable : Bool)
  | reeve (addr : Nat)
  | reeveDone (total : Nat)
  | reeveStart (c : Call)
  | tetherHeartbeat (source seq : Nat) (fromDown : Bool) (addr : Nat) (shelf : Word64) (digest : Digest) (role hops : Nat)
  | tetherHeartbeatSend
  | tetherMemberTimeout (addr : Nat)
  | tetherMailbox (source dest seq hops : Nat) (fromDown : Bool) (ctx length : Nat)
  | discover (source seq hops : Nat) (fromDown : Bool) (ends : List (BitVec 128 × BitVec 128 × Nat))
  -- Power entry and slot feeds (21)
  | supplyBandWindow (meanMv meanMa holdupJ : Nat)
  | keepSafeExit
  | channelWindowChange (ch : ChanId) (mv : Nat)
  | slotPresenceChange (slot : Fin 24) (present : Bool)
  | insertDelayExpiry (ch : ChanId)
  | staggerTurn (slot : Fin 24)
  | prechargeDone (ch : ChanId) (outMv : Nat)
  | prechargeTimeout (ch : ChanId)
  | rampDone (ch : ChanId) (outMv : Nat) (gateFull : Bool)
  | rampFaultTimeout (ch : ChanId)
  | currentLimitReached (ch : ChanId) (ma : Nat)
  | limitRelease (ch : ChanId) (belowUs : Nat)
  | faultTimerExpiry (ch : ChanId)
  | pgQualified (ch : ChanId) (heldUs : Nat)
  | pgLoss (ch : ChanId) (outMv : Nat)
  | retryWaitEnd (ch : ChanId)
  | failureCountClear (ch : ChanId)
  | deviceDamage (ch : ChanId) (test : DamageTest) (heldUs : Nat)
  | slotChCtrl (c : Call) (slot : Nat) (value : Word32)
  | inputLatchClear (belowUs : Nat) (withdrawn : Bool)
  | belayQualification
  | rideThrough (mv : Nat)
  -- Power states (22)
  | drowseIdleExpiry
  | dormantIdleExpiry
  | entryStepComplete
  | domainWake (domain : Nat)
  | domainIdleExpiry (domain : Nat)
  | driveIdleTimeout
  | driveShutdownTimeout (slot : Fin 24)
  | driveShutdownComplete (slot : Fin 24)
  | dormantWindowStart
  | dormantWindowEnd
  | dormantTimerWake
  -- Start-up (24)
  | powerOn (mv : Nat)
  | startupPhaseEnd (phase : Nat) (r : PhaseIn)
  | startupBudgetExpiry (phase : Nat)
  | lockWaitExpiry
deriving DecidableEq, Repr

end Sys2Proof
end

