-- ==== Sys2Proof/Decode.lean ====
section
/-!
DEFINITION. Decoding table words. The module is modelled as a block: no row of spec/opcode_table.json gives a command bits,
so no word spells one.
-/
namespace Sys2Proof

/-- The command a word spells by the table's bits: none, since no row gives bits. -/
def decodeTableWord (_nbits _w : Nat) : Option Instr := none

end Sys2Proof
end

