-- ==== Sys2Proof/Machine/Bytes.lean ====
section
/-!
DEFINITION. Byte order and rounding helpers (00_scope R7, R9): little-endian fields and padding.
-/
namespace Sys2Proof

/-- The `n` bytes of a value, least significant first (R9). -/
def leBytes : Nat → Nat → Bytes
  | 0, _ => []
  | n + 1, v => BitVec.ofNat 8 v :: leBytes n (v / 256)

/-- The bytes of a structure (R9). -/
def encodeFlds : Flds → Bytes
  | [] => []
  | (n, v) :: fs => leBytes n v ++ encodeFlds fs

/-- The size of a structure in bytes. -/
def sizeFlds : Flds → Nat
  | [] => 0
  | (n, _) :: fs => n + sizeFlds fs

/-- The value of bytes read least significant first (R9). -/
def leValue : Bytes → Nat
  | [] => 0
  | b :: bs => b.toNat + 256 * leValue bs

/-- Zero bytes that bring `len` to a multiple of `m`. -/
def padTo (m len : Nat) : Nat := (m - len % m) % m

/-- The quotient of two naturals, rounded up. -/
def ceilDiv (a b : Nat) : Nat := (a + b - 1) / b

/-- The first slot boundary at or after `t`, for slots of `w` ticks. -/
def roundUp (t w : Nat) : Nat := ceilDiv t w * w

/-- The ASCII bytes of a text. -/
def ascii (s : String) : Bytes := s.toList.map (fun c => BitVec.ofNat 8 c.toNat)

/-- The ASCII bytes of a text, space-padded to `n` bytes (Tables 4.2 and 19.4). -/
def asciiPad (n : Nat) (s : String) : Bytes :=
  (ascii s ++ List.replicate n 0x20).take n

end Sys2Proof
end

