-- ==== Sys2Proof/Machine/Codec.lean ====
section
/-!
DEFINITION. The check values and codes the spec gives in full: the CRC-64 of 07 R179 and 10 (polynomial 0xAD93D23594C93659),
the CRC-32 of the group hash (14 R363), and Reed-Solomon over GF(2^8) (07 R188 to R190).
-/
namespace Sys2Proof
namespace Machine

/-! ## CRC -/

/-- Bit reversal of `n` bits. -/
def revBits : Nat → Nat → Nat
  | 0, _ => 0
  | n + 1, v => v % 2 * 2 ^ n + revBits n (v / 2)

/-- One step of a reflected CRC: shift right and add the reflected polynomial when a one leaves. -/
def crcStep (poly c : Nat) : Nat := if c % 2 = 1 then Nat.xor (c / 2) poly else c / 2

/-- `n` steps. -/
def crcSteps (poly : Nat) : Nat → Nat → Nat
  | 0, c => c
  | n + 1, c => crcSteps poly n (crcStep poly c)

/-- A reflected CRC over bytes with a given register. -/
def crcBytes (poly : Nat) : Nat → Bytes → Nat
  | c, [] => c
  | c, b :: bs => crcBytes poly (crcSteps poly 8 (Nat.xor c b.toNat)) bs

/-- The CRC-64 of the 64-bit guard: reflected, register and final exclusive OR all ones (07 R179; 10, the check values). -/
def crc64 (bs : Bytes) : Word64 :=
  BitVec.ofNat 64 (Nat.xor (crcBytes (revBits 64 0xAD93D23594C93659) 0xFFFFFFFFFFFFFFFF bs) 0xFFFFFFFFFFFFFFFF)

/-- The IEEE 802.3 CRC-32 of a group address (14 R363). -/
def crc32 (bs : Bytes) : Nat :=
  Nat.xor (crcBytes (revBits 32 0x04C11DB7) 0xFFFFFFFF bs) 0xFFFFFFFF

/-! ## GF(2^8) with polynomial 0x11D (07 R188) -/

/-- Multiplication by 0x02. -/
def gfDouble (a : Nat) : Nat := if a < 128 then 2 * a else Nat.xor (2 * a) 0x11D

/-- Product by the bits of the second factor, `n` of them from the top. -/
def gfMulGo (a b : Nat) : Nat → Nat
  | 0 => 0
  | n + 1 => Nat.xor (gfDouble (gfMulGo a (b / 2) n)) (if b % 2 = 1 then a else 0)

/-- Product in GF(2^8): polynomial multiplication reduced modulo 0x11D. -/
def gfMul (a b : Nat) : Nat := gfMulGo a b 8

/-- Inverse in GF(2^8): a^254. -/
def gfInv (a : Nat) : Nat :=
  let a2 := gfMul a a
  let a4 := gfMul a2 a2
  let a8 := gfMul a4 a4
  let a16 := gfMul a8 a8
  let a32 := gfMul a16 a16
  let a64 := gfMul a32 a32
  let a128 := gfMul a64 a64
  gfMul a128 (gfMul a64 (gfMul a32 (gfMul a16 (gfMul a8 (gfMul a4 a2)))))

/-- Coefficient c_ij of the Cauchy matrix: inverse of x_i XOR y_j with x_i = i and y_j = p + j (07 R189). -/
def cauchy (p i j : Nat) : Nat := gfInv (Nat.xor i (p + j))

/-- Two strips added byte by byte; a strip's bytes beyond its end are zero. -/
def stripAdd : Bytes → Bytes → Bytes
  | [], ys => ys
  | xs, [] => xs
  | x :: xs, y :: ys => (x ^^^ y) :: stripAdd xs ys

/-- A strip times a coefficient. -/
def stripScale (c : Nat) (xs : Bytes) : Bytes := xs.map (fun x => BitVec.ofNat 8 (gfMul c x.toNat))

/-- A row of coefficients times strips. -/
def stripDot : List Nat → List Bytes → Bytes
  | c :: cs, x :: xs => stripAdd (stripScale c x) (stripDot cs xs)
  | _, _ => []

/-- Row `role` of the generator matrix [I over C] for `d` data strips and `p` parity strips (07 R189). -/
def genRow (d p role : Nat) : List Nat :=
  (List.range d).map (fun j => if role < d then (if role = j then 1 else 0) else cauchy p (role - d) j)

/-- Parity strip `i` of data strips (07 R189). -/
def parityStrip (p i : Nat) (data : List Bytes) : Bytes :=
  stripDot ((List.range data.length).map (cauchy p i)) data

/-- The `p` parity strips (07 R189). -/
def parityStrips (p : Nat) (data : List Bytes) : List Bytes := (List.range p).map (fun i => parityStrip p i data)

/-! ### Reconstruction (07 R190) -/

/-- One equation: coefficients of the data strips and the strip they add up to. -/
abbrev Equation := List Nat × Bytes

/-- An equation times a coefficient. -/
def eqScale (c : Nat) (e : Equation) : Equation := (e.1.map (gfMul c), stripScale c e.2)

/-- The sum of two equations. -/
def eqAdd (a b : Equation) : Equation := (List.zipWith Nat.xor a.1 b.1, stripAdd a.2 b.2)

/-- Takes out of a list the first equation with a non-zero coefficient in a column. -/
def takePivot (col : Nat) : List Equation → Option (Equation × List Equation)
  | [] => none
  | e :: es =>
    if e.1.getD col 0 ≠ 0 then some (e, es)
    else match takePivot col es with
      | some (p, rest) => some (p, e :: rest)
      | none => none

/-- Clears a column of an equation with a pivot whose coefficient there is one. -/
def eqClear (col : Nat) (pivot e : Equation) : Equation :=
  if e.1.getD col 0 = 0 then e else eqAdd e (eqScale (e.1.getD col 0) pivot)

/-- Gauss-Jordan elimination over columns `col` to `col + n - 1`; `done` holds the pivots so far, in column order. -/
def gauss (col : Nat) : Nat → List Equation → List Equation → Option (List Equation)
  | 0, done, _ => some done
  | n + 1, done, todo =>
    match takePivot col todo with
    | none => none
    | some (e, rest) =>
      let pv := eqScale (gfInv (e.1.getD col 0)) e
      gauss (col + 1) n (done.map (eqClear col pv) ++ [pv]) (rest.map (eqClear col pv))

/-- The data strips from `d` surviving strips, each with its role (07 R190 steps 1 to 3). -/
def reconstruct (d p : Nat) (surviving : List (Nat × Bytes)) : Option (List Bytes) :=
  (gauss 0 d [] ((surviving.take d).map (fun s => (genRow d p s.1, s.2)))).map (fun es => es.map Prod.snd)

/-- An ASCII field padded with spaces, as an integer. -/
def asciiFld (n : Nat) (t : String) : Fld := (n, leValue (ascii t ++ List.replicate (n - t.length) 0x20))

end Machine
end Sys2Proof
end

