-- ==== Sys2Proof/Config.lean ====
section
/-!
DEFINITION. What one implementation fixes, the free values of the model, and the published algorithms the spec names
without giving them (02_authority Table 2.3). Each is an opaque constant: nothing can be proved of its value.
-/
namespace Sys2Proof
namespace Config

/-- The `n`-th draw of the DRBG (02 R43, Table 2.3). A free value; log entry 2. -/
opaque drbg : Nat → BitVec 512
/-- SHA3-256 (FIPS 202), named in Table 2.3 and not restated by the spec. Uninterpreted; log entry 3. -/
opaque sha3 : Bytes → Digest
/-- SHA-256 (FIPS 180-4). Uninterpreted; log entry 3. -/
opaque sha256 : Bytes → Digest
/-- HMAC-SHA-256: key and message (FIPS 198-1; 02 R47, 10 R273). Uninterpreted; log entry 3. -/
opaque hmac : BitVec 512 → Bytes → Digest
/-- The 40 bytes of a 256-bit key under AES-256-KW: wrapping key, key (SP 800-38F; 02 Table 2.6). Uninterpreted; log entry 3. -/
opaque keyWrap : BitVec 512 → BitVec 512 → Nat
/-- The device sealing key, derived from a fused secret (02 Table 2.6). -/
opaque deviceKey : BitVec 512
/-- ML-KEM-1024 encapsulation to the escrow key with a digest, from the randomness drawn: the ciphertext (FIPS 203; 02 R45). Uninterpreted;
log entry 3. -/
opaque kemCipher : Digest → BitVec 512 → Nat
/-- The shared secret of that encapsulation. Uninterpreted; log entry 3. -/
opaque kemSecret : Digest → BitVec 512 → Digest
/-- The X25519 public key of a private key (RFC 7748). Uninterpreted; log entry 3. -/
opaque x25519 : BitVec 512 → Digest
/-- X25519 of a private key with the public key of the pair that has a digest (02 R45). Uninterpreted; log entry 3. -/
opaque x25519Shared : BitVec 512 → Digest → Digest
/-- X25519 of a private key with a public key (12 R324). Uninterpreted; log entry 3. -/
opaque dhShared : BitVec 512 → Digest → Digest
/-- The ML-KEM-1024 encapsulation key, as one 1,568-byte integer, of a key pair drawn from the randomness given (12 R323). Uninterpreted;
log entry 3. -/
opaque kemPublic : BitVec 512 → Nat
/-- ML-KEM-1024 encapsulation to an encapsulation key: the ciphertext and the shared secret (12 R324). Uninterpreted; log entry 3. -/
opaque kemEncap : Nat → BitVec 512 → Nat
opaque kemShared : Nat → BitVec 512 → Digest
/-- ML-KEM-1024 decapsulation of a ciphertext (12 R324). Uninterpreted; log entry 3. -/
opaque kemDecap : BitVec 512 → Nat → Digest
/-- The certificate chain of slot 0 (02 Table 2.9). -/
opaque certChain : Bytes
/-- The ECDSA P-384 signature of the device identity key over the SHA-384 of a message (12 Table 12.4). Uninterpreted; log entry 3. -/
opaque deviceSign : Bytes → Nat
/-- One byte of the AES-256-GCM key stream at rest and in transit: key, nonce, offset (Table 2.3). Uninterpreted; log entry 3. -/
opaque keystream : BitVec 512 → Nat → Nat → Byte
/-- The GCM tag: key, nonce, additional data, ciphertext (Table 2.3). Uninterpreted; log entry 3. -/
opaque gcmTag : BitVec 512 → Nat → Bytes → Bytes → Nat
/-- One byte of an AES-256-XTS data unit: key, tweak, plaintext, offset (04 R100). Uninterpreted; log entry 3. -/
opaque xts : BitVec 512 → Nat → Bytes → Nat → Byte
/-- The bytes of the public key pair with a digest (Ed25519 then ML-DSA-87; for the escrow key X25519 then ML-KEM-1024), as one
integer (02 Table 2.2, 09 R242). Uninterpreted; log entry 3. -/
opaque publicKey : Digest → Nat
/-- The hybrid signature of the key with a digest over a message (02 R33, 09 R242), as one 4,691-byte integer.
Uninterpreted; log entry 3. -/
opaque sign : Digest → Bytes → Nat
/-- The answer of a published SPDM computation: request code and slot (02 R65). Uninterpreted; log entry 3. -/
opaque spdmField : Nat → Nat → Nat
/-- This module's identity digest (02 R39, 19 Table 19.4). -/
opaque moduleDigest : Digest
/-- Digest of the custody public key of this module's epoch `n` (09 R242). -/
opaque custodyKey : Nat → Digest
/-- Digest of the boot ROM, the second-stage loader and the firmware image (02 Table 2.10), by index 1 to 3. -/
opaque bootDigest : Nat → Digest
/-- The SHA-384 measurement of the boot ROM, the second-stage loader and the firmware image (02 Table 2.9, Table 2.10), by index 1 to 3. -/
opaque bootMeasure : Nat → BitVec 384
/-- The SHA-384 measurement of the image or overlay that has a SHA3-256 digest (02 Table 2.9, Table 2.10). Uninterpreted; log entry 3. -/
opaque sha384Of : Digest → BitVec 384
/-- The factory base of the MAC station addresses (14 Table 14.3). -/
opaque factoryMac : BitVec 48
/-- The Ethernet address that a MAC has resolved for an IP address of its link (14 R362): no command carries the answers of ARP and
Neighbor Discovery. -/
opaque neighbour : Nat → Nat → BitVec 48
/-- Station address of a MAC of the partner module, and its IP address by version (18 R452): the partner's own parameters, which no
message of the pair link gives this module. Free values; log entry 2. -/
opaque partnerStation : Nat → Nat
/-- IP address of a MAC of the partner module: whether IPv6, MAC (18 R452). A free value; log entry 2. -/
opaque partnerIp : Bool → Nat → Nat
/-- A measured voltage or current of a slot channel, mV or mA: the model's own draw counter and the address read (21 Table 21.5). A free
value; log entry 2. -/
opaque measured : Nat → Nat → Nat
/-- A value the spec leaves to chance or to an order it does not give; the argument is the model's own draw counter. -/
opaque freeValue : Nat → Nat

end Config
end Sys2Proof
end

