-- ==== Sys2Proof/Machine/ParamTable.lean ====
section
/-!
DEFINITION. The parameter maps of every block (03 Table 3.7, 06 6.7, 07 7.8, 08 8.6, 09 9.7, 12 12.7, 13 13.5, 14 14.3,
15 15.4, 16 16.4 and 16.5, 17 17.5 and 17.6, 18 18.5 and 18.6, 21 21.4 and 21.5, 22 22.5, 23 23.4), one row for each field.
-/
namespace Sys2Proof
namespace Machine

/-- Access types (00 Table 0.2). -/
inductive PAcc where
  | ro | rw | w1c | wo
deriving DecidableEq, Repr

/-- A field of a parameter map: address of its first word, words, two index strides and counts, lowest bit, width in each
word, access, reset value, least and greatest value, operator may write it ("C, O"), and the DORMANT mark "D" (22 R524). -/
structure PRow where
  addr  : Nat
  words : Nat
  s1    : Nat
  c1    : Nat
  s2    : Nat
  c2    : Nat
  lo    : Nat
  width : Nat
  acc   : PAcc
  reset : Nat
  min   : Nat
  max   : Nat
  oper  : Bool
  dorm  : Bool
deriving DecidableEq, Repr

/-- A row from its columns. -/
def row (addr words s1 c1 s2 c2 lo width : Nat) (acc : PAcc) (reset min max : Nat) (oper dorm : Bool) : PRow :=
  { addr := addr, words := words, s1 := s1, c1 := c1, s2 := s2, c2 := c2, lo := lo, width := width, acc := acc,
    reset := reset, min := min, max := max, oper := oper, dorm := dorm }

/-- Rows of Table 3.7: TS_STATE, TS_NOW, TS_CUSTODY_NOW, TS_PTP_OFFSET, TS_PTP_PORT, TS_PTP_CFG, TS_REF_CTRL,
TS_PPS_DELAY, TS_SLEW_MAX, TS_LOCK_WAIT, TS_PTP_REJECT, TS_BEACON_WINDOW, TS_ANCHOR_AGE_MAX, TS_CUSTODY_SLEW. -/
def rows3_7 : List PRow :=
  [row 0x01000000 1 0 1 0 1 0 3 .ro 0 0 7 false false,
   row 0x01000000 1 0 1 0 1 4 2 .ro 0 0 3 false false,
   row 0x01000000 1 0 1 0 1 8 1 .ro 0 0 1 false false,
   row 0x01000000 1 0 1 0 1 9 1 .ro 0 0 1 false false,
   row 0x01000000 1 0 1 0 1 10 1 .ro 0 0 1 false false,
   row 0x01000004 3 0 1 0 1 0 32 .ro 0 0 4294967295 false false,
   row 0x01000010 4 0 1 0 1 0 32 .ro 0 0 4294967295 false false,
   row 0x01000020 1 0 1 0 1 0 32 .ro 0 0 4294967295 false false,
   row 0x01000024 1 0 1 0 1 0 5 .rw 0 0 31 true false,
   row 0x01000024 1 0 1 0 1 8 5 .rw 0 0 31 true false,
   row 0x01000024 1 0 1 0 1 13 1 .rw 0 0 1 true false,
   row 0x01000028 1 0 1 0 1 0 8 .rw 0 0 127 false false,
   row 0x01000028 1 0 1 0 1 8 2 .rw 0 0 2 false false,
   row 0x01000028 1 0 1 0 1 16 4 .rw 3 2 10 false false,
   row 0x0100002C 1 0 1 0 1 0 1 .rw 0 0 1 true false,
   row 0x0100002C 1 0 1 0 1 1 1 .rw 0 0 1 true false,
   row 0x0100002C 1 0 1 0 1 2 1 .rw 0 0 1 true false,
   row 0x01000030 1 0 1 0 1 0 32 .rw 0 0 4294967295 true false,
   row 0x01000034 1 0 1 0 1 0 32 .rw 500 10 1000 false false,
   row 0x01000038 1 0 1 0 1 0 32 .rw 30000 0 300000 false false,
   row 0x0100003C 1 0 1 0 1 0 32 .rw 1000 1 10000 false false,
   row 0x01000040 1 0 1 0 1 0 32 .rw 10 1 60 false false,
   row 0x01000044 1 0 1 0 1 0 32 .ro 2592000 3600 31536000 false false,
   row 0x01000048 1 0 1 0 1 0 32 .ro 200 0 4294967295 false false]

/-- Rows of Table 3.7 (continued): TS_GUARD, TS_BEACON_COUNT, TS_LAST_BEACON, TS_HOLDOVER_TIME, TS_PAIR_OFFSET,
TS_STATUS, TS_CEREMONY_WINDOW. -/
def rows3_7a : List PRow :=
  [row 0x0100004C 1 0 1 0 1 0 32 .ro 256 0 4294967295 false false,
   row 0x01000050 1 0 1 0 1 0 32 .ro 0 0 4294967295 false false,
   row 0x01000054 2 0 1 0 1 0 32 .ro 0 0 4294967295 false false,
   row 0x0100005C 1 0 1 0 1 0 32 .ro 0 0 4294967295 false false,
   row 0x01000060 1 0 1 0 1 0 32 .ro 0 0 4294967295 false false,
   row 0x01000064 1 0 1 0 1 0 1 .w1c 0 0 1 true false,
   row 0x01000064 1 0 1 0 1 1 1 .w1c 0 0 1 true false,
   row 0x01000064 1 0 1 0 1 2 1 .w1c 0 0 1 true false,
   row 0x01000064 1 0 1 0 1 3 1 .w1c 0 0 1 true false,
   row 0x01000064 1 0 1 0 1 4 1 .w1c 0 0 1 true false,
   row 0x01000064 1 0 1 0 1 5 1 .w1c 0 0 1 true false,
   row 0x01000068 1 0 1 0 1 0 32 .rw 86400 600 604800 false false]

/-- Rows of Table 6.7: IDX_STATE, IDX_PARTITIONS, IDX_PAGE_SIZE, IDX_HINT_LOG2, IDX_RUNAHEAD_MAX, IDX_DELTA_FLUSH,
IDX_DELTA_AGE, IDX_INLINE_MAX, IDX_NV_DELAY, IDX_OPEN_IDLE, IDX_CACHE_GIB, IDX_LOCK_SWEEP, IDX_RECOVERY_LEFT,
IDX_RUNAHEAD, IDX_STATUS. -/
def rows6_7 : List PRow :=
  [row 0x11000000 1 0 1 0 1 0 1 .ro 0 0 1 false false,
   row 0x11000000 1 0 1 0 1 1 1 .ro 0 0 1 false false,
   row 0x11000000 1 0 1 0 1 2 1 .ro 0 0 1 false false,
   row 0x11000004 1 0 1 0 1 0 32 .ro 65536 0 4294967295 false false,
   row 0x11000008 1 0 1 0 1 0 32 .ro 16384 0 4294967295 false false,
   row 0x1100000C 1 0 1 0 1 0 6 .rw 32 24 32 false false,
   row 0x11000010 1 0 1 0 1 0 32 .rw 1048576 65536 4194304 false false,
   row 0x11000014 1 0 1 0 1 0 32 .rw 256 16 4096 false false,
   row 0x11000018 1 0 1 0 1 0 32 .rw 5000 100 60000 false false,
   row 0x1100001C 1 0 1 0 1 0 32 .ro 3072 0 4294967295 false false,
   row 0x11000020 1 0 1 0 1 0 32 .rw 500000 200000 10000000 false false,
   row 0x11000024 1 0 1 0 1 0 32 .rw 86400 3600 2592000 false false,
   row 0x11000028 1 0 1 0 1 0 32 .rw 96 16 192 false false,
   row 0x1100002C 1 0 1 0 1 0 32 .ro 60 0 4294967295 false false,
   row 0x11000030 1 0 1 0 1 0 32 .ro 0 0 4294967295 false false,
   row 0x11000040 1 0 1 0 1 0 1 .rw 1 0 1 false false,
   row 0x11000044 1 0 1 0 1 0 1 .w1c 0 0 1 true false,
   row 0x11000044 1 0 1 0 1 1 1 .w1c 0 0 1 true false,
   row 0x11000044 1 0 1 0 1 2 1 .w1c 0 0 1 true false]

/-- Rows of Table 7.8: STR_STATE, STR_STRIP_SIZE, STR_SEG_ROWS, STR_MEMBERS, STR_FAULT_GROUP, STR_CLOSE_DELAY,
STR_JOURNAL_MAX, STR_RELOC_SHARE, STR_RELOC_MIN_STALE, STR_FREE_LOW, STR_FREE_CRIT, STR_RESERVE_PCT,
STR_MAP_CACHE_GIB, STR_CKPT_INTERVAL, STR_SPLICE_AREA, STR_FREE_TB, STR_JOURNAL_PEAK, STR_BELAY_LAST, STR_STATUS. -/
def rows7_8 : List PRow :=
  [row 0x10000000 1 0 1 0 1 0 1 .ro 0 0 1 false false,
   row 0x10000000 1 0 1 0 1 1 1 .ro 0 0 1 false false,
   row 0x10000000 1 0 1 0 1 2 1 .ro 0 0 1 false false,
   row 0x10000000 1 0 1 0 1 3 1 .ro 0 0 1 false false,
   row 0x10000000 1 0 1 0 1 4 1 .ro 0 0 1 false false,
   row 0x10000004 1 0 1 0 1 0 32 .ro 65536 0 4294967295 false false,
   row 0x10000008 1 0 1 0 1 0 32 .ro 128 0 4294967295 false false,
   row 0x1000000C 1 0 1 0 1 0 24 .ro 0 0 16777215 false false,
   row 0x10000010 3 0 1 0 1 0 32 .rw 0 0 4294967295 false false,
   row 0x1000001C 1 0 1 0 1 0 32 .rw 1000 50 100000 false false,
   row 0x10000020 1 0 1 0 1 0 32 .rw 12 1 14 false false,
   row 0x10000024 1 0 1 0 1 0 32 .rw 10 1 50 true false,
   row 0x10000028 1 0 1 0 1 0 32 .rw 50 10 95 true false,
   row 0x1000002C 1 0 1 0 1 0 32 .rw 4 2 20 false false,
   row 0x10000030 1 0 1 0 1 0 32 .rw 1 1 10 false false,
   row 0x10000034 1 0 1 0 1 0 32 .ro 7 5 20 false false,
   row 0x10000038 1 0 1 0 1 0 32 .rw 192 16 256 false false,
   row 0x1000003C 1 0 1 0 1 0 32 .rw 60 10 3600 false false,
   row 0x10000040 1 0 1 0 1 0 32 .ro 4 0 4294967295 false false,
   row 0x10000044 1 0 1 0 1 0 32 .ro 0 0 4294967295 false false,
   row 0x10000048 1 0 1 0 1 0 32 .ro 0 0 4294967295 false false,
   row 0x1000004C 1 0 1 0 1 0 16 .ro 0 0 65535 false false,
   row 0x1000004C 1 0 1 0 1 16 16 .ro 0 0 65535 false false,
   row 0x10000050 1 0 1 0 1 0 1 .w1c 0 0 1 true false]

/-- Rows of Table 7.8 (continued): STR_STATUS. -/
def rows7_8a : List PRow :=
  [row 0x10000050 1 0 1 0 1 1 1 .w1c 0 0 1 true false,
   row 0x10000050 1 0 1 0 1 2 1 .w1c 0 0 1 true false,
   row 0x10000050 1 0 1 0 1 3 1 .w1c 0 0 1 true false,
   row 0x10000050 1 0 1 0 1 4 1 .w1c 0 0 1 true false,
   row 0x10000050 1 0 1 0 1 5 1 .w1c 0 0 1 true false,
   row 0x10000050 1 0 1 0 1 6 1 .w1c 0 0 1 true false]

/-- Rows of Table 8.6: STR_MEMBER_STATE, STR_STRIKES, STR_STRIKE_WINDOW, STR_SUSPECT_STRIKES, STR_FAIL_STRIKES,
STR_HEDGE, STR_DEGRADED_RETRY, STR_REBUILD_SHARE, STR_REBUILD_CRIT_SHARE, STR_REBUILD_LEFT, STR_REBUILD_EXPOSED,
STR_LOST_STRIPES, STR_SCRUB_PERIOD, STR_SCRUB_SHARE, STR_SCRUB_PROGRESS, STR_SCRUB_REPAIRS, STR_SCRUB_CTRL,
STR_RB_STATUS. -/
def rows8_6 : List PRow :=
  [row 0x10000100 3 0 1 0 1 0 32 .ro 0 0 4294967295 false false,
   row 0x1000010C 6 0 1 0 1 0 32 .ro 0 0 4294967295 false false,
   row 0x10000124 1 0 1 0 1 0 32 .rw 86400 3600 2592000 false false,
   row 0x10000128 1 0 1 0 1 0 32 .rw 3 1 64 false false,
   row 0x1000012C 1 0 1 0 1 0 32 .rw 32 2 1024 false false,
   row 0x10000130 1 0 1 0 1 0 32 .rw 2000 100 50000 true false,
   row 0x10000134 1 0 1 0 1 0 32 .rw 3 0 8 false false,
   row 0x10000138 1 0 1 0 1 0 32 .rw 30 5 70 true false,
   row 0x1000013C 1 0 1 0 1 0 32 .rw 70 10 90 false false,
   row 0x10000140 1 0 1 0 1 0 32 .ro 0 0 4294967295 false false,
   row 0x10000144 1 0 1 0 1 0 32 .ro 0 0 4294967295 false false,
   row 0x10000148 1 0 1 0 1 0 32 .ro 0 0 4294967295 false false,
   row 0x1000014C 1 0 1 0 1 0 32 .rw 2592000 86400 31536000 false false,
   row 0x10000150 1 0 1 0 1 0 32 .rw 5 1 30 true false,
   row 0x10000154 1 0 1 0 1 0 16 .ro 0 0 65535 false false,
   row 0x10000154 1 0 1 0 1 16 16 .ro 0 0 65535 false false,
   row 0x10000158 1 0 1 0 1 0 32 .ro 0 0 4294967295 false false,
   row 0x1000015C 1 0 1 0 1 0 1 .wo 0 0 1 true false,
   row 0x10000160 1 0 1 0 1 0 1 .w1c 0 0 1 true false,
   row 0x10000160 1 0 1 0 1 1 1 .w1c 0 0 1 true false,
   row 0x10000160 1 0 1 0 1 2 1 .w1c 0 0 1 true false,
   row 0x10000160 1 0 1 0 1 3 1 .w1c 0 0 1 true false,
   row 0x10000160 1 0 1 0 1 4 1 .w1c 0 0 1 true false,
   row 0x10000160 1 0 1 0 1 5 1 .w1c 0 0 1 true false]

/-- Rows of Table 8.6 (continued): STR_RB_STATUS. -/
def rows8_6a : List PRow :=
  [row 0x10000160 1 0 1 0 1 6 1 .w1c 0 0 1 true false,
   row 0x10000160 1 0 1 0 1 7 1 .w1c 0 0 1 true false]

/-- Rows of Table 9.7: IDX_LY_STATE, IDX_CKPT_INTERVAL, IDX_RECEIPT_BATCH, IDX_CKPT_NUMBER, IDX_CKPT_LAST, IDX_LY_GIB,
IDX_CUSTODY_EPOCH, IDX_LY_STATUS. -/
def rows9_7 : List PRow :=
  [row 0x11000100 1 0 1 0 1 0 1 .ro 0 0 1 false false,
   row 0x11000100 1 0 1 0 1 1 1 .ro 0 0 1 false false,
   row 0x11000100 1 0 1 0 1 2 1 .ro 0 0 1 false false,
   row 0x11000100 1 0 1 0 1 3 1 .ro 0 0 1 false false,
   row 0x11000104 1 0 1 0 1 0 32 .rw 3600 300 86400 false false,
   row 0x11000108 1 0 1 0 1 0 32 .rw 100 10 10000 false false,
   row 0x1100010C 2 0 1 0 1 0 32 .ro 0 0 4294967295 false false,
   row 0x11000114 2 0 1 0 1 0 32 .ro 0 0 4294967295 false false,
   row 0x1100011C 1 0 1 0 1 0 32 .ro 0 0 4294967295 false false,
   row 0x11000120 1 0 1 0 1 0 16 .ro 0 0 65535 false false,
   row 0x11000124 1 0 1 0 1 0 1 .w1c 0 0 1 true false,
   row 0x11000124 1 0 1 0 1 1 1 .w1c 0 0 1 true false,
   row 0x11000124 1 0 1 0 1 2 1 .w1c 0 0 1 true false,
   row 0x11000124 1 0 1 0 1 3 1 .w1c 0 0 1 true false]

/-- Rows of Table 12.7: TRN_STATE, TRN_UDP_PORT, TRN_FRESH_WINDOW, TRN_RTO_MIN, TRN_RTO_MAX, TRN_ACK_DELAY,
TRN_DEAD_TIME, TRN_REKEY_INTERVAL, TRN_SETUP_MAX, TRN_SETUP_TIMEOUT, TRN_CTX_TOTAL, TRN_CTX_ONDIE, TRN_CTX_USED,
TRN_MISS_KIB, TRN_SEEN_ENTRIES, TRN_ROCE_CTRL, TRN_RNR_TIMER, TRN_ROCE_ACK_TIMEOUT, TRN_CNP_INTERVAL, TRN_MSG_MAX,
TRN_AUTH_FAIL. -/
def rows12_7 : List PRow :=
  [row 0x12000000 1 0 1 0 1 0 1 .ro 0 0 1 false false,
   row 0x12000000 1 0 1 0 1 1 1 .ro 0 0 1 false false,
   row 0x12000000 1 0 1 0 1 2 1 .ro 0 0 1 false false,
   row 0x12000004 1 0 1 0 1 0 16 .rw 7460 1024 65535 false false,
   row 0x12000008 1 0 1 0 1 0 32 .rw 2000 500 100000 false false,
   row 0x1200000C 1 0 1 0 1 0 32 .rw 20 5 1000 true false,
   row 0x12000010 1 0 1 0 1 0 32 .rw 1000 100 100000 true false,
   row 0x12000014 1 0 1 0 1 0 32 .rw 4 1 100 true false,
   row 0x12000018 1 0 1 0 1 0 32 .rw 1000 100 60000 false false,
   row 0x1200001C 1 0 1 0 1 0 32 .rw 3600 60 86400 false false,
   row 0x12000020 1 0 1 0 1 0 32 .rw 4096 256 16384 false false,
   row 0x12000024 1 0 1 0 1 0 32 .rw 1000 100 10000 false false,
   row 0x12000028 1 0 1 0 1 0 32 .ro 1048576 0 4294967295 false false,
   row 0x1200002C 1 0 1 0 1 0 32 .ro 65536 0 4294967295 false false,
   row 0x12000030 1 0 1 0 1 0 32 .ro 0 0 4294967295 false false,
   row 0x12000034 1 0 1 0 1 0 32 .rw 2048 256 8192 false false,
   row 0x12000038 1 0 1 0 1 0 32 .ro 4194304 0 4294967295 false false,
   row 0x1200003C 1 0 1 0 1 0 1 .rw 1 0 1 false false,
   row 0x1200003C 1 0 1 0 1 4 3 .rw 5 3 5 false false,
   row 0x12000040 1 0 1 0 1 0 32 .rw 10 10 655360 true false,
   row 0x12000044 1 0 1 0 1 0 32 .rw 4096 64 268435 false false,
   row 0x12000048 1 0 1 0 1 0 32 .rw 50 1 1000 true false,
   row 0x1200004C 1 0 1 0 1 0 32 .ro 67108864 0 4294967295 false false,
   row 0x12000050 1 0 1 0 1 0 32 .ro 0 0 4294967295 false false]

/-- Rows of Table 12.7 (continued): TRN_STALE, TRN_MISS_DROPS, TRN_STATUS. -/
def rows12_7a : List PRow :=
  [row 0x12000054 1 0 1 0 1 0 32 .ro 0 0 4294967295 false false,
   row 0x12000058 1 0 1 0 1 0 32 .ro 0 0 4294967295 false false,
   row 0x1200005C 1 0 1 0 1 0 1 .w1c 0 0 1 true false,
   row 0x1200005C 1 0 1 0 1 1 1 .w1c 0 0 1 true false,
   row 0x1200005C 1 0 1 0 1 2 1 .w1c 0 0 1 true false,
   row 0x1200005C 1 0 1 0 1 3 1 .w1c 0 0 1 true false,
   row 0x1200005C 1 0 1 0 1 4 1 .w1c 0 0 1 true false]

/-- Rows of Table 13.5: TRN_LAND_GIB, TRN_LAND_USED, TRN_LAND_DEFAULT_MIB, TRN_TRIG_ENTRIES, TRN_TRIG_ARMED,
TRN_REGION_REFUSED, TRN_NOTIFY_UNMATCHED, TRN_DRAIN_MAX, TRN_RG_STATUS. -/
def rows13_5 : List PRow :=
  [row 0x12000100 1 0 1 0 1 0 32 .rw 64 8 192 false false,
   row 0x12000104 1 0 1 0 1 0 32 .ro 0 0 4294967295 false false,
   row 0x12000108 1 0 1 0 1 0 32 .rw 16 0 1024 false false,
   row 0x1200010C 1 0 1 0 1 0 32 .ro 65536 0 4294967295 false false,
   row 0x12000110 1 0 1 0 1 0 32 .ro 0 0 4294967295 false false,
   row 0x12000114 1 0 1 0 1 0 32 .ro 0 0 4294967295 false false,
   row 0x12000118 1 0 1 0 1 0 32 .ro 0 0 4294967295 false false,
   row 0x1200011C 1 0 1 0 1 0 32 .ro 0 0 4294967295 false false,
   row 0x12000120 1 0 1 0 1 0 1 .w1c 0 0 1 true false,
   row 0x12000120 1 0 1 0 1 1 1 .w1c 0 0 1 true false,
   row 0x12000120 1 0 1 0 1 2 1 .w1c 0 0 1 true false,
   row 0x12000120 1 0 1 0 1 3 1 .w1c 0 0 1 true false,
   row 0x12000120 1 0 1 0 1 4 1 .w1c 0 0 1 true false]

/-- Rows of Table 14.3: MAC_STATE, MAC_CONFIGURED, MAC_STATUS, MAC_PORT_MODE, MAC_PORT_CAGE, MAC_PORT_RESTART,
MAC_WAKE_PATTERN, MAC_CTRL, MAC_LINK. -/
def rows14_3 : List PRow :=
  [row 0x02000000 1 0 1 0 1 0 32 .ro 0 0 4294967295 false false,
   row 0x02000004 1 0 1 0 1 0 32 .ro 16843009 0 4294967295 false false,
   row 0x02000008 1 0 1 0 1 0 1 .w1c 0 0 1 true false,
   row 0x02000008 1 0 1 0 1 1 1 .w1c 0 0 1 true false,
   row 0x02000008 1 0 1 0 1 2 1 .w1c 0 0 1 true false,
   row 0x02000008 1 0 1 0 1 3 1 .w1c 0 0 1 true false,
   row 0x02000100 1 64 4 0 1 0 2 .rw 0 0 3 true false,
   row 0x02000100 1 64 4 0 1 4 2 .ro 0 0 3 false false,
   row 0x02000104 1 64 4 0 1 0 1 .ro 0 0 1 false false,
   row 0x02000104 1 64 4 0 1 1 1 .ro 0 0 1 false false,
   row 0x02000104 1 64 4 0 1 8 8 .ro 0 0 255 false false,
   row 0x02000108 1 64 4 0 1 0 1 .wo 0 0 1 true false,
   row 0x02000200 32 256 8 0 1 0 32 .rw 0 0 4294967295 true false,
   row 0x02000280 4 256 8 0 1 0 32 .rw 0 0 4294967295 true false,
   row 0x02001000 1 256 32 0 1 0 1 .rw 1 0 1 true false,
   row 0x02001000 1 256 32 0 1 1 1 .rw 0 0 1 true false,
   row 0x02001000 1 256 32 0 1 2 1 .rw 0 0 1 true false,
   row 0x02001000 1 256 32 0 1 3 1 .ro 1 0 1 false false,
   row 0x02001000 1 256 32 0 1 4 2 .rw 2 0 2 false false,
   row 0x02001000 1 256 32 0 1 6 1 .rw 0 0 1 false false,
   row 0x02001000 1 256 32 0 1 7 1 .rw 0 0 1 true false,
   row 0x02001004 1 256 32 0 1 0 1 .ro 0 0 1 false false,
   row 0x02001004 1 256 32 0 1 1 3 .ro 0 0 7 false false,
   row 0x02001004 1 256 32 0 1 8 8 .ro 0 0 255 false false]

/-- Rows of Table 14.3 (continued): MAC_FRAME_MAX, MAC_VLAN, MAC_STATION, MAC_IPV4, MAC_IPV4_PREFIX, MAC_IPV4_GW,
MAC_IPV6, MAC_IPV6_PREFIX, MAC_IPV6_GW, MAC_PAUSE_WDOG, MAC_PAUSE_IGNORE, MAC_PAUSE_STATE, MAC_EXACT, MAC_HASH,
MAC_WAKE_CTRL, MAC_WAKE_CAUSE, MAC_RX_FRAMES, MAC_RX_BYTES. -/
def rows14_3a : List PRow :=
  [row 0x02001008 1 256 32 0 1 0 14 .rw 9216 1518 9216 false false,
   row 0x0200100C 1 256 32 0 1 0 12 .rw 0 0 4094 false false,
   row 0x0200100C 1 256 32 0 1 12 3 .rw 0 0 7 false false,
   row 0x02001010 2 256 32 0 1 0 32 .rw 0 0 4294967295 false false,
   row 0x02001018 1 256 32 0 1 0 32 .rw 0 0 4294967295 false false,
   row 0x0200101C 1 256 32 0 1 0 6 .rw 24 8 30 false false,
   row 0x02001020 1 256 32 0 1 0 32 .rw 0 0 4294967295 false false,
   row 0x02001030 4 256 32 0 1 0 32 .rw 0 0 4294967295 false false,
   row 0x02001040 1 256 32 0 1 0 8 .rw 64 16 127 false false,
   row 0x02001050 4 256 32 0 1 0 32 .rw 0 0 4294967295 false false,
   row 0x02001060 1 256 32 0 1 0 32 .rw 100 1 10000 true false,
   row 0x02001064 1 256 32 0 1 0 32 .rw 1000 10 60000 false false,
   row 0x02001068 1 256 32 0 1 0 8 .ro 0 0 255 false false,
   row 0x02001068 1 256 32 0 1 8 8 .ro 0 0 255 false false,
   row 0x02001068 1 256 32 0 1 16 1 .ro 0 0 1 false false,
   row 0x02001068 1 256 32 0 1 17 8 .ro 0 0 255 false false,
   row 0x02001070 16 256 32 0 1 0 32 .rw 0 0 4294967295 false false,
   row 0x020010B0 2 256 32 0 1 0 32 .rw 0 0 4294967295 true false,
   row 0x020010B8 1 256 32 0 1 0 8 .rw 0 0 255 true false,
   row 0x020010B8 1 256 32 0 1 8 1 .rw 0 0 1 true false,
   row 0x020010B8 1 256 32 0 1 9 1 .rw 0 0 1 true false,
   row 0x020010BC 1 256 32 0 1 0 11 .w1c 0 0 2047 true false,
   row 0x020010C0 2 256 32 0 1 0 32 .ro 0 0 4294967295 false false,
   row 0x020010C8 2 256 32 0 1 0 32 .ro 0 0 4294967295 false false]

/-- Rows of Table 14.3 (continued): MAC_RX_FCS, MAC_RX_SIZE, MAC_RX_FILTERED, MAC_TX_FRAMES, MAC_TX_BYTES,
MAC_PAUSE_RX, MAC_PAUSE_TX. -/
def rows14_3b : List PRow :=
  [row 0x020010D0 2 256 32 0 1 0 32 .ro 0 0 4294967295 false false,
   row 0x020010D8 2 256 32 0 1 0 32 .ro 0 0 4294967295 false false,
   row 0x020010E0 2 256 32 0 1 0 32 .ro 0 0 4294967295 false false,
   row 0x020010E8 2 256 32 0 1 0 32 .ro 0 0 4294967295 false false,
   row 0x020010F0 2 256 32 0 1 0 32 .ro 0 0 4294967295 false false,
   row 0x020010F8 1 256 32 0 1 0 32 .ro 0 0 4294967295 false false,
   row 0x020010FC 1 256 32 0 1 0 32 .ro 0 0 4294967295 false false]

/-- Rows of Table 15.4: SCH_STATE, SCH_FLOWS, SCH_REFILL_SLOTS, SCH_CMD_COST, SCH_DRV_SLOTS, SCH_PRECOLOUR,
SCH_SHELF_CIR, SCH_SHELF_CBS, SCH_CC_MIN, SCH_CC_STEP, SCH_CC_RECOVER, SCH_SHARE_WINDOW, SCH_QUIET_PCT, SCH_QUIET_DRV,
SCH_QUIET_RESERVED, SCH_RED_TOTAL, SCH_STATUS. -/
def rows15_4 : List PRow :=
  [row 0x03000000 1 0 1 0 1 0 1 .ro 0 0 1 false false,
   row 0x03000000 1 0 1 0 1 1 1 .ro 0 0 1 false false,
   row 0x03000004 1 0 1 0 1 0 32 .ro 4096 0 4294967295 false false,
   row 0x03000008 1 0 1 0 1 0 32 .ro 16 0 4294967295 false false,
   row 0x0300000C 1 0 1 0 1 0 32 .rw 4096 0 65536 false false,
   row 0x03000010 1 0 1 0 1 0 32 .rw 128 16 1024 false false,
   row 0x03000014 1 0 1 0 1 0 16 .rw 0 0 65535 false false,
   row 0x03000018 1 0 1 0 1 0 32 .rw 10000 1 400000 false false,
   row 0x0300001C 1 0 1 0 1 0 32 .rw 131072 65540 1048576 false false,
   row 0x03000020 1 0 1 0 1 0 32 .rw 125 10 10000 false false,
   row 0x03000024 1 0 1 0 1 0 32 .rw 500 10 10000 false false,
   row 0x03000028 1 0 1 0 1 0 32 .rw 55 5 10000 false false,
   row 0x0300002C 1 0 1 0 1 0 32 .rw 1000 100 100000 false false,
   row 0x03000030 1 0 1 0 1 0 32 .rw 50 1 80 false false,
   row 0x03000034 1 0 1 0 1 0 32 .rw 6000 500 30000 false false,
   row 0x03000038 1 0 1 0 1 0 8 .ro 0 0 255 false false,
   row 0x03000038 1 0 1 0 1 8 8 .ro 0 0 255 false false,
   row 0x0300003C 1 0 1 0 1 0 32 .ro 0 0 4294967295 false false,
   row 0x03000040 1 0 1 0 1 0 1 .w1c 0 0 1 true false,
   row 0x03000040 1 0 1 0 1 1 1 .w1c 0 0 1 true false,
   row 0x03000040 1 0 1 0 1 2 1 .w1c 0 0 1 true false]

/-- Rows of Table 16.4: HOLD_STATE, HOLD_CELLS, HOLD_CELL_SIZE, HOLD_FREE, HOLD_SHARED, HOLD_LOSSLESS, HOLD_BG_CLASS,
HOLD_RELEASE, HOLD_COIL_PERIOD, HOLD_COIL_PASSES, HOLD_LEAKED, HOLD_DROPS, HOLD_DROPS_OUT, HOLD_STATUS, HOLD_MIN,
HOLD_LIMIT, HOLD_HEADROOM. -/
def rows16_4 : List PRow :=
  [row 0x04000000 1 0 1 0 1 0 1 .ro 0 0 1 false false,
   row 0x04000000 1 0 1 0 1 1 1 .ro 0 0 1 false false,
   row 0x04000000 1 0 1 0 1 2 1 .ro 0 0 1 false false,
   row 0x04000004 1 0 1 0 1 0 32 .ro 393216 0 4294967295 false false,
   row 0x04000008 1 0 1 0 1 0 32 .ro 256 0 4294967295 false false,
   row 0x0400000C 1 0 1 0 1 0 32 .ro 0 0 4294967295 false false,
   row 0x04000010 1 0 1 0 1 0 32 .ro 245760 0 4294967295 false false,
   row 0x04000014 1 0 1 0 1 0 8 .rw 40 0 255 false false,
   row 0x04000018 1 0 1 0 1 0 3 .rw 1 0 7 false false,
   row 0x0400001C 1 0 1 0 1 0 32 .rw 512 64 4096 false false,
   row 0x04000020 1 0 1 0 1 0 32 .rw 1000 100 60000 true false,
   row 0x04000024 1 0 1 0 1 0 32 .ro 0 0 4294967295 false false,
   row 0x04000028 1 0 1 0 1 0 32 .ro 0 0 4294967295 false false,
   row 0x0400002C 1 0 1 0 1 0 32 .ro 0 0 4294967295 false false,
   row 0x04000030 1 0 1 0 1 0 32 .ro 0 0 4294967295 false false,
   row 0x04000034 1 0 1 0 1 0 1 .w1c 0 0 1 true false,
   row 0x04000034 1 0 1 0 1 1 1 .w1c 0 0 1 true false,
   row 0x04000034 1 0 1 0 1 2 1 .w1c 0 0 1 true false,
   row 0x04000034 1 0 1 0 1 3 1 .w1c 0 0 1 true false,
   row 0x04000034 1 0 1 0 1 4 1 .w1c 0 0 1 true false,
   row 0x04000034 1 0 1 0 1 5 1 .w1c 0 0 1 true false,
   row 0x04001000 1 32 64 4 8 0 19 .rw 64 0 524287 false false,
   row 0x04002000 1 32 64 4 8 0 19 .rw 4096 0 524287 false false,
   row 0x04003000 1 32 64 4 8 0 19 .rw 1536 0 65536 false false]

/-- Rows of Table 16.4 (continued): HOLD_OUT_LIMIT. -/
def rows16_4a : List PRow :=
  [row 0x04004000 1 32 64 4 8 0 19 .rw 8192 0 524287 false false]

/-- Rows of Table 16.5: MOV_STATE, MOV_CHANNELS, MOV_HIGH, MOV_PIPES, MOV_BEAT, MOV_BURST_MAX, MOV_ABORT, MOV_BUSY,
MOV_ABORTS, MOV_PREEMPTS, MOV_STATUS. -/
def rows16_5 : List PRow :=
  [row 0x05000000 1 0 1 0 1 0 1 .ro 0 0 1 false false,
   row 0x05000004 1 0 1 0 1 0 32 .ro 64 0 4294967295 false false,
   row 0x05000008 1 0 1 0 1 0 32 .ro 16 0 4294967295 false false,
   row 0x0500000C 1 0 1 0 1 0 32 .ro 16 0 4294967295 false false,
   row 0x05000010 1 0 1 0 1 0 32 .ro 64 0 4294967295 false false,
   row 0x05000014 1 0 1 0 1 0 32 .ro 4096 0 4294967295 false false,
   row 0x05000018 2 0 1 0 1 0 32 .wo 0 0 4294967295 false false,
   row 0x05000020 2 0 1 0 1 0 32 .ro 0 0 4294967295 false false,
   row 0x05000028 1 0 1 0 1 0 32 .ro 0 0 4294967295 false false,
   row 0x0500002C 1 0 1 0 1 0 32 .ro 0 0 4294967295 false false,
   row 0x05000030 1 0 1 0 1 0 1 .w1c 0 0 1 true false,
   row 0x05000030 1 0 1 0 1 1 1 .w1c 0 0 1 true false,
   row 0x05000030 1 0 1 0 1 2 1 .w1c 0 0 1 true false]

/-- Rows of Table 17.5: DRV_STATE, DRV_TIMEOUT, DRV_QUARANTINE, DRV_CPL_TIMEOUT, DRV_PERST_TIME, DRV_XLATE_DRAIN,
DRV_TAGS, DRV_LATE, DRV_XLATE_DROPS, DRV_TIMEOUTS, DRV_STATUS, DRV_PORT_LINK, DRV_PORT_CTRL, DRV_PORT_QUAR. -/
def rows17_5 : List PRow :=
  [row 0x06000000 1 0 1 0 1 0 1 .ro 0 0 1 false false,
   row 0x06000000 1 0 1 0 1 1 1 .ro 0 0 1 false false,
   row 0x06000004 1 0 1 0 1 0 32 .rw 50 1 1000 false false,
   row 0x06000008 1 0 1 0 1 0 32 .ro 4 0 4294967295 false false,
   row 0x0600000C 1 0 1 0 1 0 32 .rw 10000 50 65000 false false,
   row 0x06000010 1 0 1 0 1 0 32 .rw 1000 100 100000 false false,
   row 0x06000014 1 0 1 0 1 0 32 .ro 1000 0 4294967295 false false,
   row 0x06000018 1 0 1 0 1 0 32 .ro 16384 0 4294967295 false false,
   row 0x0600001C 1 0 1 0 1 0 32 .ro 0 0 4294967295 false false,
   row 0x06000020 1 0 1 0 1 0 32 .ro 0 0 4294967295 false false,
   row 0x06000024 1 0 1 0 1 0 32 .ro 0 0 4294967295 false false,
   row 0x06000028 1 0 1 0 1 0 1 .w1c 0 0 1 true false,
   row 0x06000028 1 0 1 0 1 1 1 .w1c 0 0 1 true false,
   row 0x06000028 1 0 1 0 1 2 1 .w1c 0 0 1 true false,
   row 0x06000028 1 0 1 0 1 3 1 .w1c 0 0 1 true false,
   row 0x06000028 1 0 1 0 1 4 1 .w1c 0 0 1 true false,
   row 0x06000028 1 0 1 0 1 5 1 .w1c 0 0 1 true false,
   row 0x06000100 1 32 24 0 1 0 1 .ro 0 0 1 false false,
   row 0x06000100 1 32 24 0 1 1 3 .ro 0 0 7 false false,
   row 0x06000100 1 32 24 0 1 4 3 .ro 0 0 7 false false,
   row 0x06000100 1 32 24 0 1 8 8 .ro 0 0 255 false false,
   row 0x06000100 1 32 24 0 1 16 8 .ro 0 0 255 false false,
   row 0x06000104 1 32 24 0 1 0 1 .wo 0 0 1 true false,
   row 0x06000108 1 32 24 0 1 0 32 .ro 0 0 4294967295 false false]

/-- Rows of Table 17.5 (continued): DRV_PORT_TIMEOUTS, DRV_PORT_AER, DRV_PORT_WIN, DRV_WIN_BASE, DRV_WIN_CTRL,
DRV_WIN_TARGET. -/
def rows17_5a : List PRow :=
  [row 0x0600010C 1 32 24 0 1 0 32 .ro 0 0 4294967295 false false,
   row 0x06000110 1 32 24 0 1 0 32 .ro 0 0 4294967295 false false,
   row 0x06000114 1 32 24 0 1 0 1 .ro 0 0 1 false false,
   row 0x06000114 1 32 24 0 1 16 16 .ro 0 0 65535 false false,
   row 0x06001000 1 512 24 32 16 0 32 .ro 0 0 4294967295 false false,
   row 0x06001008 1 512 24 32 16 0 6 .ro 0 0 63 false false,
   row 0x06001008 1 512 24 32 16 8 2 .ro 0 0 3 false false,
   row 0x06001008 1 512 24 32 16 12 1 .ro 0 0 1 false false,
   row 0x06001008 1 512 24 32 16 13 1 .ro 0 0 1 false false,
   row 0x06001008 1 512 24 32 16 14 1 .ro 0 0 1 false false,
   row 0x0600100C 2 512 24 32 16 0 32 .ro 0 0 4294967295 false false]

/-- Rows of Table 17.6: SEP_STATE, SEP_CTRL, SEP_MBX_MAP, SEP_RESETS, SEP_DROPPED, SEP_STATUS. -/
def rows17_6 : List PRow :=
  [row 0x07000000 1 0 1 0 1 0 1 .ro 0 0 1 false false,
   row 0x07000000 1 0 1 0 1 1 3 .ro 0 0 7 false false,
   row 0x07000000 1 0 1 0 1 4 3 .ro 0 0 7 false false,
   row 0x07000000 1 0 1 0 1 8 1 .ro 0 0 1 false false,
   row 0x07000000 1 0 1 0 1 9 1 .ro 0 0 1 false false,
   row 0x07000004 1 0 1 0 1 0 1 .rw 0 0 1 false false,
   row 0x07000008 2 0 1 0 1 0 32 .rw 0 0 4294967295 false false,
   row 0x07000010 1 0 1 0 1 0 32 .ro 0 0 4294967295 false false,
   row 0x07000014 1 0 1 0 1 0 32 .ro 0 0 4294967295 false false,
   row 0x07000018 1 0 1 0 1 0 1 .w1c 0 0 1 true false,
   row 0x07000018 1 0 1 0 1 1 1 .w1c 0 0 1 true false,
   row 0x07000018 1 0 1 0 1 2 1 .w1c 0 0 1 true false,
   row 0x07000018 1 0 1 0 1 3 1 .w1c 0 0 1 true false]

/-- Rows of Table 18.5: PAIR_STATE, PAIR_LINK, PAIR_OWNED, PAIR_HOME, PAIR_HB_INTERVAL, PAIR_HB_MISS, PAIR_LEASE,
PAIR_FENCE_DEFER, PAIR_CTRL, PAIR_PEER_DIGEST, PAIR_MIRROR_PEAK, PAIR_FORWARDED, PAIR_TAKEOVERS, PAIR_LAST_TAKEOVER,
PAIR_STATUS. -/
def rows18_5 : List PRow :=
  [row 0x08000000 1 0 1 0 1 0 3 .ro 0 0 7 false false,
   row 0x08000000 1 0 1 0 1 3 1 .ro 0 0 1 false false,
   row 0x08000000 1 0 1 0 1 4 1 .ro 0 0 1 false false,
   row 0x08000000 1 0 1 0 1 5 1 .ro 0 0 1 false false,
   row 0x08000004 1 0 1 0 1 0 4 .ro 0 0 15 false false,
   row 0x08000004 1 0 1 0 1 8 8 .ro 0 0 255 false false,
   row 0x08000008 2 0 1 0 1 0 32 .ro 0 0 4294967295 false false,
   row 0x08000010 2 0 1 0 1 0 32 .rw 12297829382473034410 0 4294967295 true false,
   row 0x08000018 1 0 1 0 1 0 32 .rw 1000 250 2000 false false,
   row 0x0800001C 1 0 1 0 1 0 32 .rw 10 4 10 false false,
   row 0x08000020 1 0 1 0 1 0 32 .ro 8 0 4294967295 false false,
   row 0x08000024 1 0 1 0 1 0 32 .ro 2000 0 4294967295 false false,
   row 0x08000028 1 0 1 0 1 0 1 .rw 1 0 1 true false,
   row 0x08000028 1 0 1 0 1 1 1 .wo 0 0 1 true false,
   row 0x0800002C 8 0 1 0 1 0 32 .rw 0 0 4294967295 false false,
   row 0x0800004C 1 0 1 0 1 0 32 .ro 0 0 4294967295 false false,
   row 0x08000050 1 0 1 0 1 0 32 .ro 0 0 4294967295 false false,
   row 0x08000054 1 0 1 0 1 0 32 .ro 0 0 4294967295 false false,
   row 0x08000058 1 0 1 0 1 0 32 .ro 0 0 4294967295 false false,
   row 0x0800005C 1 0 1 0 1 0 1 .w1c 0 0 1 true false,
   row 0x0800005C 1 0 1 0 1 1 1 .w1c 0 0 1 true false,
   row 0x0800005C 1 0 1 0 1 2 1 .w1c 0 0 1 true false,
   row 0x0800005C 1 0 1 0 1 3 1 .w1c 0 0 1 true false,
   row 0x0800005C 1 0 1 0 1 4 1 .w1c 0 0 1 true false]

/-- Rows of Table 18.5 (continued): PAIR_STATUS. -/
def rows18_5a : List PRow :=
  [row 0x0800005C 1 0 1 0 1 5 1 .w1c 0 0 1 true false]

/-- Rows of Table 18.6: TET_STATE, TET_MEMBERS, TET_HB_INTERVAL, TET_HB_MISS, TET_CTRL, TET_STATUS, TET_MEMBER,
TET_MEMBER_SHELF, TET_MEMBER_DIGEST, TET_MEMBER_AGE. -/
def rows18_6 : List PRow :=
  [row 0x09000000 1 0 1 0 1 0 4 .ro 0 0 15 false false,
   row 0x09000000 1 0 1 0 1 4 1 .ro 0 0 1 false false,
   row 0x09000000 1 0 1 0 1 5 1 .ro 0 0 1 false false,
   row 0x09000000 1 0 1 0 1 6 1 .ro 0 0 1 false false,
   row 0x09000000 1 0 1 0 1 7 1 .ro 0 0 1 false false,
   row 0x09000000 1 0 1 0 1 8 1 .ro 0 0 1 false false,
   row 0x09000000 1 0 1 0 1 9 1 .ro 0 0 1 false false,
   row 0x09000004 1 0 1 0 1 0 16 .ro 0 0 65535 false false,
   row 0x09000008 1 0 1 0 1 0 32 .rw 100 10 1000 true false,
   row 0x0900000C 1 0 1 0 1 0 32 .rw 3 2 10 false false,
   row 0x09000010 1 0 1 0 1 0 1 .wo 0 0 1 true false,
   row 0x09000010 1 0 1 0 1 1 1 .rw 1 0 1 false false,
   row 0x09000014 1 0 1 0 1 0 1 .w1c 0 0 1 true false,
   row 0x09000014 1 0 1 0 1 1 1 .w1c 0 0 1 true false,
   row 0x09000014 1 0 1 0 1 2 1 .w1c 0 0 1 true false,
   row 0x09000014 1 0 1 0 1 3 1 .w1c 0 0 1 true false,
   row 0x09000014 1 0 1 0 1 4 1 .w1c 0 0 1 true false,
   row 0x09000100 1 64 16 0 1 0 2 .ro 0 0 3 false false,
   row 0x09000104 2 64 16 0 1 0 32 .ro 0 0 4294967295 false false,
   row 0x0900010C 8 64 16 0 1 0 32 .ro 0 0 4294967295 false false,
   row 0x0900012C 1 64 16 0 1 0 32 .ro 0 0 4294967295 false false]

/-- Rows of Table 21.4: PWR_STATE, PWR_VIN, PWR_IIN, PWR_CAP, PWR_HOLDUP_J, PWR_HOLDUP_CAPACITY, PWR_ILIM,
PWR_UV_RISE, PWR_UV_FALL, PWR_OV_RISE, PWR_OV_FALL, PWR_INSERT_DELAY, PWR_PRE_TIME, PWR_RAMP_RATE, PWR_RAMP_ILIM,
PWR_RAMP_FAULT, PWR_FAULT_TIME, PWR_PG_QUAL, PWR_PG_HIGH. -/
def rows21_4 : List PRow :=
  [row 0x0A000000 1 0 1 0 1 0 4 .ro 0 0 15 false false,
   row 0x0A000000 1 0 1 0 1 4 2 .ro 0 0 3 false false,
   row 0x0A000000 1 0 1 0 1 6 1 .ro 0 0 1 false false,
   row 0x0A000000 1 0 1 0 1 7 1 .ro 0 0 1 false false,
   row 0x0A000000 1 0 1 0 1 8 1 .ro 0 0 1 false false,
   row 0x0A000000 1 0 1 0 1 9 1 .ro 0 0 1 false false,
   row 0x0A000004 1 0 1 0 1 0 32 .ro 0 0 4294967295 false false,
   row 0x0A000008 1 0 1 0 1 0 32 .ro 0 0 4294967295 false false,
   row 0x0A00000C 1 0 1 0 1 0 32 .ro 420 0 4294967295 false false,
   row 0x0A000010 1 0 1 0 1 0 32 .ro 0 0 4294967295 false false,
   row 0x0A000014 1 0 1 0 1 0 32 .ro 0 0 4294967295 false false,
   row 0x0A000018 1 0 1 0 1 0 32 .rw 45000 20000 50000 false false,
   row 0x0A00001C 1 0 1 0 1 0 32 .rw 4800 4700 6000 false false,
   row 0x0A000020 1 0 1 0 1 0 32 .ro 4500 0 4294967295 false false,
   row 0x0A000024 1 0 1 0 1 0 32 .ro 18500 0 4294967295 false false,
   row 0x0A000028 1 0 1 0 1 0 32 .ro 18000 0 4294967295 false false,
   row 0x0A00002C 1 0 1 0 1 0 32 .rw 100 10 1000 false false,
   row 0x0A000030 1 0 1 0 1 0 32 .rw 50 5 500 false false,
   row 0x0A000034 1 0 1 0 1 0 32 .rw 1000 100 5000 false false,
   row 0x0A000038 1 0 1 0 1 0 32 .rw 8000 1000 15000 false false,
   row 0x0A00003C 1 0 1 0 1 0 32 .rw 20 5 200 false false,
   row 0x0A000040 1 0 1 0 1 0 32 .rw 10000 1000 50000 false false,
   row 0x0A000044 1 0 1 0 1 0 32 .rw 10000 100 100000 false false,
   row 0x0A000048 1 0 1 0 1 0 32 .rw 95 90 98 false false]

/-- Rows of Table 21.4 (continued): PWR_PG_LOW, PWR_BELAY_QUAL, PWR_HOLDUP_MIN, PWR_FAILS, PWR_LAST_STOP, PWR_STATUS.
-/
def rows21_4a : List PRow :=
  [row 0x0A00004C 1 0 1 0 1 0 32 .rw 85 70 98 false false,
   row 0x0A000050 1 0 1 0 1 0 32 .rw 100 20 1000 false false,
   row 0x0A000054 1 0 1 0 1 0 32 .rw 400 360 600 false false,
   row 0x0A000058 1 0 1 0 1 0 3 .ro 0 0 7 false false,
   row 0x0A00005C 1 0 1 0 1 0 4 .ro 0 0 15 false false,
   row 0x0A000060 1 0 1 0 1 0 1 .w1c 0 0 1 true false,
   row 0x0A000060 1 0 1 0 1 1 1 .w1c 0 0 1 true false,
   row 0x0A000060 1 0 1 0 1 2 1 .w1c 0 0 1 true false,
   row 0x0A000060 1 0 1 0 1 3 1 .w1c 0 0 1 true false,
   row 0x0A000060 1 0 1 0 1 4 1 .w1c 0 0 1 true false,
   row 0x0A000060 1 0 1 0 1 5 1 .w1c 0 0 1 true false,
   row 0x0A000060 1 0 1 0 1 6 1 .w1c 0 0 1 true false,
   row 0x0A000060 1 0 1 0 1 7 1 .w1c 0 0 1 true false,
   row 0x0A000060 1 0 1 0 1 8 1 .w1c 0 0 1 true false]

/-- Rows of Table 21.5: SLOT_PG, SLOT_PRESENT, SLOT_ENABLED, SLOT_LATCHED, SLOT_ILIM, SLOT_UV_RISE, SLOT_UV_FALL,
SLOT_OV_RISE, SLOT_INSERT_DELAY, SLOT_PRE_TIME, SLOT_RAMP_RATE, SLOT_RAMP_ILIM, SLOT_RAMP_FAULT, SLOT_FAULT_TIME,
SLOT_PG_QUAL, SLOT_STAGGER, SLOT_STATUS, SLOT_CH_STATE. -/
def rows21_5 : List PRow :=
  [row 0x0B000000 1 0 1 0 1 0 24 .ro 0 0 16777215 false false,
   row 0x0B000004 1 0 1 0 1 0 24 .ro 0 0 16777215 false false,
   row 0x0B000008 1 0 1 0 1 0 24 .ro 0 0 16777215 false false,
   row 0x0B00000C 1 0 1 0 1 0 24 .ro 0 0 16777215 false false,
   row 0x0B000010 1 0 1 0 1 0 32 .rw 5000 1000 10000 false false,
   row 0x0B000014 1 0 1 0 1 0 32 .rw 4800 4700 11500 false false,
   row 0x0B000018 1 0 1 0 1 0 32 .rw 4500 4500 11000 false false,
   row 0x0B00001C 1 0 1 0 1 0 32 .rw 18500 12500 18500 false false,
   row 0x0B000020 1 0 1 0 1 0 32 .rw 200 50 2000 false false,
   row 0x0B000024 1 0 1 0 1 0 32 .rw 20 2 200 false false,
   row 0x0B000028 1 0 1 0 1 0 32 .rw 2000 200 10000 false false,
   row 0x0B00002C 1 0 1 0 1 0 32 .rw 1500 200 5000 false false,
   row 0x0B000030 1 0 1 0 1 0 32 .rw 20 5 200 false false,
   row 0x0B000034 1 0 1 0 1 0 32 .rw 5000 500 20000 false false,
   row 0x0B000038 1 0 1 0 1 0 32 .rw 5000 100 100000 false false,
   row 0x0B00003C 1 0 1 0 1 0 32 .rw 50 0 1000 false false,
   row 0x0B000040 1 0 1 0 1 0 1 .w1c 0 0 1 true false,
   row 0x0B000040 1 0 1 0 1 1 1 .w1c 0 0 1 true false,
   row 0x0B000040 1 0 1 0 1 2 1 .w1c 0 0 1 true false,
   row 0x0B000040 1 0 1 0 1 3 1 .w1c 0 0 1 true false,
   row 0x0B000040 1 0 1 0 1 4 1 .w1c 0 0 1 true false,
   row 0x0B000040 1 0 1 0 1 5 1 .w1c 0 0 1 true false,
   row 0x0B000100 1 32 24 0 1 0 4 .ro 0 0 15 false false,
   row 0x0B000100 1 32 24 0 1 4 1 .ro 0 0 1 false false]

/-- Rows of Table 21.5 (continued): SLOT_CH_STATE, SLOT_VOUT, SLOT_IOUT, SLOT_CH_CTRL, SLOT_CH_FAILS. -/
def rows21_5a : List PRow :=
  [row 0x0B000100 1 32 24 0 1 5 1 .ro 0 0 1 false false,
   row 0x0B000100 1 32 24 0 1 6 1 .ro 0 0 1 false false,
   row 0x0B000100 1 32 24 0 1 7 3 .ro 0 0 7 false false,
   row 0x0B000100 1 32 24 0 1 10 2 .ro 0 0 3 false false,
   row 0x0B000104 1 32 24 0 1 0 32 .ro 0 0 4294967295 false false,
   row 0x0B000108 1 32 24 0 1 0 32 .ro 0 0 4294967295 false false,
   row 0x0B00010C 1 32 24 0 1 0 1 .wo 0 0 1 true false,
   row 0x0B000110 1 32 24 0 1 0 32 .ro 0 0 4294967295 false false]

/-- Rows of Table 22.5: PST_STATE, PST_CTRL, PST_DROWSE_IDLE, PST_DORMANT_IDLE, PST_DOMAIN_IDLE, PST_DOMAIN_WAKE,
PST_EXIT_DROWSE, PST_EXIT_DORMANT, PST_SHUTDOWN_MAX, PST_WAKE_CAUSE, PST_LAST_EXIT, PST_ENTRIES, PST_ABORTS,
PST_STATUS. -/
def rows22_5 : List PRow :=
  [row 0x0C000000 1 0 1 0 1 0 3 .ro 0 0 7 false false,
   row 0x0C000000 1 0 1 0 1 3 1 .ro 0 0 1 false false,
   row 0x0C000000 1 0 1 0 1 4 3 .ro 0 0 7 false false,
   row 0x0C000000 1 0 1 0 1 7 1 .ro 0 0 1 false false,
   row 0x0C000004 1 0 1 0 1 0 1 .rw 1 0 1 true true,
   row 0x0C000004 1 0 1 0 1 1 1 .rw 1 0 1 false false,
   row 0x0C000008 1 0 1 0 1 0 32 .rw 1000 10 60000 true true,
   row 0x0C00000C 1 0 1 0 1 0 32 .rw 60 10 3600 false true,
   row 0x0C000010 1 0 1 0 1 0 32 .rw 1000 100 100000 false true,
   row 0x0C000014 1 0 1 0 1 0 32 .ro 20 0 4294967295 false false,
   row 0x0C000018 1 0 1 0 1 0 32 .ro 50 0 4294967295 false false,
   row 0x0C00001C 1 0 1 0 1 0 32 .ro 300 0 4294967295 false false,
   row 0x0C000020 1 0 1 0 1 0 32 .rw 10000 1000 30000 false false,
   row 0x0C000024 1 0 1 0 1 0 8 .w1c 0 0 255 true false,
   row 0x0C000028 1 0 1 0 1 0 32 .ro 0 0 4294967295 false false,
   row 0x0C00002C 1 0 1 0 1 0 32 .ro 0 0 4294967295 false false,
   row 0x0C000030 1 0 1 0 1 0 32 .ro 0 0 4294967295 false false,
   row 0x0C000034 1 0 1 0 1 0 1 .w1c 0 0 1 true false,
   row 0x0C000034 1 0 1 0 1 1 1 .w1c 0 0 1 true false,
   row 0x0C000034 1 0 1 0 1 2 1 .w1c 0 0 1 true false,
   row 0x0C000034 1 0 1 0 1 3 1 .w1c 0 0 1 true false,
   row 0x0C000034 1 0 1 0 1 4 1 .w1c 0 0 1 true false]

/-- Rows of Table 23.4: EVT_STATE, EVT_SOURCES, EVT_RING_ENTRIES, EVT_COALESCE, EVT_PLDM, EVT_OVERFLOWS, EVT_STATUS,
EVT_MASK. -/
def rows23_4 : List PRow :=
  [row 0x0D000000 1 0 1 0 1 0 1 .ro 0 0 1 false false,
   row 0x0D000000 1 0 1 0 1 1 1 .ro 0 0 1 false false,
   row 0x0D000004 1 0 1 0 1 0 32 .ro 4096 0 4294967295 false false,
   row 0x0D000008 1 0 1 0 1 0 32 .ro 1024 0 4294967295 false false,
   row 0x0D00000C 1 0 1 0 1 0 32 .rw 10000 0 600000 true false,
   row 0x0D000010 1 0 1 0 1 0 1 .rw 1 0 1 true false,
   row 0x0D000014 1 0 1 0 1 0 32 .ro 0 0 4294967295 false false,
   row 0x0D000018 1 0 1 0 1 0 1 .w1c 0 0 1 true false,
   row 0x0D000018 1 0 1 0 1 1 1 .w1c 0 0 1 true false,
   row 0x0D000100 1 32 16 0 1 0 32 .rw 0 0 4294967295 true false]

/-- Every row of every parameter map. -/
def rowsAll : List PRow :=
  rows3_7 ++ rows3_7a ++ rows6_7 ++ rows7_8 ++ rows7_8a ++ rows8_6 ++
  rows8_6a ++ rows9_7 ++ rows12_7 ++ rows12_7a ++ rows13_5 ++ rows14_3 ++
  rows14_3a ++ rows14_3b ++ rows15_4 ++ rows16_4 ++ rows16_4a ++ rows16_5 ++
  rows17_5 ++ rows17_5a ++ rows17_6 ++ rows18_5 ++ rows18_5a ++ rows18_6 ++
  rows21_4 ++ rows21_4a ++ rows21_5 ++ rows21_5a ++ rows22_5 ++ rows23_4

end Machine
end Sys2Proof
end

