-- ==== Sys2Proof/Machine/State.lean ====
section
/-!
DEFINITION. The state of the module, chapter by chapter, the state after reset, and the closed lists of faults and refusals.
Times are instants of Shelf Time or Custody Time in units of 2^-16 ns unless a field says otherwise.
-/
namespace Sys2Proof
namespace Machine

/-! ## Stamps, principals and messages -/

/-- A commit stamp (03 Table 3.6): Shelf Time in units of 2^-16 ns, then the order among mutations of one time. -/
structure CStamp where
  time : Nat
  seq  : Nat
deriving DecidableEq, Repr

/-- A custody stamp (03 Table 3.4). -/
structure KStamp where
  sec   : Nat
  ns    : Nat
  flags : Nat
  count : Nat
deriving DecidableEq, Repr

/-- Where a message leaves the module. -/
inductive Port where
  | ctx (n : Nat)
  | mbx (n : Nat)
  | mac (n : Nat)
  | drive (slot : Nat)
  | pair
  | tether (down : Bool)
  | spdm
  | pldm
  | endpoint
  | host
deriving DecidableEq, Repr

/-- What kind of message leaves the module. -/
inductive MsgKind where
  | nvme | uop | mailbox | nvmeEvent | myavo | setup | bryndle | roce | frame | driveCmd | pairRec | forward
  | heartbeat | pairState | dying | tetherFrame | plevent | spdm | msix | remoteWrite | remoteRead | arbiter | pin | feed | fuse
deriving DecidableEq, Repr

/-- One message, completion, frame or drive command the module has sent. -/
structure Msg where
  /-- where it leaves -/
  port   : Port
  /-- what it is -/
  kind   : MsgKind
  /-- opcode or type of the message, as its own table numbers it -/
  op     : Nat
  /-- tag, command identifier or sequence it answers -/
  tag    : Nat
  /-- status: 16-bit code (R15), or for NVMe DNR, CRD, SCT and SC as bits 14, 13 to 12, 10 to 8 and 7 to 0 -/
  status : Nat
  /-- its fields in table order with their sizes -/
  body   : Flds
  /-- its data bytes -/
  data   : Bytes
  /-- the VLAN identifier and PCP of the 802.1Q tag its frames carry (14 R361) -/
  vlan   : Option (Nat × Nat) := none
  /-- the Bryndle packets that carry it, each with where it goes (12 R308 to R311); none for what is no Bryndle message -/
  wire   : List (PeerAddr × Bytes) := []
deriving DecidableEq, Repr

/-- Durability level of a completion (04 Table 4.6). -/
inductive Level where
  | none | isProtected | onMedia
deriving DecidableEq, Repr

/-- A quorum act as it is performed (02 R39): the call whose connection takes its response, the opcode that response
echoes, the act's opcode, its statement digest, its body digest, the statement and the keys whose signatures were counted. -/
structure QCtx where
  call    : Call
  rop     : Nat
  op      : Nat
  id      : Digest
  body    : Digest
  stmt    : Flds
  signers : List Digest
deriving DecidableEq, Repr

/-- The class of the drive scheduler a command belongs to (15 Table 15.2): log writes and the module's own housekeeping; QUIET reserved
reads; rebuild and restore; relocation; host work of a tenant on a collection (kind 1) or a namespace (kind 2); a hitch; scrub. -/
inductive DriveFlow where
  | log | quiet | rebuild | relocation
  | host (tenant kind num : Nat)
  | hitch | scrub
deriving DecidableEq, Repr

/-- A format, of one namespace or of those of a Format or a tenant sanitise: the phase it runs next, the completions that leave before its first
phase, the LBA format, PI type and PI place it sets, the commit stamps it took, the bank generation that carries its new records (04 R114 to R116). -/
structure FormatJob where
  nss      : List Nat
  sanitise : Bool
  next     : Nat
  before   : List Nat
  fmt      : Option (Bool × Nat × Bool)
  stamps   : List (Nat × CStamp)
  gen      : Nat
deriving DecidableEq, Repr

/-- What a completion does as it leaves, beside leaving: the end of a VERIFY or of a GET (05 R143, R137), the next phase of a long act
(04 R115, R118; 05 R146). -/
inductive HeldJob where
  /-- VERIFY of an object: tenant, collection, MAC, caller code of 09 Table 9.4, read point -/
  | verify (tenant coll : Nat) (mac : Digest) (caller : Nat) (point : CStamp)
  | get (coll : Nat) (mac : Digest)
  /-- a SEAL that waits for the parts its digests read back: collection, MAC, the command and its ingress (05 R134) -/
  | digest (coll : Nat) (mac : Digest) (cmd : Instr) (ingress : Nat)
  /-- the next phase of a format (04 R115, R116) -/
  | format (j : FormatJob)
  /-- the salts of deleted namespaces have been overwritten, and their NSIDs are free (04 R100) -/
  | nsDelete (nss : List Nat)
  /-- phase X1 of a tenant erasure has ended once the tenant's admitted commands have; phase X4 once its overwrites have -/
  | eraseCheck (tenant : Nat) (q : QCtx)
  | eraseEnd (tenant : Nat) (q : QCtx)
  /-- the regions of a tenant's closed sessions are drained: phase X4 of its erasure (05 R146; 13 R342) -/
  | eraseWraps (tenant : Nat) (q : QCtx)
  /-- the regions of all sessions are drained: the keys of phase S2 of a shelf-wide sanitise and phase S3 (04 R118; 13 R342) -/
  | sanitiseKeys
  /-- the regions of all sessions are drained: the steps of a debug unlock after the second (02 R61; 13 R342) -/
  | unlock
  /-- phase S3 of a shelf-wide sanitise has ended, and phase S4 -/
  | sanitiseDrives
  | sanitiseEnd
  /-- the answer to a batch of a hitch, and the end of one (11 R293, R300) -/
  | hitchBatch (id : BitVec 128) (tenant number : Nat)
  | hitchComplete (id : BitVec 128)
deriving DecidableEq, Repr

/-- A completion or answer that has not left yet, with everything it still waits for. -/
structure Held where
  /-- the model's number for it -/
  id      : Nat
  msg     : Msg
  /-- Shelf Time before which it does not leave: R51 instant, or commit stamp time + 64 ns (R86); units of 2^-16 ns -/
  notBefore : Nat
  /-- true for an E_NOT_VISIBLE answer held for its time class (R51) -/
  nv      : Bool
  /-- the class delay of a held not-visible answer, whose multiples R52 counts; units of 2^-16 ns -/
  nvDelay : Nat
  /-- shard and splice sequence it waits for, and at which level (R201) -/
  shard   : Nat
  splice  : Nat
  level   : Level
  /-- further shards and splice sequences it waits for at that level (04 R111) -/
  also    : List (Nat × Nat)
  /-- the receipt it waits for: tenant, number of the batch, leaf in it (R246) -/
  batch   : Option (Nat × Nat × Nat)
  /-- drive command tags it waits for, each a slot and a tag -/
  drives  : List (Nat × Nat)
  /-- rows whose stripes were written directly and must be on media, each a segment and a row (07 R185) -/
  rows    : List (Nat × Nat)
  /-- record-bank generation that every present member must hold, in both banks where it overwrites in place (10 R266) -/
  bank    : Option (Nat × Bool)
  /-- closed contexts whose landing regions must be drained, each a number and a generation (13 R342) -/
  drains  : List (Nat × Nat)
  /-- host memory key and address its data goes to, where the command named them (05 R121, kind 3) -/
  remote  : Option (Nat × Nat)
  job     : Option HeldJob
  /-- the drive scheduler's class of its reads (15 R385) -/
  flow    : DriveFlow
  /-- some strip it read was supplied from parity -/
  repaired : Bool
deriving DecidableEq, Repr

/-! ## Authority (02) -/

/-- The role a key holds for the life of the shelf (02 R32). A grant holder is one of the tenant with a key, whose number another tenant
may take later. -/
inductive KeyRole where
  | custodian | timeAuthority | escrow | tenant (n : Nat) | holder (tenantKey : Digest) | auditor | operator
deriving DecidableEq, Repr

/-- The target of a ceremony, whose state stamp R41 compares (02 R39). -/
inductive Target where
  | custodianSet | timeAuthority | keys | custodyKey | tenant (n : Nat) | locks (coll : Nat) (mac : Digest)
  | baseImage | overlay (cls : Nat) | shelf | hitch (id : BitVec 128) | firmware | debug
deriving DecidableEq, Repr

/-- An open ceremony (02 R39, R42). -/
structure Ceremony where
  /-- digest of its statement -/
  id       : Digest
  opcode   : Nat
  act      : QAct
  bodyDig  : Digest
  nonce    : Digest
  target   : Target
  /-- the target's state stamp at QUORUM_BEGIN -/
  stamp    : CStamp
  /-- expiry in Shelf Time, units of 2^-16 ns -/
  expiry   : Nat
  /-- distinct keys whose valid signatures are counted -/
  signers  : List Digest
  /-- held by the partner module (R42) -/
  remote   : Bool
  /-- begun before service opened: its deadline on the oscillator's timeline (03 R80) -/
  ticked   : Option Nat
deriving DecidableEq, Repr

/-- A firmware image being staged into the inactive vault slot (02 R63, 19 FW_STAGE). -/
structure FwStaging where
  received : Nat
  length   : Nat
  digest   : Option Digest
  svn      : Nat
  /-- its release, and the vendor keys it revokes (02 R64) -/
  release  : BitVec 128
  revokes  : List Digest
deriving DecidableEq, Repr

/-- A key wrapped to the escrow key (02 R45): the digest of that key, the ephemeral X25519 public key, the ML-KEM-1024 ciphertext, the key
under AES-256-KW, and when it was wrapped. -/
structure EscrowWrap where
  escrow  : Digest
  ephemeral : Nat
  ct      : Nat
  wrapped : Nat
  stamp   : KStamp
deriving DecidableEq, Repr

/-- State of chapter 02. -/
structure Auth where
  /-- custodian keys in force | list of digests | 02 R38 | [] (first use; log entry 1) -/
  custKeys   : List Digest
  /-- quorum size k | small | 02 R38 | 3 -/
  quorumK    : Nat
  /-- every key ever enrolled with its role | list | 02 R32 | [] -/
  keys       : List (Digest × KeyRole)
  /-- time authority key in force | 256 | 02 Table 2.5, 03 R76 | none -/
  timeKey    : Option Digest
  /-- escrow key digest | 256 | 02 R45 | none -/
  escrowKey  : Option Digest
  /-- grants in force, at most 262,144 | list | 02 R34 | [] -/
  grants     : List GrantRec
  /-- open ceremonies, at most 16 shelf-wide | list | 02 R39, R40, R42 | [] -/
  ceremonies : List Ceremony
  /-- state stamps of ceremony targets, newest change | list | 02 R39 | [] -/
  targets    : List (Target × CStamp)
  /-- digests of firmware images consented by a completed ceremony | list | 02 R63 | [] -/
  fwConsent  : List Digest
  /-- vendor key digests fused and not revoked, up to 4 | list | 02 Table 2.1, R63, R64 | [] DESIGN CHOICE, log entry 1 -/
  vendorKeys : List Digest
  /-- anti-rollback fuse count, 0 to 127 | 7 | 02 R64 | 0 DESIGN CHOICE, log entry 1 -/
  fusedSvn   : Nat
  /-- SVN of the running image, 0 to 127 | 7 | 02 R63 | 0 DESIGN CHOICE, log entry 1 -/
  runningSvn : Nat
  /-- firmware release in force, ASCII, space-padded | 128 | 19 Table 19.4, 01 R30 | `3.2` (00 R1) -/
  release    : BitVec 128
  /-- the image that ran before the one in force, while that is not committed: SVN and release | struct | 02 R64 | none -/
  previous   : Option (Nat × BitVec 128)
  /-- vendor key digests revoked by a fuse | list | 02 R64 | [] -/
  revoked    : List Digest
  /-- QUORUM_SIGN calls whose signature was forwarded to the partner, which holds the ceremony: statement, key, call | list | 02 R42 | [] -/
  asked      : List (Digest × Digest × Call)
  /-- image in the inactive vault slot | struct | 02 R63 | none -/
  staging    : Option FwStaging
  /-- outstanding debug nonce and the Shelf Time of its challenge | 256 | 02 R60 | none -/
  debugNonce : Option (Digest × Nat)
  /-- JTAG unlocked | 1 | 02 R61, R62 | false -/
  unlocked   : Bool
  /-- shelf wrapping key held in the SoC | 256 | 02 Table 2.6, R44 | none -/
  shelfKey   : Option (BitVec 512)
  /-- the shelf wrapping key that the vault holds, wrapped under the device sealing key | 256 | 02 Table 2.6, R61 | none -/
  shelfVault : Option (BitVec 512)
  /-- escrow wrap of the shelf wrapping key | struct | 02 R45, 10 Table 10.4 | none -/
  shelfEscrow : Option EscrowWrap
  /-- custody stamp of the enrolment of the escrow key | 128 | 10 Table 10.4 | 0 -/
  escrowAt   : KStamp
  /-- DRAM inline-encryption key drawn at start-up: its draw number | model | 02 R44 | 0 -/
  dramKey    : Nat
  /-- DRBG draws taken: the model's own counter, no field of the spec | model | log entry 2 | 0 DESIGN CHOICE -/
  drawn      : Nat
  /-- free values taken: the model's own counter, no field of the spec | model | log entry 2 | 0 DESIGN CHOICE -/
  freeUsed   : Nat
deriving DecidableEq, Repr

/-! ## Time (03) -/

/-- Shelf Time states (03 R67). -/
inductive TsMode where
  | freerun | acquiring | locked | holdover
deriving DecidableEq, Repr

/-- Anchor states (03 R74). -/
inductive Anchor where
  | unanchored | anchored | aged
deriving DecidableEq, Repr

/-- A foreign master tracked by the BMCA (03 Table 3.2). -/
structure Foreign where
  data   : AnnounceData
  heard  : Nat
deriving DecidableEq, Repr

/-- The outstanding time challenge (03 R76): connection, nonce, egress stamp. -/
structure Challenge where
  mbx    : Nat
  nonce  : Digest
  egress : Nat
deriving DecidableEq, Repr

/-- State of chapter 03. Times are in units of 2^-16 ns except where said. -/
structure Time where
  /-- oscillator ticks since power-on, ns | 64 | 03 R80 | 0 -/
  ticks      : Nat
  /-- Shelf Time since the PTP epoch, 2^-16 ns | 96 | 03 R66 | 0 DESIGN CHOICE, log entry 1 -/
  shelf      : Nat
  /-- Shelf Time less every step it has taken: the timeline of deadlines set before service opens, 2^-16 ns | model | 03 R80 | 0 -/
  mono       : Nat
  /-- the instant of that timeline at which service opened, and how far slewing has carried it from the oscillator since | model | 03 R80 | 0, 0 -/
  openedAt   : Nat
  slewed     : Int
  /-- Shelf Time state | 3 | 03 R67, Table 3.7 | FREERUN -/
  mode       : TsMode
  /-- LOCKED reached since start-up | 1 | 03 R67 | false -/
  everLocked : Bool
  /-- remaining phase to slew, signed 2^-16 ns | model | 03 R70 | 0 -/
  slewLeft   : Int
  /-- grandmaster in use | struct | 03 R67 | none -/
  gm         : Option AnnounceData
  /-- grandmaster distrusted under R70 | 64 | 03 R70 | none -/
  distrusted : Option Word64
  /-- foreign masters tracked, up to 8 | list | 03 Table 3.2 | [] -/
  foreign    : List Foreign
  /-- a Shelf Time instant since which the offset stayed below 100 ns | 96 | 03 R67 | none -/
  goodSince  : Option Nat
  /-- offset to the grandmaster, ns | 32 signed | 03 Table 3.7 | 0 -/
  ptpOffset  : Int
  /-- mean path delay of the last Delay_Resp, ns | 64 | 03 Table 3.2 | 0 -/
  pathDelay  : Int
  /-- egress stamp of the Delay_Req awaiting its Delay_Resp | 96 | 03 Table 3.2 | none -/
  delayReq   : Option Nat
  /-- the active PTP MAC has been taken over by the standby | 1 | 03 Table 3.2 | false -/
  onStandby  : Bool
  /-- entry instant of the current HOLDOVER | 96 | 03 R71, Table 3.7 | none -/
  holdSince  : Option Nat
  /-- pps_in qualified | 1 | 03 R69 | false -/
  ppsQual    : Bool
  /-- consecutive pps edges off (or, while disqualified, agreeing) | 4 | 03 R69 | 0 -/
  ppsRun     : Nat
  /-- ref10m_in qualified | 1 | 03 R69 | false -/
  refQual    : Bool
  /-- the frequency of ref10m_in against the OCXO, parts in 10^9 | model | 03 R69 | 0 -/
  refPpb     : Int
  /-- this module is the pair follower | 1 | 03 R72 | false -/
  follower   : Bool
  /-- the follower has taken the leader's time, and the leader's Shelf Time state, which it reports | 1, 3 | 03 R67, R72 | false, FREERUN -/
  aligned    : Bool
  leadMode   : TsMode
  /-- Shelf Time offset to the partner, ns | 32 signed | 03 Table 3.7 | 0 -/
  pairOffset : Int
  /-- Custody Time since the PTP epoch, 2^-16 ns | 96 | 03 R73 | 0 DESIGN CHOICE, log entry 1 -/
  custody    : Nat
  /-- custody offset fixed at the last beacon, signed 2^-16 ns | model | 03 R73 | 0 -/
  custOffset : Int
  /-- anchor state | 2 | 03 R74 | Unanchored -/
  anchor     : Anchor
  /-- Custody Time of the last accepted beacon, 2^-16 ns | 64 | 03 R74, Table 3.7 | 0 -/
  lastBeacon : Nat
  /-- beacons accepted since first-use initialisation | 32 | 03 R77 | 0 -/
  beacons    : Nat
  /-- outstanding time challenge | struct | 03 R76 | none -/
  challenge  : Option Challenge
  /-- Custody Time last written to the vault | 96 | 03 R73 | 0 DESIGN CHOICE, log entry 1 -/
  vault      : Nat
  /-- words of the multi-word fields TS_NOW, TS_CUSTODY_NOW and TS_LAST_BEACON, latched by the last read of their lowest word | list | 03 R90 | [] -/
  latch      : List (Nat × Nat)
  /-- ticks that one idle step lasts: the model's own field | model | log entry 5 | 1 DESIGN CHOICE -/
  idleTicks  : Nat
deriving DecidableEq, Repr

/-! ## Block service (04) -/

/-- One NVMe queue of a controller (04 R103). -/
structure NvQueue where
  ctx  : Nat
  qid  : Nat
  size : Nat
  /-- its submission queue flow control is disabled, and its head pointer, counted by the commands taken -/
  noFlow : Bool
  head : Nat
deriving DecidableEq, Repr

/-- An entry of the Error Information log page: its queue's context and number, command identifier, status, first LBA and NSID (04 R93, Table 4.4). -/
structure NvError where
  ctx    : Nat
  sqid   : Nat
  cid    : Nat
  status : Nat
  lba    : Nat
  nsid   : Nat
deriving DecidableEq, Repr

/-- An NVMe controller (04 R92, R103, R104, Table 4.3). -/
structure Ctrl where
  cntlid   : Nat
  tenant   : Nat
  who      : Principal
  /-- HOSTID and HOSTNQN of the host that connected it, whose errors its log holds (R93) -/
  hostId   : BitVec 128
  hostNqn  : Bytes
  discovery : Bool
  /-- its admin queue and I/O queues -/
  queues   : List NvQueue
  /-- keep-alive timeout in ms and the deadline in Shelf Time -/
  kato     : Nat
  deadline : Nat
  /-- controller enabled (CC.EN) and its configuration word -/
  cc       : Nat
  /-- volatile write cache enable -/
  wce      : Bool
  /-- number of I/O queues set by feature 0x07 -/
  nQueues  : Nat
  /-- asynchronous event configuration, feature 0x0B -/
  aenCfg   : Nat
  /-- command identifiers of outstanding Asynchronous Event Requests, up to 4 -/
  aers     : List Nat
  /-- asynchronous events waiting for a request -/
  aens     : List Nat
  /-- changed namespace list (log page 0x04), NSIDs -/
  changed  : List Nat
  /-- error information entries, newest first, up to 64, and how many there have been -/
  errors   : List NvError
  errCount : Nat
  /-- reservation notifications (log page 0x80) -/
  resNotes : List Nat
deriving DecidableEq, Repr

/-- One written LBA (04 R99 to R102): its bytes, its PI, whether its stripe was declared lost (R112), the stamp of the
mutation that wrote it. -/
structure LbaData where
  lba   : Nat
  data  : Bytes
  pi    : Option PiData
  stamp : CStamp
  lost  : Bool
  /-- log address of its data unit (07 R187) -/
  addr  : Nat
deriving DecidableEq, Repr

/-- A reservation registrant (04 R108). -/
structure Registrant where
  host : BitVec 128
  key  : Word64
deriving DecidableEq, Repr

/-- A namespace (04 R97 to R102, R108, R115). -/
structure Ns where
  /-- shelf namespace number and NSID within its tenant -/
  num      : Nat
  nsid     : Nat
  tenant   : Nat
  ncap     : Nat
  format1  : Bool
  piType   : Nat
  piFirst  : Bool
  geometry : Nat
  shard    : Nat
  /-- the format salt, none while overwritten -/
  salt     : Option Digest
  /-- written LBAs, strictly rising -/
  lbas     : List LbaData
  registrants : List Registrant
  /-- reservation holder and type -/
  holder   : Option (BitVec 128 × Nat)
  ptpl     : Bool
  resGen   : Nat
  /-- reservation notification mask, feature 0x82 -/
  resMask  : Nat
  /-- format phase being run or resumed, 1 to 4, as the vault records it; 0 while the commands admitted before end (R114, R115) -/
  fphase   : Option Nat
  /-- the salt before a format's, until phase F3 has overwritten its copies (R115) -/
  oldSalt  : Option Digest
  /-- being deleted: its salt is being overwritten, and its NSID is not free yet (R100) -/
  deleting : Bool
  /-- a format being resumed after an outage answers Not Ready -/
  resuming : Bool
  sanitising : Bool
  created  : CStamp
  /-- figures for the SMART page (R96): reads, writes, units read, units written, unrecovered reads -/
  reads    : Nat
  writes   : Nat
  unitsR   : Nat
  unitsW   : Nat
  mediaErr : Nat
deriving DecidableEq, Repr

/-- Strike kinds (08 R212). -/
inductive StrikeKind where
  | timeout | media | check | write
deriving DecidableEq, Repr

/-- A fault of a speculative read: slot, whether it timed out, the strike it gives, segment, row, role (06 R162; 04 R106). -/
abbrev SpecFault := Fin 24 × Bool × Option StrikeKind × Nat × Nat × Nat

/-- LBAs prefetched at one Read and not used yet: the number of their reads, first LBA, count, read point, the instant the last of them arrived, the
faults of the reads (04 R106). -/
structure Ahead where
  id      : Nat
  lba     : Nat
  count   : Nat
  point   : CStamp
  arrived : Option Nat
  faults  : List SpecFault
deriving DecidableEq, Repr

/-- A sequential stream tracked for prefetch (04 R106). -/
structure Stream where
  ctx     : Nat
  ns      : Nat
  next    : Nat
  run     : Nat
  lastUse : Nat
  /-- what has been prefetched, in the order of its LBAs -/
  ahead   : List Ahead
deriving DecidableEq, Repr

/-- A tenant sanitise (04 R116). -/
structure TenantSanitise where
  tenant : Nat
  /-- progress in units of 1/65,536 -/
  progress : Nat
  /-- segments still to be relocated and freed, of so many at its start -/
  segs : List Nat
  total : Nat
  failed : Bool
  ause   : Bool
  done   : Bool
deriving DecidableEq, Repr

/-- Shelf-wide sanitise phases (04 R118). -/
structure ShelfSanitise where
  phase    : Nat
  statement : Digest
  /-- per slot: sanitise progress, 0 to 255 -/
  progress : List Nat
deriving DecidableEq, Repr

/-- A command waiting for admission (R105): its ingress stamp, whether its policer marked it yellow (15 R377). -/
structure Waiting where
  ingress : Nat
  /-- Custody Time in seconds at its ingress, and whether it was Anchored then (05 R141, R142) -/
  custody : Nat × Bool
  yellow  : Bool
  cmd     : Instr
deriving DecidableEq, Repr

/-- One of the 131,072 operations: its queue, its tag, the tenant it is metered against, and the host memory its data moves to or from (04
R105; 12 R329). -/
structure Operation where
  ctx   : Nat
  tag   : Nat
  meter : Nat
  sgl   : Option Sgl
deriving DecidableEq, Repr

/-- State of chapter 04. -/
structure Block where
  /-- NVMe controllers | list | 04 R92, R103 | [] -/
  ctrls     : List Ctrl
  /-- namespaces of the shelf, at most 1,024 | list | 04 R97, R98 | [] -/
  nss       : List Ns
  /-- sequential streams, two per queue | list | 04 R106 | [] -/
  streams   : List Stream
  /-- tenant sanitise operations | list | 04 R116 | [] -/
  sanitises : List TenantSanitise
  /-- shelf-wide sanitise in progress | struct | 04 R118 | none -/
  shelfSan  : Option ShelfSanitise
  /-- commands waiting for admission in their receive buffers, oldest first | list | 04 R105 | [] -/
  waiting   : List Waiting
  /-- commands admitted whose completion has not left, one of the 131,072 operations each: context, command identifier or tag,
  tenant (0xFFFF for the shelf flow) | list | 04 R104, R105, 05 R119 | [] -/
  inFlight  : List Operation
deriving DecidableEq, Repr

/-! ## Object service (05) -/

/-- A hold (05 R141). -/
structure Lock where
  /-- 1 to 16 for a hold, 0x80 for a stopper -/
  num    : Nat
  expiry : Nat
  reason : Digest
  /-- 1 custodian, 2 tenant -/
  issuer : Nat
deriving DecidableEq, Repr

/-- The locks of one target: a collection (MAC zero) or a sealed object (05 R141). -/
structure LockList where
  coll   : Nat
  mac    : Option Digest
  locks  : List Lock
  /-- commit stamp of the list's last change -/
  stamp  : CStamp
deriving DecidableEq, Repr

/-- A lock that has expired while commands wait whose ingress came before: for them it stands as at their ingress (05 R142). -/
structure Lapsed where
  coll   : Nat
  mac    : Option Digest
  lock   : Lock
  /-- the instant at which it expired -/
  at_    : Nat
deriving DecidableEq, Repr

/-- One committed part of an object (05 R132). -/
structure PartData where
  num  : Nat
  data : Bytes
  /-- its extents: first log address and units of each (07 R178) -/
  extents : List (Nat × Nat)
deriving DecidableEq, Repr

/-- The whipping record (05 R133, 09 R239). -/
structure Whip where
  size    : Nat
  parts   : Nat
  sha2    : Digest
  sha3    : Digest
  salt    : Digest
  stamp   : CStamp
  custody : KStamp
deriving DecidableEq, Repr

/-- Where an object came from (09 Table 9.4, Ingest source). -/
inductive Source where
  | put | copied | hitch
deriving DecidableEq, Repr

/-- An object, open or sealed (05 Table 5.9; its leaf entry, 06 Table 6.2). -/
structure Obj where
  coll    : Nat
  mac     : Digest
  name    : Bytes
  metadata : Bytes
  parts   : List PartData
  /-- none while OPEN -/
  whip    : Option Whip
  /-- handle, opener's tenant and holder digest while OPEN (R124) -/
  handle  : Word64
  opener  : Option Digest
  /-- idle time counts from here (R135), Shelf Time -/
  lastUse : Nat
  /-- commit stamp of the last mutation -/
  stamp   : CStamp
  source  : Source
  /-- Custody Time second of the last read, 0 if never (R137) -/
  lastRead : Nat
  /-- some stripe of the value was declared lost -/
  lost    : Bool
  /-- counted against the open allowance (R131) -/
  counted : Bool
  /-- its per-object key (02 Table 2.6) and the version of its record (10 Table 10.10) -/
  key     : BitVec 512
  version : Nat
  /-- parts of an open object digested so far, in order; none after an outage (R134) -/
  digested : Nat
deriving DecidableEq, Repr

/-- Collection states (05 Table 5.7); ABSENT collections are not listed. -/
inductive CollState where
  | active | erasing
deriving DecidableEq, Repr

/-- A collection (05 R129). -/
structure Coll where
  num      : Nat
  tenant   : Nat
  geometry : Nat
  durable  : Bool
  shard    : Nat
  state    : CollState
  stamp    : CStamp
  /-- closed to writes by the final pass of a hitch (11 R300) -/
  closed   : Bool
deriving DecidableEq, Repr

/-- A tenant erasure in progress (05 R146). -/
structure Erasure where
  tenant : Nat
  phase  : Nat
  /-- the act that runs it -/
  q      : QCtx
deriving DecidableEq, Repr

/-- A tenant (02 Table 2.1, 19 R472, Table 19.5). -/
structure Tenant where
  num     : Nat
  key     : Digest
  /-- tenant root key in the SoC, none while not held (R62) -/
  root    : Option (BitVec 512)
  /-- the root key that its wrap in the vault holds, none once overwritten or zeroized (R46, R61) -/
  wrap    : Option (BitVec 512)
  /-- the root key that its wrap in the descriptor regions holds, none once overwritten (R46) -/
  media   : Option (BitVec 512)
  /-- its escrow wrap in the descriptor regions, none once overwritten (R45, R46) -/
  escrow  : Option EscrowWrap
  /-- custody stamp of its enrolment (10 Table 10.4) -/
  enrolled : KStamp
  /-- the chain epoch opened for it (09 R247) -/
  epoch   : Nat
  quota   : QuotaRec
  /-- state stamp of the tenant record (R146) -/
  stamp   : CStamp
  /-- tenant figures: hint probes, hint hits, commands refused red, packets and setups dropped under QUIET (15 R388) -/
  probes  : Nat
  hits    : Nat
  red     : Nat
  drops   : Nat
deriving DecidableEq, Repr

/-- State of chapter 05. -/
structure Objects where
  /-- tenants enrolled, at most 4,096 | list | 19 R472, Table 1.4 | [] -/
  tenants  : List Tenant
  /-- highest chain epoch used at each tenant number | list | 09 R247 | [] -/
  epochs   : List (Nat × Nat)
  /-- a tenant has been created since first-use initialisation | 1 | 20 R485 | false -/
  everTenant : Bool
  /-- collections, at most 65,536 | list | 05 R129 | [] -/
  colls    : List Coll
  /-- objects by ascending collection and MAC | list | 05 R139 | [] -/
  objs     : List Obj
  /-- lock lists | list | 05 R141 | [] -/
  locks    : List LockList
  /-- locks that have expired and that a waiting command still meets | list | 05 R142 | [] -/
  lapsed   : List Lapsed
  /-- ingress of the command that runs after it has waited: Shelf Time, and Custody Time in seconds and whether Anchored | struct | 05 R142 | none -/
  ingress  : Option (Nat × Nat × Bool)
  /-- tenant erasures in progress | list | 05 R146 | [] -/
  erasures : List Erasure
  /-- salts and wraps owed to absent members: slot and tenant or namespace overwrites | list | 05 R146, 08 R231 | [] -/
  owed     : List (Nat × Nat)
deriving DecidableEq, Repr

/-! ## Fixity, receipts and the lanyard (09) -/

/-- A lanyard entry (09 Table 9.5, Table 9.4). -/
structure LyEntry where
  chain   : Nat
  epoch   : Nat
  pos     : Nat
  type    : Nat
  custody : KStamp
  commit  : CStamp
  body    : Flds
  h3      : Digest
  h2      : Digest
  prev3   : Digest
  prev2   : Digest
deriving DecidableEq, Repr

/-- A receipt in formation or signed (09 Table 9.2). -/
structure Receipt where
  kind    : Nat
  tenant  : Nat
  coll    : Nat
  chain   : Nat
  epoch   : Nat
  pos     : Nat
  entry   : Digest
  custody : KStamp
  commit  : CStamp
  mac     : Digest
  body    : Flds
  leaf    : Nat
  batch   : Nat
  signed  : Bool
  /-- digest of the custody key that signed it -/
  key     : Digest
deriving DecidableEq, Repr

/-- An open or closed, not yet signed receipt batch (09 R246). -/
structure Batch where
  tenant : Nat
  number : Nat
  count  : Nat
  first  : Nat
  closed : Bool
  /-- its receipts are formed again from their entries: it is signed before any new one (R558) -/
  again  : Bool
deriving DecidableEq, Repr

/-- A checkpoint (09 Table 9.6). -/
structure Checkpoint where
  number  : Nat
  custody : KStamp
  lanyard : Digest
  root    : Digest
  prev    : Digest
  key     : Digest
  /-- per chain: chain, epoch, last position, h3, h2 at the cut -/
  heads   : List (Nat × Nat × Nat × Digest × Digest)
deriving DecidableEq, Repr

/-- One lanyard (09 R247): its entries, receipts and checkpoints, open or closed. -/
structure Lanyard where
  id      : Digest
  isOpen  : Bool
  entries : List LyEntry
  receipts : List Receipt
  checkpoints : List Checkpoint
  /-- this module closed it for its partner (R252) -/
  partners : Bool
  /-- its receipts and its closing checkpoint wait until this module's custody key is certified (R244, R558) -/
  owed : Bool
deriving DecidableEq, Repr

/-- A RECEIPT_READ that waits for its receipt to be signed: the call, and the entry's lanyard, chain, epoch and position (09 R255). -/
structure ReceiptWait where
  mbx     : Nat
  tag     : Nat
  lanyard : Digest
  chain   : Nat
  epoch   : Nat
  pos     : Nat
deriving DecidableEq, Repr

/-- A custody certificate issued (09 Table 9.1): its ceremony statement and signers. -/
structure Cert where
  epoch     : Nat
  key       : Digest
  issued    : KStamp
  previous  : Digest
  statement : Flds
  signers   : List Digest
deriving DecidableEq, Repr

/-- State of chapter 09. -/
structure Fixity where
  /-- custody key epoch in force, 0 before the first | 16 | 09 R242, Table 9.7 | 0 -/
  epoch     : Nat
  /-- custody key certified | 1 | 09 R244 | false -/
  certified : Bool
  /-- certificates issued | list | 09 R243 | [] -/
  certs     : List Cert
  /-- custody stamp at the generation of the key in force | 128 | 09 Table 9.1 | 0 -/
  issued    : KStamp
  /-- highest disabled epoch (debug unlock) | 16 | 09 R244 | 0 -/
  disabled  : Nat
  /-- this module's lanyard in use | struct | 09 R247 | none -/
  current   : Option Lanyard
  /-- closed lanyards, and the partner's after takeover | list | 09 R252, R255 | [] -/
  past      : List Lanyard
  /-- receipt batches per tenant | list | 09 R246 | [] -/
  batches   : List Batch
  /-- a checkpoint deferred until certification | 1 | 09 R244 | false -/
  deferred  : Bool
  /-- Shelf Time of the last checkpoint | 96 | 09 R253 | 0 -/
  lastCkpt  : Nat
  /-- last checkpoint signed while unanchored | 1 | 09 Table 9.7 | false -/
  ckptUnanchored : Bool
  /-- RECEIPT_READ calls waiting for a signature | list | 09 R255 | [] -/
  waiting   : List ReceiptWait
deriving DecidableEq, Repr

/-! ## Mailboxes (19) -/

/-- The carrier of a mailbox connection (19 Table 19.1). -/
inductive MbxPath where
  | mctp | endpoint | bryndle (ctx : Nat) | tether (ctx : Nat)
deriving DecidableEq, Repr

/-- An open mailbox connection (19 R463 to R467). -/
structure Conn where
  mbx     : Nat
  path    : MbxPath
  who     : Principal
  /-- digest of the connection's key -/
  key     : Digest
  nonce   : Digest
  counter : Nat
  /-- Shelf Time of its last request -/
  lastReq : Nat
  /-- tags held -/
  tags    : List Nat
  /-- set up while Custody Time was unanchored (R75) -/
  unanchored : Bool
deriving DecidableEq, Repr

/-- The rings of one mailbox on the endpoint (19 R463, R465). -/
structure Ring where
  mbx      : Nat
  reqTail  : Nat
  reqHead  : Nat
  rspTail  : Nat
  rspHead  : Nat
  /-- response entries not yet written for want of room -/
  owed     : Nat
  /-- whole requests that have arrived and are not answered yet, oldest first: tag and entries -/
  ready    : List (Nat × Nat)
deriving DecidableEq, Repr

/-- State of chapter 19. -/
structure Mailboxes where
  /-- open connections, at most one per mailbox | list | 19 R463 | [] -/
  conns  : List Conn
  /-- challenge nonces waiting for MBX_OPEN | list | 19 R464 | [] -/
  nonces : List (Nat × Digest)
  /-- ring indices, 256 entries each way | list | 19 R463, R465 | [] -/
  rings  : List Ring
deriving DecidableEq, Repr

/-! ## Parameters, overlays (20) -/

/-- An overlay in force (20 R476, R483). -/
structure OvlInForce where
  cls    : Nat
  tenant : Nat
  digest : Digest
  items  : List OvlItem
  /-- Shelf Time of application -/
  since  : Nat
deriving DecidableEq, Repr

/-- State of chapter 20 and the parameter layers. -/
structure Layers where
  /-- base layer: address and value of every word whose RW bits differ from reset, addresses rising | list | 20 R476 | [] -/
  base       : List (Nat × Nat)
  /-- every parameter write accepted so far: address, mask and value of the bits that PARAM_SET has set, addresses rising | list | 20 R476 | [] -/
  sets       : List (Nat × Nat × Nat)
  /-- status words: address and set W1C bits, addresses rising | list | 03 R90 and each block's map | [] -/
  status     : List (Nat × Nat)
  /-- figures and counters kept as RO words, addresses rising | list | each block's map | [] -/
  figures    : List (Nat × Nat)
  /-- counters of the last completed 60 s window, addresses rising | list | 02 R53, Table 2.8 | [] -/
  reported   : List (Nat × Nat)
  /-- number of the 60 s window that runs | model | 02 R53, Table 2.8 | 0 -/
  windowAt   : Nat
  /-- words latched at start-up: TRN_MISS_KIB, TRN_LAND_GIB, HOLD_LIMIT and the like, addresses rising | list | 12 Table 12.7, 16 R399 | [] -/
  latched    : List (Nat × Nat)
  /-- base image generation in force | 64 | 20 R478, R480 | 0 -/
  generation : Nat
  /-- base image digest | 256 | 02 Table 2.10 | 0 DESIGN CHOICE, log entry 1 -/
  baseDigest : Digest
  /-- default service class of the base image | 8 | 20 R480 | 1 -/
  baseClass  : Nat
  /-- TS_ANCHOR_AGE_MAX set by the base image | 32 | 20 R479 | 2,592,000 -/
  anchorAge  : Nat
  /-- STR_RESERVE_PCT set by the base image | 32 | 20 R479 | 7 -/
  reservePct : Nat
  /-- service overlay in force, 1 to 3 | 8 | 20 R477 | 1 -/
  service    : Nat
  /-- overlays in force, the service overlay included | list | 20 R476 | the factory ARCHIVE overlay -/
  overlays   : List OvlInForce
  /-- a REBUILD-SAFE removal waits for row updates to retire: its digest | 256 | 20 R489 | none -/
  removing   : Option Digest
deriving DecidableEq, Repr

/-! ## Events (23) -/

/-- An event record (23 Table 23.2). -/
structure EvRecord where
  event    : Nat
  kind     : Nat
  inst     : Nat
  count    : Nat
  seq      : Nat
  first    : Nat
  last     : Nat
  detail   : Flds
  read     : Bool
deriving DecidableEq, Repr

/-- An observer's ring (23 R528, R529). -/
structure EvRing where
  /-- mailbox of the connection, none for the management controller -/
  mbx      : Option Nat
  records  : List EvRecord
  /-- the kept overflow record, if it stands -/
  overflow : Option EvRecord
  nextSeq  : Nat
  /-- sequence of the last record returned by EVT_READ -/
  returned : Nat
deriving DecidableEq, Repr

/-- State of chapter 23. -/
structure Events where
  /-- rings of the observers | list | 23 R528 | the management controller's ring, empty -/
  rings    : List EvRing
  /-- event receiver set by SetEventReceiver | 8 | 23 R531 | none -/
  receiver : Option Nat
  /-- PlatformEventMessage awaiting its answer: record sequence, tries, Shelf Time sent | struct | 23 R531 | none -/
  pldm     : Option (Nat × Nat × Nat)
  /-- temperatures as last reported: inlet, outlet, SoC, DRAM, the six cages, the hold-up bank | list | 25 R552 | [] -/
  temps    : List Nat
deriving DecidableEq, Repr

/-- SPDM responder state (02 R65): stage of the exchange, 0 to 3, and negotiated algorithms. -/
structure Spdm where
  /-- 0 none, 1 version, 2 capabilities, 3 algorithms | 2 | 02 R65 | 0 -/
  stage : Nat
deriving DecidableEq, Repr

/-! ## The object index (06) -/

/-- One leaf entry (06 Table 6.2). The inline record is its bytes; its offset follows from the packing of the page (R152). -/
structure LeafEntry where
  mac      : Digest
  coll     : Nat
  /-- 1 sealed, value in the log; 2 sealed, value inline; 3 open -/
  kind     : Nat
  /-- bit 0 hold, bit 1 stopper, bit 2 lost ranges -/
  flags    : Nat
  /-- log address of the object record -/
  record   : Nat
  /-- kind 1: first extent, log address and units -/
  first    : Nat
  firstLen : Nat
  /-- kind 2: the inline record -/
  inline_  : Bytes
  stamp    : CStamp
  size     : Nat
  /-- per-object key under AES-256-KW; for kind 3 the handle, then the opener's holder digest -/
  wrapped  : Nat
deriving DecidableEq, Repr

/-- An entry of a leaf page: of an index leaf (06 Table 6.2), of a map leaf, one LBA with the address of its unit and the unit's index in
its run (07 R187), of a member-map leaf, a segment and a slot with the places of its roles, row 0 lowest (10 R275). -/
inductive LeafItem where
  | entry (e : LeafEntry)
  | block (lba addr run : Nat)
  | role (seg slot bits : Nat)
deriving DecidableEq, Repr

/-- A leaf page of a partition (06 R151, R152), of a namespace map (07 R187) or of a member map (10 R275). -/
structure Leaf where
  /-- log address; 0 while the page is still to be written -/
  addr    : Nat
  /-- log address that its parent still names, where the page has been written anew or moved since; 0 for none -/
  old     : Nat
  tenant  : Nat
  gen     : Nat
  covered : CStamp
  /-- number of a map leaf in its map -/
  place   : Nat
  /-- entries, keys rising -/
  items   : List LeafItem
deriving DecidableEq, Repr

/-- One entry of an inner page: its key, the tenant of the key's collection, the child's address (06 Table 6.3). The key of an index page is
collection × 2^256 + MAC, of a map page the child's number in its level, of a member-map page segment × 256 + slot. -/
structure InnerEntry where
  key    : Nat
  tenant : Nat
  child  : Nat
deriving DecidableEq, Repr

/-- An inner page (06 R151, R153; 07 R187): its level, from 1, its number in the level of a map, its address and the one its parent still
names. -/
structure Inner where
  level   : Nat
  place   : Nat
  addr    : Nat
  old     : Nat
  gen     : Nat
  covered : CStamp
  entries : List InnerEntry
deriving DecidableEq, Repr

/-- What a delta mutation does (06 R164; 07 R187, Table 7.6; 10 R275). -/
inductive MutBody where
  | put (x : LeafItem)
  | remove (coll : Nat) (mac : Digest)
  /-- LBAs from the first on lie at consecutive units from an address, 0 to deallocate, 0xFFFF when lost; index of the first in its run -/
  | map (lba count addr run : Nat)
deriving DecidableEq, Repr

/-- A mutation in a partition's delta (06 R164), with the sequence of its splice-log entry, 0 for none, and when it entered. -/
structure DeltaMut where
  stamp   : CStamp
  at_     : Nat
  seq     : Nat
  tenant  : Nat
  what    : MutBody
deriving DecidableEq, Repr

/-- A flush under way (06 R165): the new pages and the covered stamp, waiting for the commit record at its address. -/
structure FlushState where
  leaves  : List Leaf
  inner   : List Inner
  root    : Nat
  gen     : Nat
  covered : CStamp
  commit  : Nat
deriving DecidableEq, Repr

/-- A partition of a shard's index (06 R149 to R152, R164, R168), a namespace map as partition 65,536 + n (07 R187), or the shard's member
map as partition 131,072 (10 R275). Partitions with no page and no delta are not listed. -/
structure Partition where
  shard   : Nat
  num     : Nat
  root    : Nat
  gen     : Nat
  covered : CStamp
  /-- leaf pages, keys rising -/
  leaves  : List Leaf
  /-- inner pages, lowest level first -/
  inner   : List Inner
  delta   : List DeltaMut
  flushing : Option FlushState
  /-- pages superseded by a flush that a walk may still read: address, covered stamp of the flush (R166) -/
  superseded : List (Nat × CStamp)
  /-- subtree rebuild in progress (R171) -/
  rebuilding : Bool
  /-- not yet recovered after a start-up or a takeover (R169, R170) -/
  stale   : Bool
deriving DecidableEq, Repr

/-- A hint entry (06 Table 6.5) at a set and way of a tenant's share; invalid entries are not listed. -/
structure Hint where
  tenant : Nat
  set    : Nat
  way    : Nat
  check  : Nat
  coll   : Nat
  kind   : Nat
  ref    : Bool
  addr   : Nat
  len    : Nat
deriving DecidableEq, Repr

/-- A tenant's share of the hint table (06 R158): base entry and log2 of its entries. -/
structure HintShare where
  tenant : Nat
  base   : Nat
  log2   : Nat
deriving DecidableEq, Repr

/-- A GET between its admission and the end of its authoritative walk (06 R160). -/
structure Walk where
  id        : Nat
  q         : Nat
  tag       : Nat
  tenant    : Nat
  coll      : Nat
  mac       : Digest
  point     : CStamp
  ingress   : Nat
  body      : GetBody
  /-- the hint the probe hit, and the units read ahead into quarantine cells -/
  hint      : Option Hint
  ahead     : Nat
  /-- the object at the read point -/
  target    : Option Obj
  /-- address of the leaf page that the page above points to at the read point, 0 for none (R161) -/
  leaf      : Nat
  /-- faults of its speculative reads: slot, whether it timed out, the strike it gives, segment, row, role (R162) -/
  faults    : List SpecFault
deriving DecidableEq, Repr

/-- State of chapter 06. -/
structure Index where
  /-- partitions with pages or a delta | list | 06 R149 | [] -/
  parts    : List Partition
  /-- hint table, valid entries only | list | 06 R157 | [] -/
  hints    : List Hint
  /-- placement of the tenants' shares | list | 06 R158 | [] -/
  shares   : List HintShare
  /-- pages of levels 0 and 1 in the index page cache and leaves in the map cache, least recent first: tenant, whether of a map, page address |
  list | 06 R156, 07 R187 | [] -/
  cache    : List (Nat × Bool × Nat)
  /-- GETs walking | list | 06 R160 | [] -/
  walks    : List Walk
  /-- index recovered for every owned shard | 1 | 06 Table 6.7 | false -/
  recovered : Bool
deriving DecidableEq, Repr

/-! ## The log, stripes and the splice log (07) -/

/-- Segment states (07 Table 7.2); FREE segments are not listed. -/
inductive SegState where
  | open_ | full | relocating
deriving DecidableEq, Repr

/-- A segment that is not FREE (07 R177, R181). -/
structure Segment where
  num    : Nat
  shard  : Nat
  d      : Nat
  state  : SegState
  /-- stale data units (R191) -/
  stale  : Nat
  /-- order in which it became FULL -/
  order  : Nat
  /-- rows already on media, or void -/
  rows   : Nat
  /-- custody stamp and commit stamp when its head took it, and the segment that head filled before, 0 for none (10 Table 10.6) -/
  opened : KStamp
  openedAt : CStamp
  prev   : Nat
  /-- splice sequence count at which its last record moved: a later checkpoint must be on media (R192) -/
  movedAt : Option CStamp
deriving DecidableEq, Repr

/-- A head: its segment and the row being filled (07 R182); row 128 says that the segment is filled and the head must take another. -/
structure Head where
  shard  : Nat
  d      : Nat
  reloc  : Bool
  seg    : Nat
  row    : Nat
  /-- data units filled in the row -/
  used   : Nat
  /-- Shelf Time at which the row's first unit was filled (R184) -/
  since  : Option Nat
deriving DecidableEq, Repr

/-- The kinds of log record (07 R180), with what each belongs to. -/
inductive RecKind where
  | extent (coll : Nat) (mac : Digest) (part : Nat)
  | object (coll : Nat) (mac : Digest)
  | tombstone (coll : Nat) (mac : Digest)
  | block (ns : Nat) (lba count : Nat)
  | indexPage (shard part : Nat)
  | mapPage (ns : Nat)
  | commit (shard part : Nat)
  | checkpoint (shard : Nat)
  | lanyard
  | loss
  | fill
  | memberPage (shard : Nat)
deriving DecidableEq, Repr

/-- A record in the log (07 R180): its log address, its units, whether it is live, its stored bytes, and its units that have become stale
while it is live (07 R191). -/
structure LogRec where
  addr  : Nat
  units : Nat
  kind  : RecKind
  live  : Bool
  dead  : Nat
  bytes : Bytes
  /-- commit stamp of the act that wrote it (10 Table 10.6, Table 10.8) -/
  stamp : CStamp
deriving DecidableEq, Repr

/-- How a row stands (07 R184, R186; 08 R227). -/
inductive RowState where
  | writing | onMedia | void | lost
deriving DecidableEq, Repr

/-- A row that has been written (07 R179, R186; 08 R220, R221, R236). Roles are those of R175. Its data strips are the bytes of
the log records that lie in it, its parity strips those of R189. -/
structure Row where
  seg     : Nat
  row     : Nat
  d       : Nat
  state   : RowState
  /-- written by a relocation head -/
  reloc   : Bool
  /-- the shard's stripe sequence -/
  seq     : Nat
  /-- lowest and highest commit stamps of its records, lowest and highest splice sequences of those that came through the splice log -/
  stampLo : CStamp
  stampHi : CStamp
  seqLo   : Nat
  seqHi   : Nat
  /-- roles with no readable strip: unwritten, or lost with a failed member -/
  missing : List Nat
  /-- roles found bad by scrub, trial or VERIFY, still stored -/
  bad     : List Nat
  /-- role and spare position (0 or 1) that holds its rebuilt strip -/
  subst   : List (Nat × Nat)
  /-- strip writes outstanding, and those failed -/
  writes  : List Nat
  failed  : List Nat
  /-- locked by a read-modify-write (R209) -/
  locked  : Bool
  /-- spare-short: a lost strip has no spare position and waits for restore (08 R220) -/
  short   : Bool
deriving DecidableEq, Repr

/-- A splice-log entry (07 Tables 7.5 and 7.6). -/
structure SpliceEntry where
  shard   : Nat
  seq     : Nat
  kind    : Nat
  stamp   : CStamp
  /-- segment and first row its data or record lies in; below, a second segment that an index mutation names, 0 for none -/
  seg     : Nat
  row     : Nat
  /-- last row of that data or record -/
  rowEnd  : Nat
  seg2    : Nat
  /-- partition or namespace of a kind 3 or 4 entry -/
  part    : Nat
  length  : Nat
  /-- its fields after the commit stamp (Table 7.6) and its nonce -/
  body    : Bytes
  nonce   : Nat
  /-- acknowledged by the partner (R201) -/
  mirrored : Bool
  /-- members with a completed ring copy, and members with one outstanding -/
  copies  : List Nat
  pending : List Nat
  /-- three ring copies have completed once: the level does not fall (08 R226) -/
  media   : Bool
  retired : Bool
deriving DecidableEq, Repr

/-- A shard this module knows (03 R85, 07 R197, 18 R440). -/
structure Shard where
  num      : Nat
  /-- owned by this module -/
  owned    : Bool
  /-- last commit stamp of its sequencer, and the highest stamp mirrored for it -/
  last     : CStamp
  mirrored : CStamp
  /-- last splice-log sequence, and the retired-through sequence -/
  splice   : Nat
  retired  : Nat
  /-- stripe sequence -/
  stripes  : Nat
  /-- Shelf Time and stamp of the last log checkpoint -/
  ckptAt   : Nat
  ckpt     : CStamp
  ckptAddr : Nat
  /-- number of its last log checkpoint (10 Table 10.9) -/
  ckpts    : Nat
  /-- segments it has freed since that checkpoint (R196) -/
  freed    : List Nat
  /-- a log checkpoint written and not yet on media: its address, its stamp and the splice sequence it covers (R196) -/
  ckptNew  : Option (Nat × CStamp × Nat)
  /-- records of the partner's mirror stream known here as mutations of this shard, by their order across streams (06 R170) -/
  seen     : Nat
  /-- its log and index are recovered -/
  ready    : Bool
  /-- handover or takeover under way: admission stopped -/
  moving   : Bool
deriving DecidableEq, Repr

/-- A row update by read-modify-write (07 R209). -/
structure Rmw where
  seg    : Nat
  row    : Nat
  strip  : Nat
  first  : Nat
  count  : Nat
  /-- shard and sequence of its kind 7 intent -/
  shard  : Nat
  intent : Nat
  /-- member writes outstanding -/
  writes : List Nat
  issued : Bool
deriving DecidableEq, Repr

/-- State of chapter 07. -/
structure Log where
  /-- shards: 0 to 63 and the custody shards 0xFFF0, 0xFFF1 | list | 18 R440, 09 R251 | none listed before P6 -/
  shards   : List Shard
  /-- segments of each member, segment 0 included | 32 | 07 R177 | 0 DESIGN CHOICE, log entry 1 -/
  segCount : Nat
  /-- seg_base | 64 | 07 R177 | 0 DESIGN CHOICE, log entry 1 -/
  segBase  : Nat
  /-- segments granted to this module by its partner beyond its parity pool | list | 07 R195 | [] -/
  granted  : List Nat
  /-- segments of this module's parity pool granted to the partner | list | 07 R195 | [] -/
  given    : List Nat
  /-- segments not FREE | list | 07 R181 | [] -/
  segs     : List Segment
  /-- heads | list | 07 R182 | [] -/
  heads    : List Head
  /-- log records | list | 07 R180 | [] -/
  recs     : List LogRec
  /-- rows written | list | 07 R179 | [] -/
  rows     : List Row
  /-- splice-log entries not yet reused | list | 07 R197 | [] -/
  splice   : List SpliceEntry
  /-- row updates in progress | list | 07 R209 | [] -/
  rmws     : List Rmw
  /-- segments queued for relocation ahead of the stale order | list | 08 R225, R236 | [] -/
  relocQ   : List Nat
  /-- segments that have become FULL so far: the age order of R191 | model | 07 R191 | 0 -/
  fullCount : Nat
  /-- log recovered | 1 | 07 Table 7.8 | false -/
  inService : Bool
  /-- replay in progress | 1 | 07 Table 7.8 | false -/
  replaying : Bool
  /-- belay image replayed | 1 | 07 Table 7.8 | false -/
  replayed  : Bool
  /-- a valid belay image stands in the vault | 1 | 07 R206 | false -/
  image    : Bool
  /-- module takeover pool: the partner's pool is this module's | 1 | 07 R195 | false -/
  bothPools : Bool
deriving DecidableEq, Repr

/-! ## Members, rebuild and scrub (08) -/

/-- Member states (08 Table 8.1). -/
inductive MemberState where
  | absent | joining | healthy | suspect | failed | restoring
deriving DecidableEq, Repr

/-- A member, by slot (08 R211 to R215, R231). -/
structure Member where
  state    : MemberState
  /-- strikes in the window, with their ingress stamps -/
  strikes  : List (StrikeKind × Nat)
  /-- consecutive commands timed out with no completion between them -/
  timeouts : Nat
  /-- Shelf Time since which its link has been down -/
  downSince : Option Nat
  /-- LBAs of the drive in the slot, namespaces and ports it showed at discovery -/
  lbas     : Nat
  dualPort : Bool
  /-- a descriptor region of this shelf is on it, and the overwrites it owes, oldest first: 1 format, 2 sanitise, 3 erasure -/
  ours     : Bool
  owes     : List Nat
  /-- it offers the crypto erase and the block erase sanitise actions (04 R118) -/
  cryptoErase : Bool
  blockErase : Bool
  /-- NGUID of its namespace 1 and its serial number (10 Table 10.4) -/
  nguid    : BitVec 128
  serial   : BitVec 160
  /-- member state changes on the shelf at the last change of its state, and the custody stamp of that change (10 Table 10.4) -/
  epoch    : Nat
  changed  : KStamp
  /-- next LBA of its splice ring, of 1,048,576 -/
  ringAt   : Nat
  /-- generations of its record banks A and B (10 R266), sequences of the two checkpoint pointer slots of this module (10 R269) -/
  bankA    : Nat
  bankB    : Nat
  ptr0     : Nat
  ptr1     : Nat
deriving DecidableEq, Repr

/-- A loss report record (08 Table 8.4). -/
structure LossRec where
  kind     : Nat
  tenant   : Nat
  container : Nat
  seg      : Nat
  row      : Nat
  mac      : Digest
  first    : Nat
  length   : Nat
  declared : KStamp
  lyPos    : Nat
deriving DecidableEq, Repr

/-- State of chapter 08. -/
structure Members where
  /-- members of slots 0 to 23 | 24 | 08 R211 | every slot ABSENT -/
  slots    : Vector Member 24
  /-- loss report records in declaration order | list | 08 R229 | [] -/
  losses   : List LossRec
  /-- stripes declared lost since first-use initialisation | 32 | 08 Table 8.6 | 0 -/
  lostStripes : Nat
  /-- a scrub pass runs | 1 | 08 R234 | false -/
  scrubbing : Bool
  /-- rows visited in the pass | 64 | 08 R234 | 0 -/
  scrubRows : Nat
  /-- ring copies the running pass has still to visit: slot, shard and sequence; and descriptor regions, by slot | list | 08 R234 | [] -/
  scrubCopies : List (Nat × Nat × Nat)
  scrubSlots : List Nat
  /-- strips found bad in the pass | 32 | 08 R234 | 0 -/
  scrubBad  : Nat
  /-- stripes declared lost in the pass | 32 | 08 R234 | 0 -/
  scrubLost : Nat
  /-- next row the pass visits, in segment then row order | 64 | 08 R234 | 0 -/
  scrubNext : Nat
  /-- passes completed | 32 | 08 R234, Table 8.6 | 0 -/
  scrubPasses : Nat
  /-- strips judged bad in the last completed pass | 32 | 08 Table 8.6 | 0 -/
  scrubRepairs : Nat
  /-- Shelf Time of the last pass's start | 96 | 08 R234 | 0 -/
  scrubAt   : Nat
  /-- rows that restore has left for later: slot, segment, row | list | 08 R232 | [] -/
  skipped   : List (Nat × Nat × Nat)
  /-- segment the rebuild engine has in hand | 32 | 08 R222 | none -/
  rebuildSeg : Option Nat
  /-- generation of the newest record-bank content | 64 | 10 R263, R266 | 0 -/
  bankGen   : Nat
  /-- bank write in progress: 0 none, 1 the bank of lower generation (R266 step 2), 2 the other bank (step 3) | 2 | 10 R266 | 0 -/
  bankStep  : Nat
  /-- a change arrived during a bank write and waits for the next generation | 1 | 10 R266 | false -/
  bankAgain : Bool
  /-- slots whose bank write of this step is outstanding | list | 10 R266 | [] -/
  bankOut   : List Nat
  /-- member state changes on the shelf since first use | 32 | 10 Table 10.4 | 0 -/
  epochs    : Nat
  /-- sequence of the newest checkpoint pointer write | 64 | 10 R269 | 0 -/
  ptrSeq    : Nat
deriving DecidableEq, Repr

/-! ## Shelf-to-shelf migration (11) -/

/-- Hitch states (11 Table 11.2). -/
inductive HitchState where
  | opening | streaming | suspended | closing | closed | aborted
deriving DecidableEq, Repr

/-- An object arriving on a stream (11 R287, R290). -/
structure Arrival where
  stream : Nat
  begin_ : ObjBegin
  /-- its MAC on this shelf -/
  mac    : Digest
  /-- bytes landed of the part in hand -/
  part   : Bytes
  /-- 4 duplicate, 5 name held, 0 to be created -/
  fate   : Nat
  /-- excerpts received: source chain, position, entry -/
  excerpts : List (Nat × Nat × Bytes)
  /-- rows of its parts that were written directly -/
  rows   : List (Nat × Nat)
deriving DecidableEq, Repr

/-- An object in flight on a stream of the source: its next part and offset, and its manifest line as far as the source knows it. -/
structure Flight where
  stream : Nat
  part   : Nat
  off    : Nat
  line   : ManifestLine
deriving DecidableEq, Repr

/-- A hitch in either role (11 R280). -/
structure Hitch where
  record    : PairingRec
  source    : Bool
  state     : HitchState
  /-- Myavo session context, and whether HELLO was accepted -/
  ctx       : Option Nat
  hello     : Bool
  /-- sequences of R283, per direction, for the life of the hitch -/
  sent      : Nat
  received  : Nat
  /-- Shelf Time of the last message received, of the last HEARTBEAT sent, of the last setup try -/
  heard     : Nat
  beat      : Nat
  tried     : Nat
  /-- target collection per source collection -/
  collMap   : List (Nat × Nat)
  /-- pass in progress, and the cut of each scope collection -/
  pass      : Nat
  cuts      : List (Nat × CStamp)
  /-- objects still to send in this pass, and objects in flight by stream -/
  todo      : List (Nat × Digest)
  flight    : List Flight
  arrivals  : List Arrival
  /-- slots granted and not yet used (source), or freed and not yet granted again (target): stream and slot -/
  credits   : List (Nat × Nat)
  /-- slots of OBJ_DATA consumed and not yet freed (target): stream and slot -/
  landed    : List (Nat × Nat)
  batches   : List HBatch
  /-- chain digest per tenant -/
  chains    : List (Nat × Digest)
  /-- target: objects delivered, with target collection, target MAC, source MAC and source seal stamp; source: objects that crossed or
  are crossing, with source collection, source MAC twice and seal stamp -/
  delivered : List (Nat × Digest × Digest × CStamp)
  /-- objects mismatched once, to be sent again in the next pass; objects sent again already -/
  retry     : List (Nat × Digest)
  retried   : List (Nat × Digest)
  /-- notices that wait for a session: type and body -/
  owed      : List (Nat × Flds)
  /-- excerpts sent that no source checkpoint sent covers yet: chain and position -/
  uncovered : List (Nat × Nat)
  /-- HITCH_CLOSE was performed; the final pass has started -/
  closing   : Bool
  final     : Bool
  /-- custody key digest certified in the peer's HELLO, and the peer's lanyard id -/
  peerKey   : Option Digest
  peerLanyard : Digest
  /-- the peer's stamp disagreed (R284) -/
  timeBad   : Bool
  /-- statement and signers of this shelf's HITCH_OPEN ceremony, which its HELLO carries (R282) -/
  statement : Flds
  signers   : List Digest
  /-- the partner module is the hitch end; this is the copy in this module's vault (R281, R298) -/
  away      : Bool
  /-- source: the instant before which no OBJ_DATA leaves, and the streams whose POST waits for it (R288) -/
  paceAt    : Nat
  paced     : List Nat
deriving DecidableEq, Repr

/-- State of chapter 11. -/
structure Hitches where
  /-- hitches, at most 4 open | list | 11 R280 | [] -/
  list : List Hitch
deriving DecidableEq, Repr

/-! ## Transports (12) -/

/-- What a session or queue pair is (12 R303, R332). -/
inductive CtxKind where
  | bryndle (service : Nat)
  | qp (parent : Nat) (uop : Bool)
deriving DecidableEq, Repr

/-- Where a context stands (12 R305, R307). -/
inductive CtxPlace where
  | onDie | dram | fetching | writeBack
deriving DecidableEq, Repr

/-- A message in reassembly or held whole out of order (12 R315, R321). -/
structure InMsg where
  id      : Nat
  seq     : Nat
  opcode  : Nat
  count   : Nat
  got     : List (Nat × Bytes)
  length  : Nat
  key     : Word32
  addr    : Word64
  imm     : Word32
  first   : Nat
  /-- ingress stamp of the packet that made it whole -/
  whole   : Option Nat
  /-- admitted push of this region, or refused (13 R343) -/
  region  : Option Nat
  refused : Bool
  /-- a NAK is due for it since this instant -/
  nakAt   : Option Nat
deriving DecidableEq, Repr

/-- A message sent and not yet acknowledged (12 R318, R319). -/
structure OutMsg where
  id      : Nat
  seq     : Nat
  opcode  : Nat
  sentAt  : Nat
  length  : Nat
  packets : Nat
  statusAsked : Bool
  /-- beyond the 256 that may be unacknowledged: not yet sent (R315) -/
  queued  : Bool
  /-- mirror record that the partner must acknowledge before it leaves, 0 none (18 R445) -/
  mir     : Nat
  what    : Msg
  /-- its packets as they were first sent (R311) -/
  wire    : List Bytes
  /-- queue pair: the first of its PSNs (12 R331; 18 Table 18.2) -/
  psn     : Nat
deriving DecidableEq, Repr

/-- The transport parameters a session took at its setup (12 R334): W, RTO limits, ACK delay, dead time, rekey interval, RNR
timer, local ACK timeout and CNP interval, in the units of Table 12.7. -/
structure TrnSet where
  fresh  : Nat
  rtoMin : Nat
  rtoMax : Nat
  ackDelay : Nat
  dead   : Nat
  rekey  : Nat
  rnrTimer : Nat
  roceAck : Nat
  cnpGap : Nat
deriving DecidableEq, Repr

/-- The anti-replay window of an inbound SA: the highest extended sequence number accepted, and those accepted of the 1,024 up to it (12
R332). -/
structure EspWin where
  top  : Nat
  seen : List Nat
deriving DecidableEq, Repr

/-- A session or queue-pair context (12 R303, R304). -/
structure Ctx where
  num     : Nat
  gen     : Nat
  kind    : CtxKind
  who     : Principal
  /-- the grant it was set up under, for closing at revocation -/
  grant   : Option GrantId
  /-- depth of a UOP queue -/
  depth   : Nat
  unanchored : Bool
  place   : CtxPlace
  /-- recency of use: higher is more recent -/
  used    : Nat
  payload : Nat
  mac     : Nat
  /-- offset estimate o (R313) and the instant it was last lowered, ns modulo 2^48 -/
  offset  : Int
  offsetAt : Nat
  /-- delivered-through sequence, messages received, an ACK due since -/
  through : Nat
  inMsgs  : List InMsg
  ackDue  : Option Nat
  ackSeen : Option Nat
  ceMarks : Nat
  /-- sender side: last sequence and message id serial, unacknowledged messages, smoothed RTT, RTO, its deadline -/
  sent    : Nat
  lastId  : Nat
  /-- control counter of the packets sent that are not DATA (R312) -/
  ctl     : Nat
  outMsgs : List OutMsg
  srtt    : Nat
  rto     : Nat
  rtoAt   : Option Nat
  heard   : Nat
  /-- key phases: sender's and receiver's, starts, packets sent, previous receive key until -/
  txPhase : Nat
  rxPhase : Nat
  txSince : Nat
  txCount : Nat
  oldKey  : Option Nat
  /-- congestion rate, MB/s, and the instant of its last change (15 R379) -/
  rate    : Nat
  rateAt  : Nat
  /-- instant of the last decrease; bucket of that rate and burst 64 KiB, 2^-16 bytes, as it stood after the refill with this number -/
  rateCut : Option Nat
  cc      : Int
  ccAt    : Nat
  /-- service 5: SPIs in use, previous inbound SPI and the instant it is dropped -/
  spiIn   : Nat
  spiOut  : Nat
  oldSpi  : Option (Nat × Nat)
  spiSince : Nat
  /-- queue pair: expected PSN, retries left, RNR retries left, ack deadline, in error -/
  psn     : Nat
  retries : Nat
  rnr     : Nat
  qpAckAt : Option Nat
  qpError : Bool
  cnpAt   : Nat
  /-- the peer's context: number and generation; the address and port of its most recent packet (R308) -/
  peer    : Nat
  src     : PeerAddr
  /-- session keys (R324, R327); the nonce of the SETUP_CHILD sent for a new SA pair (R333) -/
  keys    : SessionKeys
  saNonce : Digest
  /-- anti-replay windows of the inbound SA and of the one before (R332) -/
  espIn   : EspWin
  espOld  : EspWin
  /-- extended sequence number of the last packet sent under the SA (R332); next PSN that a queue pair's requests take (R331) -/
  espOut  : Nat
  psnOut  : Nat
  /-- closed and waiting for its region to drain -/
  closing : Bool
  /-- held until HELLO passes (kind 3 setups) -/
  helloOnly : Bool
  set     : TrnSet
deriving DecidableEq, Repr

/-- A setup in progress (12 R323). -/
structure Setup where
  handle   : Nat
  service  : Nat
  payload  : Nat
  mac      : Nat
  since    : Nat
  nonce    : Digest
  initiator : Bool
  hitch    : Option (BitVec 128)
  /-- the peer's address, and what its packets to it name: the initiator's context, or the responder's handle -/
  src      : PeerAddr
  peer     : Nat
  /-- the bytes hashed into T1 and T2 so far (R323) -/
  script   : Bytes
  /-- KI; the initiator's X25519 and ML-KEM private keys until SETUP_RESP (R324) -/
  ki       : BitVec 512
  dh       : BitVec 512
  kem      : BitVec 512
deriving DecidableEq, Repr

/-- A packet held for a context that is not on-die (12 R305). -/
structure HeldPacket where
  port    : Nat
  ctx     : Nat
  bytes   : Nat
  ingress : Nat
  cmd     : Instr
deriving DecidableEq, Repr

/-- State of chapter 12. -/
structure Transports where
  /-- contexts allocated, of 1,048,576 | list | 12 R304 | [] -/
  ctxs    : List Ctx
  /-- last generation given to each context number, where not 0 | list | 12 R304 | [] -/
  gens    : List (Nat × Nat)
  /-- setups in progress | list | 12 R323 | [] -/
  setups  : List Setup
  /-- context-miss holding areas, in arrival order | list | 12 R305 | [] -/
  holding : List HeldPacket
  /-- RoCE NAK queues: port, QP, PSN | list | 12 R306 | [] -/
  nakQ    : List (Nat × Nat × Nat)
  /-- seen table: session, message id, expiry | list | 12 R314 | [] -/
  seen    : List (Nat × Nat × Nat)
  /-- use counter behind the least-recent-use order | model | 12 R307 | 0 -/
  clock   : Nat
deriving DecidableEq, Repr

/-! ## Memory regions and triggers (13) -/

/-- Region phases (13 R342). -/
inductive RegionPhase where
  | active | revoking | drained
deriving DecidableEq, Repr

/-- A landing region (13 R338). Its bytes are the landing memory at its base. -/
structure Region where
  owner   : Nat
  tenant  : Nat
  roce    : Bool
  base    : Nat
  size    : Nat
  phase   : RegionPhase
  revoked : Nat
  /-- admitted pushes not yet delivered or abandoned: context and message id or QP -/
  pushes  : List (Nat × Nat)
deriving DecidableEq, Repr

/-- Trigger entry states (13 Table 13.2). -/
inductive TrigState where
  | free | armed | firing | halted | disarmed
deriving DecidableEq, Repr

/-- A work request (13 Table 13.3). -/
structure WorkReq where
  kind : Nat
  fromNote : Bool
  args : Flds
deriving DecidableEq, Repr

/-- A trigger entry (13 Table 13.2). -/
structure TrigEntry where
  num       : Nat
  ctx       : Nat
  gen       : Nat
  matchVal  : Word32
  mask      : Word32
  threshold : Nat
  /-- ingress stamps of the notifications matched and not yet consumed, in order; their number is the pending count -/
  noted     : List Nat
  remaining : Nat
  state     : TrigState
  work      : List WorkReq
  /-- request of the list now running -/
  at_       : Nat
  chain     : Option Nat
  /-- ingress stamp of the last notification consumed -/
  last      : Nat
  faultReq  : Option Nat
  faultCode : Nat
  /-- order of arming -/
  order     : Nat
deriving DecidableEq, Repr

/-- An exception record (13 R351). -/
inductive ExcRec where
  | fault (entry : Nat)
  | notification (ctx : Nat) (imm : Word32) (offset length stamp : Nat)
  /-- an internal notification to an entry (13 R349) -/
  | chained (entry stamp : Nat)
deriving DecidableEq, Repr

/-- State of chapter 13. -/
structure Regions where
  /-- landing regions | list | 13 R338 | [] -/
  regions : List Region
  /-- landing memory: bytes that differ from zero, addresses strictly rising | 8 each | 13 R341 | [] (zeros) -/
  mem     : List Host.Cell
  /-- trigger entries not free, of 65,536 | list | 13 R347 | [] -/
  triggers : List TrigEntry
  /-- exception ring, 1,024 records, and records waiting for it | list | 13 R351 | [] -/
  ring    : List ExcRec
  /-- arming order counter | model | 13 R348 | 0 -/
  armed   : Nat
deriving DecidableEq, Repr

/-! ## Network ports (14) -/

/-- One pause state of a MAC: a priority 0 to 7, or 8 for link-level PAUSE (14 R364, R365). -/
structure Pause where
  prio    : Nat
  /-- end of the pause time, Shelf Time -/
  until_  : Option Nat
  /-- the reaction instant: no frame begins from then (14 R364) -/
  from_   : Nat
  /-- instant a frame was first held: the watchdog started -/
  heldAt  : Option Nat
  /-- received pause ignored until -/
  ignore  : Option Nat
deriving DecidableEq, Repr

/-- XOFF the module sends for a class (14 R366). -/
structure Xoff where
  cls     : Nat
  /-- instant of the first XOFF without a break, of the last one, and no XOFF before -/
  since   : Nat
  last    : Nat
  active  : Bool
  barred  : Option Nat
deriving DecidableEq, Repr

/-- A MAC (14 R356, R362, R364 to R369). -/
structure Mac where
  num      : Nat
  linkUp   : Bool
  pauses   : List Pause
  xoffs    : List Xoff
  /-- echo requests answered in the current second and its start -/
  echoes   : Nat
  echoAt   : Nat
  /-- instant of the last resolution of a QUIET sink's next hop -/
  sinkAt   : Option Nat
  /-- a frame is being sent: its class and instant of its last bit -/
  sending  : Option (Nat × Nat)
deriving DecidableEq, Repr

/-- A port's cage (14 R356, R358): medium, module present, powered, power class. -/
structure Cage where
  media   : Nat
  present : Bool
  powered : Bool
  cls     : Nat
deriving DecidableEq, Repr

/-- State of chapter 14. -/
structure Network where
  /-- MACs that exist under their ports' modes | list | 14 R356 | MACs 0, 8, 16 and 24, links down -/
  macs  : List Mac
  /-- cages of ports 0 to 3 | 4 | 14 R356, R358 | empty -/
  cages : List Cage
deriving DecidableEq, Repr

/-! ## Scheduling (15) -/

/-- What a flow of a scheduler belongs to (15 R380 to R385). -/
inductive FlowId where
  | tenant (n : Nat) | sub (n k : Nat) | shelf | hitch | rebuild | relocation | host
deriving DecidableEq, Repr

/-- A flow's tag state in one scheduler (15 R380): 16 fractional bits. -/
structure Flow where
  id     : FlowId
  /-- finish tag of its last item, or the virtual time it entered the backlog at if that is later -/
  last   : Nat
  /-- in the backlog -/
  on     : Bool
  /-- virtual time of its own scheduler of subflows (R382) -/
  v      : Nat
deriving DecidableEq, Repr

/-- A frame waiting in an egress scheduler: its flow, cost, traffic class and message (15 R384). -/
structure SchItem where
  flow  : FlowId
  cost  : Nat
  cls   : Nat
  data  : Msg
deriving DecidableEq, Repr

/-- The token buckets of a tenant (15 R373, R375, R378): bytes with 16 fractional bits; drive and egress may be negative. -/
structure Buckets where
  tenant : Nat
  c      : Nat
  e      : Nat
  drive  : Int
  egress : Int
deriving DecidableEq, Repr

/-- Subflow weights of a tenant (15 R382): default weight and up to 15 entries of kind, number, weight. -/
structure Weights where
  tenant  : Nat
  dflt    : Nat
  entries : List (Nat × Nat × Nat)
deriving DecidableEq, Repr

/-- One MAC's egress scheduler (15 R384). -/
structure Egress where
  mac     : Nat
  v       : Nat
  flows   : List Flow
  /-- frames of orders 1 to 3, first come first served, then the fair-queued ones -/
  control : List SchItem
  acks    : List SchItem
  quiet   : List SchItem
  fair    : List SchItem
deriving DecidableEq, Repr

/-- A member's share window (15 R385): when it began, the cost served per class, and whether rebuild and relocation were cut back in
it. -/
structure ShareWindow where
  slot    : Nat
  since   : Nat
  rebuild : Nat
  reloc   : Nat
  host    : Nat
  hitch   : Nat
  scrub   : Nat
  cut     : Bool
deriving DecidableEq, Repr

/-- A QUIET schedule in force (15 R387 to R390). -/
structure Quiet where
  item    : QuietItem
  /-- index of the last period started -/
  period  : Nat
  /-- commands admitted, walks and log bytes of the current period; frames sent per MAC -/
  admitted : Nat
  walks   : Nat
  logBytes : Nat
  /-- frames waiting per MAC -/
  frames  : List (Nat × Msg)
deriving DecidableEq, Repr

/-- State of chapter 15. -/
structure Sched where
  /-- tenants' buckets | list | 15 R373 | [] -/
  buckets  : List Buckets
  /-- shelf flow policer bucket, 2^-16 bytes | 64 | 15 R372 | full at SCH_SHELF_CBS -/
  shelfC   : Nat
  /-- last refill instant, in refills of 1,024 ns | 64 | 15 R373 | 0 -/
  refills  : Nat
  /-- admission scheduler: virtual time | model | 15 R383 | 0 -/
  admV     : Nat
  /-- admission scheduler: flows | list | 15 R383 | [] -/
  admFlows : List Flow
  /-- receipt signer: virtual time and flows | model, list | 15 R386 | 0, [] -/
  signV    : Nat
  signFlows : List Flow
  /-- subflow weights | list | 15 R382 | [] -/
  weights  : List Weights
  /-- egress schedulers | list | 15 R384 | [] -/
  egress   : List Egress
  /-- share windows of members | list | 15 R385 | [] -/
  windows  : List ShareWindow
  /-- QUIET schedules | list | 15 R387 | [] -/
  quiets   : List Quiet
deriving DecidableEq, Repr

/-! ## The hold and the mover (16) -/

/-- Who owns a cell (16 R404, R406). -/
inductive CellOwner where
  | frame (id : Nat) | quarantine (tag : Nat) | channel (n : Nat) | gone (id : Nat)
deriving DecidableEq, Repr

/-- A hold frame (16 R394, R397). -/
structure HoldFrame where
  id     : Nat
  input  : Nat
  output : Nat
  cls    : Nat
  length : Nat
  queued : Bool
  /-- the tenant whose traffic it carries, where the module knows it (R405) -/
  tenant : Option Nat
deriving DecidableEq, Repr

/-- Occupancy of one (input or output, class) that is not zero (16 R398). -/
structure Use where
  port  : Nat
  cls   : Nat
  cells : Nat
deriving DecidableEq, Repr

/-- A cell that is not on the free list: its owner entry, where it is charged, orphaned at its last visit (16 R406). -/
structure Cell where
  num      : Nat
  owner    : CellOwner
  input    : Nat
  output   : Nat
  cls      : Nat
  orphaned : Bool
deriving DecidableEq, Repr

/-- State of the hold (16). -/
structure HoldSt where
  /-- frames admitted | list | 16 R397 | [] -/
  frames  : List HoldFrame
  /-- internal frames waiting for admission, in order | list | 16 R401 | [] -/
  waiting : List HoldFrame
  /-- cells not free, of 393,216 | list | 16 R406 | [] -/
  cells   : List Cell
  /-- cells struck from the free list | list | 16 R408 | [] -/
  struck  : List Nat
  /-- input use counters | list | 16 R398 | [] -/
  inUse   : List Use
  /-- output use counters | list | 16 R398 | [] -/
  outUse  : List Use
  /-- counters that differed at the end of the last pass: 0 input or 1 output, port, class | list | 16 R407 | [] -/
  suspect : List (Nat × Nat × Nat)
  /-- a coil count pass runs | 1 | 16 R406 | false -/
  passing : Bool
  /-- next cell the coil count pass visits | 19 | 16 R406 | 0 -/
  next    : Nat
  /-- next frame number | model | 16 R394 | 0 -/
  serial  : Nat
deriving DecidableEq, Repr

/-- A MOVE descriptor (16 Table 16.2). -/
structure MoveDesc where
  srcSpace : Nat
  dstSpace : Nat
  prio     : Nat
  flags    : Nat
  rsv      : Nat
  srcAddr  : Nat
  srcLen   : Nat
  srcStride : Nat
  srcCount : Nat
  dstAddr  : Nat
  dstLen   : Nat
  dstStride : Nat
  dstCount : Nat
  statusAt : Nat
deriving DecidableEq, Repr

/-- A mover channel (16 R410, R413, R414). -/
structure Channel where
  num      : Nat
  ring     : List MoveDesc
  /-- bytes of the current descriptor written, and beats read of the burst in hand -/
  done     : Nat
  beats    : Nat
  running  : Bool
  pipe     : Option Nat
  /-- instant it took its pipe -/
  since    : Nat
  preempted : Bool
  everPre  : Bool
  aborting : Bool
  fault    : Option Nat
  stopped  : Bool
deriving DecidableEq, Repr

/-- State of the mover (16). -/
structure Mover where
  /-- channels with work or stopped | list | 16 R410 | [] -/
  channels : List Channel
  /-- round-robin position among normal channels | 6 | 16 R413 | 16 -/
  robin    : Nat
  /-- status records written, newest last: address and record | list | 16 R414 | [] -/
  records  : List (Nat × Flds)
deriving DecidableEq, Repr

/-! ## Drive ports and the service endpoint (17) -/

/-- What a drive command was issued for, and so who it is handed to when it fails (17 R426, R431). -/
inductive DrivePurpose where
  /-- a read for a held completion: its number; rows read, with role -/
  | hostRead (held : Nat) (seg row role : Nat)
  | walkRead (walk : Nat) (seg row role : Nat)
  | strip (seg row role : Nat)
  /-- a rebuilt strip written to spare position 0 or 1 of its row (08 R220) -/
  | rebuilt (seg row role pos : Nat)
  /-- a strip written to a restored member (08 R232) -/
  | restored (seg row role : Nat)
  /-- bank A or B of the record banks (10 R266), a checkpoint pointer slot (10 R269) -/
  | bank (b : Bool)
  | pointer
  | ring (shard seq : Nat)
  | descriptor
  | rmw (seg row : Nat)
  | deallocate (seg : Nat)
  | sanitise
  /-- a read of the Sanitize Status log page (04 R118) -/
  | sanPoll
  | shutdown
  | reservation (arbiter : Nat)
  | test
  /-- a read of a strip for rebuild, restore, scrub, relocation or a row update, whose bytes the module has taken at once (log entry 11) -/
  | rowRead (seg row role : Nat)
  /-- a read of an index or map page by a walk, likewise -/
  | pageRead (seg row role : Nat)
  /-- any other real read whose result the module has taken at once -/
  | work
  /-- its result is not wanted any more (08 R216) -/
  | discard
deriving DecidableEq, Repr

/-- An outstanding drive command (17 R425, R426). -/
structure DriveCmd where
  flow     : DriveFlow
  /-- the submission queue it is issued on (17 R421) -/
  queue    : Nat
  tag      : Nat
  gen      : Nat
  purpose  : DrivePurpose
  /-- NVMe opcode, first LBA and LBA count -/
  op       : Nat
  lba      : Nat
  count    : Nat
  /-- LBAs of its transfer that further commands move after it (17 R421) -/
  more     : Nat
  write    : Bool
  /-- the bytes it and those commands write; the bytes of its LBAs past their end are written as zeros -/
  data     : Bytes
  /-- true when it waits for a command slot (R431) -/
  queued   : Bool
  issued   : Nat
  /-- timeout in ns in force at issue -/
  timeout  : Nat
  /-- a reconstruction runs beside it (08 R216) -/
  hedged   : Bool
  /-- times the range has been reissued (08 R219), and roles already tried and timed out -/
  reissues : Nat
  tried    : List Nat
deriving DecidableEq, Repr

/-- A translation window (17 R422, Table 17.5). -/
structure Window where
  num     : Nat
  base    : Nat
  log2    : Nat
  kind    : Nat
  canRead : Bool
  canWrite : Bool
  relaxed : Bool
  target  : Nat
deriving DecidableEq, Repr

/-- A drive port (17 R417, R420 to R432). -/
structure DrivePort where
  /-- drive scheduler: virtual time and flows (15 R385) -/
  v        : Nat
  flows    : List Flow
  linkUp   : Bool
  rate     : Nat
  width    : Nat
  downs    : Nat
  result   : Nat
  /-- discovery step in progress, 1 to 8, and its start in ticks -/
  step     : Option Nat
  stepAt   : Nat
  /-- CAP.TO of the drive in units of 500 ms -/
  capTo    : Nat
  /-- its I/O queue pairs, their total entries, the queue of the next command, and MDTS in LBAs, 0 for no limit (17 R421) -/
  queues   : Nat
  entries  : Nat
  nextQ    : Nat
  mdts     : Nat
  /-- reset pin held since -/
  perstAt  : Option Nat
  cmds     : List DriveCmd
  /-- generations of reused tags -/
  gens     : List (Nat × Nat)
  /-- quarantined tags and the instant each leaves -/
  quar     : List (Nat × Nat)
  nextTag  : Nat
  timeouts : Nat
  aer      : Nat
  windows  : List Window
  shadow   : List Window
  /-- requests in progress under an old copy -/
  draining : Bool
  commits  : Nat
  /-- configuration reads outstanding: number and issue stamp -/
  cfgReads : List (Nat × Nat)
deriving DecidableEq, Repr

/-- State of the drive ports (17). -/
structure Drives where
  /-- root ports 0 to 23 | 24 | 17 R417 | link down -/
  ports : Vector DrivePort 24
  /-- ports run at x2 | 1 | 17 R417, Table 17.5 | false -/
  x2    : Bool
  /-- drive ports in service | 1 | 17 Table 17.5 | false -/
  up    : Bool
deriving DecidableEq, Repr

/-- State of the service endpoint (17). -/
structure Endpoint where
  /-- endpoint link up | 1, 3, 3 | 17 Table 17.6 | 0 -/
  linkUp : Bool
  /-- endpoint link rate | 3 | 17 Table 17.6 | 0 -/
  rate   : Nat
  /-- endpoint link width | 3 | 17 Table 17.6 | 0 -/
  width  : Nat
  /-- Bus Master Enable | 1, 1 | 17 Table 17.6 | 0 -/
  master : Bool
  /-- MSI-X enabled | 1 | 17 R436 | false -/
  msixOn : Bool
  /-- MSI-X vectors masked | list | 17 R436 | [] -/
  masked : List Nat
  /-- MSI-X vectors pending | list | 17 R436 | [] -/
  pending : List Nat
deriving DecidableEq, Repr

/-! ## The module pair and the tether chain (18) -/

/-- Pair states (18 Table 18.5). -/
inductive PairMode where
  | single | handshake | paired | alone | fenced | rejoining
deriving DecidableEq, Repr

/-- A record of the mirror stream (18 Table 18.2). -/
structure MirrorRec where
  num   : Nat
  kind  : Nat
  /-- the shard of a splice entry; of a message sent, its opcode -/
  shard : Nat
  seq   : Nat
  /-- the stamp of a splice entry; of a message sent on a queue pair, the SA's outbound ESP sequence and its first PSN -/
  stamp : CStamp
  bytes : Nat
  /-- context, tag and capsule of an admission or sent message -/
  ctx   : Nat
  tag   : Nat
  /-- address of a landing push, message identity of a sent message, and the bytes: those of a push, the capsule of a message -/
  addr  : Nat
  data  : Bytes
  cmd   : Option Instr
deriving DecidableEq, Repr

/-- A command forwarded to the partner, waiting for its reply (18 R448). -/
structure Forwarded where
  num  : Nat
  cmd  : Instr
deriving DecidableEq, Repr

/-- State of the module pair (18). -/
structure Pair where
  /-- pair state | 3 | 18 Table 18.5 | single -/
  mode     : PairMode
  /-- this module is B (position contact) | 1 | 18 R441 | false -/
  isB      : Bool
  /-- the shelf is a pair-mode shelf (Shelf record) | 1 | 17 R417 | false -/
  pairShelf : Bool
  /-- lanes active, 0, 4 or 8 | 4 | 18 R443 | 0 -/
  lanes    : Nat
  /-- times the pair link has gone down, saturating | 8 | 18 R443 | 0 -/
  downs    : Nat
  /-- session key of the pair link, set up at the handshake | 256 | 02 R44, 18 R444 | none -/
  linkKey  : Option (BitVec 256)
  /-- this module leads Shelf Time | 1 | 03 R72 | false -/
  leader   : Bool
  /-- partner identity digest of the last pairing | 256 | 18 R444 | none -/
  peer     : Option Digest
  /-- last heartbeat heard on either path | 96 | 18 R449 | 0 -/
  heard    : Nat
  /-- last heartbeat heard on the tether path | 96 | 18 R449 | 0 -/
  heardTether : Nat
  /-- latest heartbeat acknowledgement from the partner: the lease runs from it | 96 | 18 R450 | none -/
  leaseAck : Option Nat
  /-- the lease is held as long as its time lasts | 1 | 18 R450 | false -/
  leaseHeld : Bool
  /-- last heartbeat sent | 96 | 18 R449 | 0 -/
  beatAt   : Nat
  /-- partner failure detected at | 96 | 18 R449, R452 | none -/
  detected : Option Nat
  /-- fence arbiters won | list | 18 R451 | [] -/
  won      : List Nat
  /-- fence arbiters lost | list | 18 R451 | [] -/
  lost     : List Nat
  /-- instant at which the deferral of the fence ends | 96 | 18 R451 | none -/
  deferTo  : Option Nat
  /-- this module has yielded the fence | 1 | 18 R451 | false -/
  yielded  : Bool
  /-- the pair is REJOINING and this module is the one that serves | 1 | 18 R455 | false -/
  survivor : Bool
  /-- records sent on the mirror stream and not acknowledged | list | 18 R445, R446 | [] -/
  unacked  : List MirrorRec
  /-- next number on the mirror stream | 64 | 18 R445 | 0 -/
  nextRec  : Nat
  /-- bytes of room the partner has for mirror records | 64 | 18 R446 | 0 -/
  room     : Nat
  /-- records held for the partner, in stream order | list | 18 R445 | [] -/
  mirror   : List MirrorRec
  /-- last mirror record received in order and acknowledged | 64 | 18 R445 | 0 -/
  recvNum  : Nat
  /-- records received on the mirror streams before the one that runs: an order across them | 64 | 18 R446 | 0 -/
  recBase  : Nat
  /-- the partner's pruned records that stand on the members, with the context each came on: what a takeover or a handover reads there | list | 18
  R453, 06 R170 | [] -/
  landed   : List (MirrorRec × Option Ctx)
  /-- the partner's lanyard as its custody shard's records give it, and the start of a record that is not whole yet | struct, list | 09 R251, R252,
  R255 | none, [] -/
  lanyard  : Option Lanyard
  lyPart   : Bytes
  /-- context and tag of the command that runs: its splice entries are mirrored under them | struct | 18 R446 | none -/
  acting   : Option (Nat × Nat)
  /-- forwarded commands waiting for replies | list | 18 R448 | [] -/
  forwarded : List Forwarded
  /-- next number of a forwarded command | 64 | 18 R448 | 0 -/
  nextFwd  : Nat
  /-- shard handing over | struct | 18 R456 | none -/
  moving   : Option Nat
  /-- handover asked for by PAIR_CTRL bit 1 | 1 | 18 R456 | false -/
  handNow  : Bool
  /-- partner MAC addresses claimed: own MAC and address number | list | 18 R452 | [] -/
  claimed  : List (Nat × Nat)
deriving DecidableEq, Repr

/-- A member of the tether chain (18 R460). -/
structure TetMember where
  addr   : Nat
  shelf  : Word64
  digest : Digest
  role   : Nat
  heard  : Nat
deriving DecidableEq, Repr

/-- State of the tether (18). -/
structure Tether where
  /-- chain address stored in the vault | 4, 1 | 18 R459 | 0, false -/
  addr    : Nat
  /-- the stored chain address is valid | 1 | 18 R459 | false -/
  valid   : Bool
  /-- upstream hop up | 1 | 18 R457, R459 | false -/
  upHop   : Bool
  /-- downstream hop up | 1 | 18 R457 | false -/
  downHop : Bool
  /-- upstream cable present | 1 | 18 R457 | false -/
  upCable : Bool
  /-- downstream cable present | 1 | 18 R457 | false -/
  downCable : Bool
  /-- REEVE_DONE received since the last reeving | 1 | 18 R459 | false -/
  done    : Bool
  /-- chain length that the last REEVE_DONE gave | 5 | 18 R459 | 0 -/
  total   : Nat
  /-- waiting on a silent upstream | 1 | 18 R459 | false -/
  waiting : Bool
  /-- membership table | 16 | 18 R460 | [] -/
  members : List TetMember
  /-- last sequence forwarded per sender | list | 18 Table 18.4 | [] -/
  seqs    : List (Nat × Nat)
  /-- own frame sequence last sent | 32 | 18 Table 18.4 | 0 -/
  sent    : Nat
  /-- last tether heartbeat sent | 96 | 18 R460 | 0 -/
  beatAt  : Nat
  /-- announced hitch ends: hitch, address, port | list | 18 R458 | [] -/
  found   : List (BitVec 128 × BitVec 128 × Nat)
deriving DecidableEq, Repr

/-! ## Power entry and slot feeds (21) -/

/-- Channel states (21 Table 21.3, codes 0 to 8). -/
inductive FeedState where
  | off | insert | precharge | ramp | qualify | good | limit | retry | latched
deriving DecidableEq, Repr

/-- A hot-swap channel (21 R497 to R507). Instants are oscillator ticks (R496). -/
structure Feed where
  state    : FeedState
  /-- entry to the state; for LIMIT, the start of the fault timer -/
  since    : Nat
  /-- start of the attempt whose length R503 counts -/
  attempt  : Nat
  /-- wait in RETRY ends at -/
  retryEnd : Nat
  /-- the state LIMIT was entered from was GOOD -/
  fromGood : Bool
  /-- power good asserted -/
  pg       : Bool
  /-- consecutive failures, 0 to 7 -/
  fails    : Nat
  /-- latch kind, 0 to 3 -/
  kind     : Nat
  /-- failures since start-up, saturating -/
  total    : Nat
  /-- input inside the channel's window -/
  inside   : Bool
  /-- slot present, enabled -/
  present  : Bool
  enabled  : Bool
  /-- waiting for a stagger turn: after its insertion delay or its RETRY wait -/
  waits    : Bool
  /-- partner's channel GOOD, with power good asserted, LATCHED -/
  mateGood : Bool
  matePg   : Bool
  mateLatched : Bool
deriving DecidableEq, Repr

/-- Supply bands (21 Table 21.1). -/
inductive Band where
  | full | derated | keepSafe | below
deriving DecidableEq, Repr

/-- What raised the belay condition (21 R508). -/
inductive BelayCause where
  | belowWindow | aboveWindow | channelFault | slotWindow | holdupShort
deriving DecidableEq, Repr

/-- State of chapter 21. -/
structure Power where
  /-- input channel | struct | 21 Table 21.3 | OFF -/
  input    : Feed
  /-- slot channels 0 to 23 | 24 | 21 Table 21.3 | OFF, absent, disabled -/
  slots    : Vector Feed 24
  /-- mean input voltage, mV | 32 | 21 Table 21.4 | 0 -/
  vin      : Nat
  /-- input voltage as the channels last sensed it, mV | 32 | 21 R497 | 0 -/
  sensed   : Nat
  /-- mean input current, mA | 32 | 21 Table 21.4 | 0 -/
  iin      : Nat
  /-- supply band | 2 | 21 R492 | Full (PWR_STATE resets to 0) -/
  band     : Band
  /-- governor cap, mW | 32 | 21 R493 | 420,000 -/
  cap      : Nat
  /-- usable hold-up energy, J | 32 | 21 R495 | 0 -/
  holdup   : Nat
  /-- usable hold-up capacity measured at start-up, J | 32 | 21 R495 | 0 -/
  capacity : Nat
  /-- Keep-safe service in force | 1 | 21 R494 | false -/
  keepSafe : Bool
  /-- instant since which no cause of Keep-safe has held, in ticks | 64 | 21 R494 | none -/
  clearSince : Option Nat
  /-- running on the hold-up bank | 1 | 21 R508 | false -/
  onHoldup : Bool
  /-- first step outside the window, in ticks | 64 | 21 R508 | none -/
  outSince : Option Nat
  /-- that excursion went above the window | 1 | 21 Table 21.4 | false -/
  outAbove : Bool
  /-- input pass device conducts when off | 1 | 21 R504 | false -/
  damaged  : Bool
  /-- the SoC is powered: pg asserted | 1 | 21 R505, R508 | false -/
  socOn    : Bool
  /-- belay running: cause and t0 in ticks | struct | 21 R508, R509 | none -/
  belay    : Option (BelayCause × Nat)
  /-- the drives of this belay have been abandoned | 1 | 07 Table 7.7 | false -/
  belayTen : Bool
  /-- last entry of a slot channel to PRECHARGE, in ticks | 64 | 21 R498 | none -/
  lastTurn : Option Nat
  /-- cause of the last stop, 0 to 7 | 4 | 21 Table 21.4 | 0 -/
  lastStop : Nat
deriving DecidableEq, Repr

/-! ## Power states (22) -/

/-- Power states (22 Table 22.1); Idle is per engine. -/
inductive PMode where
  | run | idle | drowse | dormant
deriving DecidableEq, Repr

/-- State of chapter 22. -/
structure PowerStates where
  /-- power state | 3 | 22 R511 | Run -/
  mode     : PMode
  /-- entry in progress towards Drowse or Dormant | 1 | 22 R517 | none -/
  entering : Option PMode
  /-- last abort point passed, 0 to 7 | 3 | 22 R517, Table 22.5 | 0 -/
  point    : Nat
  /-- a wake stamped before A6: the entry is abandoned at the next point | 1 | 22 R518 | false -/
  abandon  : Bool
  /-- a wake held after A6 | 1 | 22 R518 | false -/
  heldWake : Bool
  /-- Shelf Time of the last host work | 96 | 22 R513 | 0 -/
  lastWork : Nat
  /-- Shelf Time of the last packet whose tag passed | 96 | 22 R515 | 0 -/
  lastPkt  : Nat
  /-- domains woken in Drowse and the last instant they worked | list | 22 R514 | [] -/
  woken    : List (Nat × Nat)
  /-- drives powered down by the schedule | 1 | 22 R519 | false -/
  drivesDown : Bool
  /-- step of a drive power-down under way, 1 to 5, 0 none | 3 | 22 R519 | 0 -/
  downStep : Nat
  /-- slots whose shutdown has not completed | list | 22 R519 | [] -/
  shutting : List Nat
  /-- start of the wait for those shutdowns | 96 | 22 R519 | 0 -/
  shutAt   : Nat
  /-- DORMANT awake window open | 1 | 20 R483, 22 R520 | false -/
  window   : Bool
  /-- Shelf Time at which the drives were last needed | 96 | 20 R483 | 0 -/
  lastDrive : Nat
  /-- a drive power-up under way: slots not yet passed or failed | list | 22 R520 | [] -/
  poweringUp : List Nat
  /-- checkpoints signed and held in the vault while drives are down | model | 22 R521 | 0 -/
  heldCkpts : Nat
  /-- the partner has confirmed steps 1 and 2 of the drive power-down | 1 | 22 R519 | false -/
  mateDown : Bool
  /-- power state of the partner as its heartbeat reports it | 3 | 22 R515 | Run -/
  partner  : PMode
  /-- instant of the wake whose exit runs | 96 | 22 R516 | none -/
  wokeAt   : Option Nat
deriving DecidableEq, Repr

/-! ## Start-up (24) -/

/-- Progress of a start-up phase (24 Table 24.1). -/
inductive PhaseState where
  | notStarted | running (since : Nat) | done | failed
deriving DecidableEq, Repr

/-- Why the module has halted or serves nothing (24 Table 24.1, R538). -/
inductive Halt where
  | noImage | dram | vault | pairRefused
deriving DecidableEq, Repr

/-- State of chapter 24. -/
structure StartUp where
  /-- phases P1 to P11 | 11 | 24 R534 | not started -/
  phases   : List PhaseState
  /-- halted, and why | 2 | 24 Table 24.1 | none -/
  halted   : Option Halt
  /-- service open | 1 | 24 R535 | false -/
  open_    : Bool
  /-- TS_LOCK_WAIT has elapsed since the end of P5 | 1 | 24 R535 | false -/
  lockWaited : Bool
  /-- first-use state: the vault holds no Shelf record | 1 | 24 R540 | true (factory) -/
  firstUse : Bool
  /-- formation step running, 1 to 6, 0 none | 3 | 24 R542 | 0 -/
  forming  : Nat
  /-- base image accepted at formation | struct | 24 R542 | none -/
  formBase : Option BaseImage
  /-- start-up stopped at P5: the stored configuration failed | 1 | 24 R539 | false -/
  configStop : Bool
  /-- shelf identity | 64 | 24 Table 24.2 | 0 -/
  shelfId  : Word64
  /-- the custodian set of the first-use form is enrolled | 1 | 24 R541 | false -/
  enrolled : Bool
  /-- custody stamp of first-use initialisation | 128 | 10 Table 10.4 | 0 -/
  formedAt : KStamp
deriving DecidableEq, Repr

/-! ## The whole machine -/

/-- The module. -/
structure State where
  /-- chapter 02 -/
  auth  : Auth
  /-- chapter 03 -/
  time  : Time
  /-- chapter 04 -/
  block : Block
  /-- chapter 05 -/
  obj   : Objects
  /-- chapter 06 -/
  idx   : Index
  /-- chapter 07 -/
  log   : Log
  /-- chapter 08 -/
  mem   : Members
  /-- chapter 09 -/
  fix   : Fixity
  /-- chapter 11 -/
  hitch : Hitches
  /-- chapter 12 -/
  trn   : Transports
  /-- chapter 13 -/
  reg   : Regions
  /-- chapter 14 -/
  net   : Network
  /-- chapter 15 -/
  sch   : Sched
  /-- chapter 16, the hold -/
  hold  : HoldSt
  /-- chapter 16, the mover -/
  mov   : Mover
  /-- chapter 17, drive ports -/
  drv   : Drives
  /-- chapter 17, service endpoint -/
  sep   : Endpoint
  /-- chapter 18, the pair -/
  pair  : Pair
  /-- chapter 18, the tether -/
  tet   : Tether
  /-- chapter 19 -/
  mbx   : Mailboxes
  /-- chapter 20 -/
  layers : Layers
  /-- chapter 21 -/
  pwr   : Power
  /-- chapter 22 -/
  pst   : PowerStates
  /-- chapter 23 -/
  ev    : Events
  /-- chapter 24 -/
  boot  : StartUp
  /-- 02 R65 -/
  spdm  : Spdm
  /-- messages, completions, frames and drive commands that have left, oldest first: the model's record of the outputs -/
  out   : List Msg
  /-- completions that still wait for an instant, a durability level, a receipt or a drive (04 R86, R110; 05 R145; 09 R246) -/
  held  : List Held
  /-- next number the model gives a held completion or a walk -/
  nextId : Nat
  /-- commands that wait to be taken, first in first out: the model's own queue -/
  pending : List Instr
deriving DecidableEq, Repr

/-- Why the machine stops. A closed list. -/
inductive Fault where
  /-- A unit the module does not have. No meaning raises it: a command that names a MAC above 31, a mover channel or mailbox above 63, a
  cell above 393,215 or a cage above 3 has no effect (log entry 116). Safe: nothing ends in it. -/
  | noSuchUnit
deriving DecidableEq, Repr

/-- What the model does not answer. A closed list. -/
inductive Refusal where
  /-- The command has no meaning in the model yet; raised only by an arm of `exec`. Safe: the model stops. -/
  | notModelled (mnemonic : String)
deriving DecidableEq, Repr

/-! ## Reset -/

/-- The service part of a quota record at the values Table 19.5 gives when none is set. -/
def Feed.reset : Feed :=
  { state := .off, since := 0, attempt := 0, retryEnd := 0, fromGood := false, pg := false, fails := 0, kind := 0, total := 0,
    inside := false, present := false, enabled := false, waits := false, mateGood := false, matePg := false, mateLatched := false }

/-- A member slot after power-on (08 Table 8.1): ABSENT. -/
def Member.reset : Member :=
  { state := .absent, strikes := [], timeouts := 0, downSince := none, lbas := 0, dualPort := false, ours := false,
    owes := [], cryptoErase := false, blockErase := false, nguid := 0, serial := 0, epoch := 0,
    changed := { sec := 0, ns := 0, flags := 0, count := 0 }, ringAt := 0, bankA := 0, bankB := 0, ptr0 := 0, ptr1 := 0 }

/-- A drive port after power-on (17 Table 17.5). -/
def DrivePort.reset : DrivePort :=
  { v := 0, flows := [], linkUp := false, rate := 0, width := 0, downs := 0, result := 0, step := none, stepAt := 0, capTo := 0, queues := 0, entries := 0, nextQ := 0, mdts := 0, perstAt := none,
    cmds := [], gens := [], quar := [], nextTag := 0, timeouts := 0, aer := 0, windows := [], shadow := [],
    draining := false, commits := 0, cfgReads := [] }

/-- Chapter 02 after reset. Log entry 1 names the values the spec does not give. -/
def Auth.reset : Auth :=
  { custKeys := [], quorumK := 3, keys := [], timeKey := none, escrowKey := none, grants := [], ceremonies := [],
    targets := [], fwConsent := [], vendorKeys := [], fusedSvn := 0, runningSvn := 0, release := 0x2020202020202020202020202020322E33#128,
    previous := none, revoked := [], asked := [], staging := none, debugNonce := none,
    unlocked := false, shelfKey := none, shelfVault := none, shelfEscrow := none,
    escrowAt := { sec := 0, ns := 0, flags := 0, count := 0 }, dramKey := 0, drawn := 0, freeUsed := 0 }

/-- Chapter 03 after reset (Table 3.7). -/
def Time.reset : Time :=
  { ticks := 0, shelf := 0, mono := 0, openedAt := 0, slewed := 0, mode := .freerun, everLocked := false, slewLeft := 0, gm := none, distrusted := none,
    foreign := [], goodSince := none, ptpOffset := 0, pathDelay := 0, delayReq := none, onStandby := false,
    holdSince := none, ppsQual := false, ppsRun := 0, refQual := false, refPpb := 0, follower := false, aligned := false, leadMode := .freerun, pairOffset := 0, custody := 0,
    custOffset := 0, anchor := .unanchored, lastBeacon := 0, beacons := 0, challenge := none, vault := 0, latch := [], idleTicks := 1 }

/-- Chapter 04 after reset. -/
def Block.reset : Block :=
  { ctrls := [], nss := [], streams := [], sanitises := [], shelfSan := none, waiting := [], inFlight := [] }

/-- Chapter 05 after reset. -/
def Objects.reset : Objects :=
  { tenants := [], epochs := [], everTenant := false, colls := [], objs := [], locks := [], lapsed := [], ingress := none, erasures := [], owed := [] }

/-- Chapter 06 after reset. -/
def Index.reset : Index :=
  { parts := [], hints := [], shares := [], cache := [], walks := [], recovered := false }

/-- Chapter 07 after reset. -/
def Log.reset : Log :=
  { shards := [], segCount := 0, segBase := 0, granted := [], given := [], segs := [], heads := [], recs := [], rows := [],
    splice := [], rmws := [], relocQ := [], fullCount := 0, inService := false, replaying := false, replayed := false,
    image := false, bothPools := false }

/-- Chapter 08 after reset. -/
def Members.reset : Members :=
  { slots := Vector.replicate 24 Member.reset, losses := [], lostStripes := 0, scrubbing := false, scrubRows := 0, scrubCopies := [], scrubSlots := [],
    scrubBad := 0, scrubLost := 0, scrubNext := 0, scrubPasses := 0, scrubRepairs := 0, scrubAt := 0, skipped := [],
    rebuildSeg := none, bankGen := 0, bankStep := 0, bankAgain := false, bankOut := [], epochs := 0, ptrSeq := 0 }

/-- Chapter 09 after reset. -/
def Fixity.reset : Fixity :=
  { epoch := 0, certified := false, certs := [], issued := { sec := 0, ns := 0, flags := 0, count := 0 }, disabled := 0, current := none, past := [], batches := [],
    deferred := false, lastCkpt := 0, ckptUnanchored := false, waiting := [] }

/-- A MAC that has just come into existence: link down, nothing paused (14 Table 14.3). -/
def Mac.reset (n : Nat) : Mac :=
  { num := n, linkUp := false, pauses := [], xoffs := [], echoes := 0, echoAt := 0, sinkAt := none, sending := none }

/-- An empty cage (14 Table 14.3). -/
def Cage.reset : Cage := { media := 0, present := false, powered := false, cls := 0 }

/-- Chapter 15 after reset: the shelf bucket is full at the reset SCH_SHELF_CBS (Table 15.4). -/
def Sched.reset : Sched :=
  { buckets := [], shelfC := 0, refills := 0, admV := 0, admFlows := [], signV := 0, signFlows := [], weights := [], egress := [], windows := [],
    quiets := [] }

/-- Chapter 18, the pair, after reset (Table 18.5). -/
def Pair.reset : Pair :=
  { mode := .single, isB := false, pairShelf := false, lanes := 0, downs := 0, linkKey := none, leader := false, peer := none, heard := 0,
    heardTether := 0, leaseAck := none, leaseHeld := false, beatAt := 0, detected := none, won := [], lost := [],
    deferTo := none, yielded := false, survivor := false, unacked := [], nextRec := 0, room := 0, mirror := [], recBase := 0, landed := [], lanyard := none, lyPart := [], acting := none,
    recvNum := 0, forwarded := [], nextFwd := 0, moving := none, handNow := false,
    claimed := [] }

/-- Chapter 18, the tether, after reset (Table 18.6). -/
def Tether.reset : Tether :=
  { addr := 0, valid := false, upHop := false, downHop := false, upCable := false, downCable := false, done := false,
    total := 0, waiting := false, members := [], seqs := [], sent := 0, beatAt := 0, found := [] }

/-- The parameter layers after reset: no parameter differs from its reset value, and the factory's ARCHIVE overlay is the
service overlay in force (20 R477, R480). -/
def Layers.reset : Layers :=
  { base := [], sets := [], status := [], figures := [], reported := [], windowAt := 0, latched := [], generation := 0, baseDigest := 0, baseClass := 1,
    anchorAge := 2592000, reservePct := 7, service := 1,
    overlays := [{ cls := 1, tenant := 0xFFFF, digest := 0, items := [], since := 0 }], removing := none }

/-- Chapter 21 after reset (Tables 21.4 and 21.5). -/
def Power.reset : Power :=
  { input := { Feed.reset with present := true, enabled := true }, slots := Vector.replicate 24 Feed.reset, vin := 0, sensed := 0, iin := 0,
    band := .full, cap := 420000, holdup := 0, capacity := 0, keepSafe := false, clearSince := none, onHoldup := false,
    outSince := none, outAbove := false, damaged := false, socOn := false, belay := none, belayTen := false, lastTurn := none,
    lastStop := 0 }

/-- Chapter 22 after reset (Table 22.5). -/
def PowerStates.reset : PowerStates :=
  { mode := .run, entering := none, point := 0, abandon := false, heldWake := false, lastWork := 0, lastPkt := 0, woken := [],
    drivesDown := false, downStep := 0, shutting := [], shutAt := 0, window := false, lastDrive := 0, poweringUp := [],
    heldCkpts := 0, mateDown := false, partner := .run, wokeAt := none }

/-- Chapter 24 after reset: the factory's first-use state (R540). -/
def StartUp.reset : StartUp :=
  { phases := List.replicate 11 .notStarted, halted := none, open_ := false, lockWaited := false, firstUse := true,
    forming := 0, formBase := none, configStop := false, shelfId := 0, enrolled := false,
    formedAt := { sec := 0, ns := 0, flags := 0, count := 0 } }

/-- The machine right after reset: power just present at the module, nothing started (24 R534), every register at its reset
value. Log entry 1 lists the values the spec does not give. -/
def State.reset : State :=
  { auth := Auth.reset, time := Time.reset, block := Block.reset, obj := Objects.reset, idx := Index.reset, log := Log.reset,
    mem := Members.reset, fix := Fixity.reset, hitch := { list := [] },
    trn := { ctxs := [], gens := [], setups := [], holding := [], nakQ := [], seen := [], clock := 0 },
    reg := { regions := [], mem := [], triggers := [], ring := [], armed := 0 },
    net := { macs := [0, 8, 16, 24].map Mac.reset, cages := List.replicate 4 Cage.reset }, sch := Sched.reset,
    hold := { frames := [], waiting := [], cells := [], struck := [], inUse := [], outUse := [], suspect := [],
              passing := false, next := 0, serial := 0 },
    mov := { channels := [], robin := 16, records := [] },
    drv := { ports := Vector.replicate 24 DrivePort.reset, x2 := false, up := false },
    sep := { linkUp := false, rate := 0, width := 0, master := false, msixOn := false, masked := [], pending := [] },
    pair := Pair.reset, tet := Tether.reset, mbx := { conns := [], nonces := [], rings := [] }, layers := Layers.reset,
    pwr := Power.reset, pst := PowerStates.reset,
    ev := { rings := [{ mbx := none, records := [], overflow := none, nextSeq := 0, returned := 0 }], receiver := none,
            pldm := none, temps := [] },
    boot := StartUp.reset, spdm := { stage := 0 }, out := [], held := [], nextId := 0, pending := [] }

end Machine
end Sys2Proof
end

