-- ==== Sys2Proof/Machine/Params.lean ====
section
/-!
DEFINITION. Reading parameters: the words of a map, the layers of 20 R476, and one accessor for each RW field of one word.
-/
namespace Sys2Proof
namespace Machine

/-- `width` bits of `v` from bit `lo`. -/
def bitsOf (v lo width : Nat) : Nat := v / 2 ^ lo % 2 ^ width

/-- `v` with the bits of `mask` taken from `w`. -/
def mergeBits (v mask w : Nat) : Nat := v - Nat.land v mask + Nat.land w mask

/-- Rank of an overlay class, highest first (20 Table 20.5). -/
def ovlRank : Nat → Nat
  | 8 => 6
  | 6 => 5
  | 5 => 4
  | 4 => 3
  | 7 => 2
  | _ => 1

/-- A word with the PARAM items of one overlay applied (20 R476). -/
def applyItems (addr : Nat) (items : List OvlItem) (v : Nat) : Nat :=
  items.foldl (fun acc i => match i with
    | .param w => if w.addr.toNat = addr then mergeBits acc w.mask.toNat w.value.toNat else acc
    | _ => acc) v

/-- A word with the overlays in force applied from the lowest rank of Table 20.5 upwards (20 R476). -/
def applyOverlays (ovls : List OvlInForce) (addr v : Nat) : Nat :=
  [1, 2, 3, 4, 5, 6].foldl (fun acc r =>
    ovls.foldl (fun acc o => if ovlRank o.cls = r then applyItems addr o.items acc else acc) acc) v

/-- The base-layer value of a word: what PARAM_SET or the base image left, or its reset value (20 R476). -/
def baseWord (s : State) (addr reset : Nat) : Nat := (s.layers.base.lookup addr).getD reset

/-- The power-entry unit uses reset values at a cold start until the configuration is applied at the end of P5 (21 R496; 24 R539). -/
def unitCold (s : State) (addr : Nat) : Bool :=
  (addr / 0x1000000 == 0x0A || addr / 0x1000000 == 0x0B) && (s.boot.phases[4]? != some .done || s.boot.configStop)

/-- The value in force of a word of RW fields (20 R476). -/
def layered (s : State) (addr reset : Nat) : Nat :=
  if unitCold s addr then reset else applyOverlays s.layers.overlays addr (baseWord s addr reset)

/-- The bits of a word that an overlay in force sets (20 R476, R474 check 6). -/
def overlayMask (s : State) (addr : Nat) : Nat :=
  s.layers.overlays.foldl (fun acc o => o.items.foldl (fun acc i => match i with
    | .param w => if w.addr.toNat = addr then Nat.lor acc w.mask.toNat else acc
    | _ => acc) acc) 0

/-- Inserts or replaces the value at a key of a list of rising keys; the value `dflt` is not listed. -/
def putKey (k v dflt : Nat) : List (Nat × Nat) → List (Nat × Nat)
  | [] => if v = dflt then [] else [(k, v)]
  | (k', v') :: r =>
    if k < k' then (if v = dflt then (k', v') :: r else (k, v) :: (k', v') :: r)
    else if k = k' then (if v = dflt then r else (k, v) :: r)
    else (k', v') :: putKey k v dflt r

/-- The index pair and word of an address in a row, when the row covers it. -/
def PRow.at? (r : PRow) (a : Nat) : Option (Nat × Nat × Nat) :=
  if a < r.addr then none
  else
    let d := a - r.addr
    let i := if r.c1 ≤ 1 then 0 else d / r.s1
    let d1 := d - i * r.s1
    let j := if r.c2 ≤ 1 then 0 else d1 / r.s2
    let d2 := d1 - j * r.s2
    if i < r.c1 ∧ j < r.c2 ∧ d2 % 4 = 0 ∧ d2 / 4 < r.words then some (i, j, d2 / 4) else none

/-- The bits a row's field has in one word: all of `lo` to `lo + width - 1`, but for STR_FAULT_GROUP (07 Table 7.8), the
second words of MAC_EXACT and MAC_STATION (14 Table 14.3) and HOLD_HEADROOM of ports 32 to 63 (16 R415). -/
def PRow.mask (r : PRow) (i w : Nat) : Nat :=
  if r.addr = 0x10000010 ∨ r.addr = 0x10000100 then 0x77777777
  else if r.addr = 0x02001070 ∧ w % 2 = 1 then 0x8000FFFF
  else if r.addr = 0x02001010 ∧ w = 1 then 0xFFFF
  else if r.addr = 0x04003000 ∧ 32 ≤ i then 0
  else (2 ^ r.width - 1) * 2 ^ r.lo

/-- The reset value of a row's field in one word, in place: that of the map, but for the fault groups (slot div 6, 07
Table 7.8), the station addresses (factory base + n, 14 Table 14.3) and the hold limits of ports that are no MAC (16
R415). -/
def PRow.resetAt (r : PRow) (i w : Nat) : Nat :=
  if r.addr = 0x10000010 then
    (List.range 8).foldl (fun acc b => acc + (8 * w + b) / 6 * 2 ^ (4 * b)) 0
  else if r.addr = 0x02001010 then bitsOf (Config.factoryMac.toNat + i) (32 * w) (if w = 1 then 16 else 32)
  else if r.addr = 0x04001000 then (if i < 32 then 64 else 512)
  else if r.addr = 0x04002000 then (if i < 32 then 4096 else 32768)
  else if r.addr = 0x04003000 then (if i < 32 then 1536 else 0)
  else if r.addr = 0x04004000 then (if i < 32 then 8192 else 32768)
  else if r.words ≤ 1 then r.reset * 2 ^ r.lo
  else bitsOf r.reset (32 * w) 32

/-- The rows that cover an address, with index and word. -/
def rowsAt (a : Nat) : List (PRow × Nat × Nat × Nat) :=
  rowsAll.filterMap (fun r => match r.at? a with
    | some (i, j, w) => if r.mask i w = 0 then none else some (r, i, j, w)
    | none => none)

/-- The reset value of the RW fields of a word. -/
def resetWord (a : Nat) : Nat :=
  (rowsAt a).foldl (fun acc (r, i, _, w) => if r.acc = .rw then acc + r.resetAt i w else acc) 0

/-- The value in force of a word's RW fields at any address. -/
def rwWord (s : State) (a : Nat) : Nat := layered s a (resetWord a)

/-- The highest offset of each block's map plus 4 (00 R17; log entry 6): offsets below it are in the map. Offsets 0x100 to 0x1FC of the
blocks Stripes, Index and Transports belong to their maps (08 R237; 09 R259; 13 R354). -/
def mapEnd (block : Nat) : Nat :=
  rowsAll.foldl (fun acc r =>
    if r.addr / 0x1000000 = block then
      max acc (r.addr % 0x1000000 + (r.c1 - 1) * r.s1 + (r.c2 - 1) * r.s2 + 4 * r.words)
    else acc) (if 0x10 ≤ block ∧ block ≤ 0x12 then 0x200 else 0)

/-- An address that R17 admits: an assigned block, an offset in its map, a multiple of 4. -/
def addrOk (a : Nat) : Bool := a % 4 == 0 && decide (a % 0x1000000 < mapEnd (a / 0x1000000))

/-- TS_PTP_PORT (Table 3.7). -/
def pTsPtpPort0 (s : State) : Nat := bitsOf (layered s 0x01000024 0) 0 5
/-- TS_PTP_PORT bits from 8 (Table 3.7). -/
def pTsPtpPort8 (s : State) : Nat := bitsOf (layered s 0x01000024 0) 8 5
/-- TS_PTP_PORT bits from 13 (Table 3.7). -/
def pTsPtpPort13 (s : State) : Nat := bitsOf (layered s 0x01000024 0) 13 1
/-- TS_PTP_CFG (Table 3.7). -/
def pTsPtpCfg0 (s : State) : Nat := bitsOf (layered s 0x01000028 196608) 0 8
/-- TS_PTP_CFG bits from 8 (Table 3.7). -/
def pTsPtpCfg8 (s : State) : Nat := bitsOf (layered s 0x01000028 196608) 8 2
/-- TS_PTP_CFG bits from 16 (Table 3.7). -/
def pTsPtpCfg16 (s : State) : Nat := bitsOf (layered s 0x01000028 196608) 16 4
/-- TS_REF_CTRL (Table 3.7). -/
def pTsRefCtrl0 (s : State) : Nat := bitsOf (layered s 0x0100002C 0) 0 1
/-- TS_REF_CTRL bits from 1 (Table 3.7). -/
def pTsRefCtrl1 (s : State) : Nat := bitsOf (layered s 0x0100002C 0) 1 1
/-- TS_REF_CTRL bits from 2 (Table 3.7). -/
def pTsRefCtrl2 (s : State) : Nat := bitsOf (layered s 0x0100002C 0) 2 1
/-- TS_PPS_DELAY (Table 3.7). -/
def pTsPpsDelay (s : State) : Nat := bitsOf (layered s 0x01000030 0) 0 32
/-- TS_SLEW_MAX (Table 3.7). -/
def pTsSlewMax (s : State) : Nat := bitsOf (layered s 0x01000034 500) 0 32
/-- TS_LOCK_WAIT (Table 3.7). -/
def pTsLockWait (s : State) : Nat := bitsOf (layered s 0x01000038 30000) 0 32
/-- TS_PTP_REJECT (Table 3.7). -/
def pTsPtpReject (s : State) : Nat := bitsOf (layered s 0x0100003C 1000) 0 32
/-- TS_BEACON_WINDOW (Table 3.7). -/
def pTsBeaconWindow (s : State) : Nat := bitsOf (layered s 0x01000040 10) 0 32
/-- TS_CEREMONY_WINDOW (Table 3.7). -/
def pTsCeremonyWindow (s : State) : Nat := bitsOf (layered s 0x01000068 86400) 0 32
/-- IDX_HINT_LOG2 (Table 6.7). -/
def pIdxHintLog2 (s : State) : Nat := bitsOf (layered s 0x1100000C 32) 0 6
/-- IDX_RUNAHEAD_MAX (Table 6.7). -/
def pIdxRunaheadMax (s : State) : Nat := bitsOf (layered s 0x11000010 1048576) 0 32
/-- IDX_DELTA_FLUSH (Table 6.7). -/
def pIdxDeltaFlush (s : State) : Nat := bitsOf (layered s 0x11000014 256) 0 32
/-- IDX_DELTA_AGE (Table 6.7). -/
def pIdxDeltaAge (s : State) : Nat := bitsOf (layered s 0x11000018 5000) 0 32
/-- IDX_NV_DELAY (Table 6.7). -/
def pIdxNvDelay (s : State) : Nat := bitsOf (layered s 0x11000020 500000) 0 32
/-- IDX_OPEN_IDLE (Table 6.7). -/
def pIdxOpenIdle (s : State) : Nat := bitsOf (layered s 0x11000024 86400) 0 32
/-- IDX_CACHE_GIB (Table 6.7). -/
def pIdxCacheGib (s : State) : Nat := bitsOf (layered s 0x11000028 96) 0 32
/-- IDX_RUNAHEAD (Table 6.7). -/
def pIdxRunahead (s : State) : Nat := bitsOf (layered s 0x11000040 1) 0 1
/-- STR_CLOSE_DELAY (Table 7.8). -/
def pStrCloseDelay (s : State) : Nat := bitsOf (layered s 0x1000001C 1000) 0 32
/-- STR_JOURNAL_MAX (Table 7.8). -/
def pStrJournalMax (s : State) : Nat := bitsOf (layered s 0x10000020 12) 0 32
/-- STR_RELOC_SHARE (Table 7.8). -/
def pStrRelocShare (s : State) : Nat := bitsOf (layered s 0x10000024 10) 0 32
/-- STR_RELOC_MIN_STALE (Table 7.8). -/
def pStrRelocMinStale (s : State) : Nat := bitsOf (layered s 0x10000028 50) 0 32
/-- STR_FREE_LOW (Table 7.8). -/
def pStrFreeLow (s : State) : Nat := bitsOf (layered s 0x1000002C 4) 0 32
/-- STR_FREE_CRIT (Table 7.8). -/
def pStrFreeCrit (s : State) : Nat := bitsOf (layered s 0x10000030 1) 0 32
/-- STR_MAP_CACHE_GIB (Table 7.8). -/
def pStrMapCacheGib (s : State) : Nat := bitsOf (layered s 0x10000038 192) 0 32
/-- STR_CKPT_INTERVAL (Table 7.8). -/
def pStrCkptInterval (s : State) : Nat := bitsOf (layered s 0x1000003C 60) 0 32
/-- STR_STRIKE_WINDOW (Table 8.6). -/
def pStrStrikeWindow (s : State) : Nat := bitsOf (layered s 0x10000124 86400) 0 32
/-- STR_SUSPECT_STRIKES (Table 8.6). -/
def pStrSuspectStrikes (s : State) : Nat := bitsOf (layered s 0x10000128 3) 0 32
/-- STR_FAIL_STRIKES (Table 8.6). -/
def pStrFailStrikes (s : State) : Nat := bitsOf (layered s 0x1000012C 32) 0 32
/-- STR_HEDGE (Table 8.6). -/
def pStrHedge (s : State) : Nat := bitsOf (layered s 0x10000130 2000) 0 32
/-- STR_DEGRADED_RETRY (Table 8.6). -/
def pStrDegradedRetry (s : State) : Nat := bitsOf (layered s 0x10000134 3) 0 32
/-- STR_REBUILD_SHARE (Table 8.6). -/
def pStrRebuildShare (s : State) : Nat := bitsOf (layered s 0x10000138 30) 0 32
/-- STR_REBUILD_CRIT_SHARE (Table 8.6). -/
def pStrRebuildCritShare (s : State) : Nat := bitsOf (layered s 0x1000013C 70) 0 32
/-- STR_SCRUB_PERIOD (Table 8.6). -/
def pStrScrubPeriod (s : State) : Nat := bitsOf (layered s 0x1000014C 2592000) 0 32
/-- STR_SCRUB_SHARE (Table 8.6). -/
def pStrScrubShare (s : State) : Nat := bitsOf (layered s 0x10000150 5) 0 32
/-- IDX_CKPT_INTERVAL (Table 9.7). -/
def pIdxCkptInterval (s : State) : Nat := bitsOf (layered s 0x11000104 3600) 0 32
/-- IDX_RECEIPT_BATCH (Table 9.7). -/
def pIdxReceiptBatch (s : State) : Nat := bitsOf (layered s 0x11000108 100) 0 32
/-- TRN_UDP_PORT (Table 12.7). -/
def pTrnUdpPort (s : State) : Nat := bitsOf (layered s 0x12000004 7460) 0 16
/-- TRN_FRESH_WINDOW (Table 12.7). -/
def pTrnFreshWindow (s : State) : Nat := bitsOf (layered s 0x12000008 2000) 0 32
/-- TRN_RTO_MIN (Table 12.7). -/
def pTrnRtoMin (s : State) : Nat := bitsOf (layered s 0x1200000C 20) 0 32
/-- TRN_RTO_MAX (Table 12.7). -/
def pTrnRtoMax (s : State) : Nat := bitsOf (layered s 0x12000010 1000) 0 32
/-- TRN_ACK_DELAY (Table 12.7). -/
def pTrnAckDelay (s : State) : Nat := bitsOf (layered s 0x12000014 4) 0 32
/-- TRN_DEAD_TIME (Table 12.7). -/
def pTrnDeadTime (s : State) : Nat := bitsOf (layered s 0x12000018 1000) 0 32
/-- TRN_REKEY_INTERVAL (Table 12.7). -/
def pTrnRekeyInterval (s : State) : Nat := bitsOf (layered s 0x1200001C 3600) 0 32
/-- TRN_SETUP_MAX (Table 12.7). -/
def pTrnSetupMax (s : State) : Nat := bitsOf (layered s 0x12000020 4096) 0 32
/-- TRN_SETUP_TIMEOUT (Table 12.7). -/
def pTrnSetupTimeout (s : State) : Nat := bitsOf (layered s 0x12000024 1000) 0 32
/-- TRN_MISS_KIB (Table 12.7). -/
def pTrnMissKib (s : State) : Nat := bitsOf (layered s 0x12000034 2048) 0 32
/-- TRN_ROCE_CTRL (Table 12.7). -/
def pTrnRoceCtrl0 (s : State) : Nat := bitsOf (layered s 0x1200003C 81) 0 1
/-- TRN_ROCE_CTRL bits from 4 (Table 12.7). -/
def pTrnRoceCtrl4 (s : State) : Nat := bitsOf (layered s 0x1200003C 81) 4 3
/-- TRN_RNR_TIMER (Table 12.7). -/
def pTrnRnrTimer (s : State) : Nat := bitsOf (layered s 0x12000040 10) 0 32
/-- TRN_ROCE_ACK_TIMEOUT (Table 12.7). -/
def pTrnRoceAckTimeout (s : State) : Nat := bitsOf (layered s 0x12000044 4096) 0 32
/-- TRN_CNP_INTERVAL (Table 12.7). -/
def pTrnCnpInterval (s : State) : Nat := bitsOf (layered s 0x12000048 50) 0 32
/-- TRN_LAND_GIB (Table 13.5). -/
def pTrnLandGib (s : State) : Nat := bitsOf (layered s 0x12000100 64) 0 32
/-- TRN_LAND_DEFAULT_MIB (Table 13.5). -/
def pTrnLandDefaultMib (s : State) : Nat := bitsOf (layered s 0x12000108 16) 0 32
/-- MAC_PORT_MODE bits from 0 at index `n` (Table 14.3). -/
def pMacPortMode (s : State) (n : Nat) : Nat := bitsOf (layered s (0x02000100 + 64 * n) 0) 0 2
/-- MAC_CTRL bits from 0 at index `n` (Table 14.3). -/
def pMacCtrl0 (s : State) (n : Nat) : Nat := bitsOf (layered s (0x02001000 + 256 * n) 33) 0 1
/-- MAC_CTRL bits from 1 at index `n` (Table 14.3). -/
def pMacCtrl1 (s : State) (n : Nat) : Nat := bitsOf (layered s (0x02001000 + 256 * n) 33) 1 1
/-- MAC_CTRL bits from 2 at index `n` (Table 14.3). -/
def pMacCtrl2 (s : State) (n : Nat) : Nat := bitsOf (layered s (0x02001000 + 256 * n) 33) 2 1
/-- MAC_CTRL bits from 4 at index `n` (Table 14.3). -/
def pMacCtrl4 (s : State) (n : Nat) : Nat := bitsOf (layered s (0x02001000 + 256 * n) 33) 4 2
/-- MAC_CTRL bits from 6 at index `n` (Table 14.3). -/
def pMacCtrl6 (s : State) (n : Nat) : Nat := bitsOf (layered s (0x02001000 + 256 * n) 33) 6 1
/-- MAC_CTRL bits from 7 at index `n` (Table 14.3). -/
def pMacCtrl7 (s : State) (n : Nat) : Nat := bitsOf (layered s (0x02001000 + 256 * n) 33) 7 1
/-- MAC_FRAME_MAX bits from 0 at index `n` (Table 14.3). -/
def pMacFrameMax (s : State) (n : Nat) : Nat := bitsOf (layered s (0x02001008 + 256 * n) 9216) 0 14
/-- MAC_VLAN bits from 0 at index `n` (Table 14.3). -/
def pMacVlan0 (s : State) (n : Nat) : Nat := bitsOf (layered s (0x0200100C + 256 * n) 0) 0 12
/-- MAC_VLAN bits from 12 at index `n` (Table 14.3). -/
def pMacVlan12 (s : State) (n : Nat) : Nat := bitsOf (layered s (0x0200100C + 256 * n) 0) 12 3
/-- MAC_IPV4 bits from 0 at index `n` (Table 14.3). -/
def pMacIpv4 (s : State) (n : Nat) : Nat := bitsOf (layered s (0x02001018 + 256 * n) 0) 0 32
/-- MAC_IPV4_PREFIX bits from 0 at index `n` (Table 14.3). -/
def pMacIpv4Prefix (s : State) (n : Nat) : Nat := bitsOf (layered s (0x0200101C + 256 * n) 24) 0 6
/-- MAC_IPV4_GW bits from 0 at index `n` (Table 14.3). -/
def pMacIpv4Gw (s : State) (n : Nat) : Nat := bitsOf (layered s (0x02001020 + 256 * n) 0) 0 32
/-- MAC_IPV6_PREFIX bits from 0 at index `n` (Table 14.3). -/
def pMacIpv6Prefix (s : State) (n : Nat) : Nat := bitsOf (layered s (0x02001040 + 256 * n) 64) 0 8
/-- MAC_PAUSE_WDOG bits from 0 at index `n` (Table 14.3). -/
def pMacPauseWdog (s : State) (n : Nat) : Nat := bitsOf (layered s (0x02001060 + 256 * n) 100) 0 32
/-- MAC_PAUSE_IGNORE bits from 0 at index `n` (Table 14.3). -/
def pMacPauseIgnore (s : State) (n : Nat) : Nat := bitsOf (layered s (0x02001064 + 256 * n) 1000) 0 32
/-- MAC_WAKE_CTRL bits from 0 at index `n` (Table 14.3). -/
def pMacWakeCtrl0 (s : State) (n : Nat) : Nat := bitsOf (layered s (0x020010B8 + 256 * n) 0) 0 8
/-- MAC_WAKE_CTRL bits from 8 at index `n` (Table 14.3). -/
def pMacWakeCtrl8 (s : State) (n : Nat) : Nat := bitsOf (layered s (0x020010B8 + 256 * n) 0) 8 1
/-- MAC_WAKE_CTRL bits from 9 at index `n` (Table 14.3). -/
def pMacWakeCtrl9 (s : State) (n : Nat) : Nat := bitsOf (layered s (0x020010B8 + 256 * n) 0) 9 1
/-- SCH_CMD_COST (Table 15.4). -/
def pSchCmdCost (s : State) : Nat := bitsOf (layered s 0x0300000C 4096) 0 32
/-- SCH_DRV_SLOTS (Table 15.4). -/
def pSchDrvSlots (s : State) : Nat := bitsOf (layered s 0x03000010 128) 0 32
/-- SCH_PRECOLOUR (Table 15.4). -/
def pSchPrecolour (s : State) : Nat := bitsOf (layered s 0x03000014 0) 0 16
/-- SCH_SHELF_CIR (Table 15.4). -/
def pSchShelfCir (s : State) : Nat := bitsOf (layered s 0x03000018 10000) 0 32
/-- SCH_SHELF_CBS (Table 15.4). -/
def pSchShelfCbs (s : State) : Nat := bitsOf (layered s 0x0300001C 131072) 0 32
/-- SCH_CC_MIN (Table 15.4). -/
def pSchCcMin (s : State) : Nat := bitsOf (layered s 0x03000020 125) 0 32
/-- SCH_CC_STEP (Table 15.4). -/
def pSchCcStep (s : State) : Nat := bitsOf (layered s 0x03000024 500) 0 32
/-- SCH_CC_RECOVER (Table 15.4). -/
def pSchCcRecover (s : State) : Nat := bitsOf (layered s 0x03000028 55) 0 32
/-- SCH_SHARE_WINDOW (Table 15.4). -/
def pSchShareWindow (s : State) : Nat := bitsOf (layered s 0x0300002C 1000) 0 32
/-- SCH_QUIET_PCT (Table 15.4). -/
def pSchQuietPct (s : State) : Nat := bitsOf (layered s 0x03000030 50) 0 32
/-- SCH_QUIET_DRV (Table 15.4). -/
def pSchQuietDrv (s : State) : Nat := bitsOf (layered s 0x03000034 6000) 0 32
/-- HOLD_LOSSLESS (Table 16.4). -/
def pHoldLossless (s : State) : Nat := bitsOf (layered s 0x04000014 40) 0 8
/-- HOLD_BG_CLASS (Table 16.4). -/
def pHoldBgClass (s : State) : Nat := bitsOf (layered s 0x04000018 1) 0 3
/-- HOLD_RELEASE (Table 16.4). -/
def pHoldRelease (s : State) : Nat := bitsOf (layered s 0x0400001C 512) 0 32
/-- HOLD_COIL_PERIOD (Table 16.4). -/
def pHoldCoilPeriod (s : State) : Nat := bitsOf (layered s 0x04000020 1000) 0 32
/-- DRV_TIMEOUT (Table 17.5). -/
def pDrvTimeout (s : State) : Nat := bitsOf (layered s 0x06000004 50) 0 32
/-- DRV_CPL_TIMEOUT (Table 17.5). -/
def pDrvCplTimeout (s : State) : Nat := bitsOf (layered s 0x0600000C 10000) 0 32
/-- DRV_PERST_TIME (Table 17.5). -/
def pDrvPerstTime (s : State) : Nat := bitsOf (layered s 0x06000010 1000) 0 32
/-- SEP_CTRL (Table 17.6). -/
def pSepCtrl (s : State) : Nat := bitsOf (layered s 0x07000004 0) 0 1
/-- PAIR_HB_INTERVAL (Table 18.5). -/
def pPairHbInterval (s : State) : Nat := bitsOf (layered s 0x08000018 1000) 0 32
/-- PAIR_HB_MISS (Table 18.5). -/
def pPairHbMiss (s : State) : Nat := bitsOf (layered s 0x0800001C 10) 0 32
/-- PAIR_CTRL (Table 18.5). -/
def pPairCtrl (s : State) : Nat := bitsOf (layered s 0x08000028 1) 0 1
/-- TET_HB_INTERVAL (Table 18.6). -/
def pTetHbInterval (s : State) : Nat := bitsOf (layered s 0x09000008 100) 0 32
/-- TET_HB_MISS (Table 18.6). -/
def pTetHbMiss (s : State) : Nat := bitsOf (layered s 0x0900000C 3) 0 32
/-- TET_CTRL bits from 1 (Table 18.6). -/
def pTetCtrl (s : State) : Nat := bitsOf (layered s 0x09000010 2) 1 1
/-- PWR_ILIM (Table 21.4). -/
def pPwrIlim (s : State) : Nat := bitsOf (layered s 0x0A000018 45000) 0 32
/-- PWR_UV_RISE (Table 21.4). -/
def pPwrUvRise (s : State) : Nat := bitsOf (layered s 0x0A00001C 4800) 0 32
/-- PWR_INSERT_DELAY (Table 21.4). -/
def pPwrInsertDelay (s : State) : Nat := bitsOf (layered s 0x0A00002C 100) 0 32
/-- PWR_PRE_TIME (Table 21.4). -/
def pPwrPreTime (s : State) : Nat := bitsOf (layered s 0x0A000030 50) 0 32
/-- PWR_RAMP_RATE (Table 21.4). -/
def pPwrRampRate (s : State) : Nat := bitsOf (layered s 0x0A000034 1000) 0 32
/-- PWR_RAMP_ILIM (Table 21.4). -/
def pPwrRampIlim (s : State) : Nat := bitsOf (layered s 0x0A000038 8000) 0 32
/-- PWR_RAMP_FAULT (Table 21.4). -/
def pPwrRampFault (s : State) : Nat := bitsOf (layered s 0x0A00003C 20) 0 32
/-- PWR_FAULT_TIME (Table 21.4). -/
def pPwrFaultTime (s : State) : Nat := bitsOf (layered s 0x0A000040 10000) 0 32
/-- PWR_PG_QUAL (Table 21.4). -/
def pPwrPgQual (s : State) : Nat := bitsOf (layered s 0x0A000044 10000) 0 32
/-- PWR_PG_HIGH (Table 21.4). -/
def pPwrPgHigh (s : State) : Nat := bitsOf (layered s 0x0A000048 95) 0 32
/-- PWR_PG_LOW (Table 21.4). -/
def pPwrPgLow (s : State) : Nat := bitsOf (layered s 0x0A00004C 85) 0 32
/-- PWR_BELAY_QUAL (Table 21.4). -/
def pPwrBelayQual (s : State) : Nat := bitsOf (layered s 0x0A000050 100) 0 32
/-- PWR_HOLDUP_MIN (Table 21.4). -/
def pPwrHoldupMin (s : State) : Nat := bitsOf (layered s 0x0A000054 400) 0 32
/-- SLOT_ILIM (Table 21.5). -/
def pSlotIlim (s : State) : Nat := bitsOf (layered s 0x0B000010 5000) 0 32
/-- SLOT_UV_RISE (Table 21.5). -/
def pSlotUvRise (s : State) : Nat := bitsOf (layered s 0x0B000014 4800) 0 32
/-- SLOT_UV_FALL (Table 21.5). -/
def pSlotUvFall (s : State) : Nat := bitsOf (layered s 0x0B000018 4500) 0 32
/-- SLOT_OV_RISE (Table 21.5). -/
def pSlotOvRise (s : State) : Nat := bitsOf (layered s 0x0B00001C 18500) 0 32
/-- SLOT_INSERT_DELAY (Table 21.5). -/
def pSlotInsertDelay (s : State) : Nat := bitsOf (layered s 0x0B000020 200) 0 32
/-- SLOT_PRE_TIME (Table 21.5). -/
def pSlotPreTime (s : State) : Nat := bitsOf (layered s 0x0B000024 20) 0 32
/-- SLOT_RAMP_RATE (Table 21.5). -/
def pSlotRampRate (s : State) : Nat := bitsOf (layered s 0x0B000028 2000) 0 32
/-- SLOT_RAMP_ILIM (Table 21.5). -/
def pSlotRampIlim (s : State) : Nat := bitsOf (layered s 0x0B00002C 1500) 0 32
/-- SLOT_RAMP_FAULT (Table 21.5). -/
def pSlotRampFault (s : State) : Nat := bitsOf (layered s 0x0B000030 20) 0 32
/-- SLOT_FAULT_TIME (Table 21.5). -/
def pSlotFaultTime (s : State) : Nat := bitsOf (layered s 0x0B000034 5000) 0 32
/-- SLOT_PG_QUAL (Table 21.5). -/
def pSlotPgQual (s : State) : Nat := bitsOf (layered s 0x0B000038 5000) 0 32
/-- SLOT_STAGGER (Table 21.5). -/
def pSlotStagger (s : State) : Nat := bitsOf (layered s 0x0B00003C 50) 0 32
/-- PST_CTRL (Table 22.5). -/
def pPstCtrl0 (s : State) : Nat := bitsOf (layered s 0x0C000004 3) 0 1
/-- PST_CTRL bits from 1 (Table 22.5). -/
def pPstCtrl1 (s : State) : Nat := bitsOf (layered s 0x0C000004 3) 1 1
/-- PST_DROWSE_IDLE (Table 22.5). -/
def pPstDrowseIdle (s : State) : Nat := bitsOf (layered s 0x0C000008 1000) 0 32
/-- PST_DORMANT_IDLE (Table 22.5). -/
def pPstDormantIdle (s : State) : Nat := bitsOf (layered s 0x0C00000C 60) 0 32
/-- PST_DOMAIN_IDLE (Table 22.5). -/
def pPstDomainIdle (s : State) : Nat := bitsOf (layered s 0x0C000010 1000) 0 32
/-- PST_SHUTDOWN_MAX (Table 22.5). -/
def pPstShutdownMax (s : State) : Nat := bitsOf (layered s 0x0C000020 10000) 0 32
/-- EVT_COALESCE (Table 23.4). -/
def pEvtCoalesce (s : State) : Nat := bitsOf (layered s 0x0D00000C 10000) 0 32
/-- EVT_PLDM (Table 23.4). -/
def pEvtPldm (s : State) : Nat := bitsOf (layered s 0x0D000010 1) 0 1
/-- EVT_MASK bits from 0 at index `n` (Table 23.4). -/
def pEvtMask (s : State) (n : Nat) : Nat := bitsOf (layered s (0x0D000100 + 32 * n) 0) 0 32

/-- HOLD_MIN of an input and class in force since the last start-up (16 R399). -/
def holdMin (s : State) (p c : Nat) : Nat :=
  (s.layers.latched.lookup (0x04001000 + 0x20 * p + 4 * c)).getD (if p < 32 then 64 else 512)

/-- HOLD_LIMIT of an input and class in force since the last start-up. -/
def holdLimit (s : State) (p c : Nat) : Nat :=
  (s.layers.latched.lookup (0x04002000 + 0x20 * p + 4 * c)).getD (if p < 32 then 4096 else 32768)

/-- HOLD_HEADROOM of a MAC input and class in force since the last start-up. -/
def holdHeadroom (s : State) (p c : Nat) : Nat :=
  (s.layers.latched.lookup (0x04003000 + 0x20 * p + 4 * c)).getD (if p < 32 then 1536 else 0)

/-- HOLD_OUT_LIMIT of an output and class in force since the last start-up. -/
def holdOutLimit (s : State) (p c : Nat) : Nat :=
  (s.layers.latched.lookup (0x04004000 + 0x20 * p + 4 * c)).getD (if p < 32 then 8192 else 32768)

/-- TRN_MISS_KIB in force since the last start-up (12 Table 12.7). -/
def missKib (s : State) : Nat := (s.layers.latched.lookup 0x12000034).getD 2048

/-- TRN_LAND_GIB in force since the last start-up (13 Table 13.5). -/
def landGib (s : State) : Nat := (s.layers.latched.lookup 0x12000100).getD 64

/-- The reset word of STR_FAULT_GROUP: slot div 6 (07 Table 7.8). -/
def faultGroupReset : Nat → Nat
  | 0 => 0x11000000
  | 1 => 0x22221111
  | _ => 0x33333322

/-- The fault group of a slot (07 R176, STR_FAULT_GROUP). -/
def faultGroup (s : State) (slot : Nat) : Nat :=
  bitsOf (layered s (0x10000010 + 4 * (slot / 8)) (faultGroupReset (slot / 8))) (4 * (slot % 8)) 3

/-- PAIR_HOME bit of a shard: homed on B (18 R442). -/
def homeB (s : State) (shard : Nat) : Bool :=
  bitsOf (layered s (0x08000010 + 4 * (shard / 32)) 0xAAAAAAAA) (shard % 32) 1 == 1

end Machine
end Sys2Proof
end

