-- ==== Sys2Proof/Machine/Flags.lean ====
section
/-!
DEFINITION. Status codes (19 Table 19.6), the status fields of the parameter maps, and the events they raise (23 R525 to
R531).
-/
namespace Sys2Proof
namespace Machine

/-! ## Status codes (19 R475) -/

/-- S_OK: Success. -/
def sOk : Nat := 0x0000
/-- S_ALREADY: Part already committed, equal length. -/
def sAlready : Nat := 0x0001
/-- S_TRUNCATED: LIST stopped before the end. -/
def sTruncated : Nat := 0x0002
/-- E_FORMAT: Field outside its encoding. -/
def eFormat : Nat := 0x0101
/-- E_RESERVED: Non-zero reserved field. -/
def eReserved : Nat := 0x0102
/-- E_RANGE: Value or address out of range. -/
def eRange : Nat := 0x0103
/-- E_OPCODE: Unassigned opcode. -/
def eOpcode : Nat := 0x0104
/-- E_TAG: Tag held or out of range. -/
def eTag : Nat := 0x0105
/-- E_NOT_VISIBLE: Absent or not permitted, naming an object, collection or namespace. -/
def eNotVisible : Nat := 0x0201
/-- E_DENIED: Not permitted. -/
def eDenied : Nat := 0x0202
/-- E_QUORUM: Key not enrolled, or quorum not reached. -/
def eQuorum : Nat := 0x0203
/-- E_SIGNATURE: Signature or command counter invalid. -/
def eSignature : Nat := 0x0204
/-- E_ROLLBACK: SVN below the fused value. -/
def eRollback : Nat := 0x0205
/-- E_TOKEN: Debug token expired or unbound. -/
def eToken : Nat := 0x0206
/-- E_PAIRING: Hitch pairing mismatch. -/
def ePairing : Nat := 0x0207
/-- E_REGION: Push refused. -/
def eRegion : Nat := 0x0208
/-- E_CONFLICT: Ceremony target changed. -/
def eConflict : Nat := 0x0301
/-- E_EXISTS: Name held. -/
def eExists : Nat := 0x0302
/-- E_STATE: State does not admit the command. -/
def eState : Nat := 0x0303
/-- E_DIGEST: Digest or key mismatch. -/
def eDigest : Nat := 0x0304
/-- E_NOT_EMPTY: Collection holds objects. -/
def eNotEmpty : Nat := 0x0305
/-- E_GEOMETRY: Geometry not permitted. -/
def eGeometry : Nat := 0x0306
/-- E_NOT_READY: No tenant key held. -/
def eNotReady : Nat := 0x0307
/-- E_EXPOSED: MEMBER_FAIL would lose a stripe. -/
def eExposed : Nat := 0x0308
/-- E_CUSTODY_KEY: Custody key not certified. -/
def eCustodyKey : Nat := 0x0309
/-- E_HITCH_STATE: Hitch state forbids the command. -/
def eHitchState : Nat := 0x030A
/-- E_PORT_IN_USE: Port mode change would remove the PTP MAC. -/
def ePortInUse : Nat := 0x030B
/-- E_MOVE_ABORT: Mover descriptor aborted on request. -/
def eMoveAbort : Nat := 0x030C
/-- E_SLOT_BUSY: Slot's member neither ABSENT nor FAILED. -/
def eSlotBusy : Nat := 0x030D
/-- E_MAILBOX_OPEN: Mailbox holds an open connection. -/
def eMailboxOpen : Nat := 0x030E
/-- E_PAIR_STATE: Pair not PAIRED. -/
def ePairState : Nat := 0x030F
/-- E_OVERLAY: Field set by an overlay in force. -/
def eOverlay : Nat := 0x0310
/-- E_CEREMONY_FULL: Sixteen ceremonies open. -/
def eCeremonyFull : Nat := 0x0401
/-- E_QUOTA: Tenant quota or allowance exhausted. -/
def eQuota : Nat := 0x0402
/-- E_LIMIT: Size or count limit passed. -/
def eLimit : Nat := 0x0403
/-- E_LOCKS_FULL: Sixteen holds on the target. -/
def eLocksFull : Nat := 0x0404
/-- E_HITCH_FULL: Four hitches open. -/
def eHitchFull : Nat := 0x0405
/-- E_CONTEXTS: Context store full. -/
def eContexts : Nat := 0x0406
/-- E_SETUP_BUSY: Too many setups in progress. -/
def eSetupBusy : Nat := 0x0407
/-- E_LANDING: Landing pool full. -/
def eLanding : Nat := 0x0408
/-- E_RATE: Marked red by the policer. -/
def eRate : Nat := 0x0409
/-- E_QUIET_CAPACITY: QUIET reservation limit passed. -/
def eQuietCapacity : Nat := 0x040A
/-- E_MAILBOX_FULL: No mailbox, or two connections already held by the principal. -/
def eMailboxFull : Nat := 0x040B
/-- E_RING_FULL: Request ring without room. -/
def eRingFull : Nat := 0x040C
/-- E_HELD: A hold is in force. -/
def eHeld : Nat := 0x0501
/-- E_STOPPER: A stopper is in force. -/
def eStopper : Nat := 0x0502
/-- E_LOST: Range touches a lost stripe. -/
def eLost : Nat := 0x0603
/-- E_ECC: Uncorrectable DRAM ECC error in a move. -/
def eEcc : Nat := 0x0604
/-- E_UNANCHORED: Lock expired, Custody Time unanchored. -/
def eUnanchored : Nat := 0x0701
/-- E_TIME_BACKWARD: Beacon would move Custody Time back. -/
def eTimeBackward : Nat := 0x0702
/-- E_BEACON_STALE: Beacon nonce, module or window mismatch. -/
def eBeaconStale : Nat := 0x0703
/-- E_SESSION: Session closed by the module. -/
def eSession : Nat := 0x0801
/-- E_STALE: Message aged past the freshness window. -/
def eStale : Nat := 0x0802
/-- E_CIPHER: No supported suite, version or payload size. -/
def eCipher : Nat := 0x0803
/-- E_INTERNAL: Internal fault detected before any change; nothing changed. -/
def eInternal : Nat := 0x0F01
/-- E_TRIGGER: Trigger pending count overflow. -/
def eTrigger : Nat := 0x0F02
/-- E_HOLD_FAULT: Hold cell failed its owner tag or ECC check. -/
def eHoldFault : Nat := 0x0F03

/-! ## Status words and figures -/

/-- TS_STATUS (03 Table 3.7). -/
def stTS : Nat := 0x01000064
/-- MAC_STATUS (14 Table 14.3). -/
def stMAC : Nat := 0x02000008
/-- SCH_STATUS (15 Table 15.4). -/
def stSCH : Nat := 0x03000040
/-- HOLD_STATUS (16 Table 16.4). -/
def stHOLD : Nat := 0x04000034
/-- MOV_STATUS (16 Table 16.5). -/
def stMOV : Nat := 0x05000030
/-- DRV_STATUS (17 Table 17.5). -/
def stDRV : Nat := 0x06000028
/-- SEP_STATUS (17 Table 17.6). -/
def stSEP : Nat := 0x07000018
/-- PAIR_STATUS (18 Table 18.5). -/
def stPAIR : Nat := 0x0800005C
/-- TET_STATUS (18 Table 18.6). -/
def stTET : Nat := 0x09000014
/-- PWR_STATUS (21 Table 21.4). -/
def stPWR : Nat := 0x0A000060
/-- SLOT_STATUS (21 Table 21.5). -/
def stSLOT : Nat := 0x0B000040
/-- PST_STATUS (22 Table 22.5). -/
def stPST : Nat := 0x0C000034
/-- EVT_STATUS (23 Table 23.4). -/
def stEVT : Nat := 0x0D000018
/-- STR_STATUS (07 Table 7.8). -/
def stSTR : Nat := 0x10000050
/-- STR_RB_STATUS (08 Table 8.6). -/
def stRB : Nat := 0x10000160
/-- IDX_STATUS (06 Table 6.7). -/
def stIDX : Nat := 0x11000044
/-- IDX_LY_STATUS (09 Table 9.7). -/
def stLY : Nat := 0x11000124
/-- TRN_STATUS (12 Table 12.7). -/
def stTRN : Nat := 0x1200005C
/-- TRN_RG_STATUS (13 Table 13.5). -/
def stRG : Nat := 0x12000120

/-- The event number of bit 0 of a status field (23 Table 23.1). -/
def statusEvent (addr : Nat) : Nat :=
  if addr = stTS then 0x100 else if addr = stMAC then 0x200 else if addr = stSCH then 0x300
  else if addr = stHOLD then 0x400 else if addr = stMOV then 0x500 else if addr = stDRV then 0x600
  else if addr = stSEP then 0x700 else if addr = stPAIR then 0x800 else if addr = stTET then 0x900
  else if addr = stPWR then 0xA00 else if addr = stSLOT then 0xA20 else if addr = stPST then 0xA40
  else if addr = stSTR then 0xC00 else if addr = stRB then 0xC20 else if addr = stIDX then 0xD00
  else if addr = stLY then 0xD20 else if addr = stTRN then 0xE00 else if addr = stRG then 0xE20 else 0xF00

/-- A W1C word: status bits, wake causes. -/
def statusWord (s : State) (addr : Nat) : Nat := (s.layers.status.lookup addr).getD 0

/-- A figure kept as an RO word. -/
def figure (s : State) (addr : Nat) : Nat := (s.layers.figures.lookup addr).getD 0

/-- Writes a figure. -/
def setFigure (addr v : Nat) (s : State) : State :=
  { s with layers := { s.layers with figures := putKey addr v 0 s.layers.figures } }

/-- Raises a figure by `n`, saturating at 2^32 - 1. -/
def bumpFigure (addr n : Nat) (s : State) : State := setFigure addr (min 0xFFFFFFFF (figure s addr + n)) s

/-- Sets bits of a W1C word without an event. -/
def orStatus (addr bits : Nat) (s : State) : State :=
  { s with layers := { s.layers with status := putKey addr (Nat.lor (statusWord s addr) bits) 0 s.layers.status } }

/-- Clears bits of a W1C word; clearing raises nothing (23 R526). -/
def clearStatus (addr bits : Nat) (s : State) : State :=
  { s with layers := { s.layers with
      status := putKey addr (statusWord s addr - Nat.land (statusWord s addr) bits) 0 s.layers.status } }

/-! ## Events (23) -/

/-- Instance of an event that concerns none (23 Table 23.2). -/
def noInst : Nat := 0xFFFF

/-- The principal that observes a ring (23 R528); none for the management controller. -/
def ringWho (s : State) (r : EvRing) : Option Principal :=
  r.mbx.bind (fun m => (s.mbx.conns.find? (fun c => c.mbx == m)).map (fun c => c.who))

/-- Whether an observer of operator scope may receive an event (23 Table 23.3). -/
def operatorGets (num : Nat) : Bool :=
  let g := num / 0x100
  (decide (1 ≤ g ∧ g ≤ 0xA)) || decide (0xC ≤ g)

/-- The masks of operator scope: EVT_MASK bit of the source's group (23 R530). -/
def evMasked (s : State) (num : Nat) : Bool :=
  bitsOf (layered s (0x0D000100 + 0x20 * (num / 0x100) + 4 * (num % 0x100 / 32)) 0) (num % 32) 1 == 1

/-- Whether a ring receives an event other than a declared lost stripe (23 Table 23.3, R530). -/
def ringGets (s : State) (r : EvRing) (num : Nat) : Bool :=
  match ringWho s r with
  | none => r.mbx.isNone && operatorGets num && !evMasked s num
  | some (.operator _ _) => operatorGets num && !evMasked s num
  | some (.custodian _) => true
  | some (.auditor _ _) => decide (0xD20 ≤ num ∧ num ≤ 0xD23)
  | some _ => false

/-- Kind of an event (23 Table 23.2). -/
def evKind (num : Nat) : Nat :=
  if num = 0x680 ∨ num = 0xC81 then 2
  else if num < 0x100 then 3
  else if num % 0x100 < 0x80 then 0 else 1

/-- Whether an occurrence joins a record: same event and instance, unread, within the coalescing window of its first stamp
(23 R530). `w` is the window in units of 2^-16 ns. -/
def coalesces (r : EvRecord) (num inst now w : Nat) : Bool :=
  r.event == num && r.inst == inst && !r.read && decide (0 < w) && decide (now ≤ r.first + w)

/-- The newest record of a ring is one of its ordinary records, not the overflow record (23 R529, R530). -/
def newestOrdinary (r : EvRing) : Bool :=
  match r.overflow, r.records.getLast? with
  | none, _ => true
  | some o, some n => decide (o.seq < n.seq)
  | some _, none => false

/-- A new event record (23 Table 23.2). -/
def newRecord (num inst seq now : Nat) (detail : Flds) : EvRecord :=
  { event := num, kind := evKind num, inst := inst, count := 1, seq := seq, first := now, last := now, detail := detail,
    read := false }

/-- Places an occurrence in a ring of 1,024 entries, one of them kept for overflow (23 R528 to R530). The second component
says that a record was lost. -/
def placeRecord (r : EvRing) (num inst now w : Nat) (detail : Flds) : EvRing × Bool :=
  match r.records.getLast? with
  | some n =>
    if newestOrdinary r && coalesces n num inst now w then
      ({ r with records := r.records.dropLast ++ [{ n with count := min 65535 (n.count + 1), last := now }] }, false)
    else if r.records.length < 1023 then
      ({ r with records := r.records ++ [newRecord num inst (r.nextSeq + 1) now detail], nextSeq := r.nextSeq + 1 }, false)
    else
      match r.overflow with
      | some o =>
        let d := [(4, (o.detail.headD (4, 0)).2 + 1), (12, 0)]
        ({ r with overflow := some { o with count := min 65535 (o.count + 1), last := now, detail := d } }, true)
      | none =>
        let o := newRecord 0x080 noInst (r.nextSeq + 1) now [(4, 1), (12, 0)]
        ({ r with overflow := some o, nextSeq := r.nextSeq + 1 }, true)
  | none =>
    ({ r with records := [newRecord num inst (r.nextSeq + 1) now detail], nextSeq := r.nextSeq + 1 }, false)

/-- The coalescing window in units of 2^-16 ns (EVT_COALESCE, ms). -/
def evWindow (s : State) : Nat := pEvtCoalesce s * 1000000 * 65536

/-- Places an occurrence in the rings that `gets` admits, each with its own instance; answers how many rings lost it. -/
def placeAll (s : State) (num : Nat) (detail : Flds) (insts : EvRing → List Nat) : State × Nat :=
  let now := s.time.shelf
  let w := evWindow s
  let out := s.ev.rings.map (fun r =>
    (insts r).foldl (fun acc inst =>
      let p := placeRecord acc.1 num inst now w detail
      (p.1, acc.2 + (if p.2 then 1 else 0))) (r, 0))
  ({ s with ev := { s.ev with rings := out.map Prod.fst } }, (out.map Prod.snd).sum)

/-- MSI-X vectors wait or leave (17 R436): a vector is sent while the link is up, MSI-X and Bus Master Enable are set and it is
not masked; otherwise its pending bit is set. -/
def msix (vec : Nat) (s : State) : State :=
  if s.sep.linkUp && s.sep.msixOn && s.sep.master && s.pwr.belay.isNone && !s.sep.masked.contains vec then
    { s with out := s.out ++ [{ port := .endpoint, kind := .msix, op := vec, tag := 0, status := 0, body := [], data := [] }] }
  else { s with sep := { s.sep with pending := if s.sep.pending.contains vec then s.sep.pending else s.sep.pending ++ [vec] } }

/-- A ring's connection is bound to the endpoint (19 Table 19.1). -/
def ringOnEndpoint (s : State) (r : EvRing) : Bool :=
  r.mbx.elim false (fun m => s.mbx.conns.any (fun c => c.mbx == m && c.path == .endpoint))

/-- Places an event, signals vector 64 + g to endpoint-bound rings that received it (23 R532), and counts the overflows:
EVT_OVERFLOWS, EVT_STATUS bit 0 and its own event, whose own losses raise no further event (23 R529; log entry 7). -/
def placeEvent (num : Nat) (detail : Flds) (insts : State → EvRing → List Nat) (s : State) : State :=
  let (s1, lost) := placeAll s num detail (insts s)
  let signal := s.ev.rings.any (fun r => ringOnEndpoint s r && !(insts s r).isEmpty)
  let one (n : Nat) (st : Nat) (x : State) : State :=
    (placeAll x n [(4, statusWord x st), (12, 0)] (fun r => if ringGets x r n then [noInst] else [])).1
  let s2 := if signal then msix (64 + num / 0x100) s1 else s1
  let s3 := if signal && !s.sep.master then one 0x702 stSEP (orStatus stSEP 4 s2) else s2
  if lost = 0 then s3 else one 0xF00 stEVT (orStatus stEVT 1 (bumpFigure 0x0D000014 lost s3))

/-- Raises an event with one instance (23 R526). -/
def raiseEvent (num inst : Nat) (detail : Flds) (s : State) : State :=
  placeEvent num detail (fun s r => if ringGets s r num then [inst] else []) s

/-- Sets a status bit and raises its event, whether or not the bit is already set (23 R526). -/
def raise (addr bit inst : Nat) (s : State) : State :=
  let s1 := orStatus addr (2 ^ bit) s
  raiseEvent (statusEvent addr + bit) inst [(4, statusWord s1 addr), (12, 0)] s1

/-- Raises the event of a declared lost stripe, 0xC22, at the instances of Table 23.3: the containers (tenant and number)
with data in the stripe for custodians and their tenants, 0xFFFF for the others. -/
def raiseLost (containers : List (Nat × Nat)) (s : State) : State :=
  let s1 := orStatus stRB 4 s
  placeEvent 0xC22 [(4, statusWord s1 stRB), (12, 0)] (fun s r =>
    match ringWho s r with
    | none => if r.mbx.isNone && !evMasked s 0xC22 then [noInst] else []
    | some (.operator _ _) => if evMasked s 0xC22 then [] else [noInst]
    | some (.auditor _ _) => [noInst]
    | some (.custodian _) => if containers.isEmpty then [noInst] else containers.map Prod.snd
    | some (.tenant n) => (containers.filter (fun p => p.1 == n)).map Prod.snd
    | some _ => []) s1

end Machine
end Sys2Proof
end

