-- ==== Sys2Proof/Machine/Ops.lean ====
section
/-!
DEFINITION. Named operations over the whole state: clocks and deadlines (03), random draws (02 R43), commit stamps (03 R85),
principals and grants (02), outputs, and completions that wait before they leave (03 R86, 02 R51).
-/
namespace Sys2Proof

/-! ## Principals (02) -/

/-- The tenant a principal acts for. -/
def Principal.tenant? : Principal → Option Nat
  | .tenant n => some n
  | .depositor n _ _ => some n
  | .reader n _ _ => some n
  | _ => none

/-- The grant a principal acts under. -/
def Principal.grant? : Principal → Option GrantId
  | .depositor _ g _ => some g
  | .reader _ g _ => some g
  | .auditor g _ => some g
  | .operator g _ => some g
  | _ => none

namespace Machine

/-! ## Lists kept by key -/

/-- Applies `f` to the elements that satisfy `p`. -/
def mapIf {α : Type} (p : α → Bool) (f : α → α) (l : List α) : List α := l.map (fun x => if p x then f x else x)

/-- Replaces the elements that satisfy `p` by `x`, or adds it at the end. -/
def putBy {α : Type} (p : α → Bool) (x : α) (l : List α) : List α :=
  if l.any p then l.map (fun y => if p y then x else y) else l ++ [x]

/-- Drops the elements that satisfy `p`. -/
def dropIf {α : Type} (p : α → Bool) (l : List α) : List α := l.filter (fun x => !p x)

/-- The smallest natural below `n` that `p` accepts. -/
def firstFree (n : Nat) (p : Nat → Bool) : Option Nat := (List.range n).find? p

/-! ## Clocks (03) -/

/-- One nanosecond in units of 2^-16 ns (R66). -/
def nsU : Nat := 65536
/-- One microsecond in those units. -/
def usU : Nat := 1000 * nsU
/-- One millisecond in those units. -/
def msU : Nat := 1000000 * nsU
/-- One second in those units. -/
def secU : Nat := 1000000000 * nsU

/-- Shelf Time now: the ingress stamp of the command that runs (R81). -/
def now (s : State) : Nat := s.time.shelf

/-- The timeline of durations and deadlines: Shelf Time without its steps before service opens (R80). -/
def mono (s : State) : Nat := s.time.mono

/-- The timeline of a deadline set at `set`: one set before service opened counts oscillator ticks, one set since follows Shelf Time as it
slews (R80). -/
def clockOf (s : State) (set : Nat) : Nat := if set < s.time.openedAt then ((s.time.mono : Int) - s.time.slewed).toNat else s.time.mono

/-- The deadline `dur` after `set` is confirmed: the first slot boundary of Shelf Time at or after the deadline and the guard of 256 ns has
come (R80, R82). -/
def confirmed (s : State) (set dur : Nat) : Bool :=
  let g := ((set + dur + 256 * nsU : Nat) : Int) + ((s.time.shelf : Nat) : Int) - ((clockOf s set : Nat) : Int)
  decide (roundUp g.toNat (64 * nsU) ≤ s.time.shelf)

/-- An arrival now comes after the deadline `dur` after `set` (R82, R84). -/
def late (s : State) (set dur : Nat) : Bool := decide (set + dur < clockOf s set)

/-- A deadline that names an instant of Shelf Time itself is confirmed (R82). -/
def confirmedShelf (s : State) (deadline : Nat) : Bool := decide (roundUp (deadline + 256 * nsU) (64 * nsU) ≤ s.time.shelf)

/-- Shelf Time fields (03 Table 3.1). -/
def shelfFlds (t : Nat) : Flds := [(2, t % 65536), (4, t / 65536 % 1000000000), (6, t / 65536 / 1000000000)]

/-- Commit stamp fields (03 Table 3.6). -/
def cstampFlds (c : CStamp) : Flds := (4, c.seq) :: shelfFlds c.time

/-- Custody Time in whole seconds. -/
def custodySec (s : State) : Nat := s.time.custody / secU

/-- The custody stamp of this instant (R78). -/
def kstamp (s : State) : KStamp :=
  { sec := custodySec s, ns := s.time.custody / nsU % 1000000000,
    flags := match s.time.anchor with | .unanchored => 1 | .anchored => 0 | .aged => 2,
    count := s.time.beacons }

/-- Custody stamp fields (03 Table 3.4). -/
def kstampFlds (k : KStamp) : Flds := [(6, k.sec), (4, k.ns), (2, k.flags), (4, k.count)]

/-- Anchored in the sense of R74 and R75. -/
def anchored (s : State) : Bool := s.time.anchor == .anchored

/-- The Shelf Time state a module reports: a follower's is its leader's (R67). -/
def shelfMode (s : State) : TsMode := if s.time.follower then s.time.leadMode else s.time.mode

/-- A value moved towards a target by at most `lim`. -/
def toward (d : Int) (lim : Nat) : Int := if d < -(lim : Int) then -(lim : Int) else if (lim : Int) < d then (lim : Int) else d

/-- Time passes by the ticks of one idle step (log entry 5). Shelf Time takes up a phase to slew by at most TS_SLEW_MAX
(R70), and a qualified ref10m_in gives it its frequency (R69); before service opens it does not slew. Custody Time runs on the oscillator alone while unanchored and otherwise follows Shelf Time and the custody offset
within 200 ppm (R73, R74). -/
def tick (s : State) : State :=
  let d := s.time.idleTicks * nsU
  let steer := if s.boot.open_ && s.time.refQual && pTsRefCtrl2 s == 1 && !s.time.follower then (d : Int) * s.time.refPpb / 1000000000 else 0
  let left := if s.boot.open_ then s.time.slewLeft + steer else 0
  let slew := toward left (d * pTsSlewMax s / 1000000)
  let shelf := ((s.time.shelf + d : Nat) : Int) + slew
  let cust :=
    match s.time.anchor with
    | .unanchored => s.time.custody + d
    | _ =>
      let want := shelf + s.time.custOffset
      let step := toward (want - ((s.time.custody + d : Nat) : Int)) (d * 200 / 1000000)
      (((s.time.custody + d : Nat) : Int) + step).toNat
  { s with time := { s.time with
      ticks := s.time.ticks + s.time.idleTicks, shelf := shelf.toNat, mono := (((s.time.mono + d : Nat) : Int) + slew).toNat,
      slewed := s.time.slewed + slew, slewLeft := if s.boot.open_ then left - slew else s.time.slewLeft, custody := cust } }

/-! ## Random draws and free values -/

/-- The next draw of the DRBG (02 R43; log entry 2). -/
def draw (s : State) : BitVec 512 × State :=
  (Config.drbg s.auth.drawn, { s with auth := { s.auth with drawn := s.auth.drawn + 1 } })

/-- A 32-byte draw: a nonce or a salt. -/
def drawDigest (s : State) : Digest × State := ((draw s).1.truncate 256, (draw s).2)

/-- A value the spec leaves to chance or to an order it does not give (log entry 2). -/
def free (s : State) : Nat × State :=
  (Config.freeValue s.auth.freeUsed, { s with auth := { s.auth with freeUsed := s.auth.freeUsed + 1 } })

/-! ## Commit stamps (03 R85 to R89) -/

/-- The sequencer's stamp for a mutation at Shelf Time `t` after `last` (R85). -/
def nextStamp (last : CStamp) (t : Nat) : CStamp :=
  if last.time < t then { time := t, seq := 0 }
  else if last.seq < 0xFFFFFFFF then { time := last.time, seq := last.seq + 1 }
  else { time := last.time + 1, seq := 0 }

/-- Order of commit stamps: the 16 bytes as one integer (03 Table 3.6). -/
def CStamp.lt (a b : CStamp) : Bool := decide (a.time < b.time) || (decide (a.time = b.time) && decide (a.seq < b.seq))

/-- No commit stamp: zero (09 Table 9.5; 10 Table 10.6). -/
def noStamp : CStamp := { time := 0, seq := 0 }

/-- A shard not listed: it has stamped nothing. -/
def noShard (n : Nat) : Shard :=
  { num := n, owned := false, last := { time := 0, seq := 0 }, mirrored := { time := 0, seq := 0 },
    splice := 0, retired := 0, stripes := 0, ckptAt := 0, ckpt := { time := 0, seq := 0 }, ckptAddr := 0, ckpts := 0, freed := [], ckptNew := none, seen := 0,
    ready := false,
    moving := false }

/-- A shard by its number. -/
def shardAt (s : State) (n : Nat) : Shard := (s.log.shards.find? (fun x => x.num == n)).getD (noShard n)

/-- Writes a shard. -/
def putShard (x : Shard) (s : State) : State :=
  { s with log := { s.log with shards := putBy (fun y => y.num == x.num) x s.log.shards } }

/-- Sequences one mutation at a shard (R85). -/
def sequence (shard : Nat) (s : State) : CStamp × State :=
  let x := shardAt s shard
  let st := nextStamp x.last (now s)
  (st, putShard { x with last := st } s)

/-- A read point at a shard: above every mutation sequenced so far (R86). -/
def readPoint (s : State) (shard : Nat) : CStamp := nextStamp (shardAt s shard).last (now s)

/-! ## Principals and grants (02) -/

/-- A grant record by issuer and serial. -/
def grantAt (s : State) (g : GrantId) : Option GrantRec :=
  s.auth.grants.find? (fun r => r.issuer == g.issuer && r.serial.toNat == g.serial)

/-- Custody Time lies within [not-before, not-after) of a grant (R34). -/
def grantTimely (s : State) (g : GrantRec) : Bool := decide (g.notBefore ≤ custodySec s) && decide (custodySec s < g.notAfter)

/-- A principal's grant is in force: it stands and its window is open (R34, R35). -/
def grantOk (s : State) (p : Principal) : Bool :=
  match p.grant? with
  | none => true
  | some g => (grantAt s g).any (grantTimely s)

/-- A grant's scope names a collection or a namespace (02 Table 2.2). -/
def inScope (g : GrantRec) (isNs : Bool) (num : Nat) : Bool :=
  g.scope.any (fun e => e.isNs == isNs && e.num.toNat == num)

/-- A principal's grant covers a collection or namespace; a principal without a grant is not limited by one. -/
def grantCovers (s : State) (p : Principal) (isNs : Bool) (num : Nat) : Bool :=
  match p.grant? with
  | none => true
  | some g => (grantAt s g).any (fun r => inScope r isNs num)

/-- A tenant by its number. -/
def tenantAt (s : State) (n : Nat) : Option Tenant := s.obj.tenants.find? (fun t => t.num == n)

/-- A collection by its number. -/
def collAt (s : State) (n : Nat) : Option Coll := s.obj.colls.find? (fun c => c.num == n)

/-- A context by its number. -/
def ctxAt (s : State) (n : Nat) : Option Ctx := s.trn.ctxs.find? (fun c => c.num == n)

/-- Writes a context. -/
def putCtx (c : Ctx) (s : State) : State :=
  { s with trn := { s.trn with ctxs := putBy (fun x => x.num == c.num) c s.trn.ctxs } }

/-! ## Service -/

/-- Service is open and the SoC runs (24 R535; 21 R508). -/
def serving (s : State) : Bool := s.boot.open_ && s.boot.halted.isNone && s.pwr.belay.isNone

/-! ## Outputs -/

/-- From the start of belay nothing leaves the module except to the drives (07 Table 7.7; 16 R394). -/
def mayLeave (s : State) (m : Msg) : Bool :=
  s.pwr.belay.isNone || (match m.port with
    | .drive _ => true
    | _ => false)

/-- Sends a message. -/
def send (m : Msg) (s : State) : State := if mayLeave s m then { s with out := s.out ++ [m] } else s

/-- A message without data. -/
def msg (port : Port) (kind : MsgKind) (op tag status : Nat) (body : Flds) : Msg :=
  { port := port, kind := kind, op := op, tag := tag, status := status, body := body, data := [] }

/-- A completion that waits (R86): what it waits for is in its fields; it takes the next number of the model. -/
def hold (h : Held) (s : State) : State :=
  { s with held := s.held ++ [{ h with id := s.nextId }], nextId := s.nextId + 1 }

/-- A completion that waits only for an instant of Shelf Time. -/
def heldAt (m : Msg) (t : Nat) : Held :=
  { id := 0, msg := m, notBefore := t, nv := false, nvDelay := 0, shard := 0, splice := 0, level := .none, also := [], batch := none,
    drives := [], rows := [], bank := none, drains := [], remote := none, job := none,
    flow := .log, repaired := false }

/-- An answer E_NOT_VISIBLE of a class delay, released at its instant (02 R51, Table 2.7). -/
def holdNotVisible (m : Msg) (delay : Nat) (s : State) : State :=
  hold { heldAt m (now s + delay) with nv := true, nvDelay := delay } s

/-- The NV-C and NV-B class delay (02 Table 2.7). -/
def nvCDelay : Nat := 20000 * nsU

/-- The NV-O class delay (02 Table 2.7, IDX_NV_DELAY). -/
def nvODelay (s : State) : Nat := pIdxNvDelay s * nsU

/-- A completion of a mutation: not before Shelf Time has passed the stamp's time by 64 ns (R86). -/
def heldStamp (m : Msg) (c : CStamp) : Held := heldAt m (c.time + 64 * nsU)

/-- The instant from which the completion of mutations just sequenced at some shards may leave: 64 ns after the latest of their stamps
(R86, R87). -/
def stampPassed (s : State) (shards : List Nat) : Nat := (shards.map (fun n => (shardAt s n).last.time)).foldl max 0 + 64 * nsU

/-! ## Wakes (22 R516, R518) -/

/-- A wake of Table 22.3 by cause bit: it is recorded, takes the module to Run, or abandons or is held by an entry in progress
(22 R516, R518). How long the exit from Dormant takes, at most PST_EXIT_DORMANT, is free (22 Table 22.5; log entry 2). -/
def wake (cause : Nat) (s : State) : State :=
  if s.pst.entering.isNone && s.pst.mode != .drowse && s.pst.mode != .dormant then s
  else
    let s1 := orStatus 0x0C000024 (2 ^ cause) s
    match s1.pst.entering with
    | some _ =>
      if s1.pst.point < 6 then { s1 with pst := { s1.pst with abandon := true } }
      else { s1 with pst := { s1.pst with heldWake := true } }
    | none =>
      let s2 := { s1 with pst := { s1.pst with mode := .run, woken := [], point := 0, wokeAt := some (mono s1) } }
      if s1.pst.mode == .dormant then setFigure 0x0C000028 ((free s2).1 % 301) (free s2).2 else s2

/-- Host work seen: it postpones Drowse and returns the module to Run (22 R513, R514); during an entry it raises a wake (22 Table 22.4
S1). -/
def hostWork (s : State) : State :=
  let late := s.pst.entering.isSome && decide (6 ≤ s.pst.point)
  let s1 := { s with pst := { s.pst with lastWork := mono s, abandon := s.pst.abandon || (s.pst.entering.isSome && !late),
                                         heldWake := s.pst.heldWake || late } }
  if s1.pst.mode == .drowse && s1.pst.entering.isNone then { s1 with pst := { s1.pst with mode := .run, woken := [], point := 0 } } else s1

end Machine
end Sys2Proof
end

