-- ==== Sys2Proof/Machine/Keys.lean ====
section
/-!
DEFINITION. The keys of the module (02 Table 2.6, R43 to R47; 10 R273, Table 10.7): the derivation of every key that protects something on
media, and the escrow wrap. A 256-bit key is held in the low half of 512 bits.
-/
namespace Sys2Proof
namespace Machine

/-- Zero bytes. -/
def zeros (n : Nat) : Bytes := List.replicate n 0

/-- A 256-bit key drawn from the DRBG (02 R43). -/
def drawKey (s : State) : BitVec 512 × State := (((draw s).1.truncate 256).zeroExtend 512, (draw s).2)

/-! ## Derived keys (10 R273) -/

/-- Block `i` of the counter-mode KDF: HMAC of i ‖ label ‖ 0x00 ‖ context ‖ L under KI (10 R273). -/
def kdfBlock (ki : BitVec 512) (i : Nat) (label : String) (context : Bytes) (l : Nat) : Digest :=
  Config.hmac ki (leBytes 4 i ++ ascii label ++ [0] ++ context ++ leBytes 4 l)

/-- A derived key of 256 bits. -/
def derive256 (ki : BitVec 512) (label : String) (context : Bytes) : BitVec 512 := (kdfBlock ki 1 label context 256).zeroExtend 512

/-- A derived key of 512 bits: K(1) ‖ K(2), its first byte lowest. -/
def derive512 (ki : BitVec 512) (label : String) (context : Bytes) : BitVec 512 :=
  BitVec.ofNat 512 ((kdfBlock ki 1 label context 512).toNat + (kdfBlock ki 2 label context 512).toNat * 2 ^ 256)

/-- The shelf wrapping key in the SoC; without it nothing is written that it protects. -/
def shelfKey (s : State) : BitVec 512 := s.auth.shelfKey.getD 0

/-- The key of a shard with a label: `idx`, `map`, `splice` or, for a custody shard, `lanyard` (10 Table 10.7). -/
def shardKey (s : State) (label : String) (shard : Nat) : BitVec 512 := derive256 (shelfKey s) label (leBytes 2 shard)

/-- The tenant name key (02 R47; 10 Table 10.7). -/
def nameKey (root : BitVec 512) : BitVec 512 := derive256 root "name" []

/-- The MAC of a name under a tenant's root key (02 R47; 06 R148). -/
def nameMac (root : BitVec 512) (name : Bytes) : Digest := Config.hmac (nameKey root) name

/-- The collection wrapping key (02 Table 2.6; 10 Table 10.7). -/
def collKey (root : BitVec 512) (coll : Nat) : BitVec 512 := derive256 root "coll" (leBytes 2 coll)

/-- The XTS key of a namespace: its shelf number and its format salt under the tenant root key (04 R100; 10 Table 10.7). -/
def xtsKey (root : BitVec 512) (num salt : Nat) : BitVec 512 := derive512 root "ns" (leBytes 2 num ++ leBytes 32 salt)

/-- The 32 bytes of a format salt; zeros once overwritten. -/
def saltValue (salt : Option Digest) : Nat := (salt.map (fun k => k.toNat)).getD 0

/-! ## Escrow (02 R45) -/

/-- The key-encryption key of an escrow wrap (02 R45; 10 R279). -/
def escrowKek (ss1 ss2 : Digest) (ct e : Nat) (escrow : Digest) : BitVec 512 :=
  (Config.sha3 (leBytes 32 ss1.toNat ++ leBytes 32 ss2.toNat ++ leBytes 1568 ct ++ leBytes 32 e ++ leBytes 32 escrow.toNat ++
    ascii "UAVIK-ESCROW-1")).zeroExtend 512

/-- Wraps a key to the enrolled escrow key: an encapsulation and an ephemeral X25519 key are drawn for it (02 R45). None before an escrow key
is enrolled. -/
def escrowWrap (key : BitVec 512) (s : State) : Option EscrowWrap × State :=
  match s.auth.escrowKey with
  | none => (none, s)
  | some k =>
    let (m, s1) := draw s
    let (e, s2) := draw s1
    let ct := Config.kemCipher k m
    let epub := (Config.x25519 e).toNat
    let kek := escrowKek (Config.kemSecret k m) (Config.x25519Shared e k) ct epub k
    (some { escrow := k, ephemeral := epub, ct := ct, wrapped := Config.keyWrap kek key, stamp := kstamp s }, s2)

/-! ## Session keys (12 R324, Table 12.5) -/

/-- KI of a setup from its two shared secrets. -/
def setupKi (ss1 ss2 : Digest) : BitVec 512 :=
  (Config.sha3 (leBytes 32 ss1.toNat ++ leBytes 32 ss2.toNat ++ ascii "UAVIK-BRYNDLE-1")).zeroExtend 512

/-- The keys that `i` labels for initiator to responder and `r` for the reverse, as this module sends and receives under them. -/
def sendReceive (initiator : Bool) (i r : BitVec 512) : BitVec 512 × BitVec 512 := if initiator then (i, r) else (r, i)

/-- The handshake keys of T1. -/
def handshakeKeys (ki : BitVec 512) (t1 : Digest) (initiator : Bool) : BitVec 512 × BitVec 512 :=
  sendReceive initiator (derive256 ki "hs-i" (leBytes 32 t1.toNat)) (derive256 ki "hs-r" (leBytes 32 t1.toNat))

/-- The keys of a session set up by the exchange of Table 12.4, from KI and T2. -/
def sessionKeys (ki : BitVec 512) (t2 : Digest) (initiator : Bool) : SessionKeys :=
  let c := leBytes 32 t2.toNat
  let tr := sendReceive initiator (derive256 ki "tr-i" c) (derive256 ki "tr-r" c)
  let esp := sendReceive initiator (derive512 ki "esp-i" c) (derive512 ki "esp-r" c)
  { initiator := initiator, tx := tr.1, rx := tr.2, prevRx := none, child := derive256 ki "child" c, espTx := esp.1, espRx := esp.2,
    prevEspRx := none }

/-- The keys of a child session, from its parent's child secret and the two nonces. It has no KI of its own: it keeps its parent's child
secret (log entry 140). -/
def childKeys (secret : BitVec 512) (ni nr : Digest) (initiator : Bool) : SessionKeys :=
  let c := leBytes 32 ni.toNat ++ leBytes 32 nr.toNat
  let tr := sendReceive initiator (derive256 secret "child-i" c) (derive256 secret "child-r" c)
  let esp := sendReceive initiator (derive512 secret "esp-i" c) (derive512 secret "esp-r" c)
  { initiator := initiator, tx := tr.1, rx := tr.2, prevRx := none, child := secret, espTx := esp.1, espRx := esp.2, prevEspRx := none }

/-- No keys: those of a queue pair, and of a context that has ended. -/
def noKeys : SessionKeys :=
  { initiator := false, tx := 0, rx := 0, prevRx := none, child := 0, espTx := 0, espRx := 0, prevEspRx := none }

/-- The next-phase key of a traffic key (R327). -/
def nextPhase (k : BitVec 512) : BitVec 512 := derive256 k "next" []

end Machine
end Sys2Proof
end

