-- ==== Sys2Proof/Machine/Media.lean ====
section
/-!
DEFINITION. The bytes of the media format (10): sealed records and their headers, pages, splice-log entries, the stripe header and the
checkpoint pointer slot. Each function forms the plain list of bytes of one layout.
-/
namespace Sys2Proof
namespace Machine

/-! ## Sealing (02 Table 2.3; 10 R274) -/

/-- AES-256-GCM: the ciphertext. -/
def gcmCipher (key : BitVec 512) (nonce : Nat) (plain : Bytes) : Bytes :=
  plain.zipIdx.map (fun x => x.1 ^^^ Config.keystream key nonce x.2)

/-- AES-256-GCM: the ciphertext and the tag. -/
def gcmSeal (key : BitVec 512) (nonce : Nat) (aad plain : Bytes) : Bytes :=
  let c := gcmCipher key nonce plain
  c ++ leBytes 16 (Config.gcmTag key nonce aad c)

/-- Bytes with zeros after them to `n`. -/
def padEnd (n : Nat) (b : Bytes) : Bytes := b ++ zeros (n - b.length)

/-- Bytes with zeros after them to a whole unit (10 R274). -/
def padUnit (b : Bytes) : Bytes := b ++ zeros (padTo 4096 b.length)

/-- A check value after the bytes it covers (10 R264). -/
def withCrc (b : Bytes) : Bytes := b ++ leBytes 8 (crc64 b).toNat

/-- The nonce of 10 R277: a, b and kind. -/
def nonceOf (a b kind : Nat) : Nat := a % 2 ^ 32 + b % 2 ^ 16 * 2 ^ 32 + kind * 2 ^ 48

/-! ## Log records (10 R274) -/

/-- A record header (10 Table 10.8). -/
def recordHead (magic : String) (length shard tenant : Nat) (stamp : CStamp) (nonce : Nat) : Bytes :=
  withCrc (ascii magic ++ encodeFlds ([(2, 1), (2, 0), (4, length), (2, shard), (2, tenant)] ++ cstampFlds stamp ++ [(12, nonce), (12, 0)]))

/-- A record with header, sealed body and tag, padded to a unit (10 R274). -/
def sealedRecord (key : BitVec 512) (magic : String) (shard tenant : Nat) (stamp : CStamp) (nonce : Nat) (body : Bytes) : Bytes :=
  let h := recordHead magic (80 + body.length) shard tenant stamp nonce
  padUnit (h ++ gcmSeal key nonce h body)

/-- Units of a sealed record whose body has so many bytes. -/
def sealedUnits (body : Nat) : Nat := ceilDiv (80 + body) 4096

/-- Fill of so many units: a header whose length counts them, and zeros (10 R274; log entry 121). -/
def fillBytes (shard units : Nat) : Bytes := padUnit (recordHead "UVFL" units shard 0xFFFF { time := 0, seq := 0 } 0)

/-- Plaintext of a tombstone (10 Table 10.9). -/
def tombstoneBody (coll : Nat) (mac : Digest) (record : Nat) : Bytes := encodeFlds [(2, coll), (6, 0), (32, mac.toNat), (8, record)]

/-- Plaintext of a commit record (10 Table 10.9). -/
def commitBody (kind num gen root : Nat) (covered : CStamp) : Bytes :=
  encodeFlds ([(1, kind), (1, 0), (2, num), (4, 0), (8, gen), (8, root)] ++ cstampFlds covered)

/-- A lock entry (10 R274). -/
def lockFlds (l : Lock) : Flds :=
  [(1, if l.num = 0x80 then 0x80 else 1), (1, if l.num = 0x80 then 0 else l.num), (1, l.issuer), (5, 0), (8, l.expiry), (32, l.reason.toNat)]

/-! ## Pages (06 R151 to R154; 07 R187; 10 R275) -/

/-- Bytes of a page body (06 R151). -/
def pageBody : Nat := 16304

/-- A page: header, sealed body, tag (06 R151, Table 6.1). `flags` bit 0 marks a root. -/
def pageBytes (key : BitVec 512) (magic : String) (level flags part shard count tenant gen : Nat) (covered : CStamp) (nonce : Nat)
    (body : Bytes) : Bytes :=
  let h := ascii magic ++ encodeFlds ([(2, 1), (1, level), (1, flags), (2, part), (2, shard), (2, count), (2, tenant), (8, gen)] ++
    cstampFlds covered ++ [(12, nonce), (12, 0)])
  h ++ gcmSeal key nonce h (padEnd pageBody body)

/-- A leaf entry with the body offset of its inline record (06 Table 6.2). -/
def leafEntryBytes (e : LeafEntry) (offset : Nat) : Bytes :=
  encodeFlds ([(32, e.mac.toNat), (2, e.coll), (1, e.kind), (1, e.flags), (4, if e.kind = 2 then offset else 0), (8, e.record), (8, e.first),
    (4, e.firstLen), (4, e.inline_.length)] ++ cstampFlds e.stamp ++ [(8, e.size), (40, e.wrapped)])

/-- The entries of an index leaf in key order, and their inline records, the first of them at the end of the body (06 R152; log entry
122). `top` is the body offset below which the next inline record ends. -/
def packLeaf (top : Nat) : List LeafEntry → Bytes × Bytes
  | [] => ([], [])
  | e :: es =>
    let at_ := top - e.inline_.length
    let r := packLeaf at_ es
    (leafEntryBytes e at_ ++ r.1, r.2 ++ e.inline_)

/-- The index entries among leaf items. -/
def entriesOf (l : List LeafItem) : List LeafEntry := l.filterMap (fun x => match x with
  | .entry e => some e
  | _ => none)

/-- The body of an index leaf. -/
def indexLeafBody (l : List LeafItem) : Bytes :=
  let p := packLeaf pageBody (entriesOf l)
  p.1 ++ zeros (pageBody - p.1.length - p.2.length) ++ p.2

/-- One 8-byte entry of a map leaf (07 R187). -/
def mapSlot (l : List LeafItem) (lba : Nat) : Bytes :=
  let v := l.findSome? (fun x => match x with
    | .block b a r => if b = lba then some (a % 2 ^ 48 + r * 2 ^ 48) else none
    | _ => none)
  leBytes 8 (v.getD 0)

/-- The body of a map leaf: 2,032 entries from the leaf's first LBA. -/
def mapLeafBody (place : Nat) (l : List LeafItem) : Bytes :=
  ((List.range 2032).map (fun i => mapSlot l (2032 * place + i))).flatten

/-- The body of a member-map leaf: entries of 40 bytes (10 R275). -/
def roleLeafBody (l : List LeafItem) : Bytes := (l.map (fun x => match x with
  | .role g n bits => encodeFlds [(4, g), (1, n), (3, 0), (32, bits)]
  | _ => [])).flatten

/-- An inner entry (06 Table 6.3). -/
def innerEntryBytes (e : InnerEntry) : Bytes :=
  encodeFlds [(2, e.key / 2 ^ 256), (2, e.tenant), (32, e.key % 2 ^ 256), (4, 0), (8, e.child)]

/-- The body of an inner map page: 2,032 child addresses (07 R187). -/
def mapInnerBody (place : Nat) (l : List InnerEntry) : Bytes :=
  ((List.range 2032).map (fun i => leBytes 8 (((l.find? (fun e => e.key == 2032 * place + i)).map (fun e => e.child)).getD 0))).flatten

/-! ## Splice-log entries (07 R198, Tables 7.5, 7.6) -/

/-- The body of an entry: kind, commit stamp, fields. -/
def spliceBody (kind : Nat) (stamp : CStamp) (fields : Bytes) : Bytes := encodeFlds ([(1, kind), (7, 0)] ++ cstampFlds stamp) ++ fields

/-- Bytes of an entry whose fields have so many bytes: a multiple of 64. -/
def spliceLength (fields : Nat) : Nat := 64 * ceilDiv (88 + fields) 64

/-- A whole entry: its first 32 bytes are authenticated, the body is sealed, and the check covers bytes 0 to 55 and the body as it is stored
(07 Table 7.5; log entry 123). -/
def spliceBytes (key : BitVec 512) (shard seq length nonce : Nat) (body : Bytes) : Bytes :=
  let a := ascii "UVSL" ++ encodeFlds [(2, 1), (2, shard), (8, seq), (4, length), (12, nonce)]
  let c := gcmCipher key nonce (padEnd (length - 64) body)
  let h := a ++ encodeFlds [(16, Config.gcmTag key nonce a c), (8, 0)]
  h ++ leBytes 8 (crc64 (h ++ c)).toNat ++ c

/-- The pad that fills the end of the last LBA of a ring write (07 R198). -/
def padBytes (key : BitVec 512) (shard length nonce : Nat) : Bytes :=
  if length = 0 then []
  else spliceBytes key shard 0 length nonce (if length = 64 then [] else spliceBody 0 { time := 0, seq := 0 } [])

/-! ## The stripe header (10 R271, Table 10.6) -/

/-- The fields of a stripe header that the row and its segment give. -/
structure StripeHead where
  d       : Nat
  head    : Nat
  shard   : Nat
  seg     : Nat
  row     : Nat
  owner   : Nat
  seq     : Nat
  stampLo : CStamp
  stampHi : CStamp
  seqLo   : Nat
  seqHi   : Nat
  opened  : KStamp
  openedAt : CStamp
  prev    : Nat
deriving DecidableEq, Repr

/-- A stripe header of 4,096 bytes over the check values of its data strips (10 Table 10.6). -/
def stripeHeadBytes (h : StripeHead) (crcs : List Nat) : Bytes :=
  let first := if h.row = 0 then ascii "UVSG" ++ encodeFlds ([(4, 0)] ++ kstampFlds h.opened ++ cstampFlds h.openedAt ++ [(4, h.prev)])
    else zeros 44
  withCrc (ascii "UVSH" ++ encodeFlds ([(2, 1), (1, h.d), (1, 22 - h.d), (1, 2), (1, h.head), (2, h.shard), (4, h.seg), (1, h.row),
    (1, h.owner), (6, 0), (8, h.seq)] ++ cstampFlds h.stampLo ++ cstampFlds h.stampHi ++ [(8, h.seqLo), (8, h.seqHi)] ++
    (List.range 21).map (fun j => (8, crcs.getD j 0)) ++ [(8, 0)]) ++ first ++ zeros 3788)

/-! ## Checkpoint pointers (10 R269, Table 10.5) -/

/-- A checkpoint pointer slot: for each shard its number, the address of its log checkpoint and that checkpoint's stamp. -/
def pointerBytes (slot writer seq : Nat) (entries : List (Nat × Nat × CStamp)) : Bytes :=
  let es := (entries.map (fun x => encodeFlds ([(2, x.1), (6, 0), (8, x.2.1)] ++ cstampFlds x.2.2))).flatten
  let h := ascii "UVCK" ++ encodeFlds [(2, 1), (1, slot), (1, writer), (8, seq), (4, entries.length), (36, 0)]
  padEnd 16384 (h ++ leBytes 8 (crc64 (h ++ es)).toNat ++ es)

end Machine
end Sys2Proof
end

