-- ==== Sys2Proof/Machine/FeedOps.lean ====
section
/-!
DEFINITION. Operations over the hot-swap channels that other chapters use (21 R497, R498, R506). Their timers count oscillator
ticks in ns (03 R80, 21 R496).
-/
namespace Sys2Proof
namespace Machine

/-- A channel. -/
def feedAt (s : State) : ChanId → Feed
  | .input => s.pwr.input
  | .slot n => s.pwr.slots[n]

/-- Writes a channel. -/
def putFeed (ch : ChanId) (f : Feed) (s : State) : State :=
  match ch with
  | .input => { s with pwr := { s.pwr with input := f } }
  | .slot n => { s with pwr := { s.pwr with slots := s.pwr.slots.set n f } }

/-- The instance number of a channel in events: the slot, or none. -/
def feedInst : ChanId → Nat
  | .input => noInst
  | .slot n => n

/-- The channel may leave OFF: its input lies in its window and, for a slot, it is present and enabled (21 R498). -/
def mayStart (f : Feed) : Bool := f.inside && f.present && f.enabled

/-- A channel that is OFF and may start enters INSERT, and its insertion delay starts (21 R498, Table 21.3). -/
def startInsert (ch : ChanId) (s : State) : State :=
  let f := feedAt s ch
  if f.state == .off && mayStart f then putFeed ch { f with state := .insert, since := s.time.ticks, waits := false } s
  else s

/-- A channel goes to OFF: gate and pre-charge off within the step, power good low, no failure counted (21 Table 21.3). -/
def feedOff (ch : ChanId) (s : State) : State :=
  let f := feedAt s ch
  if f.state == .off || f.state == .latched then putFeed ch { f with pg := false, waits := false } s
  else putFeed ch { f with state := .off, since := s.time.ticks, pg := false, waits := false } s

/-- A slot is enabled (21 R506): its channel starts under R498. -/
def enableSlot (n : Fin 24) (s : State) : State :=
  let s1 := putFeed (.slot n) { feedAt s (.slot n) with enabled := true } s
  startInsert (.slot n) s1

/-- A slot is disabled (21 R505, R506): its channel goes to OFF and its failure count clears (R503). -/
def disableSlot (n : Fin 24) (s : State) : State :=
  let s1 := feedOff (.slot n) s
  putFeed (.slot n) { feedAt s1 (.slot n) with enabled := false, fails := 0 } s1

/-- Slot power good (21 R502): this module's channel is GOOD or in LIMIT with power good asserted, or the partner's
is. -/
def slotPg (f : Feed) : Bool :=
  f.state == .good || (f.state == .limit && f.pg) || f.matePg

/-- Every channel that feeds the slot is LATCHED (21 R506). -/
def slotLatchedOff (s : State) (f : Feed) : Bool := f.state == .latched && (!s.pair.pairShelf || f.mateLatched)

end Machine
end Sys2Proof
end

