-- ==== Sys2Proof/Machine/Fair.lean ====
section
/-!
DEFINITION. Token buckets (15 R372 to R378) and self-clocked fair queueing over flows and their subflows (15 R380 to R382).
-/
namespace Sys2Proof
namespace Machine

/-! ## Quotas and buckets (R373 to R375, R378) -/

/-- The scheduling fields a tenant has when no record is given (Table 15.1). -/
def schedDefault : SchedQuota :=
  { weight := 100, policer := 0, cir := 0, pir := 0, cbs := 0, ebs := 0, driveRate := 0, driveBurst := 1024, egressRate := 0,
    egressBurst := 1024, opAllow := 8192, rsv := 0 }

/-- The scheduling fields of a tenant. -/
def schedOf (s : State) (n : Nat) : SchedQuota := ((tenantAt s n).map (fun t => t.quota.sched)).getD schedDefault

/-- Bytes of a bucket unit: 16 fractional bits of a byte (R373). -/
def byteU : Nat := 65536
/-- One KiB in bucket units. -/
def kibU : Nat := 1024 * byteU

/-- The buckets of a tenant, full at their bursts. -/
def fullBuckets (n : Nat) (q : SchedQuota) : Buckets :=
  { tenant := n, c := q.cbs.toNat * kibU, e := q.ebs.toNat * kibU, drive := (q.driveBurst.toNat * kibU : Nat),
    egress := (q.egressBurst.toNat * kibU : Nat) }

/-- The buckets of a tenant. -/
def bucketsAt (s : State) (n : Nat) : Buckets :=
  (s.sch.buckets.find? (fun b => b.tenant == n)).getD (fullBuckets n (schedOf s n))

/-- Writes the buckets of a tenant. -/
def putBuckets (b : Buckets) (s : State) : State :=
  { s with sch := { s.sch with buckets := putBy (fun x => x.tenant == b.tenant) b s.sch.buckets } }

/-- What one refill adds at a rate in MB/s: rate × 1,024 ns in bucket units (R373). -/
def refillAmount (rate : Nat) : Nat := rate * 67108864 / 1000

/-- A signed bucket refilled up to its burst. -/
def refillInt (v : Int) (rate burst n : Nat) : Int := min ((burst * kibU : Nat) : Int) (v + (n * refillAmount rate : Nat))

/-- The buckets of a tenant after `n` refills: srTCM fills C and then E at CIR, trTCM fills C at CIR and P at PIR (R375). -/
def refillBuckets (q : SchedQuota) (n : Nat) (b : Buckets) : Buckets :=
  let cbs := q.cbs.toNat * kibU
  let ebs := q.ebs.toNat * kibU
  let add := n * refillAmount q.cir.toNat
  let c := min cbs (b.c + add)
  let e := if q.policer.toNat % 4 = 2 then min ebs (b.e + n * refillAmount q.pir.toNat)
    else min ebs (b.e + (b.c + add - c))
  { b with c := c, e := e, drive := refillInt b.drive q.driveRate.toNat q.driveBurst.toNat n,
           egress := refillInt b.egress q.egressRate.toNat q.egressBurst.toNat n }

/-- Refill instants up to now: Shelf Time multiples of 1,024 ns (R373). -/
def refillsNow (s : State) : Nat := now s / (1024 * nsU)

/-- Every bucket as it stands after the last refill at or before now (R373). -/
def refill (s : State) : State :=
  let n := refillsNow s - s.sch.refills
  if n = 0 then s
  else
    { s with sch := { s.sch with
        refills := refillsNow s,
        shelfC := min (pSchShelfCbs s * kibU) (s.sch.shelfC + n * refillAmount (pSchShelfCir s)),
        buckets := s.sch.buckets.map (fun b => refillBuckets (schedOf s b.tenant) n b) } }

/-- A tenant is under a QUIET schedule (R387). -/
def quietOf (s : State) (t : Nat) : Option Quiet := s.sch.quiets.find? (fun q => q.item.tenant.toNat == t)

/-! ## Self-clocked fair queueing (R380 to R382) -/

/-- The head of a flow: the flows it belongs to from the scheduler's own level inwards, each with its weight, its cost, and the item. -/
structure FlowHead (α : Type) where
  path : List (FlowId × Nat)
  cost : Nat
  item : α

/-- A flow of a scheduler; one not listed has served nothing. -/
def flowAt (l : List Flow) (f : FlowId) : Flow := (l.find? (fun x => x.id == f)).getD { id := f, last := 0, on := false, v := 0 }

/-- Writes a flow. -/
def putFlow (x : Flow) (l : List Flow) : List Flow := putBy (fun y => y.id == x.id) x l

/-- Order of flows at equal tags: tenants and subflows by number, then the shelf and the hitch (R380, log entry 13). -/
def flowNumber : FlowId → Nat
  | .tenant n => n
  | .sub n k => 4096 + 16 * n + k
  | .shelf => 4096
  | .hitch => 4097
  | .rebuild => 0
  | .relocation => 1
  | .host => 2

/-- The flows of one path enter the backlog: one that was out of it is tagged from the current virtual time of its scheduler, so it
gains no credit (R380). -/
def wakePath (v : Nat) : List (FlowId × Nat) → List Flow → List Flow
  | [], l => l
  | (f, _) :: rest, l =>
    let x := flowAt l f
    let y := if x.on then x else { x with last := max v x.last, on := true }
    wakePath y.v rest (putFlow y l)

/-- The backlog as the heads give it: flows without one are out of it (R380). -/
def wakeHeads {α : Type} (v : Nat) (heads : List (FlowHead α)) (l : List Flow) : List Flow :=
  let live (f : FlowId) : Bool := heads.any (fun h => h.path.any (fun x => x.1 == f))
  heads.foldl (fun acc h => wakePath v h.path acc) (l.map (fun x => if live x.id then x else { x with on := false }))

/-- The tag of a head in its flow: the finish tag of the flow's last item, or the virtual time it was tagged from, and cost / weight
(R380). -/
def headTag (l : List Flow) (f : FlowId × Nat) (cost : Nat) : Nat := (flowAt l f.1).last + cost * 65536 / max 1 f.2

/-- The smaller of two tagged heads: the smaller tag, then the lower flow number (R380). -/
def firstHead {α : Type} (l : List Flow) (a b : (FlowId × Nat) × FlowHead α) : (FlowId × Nat) × FlowHead α :=
  let x := headTag l a.1 a.2.cost
  let y := headTag l b.1 b.2.cost
  if y < x ∨ (y = x ∧ flowNumber b.1.1 < flowNumber a.1.1) then b else a

/-- The head a scheduler serves next at depth `d` of `fuel` levels: each flow's head is its own scheduler's (R382). -/
def fairPick {α : Type} (l : List Flow) : Nat → Nat → List (FlowHead α) → Option (FlowHead α)
  | 0, _, hs => hs.head?
  | fuel + 1, d, hs =>
    let flows := (hs.filterMap (fun h => h.path[d]?)).eraseDups
    let own (f : FlowId × Nat) : List (FlowHead α) := hs.filter (fun h => h.path[d]? == some f)
    let best := flows.filterMap (fun f => (fairPick l fuel (d + 1) (own f)).map (fun h => (f, h)))
    match best with
    | [] => hs.head?
    | b :: bs => some (bs.foldl (firstHead l) b).2

/-- Serving a head: at each level the virtual time becomes its tag, and so does its flow's last tag (R380). Answers the virtual time
and the flows. -/
def fairServe (v cost : Nat) : List (FlowId × Nat) → List Flow → Nat × List Flow
  | [], l => (v, l)
  | f :: rest, l =>
    let t := headTag l f cost
    let r := fairServe (flowAt l f.1).v cost rest l
    (t, putFlow { flowAt l f.1 with last := t, on := true, v := r.1 } r.2)

end Machine
end Sys2Proof
end

