-- ==== Sys2Proof/Machine/Rows.lean ====
section
/-!
DEFINITION. Ports, members and the places of strips: which member holds a strip, which strips a row has lost, how many segments
are free (07 R174 to R181; 08 R211 to R220).
-/
namespace Sys2Proof
namespace Machine

/-- A drive port. -/
def portAt (s : State) (n : Fin 24) : DrivePort := s.drv.ports[n]

/-- Writes a drive port. -/
def putPort (n : Fin 24) (p : DrivePort) (s : State) : State := { s with drv := { s.drv with ports := s.drv.ports.set n p } }

/-- A member. -/
def memberAt (s : State) (n : Fin 24) : Member := s.mem.slots[n]

/-- Writes a member. -/
def putMember (n : Fin 24) (m : Member) (s : State) : State := { s with mem := { s.mem with slots := s.mem.slots.set n m } }

/-- The slots in ascending order. -/
def allSlots : List (Fin 24) := List.finRange 24

/-- The slot of a number, modulo 24: member numbers are computed modulo 24 (07 R175). -/
def slotOf (n : Nat) : Fin 24 := ⟨n % 24, Nat.mod_lt n (by decide)⟩

/-- Whether a member's strips may be read (08 Table 8.1). RESTORING reads are decided per row. -/
def memberReads (m : Member) : Bool := m.state == .healthy || m.state == .suspect || m.state == .restoring

/-- Whether stripes are written to a member (08 Table 8.1). -/
def memberWrites (m : Member) : Bool := m.state == .healthy || m.state == .suspect || m.state == .restoring

/-- Whether a member holds splice copies: HEALTHY (07 R200; 08 Table 8.1). -/
def memberEligible (m : Member) : Bool := m.state == .healthy

/-- The code of a member state (08 Table 8.1). -/
def memberCode : MemberState → Nat
  | .absent => 0
  | .joining => 1
  | .healthy => 2
  | .suspect => 3
  | .failed => 4
  | .restoring => 5

/-! ## Geometry (07 R174, R175, R178) -/

/-- Data strips of a geometry selector (04 Table 4.5): 1 is 18+4, 2 is 20+2. -/
def geomData (g : Nat) : Nat := if g = 1 then 18 else 20

/-- Parity strips of a geometry with `d` data strips and two spare strips (Table 7.1). -/
def geomParity (d : Nat) : Nat := 22 - d

/-- Data units of one row: 16 d - 1 (R174). -/
def rowUnits (d : Nat) : Nat := 16 * d - 1

/-- Data units of a segment of 128 rows (Table 7.1). -/
def segUnits (d : Nat) : Nat := 128 * rowUnits d

/-- The log address of a data unit (R178). -/
def logAddr (seg u : Nat) : Nat := seg * 65536 + u

/-- Segment and unit of a log address (R178). -/
def addrSeg (a : Nat) : Nat := a / 65536
/-- Unit of a log address (R178). -/
def addrUnit (a : Nat) : Nat := a % 65536

/-- Where a data unit lies (R178, the function locate): its row in the segment, data strip, unit in the strip, member, and
its LBA less seg_base. -/
def locate (seg u d : Nat) : Nat × Nat × Nat × Nat × Nat :=
  let n := rowUnits d
  let k := u / n
  let i := u % n + 1
  let j := i / 16
  let q := i % 16
  let r := 128 * seg + k
  (k, j, q, (j + r) % 24, 2048 * seg + 16 * k + q)

/-- The member that holds role `j` of row `row` of a segment: (j + r) mod 24 (R175). -/
def homeMember (seg row role : Nat) : Fin 24 := slotOf (role + 128 * seg + row)

/-- First member LBA of a row (R177). -/
def rowLba (s : State) (seg row : Nat) : Nat := s.log.segBase + 2048 * seg + 16 * row

/-- The rows an extent of consecutive units touches, with the data strips it reads in each (R178). -/
def extentStrips (d addr units : Nat) : List (Nat × Nat × Nat) :=
  ((List.range units).map (fun x =>
    let l := locate (addrSeg addr) (addrUnit addr + x) d
    (addrSeg addr, l.1, l.2.1))).eraseDups

/-- A pair-link state message (18 Table 18.1). -/
def pairState (op : Nat) (body : Flds) (s : State) : State :=
  if s.pair.pairShelf && decide (0 < s.pair.lanes) then send (msg .pair .pairState op 0 0 body) s else s

/-! ## Free segments (07 R181) -/

/-- FREE segments. -/
def freeSegments (s : State) : Nat := s.log.segCount - 1 - s.log.segs.length

/-- Free segments below a percentage of all. -/
def freeBelow (s : State) (pct : Nat) : Bool := decide (freeSegments s * 100 < s.log.segCount * pct)

/-! ## Strips of a row (08 R217, R220) -/

/-- The members of a row's strips that can supply them: not missing, not bad, the member readable; a rebuilt strip at its
spare position (08 R217, R220, R236). -/
def stripMember (s : State) (r : Row) (role : Nat) : Option (Fin 24) :=
  if r.missing.contains role || r.bad.contains role then none
  else
    let m := match r.subst.lookup role with
      | some i => homeMember r.seg r.row (22 + i)
      | none => homeMember r.seg r.row role
    if memberReads (memberAt s m) then some m else none

/-- The roles of a row whose strips are available. -/
def available (s : State) (r : Row) : List Nat :=
  (List.range (r.d + geomParity r.d)).filter (fun j => (stripMember s r j).isSome)

/-- The strips a row has lost. -/
def lostStrips (s : State) (r : Row) : Nat := r.d + geomParity r.d - (available s r).length

/-- A row has lost as many strips as its parity: exposed (08 Table 8.2). -/
def exposed (s : State) (r : Row) : Bool := r.state == .onMedia && decide (geomParity r.d ≤ lostStrips s r)

end Machine
end Sys2Proof
end

