-- ==== Sys2Proof/Machine/DriveOps.lean ====
section
/-!
DEFINITION. Operations over the drive ports that other chapters use: issuing, ending and quarantining commands (17 R425 to
R428), and members (08 R211).
-/
namespace Sys2Proof
namespace Machine

/-- Command slots of a port: SCH_DRV_SLOTS or the total entries of its queues, whichever is less (17 R421). -/
def portSlots (s : State) (n : Fin 24) : Nat := min (pSchDrvSlots s) (portAt s n).entries

/-- Commands issued and not ended on a port. -/
def issuedCount (p : DrivePort) : Nat := (p.cmds.filter (fun c => !c.queued)).length

/-- A tag is free: no command holds it and it is not in quarantine (17 R425, R426). -/
def tagFree (p : DrivePort) (t : Nat) : Bool := !(p.cmds.any (fun c => c.tag == t)) && !(p.quar.any (fun q => q.1 == t))

/-- The next free tag in rotation (log entry 8). -/
def pickTag (p : DrivePort) : Nat :=
  (((List.range 5200).map (fun i => (p.nextTag + i) % 16384)).find? (tagFree p)).getD p.nextTag

/-- The generation a tag takes at its next use: one more, modulo 4, at each reuse (17 R425). -/
def tagGen (p : DrivePort) (t : Nat) : Nat :=
  match p.gens.lookup t with
  | some g => (g + 1) % 4
  | none => 0

/-- The drive command as it leaves the root port: opcode, identifier, queue, LBA, count, the FUA of every write (07 R184, R200) and the
bytes it writes. -/
def driveMsg (slot : Fin 24) (c : DriveCmd) : Msg :=
  { msg (.drive slot) .driveCmd c.op (c.gen * 16384 + c.tag) 0 [(2, c.queue), (8, c.lba), (4, c.count), (1, if c.write then 1 else 0)] with
    data := c.data.take (c.count * 4096) }

/-- The port takes commands: its link is up, discovery is over, the drives are powered and belay has not stopped issue (17
R420, R431; 22 R519; 07 Table 7.7). -/
def portReady (s : State) (n : Fin 24) : Bool :=
  let p := portAt s n
  p.linkUp && p.step.isNone && p.perstAt.isNone && !s.pst.drivesDown && s.pst.poweringUp.isEmpty && decide (s.pst.downStep < 4) &&
  s.pwr.belay.isNone

/-! ## The drive scheduler (15 R385) -/

/-- The class that a purpose has of itself: QUIET and host reads, rebuild, relocation, hitch and scrub are named where they are issued. -/
def purposeFlow : DrivePurpose → DriveFlow
  | .rebuilt _ _ _ _ => .rebuild
  | .restored _ _ _ => .rebuild
  | _ => .log

/-- The relocation share in percent: STR_RELOC_SHARE, rising linearly to 50 as free segments fall from STR_FREE_LOW to STR_FREE_CRIT (07
Table 7.4). -/
def relocShare (s : State) : Nat :=
  let share := pStrRelocShare s
  if !freeBelow s (pStrFreeLow s) then share
  else if freeBelow s (pStrFreeCrit s) then 50
  else
    let span := s.log.segCount * (pStrFreeLow s - pStrFreeCrit s)
    let down := s.log.segCount * pStrFreeLow s - freeSegments s * 100
    share + (50 - share) * down / max 1 span

/-- The share window of a member. -/
def windowAt (s : State) (slot : Fin 24) : ShareWindow :=
  (s.sch.windows.find? (fun w => w.slot == (slot : Nat))).getD
    { slot := slot, since := 0, rebuild := 0, reloc := 0, host := 0, hitch := 0, scrub := 0, cut := false }

/-- Writes a share window. -/
def putWindow (w : ShareWindow) (s : State) : State :=
  { s with sch := { s.sch with windows := putBy (fun x => x.slot == w.slot) w s.sch.windows } }

/-- A share window with the cost of a command counted. -/
def countShare (f : DriveFlow) (cost : Nat) (w : ShareWindow) : ShareWindow :=
  match f with
  | .log => w
  | .quiet => w
  | .rebuild => { w with rebuild := w.rebuild + cost }
  | .relocation => { w with reloc := w.reloc + cost }
  | .host _ _ _ => { w with host := w.host + cost }
  | .hitch => { w with hitch := w.hitch + cost }
  | .scrub => { w with scrub := w.scrub + cost }

/-- The cost of a drive command: its transfer length plus SCH_CMD_COST (R372). -/
def driveCost (s : State) (c : DriveCmd) : Nat := c.count * 4096 + pSchCmdCost s

/-- The order of Table 15.2 that a command is served in. -/
def driveOrder (s : State) : DriveFlow → Nat
  | .log => 1
  | .quiet => 2
  | .rebuild => 3
  | .host _ _ _ => 3
  | .relocation => if freeBelow s (pStrFreeLow s) then 3 else 4
  | .hitch => 4
  | .scrub => 4

/-- A host flow is eligible while its tenant's drive shaper is at zero or above (R378); under QUIET its reads wait for the schedule
(R390). -/
def driveEligible (s : State) (t : Nat) : Bool :=
  (quietOf s t).isNone && ((schedOf s t).driveRate == 0 || decide (0 ≤ (bucketsAt s t).drive))

/-- The subflow of a tenant's collection or namespace, and its weight: as listed, or the default subflow numbered 16 (R382). -/
def subOf (s : State) (t kind num : Nat) : Nat × Nat :=
  match s.sch.weights.find? (fun x => x.tenant == t) with
  | some x =>
    match x.entries.zipIdx.find? (fun e => e.1.1 == kind && e.1.2.1 == num) with
    | some e => (e.2 + 1, e.1.2.2)
    | none => (16, x.dflt)
  | none => (16, 1)

/-- The weight of a tenant's flow (R382); work of no tenant is the shelf flow, of weight 100 (R384). -/
def tenantFlow (s : State) (t : Nat) : FlowId × Nat :=
  if t = 0xFFFF then (.shelf, 100) else (.tenant t, max 1 (schedOf s t).weight.toNat)

/-- The weights of order 3 on a member: rebuild, relocation, host, and whether the first two were cut to leave host a tenth. Classes with
nothing waiting take no share; rebuild takes its share first and relocation the rest up to 90 (R385; 08 R223). -/
def driveWeights (s : State) (rebuild reloc host : Bool) : Nat × Nat × Nat × Bool :=
  let rb := if !rebuild then 0 else if s.log.rows.any (exposed s) then pStrRebuildCritShare s else pStrRebuildShare s
  let rl := if reloc then relocShare s else 0
  if host && decide (90 < rb + rl) then (min 90 rb, 90 - min 90 rb, 10, true) else (rb, rl, 100 - rb - rl, false)

/-- The heads of order 3: the oldest waiting command of rebuild, of relocation, and of each subflow of each tenant that is eligible. -/
def driveHeads (s : State) (w : Nat × Nat × Nat × Bool) : List (List (FlowId × Nat)) → List DriveCmd → List (FlowHead DriveCmd)
  | _, [] => []
  | seen, c :: cs =>
    let path : List (FlowId × Nat) := match c.flow with
      | .rebuild => [(.rebuild, w.1)]
      | .relocation => [(.relocation, w.2.1)]
      | .host t k n => [(.host, w.2.2.1), tenantFlow s t, (.sub t (subOf s t k n).1, (subOf s t k n).2)]
      | _ => []
    let ok := match c.flow with
      | .host t _ _ => driveEligible s t
      | _ => true
    if path.isEmpty || seen.contains path || !ok then driveHeads s w seen cs
    else { path := path, cost := driveCost s c, item := c } :: driveHeads s w (path :: seen) cs

/-- A class of order 4 is below its cap in the window that runs: its share of what a member moves at SCH_QUIET_DRV in
SCH_SHARE_WINDOW (R385; log entry 26). Scrub is paused while rebuild or restore has commands waiting (08 R234). -/
def underCap (s : State) (w : ShareWindow) (rebuild : Bool) (c : DriveCmd) : Bool :=
  let cap (pct : Nat) : Nat := pct * pSchQuietDrv s * pSchShareWindow s / 100
  match c.flow with
  | .relocation => decide (w.reloc < cap (pStrRelocShare s))
  | .hitch => decide (w.hitch < cap (pStrRelocShare s))
  | .scrub => decide (w.scrub < cap (pStrScrubShare s)) && !rebuild
  | _ => false

/-- The waiting command a member's scheduler serves next, with its virtual time and flows after it, and whether shares were cut (R385,
Table 15.2). -/
def pickDrive (s : State) (slot : Fin 24) : Option (DriveCmd × Nat × List Flow × Bool) :=
  let p := portAt s slot
  let q := p.cmds.filter (fun c => c.queued)
  let at_ (n : Nat) : List DriveCmd := q.filter (fun c => driveOrder s c.flow == n)
  match at_ 1, at_ 2 with
  | c :: _, _ => some (c, p.v, p.flows, false)
  | [], c :: _ => some (c, p.v, p.flows, false)
  | [], [] =>
    let three := at_ 3
    let host (c : DriveCmd) : Bool := match c.flow with
      | .host t _ _ => driveEligible s t
      | _ => false
    let rebuild := three.any (fun c => c.flow == .rebuild)
    let w := driveWeights s rebuild (three.any (fun c => c.flow == .relocation)) (three.any host)
    let heads := driveHeads s w [] three
    let flows := wakeHeads p.v heads p.flows
    match fairPick flows 3 0 heads with
    | some h =>
      let r := fairServe p.v h.cost h.path flows
      some (h.item, r.1, r.2, w.2.2.2)
    | none => ((at_ 4).find? (underCap s (windowAt s slot) rebuild)).map (fun c => (c, p.v, flows, false))

/-- The part of a transfer that one command moves: not beyond MDTS (17 R421). -/
def cutDrive (mdts : Nat) (c : DriveCmd) : DriveCmd :=
  if mdts = 0 ∨ c.count ≤ mdts then c else { c with count := mdts, more := c.more + (c.count - mdts) }

/-- A command takes its slot: cut to MDTS, it leaves the root port on the next queue in rotation, and its cost counts in the share window; a cut sets SCH_STATUS bit 1 (R385). -/
def startDrive (slot : Fin 24) (x : DriveCmd × Nat × List Flow × Bool) (s : State) : State :=
  let p := portAt s slot
  let c := { cutDrive p.mdts x.1 with queue := p.nextQ, queued := false, issued := mono s, timeout := pDrvTimeout s * msU }
  let w := windowAt s slot
  let p1 := { p with cmds := p.cmds.map (fun d => if d.tag == c.tag then c else d), v := x.2.1, flows := x.2.2.1, nextQ := (p.nextQ + 1) % max 1 p.queues }
  let s1 := putWindow { countShare c.flow (driveCost s c) w with cut := w.cut || x.2.2.2 } (putPort slot p1 s)
  send (driveMsg slot c) (if x.2.2.2 && !w.cut then raise stSCH 1 noInst s1 else s1)

/-- Serves free command slots, at most `n` times. -/
def pumpSlots (slot : Fin 24) : Nat → State → State
  | 0, s => s
  | n + 1, s =>
    if issuedCount (portAt s slot) < portSlots s slot then
      match pickDrive s slot with
      | some x => pumpSlots slot n (startDrive slot x s)
      | none => s
    else s

/-- A member's scheduler serves the commands that wait while command slots are free (R385; 17 R421, R431). -/
def pumpPort (slot : Fin 24) (s : State) : State :=
  if !portReady s slot then s
  else
    let s1 := refill s
    pumpSlots slot ((portAt s1 slot).cmds.filter (fun c => c.queued)).length s1

/-- Every member's scheduler serves. -/
def pumpDrives (s : State) : State := allSlots.foldl (fun acc n => pumpPort n acc) s

/-- A drive command takes a tag and waits for its member's scheduler (R385; 17 R421, R426, R431). Answers its tag. -/
def issueCmd (slot : Fin 24) (c0 : DriveCmd) (s : State) : Nat × State :=
  let p := portAt s slot
  let t := pickTag p
  let c : DriveCmd := { c0 with tag := t, gen := tagGen p t, queued := true, issued := mono s, timeout := pDrvTimeout s * msU }
  let p1 := { p with cmds := p.cmds ++ [c], gens := putKey t c.gen 4 p.gens, nextTag := (t + 1) % 16384 }
  (t, pumpPort slot (putPort slot p1 s))

/-- A drive command that has not been issued yet. -/
def driveCmd (f : DriveFlow) (purpose : DrivePurpose) (op lba count : Nat) : DriveCmd :=
  { flow := f, queue := 0, tag := 0, gen := 0, purpose := purpose, op := op, lba := lba, count := count, more := 0, write := false, data := [], queued := true,
    issued := 0, timeout := 0, hedged := false, reissues := 0, tried := [] }

/-- Issues a command that repeats a range (08 R219). -/
def issueRetry (slot : Fin 24) (f : DriveFlow) (purpose : DrivePurpose) (op lba count : Nat) (reissues : Nat) (tried : List Nat)
    (s : State) : Nat × State :=
  issueCmd slot { driveCmd f purpose op lba count with reissues := reissues, tried := tried } s

/-- Issues a command of a class that repeats none and writes nothing. -/
def issueFlow (slot : Fin 24) (f : DriveFlow) (purpose : DrivePurpose) (op lba count : Nat) (s : State) : Nat × State :=
  issueCmd slot (driveCmd f purpose op lba count) s

/-- Issues a command whose purpose gives its class and that writes nothing. -/
def issueDrive (slot : Fin 24) (purpose : DrivePurpose) (op lba count : Nat) (s : State) : Nat × State :=
  issueFlow slot (purposeFlow purpose) purpose op lba count s

/-- Issues a Write of a class: its bytes from an LBA on, with drive FUA. -/
def issueWrite (slot : Fin 24) (f : DriveFlow) (purpose : DrivePurpose) (lba count : Nat) (data : Bytes) (s : State) : Nat × State :=
  issueCmd slot { driveCmd f purpose 1 lba count with write := true, data := data } s

/-- Ends a command of a port without quarantine: its slot is free for the next one. -/
def dropCmd (slot : Fin 24) (tag : Nat) (s : State) : State :=
  let p := portAt s slot
  pumpPort slot (putPort slot { p with cmds := dropIf (fun c => c.tag == tag) p.cmds } s)

/-- The next command of a transfer, under the same tag at its next generation (17 R421, R425). -/
def nextPiece (slot : Fin 24) (c : DriveCmd) (s : State) : State :=
  let p := portAt s slot
  let d := { c with gen := (c.gen + 1) % 4, lba := c.lba + c.count, count := c.more, more := 0, data := c.data.drop (c.count * 4096), queued := true }
  pumpPort slot (putPort slot { p with cmds := mapIf (fun x => x.tag == c.tag) (fun _ => d) p.cmds, gens := putKey c.tag d.gen 4 p.gens } s)

/-- A command of a port by its queue, tag and generation (17 R425, R428). -/
def cmdAt (p : DrivePort) (queue tag gen : Nat) : Option DriveCmd :=
  p.cmds.find? (fun c => c.queue == queue && c.tag == tag && c.gen == gen && !c.queued)

/-- A confirmed timeout's first three actions: the tag entry is invalidated by a commit, the command slot is freed, and the tag
is quarantined until now plus 4 times the command's timeout (17 R426). -/
def quarantineTag (slot : Fin 24) (c : DriveCmd) (s : State) : State :=
  let p := portAt s slot
  putPort slot { p with cmds := dropIf (fun d => d.tag == c.tag) p.cmds, quar := p.quar ++ [(c.tag, mono s + 4 * c.timeout)],
                        draining := true, commits := (p.commits + 1) % 65536 } s

/-- A late completion is discarded (17 R427, R428): DRV_LATE, DRV_STATUS bit 0 and its event. -/
def lateCompletion (slot : Fin 24) (s : State) : State := raise stDRV 0 slot (bumpFigure 0x0600001C 1 s)

/-- All 24 slots hold members, so collections and namespaces may be created (07 R174). -/
def membersFull (s : State) : Bool := allSlots.all (fun n => (memberAt s n).state != .absent)

end Machine
end Sys2Proof
end

