-- ==== Sys2Proof/Machine/LogOps.lean ====
section
/-!
DEFINITION. The log, its stripes and the splice log (07 R173 to R204): placing records, writing rows with their headers and parity,
splice-log entries and their ring copies.
-/
namespace Sys2Proof
namespace Machine

/-- This module's custody shard: 0xFFF0 for A, 0xFFF1 for B (09 R251). -/
def custodyShard (s : State) : Nat := if s.pair.isB then 0xFFF1 else 0xFFF0

/-- Data strips of the geometry in use with the most parity, which lanyard records use (09 R251). -/
def lanyardData (s : State) : Nat :=
  if s.obj.colls.any (fun c => c.geometry == 1) || s.block.nss.any (fun n => n.geometry == 1) || s.log.segs.any (fun g => g.d == 18) then 18
  else if s.log.segs.isEmpty then 18 else 20

/-! ## Segments (07 R177, R181, R195) -/

/-- A segment of this module's pool: every one in a single-controller shelf, the even ones for A and the odd ones for B in pair
mode, with what was granted and given, and both pools after takeover (R195). -/
def inPool (s : State) (n : Nat) : Bool :=
  if !s.pair.pairShelf || s.log.bothPools then true
  else ((n % 2 == (if s.pair.isB then 1 else 0)) && !s.log.given.contains n) || s.log.granted.contains n

/-- A segment is FREE (Table 7.2); segment 0 is never allocated (R177). -/
def segFree (s : State) (n : Nat) : Bool :=
  decide (0 < n) && decide (n < s.log.segCount) && !(s.log.segs.any (fun x => x.num == n))

/-- The FREE segment a head takes: the lowest of the pool (log entry 9). -/
def lowestFree (s : State) : Option Nat :=
  match (List.range (2 * s.log.segs.length + 4)).find? (fun n => segFree s n && inPool s n) with
  | some n => some n
  | none => s.log.granted.find? (segFree s)

/-- FREE segments of this module's pool (R195); segment 0 is never allocated. -/
def poolFree (s : State) : Nat :=
  if !s.pair.pairShelf || s.log.bothPools then freeSegments s
  else
    let parity := if s.pair.isB then s.log.segCount / 2 else (s.log.segCount - 1) / 2
    parity + s.log.granted.length - s.log.given.length - (s.log.segs.filter (fun x => inPool s x.num)).length

/-- A module whose pool falls below 1,024 FREE segments asks its partner for more (R195). -/
def askSegments (s : State) : State :=
  if s.pair.mode == .paired && decide (poolFree s < 1024) then pairState 4 [] s else s

/-- A segment that is not FREE. -/
def segAt (s : State) (n : Nat) : Option Segment := s.log.segs.find? (fun x => x.num == n)

/-- Changes a segment. -/
def mapSeg (n : Nat) (f : Segment → Segment) (s : State) : State :=
  { s with log := { s.log with segs := mapIf (fun x => x.num == n) f s.log.segs } }

/-- A row that has been written. -/
def rowAt (s : State) (seg row : Nat) : Option Row := s.log.rows.find? (fun r => r.seg == seg && r.row == row)

/-- Changes a row. -/
def mapRow (seg row : Nat) (f : Row → Row) (s : State) : State :=
  { s with log := { s.log with rows := mapIf (fun r => r.seg == seg && r.row == row) f s.log.rows } }

/-- The geometry of a segment's rows. -/
def segD (s : State) (seg : Nat) : Nat := ((segAt s seg).map (fun x => x.d)).getD 18

/-! ## Splice log (07 R197 to R204) -/

/-- The pair mirrors: the partner acknowledges before an entry is protected (R201; 18 R446). -/
def mirrors (s : State) : Bool := s.pair.mode == .paired

/-- Bytes of unretired entries with a copy on a member, or one being written to it (R200). -/
def ringBytes (s : State) (n : Nat) : Nat :=
  ((s.log.splice.filter (fun e => !e.retired && (e.copies.contains n || e.pending.contains n))).map (fun e => e.length)).sum

/-- Members that may take a ring copy, least unretired bytes first, then by slot (R200). -/
def ringOrder (s : State) : List Nat :=
  let ok := (allSlots.filter (fun n => memberEligible (memberAt s n))).map Fin.val
  ok.mergeSort (fun a b => decide (ringBytes s a < ringBytes s b) || (ringBytes s a == ringBytes s b && decide (a ≤ b)))

/-- Picks members in order, one for each fault group not yet held (R200). -/
def pickGroups (s : State) : Nat → List Nat → List Nat → List Nat
  | 0, _, _ => []
  | _, _, [] => []
  | k + 1, held, m :: ms =>
    if held.contains (faultGroup s m) then pickGroups s (k + 1) held ms
    else m :: pickGroups s k (faultGroup s m :: held) ms

/-- Fault groups that hold an eligible member. -/
def eligibleGroups (s : State) : List Nat := ((ringOrder s).map (faultGroup s)).eraseDups

/-- The members for `k` more copies of an entry that members of `have_` hold: in fault groups not yet held; where fewer than
three groups are eligible, or none is left, any eligible member that does not hold the entry (R200). The second component
says that a copy went outside three groups. -/
def pickMembers (s : State) (k : Nat) (have_ : List Nat) : List Nat × Bool :=
  let order := (ringOrder s).filter (fun m => !have_.contains m)
  let a := pickGroups s k (have_.map (faultGroup s)) order
  if a.length < k then
    (a ++ (order.filter (fun m => !a.contains m)).take (k - a.length), !(order.filter (fun m => !a.contains m)).isEmpty)
  else (a, false)

/-- Issues the ring write of one entry to a member: whole LBAs, the end filled by a pad (R198, R200). -/
def ringWrite (e : SpliceEntry) (m : Nat) (s : State) : State :=
  let slot := slotOf m
  let mem := memberAt s slot
  let lbas := ceilDiv e.length 4096
  let (n, s0) := draw s
  let key := shardKey s "splice" e.shard
  let data := spliceBytes key e.shard e.seq e.length e.nonce e.body ++ padBytes key e.shard (padTo 4096 e.length) (n.toNat % 2 ^ 96)
  let s1 := putMember slot { mem with ringAt := (mem.ringAt + lbas) % 1048576 } s0
  (issueWrite slot .log (.ring e.shard e.seq) (16384 + mem.ringAt) lbas data s1).2

/-- Writes the missing ring copies of an entry, three in all (R200; 08 R226). -/
def ringCopies (e : SpliceEntry) (s : State) : State :=
  let have_ := e.copies ++ e.pending
  let p := pickMembers s (3 - have_.length) have_
  let s1 := { s with log := { s.log with
      splice := mapIf (fun x => x.shard == e.shard && x.seq == e.seq) (fun x => { x with pending := x.pending ++ p.1 }) s.log.splice } }
  let s2 := p.1.foldl (fun acc m => ringWrite e m acc) s1
  if p.2 then raise stSTR 1 noInst s2 else s2

/-- A record of the mirror stream with nothing but its kind (18 Table 18.2). -/
def bareRec (kind : Nat) : MirrorRec :=
  { num := 0, kind := kind, shard := 0, seq := 0, stamp := noStamp, bytes := 0, ctx := 0, tag := 0, addr := 0, data := [], cmd := none }

/-- The mirror record of a splice entry, with the command it belongs to (18 R446). -/
def entryRec (e : SpliceEntry) (who : Option (Nat × Nat)) : MirrorRec :=
  { bareRec 2 with shard := e.shard, seq := e.seq, stamp := e.stamp, bytes := e.length, ctx := (who.map Prod.fst).getD 0,
                   tag := (who.map Prod.snd).getD 0, data := e.body }

/-- Sends a record on the mirror stream and keeps it until the partner acknowledges it (18 R445, Table 18.2). -/
def mirrorSend (x : MirrorRec) (s : State) : State :=
  if !mirrors s then s
  else
    let n := s.pair.nextRec + 1
    let m := msg .pair .pairRec x.kind n 0 ([(2, x.shard), (8, x.seq), (4, x.bytes)] ++ cstampFlds x.stamp ++ [(3, x.ctx), (2, x.tag), (8, x.addr)])
    send { m with data := x.data }
      { s with pair := { s.pair with nextRec := n, unacked := s.pair.unacked ++ [{ x with num := n }], room := s.pair.room - x.bytes } }

/-- Bytes of the unretired splice log, its own and the mirror held for the partner (R204). -/
def journalBytes (s : State) : Nat :=
  ((s.log.splice.filter (fun e => !e.retired)).map (fun e => e.length)).sum + (s.pair.mirror.map (fun r => r.bytes)).sum

/-- STR_JOURNAL_PEAK of the window that runs, in GiB, rounded up (Table 7.8). -/
def noteJournal (s : State) : State :=
  setFigure 0x10000048 (max (figure s 0x10000048) (ceilDiv (journalBytes s) (2 ^ 30))) s

/-- What a splice-log entry names: the segment and rows of its data or record, a second segment, and a partition or namespace. -/
structure Naming where
  seg    : Nat
  row    : Nat
  rowEnd : Nat
  seg2   : Nat
  part   : Nat
deriving DecidableEq, Repr

/-- An entry that names nothing. -/
def noName : Naming := { seg := 0, row := 0, rowEnd := 0, seg2 := 0, part := 0 }

/-- Enters a record in the splice log of its shard: the next sequence, a nonce, three ring copies, and the mirror (R198, R200, R201).
`size` is the number of bytes of its fields. Answers the sequence. -/
def splice (shard kind : Nat) (stamp : CStamp) (x : Naming) (size : Nat) (fields : Bytes) (s : State) : Nat × State :=
  let (nonce, s0) := draw s
  let h := shardAt s0 shard
  let n := h.splice + 1
  let e : SpliceEntry := { shard := shard, seq := n, kind := kind, stamp := stamp, seg := x.seg, row := x.row, rowEnd := x.rowEnd,
                           seg2 := x.seg2, part := x.part, length := spliceLength size, body := spliceBody kind stamp fields,
                           nonce := nonce.toNat % 2 ^ 96, mirrored := !mirrors s0, copies := [], pending := [], media := false,
                           retired := false }
  let s1 := putShard { h with splice := n } { s0 with log := { s0.log with splice := s0.log.splice ++ [e] } }
  (n, mirrorSend (entryRec e s.pair.acting) (ringCopies e (noteJournal s1)))

/-- An entry has reached a durability level (R201). -/
def entryAt (l : Level) (e : SpliceEntry) : Bool :=
  match l with
  | .none => true
  | .isProtected => e.mirrored
  | .onMedia => e.mirrored && e.media

/-- An entry and every entry of lower sequence in its shard have reached a level (R201). -/
def spliceReached (s : State) (shard seq : Nat) (l : Level) : Bool :=
  s.log.splice.all (fun e => e.shard != shard || decide (seq < e.seq) || e.retired || entryAt l e)

/-- The journal is full: mutations wait for admission (R204). -/
def journalFull (s : State) : Bool := decide (pStrJournalMax s * 2 ^ 30 < journalBytes s)

/-- The highest sequence of a shard below and at which every entry is retired, counting from one already known (R202). -/
def retiredThrough (s : State) (shard : Nat) : Nat → Nat → Nat
  | 0, r => r
  | n + 1, r =>
    match s.log.splice.find? (fun e => e.shard == shard && e.seq == r + 1) with
    | some e => if e.retired then retiredThrough s shard n (r + 1) else r
    | none => if r < (shardAt s shard).splice then retiredThrough s shard n (r + 1) else r

/-- The head has a segment that is not filled. -/
def Head.isOpen (h : Head) : Bool := decide (h.row < 128)

/-- The highest row of a segment that is on media, 0xFF while none is (log entry 124). -/
def lastOnMedia (s : State) (seg : Nat) : Nat :=
  match (s.log.rows.filter (fun r => r.seg == seg && r.state == .onMedia)).map (fun r => r.row) with
  | [] => 0xFF
  | k :: ks => ks.foldl max k

/-- Records the retired-through sequence of a shard when it has risen: a kind 5 entry, and the entries below it are reused
(R202). A kind 5 entry needs no replay and counts as retired. -/
def retireShard (shard : Nat) (s : State) : State :=
  let x := shardAt s shard
  let r := retiredThrough s shard (s.log.splice.length + 1) x.retired
  if r ≤ x.retired then s
  else
    let s1 := putShard { x with retired := r }
      { s with log := { s.log with splice := dropIf (fun e => e.shard == shard && decide (e.seq ≤ r)) s.log.splice } }
    let heads := s1.log.heads.filter (fun h => h.shard == shard && h.isOpen)
    let fields := leBytes 8 r ++ (heads.map (fun h => encodeFlds [(4, h.seg), (1, lastOnMedia s1 h.seg), (3, 0)])).flatten
    let (n, s2) := splice shard 5 noStamp noName (8 + 8 * heads.length) fields s1
    mirrorSend { bareRec 5 with shard := shard, seq := r }
      { s2 with log := { s2.log with splice := mapIf (fun e => e.shard == shard && e.seq == n) (fun e => { e with retired := true }) s2.log.splice } }

/-- Retires the entries of kinds 1 and 2 that name a row, once every row they name is on media or, its records written again, void (R186,
R202). -/
def retireRow (seg row : Nat) (s : State) : State :=
  let ended (k : Nat) : Bool := (rowAt s seg k).any (fun w => w.state == .onMedia || w.state == .void || w.state == .lost)
  let hit (e : SpliceEntry) : Bool := e.seg == seg && decide (e.row ≤ row) && decide (row ≤ e.rowEnd) && (e.kind == 1 || e.kind == 2) &&
    (List.range (e.rowEnd + 1 - e.row)).all (fun i => ended (e.row + i))
  let shards := ((s.log.splice.filter hit).map (fun e => e.shard)).eraseDups
  let s1 := { s with log := { s.log with splice := mapIf hit (fun e => { e with retired := true }) s.log.splice } }
  shards.foldl (fun acc n => retireShard n acc) s1

/-- A ring write of an entry has ended at a member; a failed copy goes to another eligible member (R200). -/
def ringDone (shard seq m : Nat) (ok : Bool) (s : State) : State :=
  let upd (e : SpliceEntry) : SpliceEntry :=
    { e with pending := e.pending.filter (fun x => x != m), copies := if ok then e.copies ++ [m] else e.copies,
             media := e.media || (ok && decide (3 ≤ (e.copies ++ [m]).length)) }
  let s1 := { s with log := { s.log with splice := mapIf (fun e => e.shard == shard && e.seq == seq) upd s.log.splice } }
  if ok then s1
  else
    match s1.log.splice.find? (fun e => e.shard == shard && e.seq == seq) with
    | some e => ringCopies { e with pending := e.pending ++ [m] } s1
    | none => s1

/-! ## Writing rows (07 R184, R186; 08 R221) -/

/-- The spare members of a row in order: roles d + p and d + p + 1 (R175). -/
def spareMembers (seg row : Nat) : List (Fin 24) := [homeMember seg row 22, homeMember seg row 23]

/-- Where each strip of a new row goes: its home member, or a spare position on a HEALTHY member, or nowhere (08 R221). The
state of the fold is the spare positions used. -/
def placeStrips (s : State) (seg row : Nat) : List Nat → List Nat → List (Nat × Option (Nat × Fin 24))
  | [], _ => []
  | role :: roles, used =>
    let home := homeMember seg row role
    if memberWrites (memberAt s home) then (role, some (2, home)) :: placeStrips s seg row roles used
    else
      match ([0, 1].find? (fun i => !used.contains i && memberEligible (memberAt s (homeMember seg row (22 + i))))) with
      | some i => (role, some (i, homeMember seg row (22 + i))) :: placeStrips s seg row roles (i :: used)
      | none => (role, none) :: placeStrips s seg row roles used

/-- The strips a new row would leave unwritten (08 R221). -/
def unwrittenRoles (s : State) (d seg row : Nat) : List Nat :=
  (placeStrips s seg row (List.range (d + geomParity d)) []).filterMap (fun x => if x.2.isNone then some x.1 else none)

/-- A row of this geometry may be written: at most p - 1 of its strips would be unwritten, wherever its roles fall (08
R221). -/
def rowWritable (s : State) (d : Nat) : Bool :=
  (List.range 24).all (fun r => decide ((unwrittenRoles s d 0 r).length ≤ geomParity d - 1))

/-! ### The bytes of a row (07 R179, R189, R190; 10 R271) -/

/-- The stored bytes of a data unit: those of the log record that lies there. -/
def unitBytes (s : State) (addr : Nat) : Bytes :=
  match s.log.recs.find? (fun r => decide (r.addr ≤ addr) && decide (addr < r.addr + r.units)) with
  | some r => padEnd 4096 ((r.bytes.drop (4096 * (addr - r.addr))).take 4096)
  | none => zeros 4096

/-- The data units of data strip `j` of a row: 16, but 15 for strip 0, whose unit 0 is the header (R178). -/
def stripUnits (s : State) (r : Row) (j : Nat) : Bytes :=
  ((List.range 16).map (fun q =>
    if 16 * j + q = 0 then [] else unitBytes s (logAddr r.seg (r.row * rowUnits r.d + 16 * j + q - 1)))).flatten

/-- The stripe header of a row (R179; 10 Table 10.6). -/
def headerBytes (s : State) (r : Row) : Bytes :=
  let g := segAt s r.seg
  stripeHeadBytes { d := r.d, head := if r.reloc then 1 else 0, shard := (g.map (fun x => x.shard)).getD 0, seg := r.seg, row := r.row,
                    owner := if s.pair.isB then 1 else 0, seq := r.seq, stampLo := r.stampLo, stampHi := r.stampHi, seqLo := r.seqLo,
                    seqHi := r.seqHi, opened := (g.map (fun x => x.opened)).getD { sec := 0, ns := 0, flags := 0, count := 0 },
                    openedAt := (g.map (fun x => x.openedAt)).getD noStamp, prev := (g.map (fun x => x.prev)).getD 0 }
    ((List.range r.d).map (fun j => (crc64 (stripUnits s r j)).toNat))

/-- Data strip `j` of a row. -/
def dataStrip (s : State) (r : Row) (j : Nat) : Bytes := (if j = 0 then headerBytes s r else []) ++ stripUnits s r j

/-- The strip of a role of a row: a data strip, or the parity strip computed from all of them (R189). -/
def stripImage (s : State) (r : Row) (role : Nat) : Bytes :=
  if role < r.d then dataStrip s r role else parityStrip (geomParity r.d) (role - r.d) ((List.range r.d).map (dataStrip s r))

/-- A strip formed again from `d` others (R190): the data strips by elimination, a parity strip by encoding them. -/
def rebuiltStrip (s : State) (r : Row) (roles : List Nat) (role : Nat) : Bytes :=
  match reconstruct r.d (geomParity r.d) (roles.map (fun j => (j, stripImage s r j))) with
  | some ds => if role < r.d then ds.getD role [] else parityStrip (geomParity r.d) (role - r.d) ds
  | none => []

/-- Issues the strip writes of a row that has none yet (R184). -/
def issueRow (seg row : Nat) (s : State) : State :=
  match rowAt s seg row with
  | none => s
  | some r =>
    let all := placeStrips s seg row (List.range (r.d + geomParity r.d)) []
    let missing := all.filterMap (fun x => if x.2.isNone then some x.1 else none)
    if geomParity r.d - 1 < missing.length then s
    else
      let subst := all.filterMap (fun x => x.2.bind (fun t => if t.1 < 2 then some (x.1, t.1) else none))
      let writes := all.filterMap (fun x => x.2.map (fun _ => x.1))
      let s1 := mapRow seg row (fun r => { r with missing := missing, subst := subst, writes := writes }) s
      all.foldl (fun acc x => match x.2 with
        | some t => (issueWrite t.2 .log (.strip seg row x.1) (rowLba acc seg row) 16 (stripImage s r x.1) acc).2
        | none => acc) s1

/-- The lower of two commit stamps, where zero is none. -/
def stampMin (a b : CStamp) : CStamp := if a == noStamp then b else if b == noStamp then a else if b.lt a then b else a
/-- The higher of two commit stamps. -/
def stampMax (a b : CStamp) : CStamp := if a.lt b then b else a

/-- The log records with units in a row. -/
def recsIn (s : State) (seg row d : Nat) : List LogRec :=
  s.log.recs.filter (fun r => addrSeg r.addr == seg &&
    decide (addrUnit r.addr / rowUnits d ≤ row) && decide (row ≤ (addrUnit r.addr + r.units - 1) / rowUnits d))

/-- Writes the row a head has filled or must close: the rest is fill, the row takes the shard's next stripe sequence and the stamps and
sequences of its records, and the head goes on to its next row; after row 127 the head needs another segment (R179, R182, R184). -/
def closeRow (h : Head) (s : State) : State :=
  let x := shardAt s h.shard
  let n := rowUnits h.d - h.used
  let fill : LogRec := { addr := logAddr h.seg (h.row * rowUnits h.d + h.used), units := n, kind := .fill, live := false, dead := 0,
                         bytes := fillBytes h.shard n, stamp := noStamp }
  let recs := if n = 0 then s.log.recs else s.log.recs ++ [fill]
  let stamps := (recsIn s h.seg h.row h.d).map (fun r => r.stamp)
  let seqs := (s.log.splice.filter (fun e => (e.kind == 1 || e.kind == 2) && e.seg == h.seg && decide (e.row ≤ h.row) &&
    decide (h.row ≤ e.rowEnd))).map (fun e => e.seq)
  let r : Row := { seg := h.seg, row := h.row, d := h.d, state := .writing, reloc := h.reloc, seq := x.stripes + 1,
                   stampLo := stamps.foldl stampMin noStamp, stampHi := stamps.foldl stampMax noStamp,
                   seqLo := match seqs with
                     | [] => 0
                     | k :: ks => ks.foldl min k,
                   seqHi := seqs.foldl max 0, missing := [], bad := [], subst := [], writes := [], failed := [], locked := false,
                   short := false }
  let same (y : Head) : Bool := y.shard == h.shard && y.d == h.d && y.reloc == h.reloc
  let heads := mapIf same (fun y => { y with row := h.row + 1, used := 0, since := none }) s.log.heads
  issueRow h.seg h.row (putShard { x with stripes := x.stripes + 1 }
    { s with log := { s.log with recs := recs, rows := s.log.rows ++ [r], heads := heads } })

/-- The head of a shard and geometry, with a segment or without (R182). -/
def headAny (s : State) (shard d : Nat) (reloc : Bool) : Option Head :=
  s.log.heads.find? (fun h => h.shard == shard && h.d == d && h.reloc == reloc)

/-- A head of a shard and geometry that has room (R182). -/
def headOf (s : State) (shard d : Nat) (reloc : Bool) : Option Head := (headAny s shard d reloc).filter Head.isOpen

/-- Enters a segment state change in the splice log of its shard: the segment, the new state in the order of Table 7.2 and the owner module
(R181, kind 6). -/
def segEntry (shard seg state : Nat) (s : State) : State :=
  (splice shard 6 noStamp { noName with seg := seg } 8
    (encodeFlds [(4, seg), (1, state), (1, if s.pair.isB then 1 else 0), (2, 0)]) s).2

/-- The head of a shard and geometry, taking a FREE segment when it has none (R181, R182). -/
def openHead (shard d : Nat) (reloc : Bool) (s : State) : Option Head × State :=
  match headOf s shard d reloc with
  | some h => (some h, s)
  | none =>
    match lowestFree s with
    | none => (none, s)
    | some n =>
      let h : Head := { shard := shard, d := d, reloc := reloc, seg := n, row := 0, used := 0, since := none }
      let same (y : Head) : Bool := y.shard == shard && y.d == d && y.reloc == reloc
      let g : Segment := { num := n, shard := shard, d := d, state := .open_, stale := 0, order := 0, rows := 0, opened := kstamp s,
                           openedAt := (shardAt s shard).last, prev := ((headAny s shard d reloc).map (fun y => y.seg)).getD 0,
                           movedAt := none }
      let s1 := { s with log := { s.log with heads := putBy same h s.log.heads, segs := s.log.segs ++ [g] } }
      let s2 := askSegments (segEntry shard n 1 s1)
      let low := freeBelow s2 (pStrFreeLow s2) && !freeBelow s (pStrFreeLow s)
      let crit := freeBelow s2 (pStrFreeCrit s2) && !freeBelow s (pStrFreeCrit s)
      let s3 := if low then raise stSTR 2 noInst s2 else s2
      (some h, if crit then raise stSTR 3 noInst s3 else s3)

/-- Fills `n` units of a head, writing each row that becomes full; a row whose last unit is not filled starts its close delay with its
first (R184). -/
def fillUnits (shard d : Nat) (reloc : Bool) : Nat → Nat → State → State
  | 0, _, s => s
  | fuel + 1, n, s =>
    if n = 0 then s
    else
      match headOf s shard d reloc with
      | none => s
      | some h =>
        let room := rowUnits d - h.used
        let same (y : Head) : Bool := y.shard == shard && y.d == d && y.reloc == reloc
        if n < room then
          { s with log := { s.log with
              heads := mapIf same (fun y => { y with used := h.used + n, since := some (h.since.getD (mono s)) }) s.log.heads } }
        else fillUnits shard d reloc fuel (n - room) (closeRow { h with used := rowUnits d } s)

/-- Fills the rest of a head's segment, each row with its header (R178). -/
def fillSegment (shard d : Nat) (reloc : Bool) : Nat → State → State
  | 0, s => s
  | fuel + 1, s =>
    match headOf s shard d reloc with
    | none => s
    | some h => fillSegment shard d reloc fuel (closeRow h s)

/-- The head of a shard and geometry with the units left in its segment. -/
def headLeft (h : Head) : Nat := segUnits h.d - (h.row * rowUnits h.d + h.used)

/-- Writes a record of `units` units, which fit, at a head: its address, and the state with its units filled. -/
def layRecord (h : Head) (kind : RecKind) (units : Nat) (bytes : Bytes) (stamp : CStamp) (s : State) : Nat × State :=
  let a := logAddr h.seg (h.row * rowUnits h.d + h.used)
  let r : LogRec := { addr := a, units := units, kind := kind, live := true, dead := 0, bytes := bytes, stamp := stamp }
  (a, fillUnits h.shard h.d h.reloc (units + 1) units { s with log := { s.log with recs := s.log.recs ++ [r] } })

/-- Writes a record of `units` units to the log, within one segment or, where `grain` is not 0, split at the segment's end at a multiple of
`grain` units: its extents, and the state. A record that neither fits nor is split starts in the head's next segment, and the rest of the old
one is fill (R178, R180). -/
def writeUnits (shard d : Nat) (reloc : Bool) (grain : Nat) (kind : RecKind) (stamp : CStamp) : Nat → Nat → Bytes → State →
    List (Nat × Nat) × State
  | 0, _, _, s => ([], s)
  | fuel + 1, units, bytes, s =>
    if units = 0 then ([], s)
    else
      match openHead shard d reloc s with
      | (none, s1) => ([], s1)
      | (some h, s1) =>
        let left := headLeft h
        if units ≤ left then
          let w := layRecord h kind units bytes stamp s1
          ([(w.1, units)], w.2)
        else if 0 < grain ∧ grain ≤ left then
          let k := left / grain * grain
          let w := layRecord h kind k (bytes.take (4096 * k)) stamp s1
          let r := writeUnits shard d reloc grain kind stamp fuel (units - k) (bytes.drop (4096 * k)) (fillSegment shard d reloc 129 w.2)
          ((w.1, k) :: r.1, r.2)
        else writeUnits shard d reloc grain kind stamp fuel units bytes (fillSegment shard d reloc 129 s1)

/-- Units of a record of so many bytes. -/
def unitsOf (bytes : Nat) : Nat := max 1 (ceilDiv bytes 4096)

/-- Extents joined where one goes on at the unit after another. -/
def joinExtents : List (Nat × Nat) → List (Nat × Nat)
  | [] => []
  | e :: es =>
    match joinExtents es with
    | (a, u) :: r => if e.1 + e.2 = a then (e.1, e.2 + u) :: r else e :: (a, u) :: r
    | [] => [e]

/-- The rows that extents fill whole, each a segment and a row (R185). -/
def fullRows (d : Nat) (extents : List (Nat × Nat)) : List (Nat × Nat) :=
  let n := rowUnits d
  ((joinExtents extents).map (fun x =>
    let u := addrUnit x.1
    ((List.range (x.2 / n + 1)).map (fun i => ceilDiv u n + i)).filterMap (fun k =>
      if (k + 1) * n ≤ u + x.2 then some (addrSeg x.1, k) else none))).flatten

/-- The pieces of an extent that lie outside rows written directly. -/
def splicePieces (d : Nat) (direct : List (Nat × Nat)) : Nat → Nat → Nat → List (Nat × Nat)
  | 0, _, _ => []
  | fuel + 1, addr, units =>
    if units = 0 then []
    else
      let n := rowUnits d
      let k := min units (n - addrUnit addr % n)
      let rest := splicePieces d direct fuel (addr + k) (units - k)
      if direct.contains (addrSeg addr, addrUnit addr / n) then rest else joinExtents ((addr, k) :: rest)

/-- The rows of units from an address. -/
def nameUnits (d addr units part : Nat) : Naming :=
  { seg := addrSeg addr, row := addrUnit addr / rowUnits d, rowEnd := (addrUnit addr + units - 1) / rowUnits d, seg2 := 0, part := part }

/-- Enters a record of the log in the splice log as entries of kind 2, but for what lies in rows written directly (R183, R185; Table 7.6):
the log address, the length and the bytes as they stand in the log. Units that follow one another are one entry, whatever number of rows they
span (R198 does not say): DESIGN CHOICE, log entry 145. -/
def spliceRecord (shard d : Nat) (direct : List (Nat × Nat)) (addr units : Nat) (bytes : Bytes) (stamp : CStamp) (s : State) : State :=
  (splicePieces d direct (units + 1) addr units).foldl (fun acc x =>
    (splice shard 2 stamp (nameUnits d x.1 x.2 0) (16 + 4096 * x.2)
      (encodeFlds [(8, x.1), (4, 4096 * x.2), (4, 0)] ++ padEnd (4096 * x.2) ((bytes.drop (4096 * (x.1 - addr))).take (4096 * x.2))) acc).2) s

/-- Enters the extents of a record in the splice log, its bytes cut among them. -/
def spliceExtents (shard d : Nat) (direct : List (Nat × Nat)) (stamp : CStamp) : List (Nat × Nat) → Bytes → State → State
  | [], _, s => s
  | (a, u) :: r, bytes, s =>
    spliceExtents shard d direct stamp r (bytes.drop (4096 * u)) (spliceRecord shard d direct a u (bytes.take (4096 * u)) stamp s)

/-- A small mutation's record: placed at the host head and entered in the splice log (R183). Answers its extents and the highest
sequence. -/
def writeSmallUnits (shard d grain : Nat) (kind : RecKind) (units : Nat) (bytes : Bytes) (stamp : CStamp) (s : State) :
    List (Nat × Nat) × Nat × State :=
  let r := writeUnits shard d false grain kind stamp (units + 4) units bytes s
  let s2 := spliceExtents shard d [] stamp r.1 bytes r.2
  (r.1, (shardAt s2 shard).splice, s2)

/-- A write of 2 MiB or more: the rows it fills are written directly, the rest enters the splice log (R185). Answers its extents, the
highest sequence and the rows written directly. -/
def writeLarge (shard d grain : Nat) (kind : RecKind) (units : Nat) (bytes : Bytes) (stamp : CStamp) (s : State) :
    List (Nat × Nat) × Nat × List (Nat × Nat) × State :=
  let r := writeUnits shard d false grain kind stamp (units + 4) units bytes s
  let direct := fullRows d r.1
  let s2 := spliceExtents shard d direct stamp r.1 bytes r.2
  (r.1, (shardAt s2 shard).splice, direct, s2)

/-- Writes a sealed record of the log (10 R274) at a stamp: its body has `size` bytes, its nonce is drawn (10 R274; log entry 125). Answers
its address. -/
def writeSealed (shard d : Nat) (kind : RecKind) (magic : String) (tenant size : Nat) (body : Bytes) (stamp : CStamp) (s : State) :
    Nat × State :=
  let (n, s1) := draw s
  let label := if magic = "UVLG" then "lanyard" else "idx"
  let w := writeSmallUnits shard d 0 kind (sealedUnits size)
    (sealedRecord (shardKey s label shard) magic shard tenant stamp (n.toNat % 2 ^ 96) body) stamp s1
  (((w.1.head?).map Prod.fst).getD 0, w.2.2)

/-- Marks the records at log addresses stale: their units count for relocation (R191). -/
def killRecs (addrs : List Nat) (s : State) : State :=
  let hit (r : LogRec) : Bool := r.live && addrs.contains r.addr
  let dead := s.log.recs.filter hit
  let s1 := { s with log := { s.log with recs := mapIf hit (fun r => { r with live := false, dead := r.units }) s.log.recs } }
  dead.foldl (fun acc r => mapSeg (addrSeg r.addr) (fun g => { g with stale := g.stale + (r.units - r.dead) }) acc) s1

/-- One unit of a live record becomes stale (R191). -/
def killUnit (addr : Nat) (s : State) : State :=
  let hit (r : LogRec) : Bool := r.live && decide (r.addr ≤ addr) && decide (addr < r.addr + r.units)
  if s.log.recs.any hit then
    mapSeg (addrSeg addr) (fun g => { g with stale := g.stale + 1 })
      { s with log := { s.log with recs := mapIf hit (fun r => { r with dead := r.dead + 1 }) s.log.recs } }
  else s

/-- Marks the records of a kind stale. -/
def killKind (p : RecKind → Bool) (s : State) : State :=
  killRecs ((s.log.recs.filter (fun r => r.live && p r.kind)).map (fun r => r.addr)) s

/-- A row with more lost strips than parity: unreadable (08 R219). -/
def unreadable (s : State) (r : Row) : Bool := r.state == .onMedia && decide (geomParity r.d < lostStrips s r)

/-- The roles read in place of one strip: `d` available ones, data strips first, then HEALTHY before SUSPECT members (08
R217). -/
def survivors (s : State) (r : Row) (role : Nat) : List Nat :=
  let ok := (available s r).filter (fun j => j != role)
  let healthy (j : Nat) : Bool := (stripMember s r j).any (fun m => (memberAt s m).state == .healthy)
  let data := ok.filter (fun j => decide (j < r.d))
  let par := ok.filter (fun j => decide (r.d ≤ j))
  ((data.filter healthy ++ data.filter (fun j => !healthy j)) ++ (par.filter healthy ++ par.filter (fun j => !healthy j))).take r.d

/-- The live records with units in a row (08 R227). -/
def rowRecs (s : State) (seg row d : Nat) : List LogRec := (recsIn s seg row d).filter (fun r => r.live)

/-- The data strips of the host head that a shard's own records go to: those of an open host head, else of the lanyard. -/
def pageData (s : State) (shard : Nat) : Nat :=
  match s.log.heads.find? (fun h => h.shard == shard && !h.reloc) with
  | some h => h.d
  | none => lanyardData s

end Machine
end Sys2Proof
end

