-- ==== Sys2Proof/Machine/Tree.lean ====
section
/-!
DEFINITION. The trees of pages as plain data (06 R149 to R155; 07 R187; 10 R275): the order of keys, leaves with a delta applied, and the
inner pages above them. Partition 65,536 + n stands for the map of namespace n, partition 131,072 for the member map (log entry 18).
-/
namespace Sys2Proof
namespace Machine

/-! ## Keys (06 R148) -/

/-- The key of an index entry as one number: collection first, then MAC (06 R148). -/
def indexKey (coll : Nat) (mac : Digest) : Nat := coll * 2 ^ 256 + mac.toNat

/-- The key of a leaf item. -/
def itemKey : LeafItem → Nat
  | .entry e => indexKey e.coll e.mac
  | .block lba _ _ => lba
  | .role g n _ => g * 256 + n

/-- Bytes a leaf item takes in the body, its inline record included (06 R152; 10 R275). -/
def itemBytes : LeafItem → Nat
  | .entry e => 128 + e.inline_.length
  | .block _ _ _ => 8
  | .role _ _ _ => 40

/-- Bytes the items of a leaf take. -/
def itemsBytes (l : List LeafItem) : Nat := (l.map itemBytes).sum

/-- Puts an item at its place in the order of keys, in place of one of its key. -/
def putItem (x : LeafItem) (l : List LeafItem) : List LeafItem :=
  l.filter (fun y => decide (itemKey y < itemKey x)) ++ x :: l.filter (fun y => decide (itemKey x < itemKey y))

/-- The lowest key of a leaf. -/
def leafKey (l : Leaf) : Nat := ((l.items.head?).map itemKey).getD 0

/-! ## Leaves of a B+tree (06 R152, R155) -/

/-- A leaf with other items: it is to be written, in place of the page it had. -/
def Leaf.dirty (l : Leaf) (items : List LeafItem) : Leaf :=
  { l with addr := 0, old := if l.addr = 0 then l.old else l.addr, items := items }

/-- A leaf that replaces no page. -/
def freshLeaf (tenant place : Nat) (items : List LeafItem) : Leaf :=
  { addr := 0, old := 0, tenant := tenant, gen := 0, covered := noStamp, place := place, items := items }

/-- Splits items where half their bytes have passed, with at least one on each side (06 R152). -/
def splitItems (half : Nat) : Nat → List LeafItem → List LeafItem × List LeafItem
  | _, [] => ([], [])
  | _, [k] => ([k], [])
  | used, k :: ks =>
    if half ≤ used + itemBytes k then ([k], ks)
    else (k :: (splitItems half (used + itemBytes k) ks).1, (splitItems half (used + itemBytes k) ks).2)

/-- A leaf is over-full: more bytes than its body, which more than 127 index entries always are (06 R152). -/
def leafOver (items : List LeafItem) : Bool := decide (pageBody < itemsBytes items)

/-- A leaf split at its median key by bytes for as long as a piece is over-full (06 R152). -/
def splitLeaf : Nat → Leaf → List Leaf
  | 0, l => [l]
  | fuel + 1, l =>
    if leafOver l.items then
      let x := splitItems (itemsBytes l.items / 2) 0 l.items
      splitLeaf fuel (l.dirty x.1) ++ splitLeaf fuel (freshLeaf l.tenant 0 x.2)
    else [l]

/-- Puts an item of a tenant into the leaves: into the leaf that covers its key where that is the tenant's, else into the next one where
that is, else into a new leaf, which splits another tenant's leaf at the key (06 R152, R155). -/
def insertItem (tenant : Nat) (x : LeafItem) : List Leaf → List Leaf
  | [] => [freshLeaf tenant 0 [x]]
  | l :: ls =>
    let into (m : Leaf) : List Leaf := splitLeaf 4 (m.dirty (putItem x m.items))
    match ls with
    | m :: ms =>
      if leafKey m ≤ itemKey x then l :: insertItem tenant x (m :: ms)
      else if l.tenant = tenant then into l ++ ls
      else if itemKey x < leafKey l then freshLeaf tenant 0 [x] :: l :: ls
      else
        let hi := l.items.filter (fun y => decide (itemKey x < itemKey y))
        if hi.isEmpty then
          if m.tenant = tenant then l :: into m ++ ms else l :: freshLeaf tenant 0 [x] :: ls
        else l.dirty (l.items.filter (fun y => decide (itemKey y < itemKey x))) :: freshLeaf tenant 0 [x] :: freshLeaf l.tenant 0 hi :: ls
    | [] =>
      if l.tenant = tenant then into l
      else if itemKey x < leafKey l then [freshLeaf tenant 0 [x], l]
      else
        let hi := l.items.filter (fun y => decide (itemKey x < itemKey y))
        if hi.isEmpty then [l, freshLeaf tenant 0 [x]]
        else [l.dirty (l.items.filter (fun y => decide (itemKey y < itemKey x))), freshLeaf tenant 0 [x], freshLeaf l.tenant 0 hi]

/-- Takes the item of a key out of the leaves; an empty leaf goes. -/
def removeItem (key : Nat) (ls : List Leaf) : List Leaf :=
  (ls.map (fun l => if l.items.any (fun y => itemKey y == key) then l.dirty (l.items.filter (fun y => itemKey y != key)) else l)).filter
    (fun l => !l.items.isEmpty)

/-- Merges neighbouring leaves of one tenant where one has changed, one is below half the body, and one body holds both (06 R152, R155). -/
def mergeLeaves : List Leaf → List Leaf
  | [] => []
  | l :: ls =>
    match mergeLeaves ls with
    | [] => [l]
    | m :: ms =>
      let small := decide (2 * itemsBytes l.items < pageBody) || decide (2 * itemsBytes m.items < pageBody)
      if l.tenant == m.tenant && small && (l.addr == 0 || m.addr == 0) && !leafOver (l.items ++ m.items) then
        l.dirty (l.items ++ m.items) :: ms
      else l :: m :: ms

/-! ## Map leaves (07 R187) -/

/-- The item of an LBA that a map mutation sets; none where it is deallocated. -/
def mapItem (lba addr run i : Nat) : List LeafItem :=
  if addr = 0 then [] else if addr = 0xFFFF then [.block (lba + i) 0xFFFF 0] else [.block (lba + i) (addr + i) (run + i)]

/-- The items of a map leaf after a map mutation. -/
def mapItems (place lba count addr run : Nat) (items : List LeafItem) : List LeafItem :=
  let lo := max lba (2032 * place)
  let hi := min (lba + count) (2032 * place + 2032)
  items.filter (fun y => decide (itemKey y < lo)) ++
    (if addr = 0 then [] else ((List.range (hi - lo)).map (fun i => mapItem lba addr run (lo - lba + i))).flatten) ++
    items.filter (fun y => decide (hi ≤ itemKey y))

/-- One map leaf changed or added, at its place in the order; a leaf with no LBA mapped goes. -/
def mapLeaf (tenant lba count addr run place : Nat) (ls : List Leaf) : List Leaf :=
  let now_ := match ls.find? (fun l => l.place == place) with
    | some l => l.dirty (mapItems place lba count addr run l.items)
    | none => freshLeaf tenant place (mapItems place lba count addr run [])
  ls.filter (fun l => decide (l.place < place)) ++ (if now_.items.isEmpty then [] else [now_]) ++ ls.filter (fun l => decide (place < l.place))

/-- A map mutation on the leaves; a deallocation meets only leaves that are there. -/
def mapInto (tenant lba count addr run : Nat) (ls : List Leaf) : List Leaf :=
  if count = 0 then ls
  else if addr = 0 then
    (ls.map (fun l => if lba < 2032 * l.place + 2032 ∧ 2032 * l.place < lba + count then l.dirty (mapItems l.place lba count 0 0 l.items) else l)).filter
      (fun l => !l.items.isEmpty)
  else (List.range ((lba + count - 1) / 2032 + 1 - lba / 2032)).foldl (fun acc i => mapLeaf tenant lba count addr run (lba / 2032 + i) acc) ls

/-- A delta mutation applied to leaves (06 R165); leaves that have changed have address 0. -/
def applyMut (ls : List Leaf) (m : DeltaMut) : List Leaf :=
  match m.what with
  | .put (.role g n 0) => removeItem (itemKey (.role g n 0)) ls
  | .put x => insertItem m.tenant x ls
  | .remove c mac => removeItem (indexKey c mac) ls
  | .map lba count addr run => mapInto m.tenant lba count addr run ls

/-! ## Inner pages (06 R153, R155; 07 R187) -/

/-- A child of an inner page: its lowest key, the tenant of that key, its address, and the address that its parent still names. -/
structure Kid where
  key    : Nat
  tenant : Nat
  addr   : Nat
  old    : Nat
deriving DecidableEq, Repr

/-- The address of the page of a level that names a child, 0 where none does. -/
def kidHome (old : List Inner) (k : Kid) : Nat :=
  ((old.find? (fun p => p.entries.any (fun e => e.child == k.addr || (k.old != 0 && e.child == k.old)))).map (fun p => p.addr)).getD 0

/-- Children grouped by the page that named them; a new child joins the one before it (06 R153). -/
def groupKids (old : List Inner) : List (Nat × List Kid) → List Kid → List (Nat × List Kid)
  | acc, [] => acc.reverse
  | [], k :: ks => groupKids old [(kidHome old k, [k])] ks
  | (h, g) :: acc, k :: ks =>
    let x := kidHome old k
    if x = h ∨ x = 0 then groupKids old ((h, g ++ [k]) :: acc) ks
    else if h = 0 then groupKids old ((x, g ++ [k]) :: acc) ks
    else groupKids old ((x, [k]) :: (h, g) :: acc) ks

/-- A group cut where the tenant changes: no page at level 1 holds entries of two tenants (06 R155). -/
def cutTenants (home : Nat) : List Kid → List (Nat × List Kid)
  | [] => []
  | k :: ks =>
    match cutTenants 0 ks with
    | (_, m :: g) :: r => if m.tenant = k.tenant then (home, k :: m :: g) :: r else (home, [k]) :: (0, m :: g) :: r
    | r => (home, [k]) :: r

/-- A group halved for as long as it has more than 339 entries (06 R153). -/
def halveKids : Nat → Nat × List Kid → List (Nat × List Kid)
  | 0, g => [g]
  | fuel + 1, g =>
    if 339 < g.2.length then
      halveKids fuel (g.1, g.2.take (g.2.length / 2)) ++ halveKids fuel (0, g.2.drop (g.2.length / 2))
    else [g]

/-- Neighbouring groups joined, and halved again where one page cannot hold them, while one has fewer than 170 entries; at level 1 only
within one tenant (06 R153, R155). -/
def mergeKids (level : Nat) : List (Nat × List Kid) → List (Nat × List Kid)
  | [] => []
  | g :: gs =>
    match mergeKids level gs with
    | [] => [g]
    | h :: hs =>
      let one := level != 1 || (g.2.head?.map (fun k => k.tenant)) == (h.2.head?.map (fun k => k.tenant))
      if one && (decide (g.2.length < 170) || decide (h.2.length < 170)) then halveKids 2 (g.1, g.2 ++ h.2) ++ hs
      else g :: h :: hs

/-- The groups of children that the pages of a level hold: those of a map are the places of the level above (07 R187). -/
def levelGroups (map : Bool) (level : Nat) (old : List Inner) (kids : List Kid) : List (Nat × List Kid) :=
  if map then
    let places := (kids.map (fun k => k.key / 2032)).eraseDups
    places.map (fun p => (((old.find? (fun x => x.place == p)).map (fun x => x.addr)).getD 0, kids.filter (fun k => k.key / 2032 == p)))
  else
    let by_ := groupKids old [] kids
    let cut := if level = 1 then (by_.map (fun g => cutTenants g.1 g.2)).flatten else by_
    mergeKids level ((cut.map (halveKids 12)).flatten)

/-- The entries of an inner page over children. -/
def kidEntries (kids : List Kid) : List InnerEntry := kids.map (fun k => { key := k.key, tenant := k.tenant, child := k.addr })

/-- A page that holds exactly these entries already stands. -/
def standingPage (old : List Inner) (home : Nat) (es : List InnerEntry) : Option Inner :=
  old.find? (fun p => p.addr == home && p.entries == es)

/-- Levels of inner pages of a map over so many LBAs: the fewest that cover them (07 R187). -/
def mapLevels (nsze : Nat) : Nat :=
  if nsze ≤ 2032 then 0 else if nsze ≤ 2032 ^ 2 then 1 else if nsze ≤ 2032 ^ 3 then 2 else if nsze ≤ 2032 ^ 4 then 3 else 4

/-- A leaf as a child. -/
def leafKid (map : Bool) (l : Leaf) : Kid := { key := if map then l.place else leafKey l, tenant := l.tenant, addr := l.addr, old := l.old }

/-- The leaf of a list that covers a key: the last whose lowest key is not above it. -/
def leafFor (ls : List Leaf) (key : Nat) : Option Leaf := (ls.filter (fun l => decide (leafKey l ≤ key))).getLast?

end Machine
end Sys2Proof
end

