-- ==== Sys2Proof/Machine/PageOps.lean ====
section
/-!
DEFINITION. Partitions: their deltas, flushes and pages (06 R149 to R155, R164 to R168; 07 R187; 10 R275).
-/
namespace Sys2Proof
namespace Machine

/-- The partition of a MAC: its bits [255:240] (06 R149). -/
def macPart (mac : Digest) : Nat := mac.toNat / 2 ^ 240

/-- The partition that stands for the member map of a shard (10 R275). -/
def memberMap : Nat := 131072

/-- The partition is the map of a namespace. -/
def isMap (num : Nat) : Bool := decide (65536 ≤ num) && decide (num < memberMap)

/-- An empty partition. -/
def noPart (shard num : Nat) : Partition :=
  { shard := shard, num := num, root := 0, gen := 0, covered := noStamp, leaves := [], inner := [], delta := [], flushing := none,
    superseded := [], rebuilding := false, stale := false }

/-- A partition. -/
def partAt (s : State) (shard num : Nat) : Partition :=
  (s.idx.parts.find? (fun p => p.shard == shard && p.num == num)).getD (noPart shard num)

/-- Writes a partition. -/
def putPart (p : Partition) (s : State) : State :=
  { s with idx := { s.idx with parts := putBy (fun x => x.shard == p.shard && x.num == p.num) p s.idx.parts } }

/-! ## Writing pages (06 R151) -/

/-- The record kind of the pages of a partition. -/
def pageKind (p : Partition) : RecKind :=
  if p.num < 65536 then .indexPage p.shard p.num else if p.num < memberMap then .mapPage (p.num - 65536) else .memberPage p.shard

/-- A page that is written: its level, whether it is its partition's root, its tenant, its entries and its body. -/
structure PageIn where
  level  : Nat
  root   : Bool
  tenant : Nat
  count  : Nat
  body   : Bytes
deriving DecidableEq, Repr

/-- Writes one page of 16,384 bytes with the next generation of its partition; answers its address and that generation (06 R151, Table
6.1; 07 R187; 10 R275). -/
def writePage (p : Partition) (gen : Nat) (covered : CStamp) (x : PageIn) (s : State) : Nat × Nat × State :=
  let (n, s1) := draw s
  let map := isMap p.num
  let key := shardKey s1 (if map then "map" else "idx") p.shard
  let tenant := if map then x.tenant else if x.root || decide (2 ≤ x.level) || decide (memberMap ≤ p.num) then 0xFFFF else x.tenant
  let magic := if map then "UVMP" else if p.num < 65536 then "UVIX" else "UVMM"
  let part := if map then p.num - 65536 else if p.num < 65536 then p.num else 0
  let bytes := pageBytes key magic x.level (if x.root then 1 else 0) part p.shard x.count tenant (gen + 1) covered (n.toNat % 2 ^ 96) x.body
  let w := writeSmallUnits p.shard (pageData s1 p.shard) 0 (pageKind p) 4 bytes covered s1
  (((w.1.head?).map Prod.fst).getD 0, gen + 1, w.2.2)

/-- The body of a leaf of a partition. -/
def leafBodyOf (num : Nat) (l : Leaf) : Bytes :=
  if isMap num then mapLeafBody l.place l.items else if num < 65536 then indexLeafBody l.items else roleLeafBody l.items

/-- Writes the leaves that are still to be written. -/
def writeLeaves (p : Partition) (covered : CStamp) (root : Bool) : List Leaf → Nat → State → List Leaf × Nat × State
  | [], gen, s => ([], gen, s)
  | l :: ls, gen, s =>
    if l.addr = 0 then
      let w := writePage p gen covered
        { level := 0, root := root, tenant := l.tenant, count := if isMap p.num then 2032 else l.items.length, body := leafBodyOf p.num l } s
      let r := writeLeaves p covered root ls w.2.1 w.2.2
      ({ l with addr := w.1, gen := w.2.1, covered := covered } :: r.1, r.2)
    else
      let r := writeLeaves p covered root ls gen s
      (l :: r.1, r.2)

/-- Writes the pages of one level over groups of children, but for those that stand as they are; answers the pages and the next generation. -/
def writeInner (p : Partition) (covered : CStamp) (level : Nat) (root : Bool) (old : List Inner) : List (Nat × List Kid) → Nat → State →
    List (Inner × Kid) × Nat × State
  | [], gen, s => ([], gen, s)
  | (home, ks) :: gs, gen, s =>
    let es := kidEntries ks
    let place := ((ks.head?).map (fun k => k.key / 2032)).getD 0
    let key := if isMap p.num then place else ((ks.head?).map (fun k => k.key)).getD 0
    let tenant := ((ks.head?).map (fun k => k.tenant)).getD 0xFFFF
    match (standingPage old home es).filter (fun x => root == (x.addr == p.root)) with
    | some x =>
      let r := writeInner p covered level root old gs gen s
      ((x, { key := key, tenant := tenant, addr := x.addr, old := x.old }) :: r.1, r.2)
    | none =>
      let body := if isMap p.num then mapInnerBody place es else (es.map innerEntryBytes).flatten
      let w := writePage p gen covered { level := level, root := root, tenant := tenant, count := if isMap p.num then 2032 else es.length, body := body } s
      let x : Inner := { level := level, place := place, addr := w.1, old := home, gen := w.2.1, covered := covered, entries := es }
      let r := writeInner p covered level root old gs w.2.1 w.2.2
      ((x, { key := key, tenant := tenant, addr := w.1, old := home }) :: r.1, r.2)

/-- Writes the levels above the leaves up to one root (06 R153, R165): inner pages, root address, generation. A map has as many levels as its
namespace needs (07 R187). -/
def writeLevels (p : Partition) (covered : CStamp) (height : Nat) : Nat → Nat → List Kid → Nat → State → List Inner × Nat × Nat × State
  | 0, _, kids, gen, s => ([], ((kids.head?).map (fun k => k.addr)).getD 0, gen, s)
  | fuel + 1, level, kids, gen, s =>
    let map := isMap p.num
    if kids.isEmpty ∨ (!map ∧ kids.length = 1) ∨ (map ∧ height < level) then
      ([], ((kids.head?).map (fun k => k.addr)).getD 0, gen, s)
    else
      let old := p.inner.filter (fun x => x.level == level)
      let gs := levelGroups map level old kids
      let root := if map then level == height else gs.length == 1
      let w := writeInner p covered level root old gs gen s
      let r := writeLevels p covered height fuel (level + 1) (w.1.map Prod.snd) w.2.1 w.2.2
      (w.1.map Prod.fst ++ r.1, r.2)

/-! ## Flushes (06 R165) -/

/-- The levels of inner pages that a partition's map needs. -/
def partHeight (s : State) (num : Nat) : Nat :=
  if isMap num then mapLevels (((s.block.nss.find? (fun n => n.num == num - 65536)).map (fun n => n.ncap)).getD 0) else 0

/-- The code of a commit record's subject, and its number (10 Table 10.9). -/
def commitKind (num : Nat) : Nat × Nat := if num < 65536 then (1, num) else if num < memberMap then (2, num - 65536) else (3, 0)

/-- The addresses of the pages of a tree. -/
def treePages (leaves : List Leaf) (inner : List Inner) : List Nat := leaves.map (fun l => l.addr) ++ inner.map (fun x => x.addr)

/-- Leaves whose standing as root changes are to be written anew. -/
def rootLeaves (root : Nat) (single : Bool) (ls : List Leaf) : List Leaf :=
  ls.map (fun l => if l.addr != 0 && (single != (l.addr == root)) then l.dirty l.items else l)

/-- A flush runs (06 R165, steps 1 and 2): the delta goes into the leaves, new leaves and their ancestors up to a new root are written with
the covered stamp of the newest mutation applied, and a commit record follows. A flush that runs already is begun again: its pages are
stale. -/
def flushNow (shard num : Nat) (s : State) : State :=
  let p := partAt s shard num
  let gen := ((p.flushing).map (fun f => f.gen)).getD p.gen
  let stale := ((p.flushing).map (fun f => f.commit :: (treePages f.leaves f.inner).filter (fun a => !(treePages p.leaves p.inner).contains a))).getD []
  let s0 := killRecs stale s
  let covered := (p.delta.getLast?.map (fun m => m.stamp)).getD p.covered
  let applied := p.delta.foldl applyMut p.leaves
  let merged := if isMap num then applied else mergeLeaves applied
  let height := partHeight s num
  let single := if isMap num then height == 0 else merged.length == 1
  let w := writeLeaves p covered single (rootLeaves p.root single merged) gen s0
  let r := writeLevels p covered height 8 1 (w.1.map (leafKid (isMap num))) w.2.1 w.2.2
  let k := commitKind num
  let c := writeSealed shard (pageData r.2.2.2 shard) (.commit shard num) "UVIC" 0xFFFF 40 (commitBody k.1 k.2 r.2.2.1 r.2.1 covered) covered r.2.2.2
  let f : FlushState := { leaves := w.1, inner := r.1, root := r.2.1, gen := r.2.2.1, covered := covered, commit := c.1 }
  putPart { partAt c.2 shard num with flushing := some f } c.2

/-- A flush starts, unless one runs or the delta is empty. -/
def startFlush (shard num : Nat) (s : State) : State :=
  let p := partAt s shard num
  if p.flushing.isSome || p.delta.isEmpty || p.stale then s else flushNow shard num s

/-- A mutation enters its partition's delta; a full delta is flushed (06 R164, R165). -/
def enterDelta (shard num tenant seq : Nat) (what : MutBody) (st : CStamp) (s : State) : State :=
  let p := partAt s shard num
  let m : DeltaMut := { stamp := st, at_ := mono s, seq := seq, tenant := tenant, what := what }
  let s1 := putPart { p with delta := p.delta ++ [m] } s
  if pIdxDeltaFlush s1 ≤ p.delta.length + 1 then startFlush shard num s1 else s1

/-- A leaf entry enters the index at its commit stamp: its splice-log entry and its partition's delta (06 R164; 07 Table 7.6, kind 3). -/
def indexPut (shard tenant : Nat) (e : LeafEntry) (st : CStamp) (s : State) : State :=
  let num := macPart e.mac
  let w := splice shard 3 st { noName with seg := addrSeg e.record, seg2 := addrSeg e.first, part := num } 136
    (encodeFlds [(2, num), (1, 0), (5, 0)] ++ leafEntryBytes e (pageBody - e.inline_.length)) s
  enterDelta shard num tenant w.1 (.put (.entry e)) st w.2

/-- A key leaves the index at a commit stamp. -/
def indexRemove (shard tenant coll : Nat) (mac : Digest) (st : CStamp) (s : State) : State :=
  let num := macPart mac
  let w := splice shard 3 st { noName with part := num } 136
    (encodeFlds [(2, num), (1, 1), (5, 0), (32, mac.toNat), (2, coll), (94, 0)]) s
  enterDelta shard num tenant w.1 (.remove coll mac) st w.2

/-- LBAs of a namespace map to consecutive units from an address, or are deallocated or lost (07 R187, Table 7.6, kind 4). -/
def mapMut (shard tenant ns lba count addr run : Nat) (st : CStamp) (s : State) : State :=
  let w := splice shard 4 st { noName with seg := if addr = 0xFFFF then 0 else addrSeg addr, part := 65536 + ns } 32
    (encodeFlds [(2, ns), (6, 0), (8, lba), (4, count), (4, 0), (8, addr)]) s
  enterDelta shard (65536 + ns) tenant w.1 (.map lba count addr run) st w.2

/-! ## Superseded pages (06 R166) -/

/-- Superseded pages become stale once no walk with a read point below their flush's covered stamp remains (06 R166). -/
def releasePages (s : State) : State :=
  s.idx.parts.foldl (fun acc p =>
    let gone (x : Nat × CStamp) : Bool := !(s.idx.walks.any (fun w => w.point.lt x.2))
    if p.superseded.any gone then
      killRecs ((p.superseded.filter gone).map Prod.fst) (putPart { p with superseded := p.superseded.filter (fun x => !gone x) } acc)
    else acc) s

/-! ## The member map (10 R275) -/

/-- Where the role of a slot's member lies in a row: 0 home, 1 first spare, 2 second spare, 3 unwritten (10 R275). -/
def roleCode (w : Row) (slot : Nat) : Nat :=
  let j := (slot + 24 - (128 * w.seg + w.row) % 24) % 24
  if w.d + geomParity w.d ≤ j then 0
  else
    match w.subst.lookup j with
    | some i => i + 1
    | none => if w.missing.contains j then 3 else 0

/-- The 32 bytes of a member-map entry as one number, row 0 lowest. -/
def roleBits (s : State) (seg slot : Nat) : Nat :=
  ((s.log.rows.filter (fun w => w.seg == seg)).map (fun w => roleCode w slot * 4 ^ w.row)).sum

/-- The member-map entry of a segment and slot changes to what its rows say: an entry of zeros is removed (10 R275). It enters the delta of the
shard that owns the segment, without a splice-log entry of its own (log entry 126). -/
def roleMut (seg slot : Nat) (s : State) : State :=
  match segAt s seg with
  | none => s
  | some g =>
    let p := partAt s g.shard memberMap
    let m : DeltaMut := { stamp := (shardAt s g.shard).last, at_ := mono s, seq := 0, tenant := 0xFFFF, what := .put (.role seg slot (roleBits s seg slot)) }
    let s1 := putPart { p with delta := p.delta ++ [m] } s
    if pIdxDeltaFlush s1 ≤ p.delta.length + 1 then startFlush g.shard memberMap s1 else s1

end Machine
end Sys2Proof
end

