-- ==== Sys2Proof/Machine/MoveOps.lean ====
section
/-!
DEFINITION. What the log's records refer to and how they move: objects' records and leaf entries (06 Table 6.2; 10 R276, R277), log
checkpoints and their pointers (07 R196; 10 R269), relocation's moves (07 R191), void rows and the ends of strip writes (07 R186).
-/
namespace Sys2Proof
namespace Machine

/-! ## Objects and their locks -/

/-- Stored units of one chunk of a value, and its plaintext bytes (10 R277). -/
def chunkUnits : Nat := 16
/-- Plaintext bytes of one chunk (10 R277). -/
def chunkBytes : Nat := 65520

/-- An object by its key. -/
def objAt (s : State) (coll : Nat) (mac : Digest) : Option Obj := s.obj.objs.find? (fun o => o.coll == coll && o.mac == mac)

/-- Order of objects: by collection, then by MAC (05 R138, 06 R148). -/
def objLe (a b : Obj) : Bool := decide (a.coll < b.coll) || (a.coll == b.coll && decide (a.mac.toNat ≤ b.mac.toNat))

/-- Writes an object at its place in the order. -/
def putObj (o : Obj) (s : State) : State :=
  let rest := s.obj.objs.filter (fun x => !(x.coll == o.coll && x.mac == o.mac))
  { s with obj := { s.obj with objs := rest.filter (fun x => objLe x o) ++ o :: rest.filter (fun x => !objLe x o) } }

/-- The lock list of a target: an object, or a collection (none). -/
def locksAt (s : State) (coll : Nat) (mac : Option Digest) : List Lock :=
  ((s.obj.locks.find? (fun l => l.coll == coll && l.mac == mac)).map (fun l => l.locks)).getD []

/-- A stopper. -/
def isStopper (l : Lock) : Bool := l.num == 0x80

/-- The value of an object: its parts in number order. -/
def objValue (o : Obj) : Bytes := (o.parts.map (fun p => p.data)).flatten

/-- Stored bytes of a part: each chunk's ciphertext and tag, padded to a unit (10 R277). -/
def storedPart (key : BitVec 512) (mac : Digest) (coll num len : Nat) : Nat → Nat → Bytes → Bytes
  | 0, _, _ => []
  | fuel + 1, c, data =>
    if data.isEmpty then []
    else
      let plain := data.take chunkBytes
      let nonce := num + 2 ^ 32 * c
      let cipher := plain.zipIdx.map (fun x => x.1 ^^^ Config.keystream key nonce x.2)
      let aad := encodeFlds [(32, mac.toNat), (2, coll), (8, len)]
      let body := cipher ++ leBytes 16 (Config.gcmTag key nonce aad cipher)
      body ++ List.replicate (padTo 4096 body.length) 0 ++ storedPart key mac coll num len fuel (c + 1) (data.drop chunkBytes)

/-- The first extent of a sealed object. -/
def firstExtent (o : Obj) : Option (Nat × Nat) := (o.parts.head?).bind (fun p => p.extents.head?)

/-- Size of an object's value. -/
def objSize (o : Obj) : Nat := (o.parts.map (fun p => p.data.length)).sum

/-- The kind of an object's leaf entry: 1 in the log, 2 inline, 3 open (06 Table 6.2, R154). -/
def leafKind (o : Obj) : Nat := if o.whip.isNone then 3 else if objSize o ≤ 3072 then 2 else 1

/-! ## Object records (10 R276) -/

/-- The extents of a part: log address, units, part, and the first chunk of the part in the extent (10 Table 10.10). -/
def chunkStarts (part units : Nat) : List (Nat × Nat) → List (Nat × Nat × Nat × Nat)
  | [] => []
  | (a, u) :: r => (a, u, part, units / chunkUnits) :: chunkStarts part (units + u) r

/-- The record body in plaintext (10 Table 10.10). -/
def recordBody (s : State) (o : Obj) : Flds :=
  let w := o.whip
  let ls := locksAt s o.coll (some o.mac)
  let ext := (o.parts.map (fun p => chunkStarts p.num 0 p.extents)).flatten
  [(32, o.mac.toNat), (1, leafKind o), (1, ls.length), (2, o.name.length), (2, o.metadata.length), (2, 0), (4, o.parts.length),
   (4, ext.length), (8, objSize o), (32, (w.map (fun x => x.sha2.toNat)).getD 0), (32, (w.map (fun x => x.sha3.toNat)).getD 0),
   (32, (w.map (fun x => x.salt.toNat)).getD 0)] ++ cstampFlds ((w.map (fun x => x.stamp)).getD noStamp) ++
  (w.map (fun x => kstampFlds x.custody)).getD [(16, 0)] ++ [(4, o.version), (4, 0),
   (o.name.length + padTo 8 o.name.length, leValue o.name), (o.metadata.length + padTo 8 o.metadata.length, leValue o.metadata)] ++
  (ext.map (fun e => [(8, e.1), (4, e.2.1), (4, e.2.2.1), (2, e.2.2.2), (6, 0)])).flatten ++ (ls.map lockFlds).flatten

/-- The root key of a tenant in the SoC. -/
def rootOf (s : State) (t : Nat) : BitVec 512 := ((tenantAt s t).bind (fun x => x.root)).getD 0

/-- An object's key under AES-256-KW with its collection's wrapping key (02 Table 2.6). -/
def wrappedKey (s : State) (c : Coll) (o : Obj) : Nat := Config.keyWrap (collKey (rootOf s c.tenant) c.num) o.key

/-- Bytes of an object record: header, collection, wrapped key, sealed body and tag (10 R276). -/
def objRecordSize (s : State) (o : Obj) : Nat := 128 + sizeFlds (recordBody s o)

/-- The object record as it lies in the log (10 R276, R277). -/
def objRecordBytes (s : State) (c : Coll) (o : Obj) (st : CStamp) : Bytes :=
  let nonce := nonceOf o.version 0 2
  let aad := recordHead "UVOR" (objRecordSize s o) c.shard c.tenant st nonce ++ encodeFlds [(2, c.num), (6, 0), (40, wrappedKey s c o)]
  padUnit (aad ++ gcmSeal o.key nonce aad (encodeFlds (recordBody s o)))

/-- Writes an object record: a new version stands for the one before, which is stale (10 R276). Answers its log address. -/
def writeObjRecord (c : Coll) (o : Obj) (st : CStamp) (s : State) : Nat × State :=
  let s1 := killKind (fun k => k == .object o.coll o.mac) s
  let w := writeSmallUnits c.shard (geomData c.geometry) 0 (.object o.coll o.mac) (unitsOf (objRecordSize s o)) (objRecordBytes s c o st) st s1
  (((w.1.head?).map Prod.fst).getD 0, w.2.2)

/-- The inline record of an object's leaf entry: the value's ciphertext and tag in the single-chunk form (06 R154; 10 R277). -/
def inlineRecord (o : Obj) : Bytes :=
  if leafKind o = 2 then gcmSeal o.key (nonceOf 0 0 1) (encodeFlds [(32, o.mac.toNat), (2, o.coll), (8, objSize o)]) (objValue o) else []

/-- The leaf entry of an object with its record at an address (06 Table 6.2). -/
def leafEntryOf (s : State) (c : Coll) (o : Obj) (record : Nat) (st : CStamp) : LeafEntry :=
  let ls := locksAt s o.coll (some o.mac)
  let k := leafKind o
  let e := if k = 1 then firstExtent o else none
  { mac := o.mac, coll := o.coll, kind := k,
    flags := (if ls.any (fun l => !isStopper l) then 1 else 0) + (if ls.any isStopper then 2 else 0) + (if o.lost then 4 else 0),
    record := record, first := (e.map Prod.fst).getD 0, firstLen := (e.map Prod.snd).getD 0, inline_ := inlineRecord o, stamp := st,
    size := objSize o,
    wrapped := if k = 3 then o.handle.toNat + 2 ^ 64 * ((o.opener.map (fun d => d.toNat)).getD 0) else wrappedKey s c o }

/-- A new version of an object's record and its index entry at a stamp, without a change of its content. -/
def reindexObj (c : Coll) (o : Obj) (st : CStamp) (s : State) : State :=
  let o1 := { o with version := o.version + 1 }
  let w := writeObjRecord c o1 st (putObj o1 s)
  indexPut c.shard c.tenant (leafEntryOf w.2 c o1 w.1 st) st w.2

/-- An object's record and its index entry at a stamp: it stands in the state from then on (06 R164; 10 R276). -/
def recordObj (c : Coll) (o : Obj) (st : CStamp) (s : State) : State := reindexObj c { o with stamp := st } st s

/-- The log address of an object's record, 0 for none. -/
def recordAddr (s : State) (o : Obj) : Nat :=
  ((s.log.recs.find? (fun r => r.live && r.kind == .object o.coll o.mac)).map (fun r => r.addr)).getD 0

/-- An object's leaf entry alone at a stamp: a lost range or a moved record changes it, and the record stands (06 Table 6.2; 08 R227). -/
def reenterObj (c : Coll) (o : Obj) (st : CStamp) (s : State) : State :=
  indexPut c.shard c.tenant (leafEntryOf s c o (recordAddr s o) st) st s

/-! ## Checkpoint pointers (07 R196; 10 R269) -/

/-- Members that take descriptor-region writes: every present one that is not FAILED. -/
def descriptorSlots (s : State) : List (Fin 24) :=
  allSlots.filter (fun n => memberWrites (memberAt s n))

/-- The entries of this module's pointer slot: for each shard it owns its log checkpoint on media. -/
def pointerEntries (s : State) : List (Nat × Nat × CStamp) :=
  (s.log.shards.filter (fun x => x.owned && x.ckptAddr != 0)).map (fun x => (x.num, x.ckptAddr, x.ckpt))

/-- A checkpoint on media is named in the pointer slot of lower sequence on every present member (R196; 10 R269, Table 10.5). -/
def writePointers (s : State) : State :=
  let n := s.mem.ptrSeq + 1
  let es := pointerEntries s
  (descriptorSlots s).foldl (fun acc m =>
    let x := memberAt acc m
    let first := decide (x.ptr0 ≤ x.ptr1)
    let base := (if s.pair.isB then 2 else 0) + (if first then 0 else 1)
    let acc1 := putMember m (if first then { x with ptr0 := n } else { x with ptr1 := n }) acc
    (issueWrite m .log .pointer (16 + 4 * base) 4 (pointerBytes base (if s.pair.isB then 1 else 0) n es) acc1).2)
    { s with mem := { s.mem with ptrSeq := n } }

/-! ## Moving records (07 R191) -/

/-- The runs of consecutive LBAs at consecutive units among mapped LBAs: first LBA, count, address (07 R187). -/
def lbaRuns : List LbaData → List (Nat × Nat × Nat)
  | [] => []
  | l :: ls =>
    match lbaRuns ls with
    | (b, n, a) :: r => if l.lba + 1 = b ∧ l.addr + 1 = a then (l.lba, n + 1, l.addr) :: r else (l.lba, 1, l.addr) :: (b, n, a) :: r
    | [] => [(l.lba, 1, l.addr)]

/-- The mapped LBAs of a block record move with it: each through its map (R191). -/
def moveBlocks (shard ns old units new : Nat) (st : CStamp) (s : State) : State :=
  match s.block.nss.find? (fun n => n.num == ns) with
  | none => s
  | some n =>
    let hit (l : LbaData) : Bool := !l.lost && decide (old ≤ l.addr) && decide (l.addr < old + units)
    let runs := lbaRuns (n.lbas.filter hit)
    let lbas := mapIf hit (fun l => { l with addr := new + (l.addr - old) }) n.lbas
    let s1 := { s with block := { s.block with nss := mapIf (fun x => x.num == ns) (fun x => { x with lbas := lbas }) s.block.nss } }
    runs.foldl (fun acc x => mapMut shard n.tenant ns x.1 x.2.1 (new + (x.2.2 - old)) (x.2.2 - old - (if n.format1 then 1 else 0)) st acc) s1

/-- The parts of an object whose extent has moved. -/
def moveExtent (old : Nat) (new : List (Nat × Nat)) (part : Nat) (o : Obj) : Obj :=
  { o with parts := o.parts.map (fun p =>
      if p.num = part then { p with extents := (p.extents.map (fun e => if e.1 = old then new else [e])).flatten } else p) }

/-- What referred to a record refers to its new place, through the shard's sequencer, with a commit stamp (R191): an extent's object gets a
new record and index entry, an object record a new index entry, a block run new map entries; a log checkpoint is named by the pointers. -/
def referMoved (shard : Nat) (r : LogRec) (new : List (Nat × Nat)) (st : CStamp) (s : State) : State :=
  let a := ((new.head?).map Prod.fst).getD 0
  match r.kind with
  | .extent c m part =>
    match objAt s c m, collAt s c with
    | some o, some k => if leafKind o = 2 then s else reindexObj k (moveExtent r.addr new part o) st s
    | _, _ => s
  | .object c m =>
    match objAt s c m, collAt s c with
    | some o, some k => indexPut k.shard k.tenant (leafEntryOf s k o a st) st s
    | _, _ => s
  | .block ns _ _ => moveBlocks shard ns r.addr r.units a st s
  | .commit sh num =>
    let p := partAt s sh num
    match p.flushing with
    | some f => if f.commit = r.addr then putPart { p with flushing := some { f with commit := a } } s else s
    | none => s
  | .checkpoint sh =>
    let x := shardAt s sh
    let s1 := putShard { x with ckptAddr := if x.ckptAddr = r.addr then a else x.ckptAddr,
                                ckptNew := x.ckptNew.map (fun y => if y.1 = r.addr then (a, y.2) else y) } s
    if x.ckptAddr = r.addr then writePointers s1 else s1
  | .tombstone _ _ | .lanyard | .loss | .fill | .indexPage _ _ | .mapPage _ | .memberPage _ => s

/-- The partition a page record belongs to. -/
def pageOf (s : State) : RecKind → Option (Nat × Nat)
  | .indexPage sh num => some (sh, num)
  | .mapPage ns => (s.block.nss.find? (fun n => n.num == ns)).map (fun n => (n.shard, 65536 + ns))
  | .memberPage sh => some (sh, memberMap)
  | _ => none

/-- Writes a record again, unchanged, at a head: its extents, the rows it fills whole, and the state with its copy entered in the splice log
where it is small and the old copy stale (R180, R183, R191). -/
def layAgain (shard d : Nat) (reloc : Bool) (r : LogRec) (st : CStamp) (s : State) : List (Nat × Nat) × List (Nat × Nat) × State :=
  let grain := match r.kind with
    | .extent _ _ _ => chunkUnits
    | _ => 0
  let w := writeUnits shard d reloc grain r.kind r.stamp (r.units + 4) r.units r.bytes s
  match w.1 with
  | [] => ([], [], w.2)
  | (a, _) :: _ =>
    let direct := fullRows d w.1
    let s1 := spliceExtents shard d direct st w.1 r.bytes w.2
    let s2 := { s1 with log := { s1.log with recs := mapIf (fun x => x.addr == a) (fun x => { x with dead := r.dead }) s1.log.recs } }
    let s3 := mapSeg (addrSeg a) (fun g => { g with stale := g.stale + r.dead }) s2
    let s4 := mapSeg (addrSeg r.addr) (fun g => { g with movedAt := some st }) s3
    (w.1, direct, killRecs [r.addr] s4)

/-- A page of a partition moves: its parent is written anew, up to a new root, by a flush (06 R150, R165; 07 R191). A page of a flush that
runs is written by beginning that flush again; a superseded page stays where it is. -/
def movePage (sh num d : Nat) (reloc : Bool) (r : LogRec) (st : CStamp) (s : State) : State :=
  let p := partAt s sh num
  if (treePages p.leaves p.inner).contains r.addr then
    let w := layAgain sh d reloc r st s
    match w.1 with
    | [] => w.2.2
    | (a, _) :: _ =>
      let leaf (l : Leaf) : Leaf := if l.addr = r.addr then { l with addr := a, old := r.addr } else l
      let inner (x : Inner) : Inner := if x.addr = r.addr then { x with addr := a, old := r.addr } else x
      let q := partAt w.2.2 sh num
      flushNow sh num (putPart { q with leaves := q.leaves.map leaf, inner := q.inner.map inner,
                                        root := if q.root = r.addr then a else q.root } w.2.2)
  else if (p.flushing.map (fun f => treePages f.leaves f.inner)).any (fun l => l.contains r.addr) then flushNow sh num s
  else s

/-- Moves one live record to a head, unchanged, and what refers to it with it, each through its shard's sequencer (R191). Answers the rows it
fills whole. -/
def moveRecord (shard d : Nat) (reloc : Bool) (r : LogRec) (s : State) : List (Nat × Nat) × State :=
  if !(s.log.recs.any (fun x => x.addr == r.addr && x.live)) then ([], s)
  else
    let (st, s1) := sequence shard s
    match pageOf s r.kind with
    | some (sh, num) => ([], movePage sh num d reloc r st s1)
    | none =>
      let w := layAgain shard d reloc r st s1
      if w.1.isEmpty then ([], w.2.2) else (w.2.1, referMoved shard r w.1 st w.2.2)

/-- Moves records in turn; answers the rows they fill whole. -/
def moveAll (shard d : Nat) (reloc : Bool) (rs : List LogRec) (s : State) : List (Nat × Nat) × State :=
  rs.foldl (fun acc r => let w := moveRecord shard d reloc r acc.2; (acc.1 ++ w.1, w.2)) ([], s)

/-! ## Rows that have ended (07 R181, R186) -/

/-- A row of a segment is on media or void; with the last of 128 the segment is FULL (R181). -/
def rowEnded (seg : Nat) (s : State) : State :=
  let s1 := mapSeg seg (fun g => { g with rows := g.rows + 1 }) s
  match segAt s1 seg with
  | some g =>
    if g.state == .open_ && decide (128 ≤ g.rows) then
      segEntry g.shard seg 2 (mapSeg seg (fun y => { y with state := .full, order := s1.log.fullCount + 1 })
        { s1 with log := { s1.log with fullCount := s1.log.fullCount + 1 } })
    else s1
  | none => s1

/-- What waited for a row that was written directly waits for the rows that take its place, and for the splice entries of the rest (R185,
R186). -/
def retargetRows (shard seg row : Nat) (rows : List (Nat × Nat)) (s : State) : State :=
  let n := (shardAt s shard).splice
  let swap (l : List (Nat × Nat)) : List (Nat × Nat) := if l.contains (seg, row) then l.filter (fun x => x != (seg, row)) ++ rows else l
  let held (h : Held) : Held := if h.rows.contains (seg, row) then { h with rows := swap h.rows, also := h.also ++ [(shard, n)] } else h
  let hitch (h : Hitch) : Hitch :=
    { h with batches := h.batches.map (fun b => { b with rows := swap b.rows }), arrivals := h.arrivals.map (fun a => { a with rows := swap a.rows }) }
  { s with held := s.held.map held, hitch := { s.hitch with list := s.hitch.list.map hitch } }

/-- A stripe with two or more failed strip writes is void: a kind 6 entry records it, its records are written again at the host head, and
what waited for it waits for them (R186; Table 7.6). -/
def voidRow (r : Row) (s : State) : State :=
  let shard := ((segAt s r.seg).map (fun g => g.shard)).getD 0
  let s1 := mapRow r.seg r.row (fun x => { x with state := .void, writes := [] }) s
  let s2 := (splice shard 6 noStamp { noName with seg := r.seg, row := r.row, rowEnd := r.row } 8
    (encodeFlds [(4, r.seg), (1, r.row), (1, 0xFF), (2, 0)]) s1).2
  let w := moveAll shard r.d false (rowRecs s2 r.seg r.row r.d) (raise stSTR 0 noInst s2)
  retireRow r.seg r.row (rowEnded r.seg (retargetRows shard r.seg r.row w.1 w.2))

/-- A row is on media: its splice-log entries retire, roles that do not lie at home enter the member map, and its segment is FULL with its
last row (R181, R186, R202; 10 R275). -/
def rowOnMedia (r : Row) (s : State) : State :=
  let s1 := mapRow r.seg r.row (fun x => { x with state := .onMedia, missing := x.missing ++ x.failed, failed := [] }) s
  let moved := r.missing ++ r.failed ++ r.subst.map Prod.fst
  let s2 := moved.foldl (fun acc j => roleMut r.seg (homeMember r.seg r.row j : Nat) acc) s1
  rowEnded r.seg (retireRow r.seg r.row s2)

/-- A strip write of a row has ended (R186). -/
def stripDone (seg row role : Nat) (ok : Bool) (s : State) : State :=
  match rowAt s seg row with
  | none => s
  | some r0 =>
    let r := { r0 with writes := r0.writes.filter (fun j => j != role), failed := if ok then r0.failed else r0.failed ++ [role] }
    let s1 := mapRow seg row (fun _ => r) s
    if r.state != .writing then s1
    else if 2 ≤ r.failed.length then voidRow r s1
    else if r.writes.isEmpty then rowOnMedia r s1
    else s1

end Machine
end Sys2Proof
end

