-- ==== Sys2Proof/Machine/Banks.lean ====
section
/-!
DEFINITION. The record banks and the text summary of every member (10 R262 to R270), and what held completions wait for.
-/
namespace Sys2Proof
namespace Machine

/-! ## The records of a bank (10 R263, R265, Tables 10.3, 10.4) -/

/-- The Shelf record. -/
def shelfRecord (s : State) : Flds :=
  [(8, s.boot.shelfId.toNat), (2, 1), (2, 24), (4, 4096), (4, 65536), (4, 128), (8, s.log.segBase), (4, s.log.segCount), (4, 1048576),
   (8, 16384), (1, if s.pair.pairShelf then 1 else 0), (7, 0)] ++ (List.range 24).map (fun n => (1, faultGroup s n)) ++
  kstampFlds s.boot.formedAt ++ [(16, s.auth.release.toNat)]

/-- Data strips of the geometries in use. -/
def geometriesUsed (s : State) : List Nat :=
  [18, 20].filter (fun d => s.log.segs.any (fun g => g.d == d) || s.obj.colls.any (fun c => geomData c.geometry == d) ||
    s.block.nss.any (fun n => geomData n.geometry == d))

/-- The Parity record of a geometry: the matrix C, row by row. -/
def parityRecord (d : Nat) : Flds :=
  let p := geomParity d
  [(2, 0x11D), (1, 2), (1, d), (1, p), (1, 2), (2, 0)] ++
    ((List.range p).map (fun i => (List.range d).map (fun j => (1, cauchy p i j)))).flatten

/-- The Member record of a slot. -/
def memberRecord (s : State) (n : Fin 24) : Flds :=
  let m := memberAt s n
  [(1, n.val), (1, memberCode m.state), (2, 0), (4, m.epoch)] ++ kstampFlds m.changed ++
    [(16, m.nguid.toNat), (20, m.serial.toNat), (4, 0), (8, m.lbas)]

/-- The Custodian set record. -/
def custodianRecord (s : State) : Flds :=
  [(1, s.auth.quorumK), (1, s.auth.custKeys.length), (6, 0)] ++ s.auth.custKeys.map (fun k => (32, k.toNat)) ++
    [(32, (s.auth.timeKey.map (fun k => k.toNat)).getD 0)]

/-- The Escrow key record, once a key is enrolled. -/
def escrowKeyRecord (s : State) : List Flds :=
  match s.auth.escrowKey with
  | some k => [[(32, k.toNat), (1600, Config.publicKey k)] ++ kstampFlds s.auth.escrowAt]
  | none => []

/-- An Escrow wrap record: subject, tenant, epoch. -/
def wrapRecord (subject tenant epoch : Nat) (w : EscrowWrap) : Flds :=
  [(1, subject), (1, 0), (2, tenant), (2, epoch), (2, 0), (32, w.escrow.toNat), (32, w.ephemeral), (1568, w.ct), (40, w.wrapped)] ++
    kstampFlds w.stamp

/-- The Escrow wrap records: that of the shelf wrapping key, then those of the tenants. -/
def wrapRecords (s : State) (tenants : List Tenant) : List Flds :=
  (s.auth.shelfEscrow.map (wrapRecord 1 0xFFFF 0)).toList ++
    tenants.filterMap (fun t => t.escrow.map (wrapRecord 2 t.num t.epoch))

/-- A Tenant record: the wrap is zero once it is overwritten (02 R46). -/
def tenantRecord (s : State) (t : Tenant) : Flds :=
  [(2, t.num), (2, t.epoch), (4, 0), (32, t.key.toNat), (40, (t.media.map (Config.keyWrap (shelfKey s))).getD 0)] ++ kstampFlds t.enrolled

/-- A Collection record with its locks. -/
def collRecord (s : State) (c : Coll) : Flds :=
  let ls := locksAt s c.num none
  [(2, c.num), (2, c.tenant), (2, c.shard), (1, c.geometry), (1, if c.durable then 1 else 0)] ++ cstampFlds c.stamp ++
    [(1, ls.length), (7, 0)] ++ (ls.map lockFlds).flatten

/-- A Namespace record: the format salt is zero while it is overwritten (04 R100, R115). -/
def nsRecord (n : Ns) : Flds :=
  [(2, n.num), (2, n.tenant), (2, n.nsid), (2, n.shard), (1, if n.format1 then 1 else 0), (1, n.piType + (if n.piFirst then 0 else 4)),
   (1, n.geometry), (5, 0), (8, n.ncap), (32, saltValue n.salt)] ++ cstampFlds n.created

/-- A record with its framing, padded to a multiple of 8; the length counts the padding (10 R265; log entry 127). -/
def framed (type : Nat) (body : Flds) : Flds :=
  let n := 8 + sizeFlds body
  [(2, type), (2, 0), (4, n + padTo 8 n)] ++ body ++ [(padTo 8 n, 0)]

/-- A list in ascending order of a number. -/
def sortOn {α : Type} (f : α → Nat) (l : List α) : List α := l.mergeSort (fun a b => decide (f a ≤ f b))

/-- The records of a bank, in ascending order of type and of the body's first field (10 R265, Table 10.3). -/
def bankRecords (s : State) : List Flds :=
  let ts := sortOn (fun t => t.num) s.obj.tenants
  [framed 1 (shelfRecord s)] ++ (geometriesUsed s).map (fun d => framed 2 (parityRecord d)) ++ allSlots.map (fun n => framed 3 (memberRecord s n)) ++
  [framed 4 (custodianRecord s)] ++ (escrowKeyRecord s).map (framed 5) ++ (wrapRecords s ts).map (framed 6) ++
  ts.map (fun t => framed 7 (tenantRecord s t)) ++ (sortOn (fun c => c.num) s.obj.colls).map (fun c => framed 8 (collRecord s c)) ++
  (sortOn (fun n => n.num) (s.block.nss.filter (fun n => !n.deleting))).map (fun n => framed 9 (nsRecord n))

/-- A record bank of a slot at a generation: header and records; zeros follow to the end of the bank (10 R263, Table 10.2). -/
def bankBytes (s : State) (slot gen : Nat) : Bytes :=
  let rs := bankRecords s
  let used := 64 + (rs.map sizeFlds).sum
  let len := used + padTo 4096 used
  let body := padEnd (len - 64) (rs.map encodeFlds).flatten
  let head := ascii "UVDR" ++ encodeFlds [(2, 1), (2, 0), (8, gen), (8, s.boot.shelfId.toNat), (4, len), (4, rs.length), (1, slot),
    (1, if s.pair.isB then 1 else 0), (6, 0), (8, (crc64 body).toNat), (8, 0)]
  withCrc head ++ body

/-! ## The text summary (10 R270) -/

/-- A hexadecimal digit, capital. -/
def hexDigit (n : Nat) : Byte := BitVec.ofNat 8 (if n < 10 then 48 + n else 55 + n)

/-- A number in `n` hexadecimal digits. -/
def hexText : Nat → Nat → Bytes
  | 0, _ => []
  | n + 1, v => hexText n (v / 16) ++ [hexDigit (v % 16)]

/-- A number in decimal digits. -/
def decText (n : Nat) : Bytes := ascii (toString n)

/-- A line of the text: a field and its value, ended by LF. -/
def textLine (field : String) (value : Bytes) : Bytes := ascii field ++ ascii ": " ++ value ++ [10]

/-- The text summary of a slot at a generation: the lines of R270's excerpt, with the pointer slots and the magics (10 R270; log entry
128). -/
def summaryText (s : State) (slot gen : Nat) : Bytes :=
  padEnd 65536 (ascii "UAVIK SHELF MEDIA 1" ++ [10] ++ textLine "shelf" (hexText 16 s.boot.shelfId.toNat) ++
    textLine "member-slot" (decText slot) ++ textLine "generation" (decText gen) ++
    textLine "lba-bytes" (ascii "4096  strip-bytes: 65536  segment-rows: 128") ++
    textLine "checkpoint-pointers" (ascii "lba 16, 4 slots of 4 lbas, magic UVCK") ++
    textLine "record-banks" (ascii "lba 4096 and 8192, 4096 lbas each, magic UVDR") ++
    textLine "splice-area" (ascii "lba 16384, 1048576 lbas") ++
    textLine "segments" (ascii "base lba " ++ decText s.log.segBase ++ ascii ", count " ++ decText s.log.segCount) ++
    textLine "geometry" (ascii "18+4+2 and 20+2+2, GF(2^8) poly 0x11D, Cauchy x=i y=p+j") ++
    textLine "escrow" (ascii "record type 6 in both banks of every member") ++
    textLine "kdf" (ascii "HMAC-SHA-256 counter mode, counter and length 32-bit little-endian") ++
    textLine "magics" (ascii "UVSH UVSL UVIX UVMP UVMM UVOR UVTB UVIC UVLC UVLG UVLR UVFL") ++
    textLine "reference" (ascii "Plovaoz UV2460-M manual, \"The Self-Describing Media Format\""))

/-- Writes the text summary of a member (10 R262, R270). -/
def writeText (m : Fin 24) (gen : Nat) (s : State) : State :=
  (issueWrite m .log .descriptor 0 16 (summaryText s m gen) s).2

/-! ## Writing the banks (10 R266) -/

/-- Issues one step of a bank write to every present member (10 R266): the bank of lower generation first, with the text summary (R270),
then the other. -/
def bankWrite (s : State) : State :=
  let slots := descriptorSlots s
  let s1 := { s with mem := { s.mem with bankOut := slots.map Fin.val, bankStep := if slots.isEmpty then 0 else s.mem.bankStep } }
  slots.foldl (fun acc m =>
    let x := memberAt acc m
    let b := decide (x.bankB < x.bankA)
    let acc1 := if s.mem.bankStep = 1 then writeText m s.mem.bankGen acc else acc
    (issueWrite m .log (.bank b) (if b then 8192 else 4096) 4096 (bankBytes s m s.mem.bankGen) acc1).2) s1

/-- Writes the whole descriptor region of a member anew: the text summary, this module's newest pointer slot, both record banks, and zeros in
the LBAs that are RSV or hold no slot yet (10 R262, R269, R270; 08 R231, Table 8.5). -/
def writeRegion (m : Fin 24) (s : State) : State :=
  let put (lba count : Nat) (data : Bytes) (acc : State) : State := (issueWrite m .log .descriptor lba count data acc).2
  let base := if s.pair.isB then 2 else 0
  let slot := if s.mem.ptrSeq = 0 then [] else pointerBytes base (if s.pair.isB then 1 else 0) s.mem.ptrSeq (pointerEntries s)
  let ptrs := padEnd 65536 (zeros (16384 * base) ++ slot)
  let s1 := putMember m { memberAt s m with ptr0 := s.mem.ptrSeq, ptr1 := 0, bankA := s.mem.bankGen, bankB := s.mem.bankGen } s
  let banks := bankBytes s m s.mem.bankGen
  put 12288 4096 [] (put 8192 4096 banks (put 4096 4096 banks (put 32 4064 [] (put 16 16 ptrs
    (writeText m s.mem.bankGen s1)))))

/-- This module writes the banks: A of a pair while it serves, B while A does not (10 R266). -/
def writesBanks (s : State) : Bool := !(s.pair.mode == .paired && s.pair.isB)

/-- The partner is told the content of the banks for a generation that is to be written (18 Table 18.1). -/
def tellBanks (gen : Nat) (s : State) : State := pairState 5 ([(8, gen), (1, 0)] ++ (bankRecords s).flatten) s

/-- The content of the record banks changes: the next generation is written, or follows the one being written; B sends its change to A
(10 R266). Answers the generation that carries the change. -/
def changeBanks (s : State) : Nat × State :=
  let gen := s.mem.bankGen + 1
  if !writesBanks s then (gen, tellBanks gen s)
  else if s.mem.bankStep = 0 then
    (gen, bankWrite (tellBanks gen { s with mem := { s.mem with bankGen := gen, bankStep := 1, bankAgain := false } }))
  else (gen, { s with mem := { s.mem with bankAgain := true } })

/-- A bank write of a member has ended; when every member's has, the step ends (10 R266). -/
def bankDone (slot : Fin 24) (b ok : Bool) (s : State) : State :=
  let x := memberAt s slot
  let s1 := if ok then putMember slot (if b then { x with bankB := s.mem.bankGen } else { x with bankA := s.mem.bankGen }) s else s
  let left := s1.mem.bankOut.filter (fun n => n != (slot : Nat))
  let s2 := { s1 with mem := { s1.mem with bankOut := left } }
  if !left.isEmpty then s2
  else if s2.mem.bankStep = 1 then bankWrite { s2 with mem := { s2.mem with bankStep := 2 } }
  else
    let s3 := pairState 5 [(8, s2.mem.bankGen), (1, 1)] { s2 with mem := { s2.mem with bankStep := 0 } }
    if s3.mem.bankAgain then (changeBanks s3).2 else s3

/-- A change of the banks is complete: one bank of every present member holds its generation, and for an overwrite in place both do (10
R266). -/
def banksHold (s : State) (gen : Nat) (overwrite : Bool) : Bool :=
  (descriptorSlots s).all (fun n =>
    let a := decide (gen ≤ (memberAt s n).bankA)
    let b := decide (gen ≤ (memberAt s n).bankB)
    if overwrite then a && b else a || b)

/-! ## Log checkpoints (07 R196; 10 Table 10.9) -/

/-- The code of a segment state in the order of Table 7.2. -/
def segCode : SegState → Nat
  | .open_ => 1
  | .full => 2
  | .relocating => 3

/-- The partitions of a shard's index with a root (06 R168). -/
def rootFlds (s : State) (shard num : Nat) : Flds :=
  let p := partAt s shard num
  [(8, p.root), (8, p.gen)] ++ cstampFlds p.covered

/-- The namespaces of a shard, by number. -/
def shardNss (s : State) (shard : Nat) : List Nat := sortOn id ((s.block.nss.filter (fun n => n.shard == shard)).map (fun n => n.num))

/-- The segments whose state a checkpoint of a shard gives: those it owns that are not FREE, and those freed since the last one, as state 0
(07 R196; 10 Table 10.9). -/
def ckptSegs (s : State) (shard : Nat) : List (Nat × Nat × Nat) :=
  (s.log.segs.filter (fun g => g.shard == shard)).map (fun g => (g.num, segCode g.state, g.d)) ++
    (shardAt s shard).freed.map (fun n => (n, 0, 0))

/-- Partitions whose roots a checkpoint of a shard gives: 65,536, or none for a custody shard. -/
def ckptParts (shard : Nat) : Nat := if 0xFFF0 ≤ shard then 0 else 65536

/-- Bytes of a checkpoint's body. -/
def ckptSize (s : State) (shard : Nat) : Nat :=
  40 + 32 * ckptParts shard + 40 * (shardNss s shard).length + 8 * (ckptSegs s shard).length

/-- A checkpoint's body (10 Table 10.9). -/
def ckptBody (s : State) (shard : Nat) : Bytes :=
  let x := shardAt s shard
  let maps := shardNss s shard
  let segs := ckptSegs s shard
  encodeFlds [(8, x.ckpts + 1), (8, x.retired), (8, (partAt s shard memberMap).root), (4, ckptParts shard), (4, maps.length), (4, segs.length),
    (4, 0)] ++
  ((List.range (ckptParts shard)).map (fun n => encodeFlds (rootFlds s shard n))).flatten ++
  (maps.map (fun n => encodeFlds ([(2, n), (6, 0)] ++ rootFlds s shard (65536 + n)))).flatten ++
  (segs.map (fun g => encodeFlds [(4, g.1), (1, g.2.1), (1, g.2.2), (1, if s.pair.isB then 1 else 0), (1, 0)])).flatten

/-- An owned shard writes a log checkpoint: its root tables, its segments' states, its retired-through sequence (07 R196; 06 R168). -/
def shardCheckpoint (shard : Nat) (s : State) : State :=
  let st := readPoint s shard
  let x := shardAt s shard
  let w := writeSealed shard (pageData s shard) (.checkpoint shard) "UVLC" 0xFFFF (ckptSize s shard) (ckptBody s shard) st s
  putShard { shardAt w.2 shard with ckptAt := mono s, ckpts := x.ckpts + 1, freed := [], ckptNew := some (w.1, st, x.splice) } w.2

/-! ## Completions that wait -/

/-- What a held completion waits for has come, but for its instant: its durability level, its receipt, its drives, its direct
rows and its bank generation (04 R110; 05 R145; 07 R185, R201; 09 R246; 10 R266). -/
def heldReady (s : State) (h : Held) : Bool :=
  spliceReached s h.shard h.splice h.level && h.also.all (fun x => spliceReached s x.1 x.2 h.level) && h.drives.isEmpty &&
  (match h.batch with
   | none => true
   | some b => !(s.fix.batches.any (fun x => x.tenant == b.1 && x.number == b.2.1))) &&
  h.drains.all (fun x => !s.trn.ctxs.any (fun c => c.num == x.1 && c.gen == x.2)) &&
  h.rows.all (fun r => (rowAt s r.1 r.2).any (fun x => x.state == .onMedia)) &&
  (match h.bank with
   | none => true
   | some g => banksHold s g.1 g.2)

end Machine
end Sys2Proof
end

