-- ==== Sys2Proof/Machine/LanyardOps.lean ====
section
/-!
DEFINITION. Lanyard entries, receipts, checkpoints (09 R239 to R254), which the acts of every chapter append.
-/
namespace Sys2Proof
namespace Machine

/-- The shelf chain (09 R247). -/
def shelfChain : Nat := 4096

/-- The epoch of a chain: 0 for the shelf chain, the tenant's chain epoch otherwise (09 R247). -/
def chainEpoch (s : State) (chain : Nat) : Nat :=
  if chain = shelfChain then 0 else ((tenantAt s chain).map (fun t => t.epoch)).getD ((s.obj.epochs.lookup chain).getD 0)

/-- The entries of one chain in an epoch. -/
def chainEntries (l : Lanyard) (chain epoch : Nat) : List LyEntry :=
  l.entries.filter (fun e => e.chain == chain && e.epoch == epoch)

/-- The last entry of a chain. -/
def chainLast (l : Lanyard) (chain epoch : Nat) : Option LyEntry := (chainEntries l chain epoch).getLast?

/-- The fields of an entry, header and body, padded to a multiple of 8 bytes (09 R248, Table 9.5). -/
def entryFlds (type pos chain epoch : Nat) (k : KStamp) (c : CStamp) (p3 p2 : Digest) (body : Flds) : Flds :=
  let len := roundUp (120 + sizeFlds body) 8
  [(4, 0x594C5655), (2, 1), (2, type), (8, pos), (4, len), (2, chain), (2, epoch)] ++ kstampFlds k ++ cstampFlds c ++
    [(32, p3.toNat), (32, p2.toNat)] ++ body ++ [(len - (120 + sizeFlds body), 0)]

/-- The whole fields of an entry. -/
def entryAll (e : LyEntry) : Flds := entryFlds e.type e.pos e.chain e.epoch e.custody e.commit e.prev3 e.prev2 e.body

/-- The bytes of an entry. -/
def entryBytes (e : LyEntry) : Bytes := encodeFlds (entryAll e)

/-- The next entry of a chain of a lanyard: the next position, and both hashes of the entry before it (09 R247, R249). -/
def nextEntry (l : Lanyard) (chain epoch type : Nat) (k : KStamp) (c : CStamp) (body : Flds) : LyEntry :=
  let last := chainLast l chain epoch
  let pos := (last.map (fun e => e.pos)).getD 0 + 1
  let p3 := (last.map (fun e => e.h3)).getD 0
  let p2 := (last.map (fun e => e.h2)).getD 0
  let bytes := encodeFlds (entryFlds type pos chain epoch k c p3 p2 body)
  { chain := chain, epoch := epoch, pos := pos, type := type, custody := k, commit := c, body := body,
    h3 := Config.sha3 bytes, h2 := Config.sha256 bytes, prev3 := p3, prev2 := p2 }

/-- Writes lanyard fields as a record of the custody shard, at a commit stamp (09 R251; 10 Table 10.9). -/
def lanyardRecord (body : Flds) (st : CStamp) (s : State) : State :=
  if s.log.segCount = 0 then s
  else (writeSealed (custodyShard s) (lanyardData s) .lanyard "UVLG" 0xFFFF (sizeFlds body) (encodeFlds body) st s).2

/-- Appends an entry to a chain of this module's open lanyard (09 R250). Answers the entry, if a lanyard is open. -/
def appendEntry (chain type : Nat) (c : CStamp) (body : Flds) (s : State) : Option LyEntry × State :=
  match s.fix.current with
  | none => (none, s)
  | some l =>
    let e := nextEntry l chain (chainEpoch s chain) type (kstamp s) c body
    let s1 := { s with fix := { s.fix with current := some { l with entries := l.entries ++ [e] } } }
    (some e, lanyardRecord (entryAll e) c s1)

/-- Appends an entry whose position nobody needs. -/
def enter (chain type : Nat) (c : CStamp) (body : Flds) (s : State) : State := (appendEntry chain type c body s).2

/-- The position of an entry, 0 without one. -/
def entryPos (e : Option LyEntry) : Nat := (e.map (fun x => x.pos)).getD 0

/-! ## Receipts (09 R245, R246) -/

/-- The module may sign: its custody key is certified and its lanyard is open (09 R244). -/
def custodyReady (s : State) : Bool := s.fix.certified && s.fix.current.isSome

/-- Receipts in one batch at most (R246). -/
def batchMax : Nat := 65536

/-- The next batch number of a tenant in a lanyard (09 Table 9.2). -/
def nextBatch (l : Lanyard) (tenant : Nat) : Nat :=
  (l.receipts.filter (fun r => r.tenant == tenant)).foldl (fun m r => max m r.batch) 0 + 1

/-- Puts the receipt of an entry into its tenant's open batch (R246); answers tenant and batch number. -/
def addReceipt (kind tenant coll : Nat) (mac : Digest) (body : Flds) (e : LyEntry) (s : State) : (Nat × Nat) × State :=
  match s.fix.current with
  | none => ((tenant, 0), s)
  | some l =>
    let open_ := s.fix.batches.find? (fun b => b.tenant == tenant && !b.closed)
    let b := open_.getD { tenant := tenant, number := nextBatch l tenant, count := 0, first := mono s, closed := false, again := false }
    let b1 := { b with count := b.count + 1, closed := decide (batchMax ≤ b.count + 1) }
    let r : Receipt := { kind := kind, tenant := tenant, coll := coll, chain := e.chain, epoch := e.epoch, pos := e.pos,
                         entry := e.h3, custody := e.custody, commit := e.commit, mac := mac, body := body, leaf := b.count,
                         batch := b.number, signed := false, key := 0 }
    ((tenant, b.number),
     { s with fix := { s.fix with current := some { l with receipts := l.receipts ++ [r] },
                                  batches := putBy (fun x => x.tenant == tenant && x.number == b.number) b1 s.fix.batches } })

/-- The leaf fields of a receipt, bytes 0 to 247 (09 Table 9.2). -/
def receiptLeaf (l : Lanyard) (r : Receipt) : Flds :=
  [(4, 0x43525655), (2, 1), (1, r.kind), (1, 0), (2, r.tenant), (2, r.coll), (4, 0), (32, l.id.toNat), (8, r.pos),
   (32, r.entry.toNat)] ++ kstampFlds r.custody ++ cstampFlds r.commit ++ [(32, r.mac.toNat)] ++ r.body

/-- A hash tree over sparse leaves: node `i` at a height; an absent leaf is zero (09 R246, R254). -/
def hashTree (leaf : Nat → Digest) : Nat → Nat → Digest
  | 0, i => leaf i
  | h + 1, i =>
    Config.sha3 (encodeFlds [(1, 1), (32, (hashTree leaf h (2 * i)).toNat), (32, (hashTree leaf h (2 * i + 1)).toNat)])

/-- The sibling hashes from a leaf upwards. -/
def hashPath (leaf : Nat → Digest) (i : Nat) : Nat → Flds
  | 0 => []
  | h + 1 => hashPath leaf i h ++ [(32, (hashTree leaf h (Nat.xor (i / 2 ^ h) 1)).toNat)]

/-- The leaves of one batch (09 R246). -/
def batchLeaf (l : Lanyard) (tenant number i : Nat) : Digest :=
  match l.receipts.find? (fun r => r.tenant == tenant && r.batch == number && r.leaf == i) with
  | some r => Config.sha3 (encodeFlds ((1, 0) :: receiptLeaf l r))
  | none => 0

/-- The batch statement (09 R246). -/
def batchStatement (l : Lanyard) (key : Digest) (tenant number : Nat) : Bytes :=
  encodeFlds [(32, (hashTree (batchLeaf l tenant number) 16 0).toNat), (32, l.id.toNat), (32, key.toNat), (8, number),
              (2, tenant), (6, 0)]

/-- A whole receipt, 5,499 bytes (09 Table 9.2). -/
def receiptFlds (l : Lanyard) (r : Receipt) : Flds :=
  receiptLeaf l r ++ [(4, r.leaf), (4, 0), (8, r.batch), (32, r.key.toNat)] ++
    hashPath (batchLeaf l r.tenant r.batch) r.leaf 16 ++
    [(4691, Config.sign r.key (ascii "UAVIK-RECEIPT-1" ++ batchStatement l r.key r.tenant r.batch))]

/-- The custody key in force (09 R242). -/
def custodyKeyNow (s : State) : Digest := Config.custodyKey s.fix.epoch

/-- The place that a message leaves for its receipt, filled when the batch is signed (R246). -/
def receiptSlot : Fld := (5499, 0)

/-- Puts a receipt into the place left for it in a message (09 Table 9.2). -/
def fillReceipt (f : Flds) (m : Msg) : Msg := { m with body := m.body.map (fun x => if x = receiptSlot then (5499, leValue (encodeFlds f)) else x) }

/-- The receipts of a batch are signed under the custody key in force, and the completions that carry them have them (R246). -/
def signReceipts (b : Batch) (s : State) : State :=
  match s.fix.current with
  | none => s
  | some l =>
    let mine (r : Receipt) : Bool := r.tenant == b.tenant && r.batch == b.number
    let l1 := { l with receipts := mapIf mine (fun r => { r with signed := true, key := custodyKeyNow s }) l.receipts }
    let fill (h : Held) : Held :=
      match h.batch with
      | some (t, n, i) =>
        if t = b.tenant ∧ n = b.number then
          match l1.receipts.find? (fun r => mine r && r.leaf == i) with
          | some r => { h with msg := fillReceipt (receiptFlds l1 r) h.msg }
          | none => h
        else h
      | none => h
    { s with held := s.held.map fill,
             fix := { s.fix with current := some l1, batches := dropIf (fun x => x.tenant == b.tenant && x.number == b.number) s.fix.batches } }

/-- Every batch is closed and signed, as before a lanyard closes: an act that has committed has its receipt (R558). -/
def signAll (s : State) : State := if custodyReady s then s.fix.batches.foldl (fun acc b => signReceipts b acc) s else s

/-- Receipts formed again: every one of `lost` joins a new batch of its tenant; the lanyard, and the batches (R558). -/
def rebatch (first : Nat) (lost : Receipt → Bool) (l : Lanyard) : Lanyard × List Batch :=
  let before (i : Nat) (t : Nat) : Nat := ((l.receipts.take i).filter (fun r => lost r && r.tenant == t)).length
  let rs := l.receipts.zipIdx.map (fun x =>
    if lost x.1 then
      { x.1 with batch := nextBatch l x.1.tenant + before x.2 x.1.tenant / batchMax, leaf := before x.2 x.1.tenant % batchMax }
    else x.1)
  let new := (l.receipts.zip rs).filterMap (fun x => if lost x.1 then some (x.2.tenant, x.2.batch) else none)
  let mk (k : Nat × Nat) : Batch :=
    { tenant := k.1, number := k.2, count := (new.filter (fun y => y == k)).length, first := first, closed := true, again := true }
  ({ l with receipts := rs }, new.eraseDups.map mk)

/-- The body of a receipt of kind 1 (09 Table 9.3). -/
def sealBody (f3 f2 : Digest) (size parts source : Nat) : Flds :=
  [(32, f3.toNat), (32, f2.toNat), (8, size), (4, parts), (1, source), (19, 0)]

/-- The message of the fixity commitments (09 R239). -/
def fixityMessage (mac salt sha2 sha3 : Digest) (size : Nat) : Bytes :=
  ascii "UAVIK-FIX-1" ++ encodeFlds [(32, mac.toNat), (32, salt.toNat), (32, sha2.toNat), (32, sha3.toNat), (8, size)]

/-- F3 (09 R239). -/
def commitF3 (mac salt sha2 sha3 : Digest) (size : Nat) : Digest := Config.sha3 (fixityMessage mac salt sha2 sha3 size)
/-- F2 (09 R239). -/
def commitF2 (mac salt sha2 sha3 : Digest) (size : Nat) : Digest := Config.sha256 (fixityMessage mac salt sha2 sha3 size)

/-! ## Checkpoints (09 R253, R254) -/

/-- The chains of a lanyard, each with its epoch: those of its entries. -/
def lanyardChains (l : Lanyard) : List (Nat × Nat) := (l.entries.map (fun e => (e.chain, e.epoch))).eraseDups

/-- The chain heads at a cut: chain, epoch, last position, h3, h2; the newest epoch of each chain. -/
def chainHeads (l : Lanyard) : List (Nat × Nat × Nat × Digest × Digest) :=
  let newest := (lanyardChains l).filter (fun c => !(lanyardChains l).any (fun x => x.1 == c.1 && decide (c.2 < x.2)))
  newest.filterMap (fun c => (chainLast l c.1 c.2).map (fun e => (c.1, c.2, e.pos, e.h3, e.h2)))

/-- The leaf of a chain (09 R254). -/
def headLeaf (heads : List (Nat × Nat × Nat × Digest × Digest)) (i : Nat) : Digest :=
  match heads.find? (fun h => h.1 == i) with
  | some (c, ep, pos, h3, h2) =>
    Config.sha3 (encodeFlds [(1, 0), (2, c), (2, ep), (8, pos), (32, h3.toNat), (32, h2.toNat)])
  | none => 0

/-- A checkpoint's first 160 bytes (09 Table 9.6). -/
def checkpointBody (c : Checkpoint) : Flds :=
  [(4, 0x50435655), (2, 1), (2, 0), (8, c.number)] ++ kstampFlds c.custody ++
    [(32, c.lanyard.toNat), (32, c.root.toNat), (32, c.prev.toNat), (32, c.key.toNat)]

/-- A whole checkpoint (09 Table 9.6). -/
def checkpointFlds (c : Checkpoint) : Flds :=
  checkpointBody c ++ [(4691, Config.sign c.key (ascii "UAVIK-CKPT-1" ++ encodeFlds (checkpointBody c)))]

/-- The next checkpoint of a lanyard under a key at a custody stamp. -/
def nextCheckpoint (l : Lanyard) (key : Digest) (k : KStamp) : Checkpoint :=
  let heads := chainHeads l
  { number := l.checkpoints.length + 1, custody := k, lanyard := l.id, root := hashTree (headLeaf heads) 13 0,
    prev := (l.checkpoints.getLast?.map (fun c => Config.sha3 (encodeFlds (checkpointFlds c)))).getD 0, key := key,
    heads := heads }

/-- Signs a checkpoint of this module's lanyard, or defers it while the custody key is uncertified (09 R244, R253). -/
def signCheckpoint (s : State) : State :=
  match s.fix.current with
  | none => s
  | some l =>
    if !s.fix.certified then { s with fix := { s.fix with deferred := true } }
    else
      let c := nextCheckpoint l (custodyKeyNow s) (kstamp s)
      let un := !anchored s && s.time.anchor == .unanchored
      let s1 := { s with fix := { s.fix with current := some { l with checkpoints := l.checkpoints ++ [c] }, deferred := false,
                                             lastCkpt := mono s, ckptUnanchored := un } }
      let s2 := if un then raise stLY 0 noInst s1 else s1
      if s2.pst.drivesDown then { s2 with pst := { s2.pst with heldCkpts := s2.pst.heldCkpts + 1 } }
      else lanyardRecord (checkpointFlds c) noStamp s2

/-! ## Opening and closing a lanyard (09 R247, R252) -/

/-- Opens a new lanyard: its genesis entry names the lanyard closed last, and its id is the h3 of that entry (09 R247, R252). -/
def openLanyard (s : State) : State :=
  let last := s.fix.past.getLast?
  let prevHead := (last.bind (fun l => chainLast l shelfChain 0)).map (fun e => e.h3)
  let body : Flds := [(32, Config.moduleDigest.toNat), (32, (custodyKeyNow s).toNat), (32, ((last.map Lanyard.id).getD 0).toNat),
                      (32, (prevHead.getD 0).toNat)]
  let l0 : Lanyard := { id := 0, isOpen := true, entries := [], receipts := [], checkpoints := [], partners := false, owed := false }
  let e := nextEntry l0 shelfChain 0 0x0001 (kstamp s) noStamp body
  lanyardRecord (entryAll e) noStamp { s with fix := { s.fix with current := some { l0 with id := e.h3, entries := [e] } } }

/-- A lanyard with a Close entry on each of its chains (09 R252). -/
def closeChains (reason : Nat) (key : Digest) (k : KStamp) (l : Lanyard) : Lanyard :=
  (chainHeads l).foldl (fun acc h =>
    { acc with entries := acc.entries ++ [nextEntry acc h.1 h.2.1 0x0003 k noStamp [(1, reason), (7, 0), (32, key.toNat)]] }) l

/-- A checkpoint of a lanyard under this module's key, which ends it (09 R252, R253). -/
def finalCheckpoint (s : State) (l : Lanyard) : Lanyard :=
  { l with checkpoints := l.checkpoints ++ [nextCheckpoint l (custodyKeyNow s) (kstamp s)] }

/-- The partner's lanyard ends under this module's key: every receipt left unsigned is signed in new batches, then the closing checkpoint (09 R252,
R558). -/
def endPartners (s : State) (l : Lanyard) : Lanyard :=
  let l1 := (rebatch (mono s) (fun r => !r.signed) l).1
  finalCheckpoint s { l1 with receipts := l1.receipts.map (fun r => if r.signed then r else { r with signed := true, key := custodyKeyNow s }), owed := false }

/-- What of a partner's lanyard waited for this module's custody key is done (09 R244, R558). -/
def endOwed (s : State) : State :=
  { s with fix := { s.fix with past := s.fix.past.map (fun l => if l.owed then endPartners s l else l) } }

/-! ## The partner's lanyard (09 R250 to R252, R255) -/

/-- Bytes `at_` to `at_ + n` as a number. -/
def numAt (b : Bytes) (at_ n : Nat) : Nat := leValue ((b.drop at_).take n)

/-- A custody stamp read back (03 Table 3.4). -/
def kstampAt (b : Bytes) (at_ : Nat) : KStamp :=
  { sec := numAt b at_ 6, ns := numAt b (at_ + 6) 4, flags := numAt b (at_ + 10) 2, count := numAt b (at_ + 12) 4 }

/-- A commit stamp read back (03 Table 3.6). -/
def cstampAt (b : Bytes) (at_ : Nat) : CStamp :=
  { seq := numAt b at_ 4, time := (numAt b (at_ + 10) 6 * 1000000000 + numAt b (at_ + 6) 4) * nsU + numAt b (at_ + 4) 2 }

/-- An entry read back (09 Table 9.5). -/
def entryOf (b : Bytes) : LyEntry :=
  { type := numAt b 6 2, pos := numAt b 8 8, chain := numAt b 20 2, epoch := numAt b 22 2, custody := kstampAt b 24, commit := cstampAt b 40,
    prev3 := BitVec.ofNat 256 (numAt b 56 32), prev2 := BitVec.ofNat 256 (numAt b 88 32), body := [(b.length - 120, leValue (b.drop 120))],
    h3 := Config.sha3 b, h2 := Config.sha256 b }

/-- A checkpoint read back (09 Table 9.6), its cut at the entries before it. -/
def checkpointOf (l : Lanyard) (b : Bytes) : Checkpoint :=
  { number := numAt b 8 8, custody := kstampAt b 16, lanyard := BitVec.ofNat 256 (numAt b 32 32), root := BitVec.ofNat 256 (numAt b 64 32),
    prev := BitVec.ofNat 256 (numAt b 96 32), key := BitVec.ofNat 256 (numAt b 128 32), heads := chainHeads l }

/-- The receipt that an entry's act carries: kind, tenant, collection, MAC and body, each from the entry (09 Tables 9.3, 9.4, R558). -/
def receiptBody (e : LyEntry) : Option (Nat × Nat × Nat × Digest × Flds) :=
  let b := encodeFlds e.body
  let n := numAt b
  let mac : Digest := BitVec.ofNat 256 (n 8 32)
  if e.type = 0x0010 then
    if n 2 1 = 3 then none
    else some (1, e.chain, n 0 2, mac, sealBody (BitVec.ofNat 256 (n 56 32)) (BitVec.ofNat 256 (n 88 32)) (n 40 8) (n 48 4) (n 2 1))
  else if e.type = 0x0014 then some (2, e.chain, n 0 2, mac, [(8, n 40 8), (1, n 2 1), (23, 0), (32, n 48 32), (32, 0)])
  else if e.type = 0x0015 then some (3, e.chain, n 0 2, mac, [(1, n 2 1), (31, 0), (32, n 40 32), (32, 0)])
  else if e.type = 0x0018 then some (4, 0xFFFF, 0, 0, [(2, n 0 2), (30, 0), (32, n 8 32), (32, 0)])
  else if e.type = 0x0045 then some (5, 0xFFFF, 0, 0, [(32, n 0 32), (64, 0)])
  else none

/-- The receipt of an entry, not signed. -/
def receiptOf (e : LyEntry) : Option Receipt :=
  (receiptBody e).map (fun x =>
    { kind := x.1, tenant := x.2.1, coll := x.2.2.1, chain := e.chain, epoch := e.epoch, pos := e.pos, entry := e.h3, custody := e.custody,
      commit := e.commit, mac := x.2.2.2.1, body := x.2.2.2.2, leaf := 0, batch := 0, signed := false, key := 0 })

/-- An entry or a checkpoint of the partner's lanyard joins what this module holds of it, once; a genesis entry opens the next lanyard, and the one
before it is closed (09 R247, R251, R252). -/
def takeLanyard (b : Bytes) (s : State) : State :=
  let put (l : Lanyard) : State := { s with pair := { s.pair with lanyard := some l } }
  if b.take 4 = ascii "UVCP" then
    match s.pair.lanyard with
    | some l =>
      let c := checkpointOf l b
      if l.checkpoints.any (fun x => x.number == c.number) then s else put { l with checkpoints := l.checkpoints ++ [c] }
    | none => s
  else
    let e := entryOf b
    let old := s.pair.lanyard.any (fun l => l.entries.any (fun x => x.chain == e.chain && x.epoch == e.epoch && x.pos == e.pos && x.h3 == e.h3))
    if old then s
    else if e.type = 0x0001 then
      { s with
        pair := { s.pair with lanyard := some { id := e.h3, isOpen := true, entries := [e], receipts := [], checkpoints := [], partners := true, owed := false } },
        fix := { s.fix with past := s.fix.past ++ s.pair.lanyard.toList.map (fun l => { l with isOpen := false }) } }
    else
      match s.pair.lanyard with
      | some l => put { l with entries := l.entries ++ [e], receipts := l.receipts ++ (receiptOf e).toList }
      | none => s

/-- A log record of the partner's custody shard, as its splice entry carries it, is opened with the lanyard key of that shard (07 Table 7.6; 09 R251;
10 R274). A record over several rows comes in pieces. -/
def takeLyRecord (shard : Nat) (body : Bytes) (s : State) : State :=
  let piece := (body.drop 40).take (numAt body 32 4)
  let b := if piece.take 4 = ascii "UVLG" then piece else s.pair.lyPart ++ piece
  let len := numAt b 8 4
  if numAt body 0 1 ≠ 2 ∨ b.take 4 ≠ ascii "UVLG" then s
  else if b.length < len then { s with pair := { s.pair with lyPart := b } }
  else
    let plain := gcmCipher (shardKey s "lanyard" shard) (numAt b 32 12) ((b.drop 64).take (len - 80))
    takeLanyard plain { s with pair := { s.pair with lyPart := [] } }

/-- Closes this module's lanyard: what receipts are owed are signed, then a Close entry on each chain, and a checkpoint at once where the key is
certified (09 R252, R253, R558). -/
def closeLanyard (reason : Nat) (s0 : State) : State :=
  let s := signAll s0
  match s.fix.current with
  | none => s
  | some l =>
    let s1 := signCheckpoint { s with fix := { s.fix with current := some (closeChains reason (custodyKeyNow s) (kstamp s) l) } }
    match s1.fix.current with
    | none => s1
    | some l1 =>
      raise stLY 2 noInst
        { s1 with fix := { s1.fix with current := none, past := s1.fix.past ++ [{ l1 with isOpen := false }] } }

end Machine
end Sys2Proof
end

