-- ==== Sys2Proof/Machine/Fence.lean ====
section
/-!
DEFINITION. The fence of a failed partner from the drives by NVMe reservations, and what a module says over the tether and
at its end (18 R449, R451).
-/
namespace Sys2Proof
namespace Machine

/-- A member whose drive takes reservation commands: HEALTHY or SUSPECT (R451). -/
def fenceable (s : State) (n : Fin 24) : Bool := (memberAt s n).state == .healthy || (memberAt s n).state == .suspect

/-- The first members of distinct fault groups, at most `k`. -/
def distinctGroups (s : State) : Nat → List Nat → List (Fin 24) → List (Fin 24)
  | 0, _, _ => []
  | _, _, [] => []
  | k + 1, seen, n :: ns =>
    if seen.contains (faultGroup s n) then distinctGroups s (k + 1) seen ns
    else n :: distinctGroups s k (faultGroup s n :: seen) ns

/-- The arbiters: the three lowest-numbered HEALTHY or SUSPECT members in distinct fault groups (R451 step 1). -/
def arbiters (s : State) : List (Fin 24) := distinctGroups s 3 [] (allSlots.filter (fenceable s))

/-- A Reservation command on namespace 1: Acquire, preempt-and-abort, of an arbiter (0) or another member (1); Register (2) (R451). -/
def reservationCmd (n : Fin 24) (k : Nat) (s : State) : State :=
  (issueDrive n (.reservation k) (if k = 2 then 0x0D else 0x11) 0 0 s).2

/-- The module is fenced: it admits nothing and completes nothing; PAIR_STATUS bit 1 (R451 step 2). -/
def enterFenced (s : State) : State :=
  raise stPAIR 1 noInst { s with pair := { s.pair with mode := .fenced, detected := none, leaseHeld := false, deferTo := none } }

/-- The next arbiter in ascending slot order is asked; with none left the fence is decided (R451). -/
def fenceNext (s : State) : State :=
  match (arbiters s).find? (fun (n : Fin 24) => !s.pair.won.contains (n : Nat) && !s.pair.lost.contains (n : Nat)) with
  | some n => reservationCmd n 0 s
  | none => if 2 ≤ s.pair.won.length then s else enterFenced s

/-- The partner's failure is detected; A fences at once, B after PAIR_FENCE_DEFER (R449, R451). -/
def detectFailure (s : State) : State :=
  if s.pair.mode != .paired || s.pair.detected.isSome then s
  else
    let s1 := { s with pair := { s.pair with detected := some (mono s), won := [], lost := [],
                                             deferTo := if s.pair.isB then some (mono s + 2000 * usU) else none } }
    if s.pair.isB then s1 else fenceNext s1

/-- A reservation command ended. An arbiter won counts, and at two of three every other member is preempted; at the first conflict the
module stops; one that does not answer is left (R451). -/
def reservationDone (slot : Fin 24) (k : Nat) (ok timedOut : Bool) (s : State) : State :=
  if k ≠ 0 ∨ s.pair.detected.isNone then s
  else if ok then
    let s1 := { s with pair := { s.pair with won := s.pair.won ++ [(slot : Nat)] } }
    if 2 ≤ s1.pair.won.length then
      (allSlots.filter (fun (n : Fin 24) => fenceable s1 n && !s1.pair.won.contains (n : Nat))).foldl (fun acc n => reservationCmd n 1 acc) s1
    else fenceNext s1
  else
    let s1 := { s with pair := { s.pair with lost := s.pair.lost ++ [(slot : Nat)] } }
    if timedOut then fenceNext s1
    else if 2 ≤ s1.pair.won.length then s1
    else enterFenced s1

/-! ## The tether and the dying message (18 R449) -/

/-- A message to the partner over the tether, on the hops that are up. -/
def overTether (op status : Nat) (body : Flds) (s : State) : State :=
  let s1 := if s.tet.upHop then send (msg (.tether false) .tetherFrame op 0 status body) s else s
  if s1.tet.downHop then send (msg (.tether true) .tetherFrame op 0 status body) s1 else s1

/-- A dying message to the partner, on both paths (R449; 21 R508). -/
def sayDying (s : State) : State :=
  if s.pair.mode == .paired then overTether 5 0 [] (send (msg .pair .dying 0 0 0 []) s) else s

end Machine
end Sys2Proof
end

