-- ==== Sys2Proof/Machine/HoldOps.lean ====
section
/-!
DEFINITION. The hold's cells: admission, use counters, the freeing of cells, quarantine cells of speculative reads (16 R394 to R404).
-/
namespace Sys2Proof
namespace Machine

/-- Cells of the hold, and cells of a frame (R394). -/
def holdCells : Nat := 393216

/-- Cells that a frame occupies. -/
def cellsOf (len : Nat) : Nat := ceilDiv len 256

/-- A use counter (R398). -/
def useAt (l : List Use) (port cls : Nat) : Nat := ((l.find? (fun u => u.port == port && u.cls == cls)).map (fun u => u.cells)).getD 0

/-- Sets a use counter; one at zero is not listed. -/
def setUse (port cls n : Nat) (l : List Use) : List Use :=
  let rest := dropIf (fun u => u.port == port && u.cls == cls) l
  if n = 0 then rest else rest ++ [{ port := port, cls := cls, cells := n }]

/-- The reservations of all inputs and classes (R400). -/
def holdReserved (s : State) : Nat := ((List.range 64).map (fun p => ((List.range 8).map (holdMin s p)).sum)).sum

/-- Free cells of the shared pool: those beyond all reservations, less what inputs use beyond theirs (R398). -/
def sharedFree (s : State) : Nat :=
  holdCells - holdReserved s - (s.hold.inUse.map (fun u => u.cells - holdMin s u.port u.cls)).sum

/-- A class is lossless (R402). -/
def lossless (s : State) (c : Nat) : Bool := (pHoldLossless s).testBit c

/-- The limit of an input in a class, with the headroom of a MAC in a lossless class. -/
def holdCap (s : State) (i c : Nat) : Nat := holdLimit s i c + (if i < 32 && lossless s c then holdHeadroom s i c else 0)

/-- The output that stands for quarantine: speculative reads pass to none (R404). -/
def noOutput : Nat := 64

/-- Why a frame is refused (R398): 0 it is not, 1 its output queue is full, 2 its input is at its cap, 3 the shared pool is short. -/
def holdRefusal (s : State) (i o c n : Nat) : Nat :=
  let u := useAt s.hold.inUse i c
  if o ≠ noOutput ∧ holdOutLimit s o c < useAt s.hold.outUse o c + n then 1
  else if holdCap s i c < u + n then 2
  else if sharedFree s < (u + n - holdMin s i c) - (u - holdMin s i c) then 3
  else 0

/-- Naturals from `a` on that are in neither list, at most `n`, searched in `k` steps. -/
def freeNums (used struck : List Nat) : Nat → Nat → Nat → List Nat
  | 0, _, _ => []
  | _, 0, _ => []
  | k + 1, n + 1, a => if used.contains a || struck.contains a then freeNums used struck k (n + 1) (a + 1) else a :: freeNums used struck k n (a + 1)

/-- Takes the lowest free cells for an owner, and charges input and output (R397, R398, R408). -/
def takeCells (owner : CellOwner) (i o c n : Nat) (s : State) : State :=
  let nums := freeNums (s.hold.cells.map (fun x => x.num)) s.hold.struck (s.hold.cells.length + s.hold.struck.length + n) n 0
  let new := nums.map (fun k => ({ num := k, owner := owner, input := i, output := o, cls := c, orphaned := false } : Cell))
  { s with hold := { s.hold with
      cells := s.hold.cells ++ new, inUse := setUse i c (useAt s.hold.inUse i c + n) s.hold.inUse,
      outUse := if o = noOutput then s.hold.outUse else setUse o c (useAt s.hold.outUse o c + n) s.hold.outUse } }

/-- One cell less in the counters of a cell. -/
def uncharge (s : State) (x : Cell) : State :=
  { s with hold := { s.hold with
      inUse := setUse x.input x.cls (useAt s.hold.inUse x.input x.cls - 1) s.hold.inUse,
      outUse := if x.output = noOutput then s.hold.outUse else setUse x.output x.cls (useAt s.hold.outUse x.output x.cls - 1) s.hold.outUse } }

/-- Frees the cells that a condition selects (R397). -/
def freeCells (p : Cell → Bool) (s : State) : State :=
  let s1 := (s.hold.cells.filter p).foldl uncharge s
  { s1 with hold := { s1.hold with cells := dropIf p s1.hold.cells } }

/-- The fixed figure at which the cells of QUIET tenants are counted (R405). -/
def quietCells (s : State) : Nat :=
  (s.sch.quiets.map (fun q =>
    ((List.range 32).filter (fun n => q.item.macs.getLsbD n)).length * ceilDiv q.item.sizeE.toNat 256 + 24 * q.item.sizeD.toNat / 256 +
      q.item.sizeW.toNat / 256)).sum

/-- A frame carries traffic of a tenant under QUIET. -/
def quietFrame (s : State) (f : HoldFrame) : Bool := f.tenant.any (fun t => s.sch.quiets.any (fun q => q.item.tenant.toNat == t))

/-- Cells in use as R405 counts them. Quarantine cells are not counted before their confirmation, so that a squash leaves no trace (02 R55;
log entry 134). -/
def holdUsed (s : State) : Nat :=
  let quiet := (s.hold.frames.filter (quietFrame s)).map (fun f => f.id)
  (s.hold.cells.filter (fun x => match x.owner with
    | .frame id => !quiet.contains id
    | .quarantine _ => false
    | _ => true)).length + quietCells s

/-- The most cells in use in the window that runs: HOLD_FREE is reported from it (R405, Table 16.4). -/
def notePeak (s : State) : State := setFigure 0x0400000C (max (figure s 0x0400000C) (holdUsed s)) s

/-- The quarantine cells of a tag are confirmed and count, but for those of a tenant under QUIET (R405; 02 R55, R58). -/
def noteConfirmed (id : Nat) (quiet : Bool) (s : State) : State :=
  let n := (s.hold.cells.filter (fun x => x.owner == .quarantine id)).length
  if quiet then s else setFigure 0x0400000C (max (figure s 0x0400000C) (holdUsed s + n)) s

/-- A frame takes its cells. -/
def placeFrame (f : HoldFrame) (s : State) : State :=
  if f.output = noOutput then notePeak (takeCells (.quarantine f.id) f.input f.output f.cls (cellsOf f.length) s)
  else
    let s1 := { s with hold := { s.hold with frames := s.hold.frames ++ [{ f with queued := true }] } }
    notePeak (takeCells (.frame f.id) f.input f.output f.cls (cellsOf f.length) s1)

/-- The status of a refusal: output limit, shared pool, and a drop beyond headroom in a lossless class (Table 16.4). -/
def refusalFlags (f : HoldFrame) (r : Nat) (s : State) : State :=
  let s1 := if r = 1 then raise stHOLD 3 f.output s else if r = 3 then raise stHOLD 5 f.input s else s
  if f.input < 32 && r == 2 && lossless s f.cls then raise stHOLD 2 f.input s1 else s1

/-- Two frames share the queue of one input, output and class. -/
def sameQueue (a b : HoldFrame) : Bool := a.input == b.input && a.output == b.output && a.cls == b.cls

/-- A frame of an internal input: it is placed, or waits behind those of its queue (R401, R403). -/
def admitInternal (f : HoldFrame) (s : State) : State :=
  let r := holdRefusal s f.input f.output f.cls (cellsOf f.length)
  if s.hold.waiting.any (sameQueue f) || r != 0 then refusalFlags f r { s with hold := { s.hold with waiting := s.hold.waiting ++ [f] } }
  else placeFrame f s

/-- A frame of a MAC: it is placed, or dropped and counted (R401). -/
def admitMac (f : HoldFrame) (s : State) : State :=
  let r := holdRefusal s f.input f.output f.cls (cellsOf f.length)
  if r = 0 then placeFrame f s
  else
    let s1 := if quietFrame s f then s else bumpFigure (if r = 1 then 0x04000030 else 0x0400002C) 1 s
    refusalFlags f r s1

/-- Internal frames that waited are tried again, in order within each queue (R401, R403). -/
def retryHold (s : State) : State :=
  let s0 := { s with hold := { s.hold with waiting := [] } }
  s.hold.waiting.foldl (fun acc f =>
    if acc.hold.waiting.any (sameQueue f) || holdRefusal acc f.input f.output f.cls (cellsOf f.length) != 0 then
      { acc with hold := { acc.hold with waiting := acc.hold.waiting ++ [f] } }
    else placeFrame f acc) s0

/-! ## Quarantine (R404; 06 R160, R161) -/

/-- A quarantine tag is open: its walk, or the stream that prefetched, still stands. -/
def quarOpen (s : State) (id : Nat) : Bool :=
  s.idx.walks.any (fun w => w.id == id) || s.block.streams.any (fun x => x.ahead.any (fun a => a.id == id))

/-- The class of a speculative read's cells: that of the session it serves (R396; log entry 12). -/
def quarClass (s : State) (id : Nat) : Nat :=
  let q := ((s.idx.walks.find? (fun w => w.id == id)).map (fun w => w.q)).or
    ((s.block.streams.find? (fun x => x.ahead.any (fun a => a.id == id))).map (fun x => x.ctx))
  ((q.bind (ctxAt s)).map (fun c => pMacVlan12 s c.mac)).getD (pHoldBgClass s)

/-- A speculative read lands in quarantine cells, charged to its drive port; after a squash it is dropped (R404). -/
def landQuarantine (slot id bytes : Nat) (s : State) : State :=
  if quarOpen s id then
    admitInternal { id := id, input := 32 + slot, output := noOutput, cls := quarClass s id, length := bytes, queued := false, tenant := none } s
  else s

/-- Quarantine cells whose tag is not open any more return to the free list (R404). -/
def sweepQuarantine (s : State) : State :=
  let shut (x : Cell) : Bool := match x.owner with
    | .quarantine id => !quarOpen s id
    | _ => false
  if s.hold.cells.any shut then retryHold (freeCells shut s) else s

/-! ## Outputs (R397, R403) -/

/-- The frames queued for an output, or for those that a condition on output and class selects, are read: their cells are freed. -/
def readOut (p : HoldFrame → Bool) (s : State) : State :=
  let ids := (s.hold.frames.filter p).map (fun f => f.id)
  if ids.isEmpty then s
  else
    let mine (x : Cell) : Bool := match x.owner with
      | .frame id => ids.contains id
      | _ => false
    let s1 := { s with hold := { s.hold with frames := dropIf p s.hold.frames } }
    retryHold (freeCells mine s1)

end Machine
end Sys2Proof
end

