-- ==== Sys2Proof/Machine/MemberOps.lean ====
section
/-!
DEFINITION. Reading around a fault, lost stripes, and the states of members (08 R211 to R233), with the endings of drive
commands that lead to them (17 R426 to R431).
-/
namespace Sys2Proof
namespace Machine

/-! ## Lost stripes (08 R227 to R229) -/

/-- The units of a record that lie in a row, counted from the record's first unit: first and one past the last. -/
def unitsInRow (d row : Nat) (r : LogRec) : Nat × Nat :=
  let u := addrUnit r.addr
  (max u (row * rowUnits d) - u, min (u + r.units) ((row + 1) * rowUnits d) - u)

/-- Every strip a record's units use in a row is available (08 R227). -/
def salvageable (s : State) (w : Row) (r : LogRec) : Bool :=
  (extentStrips w.d r.addr r.units).all (fun x => x.2.1 != w.row || (stripMember s w x.2.2).isSome)

/-- Units of a part's extents that stand before one of them. -/
def unitsBefore (addr : Nat) : List (Nat × Nat) → Nat
  | [] => 0
  | (a, u) :: r => if a = addr then 0 else u + unitsBefore addr r

/-- The value bytes of a lost value extent: those of every chunk with a unit in the row, as first and length in the whole
value, parts concatenated (08 R229). -/
def lostBytes (d row : Nat) (r : LogRec) (o : Obj) (part : Nat) : Nat × Nat :=
  let before := ((o.parts.takeWhile (fun p => p.num != part)).map (fun p => p.data.length)).sum
  match o.parts.find? (fun p => p.num == part) with
  | none => (0, 0)
  | some p =>
    let u0 := unitsBefore r.addr p.extents
    let (a, b) := unitsInRow d row r
    let first := min p.data.length ((u0 + a) / chunkUnits * chunkBytes)
    let last := min p.data.length (((u0 + b - 1) / chunkUnits + 1) * chunkBytes)
    (before + first, last - first)

/-- A loss report record, 96 bytes (Table 8.4). -/
def lossFlds (r : LossRec) : Flds :=
  [(4, 0x524C5655), (2, 1), (1, r.kind), (1, 0), (2, r.tenant), (2, r.container), (4, r.seg), (1, r.row), (7, 0),
   (32, r.mac.toNat), (8, r.first), (8, r.length)] ++ kstampFlds r.declared ++ [(8, r.lyPos)]

/-- The LBAs of a namespace whose units lie in a record at a unit that a condition selects; under LBA format 1 an LBA needs its run's PI unit
too (07 R187). -/
def recLbas (n : Ns) (r : LogRec) (p : Nat → Bool) : List LbaData :=
  n.lbas.filter (fun l => !l.lost && decide (r.addr ≤ l.addr) && decide (l.addr < r.addr + r.units) &&
    (p l.addr || (n.format1 && p r.addr)))

/-- A data unit lies in a row, on a strip that is not available. -/
def unitLost (s : State) (w : Row) (addr : Nat) : Bool :=
  let l := locate (addrSeg addr) (addrUnit addr) w.d
  addrSeg addr == w.seg && l.1 == w.row && (stripMember s w l.2.1).isNone

/-- Runs of consecutive LBAs: first and count. -/
def runsOf : List Nat → List (Nat × Nat)
  | [] => []
  | x :: xs =>
    match runsOf xs with
    | (b, n) :: r => if x + 1 = b then (x, n + 1) :: r else (x, 1) :: (b, n) :: r
    | [] => [(x, 1)]

/-- The LBAs that a page of a namespace's map covers: first, and one past the last (07 R187). -/
def pageLbas (p : Partition) (addr : Nat) : Nat × Nat :=
  match p.leaves.find? (fun l => l.addr == addr), p.inner.find? (fun x => x.addr == addr) with
  | some l, _ => (2032 * l.place, 2032 * (l.place + 1))
  | none, some x => (x.place * 2032 ^ (x.level + 1), (x.place + 1) * 2032 ^ (x.level + 1))
  | none, none => (0, 0)

/-- The LBAs that one lost record loses: those of a block record whose units are gone, every mapped one that a map page covered (08 Table
8.3). -/
def lbasLost (s : State) (gone : Nat → Bool) (r : LogRec) : Option (Ns × List LbaData) :=
  match r.kind with
  | .block ns _ _ => (s.block.nss.find? (fun n => n.num == ns)).map (fun n => (n, recLbas n r gone))
  | .mapPage ns => (s.block.nss.find? (fun n => n.num == ns)).map (fun n =>
      let x := pageLbas (partAt s n.shard (65536 + ns)) r.addr
      (n, n.lbas.filter (fun l => !l.lost && decide (x.1 ≤ l.lba) && decide (l.lba < x.2))))
  | _ => none

/-- The report records of one lost record (08 Table 8.3, R229), for a row, of whose units `gone` says which are lost. -/
def lossOf (s : State) (seg row d : Nat) (gone : Nat → Bool) (r : LogRec) : List LossRec :=
  let mk (kind tenant container : Nat) (mac : Digest) (first len : Nat) : LossRec :=
    { kind := kind, tenant := tenant, container := container, seg := seg, row := row, mac := mac, first := first,
      length := len, declared := kstamp s, lyPos := 0 }
  match r.kind with
  | .extent c m part =>
    match objAt s c m, collAt s c with
    | some o, some coll =>
      let x := lostBytes d row r o part
      if leafKind o = 2 then [] else [mk 1 coll.tenant c m x.1 x.2]
    | _, _ => []
  | .object c m => ((collAt s c).map (fun coll => mk 3 coll.tenant c m 0 0)).toList
  | .block _ _ _ | .mapPage _ =>
    match lbasLost s gone r with
    | some (n, ls) => (runsOf (ls.map (fun l => l.lba))).map (fun x => mk 2 n.tenant n.nsid 0 x.1 x.2)
    | none => []
  | _ => []

/-- LBAs become lost at a stamp: their map entries take the lost value (08 R227, Table 8.3). -/
def loseLbas (n : Ns) (ls : List LbaData) (st : CStamp) (s : State) : State :=
  let hit (l : LbaData) : Bool := ls.any (fun x => x.lba == l.lba)
  let upd (x : Ns) : Ns := { x with lbas := mapIf hit (fun l => { l with lost := true }) x.lbas }
  let s1 := { s with block := { s.block with nss := mapIf (fun x => x.num == n.num) upd s.block.nss } }
  (runsOf (ls.map (fun l => l.lba))).foldl (fun acc x => mapMut n.shard n.tenant n.num x.1 x.2 0xFFFF 0 st acc) s1

/-- The state after one lost record, at the declaration's stamp (08 Table 8.3). -/
def loseRecord (gone : Nat → Bool) (st : CStamp) (r : LogRec) (s : State) : State :=
  match r.kind with
  | .extent c m _ | .object c m =>
    match objAt s c m, collAt s c with
    | some o, some k =>
      let o1 := { o with lost := true }
      if leafKind o = 2 && r.kind != .object c m then s else reenterObj k o1 st (putObj o1 s)
    | _, _ => s
  | .block _ _ _ =>
    match lbasLost s gone r with
    | some (n, ls) => killRecs [r.addr] (loseLbas n ls st s)
    | none => s
  | .indexPage sh p => putPart { partAt s sh p with rebuilding := true } s
  | .mapPage ns =>
    match lbasLost s gone r with
    | some (n, ls) =>
      let s1 := loseLbas n ls st s
      let p := partAt s1 n.shard (65536 + ns)
      flushNow n.shard (65536 + ns) (putPart { p with leaves := p.leaves.map (fun l => if l.addr = r.addr then l.dirty l.items else l),
                                                      inner := p.inner.filter (fun x => x.addr != r.addr) } s1)
    | none => s
  | .memberPage sh =>
    let p := partAt s sh memberMap
    flushNow sh memberMap (putPart { p with leaves := p.leaves.map (fun l => if l.addr = r.addr then l.dirty l.items else l),
                                            inner := p.inner.filter (fun x => x.addr != r.addr) } s)
  | .checkpoint sh | .commit sh _ => shardCheckpoint sh s
  | .tombstone _ _ => killRecs [r.addr] s
  | .loss => moveAgain r s
  | .lanyard | .fill => s
where
  /-- A loss report record is written again from the vault copy. -/
  moveAgain (r : LogRec) (s : State) : State :=
    let shard := ((segAt s (addrSeg r.addr)).map (fun g => g.shard)).getD 0
    (moveRecord shard (segD s (addrSeg r.addr)) false r s).2

/-- Report records are filed and written to the log of a shard (R229). -/
def fileLosses (shard : Nat) (filed : List LossRec) (st : CStamp) (s : State) : State :=
  let s1 := { s with mem := { s.mem with losses := s.mem.losses ++ filed } }
  filed.foldl (fun acc r => (writeSealed shard (pageData acc shard) .loss "UVLR" r.tenant 96 (encodeFlds (lossFlds r)) st acc).2) s1

/-- The records lost in a row leave what Table 8.3 says at one commit stamp of the shard, with their report records and Loss entries (R227,
R228). -/
def loseRecords (shard seg row d : Nat) (gone : Nat → Bool) (recs : List LogRec) (s : State) : State :=
  let (st, s1) := sequence shard s
  let reports := (recs.map (lossOf s1 seg row d gone)).flatten
  let tenants := (reports.map (fun r => r.tenant)).eraseDups
  let s2 := recs.foldl (fun acc r => loseRecord gone st r acc) s1
  let entered := tenants.foldl (fun (acc : List (Nat × Nat) × State) t =>
    let e := appendEntry t 0x0017 st [(4, seg), (1, row), (3, 0), (4, (reports.filter (fun r => r.tenant == t)).length), (4, 0)] acc.2
    (acc.1 ++ [(t, entryPos e.1)], e.2)) ([], s2)
  let s3 := if tenants.isEmpty then enter shelfChain 0x0017 st [(4, seg), (1, row), (3, 0), (4, 0), (4, 0)] entered.2 else entered.2
  let filed := reports.map (fun r => { r with lyPos := (entered.1.lookup r.tenant).getD 0 })
  raiseLost ((reports.map (fun r => (r.tenant, r.container))).eraseDups) (fileLosses shard filed st s3)

/-- Block data of a stripe is salvaged per LBA: a block record that is not whole is laid down again, and its readable LBAs map to the copy
(R227). -/
def salvageBlocks (shard d : Nat) (gone : Nat → Bool) (r : LogRec) (s : State) : State :=
  match r.kind, s.block.nss.find? (fun n => (match r.kind with
      | .block ns _ _ => n.num == ns
      | _ => false)) with
  | .block _ _ _, some n =>
    let lost := recLbas n r gone
    let keep := n.lbas.filter (fun l => !l.lost && decide (r.addr ≤ l.addr) && decide (l.addr < r.addr + r.units) && !(lost.any (fun x => x.lba == l.lba)))
    if keep.isEmpty then s
    else
      let (st, s1) := sequence shard s
      let w := writeUnits shard d false 0 r.kind r.stamp 4 r.units r.bytes s1
      match w.1 with
      | (a, _) :: _ =>
        let s2 := spliceRecord shard d [] a r.units r.bytes st w.2
        let dead := r.units - keep.length
        let s3 := { s2 with log := { s2.log with recs := mapIf (fun x => x.addr == a) (fun x => { x with dead := dead }) s2.log.recs } }
        let s4 := mapSeg (addrSeg a) (fun g => { g with stale := g.stale + dead }) s3
        let upd (x : Ns) : Ns := { x with lbas := x.lbas.map (fun l => if keep.any (fun y => y.lba == l.lba) then { l with addr := a + (l.addr - r.addr) } else l) }
        let s5 := { s4 with block := { s4.block with nss := mapIf (fun x => x.num == n.num) upd s4.block.nss } }
        (lbaRuns keep).foldl (fun acc x =>
          mapMut shard n.tenant n.num x.1 x.2.1 (a + (x.2.2 - r.addr)) (x.2.2 - r.addr - (if n.format1 then 1 else 0)) st acc) s5
      | [] => w.2
  | _, _ => s

/-- Declares a stripe lost after salvage (08 R227). -/
def declareLost (seg row : Nat) (s : State) : State :=
  match rowAt s seg row with
  | none => s
  | some w =>
    if w.state == .lost then s
    else
      let shard := ((segAt s seg).map (fun g => g.shard)).getD 0
      let recs := rowRecs s seg row w.d
      let lost (a : Nat) : Bool := unitLost s w a
      let s1 := (moveAll shard w.d false (recs.filter (salvageable s w)) s).2
      let gone := recs.filter (fun r => !salvageable s w r)
      let s2 := gone.foldl (fun acc r => salvageBlocks shard w.d lost r acc) s1
      let s3 := { mapRow seg row (fun x => { x with state := .lost }) s2 with
                  mem := { s2.mem with lostStripes := min 0xFFFFFFFF (s2.mem.lostStripes + 1) } }
      retireRow seg row (loseRecords shard seg row w.d lost gone s3)

/-- The record that holds a range is lost as Table 8.3 sets, and no stripe is declared: every row passes its checks or is repaired, and the
range still fails its own (R557). `want` says what kind of record was read there; its report names the segment and row `at_` of the range's
first unit. -/
def loseRange (want : RecKind → Bool) (seg row role : Nat) (at_ : Nat × Nat) (s : State) : State :=
  match rowAt s seg row with
  | none => s
  | some w =>
    let inStrip (a : Nat) : Bool :=
      let l := locate seg (addrUnit a) w.d
      addrSeg a == seg && l.1 == row && l.2.1 == role
    match (rowRecs s seg row w.d).find? (fun r => want r.kind && (List.range r.units).any (fun i => inStrip (r.addr + i))) with
    | some r => loseRecords (((segAt s seg).map (fun g => g.shard)).getD 0) at_.1 at_.2 w.d inStrip [r] s
    | none => s

/-! ## Reads for held completions (08 R216 to R219) -/

/-- Changes a held completion. -/
def mapHeld (id : Nat) (f : Held → Held) (s : State) : State := { s with held := mapIf (fun h => h.id == id) f s.held }

/-- A held read becomes the answer for a lost range: Unrecovered Read Error with DNR on the block path (04 R112), E_LOST
otherwise; no data leaves (08 R228). -/
def loseHeld (id : Nat) (s : State) : State :=
  let body (m : Msg) : Flds :=
    if m.kind == .nvme then m.body.take 2 else m.body.take 4 ++ [(2, eLost), (2, 0), (4, 0), (4, 0)] ++ cstampFlds noStamp
  let lose (m : Msg) : Msg := { m with status := if m.kind == .nvme then 0x4281 else eLost, body := body m, data := [] }
  mapHeld id (fun h => { h with drives := [], msg := match h.job with
    | some (.verify _ _ _ _ _) => h.msg
    | _ => lose h.msg }) s

/-- Issues one strip read for a held completion. -/
def readAt (id seg row role lba count reissues : Nat) (tried : List Nat) (m : Fin 24) (s : State) : State :=
  let f := ((s.held.find? (fun h => h.id == id)).map (fun h => h.flow)).getD .log
  let r := issueRetry m f (.hostRead id seg row role) 2 lba count reissues tried s
  mapHeld id (fun h => { h with drives := h.drives ++ [((m : Nat), r.1)] }) r.2

/-- Reads `d` other strips of a row in place of one that is unavailable; reissues to members that only timed out, up to
STR_DEGRADED_RETRY times; and declares the stripe lost when fewer than `d` can supply it (08 R217, R219). -/
def readAround (id seg row role : Nat) (reissues : Nat) (tried : List Nat) (s : State) : State :=
  match rowAt s seg row with
  | none => s
  | some w =>
    let lba := rowLba s seg row
    let cand := (survivors s w role).filter (fun j => !tried.contains j)
    let go (js : List Nat) (k : Nat) (tr : List Nat) : State :=
      js.foldl (fun acc j => match stripMember acc w j with
        | some m => readAt id seg row j lba 16 k tr m acc
        | none => acc) s
    if w.d ≤ cand.length then go (cand.take w.d) reissues (role :: tried)
    else if !tried.isEmpty && decide (reissues < pStrDegradedRetry s) then
      go ((role :: tried).filter (fun j => (stripMember s w j).isSome)) (reissues + 1) []
    else loseHeld id (declareLost seg row s)

/-- Reads one strip of a row for a held completion (08 R217): nothing to read while the row's data is still in DRAM. -/
def readStrip (id seg row role : Nat) (s : State) : State :=
  match rowAt s seg row with
  | none => s
  | some w =>
    match w.state with
    | .writing | .void => s
    | .lost => loseHeld id s
    | .onMedia =>
      match stripMember s w role with
      | some m => readAt id seg row role (rowLba s seg row) 16 0 [] m s
      | none => readAround id seg row role 0 [] s

/-- Reads the strips of extents for a held completion. -/
def readExtents (id : Nat) (extents : List (Nat × Nat)) (s : State) : State :=
  let strips := (extents.map (fun x => extentStrips (segD s (addrSeg x.1)) x.1 x.2)).flatten.eraseDups
  strips.foldl (fun acc x => readStrip id x.1 x.2.1 x.2.2 acc) s

/-- The drive commands that still read a row for a held completion. -/
def readsOf (s : State) (id seg row : Nat) : List (Fin 24 × DriveCmd) :=
  (allSlots.map (fun n => ((portAt s n).cmds.filter (fun c => match c.purpose with
    | .hostRead h g r _ => h == id && g == seg && r == row
    | _ => false)).map (fun c => (n, c)))).flatten

/-- The results of commands are not wanted any more (08 R216). -/
def discardCmds (l : List (Fin 24 × DriveCmd)) (s : State) : State :=
  l.foldl (fun acc x =>
    let p := portAt acc x.1
    putPort x.1 { p with cmds := mapIf (fun c => c.tag == x.2.tag) (fun c => { c with purpose := .discard }) p.cmds } acc) s

/-- A strip read of a held completion has come back: the held completion stops waiting for it; where it was hedged, the first
result to arrive is used and the other discarded (08 R216). -/
def readBack (id seg row : Nat) (slot : Fin 24) (c : DriveCmd) (s : State) : State :=
  let s1 := mapHeld id (fun h => { h with drives := h.drives.filter (fun d => d != ((slot : Nat), c.tag)) }) s
  let left := readsOf s1 id seg row
  let drop (l : List (Fin 24 × DriveCmd)) (acc : State) : State :=
    mapHeld id (fun h => { h with drives := h.drives.filter (fun d => !(l.any (fun x => d == ((x.1 : Nat), x.2.tag)))) })
      (discardCmds l acc)
  if c.hedged then drop left s1
  else if !left.isEmpty && left.all (fun x => x.2.hedged) then drop left s1
  else s1

/-! ## Rebuilt and restored strips (08 R220, R232) -/

/-- Issues the write of a rebuilt strip to the first spare position from `pos` on whose member is HEALTHY and free in the row;
without one the row is spare-short (R220 step 4). -/
def writeSpare (seg row role pos : Nat) (s : State) : State :=
  match rowAt s seg row with
  | none => s
  | some w =>
    let usable (i : Nat) : Bool := decide (pos ≤ i) && !(w.subst.any (fun x => x.2 == i)) &&
      memberEligible (memberAt s (homeMember seg row (22 + i)))
    match [0, 1].find? usable with
    | some i =>
      (issueWrite (homeMember seg row (22 + i)) .rebuild (.rebuilt seg row role i) (rowLba s seg row) 16
        (rebuiltStrip s w (survivors s w role) role) (mapRow seg row (fun x => { x with writes := x.writes ++ [role] }) s)).2
    | none => raise stRB 5 noInst (mapRow seg row (fun x => { x with short := true }) s)

/-- A rebuilt strip's write has ended: the substitution is recorded in the member map, or the next position is tried (R220
steps 4 and 5). -/
def spareDone (seg row role pos : Nat) (ok : Bool) (s : State) : State :=
  let s1 := mapRow seg row (fun x => { x with writes := x.writes.filter (fun j => j != role) }) s
  if ok then
    roleMut seg (homeMember seg row role : Nat)
      (mapRow seg row (fun x => { x with missing := x.missing.filter (fun j => j != role),
                                         subst := x.subst.filter (fun y => y.1 != role) ++ [(role, pos)] }) s1)
  else writeSpare seg row role (pos + 1) s1

/-- A restored strip's write has ended: the row uses the member again and its spare position returns to spare; a failed one
leaves the row for later (R232). -/
def restoreDone (slot : Fin 24) (seg row role : Nat) (ok : Bool) (s : State) : State :=
  let s1 := mapRow seg row (fun x => { x with writes := x.writes.filter (fun j => j != role) }) s
  if ok then
    roleMut seg (slot : Nat)
      (mapRow seg row (fun x => { x with missing := x.missing.filter (fun j => j != role), short := false,
                                         subst := x.subst.filter (fun y => y.1 != role) }) s1)
  else { s1 with mem := { s1.mem with skipped := s1.mem.skipped ++ [((slot : Nat), seg, row)] } }

/-! ## Bad strips (08 R218, R225, R236) -/

/-- A stored strip is bad: reads reconstruct it, and its segment is queued for relocation ahead of the stale order (R225, R236). -/
def markBad (seg row role : Nat) (s : State) : State :=
  mapRow seg row (fun x => { x with bad := if x.bad.contains role then x.bad else x.bad ++ [role] })
    { s with log := { s.log with relocQ := if s.log.relocQ.contains seg then s.log.relocQ else s.log.relocQ ++ [seg] } }

/-- A page whose strip is not available is rebuilt from the other strips of its row: IDX_STATUS bit 0 (06 R171). -/
def pageAround (f : DriveFlow) (w : Row) (role : Nat) (s : State) : State :=
  let js := (survivors s w role).take w.d
  if js.length < w.d then s
  else
    js.foldl (fun acc j => match stripMember acc w j with
      | some m => (issueFlow m f (.rowRead w.seg w.row j) 2 (rowLba acc w.seg w.row) 16 acc).2
      | none => acc) (raise stIDX 0 noInst s)

/-- A lanyard record lies in a row that is read without one of its strips: it is rebuilt from parity, IDX_LY_STATUS bit 1 (09 R251). -/
def noteLanyard (w : Row) (s : State) : State :=
  if (rowRecs s w.seg w.row w.d).any (fun r => r.kind == .lanyard) then raise stLY 1 noInst s else s

/-- A strip that rebuild, relocation, scrub or a walk reads could not be read: it is bad, unless only the time ran out, and a row that cannot
be formed again without it is lost (08 R217, R219, R225; 06 R171). -/
def rowReadFailed (f : DriveFlow) (page timedOut : Bool) (seg row role : Nat) (s : State) : State :=
  let s1 := if timedOut then s else markBad seg row role s
  match rowAt s1 seg row with
  | none => s1
  | some w =>
    if unreadable s1 w then declareLost seg row s1
    else if page then pageAround f w role s1
    else noteLanyard w s1

/-! ## Endings of drive commands -/

/-- Dword 10 of the NVMe Sanitize a member gets: Crypto Erase where the drive supports it, else Block Erase, else Overwrite with one pass (04 R118). -/
def sanitizeDword (m : Member) : Nat := if m.cryptoErase then 4 else if m.blockErase then 2 else 3 + 16

/-- The prefetch reads under a number have all arrived (04 R106). -/
def aheadCame (id : Nat) (s : State) : State :=
  let out := allSlots.any (fun n => (portAt s n).cmds.any (fun c => match c.purpose with
    | .walkRead k _ _ _ => k == id
    | _ => false))
  let come (a : Ahead) : Ahead := { a with arrived := some (mono s) }
  if out then s
  else { s with block := { s.block with streams := s.block.streams.map (fun x => { x with ahead := mapIf (fun a => a.id == id) come x.ahead }) } }

/-- What waits for a command of a drive waits for another one, or no more. -/
def swapDrive (slot : Fin 24) (c : DriveCmd) (tag : Option Nat) (s : State) : State :=
  let old := ((slot : Nat), c.tag)
  let next (h : Held) : Held :=
    { h with drives := h.drives.filter (fun d => d != old) ++ (if h.drives.contains old then (tag.map (fun t => ((slot : Nat), t))).toList else []) }
  { s with held := s.held.map next }

/-- The progress of a slot's sanitise, 0 to 255 (04 R118; 19 Table 19.3). -/
def noteSanitise (slot : Fin 24) (v : Nat) (s : State) : State :=
  { s with block := { s.block with shelfSan := s.block.shelfSan.map (fun x => { x with progress := x.progress.set (slot : Nat) v }) } }

/-- The drive's Sanitize Status log page is read (04 R118): Get Log Page, page 0x81, of 128 dwords. -/
def pollSanitise (slot : Fin 24) (c : DriveCmd) (s : State) : State :=
  let r := issueDrive slot .sanPoll 2 (0x81 + 127 * 65536) 0 s
  swapDrive slot c (some r.1) r.2

/-- The sanitise of a member has ended; one that did not pass is owed when the drive is next inserted (04 R118). -/
def sanitiseEnds (slot : Fin 24) (c : DriveCmd) (ok : Bool) (s : State) : State :=
  let s1 := swapDrive slot c none s
  let m := memberAt s1 slot
  if ok then noteSanitise slot 255 s1 else if s1.block.shelfSan.isSome then putMember slot { m with owes := m.owes ++ [2] } s1 else s1

/-- What a Sanitize Status log page says: the sanitise runs on and is polled again, has ended well, or has failed (04 R118). -/
def sanitisePolled (slot : Fin 24) (c : DriveCmd) (checks : ReadChecks) (s : State) : State :=
  match checks with
  | .sanitize sprog sstat =>
    if sstat % 8 = 2 then pollSanitise slot c (noteSanitise slot (sprog / 257) s) else sanitiseEnds slot c (sstat % 8 != 3) s
  | _ => pollSanitise slot c s

/-- Hands an ended command to its owner (07 R186, R200; 08 R217, R220, R232; 10 R266; 07 R209). `timedOut` says the end was a
timeout: only then may the same member be asked again (08 R219); `why` is the strike its ending gives (08 R212). -/
def ownerDone (slot : Fin 24) (c : DriveCmd) (ok timedOut : Bool) (why : Option StrikeKind) (s : State) : State :=
  match c.purpose with
  | .hostRead id seg row role =>
    if ok then readBack id seg row slot c s
    else
      let s1 := mapHeld id (fun h => { h with drives := h.drives.filter (fun d => d != ((slot : Nat), c.tag)) }) s
      if c.hedged then s1
      else
        let s2 := if timedOut then s1 else mapHeld id (fun h => { h with repaired := true }) (markBad seg row role s1)
        readAround id seg row role c.reissues c.tried s2
  | .strip seg row role => stripDone seg row role ok s
  | .rebuilt seg row role pos => spareDone seg row role pos ok s
  | .restored seg row role => restoreDone slot seg row role ok s
  | .bank b => bankDone slot b ok s
  | .ring shard seq => ringDone shard seq slot ok s
  | .rmw seg row =>
    let upd (m : Rmw) : Rmw := { m with writes := m.writes.erase (slot : Nat) }
    { s with log := { s.log with rmws := mapIf (fun m => m.seg == seg && m.row == row) upd s.log.rmws } }
  | .walkRead id seg row role =>
    let s1 := aheadCame id s
    if ok then landQuarantine slot id (c.count * 4096) s1
    else
      let f : SpecFault := (slot, timedOut, why, seg, row, role)
      let add (w : Walk) : Walk := { w with faults := w.faults ++ [f] }
      let more (a : Ahead) : Ahead := { a with faults := a.faults ++ [f] }
      { s1 with idx := { s1.idx with walks := mapIf (fun w => w.id == id) add s1.idx.walks },
                block := { s1.block with streams := s1.block.streams.map (fun x => { x with ahead := mapIf (fun a => a.id == id) more x.ahead }) } }
  | .sanitise => if ok then pollSanitise slot c s else sanitiseEnds slot c false s
  | .sanPoll => if ok then s else sanitiseEnds slot c false s
  | .reservation k => reservationDone slot k ok timedOut s
  | .rowRead seg row role => if ok then s else rowReadFailed c.flow false timedOut seg row role s
  | .pageRead seg row role => if ok then s else rowReadFailed c.flow true timedOut seg row role s
  | .pointer | .descriptor | .deallocate _ | .shutdown | .test | .work | .discard => s

/-! ## Member states (08 R211 to R215) -/

/-- Changes a member's state: event, lanyard entry, member record, and the partner is told (R211, R215; 09 Table 9.4). -/
def setMemberState (slot : Fin 24) (st : MemberState) (s : State) : State :=
  let m := memberAt s slot
  if m.state == st then s
  else
    let n := (s.mem.epochs + 1) % 4294967296
    let s1 := putMember slot { m with state := st, epoch := n, changed := kstamp s } { s with mem := { s.mem with epochs := n } }
    let a := memberCode m.state
    let b := memberCode st
    let s2 := raiseEvent 0xC80 slot [(1, a), (1, b), (14, 0)] s1
    let s3 := enter shelfChain 0x0051 noStamp [(1, (slot : Nat)), (1, a), (1, b), (5, 0)] s2
    let s4 := match st with
      | .suspect => raise stRB 0 slot s3
      | .failed => raise stRB 1 slot s3
      | _ => s3
    (changeBanks (pairState 1 [(1, (slot : Nat)), (1, b)] s4)).2

/-- Ring copies on a member that is no longer eligible are written anew elsewhere; those of a FAILED member are never read
again (R226). -/
def recopy (slot : Fin 24) (failed : Bool) (s : State) : State :=
  let hit (e : SpliceEntry) : Bool := !e.retired && (e.copies.contains (slot : Nat) || e.pending.contains (slot : Nat))
  let es := s.log.splice.filter hit
  let s1 := { s with log := { s.log with splice := mapIf hit (fun e =>
      { e with copies := e.copies.filter (fun m => m != (slot : Nat)),
               pending := if failed then e.pending.filter (fun m => m != (slot : Nat)) else e.pending }) s.log.splice } }
  es.foldl (fun acc e =>
    match acc.log.splice.find? (fun x => x.shard == e.shard && x.seq == e.seq) with
    | some x => ringCopies x acc
    | none => acc) s1

/-- The strips of every row that a failed member held are lost (R217, R220, R233). -/
def loseStrips (slot : Fin 24) (s : State) : State :=
  { s with log := { s.log with rows := s.log.rows.map (fun w =>
      let gone := (List.range (w.d + geomParity w.d)).filter (fun j =>
        !w.missing.contains j &&
        (match w.subst.lookup j with
         | some i => homeMember w.seg w.row (22 + i) == slot
         | none => homeMember w.seg w.row j == slot))
      if w.state == .onMedia then
        { w with missing := w.missing ++ gone, subst := w.subst.filter (fun x => !gone.contains x.1) }
      else w) } }

/-- A tenant sanitise fails when more members have failed than the parity of its namespaces covers (04 R116). -/
def failSanitises (s : State) : State :=
  let dead := (allSlots.filter (fun n => (memberAt s n).state == .failed)).length
  let short (t : Nat) : Bool := s.block.nss.any (fun n => n.tenant == t && decide (geomParity (geomData n.geometry) < dead))
  let hit (x : TenantSanitise) : Bool := !x.done && !x.failed && short x.tenant
  { s with block := { s.block with sanitises := mapIf hit (fun x => { x with failed := true }) s.block.sanitises } }

/-- A member becomes FAILED (R213, R220, R226): its commands end and go to their owners, its strips are lost, its ring copies
are written elsewhere, and an exposed row is reported. -/
def failMember (slot : Fin 24) (s : State) : State :=
  let m := memberAt s slot
  if m.state == .failed || m.state == .absent then s
  else
    let before := s.log.rows.any (exposed s)
    let s1 := setMemberState slot .failed s
    let s2 := putMember slot { memberAt s1 slot with timeouts := 0 } s1
    let p := portAt s2 slot
    let issued := p.cmds.filter (fun c => !c.queued)
    let s3 := putPort slot { p with cmds := [], quar := p.quar ++ issued.map (fun c => (c.tag, mono s2 + 4 * c.timeout)) } s2
    let s4 := recopy slot true (loseStrips slot s3)
    let s5 := failSanitises (p.cmds.foldl (fun acc c => ownerDone slot c false false none acc) s4)
    if !before && s5.log.rows.any (exposed s5) then raise stRB 3 noInst s5 else s5

/-- The strikes of a member within the window (R212). -/
def strikesNow (s : State) (slot : Fin 24) : List (StrikeKind × Nat) :=
  (memberAt s slot).strikes.filter (fun k => decide (mono s ≤ k.2 + pStrStrikeWindow s * secU))

/-- Records a strike at its ingress stamp, and judges the member (R212, R213). -/
def strike (slot : Fin 24) (k : StrikeKind) (s : State) : State :=
  let m := memberAt s slot
  let s1 := putMember slot { m with strikes := strikesNow s slot ++ [(k, mono s)] } s
  let n := (strikesNow s1 slot).length
  match m.state with
  | .healthy =>
    if pStrFailStrikes s ≤ n then failMember slot s1
    else if pStrSuspectStrikes s ≤ n then recopy slot false (setMemberState slot .suspect s1)
    else s1
  | .suspect | .restoring => if pStrFailStrikes s ≤ n then failMember slot s1 else s1
  | .absent | .joining | .failed => s1

/-- One command of a member timed out: a strike, and FAILED at the eighth in a row with no completion between them (R213). -/
def timeoutStrike (slot : Fin 24) (s : State) : State :=
  let s1 := strike slot .timeout s
  let m := memberAt s1 slot
  let s2 := putMember slot { m with timeouts := m.timeouts + 1 } s1
  if 8 ≤ m.timeouts + 1 then failMember slot s2 else s2

/-! ## Row updates by read-modify-write (07 R208, R209) -/

/-- Read-modify-write is permitted: REBUILD-SAFE, not being removed, or BRINGUP is in force (07 R208; 20 R489). -/
def rmwPermitted (s : State) : Bool :=
  s.layers.overlays.any (fun o => (o.cls == 6 && s.layers.removing.isNone) || o.cls == 8)

/-- A row whose every strip is readable: only such a row is updated in place (R208). -/
def fullyReadable (s : State) (r : Row) : Bool := r.state == .onMedia && lostStrips s r == 0 && r.short == false

/-- The row as an update of a strip finds it: under REBUILD-SAFE a bad strip that is written whole goes back to its own row where no spare position
is healthy, and is not what its images are formed from (R208). -/
def rmwRow (s : State) (w : Row) (strip first count : Nat) : Row :=
  let spare := [0, 1].any (fun i => !(w.subst.any (fun x => x.2 == i)) && memberEligible (memberAt s (homeMember w.seg w.row (22 + i))))
  let safe := s.layers.overlays.any (fun o => o.cls == 6)
  if safe && first == 0 && count == 16 && !spare && !w.missing.contains strip then { w with bad := w.bad.filter (fun j => j != strip) } else w

/-- Puts one unit of stored bytes at a log address. -/
def putUnit (addr : Nat) (b : Bytes) (s : State) : State :=
  let hit (r : LogRec) : Bool := r.live && decide (r.addr ≤ addr) && decide (addr < r.addr + r.units)
  let upd (r : LogRec) : LogRec :=
    let whole := r.bytes ++ List.replicate (4096 * r.units - r.bytes.length) 0
    { r with bytes := whole.take (4096 * (addr - r.addr)) ++ b ++ whole.drop (4096 * (addr - r.addr + 1)) }
  { s with log := { s.log with recs := mapIf hit upd s.log.recs } }

/-- Puts stored bytes at consecutive units of data strip `strip` from unit `q` of a row; unit 0 of strip 0, the header, is never
among them (R179). -/
def putUnits (seg row d strip : Nat) : Nat → Nat → Bytes → State → State
  | 0, _, _, s => s
  | n + 1, q, bs, s =>
    let i := 16 * strip + q
    let s1 := if i = 0 then s else putUnit (logAddr seg (row * rowUnits d + i - 1)) (bs.take 4096) s
    putUnits seg row d strip n (q + 1) (bs.drop 4096) s1

/-- The ranges of an update: the changed range of strip j, the header unit of strip 0, and the same ranges of every parity strip (R209 steps
2, 5): member, role, first unit and count. -/
def rmwRanges (s : State) (w : Row) (m : Rmw) : List (Fin 24 × Nat × Nat × Nat) :=
  let at_ (role : Nat) (l : List (Nat × Nat)) : List (Fin 24 × Nat × Nat × Nat) :=
    match stripMember s w role with
    | some n => l.map (fun x => (n, role, x.1, x.2))
    | none => []
  let both := if m.first = 0 then [(0, m.count)] else [(0, 1), (m.first, m.count)]
  (if m.strip = 0 then at_ 0 both else at_ 0 [(0, 1)] ++ at_ m.strip [(m.first, m.count)]) ++
    ((List.range (geomParity w.d)).map (fun i => at_ (w.d + i) both)).flatten

/-- The new image of a range: the strip with the new units in it, its header's check values and its parity formed again (R209 step 3). -/
def rmwImage (s : State) (w : Row) (x : Fin 24 × Nat × Nat × Nat) : Bytes :=
  ((stripImage s w x.2.1).drop (4096 * x.2.2.1)).take (4096 * x.2.2.2)

/-- The fields of an RMW intent (R209 step 4, Table 7.6 kind 7). -/
def rmwFields (s : State) (w : Row) (l : List (Fin 24 × Nat × Nat × Nat)) : Bytes :=
  encodeFlds [(8, 128 * w.seg + w.row), (2, l.length), (6, 0)] ++
  (l.map (fun x => encodeFlds [(1, x.1.val), (1, 0), (8, rowLba s w.seg w.row + x.2.2.1), (2, x.2.2.2), (4, 0)])).flatten ++
  (l.map (rmwImage s w)).flatten

/-- The reads of an update: the whole of strip j, and the ranges it writes elsewhere (R209 step 2). -/
def rmwReads (w : Row) (strip : Nat) (l : List (Fin 24 × Nat × Nat × Nat)) (s : State) : State :=
  let one := (l.filter (fun x => x.2.1 == strip)).take 1
  let rest := l.filter (fun x => x.2.1 != strip)
  let s1 := one.foldl (fun acc x => (issueDrive x.1 (.rowRead w.seg w.row strip) 2 (rowLba acc w.seg w.row) 16 acc).2) s
  rest.foldl (fun acc x => (issueDrive x.1 (.rowRead w.seg w.row x.2.1) 2 (rowLba acc w.seg w.row + x.2.2.1) x.2.2.2 acc).2) s1

/-- Steps 1 to 4 of R209: the row is locked, the strips are read, the new images are formed, and their kind 7 intent enters the splice log. A
row that is not fully readable takes the append path instead (R208). -/
def startRmw (seg row strip first : Nat) (data : Bytes) (s : State) : State :=
  match rowAt s seg row with
  | none => s
  | some w0 =>
    let count := ceilDiv data.length 4096
    let w := rmwRow s w0 strip first count
    if !rmwPermitted s || w.locked || w.d ≤ strip || 16 < first + count || count = 0 then s
    else
      let shard := ((segAt s seg).map (fun g => g.shard)).getD 0
      if !fullyReadable s w then (moveAll shard w.d false (rowRecs s seg row w.d) (putUnits seg row w.d strip count first data s)).2
      else
        let m : Rmw := { seg := seg, row := row, strip := strip, first := first, count := count, shard := shard, intent := 0,
                         writes := [], issued := false }
        let ranges := rmwRanges s w m
        let s1 := putUnits seg row w.d strip count first data (rmwReads w strip ranges (mapRow seg row (fun x => { x with locked := true }) s))
        let size := 16 + 16 * ranges.length + 4096 * (ranges.map (fun x => x.2.2.2)).sum
        let n := splice shard 7 noStamp { noName with seg := seg, row := row, rowEnd := row } size (rmwFields s1 w ranges) s1
        { n.2 with log := { n.2.log with rmws := n.2.log.rmws ++ [{ m with intent := n.1 }] } }

/-- Step 5 of R209: an intent on media and mirrored lets its writes be issued. -/
def issueRmws (s : State) : State :=
  let ready := s.log.rmws.filter (fun m => !m.issued && spliceReached s m.shard m.intent .onMedia)
  ready.foldl (fun acc m =>
    match rowAt acc m.seg m.row with
    | none => acc
    | some w0 =>
      let w := rmwRow acc w0 m.strip m.first m.count
      let ws := rmwRanges acc w m
      let upd (x : Rmw) : Rmw := { x with issued := true, writes := ws.map (fun x => (x.1 : Nat)) }
      let acc1 := { acc with log := { acc.log with rmws := mapIf (fun x => x.seg == m.seg && x.row == m.row) upd acc.log.rmws } }
      ws.foldl (fun a x =>
        (issueWrite x.1 .log (.rmw m.seg m.row) (rowLba a m.seg m.row + x.2.2.1) x.2.2.2 (rmwImage a w x) a).2) acc1) s

/-- A record whose every row is on media. -/
def recOnMedia (s : State) (addr : Nat) : Bool :=
  match s.log.recs.find? (fun r => r.addr == addr) with
  | none => false
  | some r =>
    let d := segD s (addrSeg addr)
    (extentStrips d r.addr r.units).all (fun x => (rowAt s x.1 x.2.1).any (fun w => w.state == .onMedia))

/-- The segment entries of a shard up to a sequence retire: a log checkpoint on media holds what they record (R196, R202; log entry 34). -/
def retireStates (shard n : Nat) (s : State) : State :=
  let hit (e : SpliceEntry) : Bool := e.shard == shard && e.kind == 6 && decide (e.seq ≤ n)
  retireShard shard { s with log := { s.log with splice := mapIf hit (fun e => { e with retired := true }) s.log.splice } }

/-- Log checkpoints that have reached media take their place, and the pointers name them (R196). -/
def promoteCkpts (s : State) : State :=
  s.log.shards.foldl (fun acc x =>
    match x.ckptNew with
    | some (a, st, n) =>
      if recOnMedia acc a then
        retireStates x.num n (writePointers (killRecs [x.ckptAddr] (putShard { x with ckptNew := none, ckpt := st, ckptAddr := a } acc)))
      else acc
    | none => acc) s

/-- What follows from drive writes and acknowledgements that have ended (R196, R209). -/
def settle (s : State) : State := issueRmws (promoteCkpts s)

/-- A read of an unconfirmed run-ahead, or one that a squash left in flight: its faults leave no trace yet (06 R162). -/
def isSpeculative (c : DriveCmd) : Bool :=
  match c.purpose with
  | .walkRead _ _ _ _ => true
  | _ => false

/-- What a timeout counts: the port's figure, DRV_TIMEOUTS, the strike (17 R426 action 3; 08 R213). -/
def countTimeout (slot : Fin 24) (s : State) : State :=
  let p := portAt s slot
  timeoutStrike slot (bumpFigure 0x06000024 1 (putPort slot { p with timeouts := min 0xFFFFFFFF (p.timeouts + 1) } s))

/-- A confirmed timeout of a drive command: the five actions of 17 R426, in order. A member that does not answer its preempt is FAILED (18
R451 step 3). -/
def timeoutCmd (slot : Fin 24) (c : DriveCmd) (s : State) : State :=
  let s1 := quarantineTag slot c s
  let s2 := if isSpeculative c then s1 else countTimeout slot s1
  let s3 := ownerDone slot c false true (some .timeout) s2
  settle (pumpPort slot (if c.purpose == .reservation 1 then failMember slot s3 else s3))

/-- The strip of a row that a read reads. -/
def readsStrip : DrivePurpose → Option (Nat × Nat × Nat)
  | .hostRead _ seg row role | .walkRead _ seg row role | .rowRead seg row role | .pageRead seg row role => some (seg, row, role)
  | _ => none

/-- A stored strip is judged bad: its member is struck, once, by whichever judged it first (08 R218, R236, Table 8.5). -/
def judgeStrip (seg row role : Nat) (k : StrikeKind) (s : State) : State :=
  match (rowAt s seg row).bind (fun w => stripMember s w role) with
  | some m => strike m k (markBad seg row role s)
  | none => s

/-- What kind of record a read of a purpose reads, as far as its owner knows. -/
def wantsRec (s : State) : DrivePurpose → RecKind → Bool
  | .hostRead id _ _ _, k =>
    match (s.held.find? (fun h => h.id == id)).bind (fun h => h.job), k with
    | some (.get c m), .extent c' m' _ => c == c' && m == m'
    | some (.get _ _), _ => false
    | _, .block _ _ _ => true
    | _, .extent _ _ _ => true
    | _, _ => false
  | .pageRead _ _ _, .indexPage _ _ => true
  | .pageRead _ _ _, .mapPage _ => true
  | .pageRead _ _ _, _ => false
  | _, _ => true

/-- The checks of the range that a read serves have been made (08 R218, R557). A trial names the bad strips: each is judged, and what waits
reads around it. Where no trial passes, the rows of the range are read whole and checked alone: one that fails is declared lost, one that a
trial repairs has its bad strips judged, and where none fails the record that holds the range is lost alone. -/
def runChecks (c : DriveCmd) (checks : ReadChecks) (s : State) : State :=
  let again (acc : State) (x : Nat × Nat × Nat) : State :=
    match c.purpose with
    | .hostRead id _ _ _ => readAround id x.1 x.2.1 x.2.2 0 [] (mapHeld id (fun h => { h with repaired := true }) acc)
    | .pageRead _ _ _ => ((rowAt acc x.1 x.2.1).map (fun w => pageAround c.flow w x.2.2 acc)).getD acc
    | _ => acc
  let ended (acc : State) : State :=
    match c.purpose with
    | .hostRead id _ _ _ => loseHeld id acc
    | _ => acc
  match checks, readsStrip c.purpose with
  | .trial bad, some _ => bad.foldl (fun acc x => again (judgeStrip x.1 x.2.1 x.2.2 .check acc) x) s
  | .rows l, some (seg, row, role) =>
    let whole (acc : State) (x : Nat × Nat × RowCheck) : State :=
      match rowAt acc x.1 x.2.1 with
      | none => acc
      | some w => (available acc w).foldl (fun a j => match stripMember a w j with
        | some m => (issueFlow m c.flow .work 2 (rowLba a w.seg w.row) 16 a).2
        | none => a) acc
    let one (acc : State) (x : Nat × Nat × RowCheck) : State :=
      match x.2.2 with
      | .passes => acc
      | .repaired bad => bad.foldl (fun a j => judgeStrip x.1 x.2.1 j .check a) acc
      | .fails => declareLost x.1 x.2.1 acc
    let s1 := l.foldl one (l.foldl whole s)
    let fails (x : Nat × Nat × RowCheck) : Bool := x.2.2 == .fails
    let at_ := ((l.head?).map (fun x => (x.1, x.2.1))).getD (seg, row)
    ended (if l.any fails then s1 else loseRange (wantsRec s c.purpose) seg row role at_ s1)
  | _, _ => s

/-- A completion entry ends a transfer: its last command, or one with an error (17 R426; 08 R212): error statuses strike, the command goes to its owner, and the checks of
what it read follow. The checks of a speculative read wait for its confirmation (06 R162). -/
def endTransfer (slot : Fin 24) (c : DriveCmd) (sct sc : Nat) (checks : ReadChecks) (s : State) : State :=
  let ok := sct == 0 && sc == 0
  let p := portAt s slot
  let quiet := isSpeculative c || c.purpose == .discard || c.purpose == .work
  let why : Option StrikeKind := if ok then (if isSpeculative c && checks != .whole then some .check else none)
    else if c.write then some .write else if sct == 2 then some .media else none
  let s1 := putPort slot { p with cmds := dropIf (fun d => d.tag == c.tag) p.cmds } s
  let s2 := if isSpeculative c then s1 else putMember slot { memberAt s1 slot with timeouts := 0 } s1
  let s3 := match why with
    | some k => if quiet then s2 else strike slot k s2
    | none => s2
  let s4 := ownerDone slot c (ok && !(isSpeculative c && checks != .whole)) false why s3
  let s5 := if ok && c.purpose == .sanPoll then sanitisePolled slot c checks s4 else s4
  settle (pumpPort slot (if ok && !isSpeculative c then runChecks c checks s5 else s5))

/-- A completion entry of an outstanding command: its transfer goes on with its next command, or ends (17 R421, R426). -/
def completeCmd (slot : Fin 24) (c : DriveCmd) (sct sc : Nat) (checks : ReadChecks) (s : State) : State :=
  if sct = 0 ∧ sc = 0 ∧ 0 < c.more then nextPiece slot c s else endTransfer slot c sct sc checks s

end Machine
end Sys2Proof
end

