-- ==== Sys2Proof/Machine/LayerOps.lean ====
section
/-!
DEFINITION. Overlays in force: their Configuration entries and their removal (20 R477, R488, R489).
-/
namespace Sys2Proof
namespace Machine

/-- An accepted application or removal: its Configuration entry, class 0 for a base image, and its event (R488; 09 Table 9.4;
23 Table 23.1). -/
def configEntry (cls action : Nat) (digest : Digest) (s : State) : State :=
  raiseEvent (if cls = 0 then 0xF81 else 0xF80) noInst [(16, 0)]
    (enter shelfChain 0x0044 noStamp [(1, cls), (1, action), (6, 0), (32, digest.toNat)] s)

/-- The overlay of a class in force; for QUIET that of a tenant (R486). -/
def overlayIn (s : State) (cls tenant : Nat) : Option OvlInForce :=
  s.layers.overlays.find? (fun o => o.cls == cls && (cls != 7 || o.tenant == tenant))

/-- A class is in force. -/
def classIn (s : State) (cls : Nat) : Bool := s.layers.overlays.any (fun o => o.cls == cls)

/-- An overlay leaves force: every bit it set takes the next source of R476 (R476). -/
def liftOverlay (o : OvlInForce) (s : State) : State :=
  let same (x : OvlInForce) : Bool := x.cls == o.cls && (o.cls != 7 || x.tenant == o.tenant)
  let s1 := { s with layers := { s.layers with overlays := dropIf same s.layers.overlays } }
  if o.cls == 7 then { s1 with sch := { s1.sch with quiets := dropIf (fun q => q.item.tenant.toNat == o.tenant) s1.sch.quiets } }
  else s1

/-- An overlay leaves force on the module that accepted its removal, which appends the entry (R488). -/
def dropOverlay (o : OvlInForce) (s : State) : State := configEntry o.cls 2 o.digest (liftOverlay o s)

/-- A REBUILD-SAFE removal that waits takes effect once every row update has retired its intent (R489). -/
def finishRemoval (s : State) : State :=
  match s.layers.removing, overlayIn s 6 0 with
  | some _, some o =>
    if s.log.rmws.isEmpty then
      let s1 := dropOverlay o s
      { s1 with layers := { s1.layers with removing := none } }
    else s
  | _, _ => s

/-- REBUILD-SAFE is to leave force: at once, or when the updates begun have retired (R489). -/
def removeRebuildSafe (s : State) : State :=
  match overlayIn s 6 0 with
  | none => s
  | some o => finishRemoval { s with layers := { s.layers with removing := some o.digest } }

end Machine
end Sys2Proof
end

