-- ==== Sys2Proof/Machine/DrivePower.lean ====
section
/-!
DEFINITION. The drives under a DORMANT schedule: checkpoints written before they go down, powering them up, and what a command does
that needs them while they are down (07 R196; 20 R483; 22 R519 to R521).
-/
namespace Sys2Proof
namespace Machine

/-- The DORMANT item in force (20 Table 20.3). -/
def dormantItem (s : State) : Option DormantItem :=
  (overlayIn s 5 0xFFFF).bind (fun o => o.items.findSome? (fun i => match i with
    | .dormant d => some d
    | _ => none))

/-- Wake on demand: a command that needs a powered-down drive powers it (20 R483). -/
def wakeOnDemand (s : State) : Bool := (dormantItem s).any (fun d => d.flags.toNat.testBit 0)

/-- The checkpoints held in the vault are written to the log (R521). -/
def writeHeldCkpts (s : State) : State :=
  let cs := (s.fix.current.elim [] (fun l => l.checkpoints)).reverse.take s.pst.heldCkpts
  cs.reverse.foldl (fun acc c => lanyardRecord (checkpointFlds c) noStamp acc) { s with pst := { s.pst with heldCkpts := 0 } }

/-- Drive commands resume once every member has passed discovery or failed; checkpoints held go to the log (R520, R521). -/
def drivesBack (s : State) : State := if s.pst.poweringUp.isEmpty then pumpDrives (writeHeldCkpts s) else s

/-- A member has passed discovery or failed during a power-up (R520). -/
def slotBack (slot : Fin 24) (s : State) : State :=
  if s.pst.poweringUp.contains (slot : Nat) then
    drivesBack { s with pst := { s.pst with poweringUp := s.pst.poweringUp.filter (fun n => n != (slot : Nat)) } }
  else s

/-- Powers the drives up: the slots of members are enabled, and start in stagger (R520). The checkpoint interval of every shard counts again
(R521). -/
def powerDrives (s : State) : State :=
  if !s.pst.drivesDown then s
  else
    let slots := allSlots.filter (fun n => (memberAt s n).ours && (memberAt s n).state != .failed && (feedAt s (.slot n)).present &&
      (feedAt s (.slot n)).state != .latched)
    let s1 := { s with pst := { s.pst with drivesDown := false, mateDown := false, poweringUp := slots.map Fin.val },
                       log := { s.log with shards := s.log.shards.map (fun x => { x with ckptAt := mono s }) } }
    drivesBack (slots.foldl (fun acc n => enableSlot n acc) s1)

/-- A drive command has been issued between two states. -/
def drivesAsked (before after : State) : Bool :=
  allSlots.any (fun n => decide ((portAt before n).cmds.length < (portAt after n).cmds.length))

/-- A command of a principal: one that needs a drive counts as its last need (20 R483). While the drives are powered down such a command
powers them and waits, or, without wake on demand, is answered instead and changes nothing. -/
def needsDrives (answer act : State → State) (s : State) : State :=
  let s1 := act s
  if !drivesAsked s s1 then s1
  else if !s.pst.drivesDown then { s1 with pst := { s1.pst with lastDrive := mono s } }
  else if wakeOnDemand s then powerDrives { s1 with pst := { s1.pst with lastDrive := mono s } }
  else answer s

end Machine
end Sys2Proof
end

