-- ==== Sys2Proof/Machine/TetherOps.lean ====
section
/-!
DEFINITION. The frames of the tether chain and its reeving: what a module does with an address, and how it starts (18 R458, R459).
-/
namespace Sys2Proof
namespace Machine

/-- The module is the head: no cable at its up port (R459). -/
def isHead (s : State) : Bool := !s.tet.upCable

/-- A tether frame leaves on one port, if its hop is up: kind, destination, body (Table 18.4). -/
def hopBytes (down : Bool) (kind dest : Nat) (body : Flds) (data : Bytes) (s : State) : State :=
  if (if down then s.tet.downHop else s.tet.upHop) then send { msg (.tether down) .tetherFrame kind dest 0 body with data := data } s else s

/-- A tether frame whose body is fields only. -/
def hopSend (down : Bool) (kind dest : Nat) (body : Flds) (s : State) : State := hopBytes down kind dest body [] s

/-- A frame that this module originates takes the next sequence and leaves on both ports with 15 hops left (Table 18.4). -/
def floodBytes (kind dest : Nat) (body : Flds) (data : Bytes) (s : State) : State :=
  let s1 := { s with tet := { s.tet with sent := s.tet.sent + 1 } }
  let f : Flds := (1, s.tet.addr) :: (1, 15) :: (8, s.tet.sent + 1) :: body
  hopBytes true kind dest f data (hopBytes false kind dest f data s1)

/-- Such a frame whose body is fields only. -/
def flood (kind dest : Nat) (body : Flds) (s : State) : State := floodBytes kind dest body [] s

/-! ## Sessions over the tether (R458; 19 Table 19.1) -/

/-- A session runs over the tether: in place of a MAC its packets name 32 and the chain address of their source (log entry 142). -/
def onTether (mac : Nat) : Bool := decide (32 ≤ mac) && decide (mac < 48)

/-- The packets of a message leave in MAILBOX frames, one in each (R458). -/
def mailboxFrames (mac : Nat) (m : Msg) (s : State) : State := m.wire.foldl (fun acc p => floodBytes 4 (mac - 32) [] p.2 acc) s

/-! ## Reeving (R459) -/

/-- Passes the next address on, or at the end of the chain returns the total to the head (R459). -/
def reeveOn (s : State) : State :=
  if s.tet.downCable then hopSend true 1 0xFF [(1, s.tet.addr + 1)] s
  else if isHead s then { s with tet := { s.tet with done := true, total := s.tet.addr + 1 } }
  else hopSend false 2 0 [(1, s.tet.addr + 1)] s

/-- The module takes an address: reeving has run, TET_STATUS bit 2 (R459). -/
def takeAddress (addr : Nat) (s : State) : State :=
  raise stTET 2 noInst { s with tet := { s.tet with addr := addr, valid := true, done := false, waiting := false } }

/-- The head reeves the chain: it takes address 0 and sends 1 downstream (R459). -/
def startReeving (s : State) : State := reeveOn (takeAddress 0 s)

/-- P8 begins: the head reeves the chain; a module with an upstream cable keeps its stored address and waits until its neighbour is heard
(R459; 01 R28; 24 Table 24.1). -/
def beginReeving (s : State) : State :=
  if isHead s then startReeving s else { s with tet := { s.tet with waiting := true } }

end Machine
end Sys2Proof
end

