-- ==== Sys2Proof/Machine/SchedOps.lean ====
section
/-!
DEFINITION. Token buckets, policers, shapers and the egress schedulers (15 R372 to R384).
-/
namespace Sys2Proof
namespace Machine

/-- The colours of the markers (R375). -/
inductive Colour where
  | green | yellow | red
deriving DecidableEq, Repr

/-- The traffic class of the frames of a session: that of untagged frames on its MAC (14 R361; log entry 12). -/
def classOf (s : State) (mac : Nat) : Nat := pMacVlan12 s mac

/-- The pre-colour of a traffic class (SCH_PRECOLOUR). -/
def preColour (s : State) (cls : Nat) : Colour :=
  match bitsOf (pSchPrecolour s) (2 * cls) 2 with
  | 0 => .green
  | 1 => .yellow
  | _ => .red

/-- The single-rate marker of RFC 2697 on a command of cost `b` in bucket units, entering with a colour (R375). -/
def srTcm (x : Buckets) (b : Nat) (pre : Colour) : Colour × Buckets :=
  if pre = .green ∧ b ≤ x.c then (.green, { x with c := x.c - b })
  else if pre ≠ .red ∧ b ≤ x.e then (.yellow, { x with e := x.e - b })
  else (.red, x)

/-- The two-rate marker of RFC 2698; E holds the P bucket (R375). -/
def trTcm (x : Buckets) (b : Nat) (pre : Colour) : Colour × Buckets :=
  if pre = .red ∨ x.e < b then (.red, x)
  else if pre = .yellow ∨ x.c < b then (.yellow, { x with e := x.e - b })
  else (.green, { x with c := x.c - b, e := x.e - b })

/-- Meters a command of a tenant after the refills due (R373, R375, R376). -/
def meterTenant (n cost cls : Nat) (s : State) : Colour × State :=
  let s1 := refill s
  let q := schedOf s1 n
  let pre := if q.policer.getLsbD 2 then preColour s1 cls else .green
  let x := bucketsAt s1 n
  match q.policer.toNat % 4 with
  | 0 => (.green, s1)
  | 1 => ((srTcm x (cost * byteU) pre).1, putBuckets (srTcm x (cost * byteU) pre).2 s1)
  | _ => ((trTcm x (cost * byteU) pre).1, putBuckets (trTcm x (cost * byteU) pre).2 s1)

/-- Meters a command of the shelf flow (R372): SCH_SHELF_CIR and SCH_SHELF_CBS, with no excess burst. -/
def meterShelf (cost : Nat) (s : State) : Colour × State :=
  let s1 := refill s
  if cost * byteU ≤ s1.sch.shelfC then (.green, { s1 with sch := { s1.sch with shelfC := s1.sch.shelfC - cost * byteU } })
  else (.red, s1)

/-- Charges the drive shaper of a tenant (R378); a rate of 0 is never charged. -/
def chargeDrive (n bytes : Nat) (s : State) : State :=
  if (schedOf s n).driveRate = 0 then s
  else
    let x := bucketsAt s n
    putBuckets { x with drive := x.drive - (bytes * byteU : Nat) } s

/-- A mutation's charge at its commit stamp: its units × 4,096 × (d + p) / d, rounded up, plus SCH_CMD_COST (R378). -/
def chargeMutation (n units d : Nat) (s : State) : State :=
  chargeDrive n (ceilDiv (units * 4096 * (d + geomParity d)) d + pSchCmdCost s) s

/-! ## Addresses of a MAC (14 R362) -/

/-- A 128-bit field of four words. -/
def wide128 (s : State) (addr : Nat) : Nat :=
  ((List.range 4).map (fun k => bitsOf (layered s (addr + 4 * k) 0) 0 32 * 2 ^ (32 * k))).sum

/-- The addresses of a MAC, by IP version. -/
def ownAddress (s : State) (n : Nat) (v6 : Bool) : Nat := if v6 then wide128 s (0x02001030 + 256 * n) else pMacIpv4 s n

/-- The next hop of traffic the module originates: the destination within the MAC's prefix, else the gateway (14 R362). -/
def hopOf (s : State) (n : Nat) (v6 : Bool) (dest : Nat) : Nat :=
  let shift := if v6 then 128 - pMacIpv6Prefix s n else 32 - pMacIpv4Prefix s n
  if dest / 2 ^ shift = ownAddress s n v6 / 2 ^ shift then dest
  else if v6 then wide128 s (0x02001050 + 256 * n) else pMacIpv4Gw s n

/-! ## The egress schedulers (R380, R384) -/

/-- A MAC that has been configured. -/
def macAt (s : State) (m : Nat) : Option Mac := s.net.macs.find? (fun x => x.num == m)

/-- Writes a MAC. -/
def putMac (m : Mac) (s : State) : State := { s with net := { s.net with macs := putBy (fun x => x.num == m.num) m s.net.macs } }

/-- The egress scheduler of a MAC. -/
def egressAt (s : State) (m : Nat) : Egress :=
  (s.sch.egress.find? (fun x => x.mac == m)).getD { mac := m, v := 0, flows := [], control := [], acks := [], quiet := [], fair := [] }

/-- Writes an egress scheduler. -/
def putEgress (e : Egress) (s : State) : State := { s with sch := { s.sch with egress := putBy (fun x => x.mac == e.mac) e s.sch.egress } }

/-- The sum of the backlogged weights of an egress scheduler, the hitch flow apart (R384). -/
def backlogWeight (s : State) (e : Egress) : Nat :=
  (((e.fair.map (fun i => i.flow)).eraseDups).map (fun f => match f with
    | .tenant n => (schedOf s n).weight.toNat
    | .shelf => 100
    | _ => 0)).sum

/-- The weight of a flow in an egress scheduler (R384). -/
def egressWeight (s : State) (e : Egress) : FlowId → Nat
  | .tenant n => max 1 (schedOf s n).weight.toNat
  | .hitch => max 1 (pStrRelocShare s * backlogWeight s e / 100)
  | _ => 100

/-- A class is paused on a MAC: link-level PAUSE or its priority, from the reaction instant on (14 R364). -/
def classPaused (t : Nat) (m : Mac) (cls : Nat) : Bool :=
  m.pauses.any (fun p => (p.prio == 8 || p.prio == cls) && p.until_.isSome && decide (p.from_ ≤ t))

/-- The module's own MAC Control frames are never held (14 R364). -/
def isMacControl (i : SchItem) : Bool := i.data.kind == .frame && i.data.op == 0x8808

/-- A frame that no pause of its class holds now. -/
def mayBegin (t : Nat) (m : Mac) (i : SchItem) : Bool := isMacControl i || !classPaused t m i.cls

/-- A flow may send: the egress shaper of its tenant is at zero or above (R378). -/
def egressEligible (s : State) : FlowId → Bool
  | .tenant n => (schedOf s n).egressRate == 0 || decide (0 ≤ (bucketsAt s n).egress)
  | _ => true

/-- The rate of a MAC in MB/s under its port's mode (14 Table 14.1), or of the tether's lane at 25.78125 Gb/s (18 R457). -/
def macRate (s : State) (mac : Nat) : Nat := if onTether mac then 3222 else 100000 / 2 ^ (pMacPortMode s (mac / 8) % 4)

/-- The congestion bucket of a context as it stands after the last refill (R373, R379). -/
def ccNow (s : State) (c : Ctx) : Int := refillInt c.cc c.rate 64 (refillsNow s - c.ccAt)

/-- The context a frame belongs to. -/
def itemCtx (s : State) (i : SchItem) : Option Ctx :=
  match i.data.port with
  | .ctx n => ctxAt s n
  | _ => none

/-- A frame of a session is eligible while the session's congestion bucket is at zero or above (R379). -/
def ccEligible (s : State) (i : SchItem) : Bool := (itemCtx s i).all (fun c => decide (0 ≤ ccNow s c))

/-- A frame that leaves is charged to its session's congestion bucket (R379). -/
def chargeCc (i : SchItem) (s : State) : State :=
  match itemCtx s i with
  | none => s
  | some c => putCtx { c with cc := ccNow s c - (i.cost * byteU : Nat), ccAt := refillsNow s } s

/-- The head of each flow: its earliest frame of a class that is not paused (R384), of a session that may send
(R379). -/
def egressHeads (s : State) (m : Mac) : List FlowId → List SchItem → List SchItem
  | _, [] => []
  | seen, i :: is =>
    if seen.contains i.flow || classPaused (mono s) m i.cls || !egressEligible s i.flow || !ccEligible s i then egressHeads s m seen is
    else i :: egressHeads s m (i.flow :: seen) is

/-- Raises a 64-bit counter (14 R368). -/
def bumpWide (addr n : Nat) (s : State) : State := setFigure addr (min (2 ^ 64 - 1) (figure s addr + n)) s

/-- The 802.1Q tag of the frames a MAC sends: its VLAN identifier, and their traffic class as the PCP (14 R361). -/
def vlanTag (s : State) (n cls : Nat) : Option (Nat × Nat) := if pMacCtrl6 s n == 1 then some (pMacVlan0 s n, cls % 8) else none

/-- A Delay_Req of PTP, whose egress stamp is kept (03 R68; 14 R367). -/
def isDelayReq (i : SchItem) : Bool := i.data.kind == .frame && i.data.tag == 1

/-- Starts a frame on a MAC, counted as sent (14 R368). -/
def startFrame (m : Mac) (i : SchItem) (s : State) : State :=
  let a := 0x020010E8 + 256 * m.num
  let s1 := if isDelayReq i then { s with time := { s.time with delayReq := some (now s) } } else s
  send { i.data with vlan := vlanTag s m.num i.cls }
    (putMac { m with sending := some (i.cls, now s) } (bumpWide (a + 8) (max 64 i.cost) (bumpWide a 1 s1)))

/-- A pause holds a frame that waits for the MAC: its watchdog starts at the first one (14 R365). -/
def noteHeld (m : Mac) (e : Egress) (s : State) : Mac :=
  let waits (p : Pause) : Bool := (e.control ++ e.acks ++ e.quiet ++ e.fair).any (fun i => !isMacControl i && (p.prio == 8 || p.prio == i.cls))
  { m with pauses := mapIf (fun p => p.until_.isSome && decide (p.from_ ≤ mono s) && p.heldAt.isNone && waits p) (fun p => { p with heldAt := some (mono s) }) m.pauses }

/-- Serves the next frame of an idle MAC whose link is up, in the order of R384. -/
def pumpIdle (n : Nat) (s : State) : State :=
  match macAt s n with
  | none => s
  | some m =>
    if m.sending.isSome || !m.linkUp then s
    else
      let e := egressAt s n
      let first (l : List SchItem) : Option SchItem := l.find? (mayBegin (mono s) m)
      match first e.control, first e.acks, first e.quiet with
      | some i, _, _ => startFrame m i (putEgress { e with control := e.control.erase i } s)
      | none, some i, _ => startFrame m i (putEgress { e with acks := e.acks.erase i } s)
      | none, none, some i => startFrame m i (putEgress { e with quiet := e.quiet.erase i } s)
      | none, none, none =>
        let head (i : SchItem) : FlowHead SchItem := { path := [(i.flow, egressWeight s e i.flow)], cost := i.cost, item := i }
        let heads := (egressHeads s m [] e.fair).map head
        let flows := wakeHeads e.v heads e.flows
        match fairPick flows 1 0 heads with
        | none => putEgress { e with flows := flows } s
        | some h =>
          let i := h.item
          let r := fairServe e.v h.cost h.path flows
          let e1 := { e with v := r.1, fair := e.fair.erase i, flows := r.2 }
          let s1 := match i.flow with
            | .tenant k =>
              if (schedOf s k).egressRate = 0 then s
              else putBuckets { bucketsAt s k with egress := (bucketsAt s k).egress - (i.cost * byteU : Nat) } s
            | _ => s
          startFrame m i (chargeCc i (putEgress e1 s1))

/-- A waiting frame without what MAC_FRAME_MAX forbids: a Bryndle packet takes 70 bytes of headers beside its own, and a RoCE v2 packet
160 beside its payload; what is too long is dropped (14 R360). -/
def fitItem (s : State) (n : Nat) (i : SchItem) : Option SchItem :=
  let big := pMacFrameMax s n
  let wire := i.data.wire.filter (fun x => decide (x.2.length + 70 ≤ big))
  let roce := (itemCtx s i).any (fun c => match c.kind with
    | .qp _ _ => decide (big < min c.payload i.data.data.length + 160)
    | .bryndle _ => false)
  if roce || (!i.data.wire.isEmpty && wire.isEmpty) then none else some { i with data := { i.data with wire := wire } }

/-- Serves a MAC; where it is idle, frames grown too long are dropped, and what a pause holds is noted first. -/
def pumpMac (n : Nat) (s : State) : State :=
  match macAt s n with
  | none => s
  | some m =>
    if m.sending.isSome || !m.linkUp then s
    else
      let e := egressAt s n
      let e1 := { e with acks := e.acks.filterMap (fitItem s n), fair := e.fair.filterMap (fitItem s n) }
      pumpIdle n (putEgress e1 (putMac (noteHeld m e1 s) s))

/-- The four orders of R384. -/
inductive EgOrder where
  | control | ack | quiet | fair
deriving DecidableEq, Repr

/-- The QUIET schedule whose frames a flow's frames become (R389), with the MAC they leave by: their own, or the lowest named one. -/
def quietPath (s : State) (n : Nat) (f : FlowId) : Option (Quiet × Nat) :=
  match f with
  | .tenant t => (quietOf s t).map (fun q =>
      (q, if q.item.macs.getLsbD n then n else ((List.range 32).find? (fun k => q.item.macs.getLsbD k)).getD n))
  | _ => none

/-- Writes a QUIET schedule. -/
def putQuiet (q : Quiet) (s : State) : State :=
  { s with sch := { s.sch with quiets := putBy (fun x => x.item.tenant == q.item.tenant) q s.sch.quiets } }

/-- A message waits for its MAC in one of the orders of R384. -/
def enqueue (n : Nat) (o : EgOrder) (flow : FlowId) (cls cost : Nat) (m : Msg) (s : State) : State :=
  let e := egressAt s n
  match o with
  | .control => pumpMac n (putEgress { e with control := e.control ++ [{ flow := flow, cost := cost, cls := cls, data := m }] } s)
  | .ack => pumpMac n (putEgress { e with acks := e.acks ++ [{ flow := flow, cost := cost, cls := cls, data := m }] } s)
  | .quiet => pumpMac n (putEgress { e with quiet := e.quiet ++ [{ flow := flow, cost := cost, cls := cls, data := m }] } s)
  | .fair =>
    pumpMac n (putEgress { e with fair := e.fair ++ [{ flow := flow, cost := cost, cls := cls, data := m }] } s)

/-- The frames that a message of a QUIET tenant takes, none longer than S_e: its fields in the first, its bytes cut among them (R389). -/
def quietPieces (k : Nat) (m : Msg) : List Msg :=
  let per := ceilDiv m.data.length k
  (List.range k).map (fun i => 
    { m with
      body := if i = 0 then m.body else []
      data := (m.data.drop (per * i)).take per
      wire := if i + 1 = k then m.wire.drop i else (m.wire.drop i).take 1 })

/-- A message waits in the egress scheduler of its MAC (R384), or, where its tenant is under QUIET, for a frame of the schedule
(R389); over the tether it leaves in MAILBOX frames (18 R458); one that leaves by a MAC that does not exist leaves at once (log entry 14). -/
def transmit (n : Nat) (o : EgOrder) (flow : FlowId) (cls cost : Nat) (m : Msg) (s : State) : State :=
  if onTether n then mailboxFrames n m s else
  match quietPath s n flow with
  | some (q, k) => putQuiet { q with frames := q.frames ++ (quietPieces (max 1 (ceilDiv cost q.item.sizeE.toNat)) m).map (fun x => (k, x)) } s
  | none => if (macAt s n).isNone then send m s else enqueue n o flow cls cost m s

end Machine
end Sys2Proof
end

