-- ==== Sys2Proof/Machine/MemoryOps.lean ====
section
/-!
DEFINITION. The landing memory (13 R338, R341): bytes by address, in one canonical form. Unlisted addresses read as zero. A
region's bytes stand at its owner's context number times 2^31 (log entry 15).
-/
namespace Sys2Proof
namespace Machine

/-- The canonical form: addresses strictly rising, no zero byte listed. -/
def Memory.wf : List Host.Cell → Bool
  | [] => true
  | [c] => c.2 != 0
  | c :: d :: r => c.2 != 0 && decide (c.1 < d.1) && Memory.wf (d :: r)

/-- One byte (13 R341: a new region reads as zeros). -/
def memByte : List Host.Cell → Nat → Byte
  | [], _ => 0
  | c :: r, a => if c.1 = a then c.2 else memByte r a

/-- Puts a cell at the front, unless its byte is zero. -/
def memCons (a : Nat) (b : Byte) (r : List Host.Cell) : List Host.Cell := if b = 0 then r else (a, b) :: r

/-- Writes one byte. -/
def memPut (a : Nat) (b : Byte) : List Host.Cell → List Host.Cell
  | [] => memCons a b []
  | c :: r =>
    if a < c.1 then memCons a b (c :: r)
    else if a = c.1 then memCons a b r
    else c :: memPut a b r

/-- Writes bytes from an address up. -/
def memPutAll (a : Nat) : Bytes → List Host.Cell → List Host.Cell
  | [], m => m
  | b :: bs, m => memPutAll (a + 1) bs (memPut a b m)

/-- Reads bytes from an address up. -/
def memRead (m : List Host.Cell) (a : Nat) : Nat → Bytes
  | 0 => []
  | n + 1 => memByte m a :: memRead m (a + 1) n

/-- Zeroes a range (13 R345): every byte in it then reads as zero. -/
def memZero (a n : Nat) (m : List Host.Cell) : List Host.Cell := m.filter (fun c => !(decide (a ≤ c.1) && decide (c.1 < a + n)))

/-- First address of a context's region. -/
def landBase (ctx : Nat) : Nat := ctx * 2147483648

/-- The landing region of a context. -/
def regionAt (s : State) (n : Nat) : Option Region := s.reg.regions.find? (fun r => r.owner == n)

/-- Writes a region. -/
def putRegion (r : Region) (s : State) : State :=
  { s with reg := { s.reg with regions := putBy (fun x => x.owner == r.owner) r s.reg.regions } }

/-- Writes bytes at an offset of a region. -/
def landWrite (r : Region) (off : Nat) (bs : Bytes) (s : State) : State :=
  { s with reg := { s.reg with mem := memPutAll (r.base + off) bs s.reg.mem } }

/-- Bytes at an offset of a region. -/
def landRead (s : State) (r : Region) (off n : Nat) : Bytes := memRead s.reg.mem (r.base + off) n

end Machine
end Sys2Proof
end

