-- ==== Sys2Proof/Machine/TransportOps.lean ====
section
/-!
DEFINITION. Sessions and queue pairs: sequences, sending, closing, landing regions and their triggers (12 R303 to R333; 13 R338
to R352), which the acts of every chapter that closes a session use.
-/
namespace Sys2Proof
namespace Machine

/-! ## Sequences and times (12 R312, R313, R316) -/

/-- The circle of DATA sequences: 1 to 0xFFFFFFFF (R316). -/
def seqSpan : Nat := 0xFFFFFFFF

/-- The sequence after `q` (R316). -/
def seqNext (q : Nat) : Nat := if q = seqSpan then 1 else q + 1

/-- (q - d) mod (2^32 - 1) (R316). -/
def seqDist (d q : Nat) : Nat := (q + seqSpan - d % seqSpan) % seqSpan

/-- `q` lies after `d` (R316). -/
def seqAfter (d q : Nat) : Bool := decide (1 ≤ seqDist d q) && decide (seqDist d q ≤ 2147483648)

/-- A timestamp: ns modulo 2^48 (R312). -/
def stamp48 (s : State) : Nat := now s / nsU % 281474976710656

/-- A difference of timestamps modulo 2^48 as a signed value (R313). -/
def signed48 (x : Int) : Int :=
  let y := x % 281474976710656
  if y < 140737488355328 then y else y - 281474976710656

/-- The parameters a session takes at its setup (R334). -/
def trnSetNow (s : State) : TrnSet :=
  { fresh := pTrnFreshWindow s, rtoMin := pTrnRtoMin s, rtoMax := pTrnRtoMax s, ackDelay := pTrnAckDelay s, dead := pTrnDeadTime s,
    rekey := pTrnRekeyInterval s, rnrTimer := pTrnRnrTimer s, roceAck := pTrnRoceAckTimeout s, cnpGap := pTrnCnpInterval s }

/-- W of a session, in units of 2^-16 ns. -/
def freshW (c : Ctx) : Nat := c.set.fresh * usU
/-- The dead time of a session. -/
def deadW (c : Ctx) : Nat := c.set.dead * msU
/-- The ACK delay of a session. -/
def ackW (c : Ctx) : Nat := c.set.ackDelay * usU

/-! ## What a context is -/

/-- A RoCE queue pair. -/
def isQp (c : Ctx) : Bool :=
  match c.kind with
  | .qp _ _ => true
  | .bryndle _ => false

/-- A context that carries UOP: service 2, or a queue pair that carries it. -/
def isUop (c : Ctx) : Bool :=
  match c.kind with
  | .qp _ u => u
  | .bryndle v => v == 2

/-- A context that carries an NVMe queue: service 1, or a queue pair that carries one. -/
def isNvme (c : Ctx) : Bool :=
  match c.kind with
  | .qp _ u => !u
  | .bryndle v => v == 1

/-- The tenant whose context allowance a principal's contexts count against (R304): an auditor's is the tenant of its grant. -/
def allowanceTenant (s : State) (p : Principal) : Option Nat :=
  match p with
  | .auditor g _ => (grantAt s g).bind (fun r => if r.tenant.toNat < 4096 then some r.tenant.toNat else none)
  | _ => p.tenant?

/-- A context number of the space in which the partner's contexts are kept: 1,048,576 and up (18 R452; log entry 32). -/
def partnerSpace (n : Nat) : Bool := decide (1048576 ≤ n)

/-- This module's own contexts (18 R452). -/
def ownCtxs (s : State) : List Ctx := s.trn.ctxs.filter (fun c => !partnerSpace c.num)

/-- Contexts that count against a tenant's allowance (R304). -/
def contextsOf (s : State) (n : Nat) : Nat := ((ownCtxs s).filter (fun c => allowanceTenant s c.who == some n)).length

/-- The egress flow of a context (15 R384). -/
def ctxFlow (c : Ctx) : FlowId :=
  match c.who with
  | .peer _ => .hitch
  | p => match p.tenant? with
    | some n => .tenant n
    | none => .shelf

/-! ## Sending (12 R310 to R319) -/

/-- The message's header names a place at the target: WRITE, WRITE_IMM and READ_RESP (Table 12.2). -/
def placed (opcode : Nat) : Bool := opcode == 2 || opcode == 3 || opcode == 5

/-- The key and the address of such a message: those its command named; an OBJ_DATA goes to its slot of the target's region (11 R288). -/
def placeOf (c : Ctx) (m : Msg) : Nat × Nat :=
  if m.kind == .myavo then (c.peer, m.status / 256 % 64 * 16777216 + m.status % 256 * 65536)
  else ((m.body.headD (0, 0)).2, ((m.body.drop 1).headD (0, 0)).2)

/-- The payload of a message (R310): place fields travel in its header. -/
def msgPayload (opcode : Nat) (m : Msg) : Bytes :=
  if placed opcode && m.kind != .myavo then m.data else encodeFlds m.body ++ m.data

/-- Bytes of a message. -/
def msgLen (opcode : Nat) (m : Msg) : Nat :=
  if placed opcode && m.kind != .myavo then m.data.length else sizeFlds m.body + m.data.length

/-- The header of packet `i` of a message (Table 12.2). The module never sets flags bit 3 (R318). -/
def packetHead (type phase opcode session id seq i count length key addr imm : Nat) : Bytes :=
  encodeFlds [(1, 1), (1, type), (1, (if i = 0 then 1 else 0) + (if i + 1 = count then 2 else 0) + 4 * (phase % 2)), (1, opcode), (4, session),
    (8, id), (4, seq), (2, i), (2, count - 1), (4, length), (4, key), (8, addr), (4, imm), (4, 0)]

/-- A packet: its header, which is authenticated, then its payload sealed under the nonce of R311, then the tag (R308, R309). -/
def sealPacket (key : BitVec 512) (initiator : Bool) (type id i : Nat) (head payload : Bytes) : Bytes :=
  head ++ gcmSeal key (id + i * 2 ^ 64 + type * 2 ^ 80 + (if initiator then 0 else 1) * 2 ^ 88) head payload

/-- The packets of a message (R310, R311). -/
def dataPackets (c : Ctx) (o : OutMsg) (id : Nat) : List Bytes :=
  let b := msgPayload o.opcode o.what
  let place := if placed o.opcode then placeOf c o.what else (0, 0)
  (List.range o.packets).map (fun i => sealPacket c.keys.tx c.keys.initiator 1 id i
    (packetHead 1 c.txPhase o.opcode c.peer id o.seq i o.packets o.length place.1 place.2 (if o.opcode = 3 then o.what.status else 0))
    ((b.drop (i * c.payload)).take c.payload))

/-- A packet other than DATA, under a control counter. -/
def ctlPacket (c : Ctx) (type id : Nat) (b : Bytes) : Bytes :=
  sealPacket c.keys.tx c.keys.initiator type id 0 (packetHead type c.txPhase 0 c.peer id 0 0 1 b.length 0 0 0) b

/-- Sends a Bryndle packet other than DATA: ACK 2, NAK 3, STATUS_REQ 4, STATUS 5, CLOSE 6 (Table 12.3), under the next control
counter (R312). -/
def sendCtl (n type : Nat) (body : Flds) (s : State) : State :=
  match ctxAt s n with
  | none => s
  | some c =>
    if isQp c then s
    else
      transmit c.mac .ack (ctxFlow c) (classOf s c.mac) (64 + sizeFlds body)
        { msg (.ctx n) .bryndle type (c.ctl + 1) 0 body with wire := [(c.src, ctlPacket c type (c.ctl + 1) (encodeFlds body))] }
        (putCtx { c with ctl := c.ctl + 1 } s)

/-- Messages sent and not acknowledged. -/
def unacked (c : Ctx) : Nat := (c.outMsgs.filter (fun o => !o.queued)).length

/-- The next message identity of a session: the timestamp above a serial, always rising (R312). -/
def nextMsgId (s : State) (c : Ctx) : Nat := max (stamp48 s * 65536) (c.lastId + 1)

/-- A direction's sender advances to its next-phase key (R327). -/
def advancePhase (s : State) (c : Ctx) : Ctx :=
  { c with txPhase := c.txPhase + 1, txSince := mono s, txCount := 0, keys := { c.keys with tx := nextPhase c.keys.tx } }

/-- A context before packets of a message leave: its key phase changes before 2^32 packets are sent under one key (R327). -/
def phaseOut (s : State) (packets : Nat) (c : Ctx) : Ctx := if 2 ^ 32 ≤ c.txCount + packets ∧ !isQp c then advancePhase s c else c

/-- The context whose SA pair carries a context's packets: a queue pair's parent, or a service 5 session's own (R332, R333). -/
def saCtx (s : State) (c : Ctx) : Option Ctx :=
  match c.kind with
  | .qp p _ => ctxAt s p
  | .bryndle 5 => some c
  | .bryndle _ => none

/-- Packets leave under an SA: each takes the next extended sequence number. Answers their ESP headers: the SPI and the low half of that number,
most significant byte first (R332; RFC 4303). -/
def espSend (c : Ctx) (packets : Nat) (s : State) : List Bytes × State :=
  match saCtx s c with
  | none => ([], s)
  | some a =>
    ((List.range packets).map (fun i => (leBytes 4 a.spiOut).reverse ++ (leBytes 4 (a.espOut + 1 + i)).reverse),
      putCtx { a with espOut := a.espOut + packets } s)

/-- The PSNs a request on a queue pair takes: one for each of its packets, or for a READ one for each packet of the answer (R331). -/
def psnSpan (opcode packets payload : Nat) (m : Msg) : Nat :=
  if opcode = 4 then max 1 (ceilDiv ((m.body.headD (0, 0)).2) payload) else packets

/-- Puts the first transmission of a message on the wire: its retransmission timer runs (R318; RoCE: R331). A queue pair's packets go under their
SA (R332). -/
def launch (n : Nat) (o : OutMsg) (s0 : State) : State :=
  match (ctxAt s0 n).map (phaseOut s0 o.packets) with
  | none => s0
  | some c =>
    let id := nextMsgId s0 c
    let (heads, s) := if isQp c then espSend c o.packets s0 else ([], s0)
    let wire := if isQp c then heads else dataPackets c o id
    let o1 := { o with id := id, sentAt := mono s, queued := false, statusAsked := false, wire := wire }
    let c1 := { c with lastId := id, txCount := c.txCount + o.packets, rtoAt := some (c.rtoAt.getD (mono s + c.rto)),
                       qpAckAt := if isQp c then some (c.qpAckAt.getD (mono s + c.set.roceAck * usU)) else none,
                       outMsgs := mapIf (fun x => x.seq == o.seq) (fun _ => o1) c.outMsgs }
    transmit c.mac .fair (ctxFlow c) (classOf s c.mac) o.length { o.what with wire := wire.map (fun b => (c.src, b)) } (putCtx c1 s)

/-- Sends a message on a session or queue pair: opcode 1 SEND, 2 WRITE, 3 WRITE_IMM, 4 READ_REQ, 5 READ_RESP (Table 12.2). Beyond
256 unacknowledged messages it waits (R315); while PAIRED it waits until its mirror record is acknowledged (18 R445). On a context of the
partner's it goes over the pair link (18 R448). -/
def sendOn (n opcode : Nat) (m : Msg) (s : State) : State :=
  match ctxAt s n with
  | none => s
  | some c =>
    if c.closing then s
    else if partnerSpace n && mirrors s then send { m with port := .pair, kind := .forward, op := 2 } s
    else
      let q := seqNext c.sent
      let sent : CStamp := if isQp c then { time := ((saCtx s c).map (fun a => a.espOut)).getD 0, seq := c.psnOut } else noStamp
      let s0 := mirrorSend { bareRec 4 with shard := opcode, seq := q, stamp := sent, bytes := msgLen opcode m, ctx := n, tag := m.tag, addr := c.lastId,
                                            data := encodeFlds m.body ++ m.data } s
      let pk := max 1 (ceilDiv (msgLen opcode m) c.payload)
      let o : OutMsg := { id := 0, seq := q, opcode := opcode, sentAt := 0, length := msgLen opcode m,
                          packets := pk, statusAsked := false, queued := true,
                          mir := if mirrors s then s0.pair.nextRec else 0, what := m, wire := [], psn := c.psnOut }
      let s1 := putCtx { c with sent := q, outMsgs := c.outMsgs ++ [o],
                                psnOut := if isQp c then (c.psnOut + psnSpan opcode pk c.payload m) % 16777216 else c.psnOut } s0
      if mirrors s || decide (256 ≤ unacked c) then s1 else launch n o s1

/-- The partner holds the mirror record of a message (18 R445). -/
def mirrorHeld (s : State) (o : OutMsg) : Bool := o.mir == 0 || !s.pair.unacked.any (fun r => r.num == o.mir)

/-- Launches waiting messages, in order, while fewer than 256 are unacknowledged and their mirror records are held (R315; 18 R445). -/
def pumpOut (n : Nat) (s : State) : State :=
  match ctxAt s n with
  | none => s
  | some c => (((c.outMsgs.filter (fun o => o.queued)).takeWhile (mirrorHeld s)).take (256 - unacked c)).foldl (fun acc o => launch n o acc) s

/-- A message is covered by an acknowledgement: at or before the delivered-through sequence, or in the bitmap of the 256 after it
(Table 12.3). -/
def acked (through : Nat) (bitmap : BitVec 256) (q : Nat) : Bool :=
  !seqAfter through q || (decide (seqDist through q ≤ 256) && bitmap.getLsbD (seqDist through q - 1))

/-- The retransmission timeout of a smoothed round-trip time: clamp(2 × srtt, RTO_MIN, RTO_MAX) (R318). -/
def rtoOf (t : TrnSet) (srtt : Nat) : Nat := min (t.rtoMax * usU) (max (t.rtoMin * usU) (2 * srtt))

/-- Messages acknowledged by the host: their commands' records are pruned at the partner (18 Table 18.2, Retire). -/
def mirrorRetire (n : Nat) (gone : List OutMsg) (s : State) : State :=
  (gone.filter (fun o => o.opcode == 1 && o.mir != 0)).foldl
    (fun acc o => mirrorSend { bareRec 5 with ctx := n, tag := o.what.tag } acc) s

/-- An ACK or STATUS takes the messages it covers off the sender's list, and updates the smoothed round-trip time: how it is smoothed
is not stated, so its new value is free (R318, R319; log entry 2). -/
def takeAcks (n through : Nat) (bitmap : BitVec 256) (s : State) : State :=
  match ctxAt s n with
  | none => s
  | some c =>
    let left := c.outMsgs.filter (fun o => o.queued || !acked through bitmap o.seq)
    let (v, s1) := free s
    let c1 := { c with outMsgs := left, srtt := v, rto := rtoOf c.set v, heard := mono s,
                       rtoAt := if left.any (fun o => !o.queued) then some (mono s + rtoOf c.set v) else none }
    pumpOut n (mirrorRetire n (c.outMsgs.filter (fun o => !o.queued && acked through bitmap o.seq)) (putCtx c1 s1))

/-! ## Landing regions and triggers (13) -/

/-- The landing size of a session or queue pair (Table 13.1): that of the tenant for UOP of a tenant, depositor or reader. -/
def landSize (s : State) (kind : CtxKind) (who : Principal) : Option Nat :=
  let uop := match kind with
    | .qp _ u => u
    | .bryndle v => v == 2
  if uop then (who.tenant?.bind (tenantAt s)).map (fun t => t.quota.landSize.toNat * 1048576) else none

/-- Landing bytes registered for a tenant. -/
def landOf (s : State) (n : Nat) : Nat := ((s.reg.regions.filter (fun r => r.tenant == n)).map (fun r => r.size)).sum

/-- Landing bytes registered. -/
def landUsed (s : State) : Nat := (s.reg.regions.map (fun r => r.size)).sum

/-- The limits at a setup, in the order of R325 and R339: the context store, the tenant's context allowance, its landing
allowance, the landing pool. -/
def setupLimit (s : State) (kind : CtxKind) (who : Principal) : Option Nat :=
  let t := allowanceTenant s who
  let past := t.any (fun n => (tenantAt s n).any (fun x => decide (x.quota.ctxAllow.toNat ≤ contextsOf s n)))
  if 1048576 ≤ (ownCtxs s).length then some eContexts
  else if past then some eQuota
  else
    match landSize s kind who, who.tenant? with
    | some z, some n =>
      if (tenantAt s n).any (fun x => decide (x.quota.landAllow.toNat * 1048576 < landOf s n + z)) then some eQuota
      else if landGib s * 1073741824 < landUsed s + z then some eLanding
      else none
    | _, _ => none

/-- The lowest context number not allocated (log entry 16). -/
def lowestCtx (s : State) : Nat :=
  ((List.range (s.trn.ctxs.length + 1)).find? (fun n => !(s.trn.ctxs.any (fun c => c.num == n)))).getD 0

/-- The generation a context number takes at its next allocation (R304). -/
def nextGen (s : State) (n : Nat) : Nat := ((s.trn.gens.lookup n).getD 0 + 1) % 4096

/-- A new context. `offset` is the offset estimate in ns (R313). -/
def newCtx (s : State) (n : Nat) (kind : CtxKind) (who : Principal) (mac payload depth : Nat) (offset : Int) : Ctx :=
  { num := n, gen := nextGen s n, kind := kind, who := who, grant := who.grant?, depth := depth, unanchored := !anchored s,
    place := .onDie, used := s.trn.clock, payload := payload, mac := mac, offset := offset, offsetAt := mono s, through := 0,
    inMsgs := [], ackDue := none, ackSeen := none, ceMarks := 0, sent := 0, lastId := 0, ctl := 0, outMsgs := [], srtt := 0,
    rto := rtoOf (trnSetNow s) 0, rtoAt := none, heard := mono s, txPhase := 0, rxPhase := 0, txSince := mono s, txCount := 0,
    oldKey := none, rate := macRate s mac, rateAt := mono s, rateCut := none, cc := ((64 * kibU : Nat) : Int), ccAt := refillsNow s, spiIn := 0, spiOut := 0, oldSpi := none, spiSince := mono s, psn := 0, retries := 7,
    rnr := 7, qpAckAt := none, qpError := false, cnpAt := 0, peer := 0, src := { addr := 0, port := 0, eth := 0 }, keys := noKeys, saNonce := 0,
    espIn := { top := 0, seen := [] }, espOld := { top := 0, seen := [] }, espOut := 0, psnOut := 0, closing := false, helloOnly := false, set := trnSetNow s }

/-- A principal on the pair link: its kind, tenant, grant and key (log entry 33). -/
def whoFlds (p : Principal) : Flds :=
  let f (kind tenant : Nat) (g : Option GrantId) (key : Nat) : Flds :=
    [(1, kind), (2, tenant), (32, (g.map (fun x => x.issuer.toNat)).getD 0), (8, (g.map (fun x => x.serial)).getD 0), (32, key)]
  match p with
  | .custodian k => f 1 0xFFFF none k.toNat
  | .tenant n => f 2 n none 0
  | .depositor n g k => f 3 n (some g) k.toNat
  | .reader n g k => f 4 n (some g) k.toNat
  | .auditor g k => f 5 0xFFFF (some g) k.toNat
  | .operator g k => f 6 0xFFFF (some g) k.toNat
  | .peer h => f 7 0xFFFF none h.toNat

/-- What a context's record carries: its kind, a queue pair's parent, its principal, queue depth, MAC, payload, the peer's context and address, key phases, keys and
SPIs (R328; log entry 33). -/
def ctxFlds (c : Ctx) : Flds :=
  let (kind, parent) := match c.kind with
    | .bryndle v => (v, 0)
    | .qp p u => (if u then 17 else 16, p)
  let k := c.keys
  [(1, kind), (4, parent)] ++ whoFlds c.who ++ [(2, c.depth), (1, c.mac), (2, c.payload), (4, c.peer), (16, c.src.addr.toNat), (2, c.src.port.toNat), (6, c.src.eth.toNat),
   (4, c.txPhase), (4, c.rxPhase), (1, if k.initiator then 1 else 0), (32, k.tx.toNat), (32, k.rx.toNat),
   (32, (k.prevRx.map (fun x => x.toNat)).getD 0), (32, k.child.toNat), (64, k.espTx.toNat), (64, k.espRx.toNat),
   (64, (k.prevEspRx.map (fun x => x.toNat)).getD 0), (4, c.spiIn), (4, c.spiOut)]

/-- A state-class record of the pair link (18 Table 18.1); those of a context say it is set up, changes phase or closes (R328). -/
def mirrorCtx (n gen : Nat) (s : State) : State :=
  pairState 2 ([(4, n), (2, gen)] ++ ((ctxAt s n).map ctxFlds).getD []) s

/-- Allocates a context with its landing region (R304, R338). -/
def allocCtx (c : Ctx) (s : State) : State :=
  let s1 := putCtx c { s with trn := { s.trn with gens := putKey c.num c.gen 0 s.trn.gens, clock := s.trn.clock + 1 } }
  let s2 := match landSize s c.kind c.who, c.who.tenant? with
    | some z, some t =>
      if z = 0 then s1
      else putRegion { owner := c.num, tenant := t, roce := isQp c, base := landBase c.num, size := z, phase := .active, revoked := 0,
                       pushes := [] } s1
    | _, _ => s1
  mirrorCtx c.num c.gen s2

/-- Frees a context: its generation makes later packets fail (R304, R320), and its trigger entries are freed (13 R352). -/
def freeCtx (n : Nat) (s : State) : State :=
  match ctxAt s n with
  | none => s
  | some c =>
    mirrorCtx n c.gen { s with trn := { s.trn with ctxs := dropIf (fun x => x.num == n) s.trn.ctxs,
                                                   holding := dropIf (fun h => h.ctx == n) s.trn.holding },
                               reg := { s.reg with triggers := dropIf (fun t => t.ctx == n) s.reg.triggers } }

/-- Revokes the region of a context: it is REVOKING from an instant, its triggers are disarmed but for lists in progress, and its pending
counts and waiting exception records are discarded (13 R342, R352). -/
def revokeRegion (at_ n : Nat) (s : State) : State :=
  let mine (t : TrigEntry) : Bool := t.ctx == n
  let off (t : TrigEntry) : TrigEntry :=
    if t.state == .firing then { t with noted := [], remaining := 1 } else { t with noted := [], state := .disarmed }
  let nums := (s.reg.triggers.filter mine).map (fun t => t.num)
  let keep (e : ExcRec) : Bool :=
    match e with
    | .fault k => !nums.contains k
    | .chained k _ => !nums.contains k
    | .notification c _ _ _ _ => c != n
  let upd (r : Region) : Region := if r.phase == .active then { r with phase := .revoking, revoked := at_ } else r
  { s with reg := { s.reg with regions := mapIf (fun r => r.owner == n) upd s.reg.regions,
                               triggers := mapIf mine off s.reg.triggers, ring := s.reg.ring.filter keep } }

/-! ## Closing (12 R320; 13 R342) -/

/-- Closes a mailbox connection: its event ring, its challenge, its waiting answers go with it (19 R463, R464). -/
def closeConn (m : Nat) (s : State) : State :=
  { s with
    mbx := { s.mbx with conns := dropIf (fun c => c.mbx == m) s.mbx.conns,
                        rings := mapIf (fun r => r.mbx == m) (fun r => { r with owed := 0, ready := [] }) s.mbx.rings },
    ev := { s.ev with rings := dropIf (fun r => r.mbx == some m) s.ev.rings },
    time := { s.time with challenge := s.time.challenge.filter (fun c => c.mbx != m) },
    fix := { s.fix with waiting := dropIf (fun w => w.mbx == m) s.fix.waiting },
    held := mapIf (fun h => h.msg.port == .mbx m) (fun h => { h with msg := { h.msg with port := .host } })
      (dropIf (fun h => h.msg.port == .mbx m && h.job.isNone) s.held) }

/-- The mailbox connections carried by a context. -/
def connsOn (s : State) (n : Nat) : List Nat :=
  (s.mbx.conns.filter (fun c => c.path == .bryndle n || c.path == .tether n)).map (fun c => c.mbx)

/-- The context of a host command that waits for admission. -/
def instrCtx : Instr → Option Nat
  | .connect c => some c.ctx
  | .disconnect c _ | .propertyGet c _ | .propertySet c _ _ | .getLogPage c _ | .identify c _ _ | .abort c _ _ => some c.ctx
  | .setFeatures c _ _ _ | .getFeatures c _ | .asynchronousEventRequest c | .namespaceCreate c _ | .namespaceDelete c => some c.ctx
  | .keepAlive c | .formatNvm c _ | .sanitize c _ _ | .flush c | .nvmeWrite c _ _ _ _ _ _ | .nvmeRead c _ _ _ => some c.ctx
  | .compare c _ _ _ _ _ | .writeZeroes c _ _ | .datasetManagement c _ _ | .nvmeVerify c _ _ _ => some c.ctx
  | .reservationRegister c _ _ _ _ _ | .reservationReport c | .reservationAcquire c _ _ _ _ _ | .reservationRelease c _ _ _ _ => some c.ctx
  | .put q _ _ | .putPart q _ _ | .putAbort q _ | .sealObject q _ _ | .get q _ _ | .head q _ | .list q _ _ | .delete q _ => some q
  | .copy q _ _ | .hold q _ _ | .release q _ _ | .stopper q _ _ | .verify q _ | .collCreate q _ _ | .collDelete q _ => some q
  | _ => none

/-- The number by which commands that a closed context had admitted are known until they end: no context has it, so their
completions are discarded (R320). -/
def ghost (c : Ctx) : Nat := 1048576 * (c.gen + 1) + c.num

/-- Everything outside the context that its end touches: commands that wait are gone, those admitted go on for nobody, its pushes are
abandoned with their reassembly (13 R345), its queue leaves its controller, its hitch is SUSPENDED (11 Table 11.2). -/
def unhook (c : Ctx) (s : State) : State :=
  let n := c.num
  let moved (p : Port) : Port := if p = .ctx n then .ctx (ghost c) else p
  let gone (k : Ctrl) : Bool := k.queues.any (fun q => q.ctx == n && q.qid == 0)
  let left (k : Ctrl) : Ctrl := { k with queues := dropIf (fun q => q.ctx == n) k.queues }
  let hit (h : Hitch) : Hitch :=
    if h.ctx = some n then
      { h with ctx := none, hello := false, paced := [],
               state := if h.state == .streaming || h.state == .closing then .suspended else h.state }
    else h
  let held (h : Held) : Held := { h with msg := { h.msg with port := moved h.msg.port } }
  let push (r : Region) : Region := { r with pushes := dropIf (fun p => p.1 == n) r.pushes }
  { s with
    block := { s.block with ctrls := (dropIf gone s.block.ctrls).map left, streams := dropIf (fun x => x.ctx == n) s.block.streams,
                            waiting := dropIf (fun w => instrCtx w.cmd == some n) s.block.waiting,
                            inFlight := mapIf (fun x => x.ctx == n) (fun x => { x with ctx := ghost c }) s.block.inFlight },
    idx := { s.idx with walks := mapIf (fun w => w.q == n) (fun w => { w with q := ghost c }) s.idx.walks },
    reg := { s.reg with regions := s.reg.regions.map push },
    hitch := { list := s.hitch.list.map hit },
    held := s.held.map held }

/-- Ends one context from an instant: with a landing region it stays until the region is drained, else it is freed at once (R320; 13 R342). -/
def endOne (at_ n : Nat) (s : State) : State :=
  match ctxAt s n with
  | none => s
  | some c =>
    if c.closing then s
    else
      let s1 := (connsOn s n).foldl (fun acc m => closeConn m acc) (unhook c s)
      match regionAt s1 n with
      | some _ =>
        revokeRegion at_ n (putCtx
          { c with
            closing := true, qpError := isQp c, inMsgs := [], outMsgs := [], ackDue := none, rtoAt := none, qpAckAt := none, keys := noKeys } s1)
      | none => freeCtx n s1

/-- The contexts that end with one: the queue pairs of a service 5 session (12 R333), and the queues of a controller whose admin
queue ends. -/
def follows (s : State) (n : Nat) : List Nat :=
  (s.trn.ctxs.filter (fun c => match c.kind with
    | .qp p _ => p == n
    | .bryndle _ => false)).map (fun c => c.num) ++
  ((s.block.ctrls.filter (fun k => k.queues.any (fun q => q.ctx == n && q.qid == 0))).map (fun k => k.queues.map (fun q => q.ctx))).flatten

/-- A context with every context that ends with it. -/
def endList (s : State) (n : Nat) : List Nat :=
  let a := n :: follows s n
  let b := (a ++ (a.map (follows s)).flatten).eraseDups
  (b ++ (b.map (follows s)).flatten).eraseDups

/-- Ends a session or queue pair from an instant: the ingress stamp of the packet that closes it (13 R342). -/
def endCtxAt (at_ n : Nat) (s : State) : State := (endList s n).foldl (fun acc m => endOne at_ m acc) s

/-- Ends a session or queue pair now. -/
def endCtx (n : Nat) (s : State) : State := endCtxAt (mono s) n s

/-- The module closes a session with a status: CLOSE, then the end of the context (R320). A queue pair moves to the error state. -/
def closeCtx (code n : Nat) (s : State) : State :=
  if (ctxAt s n).any (fun c => !c.closing) then endCtx n (sendCtl n 6 [(2, code), (6, 0)] s) else s

/-- Closes every session that a condition selects. -/
def closeAll (code : Nat) (p : Ctx → Bool) (s : State) : State :=
  ((s.trn.ctxs.filter p).map (fun c => c.num)).foldl (fun acc n => closeCtx code n acc) s

/-- Closes every mailbox connection that a condition selects; over Bryndle and the tether it closes with its session. -/
def closeConns (p : Conn → Bool) (s : State) : State :=
  (s.mbx.conns.filter p).foldl (fun acc c => match c.path with
    | .bryndle n | .tether n => closeCtx eSession n acc
    | .mctp | .endpoint => closeConn c.mbx acc) s

/-- The closed contexts, of those that a condition selects, whose landing regions are not drained yet: an act that closed them is complete
only when they are (13 R342). -/
def drainsOf (p : Ctx → Bool) (s : State) : List (Nat × Nat) := (s.trn.ctxs.filter (fun c => c.closing && p c)).map (fun c => (c.num, c.gen))

/-! ## Notifications (13 R346 to R351) -/

/-- Puts a record into the exception ring, or leaves it waiting for room: STATUS bit 3 (R351). -/
def except (e : ExcRec) (s : State) : State :=
  let s1 := { s with reg := { s.reg with ring := s.reg.ring ++ [e] } }
  if 1024 ≤ s.reg.ring.length then raise stRG 3 noInst s1 else s1

/-- Changes a trigger entry. -/
def mapTrig (n : Nat) (f : TrigEntry → TrigEntry) (s : State) : State :=
  { s with reg := { s.reg with triggers := mapIf (fun t => t.num == n) f s.reg.triggers } }

/-- An entry halts: fault fields, a fault record, STATUS bit 2 (R349, R350). -/
def haltTrig (n : Nat) (req : Option Nat) (code : Nat) (s : State) : State :=
  raise stRG 2 noInst (except (.fault n)
    (mapTrig n (fun t => { t with state := .halted, faultReq := req, faultCode := code }) s))

/-- An armed entry whose pending count has reached its threshold fires, and consumes the first notifications (R349). -/
def fireIfDue (n : Nat) (s : State) : State :=
  mapTrig n (fun t =>
    if t.state == .armed && decide (t.threshold ≤ t.noted.length) then
      { t with state := .firing, noted := t.noted.drop t.threshold, last := ((t.noted.take t.threshold).getLast?).getD t.last, at_ := 0 }
    else t) s

/-- The first entry of a context, in the order of arming, that a notification matches (R348). -/
def trigMatch (s : State) (ctx gen : Nat) (imm : Word32) : Option TrigEntry :=
  let ok (t : TrigEntry) : Bool :=
    t.ctx == ctx && t.gen == gen && (t.state == .armed || t.state == .firing) && (imm &&& t.mask) == (t.matchVal &&& t.mask)
  match s.reg.triggers.filter ok with
  | [] => none
  | t :: ts => some (ts.foldl (fun a b => if b.order < a.order then b else a) t)

/-- A notification reaches an entry: its pending count rises, or would pass 256, which halts it; the notification then waits in the ring
(R348, R349, R351). -/
def noteEntry (t : TrigEntry) (e : ExcRec) (stamp : Nat) (s : State) : State :=
  if 256 ≤ t.noted.length then except e (haltTrig t.num none eTrigger s)
  else fireIfDue t.num (mapTrig t.num (fun x => { x with noted := x.noted ++ [stamp] }) s)

/-- The context of an exception record. -/
def recCtx (s : State) (e : ExcRec) : Option Nat :=
  match e with
  | .notification c _ _ _ _ => some c
  | .fault n | .chained n _ => (s.reg.triggers.find? (fun t => t.num == n)).map (fun t => t.ctx)

/-- Some entry of a context is halted (R348). -/
def haltedOn (s : State) (ctx : Nat) : Bool := s.reg.triggers.any (fun t => t.ctx == ctx && t.state == .halted)

/-- A notification of a context waits in the ring (R351). -/
def waitsOn (s : State) (ctx : Nat) : Bool := s.reg.ring.any (fun e => match e with
  | .fault _ => false
  | .notification _ _ _ _ _ | .chained _ _ => recCtx s e == some ctx)

/-- A notification is matched against the entries of its context; one that matches nothing is counted (R346, R348). -/
def matchNote (e : ExcRec) (s : State) : State :=
  match e with
  | .fault _ => s
  | .notification ctx imm _ _ stamp =>
    match (ctxAt s ctx).bind (fun c => trigMatch s ctx c.gen imm) with
    | some t => noteEntry t e stamp s
    | none => bumpFigure 0x12000118 1 s
  | .chained n stamp =>
    match s.reg.triggers.find? (fun t => t.num == n && (t.state == .armed || t.state == .firing)) with
    | some t => noteEntry t e stamp s
    | none => bumpFigure 0x12000118 1 s

/-- A notification is raised: in a region that is REVOKING it is discarded; where an entry of its context is halted, or earlier ones of
the context wait, it waits in the exception ring; else it is matched (R346, R348, R351). -/
def raiseNote (ctx : Nat) (e : ExcRec) (s : State) : State :=
  if (regionAt s ctx).any (fun r => r.phase != .active) then s
  else if haltedOn s ctx || waitsOn s ctx then except e s
  else matchNote e s

/-- A notification is raised for a context, with the ingress stamp of the packet that made its message whole (R346). -/
def notify (ctx : Nat) (imm : Word32) (off len stamp : Nat) (s : State) : State :=
  if (ctxAt s ctx).isNone then s else raiseNote ctx (.notification ctx imm off len stamp) s

/-- An internal notification is sent to an entry (R349). -/
def chainNote (t : TrigEntry) (s : State) : State := raiseNote t.ctx (.chained t.num (now s)) s

end Machine
end Sys2Proof
end

