-- ==== Sys2Proof/Machine/MailboxOps.lean ====
section
/-!
DEFINITION. What every mailbox command shares: connections, the checks made before its own rules, responses and their rings (19
R463 to R470; 02 R37).
-/
namespace Sys2Proof
namespace Machine

/-- The open connection of a mailbox (19 R463). -/
def connAt (s : State) (m : Nat) : Option Conn := s.mbx.conns.find? (fun c => c.mbx == m)

/-- The path of a mailbox's open connection. -/
def pathAt (s : State) (m : Nat) : Option MbxPath := (connAt s m).map (fun c => c.path)

/-- Writes a connection. -/
def putConn (c : Conn) (s : State) : State :=
  { s with mbx := { s.mbx with conns := putBy (fun x => x.mbx == c.mbx) c s.mbx.conns } }

/-- Mailbox `m` is bound to the endpoint: SEP_MBX_MAP bit m (17 R434). -/
def onEndpoint (s : State) (m : Nat) : Bool := bitsOf (layered s (0x07000008 + 4 * (m / 32)) 0) (m % 32) 1 == 1

/-- The rings of a mailbox. -/
def ringAt (s : State) (m : Nat) : Ring :=
  (s.mbx.rings.find? (fun r => r.mbx == m)).getD { mbx := m, reqTail := 0, reqHead := 0, rspTail := 0, rspHead := 0, owed := 0, ready := [] }

/-- Writes the rings of a mailbox. -/
def putRing (r : Ring) (s : State) : State :=
  { s with mbx := { s.mbx with rings := putBy (fun x => x.mbx == r.mbx) r s.mbx.rings } }

/-- A request leaves its ring as it is taken (19 R465). -/
def takeRequest (m tag : Nat) (s : State) : State :=
  let r := ringAt s m
  match r.ready.find? (fun x => x.1 == tag) with
  | some x => putRing { r with reqHead := r.reqHead + x.2, ready := r.ready.erase x } s
  | none => s

/-- Signals a vector, and SEP_STATUS bit 2 while Bus Master Enable is clear (17 R436). -/
def signalVector (vec : Nat) (s : State) : State :=
  if s.sep.master then msix vec s else raise stSEP 2 noInst (msix vec s)

/-- Moves response entries that wait into the response ring while it has room, and signals the mailbox's vector (19 R465; 17
R436). -/
def fillRing (m : Nat) (s : State) : State :=
  let r := ringAt s m
  let room := 256 - (r.rspTail - r.rspHead)
  let k := min room r.owed
  if k = 0 then s else signalVector m (putRing { r with rspTail := r.rspTail + k, owed := r.owed - k } s)

/-- Entries of a message (19 R465): 240 payload bytes each, at least one. -/
def msgEntries (m : Msg) : Nat := max 1 (ceilDiv (sizeFlds m.body + m.data.length) 240)

/-- The entries of a message: each the header of Table 19.2, then 240 payload bytes; those of the last that are not used are zero (19 R465). -/
def mbxEntries (m : Msg) : List Bytes :=
  let b := encodeFlds m.body ++ m.data
  let k := msgEntries m
  (List.range k).map (fun i =>
    encodeFlds [(1, 1), (1, (if i = 0 then 1 else 0) + (if i + 1 = k then 2 else 0)), (2, m.op), (1, m.tag), (1, 0), (2, m.status), (4, b.length),
      (2, i), (2, 0)] ++ padEnd 240 ((b.drop (240 * i)).take 240))

/-- The message that takes a mailbox's entries over session `q`: they are its data (19 R463, Table 19.2). -/
def carried (q : Nat) (m : Msg) : Msg := { m with port := .ctx q, body := [], data := (mbxEntries m).flatten }

/-- Places a response: over Bryndle as one SEND of its session, the tether's sessions among them; on the endpoint in the response ring; on
MCTP as one message (19 R463, R465). -/
def sendMbx (n : Nat) (m : Msg) (s : State) : State :=
  match pathAt s n with
  | some (.bryndle q) | some (.tether q) => sendOn q 1 (carried q m) s
  | _ =>
    let s1 := send m s
    if onEndpoint s n then fillRing n (putRing { ringAt s1 n with owed := (ringAt s1 n).owed + msgEntries m } s1) else s1

/-- A response to a mailbox command (19 R465). -/
def replyMsg (c : Call) (op status : Nat) (body : Flds) : Msg := msg (.mbx c.mbx) .mailbox op c.tag status body

/-- Answers a mailbox command. -/
def reply (c : Call) (op status : Nat) (body : Flds) (s : State) : State := sendMbx c.mbx (replyMsg c op status body) s

/-- The tag is held until its response is placed (19 R466). -/
def holdTag (c : Call) (s : State) : State :=
  match connAt s c.mbx with
  | some x => putConn { x with tags := x.tags ++ [c.tag] } s
  | none => s

/-- The tag of a mailbox is free again. -/
def freeTag (m tag : Nat) (s : State) : State :=
  match connAt s m with
  | some x => putConn { x with tags := x.tags.filter (fun t => t != tag) } s
  | none => s

/-- Answers a mailbox command with a completion that waits (03 R86, 09 R246). -/
def replyHeld (c : Call) (h : Held) (s : State) : State := hold h (holdTag c s)

/-- Answers a mailbox command that mutated some shards, once Shelf Time has passed their stamps (03 R86, R87). -/
def replyAfter (c : Call) (op : Nat) (body : Flds) (shards : List Nat) (drains : List (Nat × Nat)) (s : State) : State :=
  let t := stampPassed s shards
  if now s < t ∨ drains ≠ [] then replyHeld c { heldAt (replyMsg c op sOk body) t with drains := drains } s else reply c op sOk body s

/-- Answers a mutation once its stamp has passed. -/
def replyStamped (c : Call) (op : Nat) (body : Flds) (shards : List Nat) (s : State) : State := replyAfter c op body shards [] s

/-- Answers E_NOT_VISIBLE at the instant of its class (02 R51). -/
def replyNotVisible (c : Call) (op delay : Nat) (s : State) : State :=
  holdNotVisible (replyMsg c op eNotVisible []) delay (holdTag c s)

/-- What a command names, which decides how a refusal of R37 is answered: nothing, a collection or namespace, or an object. -/
inductive Names where
  | nothing | container | object
deriving DecidableEq, Repr

/-- A refusal under Table 2.5 (02 R37, R51). -/
def refuse (c : Call) (op : Nat) (n : Names) (s : State) : State :=
  match n with
  | .nothing => reply c op eDenied [] s
  | .container => replyNotVisible c op nvCDelay s
  | .object => replyNotVisible c op (nvODelay s) s

/-- A custodian key. -/
def isCustodian : Principal → Bool
  | .custodian _ => true
  | _ => false

/-- A custodian key or the operator. -/
def isCustOper : Principal → Bool
  | .custodian _ => true
  | .operator _ _ => true
  | _ => false

/-- The operator. -/
def isOperator : Principal → Bool
  | .operator _ _ => true
  | _ => false

/-- A tenant. -/
def isTenant : Principal → Bool
  | .tenant _ => true
  | _ => false

/-- Those who read the lanyard and their rings: custodian, tenant, auditor (02 Table 2.5). -/
def readsLanyard : Principal → Bool
  | .custodian _ => true
  | .tenant _ => true
  | .auditor _ _ => true
  | _ => false

/-- Anyone. -/
def anyone (_ : Principal) : Bool := true

/-- Commands that end with a signature trailer (19 R467). -/
def hasTrailer (x : Conn) : Bool := isCustodian x.who || x.path == .mctp || x.path == .endpoint

/-- The management cores serve mailboxes: from the end of P5 while the module has not halted (24 R536, Table 24.1). -/
def mbxServed (s : State) : Bool := s.boot.phases[4]? == some .done && s.boot.halted.isNone && s.pwr.belay.isNone

/-- Opcodes the first-use state accepts (24 R540 to R542). -/
def firstUseOps : List Nat := [0x0001, 0x0002, 0x0003, 0x0101, 0x0103, 0x0201, 0x0202, 0x0203, 0x0204, 0x0603, 0x0703, 0x0704, 0x0804]

/-- Opcodes an auditor may use then (24 R540). -/
def firstAuditOps : List Nat := [0x0003, 0x0101, 0x0703, 0x0704]

/-- Opcodes a key that is not enrolled yet may use then (24 R541). -/
def firstKeyOps : List Nat := [0x0003, 0x0101, 0x0201, 0x0202, 0x0203]

/-- Opcodes accepted while start-up stands at P5 for its configuration (24 R539). -/
def configOps : List Nat := [0x0001, 0x0002, 0x0003, 0x0101, 0x0102, 0x0201, 0x0202, 0x0203, 0x0601, 0x0602, 0x0603]

/-- The module's state admits an opcode of a principal: not during a shelf-wide sanitise but for its status, and within the lists of
the first-use state and of a start-up stopped at P5 (19 R469; 24 R539 to R541). -/
def stateAdmits (s : State) (p : Principal) (op : Nat) : Bool :=
  let inFirst := match p with
    | .auditor _ _ => firstAuditOps.contains op
    | .custodian k => if s.auth.custKeys.contains k then firstUseOps.contains op else firstKeyOps.contains op
    | _ => firstUseOps.contains op
  (s.block.shelfSan.isNone || op == 0x0804) && (!s.boot.firstUse || inFirst) && (!s.boot.configStop || configOps.contains op)

/-- The checks every mailbox command of an open connection passes first: the tag, the module's state, reserved fields, the trailer
and Table 2.5 (19 R466, R467, R469; 02 R37). `act` gets the connection. While mailboxes are not served nothing answers (24 R536). -/
def mailboxCmd (c : Call) (op : Nat) (n : Names) (allow : Principal → Bool) (act : Conn → State → State) (before : State) : State :=
  if !mbxServed before then before else
  let s := takeRequest c.mbx c.tag before
  match connAt s c.mbx with
  | none => reply c op eDenied [] s
  | some x =>
    if x.tags.contains c.tag || 64 ≤ c.tag then reply c op eTag [] s
    else
      let s0 := putConn { x with lastReq := mono s } s
      if !stateAdmits s x.who op then reply c op eState [] s0
      else if c.rsv != 0 then reply c op eReserved [] s0
      else if hasTrailer x && !(c.sigOk && c.counter == x.counter + 1) then reply c op eSignature [] s0
      else
        let x1 := { x with lastReq := mono s, counter := if hasTrailer x then x.counter + 1 else x.counter }
        let s1 := putConn x1 s
        if allow x.who && grantOk s x.who then needsDrives (reply c op eState []) (act x1) s1 else refuse c op n s1

/-- Who sends a mailbox command. -/
def callWho (s : State) (c : Call) : Option Principal := (connAt s c.mbx).map (fun x => x.who)

end Machine
end Sys2Proof
end

