-- ==== Sys2Proof/Machine/HostOps.lean ====
section
/-!
DEFINITION. Host commands from arrival to completion: tags, policing, admission, forwarding to the partner, refusals and their
release instants, completions (04 R95, R105; 05 R119 to R125; 15 R372 to R383; 02 R49 to R52).
-/
namespace Sys2Proof
namespace Machine

/-! ## Completions leave -/

/-- An operation ends: it is one of the 131,072 no more (04 R105). -/
def finishOp (q tag : Nat) (s : State) : State :=
  { s with block := { s.block with inFlight := s.block.inFlight.eraseP (fun x => x.ctx == q && x.tag == tag) } }

/-! ## NVMe queues (04 R103) -/

/-- The controller of a queue's context (R103). -/
def ctrlAt (s : State) (q : Nat) : Option Ctrl := s.block.ctrls.find? (fun k => k.queues.any (fun x => x.ctx == q))

/-- The queue a context carries. -/
def queueAt (s : State) (q : Nat) : Option NvQueue := (ctrlAt s q).bind (fun k => k.queues.find? (fun x => x.ctx == q))

/-- The submission queue head pointer of a queue's completions: 0 where the host asked for no flow control, and 0xFFFF in the answer to the
Connect that asked (04 R103; NVMe-oF, log entry 20). -/
def sqhdOf (s : State) (q op : Nat) : Nat :=
  match queueAt s q with
  | some x => if !x.noFlow then x.head else if op = 0x7F then 0xFFFF else 0
  | none => 0

/-- A response capsule carries the 16-byte completion entry: dwords 0 and 1, the head pointer, a reserved word, the command identifier and the
status (12 R329; NVMe-oF, log entry 20). The structures and pages an NVMe command returns are its data. -/
def withEntry (s : State) (q : Nat) (m : Msg) : Msg :=
  if m.kind == .nvme then
    { m with body := m.body.take 2 ++ [(2, sqhdOf s q m.op), (2, 0), (2, m.tag), (2, m.status * 2)], data := encodeFlds (m.body.drop 2) ++ m.data }
  else m

/-- The host memory an operation's SGL names: key and address (12 R329). -/
def sglPlace (s : State) (q tag : Nat) : Option (Nat × Nat) :=
  ((s.block.inFlight.find? (fun x => x.ctx == q && x.tag == tag)).bind (fun x => x.sgl)).map (fun g => (g.key.toNat, g.addr.toNat))

/-- A command leaves its submission queue. -/
def takeHead (q : Nat) (s : State) : State :=
  let step (x : NvQueue) : NvQueue := if x.ctx = q then { x with head := (x.head + 1) % max 1 x.size } else x
  { s with block := { s.block with ctrls := s.block.ctrls.map (fun k => { k with queues := k.queues.map step }) } }

/-- A message leaves: on a mailbox as a response; on a session as a SEND, after the WRITE that carries its data, where it has any
(12 R329, R330; log entry 17). A completion of a closed session is discarded (12 R320). -/
def leave (m : Msg) (remote : Option (Nat × Nat)) (s : State) : State :=
  match m.port with
  | .mbx n => freeTag n m.tag (sendMbx n m s)
  | .ctx q =>
    let s1 := finishOp q m.tag s
    let m := withEntry s q m
    if m.data.isEmpty then sendOn q 1 m s1
    else
      let dest : Flds := ((remote.or (sglPlace s q m.tag)).map (fun r => [(4, r.1), (8, r.2)])).getD [(4, 0), (8, 0)]
      sendOn q 1 { m with data := [] } (sendOn q 2 { m with kind := .remoteWrite, op := 2, body := dest } s1)
  | _ => send m s

/-! ## UOP: sources, completions, refusals (05 R122, R125) -/

/-- Where a UOP capsule comes from: a queue, or a mailbox whose command relays it (05 R127). -/
structure Src where
  who  : Principal
  port : Port
  /-- mailbox command and tag, where it is a mailbox -/
  op   : Nat
  tag  : Nat
  /-- its ingress stamp -/
  ingress : Nat
deriving DecidableEq, Repr

/-- A completion (05 Table 5.3). -/
def uopBody (op tag flags status : Nat) (st : CStamp) (payload : Flds) : Flds :=
  [(1, 1), (1, op), (1, tag), (1, flags), (2, status), (2, 0), (4, sizeFlds payload), (4, 0)] ++ cstampFlds st ++ payload

/-- The message that carries a completion to its source. -/
def uopMsg (x : Src) (h : UopHdr) (flags status : Nat) (st : CStamp) (payload : Flds) (data : Bytes) : Msg :=
  let body := uopBody h.opcode.toNat h.tag.toNat flags status st payload
  match x.port with
  | .mbx _ => { port := x.port, kind := .mailbox, op := x.op, tag := x.tag, status := status, body := body, data := data }
  | _ => { port := x.port, kind := .uop, op := h.opcode.toNat, tag := h.tag.toNat, status := status, body := body, data := data }

/-- The class delay of an E_NOT_VISIBLE of an opcode: NV-C for LIST and COLL_DELETE, NV-O otherwise (02 Table 2.7; 05 R126). -/
def uopDelay (s : State) (op : Nat) : Nat := if op = 0x12 ∨ op = 0x51 then nvCDelay else nvODelay s

/-- The release instant of a not-visible answer: the first multiple of the class delay after the ingress stamp (02 R51, R52). -/
def nvInstant (s : State) (ingress delay : Nat) : Nat := ingress + max 1 (ceilDiv (now s - ingress) delay) * delay

/-- Refuses a UOP command: at once, or at its instant (02 R51; 05 R122). -/
def uopRefuse (x : Src) (h : UopHdr) (a : Nat × Flds) (s : State) : State :=
  let m := uopMsg x h 0 a.1 noStamp a.2 []
  if a.1 = eNotVisible then
    let d := uopDelay s h.opcode.toNat
    hold { heldAt m (nvInstant s x.ingress d) with nv := true, nvDelay := d } s
  else leave m none s

/-- Completes a UOP command that changes nothing: at once. -/
def uopDone (x : Src) (h : UopHdr) (status : Nat) (payload : Flds) (s : State) : State :=
  leave (uopMsg x h 0 status noStamp payload []) none s

/-! ## NVMe: answers -/

/-- Packs an NVMe status: DNR, CRD, SCT, SC. -/
def nvStatus (dnr : Bool) (crd sct sc : Nat) : Nat := (if dnr then 16384 else 0) + crd * 2048 + sct * 256 + sc

/-- Invalid Namespace or Format: the NV-B answer (02 Table 2.7). -/
def nvInvalidNs : Nat := 0x000B
/-- Invalid Field in Command. -/
def nvInvalidField : Nat := 0x0002
/-- Connect Invalid Parameters. -/
def nvConnectInvalid : Nat := 0x0182

/-- A response capsule (12 R329): completion dwords 0 and 1, then what the command returns. -/
def nvMsg (q cid op status : Nat) (dw0 : Nat) (body : Flds) (data : Bytes) : Msg :=
  { port := .ctx q, kind := .nvme, op := op, tag := cid, status := status, body := (4, dw0 % 2 ^ 32) :: (4, dw0 / 2 ^ 32) :: body, data := data }

/-- Answers an NVMe command at once. -/
def nvDone (q cid op status dw0 : Nat) (body : Flds) (s : State) : State := leave (nvMsg q cid op status dw0 body []) none s

/-- Refuses an NVMe command at once, or at the NV-B instant (02 R51; 04 R93). -/
def nvRefuse (q cid op ingress status : Nat) (s : State) : State :=
  let m := nvMsg q cid op status 0 [] []
  if status = nvInvalidNs ∨ status = nvConnectInvalid then
    hold { heldAt m (nvInstant s ingress nvCDelay) with nv := true, nvDelay := nvCDelay } s
  else leave m none s

/-! ## What a host command is -/

/-- What admission needs to know of a host command: its queue, tag, whether it is UOP, its cost without SCH_CMD_COST, whether it is a
mutation, the collection or namespace it names, and the capsule whose name the index is walked for, all of its shard's partitions for a LIST. -/
structure HostCmd where
  ctx  : Nat
  tag  : Nat
  uop  : Bool
  data : Nat
  wr  : Bool
  coll : Option Nat
  nsid : Option Nat
  walk : Option Capsule
  all  : Bool
  /-- the LBAs that a Write overwrites: first and count (07 R208) -/
  covers : Option (Nat × Nat)
  /-- the host memory that its SGL names, and whether its data comes from there (12 R329) -/
  sgl    : Option Sgl
  pulls  : Bool
deriving DecidableEq, Repr

/-- A UOP command. A GET waits for its partition at the end of its walk (06 R171). -/
def uopCmd (q : Nat) (c : Capsule) (data : Nat) (wr : Bool) : HostCmd :=
  { ctx := q, tag := c.hdr.tag.toNat, uop := true, data := data, wr := wr, coll := some c.hdr.coll.toNat, nsid := none,
    walk := if c.hdr.opcode.toNat = 0x10 then none else some c, all := c.hdr.opcode.toNat == 0x12, covers := none,
    sgl := none, pulls := false }

/-- An NVMe command that moves no data and changes nothing at a shard; bits 1:0 of its opcode say 01 where data comes from the host. -/
def nvPlain (c : NvmeCmd) : HostCmd :=
  { ctx := c.ctx, tag := c.cid, uop := false, data := 0, wr := false, coll := none, nsid := none, walk := none, all := false, covers := none,
    sgl := c.sgl, pulls := c.opcode.toNat % 4 == 1 }

/-- An NVMe command on a namespace. -/
def nvCmd (c : NvmeCmd) (data : Nat) (wr : Bool) : HostCmd := { nvPlain c with data := data, wr := wr, nsid := some c.nsid.toNat }

/-- Bytes of LBAs counted from zero. -/
def lbaBytes (nlb : Word16) : Nat := (nlb.toNat + 1) * 4096

/-- The queue number under which a capsule relayed by a mailbox waits (05 R127; 07 R193). -/
def relayQueue (mbx : Nat) : Nat := 2 ^ 40 + mbx

/-- The host commands of blocks and objects (15 R372: cost), and the capsules that mailboxes relay. -/
def hostCmd : Instr → Option HostCmd
  | .connect c => some (nvPlain { ctx := c.ctx, cid := c.cid, nsid := 0, opcode := 0x7F, fuse := 0, sgl := none })
  | .disconnect c _ | .propertyGet c _ | .propertySet c _ _ | .getLogPage c _ | .identify c _ _ | .abort c _ _ => some (nvPlain c)
  | .setFeatures c _ _ _ | .getFeatures c _ | .asynchronousEventRequest c | .keepAlive c => some (nvPlain c)
  | .namespaceCreate c _ => some { nvPlain c with wr := true }
  | .sanitize c _ _ => some (nvPlain c)
  | .namespaceDelete c => some (nvCmd c 0 true)
  | .formatNvm c _ => some (nvCmd c 0 true)
  | .flush c => some (nvCmd c 0 false)
  | .nvmeWrite c lba nlb _ _ _ _ => some { nvCmd c (lbaBytes nlb) true with covers := some (lba.toNat, nlb.toNat + 1) }
  | .nvmeRead c _ nlb _ => some (nvCmd c (lbaBytes nlb) false)
  | .compare c _ nlb _ _ _ => some (nvCmd c (lbaBytes nlb) false)
  | .writeZeroes c _ _ => some (nvCmd c 0 true)
  | .datasetManagement c _ _ => some (nvCmd c 0 true)
  | .nvmeVerify c _ _ _ => some (nvCmd c 0 false)
  | .reservationRegister c _ _ _ _ _ => some (nvCmd c 0 true)
  | .reservationReport c => some (nvCmd c 0 false)
  | .reservationAcquire c _ _ _ _ _ => some (nvCmd c 0 true)
  | .reservationRelease c _ _ _ _ => some (nvCmd c 0 true)
  | .put q c b => some (uopCmd q c b.desc.len.toNat true)
  | .putPart q c b => some (uopCmd q c b.desc.len.toNat true)
  | .putAbort q c => some (uopCmd q c 0 true)
  | .sealObject q c _ => some (uopCmd q c 0 true)
  | .get q c b => some (uopCmd q c b.desc.len.toNat false)
  | .head q c => some (uopCmd q c 0 false)
  | .list q c b => some (uopCmd q c b.desc.len.toNat false)
  | .delete q c => some (uopCmd q c 0 true)
  | .copy q c _ => some (uopCmd q c 0 true)
  | .hold q c _ => some (uopCmd q c 0 true)
  | .release q c _ => some (uopCmd q c 0 true)
  | .stopper q c _ => some (uopCmd q c 0 true)
  | .verify q c => some (uopCmd q c 0 false)
  | .collCreate q c _ => some { uopCmd q c 0 true with coll := none }
  | .collDelete q c => some (uopCmd q c 0 true)
  | .uopRelay c cap _ => some { uopCmd (relayQueue c.mbx) cap 0 (cap.hdr.opcode != 0x40) with tag := c.tag }
  | _ => none

/-- The tenant a context's commands are metered against; 0xFFFF is the shelf flow (15 R372). -/
def meterOf (s : State) (q : Nat) : Nat := ((ctxAt s q).bind (fun c => c.who.tenant?)).getD 0xFFFF

/-- Operations a tenant holds (15 R383). -/
def opsOf (s : State) (t : Nat) : Nat := (s.block.inFlight.filter (fun x => x.meter == t)).length

/-- A namespace of a tenant by its NSID (04 R97). -/
def nsOf (s : State) (t nsid : Nat) : Option Ns := s.block.nss.find? (fun n => n.tenant == t && n.nsid == nsid)

/-- The shard and data strips of what a command names. -/
def targetOf (s : State) (c : HostCmd) : Option (Nat × Nat) :=
  match c.coll, c.nsid with
  | some k, _ => (collAt s k).map (fun x => (x.shard, geomData x.geometry))
  | none, some n => (nsOf s (meterOf s c.ctx) n).map (fun x => (x.shard, geomData x.geometry))
  | none, none => none

/-! ## Admission (04 R105; 15 R377, R383) -/

/-- The module serves commands: alone, or paired while it holds its lease (18 R450). -/
def leaseOk (s : State) : Bool :=
  match s.pair.mode with
  | .single | .alone => true
  | .paired => s.pair.leaseHeld
  | .rejoining => s.pair.survivor
  | .handshake | .fenced => false

/-- The stored units of LBAs as pieces of one strip each: segment, row, strip, first unit and count, in order (07 R178). -/
def lbaPieces (n : Ns) (slba : Nat) : Nat → List (Nat × Nat × Nat × Nat × Nat)
  | 0 => []
  | k + 1 =>
    let rest := lbaPieces n (slba + 1) k
    match n.lbas.find? (fun l => l.lba == slba) with
    | none => rest
    | some l =>
      let x := locate (addrSeg l.addr) (addrUnit l.addr) (geomData n.geometry)
      match rest with
      | (g, r, j, q, c) :: ps => if g = addrSeg l.addr ∧ r = x.1 ∧ j = x.2.1 ∧ q = x.2.2.1 + 1 then (g, r, j, x.2.2.1, c + 1) :: ps
          else (addrSeg l.addr, x.1, x.2.1, x.2.2.1, 1) :: rest
      | [] => [(addrSeg l.addr, x.1, x.2.1, x.2.2.1, 1)]

/-- A read of one strip is under way. -/
def stripRead (s : State) (seg row role : Nat) : Bool :=
  allSlots.any (fun n => (portAt s n).cmds.any (fun c => readsStrip c.purpose == some (seg, row, role)))

/-- A write of mapped LBAs may overwrite them at their units: REBUILD-SAFE is in force while the free segments lie below STR_FREE_CRIT, each row is
fully readable and updated once, and no read is reading the LBAs. Under LBA format 1 an LBA's PI stands in another unit, and the write waits (07
R208; log entry 138). -/
def overwritable (s : State) (n : Ns) (slba count : Nat) : Bool :=
  let ps := lbaPieces n slba count
  let rows := ps.map (fun x => (x.1, x.2.1))
  s.layers.overlays.any (fun o => o.cls == 6) && s.layers.removing.isNone && freeBelow s (pStrFreeCrit s) && !n.format1 &&
  (List.range count).all (fun i => n.lbas.any (fun l => l.lba == slba + i && !l.lost)) && rows.eraseDups.length == rows.length &&
  ps.all (fun x => (rowAt s x.1 x.2.1).any (fun w => fullyReadable s w && !w.locked) && !stripRead s x.1 x.2.1 x.2.2.1)

/-- A mutation waits while the free segments lie below STR_FREE_CRIT or the journal is full, whatever it names (07 R193, R204); a write that
overwrites in place does not wait for segments (R208). -/
def mutationWaits (s : State) (c : HostCmd) : Bool :=
  let inPlace (x : Nat × Nat) : Bool := (c.nsid.bind (nsOf s (meterOf s c.ctx))).any (fun n => overwritable s n x.1 x.2)
  c.wr && (journalFull s || (freeBelow s (pStrFreeCrit s) && !c.covers.any inPlace))

/-- The name MAC that a capsule addresses in a tenant's collection (05 Table 5.4). -/
def walkMac (s : State) (t : Nat) (cap : Capsule) : Option Digest :=
  if cap.hdr.addressing = 2 then some cap.hdr.mac
  else if cap.hdr.addressing = 1 then ((tenantAt s t).bind (fun x => x.root)).map (fun r => nameMac r cap.name)
  else none

/-- A walk waits for its partition while the subtree is being rebuilt (06 R171): one of a command that names an object, LIST in every partition, a
block command in its namespace's map. -/
def walkWaits (s : State) (c : HostCmd) : Bool :=
  let t := meterOf s c.ctx
  let num := c.nsid.bind (fun n => (nsOf s t n).map (fun x => 65536 + x.num))
  let part (cap : Capsule) : Option Nat := (walkMac s ((c.coll.bind (collAt s)).elim t (fun x => x.tenant)) cap).map (fun m => m.toNat / 2 ^ 240)
  s.idx.parts.any (fun p => p.rebuilding && (targetOf s c).any (fun x => x.1 == p.shard) &&
    (num == some p.num || (decide (p.num < 65536) && (c.all || c.walk.any (fun cap => part cap == some p.num)))))

/-- The shard of a command admits it: owned, recovered and not on the move; a mutation also needs room at the partner and rows that can be written
(07 R193, R204; 08 R221). -/
def shardAdmits (s : State) (c : HostCmd) : Bool :=
  !mutationWaits s c && !walkWaits s c &&
  (match targetOf s c with
   | none => true
   | some (n, d) =>
     (shardAt s n).owned && (shardAt s n).ready && !(shardAt s n).moving &&
     (!c.wr || ((!mirrors s || decide (c.data < s.pair.room)) && rowWritable s d)))

/-- A tenant erasure holds the tenant's commands back (05 R146, X1). -/
def erasing (s : State) (t : Nat) : Bool := s.obj.erasures.any (fun e => e.tenant == t && e.phase == 1)

/-- A command may be admitted now, QUIET apart; none is during an entry to Drowse or
Dormant or while the drives are being powered down (22 Table 22.4 S1, R519). -/
def admitsNow (s : State) (yellow : Bool) (c : HostCmd) : Bool :=
  let t := meterOf s c.ctx
  let allow := (schedOf s t).opAllow.toNat
  serving s && leaseOk s && s.pst.downStep == 0 && s.pst.entering.isNone && decide (s.block.inFlight.length < 131072) && s.block.shelfSan.isNone && !erasing s t &&
  (t == 0xFFFF || (if yellow then decide (2 * opsOf s t < allow) else decide (opsOf s t < allow))) && shardAdmits s c

/-- The command is for a shard that the partner owns (18 R448). -/
def forPartner (s : State) (c : HostCmd) : Bool :=
  s.pair.mode == .paired && (targetOf s c).any (fun t => !(shardAt s t.1).owned)

/-- A command for the partner is forwarded now: an operation is free for it (18 R448; 01 R25). -/
def forwardsNow (s : State) (c : HostCmd) : Bool := forPartner s c && decide (s.block.inFlight.length < 131072)

/-- A command takes one of the operations. -/
def takeOp (c : HostCmd) (s : State) : State :=
  { s with block := { s.block with inFlight := s.block.inFlight ++ [{ ctx := c.ctx, tag := c.tag, meter := meterOf s c.ctx, sgl := c.sgl }] } }

/-- Data that an SGL names in host memory is read by READ_REQ, once the command has its operation (12 R329; log entry 17). -/
def pullData (c : HostCmd) (s : State) : State :=
  match c.sgl.filter (fun _ => c.pulls) with
  | some g =>
    sendOn c.ctx 4 (msg (.ctx c.ctx) .remoteRead 4 0 0 [(4, g.len.toNat), (4, 0), (4, g.key.toNat), (4, 0), (8, g.addr.toNat)]) s
  | none => s

/-- A command is admitted: it takes an operation, and its admission is mirrored with its capsule, before its splice entries (18 R446,
Table 18.2). -/
def takeIn (i : Instr) (c : HostCmd) (s : State) : State :=
  let s1 := pullData c (takeOp c s)
  mirrorSend { bareRec 1 with shard := ((targetOf s c).map Prod.fst).getD 0, bytes := c.data, ctx := c.ctx, tag := c.tag, cmd := some i }
    { s1 with pair := { s1.pair with acting := some (c.ctx, c.tag) } }

/-- A command has run: what is entered in the splice log after it belongs to none. -/
def actEnds (s : State) : State := { s with pair := { s.pair with acting := none } }

/-- Forwards a command to the owner of its shard (18 R448). -/
def forwardCmd (i : Instr) (c : HostCmd) (s : State) : State :=
  let n := s.pair.nextFwd + 1
  send (msg .pair .forward 1 n 0 [(2, ((targetOf s c).map Prod.fst).getD 0)])
    (bumpFigure 0x08000050 1
      (takeIn i c { s with pair := { s.pair with nextFwd := n, forwarded := s.pair.forwarded ++ [{ num := n, cmd := i }] } }))

/-- In Keep-safe service no host command is admitted: SCT 0x7, SC 0xC1 with CRD 1, or E_STATE (21 R494; 04 Table 4.7). -/
def keepSafeAnswer (i : Instr) (c : HostCmd) (s : State) : State :=
  if c.uop then
    leave (msg (.ctx c.ctx) .uop (uopOp i) c.tag eState (uopBody (uopOp i) c.tag 0 eState noStamp [])) none s
  else nvDone c.ctx c.tag 0 (nvStatus false 1 7 0xC1) 0 [] s
where
  /-- The opcode of a UOP command. -/
  uopOp : Instr → Nat
    | .put _ k _ | .putPart _ k _ | .sealObject _ k _ | .get _ k _ | .list _ k _ | .copy _ k _ | .hold _ k _ => k.hdr.opcode.toNat
    | .release _ k _ | .stopper _ k _ | .collCreate _ k _ => k.hdr.opcode.toNat
    | .putAbort _ k | .head _ k | .delete _ k | .verify _ k | .collDelete _ k => k.hdr.opcode.toNat
    | _ => 0

/-- A host command is refused that needs drives which are powered down: E_STATE, or Namespace Not Ready with DNR 0 (20 R483). -/
def downAnswer (i : Instr) (c : HostCmd) (s : State) : State :=
  if c.uop then
    leave (msg (.ctx c.ctx) .uop (keepSafeAnswer.uopOp i) c.tag eState (uopBody (keepSafeAnswer.uopOp i) c.tag 0 eState noStamp [])) none s
  else nvDone c.ctx c.tag 0 (nvStatus false 0 0 0x82) 0 [] s

/-- A command that waits, with the Custody Time of its ingress (04 R105; 05 R142). -/
def waitingAt (ingress : Nat) (yellow : Bool) (i : Instr) (s : State) : Waiting :=
  { ingress := ingress, custody := (custodySec s, anchored s), yellow := yellow, cmd := i }

/-- Admits a command, forwards it, or leaves it waiting in its receive buffer (04 R105). `run` is what it does when admitted, from
its ingress stamp. -/
def admitNow (i : Instr) (c : HostCmd) (ingress : Nat) (yellow : Bool) (run : Nat → State → State) (s : State) : State :=
  let t := meterOf s c.ctx
  let first := !(s.block.waiting.any (fun w => meterOf s ((hostCmd w.cmd).elim 0 (fun x => x.ctx)) == t))
  if s.pwr.keepSafe then keepSafeAnswer i c s
  else if first && (quietOf s t).isNone && forwardsNow s c && serving s && leaseOk s then forwardCmd i c s
  else if first && (quietOf s t).isNone && admitsNow s yellow c then actEnds (needsDrives (downAnswer i c) (run ingress) (takeIn i c s))
  else
    let s1 := { s with block := { s.block with waiting := s.block.waiting ++ [waitingAt ingress yellow i s] } }
    if 131072 ≤ s.block.inFlight.length then raise stSCH 2 noInst s1 else s1

/-- Meters a command (15 R372 to R376). -/
def meterCmd (c : HostCmd) (s : State) : Colour × State :=
  let t := meterOf s c.ctx
  let cost := c.data + pSchCmdCost s
  if t = 0xFFFF then meterShelf cost s
  else meterTenant t cost (classOf s (((ctxAt s c.ctx).map (fun x => x.mac)).getD 0)) s

/-- A command refused red counts in its tenant's figures, and in the shelf total but under QUIET (15 R377; 02 R58). -/
def countRed (t : Nat) (s : State) : State :=
  let s1 := if (quietOf s t).isSome then s else bumpFigure 0x0300003C 1 s
  { s1 with obj := { s1.obj with tenants := mapIf (fun x => x.num == t) (fun x => { x with red := x.red + 1 }) s1.obj.tenants } }

/-- A UOP tag is held (05 R119): admitted, waiting, or its completion has not left. -/
def uopTagHeld (s : State) (q tag : Nat) : Bool :=
  s.block.inFlight.any (fun x => x.ctx == q && x.tag == tag) ||
  s.block.waiting.any (fun w => (hostCmd w.cmd).any (fun c => c.ctx == q && c.tag == tag)) ||
  s.held.any (fun h => h.msg.port == .ctx q && h.msg.kind == .uop && h.msg.tag == tag) ||
  (ctxAt s q).any (fun c => c.outMsgs.any (fun o => o.queued && o.what.kind == .uop && o.what.tag == tag))

/-- A host command arrives on its queue (04 R105; 05 R119; 15 R377). A command on a context that is closed or of another service is
ignored; a UOP tag held or not below the depth is refused at once. `early` gives the first failing check of classes 0x01 to 0x03,
`refuse` answers a status. -/
def arrive (i : Instr) (early : State → Option (Nat × Flds)) (refuse : Nat → Nat × Flds → State → State) (run : Nat → State → State)
    (s : State) : State :=
  match hostCmd i with
  | none => s
  | some c =>
    match ctxAt s c.ctx with
    | none => s
    | some x =>
      if x.closing || x.helloOnly || (c.uop && !isUop x) || (!c.uop && !isNvme x) then s
      else
        let s0 := hostWork s
        if c.uop && (decide (x.depth ≤ c.tag) || uopTagHeld s0 c.ctx c.tag) then
          sendOn c.ctx 1 (msg (.ctx c.ctx) .uop (keepSafeAnswer.uopOp i) c.tag eTag
            (uopBody (keepSafeAnswer.uopOp i) c.tag 1 eTag noStamp [])) s0
        else
          match meterCmd c s0 with
          | (.red, s1) =>
            let s2 := countRed (meterOf s1 c.ctx) s1
            match early s2 with
            | some a => refuse (now s2) a s2
            | none => refuse (now s2) (if c.uop then eRate else nvStatus false 0 7 0xC0, []) s2
          | (.yellow, s1) => admitNow i c (now s1) true run s1
          | (.green, s1) => admitNow i c (now s1) false run s1

/-- A refusal of class 0x01 to 0x03 among the checks of a UOP command, in their order (15 R377). -/
def lowClass (a : Option (Nat × Flds)) : Option (Nat × Flds) := a.filter (fun x => decide (x.1 < 0x400))

/-! ## Choosing among waiting commands (15 R380 to R383) -/

/-- The context of a waiting command. -/
def waitCtx (w : Waiting) : Nat := (hostCmd w.cmd).elim 0 (fun c => c.ctx)

/-- The subflow a waiting command of a tenant belongs to, and its weight (15 R382). -/
def subflow (s : State) (t : Nat) (w : Waiting) : Nat × Nat :=
  match hostCmd w.cmd with
  | some c => match c.coll, c.nsid with
    | some n, _ => subOf s t 1 n
    | none, some n => subOf s t 2 n
    | none, none => subOf s t 0 0
  | none => subOf s t 0 0

/-- The heads of the waiting commands: of each subflow the first whose queue has none before it, and that may be admitted, of the tenants
that `sel` accepts. -/
def admitHeads (s : State) (sel : Nat → Bool) : List Nat → List (Nat × Nat) → List Waiting → List Waiting
  | _, _, [] => []
  | qs, fs, w :: ws =>
    let t := meterOf s (waitCtx w)
    let k := (t, (subflow s t w).1)
    let ok := sel t && (hostCmd w.cmd).any (fun c => admitsNow s w.yellow c || forwardsNow s c)
    if qs.contains (waitCtx w) then admitHeads s sel qs fs ws
    else if fs.contains k then admitHeads s sel (waitCtx w :: qs) fs ws
    else if ok then w :: admitHeads s sel (waitCtx w :: qs) (k :: fs) ws
    else admitHeads s sel (waitCtx w :: qs) fs ws

/-- The heads as the admission scheduler sees them: flows of tenants, and their subflows (15 R382, R383). -/
def admHead (s : State) (w : Waiting) : FlowHead Waiting :=
  let t := meterOf s (waitCtx w)
  let sub := subflow s t w
  { path := [tenantFlow s t, (.sub t sub.1, sub.2)], cost := (hostCmd w.cmd).elim 0 (fun c => c.data) + pSchCmdCost s, item := w }

/-- The command the admission scheduler serves next, with its virtual time and flows after it (15 R380). -/
def admitPick (s : State) (sel : Nat → Bool) : Option (Waiting × Nat × List Flow) :=
  let heads := (admitHeads s sel [] [] s.block.waiting).map (admHead s)
  let flows := wakeHeads s.sch.admV heads s.sch.admFlows
  (fairPick flows 2 0 heads).map (fun h => (h.item, fairServe s.sch.admV h.cost h.path flows))

/-- The scheduler serves a command: it leaves the receive buffer and its flows' tags advance (15 R380). -/
def admServe (x : Waiting × Nat × List Flow) (s : State) : State :=
  { s with block := { s.block with waiting := s.block.waiting.erase x.1 }, sch := { s.sch with admV := x.2.1, admFlows := x.2.2 } }

end Machine
end Sys2Proof
end

