-- ==== Sys2Proof/Machine/TransportIn.lean ====
section
/-!
DEFINITION. Packets that arrive: what authenticates, the holding areas, offsets and ages, reassembly, pushes into landing regions,
acknowledgements, resending, congestion, and the credentials of setups (12 R305 to R333; 13 R340 to R344; 15 R379, R388). Instants of
arrival are on the timeline of deadlines.
-/
namespace Sys2Proof
namespace Machine

/-! ## Who answers and what is dropped (12 R309; 15 R388; 24 R536) -/

/-- The network side takes packets: service is open and the module is not in Dormant (24 R536; 14 R369). -/
def taking (s : State) : Bool := serving s && s.pst.mode != .dormant

/-- A packet dropped under R309 or R332 is counted in TRN_AUTH_FAIL. -/
def authFail (s : State) : State := bumpFigure 0x12000050 1 s

/-- The Bryndle context a packet names, of the current generation (R304, R309). -/
def ctxFor (s : State) (n gen : Nat) : Option Ctx := (ctxAt s n).filter (fun c => c.gen == gen && !isQp c && !c.closing)

/-- A packet or setup of a tenant under QUIET on a MAC not named is dropped, counted in the tenant's own figures (15 R388). -/
def quietDrops (s : State) (t : Option Nat) (mac : Nat) : Bool := (t.bind (quietOf s)).any (fun q => !q.item.macs.getLsbD mac)

/-- Counts a drop of R388. -/
def countDrop (t : Option Nat) (s : State) : State :=
  let upd (x : Tenant) : Tenant := { x with drops := x.drops + 1 }
  { s with obj := { s.obj with tenants := mapIf (fun x => some x.num == t) upd s.obj.tenants } }

/-! ## The context store and the holding areas (12 R304 to R307) -/

/-- A context is not replaced while it has a held packet or a message in reassembly (R307). -/
def pinned (s : State) (c : Ctx) : Bool := s.trn.holding.any (fun h => h.ctx == c.num) || c.inMsgs.any (fun m => m.whole.isNone)

/-- The least recently used on-die context that may be replaced (R307). -/
def evictee (s : State) : Option Ctx :=
  match s.trn.ctxs.filter (fun c => c.place == .onDie && !pinned s c) with
  | [] => none
  | c :: cs => some (cs.foldl (fun a b => if b.used < a.used then b else a) c)

/-- A context becomes on-die; where 65,536 are, the least recently used one makes room (R304, R307). -/
def bringIn (c : Ctx) (s : State) : State :=
  let full := decide (65536 ≤ (s.trn.ctxs.filter (fun x => x.place == .onDie)).length)
  let s1 := match full, evictee s with
    | true, some v => putCtx { v with place := .dram } s
    | _, _ => s
  putCtx { c with place := .onDie } s1

/-- A fetch is issued for a context in DRAM (R305, R318). -/
def startFetch (c : Ctx) (s : State) : State := if c.place == .dram then putCtx { c with place := .fetching } s else s

/-- Bytes waiting in the holding area of a port. -/
def heldBytes (s : State) (port : Nat) : Nat := ((s.trn.holding.filter (fun h => h.port == port)).map (fun h => h.bytes)).sum

/-- A packet whose context is not on-die waits in its port's holding area; `none` when the area is full (R305, R306). -/
def holdPacket (i : Instr) (c : Ctx) (mac bytes : Nat) (s : State) : Option State :=
  let port := mac / 8
  if 4096 ≤ (s.trn.holding.filter (fun h => h.port == port)).length ∨ missKib s * 1024 < heldBytes s port + bytes then none
  else
    let h : HeldPacket := { port := port, ctx := c.num, bytes := bytes, ingress := mono s, cmd := i }
    some (startFetch c { s with trn := { s.trn with holding := s.trn.holding ++ [h] } })

/-- A packet of a context is held, so no timeout on it is confirmed (03 R83). -/
def packetHeld (s : State) (ctx : Nat) : Bool := s.trn.holding.any (fun h => h.ctx == ctx)

/-- A packet finds its holding area full: it is dropped (R306). -/
def missDrop (s : State) : State := raise stTRN 0 noInst (bumpFigure 0x12000058 1 s)

/-- A Bryndle packet that found its context: handled now, or held (R305, R306). -/
def onDieOr (i : Instr) (c : Ctx) (mac bytes : Nat) (now_ : Nat → Ctx → State → State) (s : State) : State :=
  if c.place == .onDie && !packetHeld s c.num then now_ (mono s) c s
  else (holdPacket i c mac bytes s).getD (missDrop s)

/-- What every packet whose tag passes does to its context: it is heard at its ingress stamp (03 R81), it is the most recent (R307, R308), and the module has seen
host traffic (22 R515). -/
def passTag (c : Ctx) (mac ing : Nat) (src : PeerAddr) (s : State) : State :=
  putCtx { c with heard := max c.heard ing, used := s.trn.clock + 1, mac := mac, src := src }
    { s with trn := { s.trn with clock := s.trn.clock + 1 }, pst := { s.pst with lastPkt := max s.pst.lastPkt ing } }

/-! ## ESP (12 R332) -/

/-- A sequence number is new in an anti-replay window of 1,024 (R332; RFC 4303). -/
def espFresh (w : EspWin) (q : Nat) : Bool := decide (0 < q) && (decide (w.top < q) || (decide (w.top < q + 1024) && !w.seen.contains q))

/-- The window after a sequence number is accepted. -/
def espTake (w : EspWin) (q : Nat) : EspWin :=
  let top := max w.top q
  { top := top, seen := (q :: w.seen).filter (fun x => decide (top < x + 1024)) }

/-! ## Offset and age (12 R312, R313) -/

/-- An instant of the timeline of deadlines as a timestamp (R312). -/
def stampOf (s : State) (ing : Nat) : Nat := (now s - (mono s - ing)) / nsU % 281474976710656

/-- The offset estimate as it has risen, at 200 ppm of elapsed Shelf Time (R313). -/
def offsetNow (c : Ctx) (ing : Nat) : Int := c.offset + ((ing - c.offsetAt) / nsU * 200 / 1000000 : Nat)

/-- The context after a packet with a timestamp has lowered the estimate, where it does (R313). -/
def lowerOffset (s : State) (c : Ctx) (ing ts : Nat) : Ctx :=
  let d : Int := signed48 ((stampOf s ing : Int) - (ts : Int))
  if signed48 (d - offsetNow c ing) < 0 then { c with offset := d, offsetAt := ing } else c

/-- The age of a message in ns (R313). -/
def ageOf (s : State) (c : Ctx) (ing ts : Nat) : Int := signed48 ((stampOf s ing : Int) - (ts : Int) - offsetNow c ing)

/-! ## Acknowledging (12 R314, R317, R318) -/

/-- The fields of ACK and STATUS (Table 12.3). -/
def ackFlds (c : Ctx) : Flds :=
  let bit (m : InMsg) : Nat := if m.whole.isSome && seqAfter c.through m.seq && decide (seqDist c.through m.seq ≤ 256)
    then 2 ^ (seqDist c.through m.seq - 1) else 0
  [(4, c.through), (4, 0), (32, (c.inMsgs.map bit).sum), (4, c.ceMarks), (4, 0)]

/-- Records that must be mirrored before an ACK of a context leaves: admissions and landing pushes (18 Table 18.2). -/
def ackWaits (s : State) (n : Nat) : Bool := s.pair.unacked.any (fun r => (r.kind == 1 || r.kind == 3) && r.ctx == n)

/-- Sends an ACK now; one that covers what the partner does not hold yet stays due (18 R445). -/
def sendAck (n : Nat) (s : State) : State :=
  match ctxAt s n with
  | none => s
  | some c =>
    if ackWaits s n then putCtx { c with ackDue := some (c.ackDue.getD (mono s)) } s
    else sendCtl n 2 (ackFlds c) (putCtx { c with ackDue := none, ceMarks := 0, ackSeen := some (mono s) } s)

/-- An ACK is due within TRN_ACK_DELAY from now (R317). -/
def dueAck (n : Nat) (s : State) : State :=
  match ctxAt s n with
  | none => s
  | some c => putCtx { c with ackDue := some (c.ackDue.getD (mono s)) } s

/-- An ACK for a duplicate: at once, but at most one per TRN_ACK_DELAY (R314, R317). -/
def paceAck (n : Nat) (s : State) : State :=
  match ctxAt s n with
  | none => s
  | some c => if c.ackSeen.any (fun t => decide (mono s < t + ackW c)) then dueAck n s else sendAck n s

/-- The runs of missing packet indices from `i` on, as first index and count (Table 12.3). -/
def gaps (got : List Nat) : Nat → Nat → Option (Nat × Nat) → List (Nat × Nat)
  | 0, _, cur => cur.toList
  | k + 1, i, cur =>
    if got.contains i then cur.toList ++ gaps got k (i + 1) none
    else gaps got k (i + 1) (some (match cur with | some (f, n) => (f, n + 1) | none => (i, 1)))

/-- The missing ranges of a message. -/
def missingOf (m : InMsg) : List (Nat × Nat) := gaps (m.got.map Prod.fst) m.count 0 none

/-- Sends a NAK that names at most 64 missing ranges of a message (Table 12.3). -/
def sendNak (n : Nat) (m : InMsg) (s : State) : State :=
  let rs := (missingOf m).take 64
  if rs.isEmpty then s
  else sendCtl n 3 ([(4, m.seq), (2, rs.length), (2, 0)] ++ (rs.map (fun r => [(2, r.1), (2, r.2)])).flatten) s

/-! ## Sending again (12 R311, R318, R319) -/

/-- Sends packets of a message again, byte-identical (R311): ranges of first index and count. Those of a queue pair keep their PSNs, under new
numbers of their SA (R332). -/
def resend (n : Nat) (o : OutMsg) (ranges : List (Nat × Nat)) (s0 : State) : State :=
  match ctxAt s0 n with
  | none => s0
  | some c =>
    let pk := (ranges.map Prod.snd).sum
    let (heads, s) := if isQp c then espSend c pk s0 else ((ranges.map (fun r => (o.wire.drop r.1).take r.2)).flatten, s0)
    transmit c.mac .fair (ctxFlow c) (classOf s c.mac) (pk * (64 + c.payload))
      { msg (.ctx n) (if isQp c then .roce else .bryndle) 1 o.id 0 ((4, o.seq) :: (ranges.map (fun r => [(2, r.1), (2, r.2)])).flatten) with
        wire := heads.map (fun b => (c.src, b)) }
      (putCtx { c with txCount := c.txCount + pk } s)

/-! ## Congestion (15 R379) -/

/-- A congestion signal: the rate falls to three quarters, not below SCH_CC_MIN, at most once per CNP interval; the recovery timer
starts anew. -/
def ccSignal (n : Nat) (s : State) : State :=
  match ctxAt s n with
  | none => s
  | some c =>
    if c.rateCut.any (fun t => decide (mono s < t + c.set.cnpGap * usU)) then putCtx { c with rateAt := mono s } s
    else putCtx { c with cc := ccNow s c, ccAt := refillsNow s, rate := max (pSchCcMin s) (c.rate * 3 / 4), rateAt := mono s,
                         rateCut := some (mono s) } s

/-! ## Pushes (13 R340, R341, R343, R344) -/

/-- One principal: of one kind, tenant and holder (13 R340). -/
def samePrincipal (a b : Principal) : Bool :=
  match a, b with
  | .custodian x, .custodian y => x == y
  | .tenant n, .tenant m => n == m
  | .depositor n _ x, .depositor m _ y => n == m && x == y
  | .reader n _ x, .reader m _ y => n == m && x == y
  | .auditor _ x, .auditor _ y => x == y
  | .operator _ x, .operator _ y => x == y
  | .peer x, .peer y => x == y
  | _, _ => false

/-- The region a key names for a pushing context, if the push is admitted: of its own transport, of its own principal (for a peer
shelf of its own session), in range, and not revoked before the stamp (R340, R343). -/
def admitPush (s : State) (c : Ctx) (key addr len ing : Nat) : Option Region :=
  let num := if isQp c then key else key % 1048576
  match regionAt s num, ctxAt s num with
  | some r, some o =>
    let own := match c.who with
      | .peer _ => o.num == c.num
      | _ => samePrincipal o.who c.who
    let named := if isQp c then r.roce && decide (key < 16777216) else !r.roce && decide (o.gen = key / 1048576)
    let live := r.phase == .active || (r.phase == .revoking && decide (ing ≤ r.revoked))
    if own && named && live && decide (addr + len ≤ r.size) then some r else none
  | _, _ => none

/-- Free bytes (log entry 2). -/
def freeRun (n : Nat) (s : State) : Bytes × State :=
  let k := s.auth.freeUsed
  ((List.range n).map (fun i => BitVec.ofNat 8 (Config.freeValue (k + i))), { s with auth := { s.auth with freeUsed := k + n } })

/-- An admitted push stands against its region; the bytes it covers are unspecified until it is delivered (12 R321). -/
def takePush (r : Region) (n id addr len : Nat) (s : State) : State :=
  let f := freeRun len s
  putRegion { r with pushes := r.pushes ++ [(n, id)] } (landWrite r addr f.1 f.2)

/-- A push is refused (13 R344). -/
def countRefused (s : State) : State := raise stRG 1 noInst (bumpFigure 0x12000114 1 s)

/-- A delivered push is mirrored, unless its region is a hitch's (18 R445). -/
def mirrorPush (n at_ : Nat) (data : Bytes) (s : State) : State :=
  if (ctxAt s n).any (fun c => c.kind != .bryndle 3) then mirrorSend { bareRec 3 with bytes := data.length, ctx := n, addr := at_, data := data } s else s

/-- A push stands against its region no more: it is delivered or abandoned (13 R345). -/
def endPush (n id : Nat) (s : State) : State :=
  let upd (r : Region) : Region := { r with pushes := r.pushes.filter (fun p => p != (n, id)) }
  { s with reg := { s.reg with regions := s.reg.regions.map upd } }

/-- A refused push that has come to its turn closes its session (13 R344). -/
def refusalTurn (n : Nat) (s : State) : State :=
  match ctxAt s n with
  | none => s
  | some c => if c.inMsgs.any (fun m => m.refused && m.seq == seqNext c.through) then closeCtx eRegion n s else s

/-! ## Reassembly (12 R314, R315) -/

/-- Changes a message in reassembly or held. -/
def mapIn (n seq : Nat) (f : InMsg → InMsg) (s : State) : State :=
  match ctxAt s n with
  | none => s
  | some c => putCtx { c with inMsgs := mapIf (fun m => m.seq == seq) f c.inMsgs } s

/-- Discards a message in reassembly and abandons its push (12 R315, R319; 13 R345). -/
def discardIn (n seq : Nat) (s : State) : State :=
  match ctxAt s n with
  | none => s
  | some c =>
    let gone := c.inMsgs.filter (fun m => m.seq == seq && m.whole.isNone)
    gone.foldl (fun acc (m : InMsg) => endPush n m.id acc)
      (putCtx { c with inMsgs := dropIf (fun m => m.seq == seq && m.whole.isNone) c.inMsgs } s)

/-- The seen table's name of a session. -/
def seenKey (c : Ctx) : Nat := c.gen * 1048576 + c.num

/-- The bytes of a message, its packets in order (R310). -/
def msgBytes (m : InMsg) : Bytes := ((List.range m.count).map (fun i => (m.got.lookup i).getD [])).flatten

/-- A message's first packet: admission of a push is decided with it (13 R343). -/
def startMsg (c : Ctx) (p : DataPkt) (ing : Nat) (s : State) : State :=
  let m : InMsg :=
    { id := p.id, seq := p.seq, opcode := p.opcode, count := p.count, got := [], length := p.length, key := p.key, addr := p.addr,
      imm := p.imm, first := ing, whole := none, region := none, refused := false, nakAt := none }
  let entry := (seenKey c, p.id, mono s + 2 * freshW c)
  let s1 := { s with trn := { s.trn with seen := putBy (fun e => e.1 == seenKey c && e.2.1 == p.id) entry s.trn.seen } }
  let add (m : InMsg) (t : State) : State :=
    match ctxAt t c.num with
    | none => t
    | some x => putCtx { x with inMsgs := x.inMsgs ++ [m] } t
  if p.opcode = 2 ∨ p.opcode = 3 then
    match admitPush s1 c p.key.toNat p.addr.toNat p.length ing with
    | some r => add { m with region := some r.owner } (takePush r c.num p.id p.addr.toNat p.length s1)
    | none => countRefused (add { m with refused := true } s1)
  else add m s1

/-- A packet joins its message: it may be whole with it, else a NAK becomes due for it where a packet with a lower index is missing,
and for every earlier message that is not whole (R317). -/
def joinMsg (n : Nat) (p : DataPkt) (ing : Nat) (s : State) : State :=
  match ctxAt s n with
  | none => s
  | some c =>
    let late (m : InMsg) : Bool := m.whole.isNone && seqAfter m.seq p.seq
    let mark (m : InMsg) : InMsg := { m with nakAt := some (m.nakAt.getD ing) }
    let join (m : InMsg) : InMsg :=
      let got := (p.index, p.data) :: m.got
      if got.length = m.count then { m with got := got, whole := some ing, nakAt := none }
      else if (List.range p.index).any (fun i => (got.lookup i).isNone) then mark { m with got := got }
      else { m with got := got }
    let l := mapIf late mark (mapIf (fun m => m.seq == p.seq && !m.refused) join c.inMsgs)
    let whole := l.any (fun m => m.seq == p.seq && m.whole.isSome)
    let s1 := putCtx { c with inMsgs := l } s
    refusalTurn n (if whole then dueAck n s1 else s1)

/-! ## Setups: principals and limits (02 R31 to R34; 12 R325; 13 R339; 19 R463, R464) -/

/-- A key holds a role (02 R32). -/
def keyHas (s : State) (k : Digest) (p : KeyRole → Bool) : Bool := s.auth.keys.any (fun x => x.1 == k && p x.2)

/-- The principal a credential names: kind 1 tenant, 2 grant, 3 peer shelf, 4 custodian key (12 Table 12.4); none where the key is not
enrolled in the role its kind claims. -/
def credential (s : State) (kind : Nat) (key : Digest) (grant : Option GrantRec) : Option Principal :=
  match kind, grant with
  | 1, _ => (s.obj.tenants.find? (fun t => t.key == key)).map (fun t => .tenant t.num)
  | 2, some g =>
    let id : GrantId := { issuer := g.issuer, serial := g.serial.toNat }
    if grantAt s id ≠ some g ∨ g.holder ≠ key then none
    else
      match g.kind.toNat with
      | 1 => some (.depositor g.tenant.toNat id key)
      | 2 => some (.reader g.tenant.toNat id key)
      | 3 => some (.auditor id key)
      | 4 => some (.operator id key)
      | _ => none
  | 3, _ => some (.peer 0)
  | 4, _ => if s.auth.custKeys.contains key then some (.custodian key) else none
  | _, _ => none

/-- A service accepts a principal (Table 12.1); RoCE v2 that is not enabled refuses service 5 (Table 12.7). -/
def serviceTakes (s : State) (service : Nat) : Principal → Bool
  | .tenant _ => service == 1 || service == 2 || service == 4 || (service == 5 && pTrnRoceCtrl0 s == 1)
  | .depositor _ _ _ | .reader _ _ _ => service == 1 || service == 2 || (service == 5 && pTrnRoceCtrl0 s == 1)
  | .auditor _ _ => service == 2 || service == 4 || (service == 5 && pTrnRoceCtrl0 s == 1)
  | .custodian _ => service == 4
  | .peer _ => service == 3
  | .operator _ _ => false

/-- Two connections of one principal identity (19 R464). -/
def samePeer (a b : Principal) : Bool := samePrincipal a b

/-- The lowest free mailbox of the Bryndle and tether paths: 16 to 63, not bound to the endpoint (19 Table 19.1). -/
def freeMailbox (s : State) : Option Nat := (List.range 64).find? (fun m => decide (16 ≤ m) && !onEndpoint s m && (connAt s m).isNone)

/-- A principal may take one more mailbox connection, and a mailbox is free for it (19 R464). -/
def mailboxRefusal (s : State) (p : Principal) : Option Nat :=
  if 2 ≤ (s.mbx.conns.filter (fun c => samePeer c.who p)).length ∨ (freeMailbox s).isNone then some eMailboxFull else none

/-- The key a principal's commands are signed with. -/
def keyOfPrincipal (s : State) : Principal → Digest
  | .custodian k => k
  | .tenant n => ((tenantAt s n).map (fun t => t.key)).getD 0
  | .depositor _ _ k | .reader _ _ k | .auditor _ k | .operator _ k => k
  | .peer _ => 0

/-- Opens the mailbox connection of a service 4 session (19 R464). -/
def openConn (path : MbxPath) (who : Principal) (nonce : Digest) (s : State) : State :=
  match freeMailbox s with
  | none => s
  | some m =>
    let k : Conn := { mbx := m, path := path, who := who, key := keyOfPrincipal s who, nonce := nonce, counter := 0,
                      lastReq := mono s, tags := [], unanchored := !anchored s }
    let r : EvRing := { mbx := some m, records := [], overflow := none, nextSeq := 0, returned := 0 }
    { putConn k s with ev := { s.ev with rings := dropIf (fun x => x.mbx == some m) s.ev.rings ++ [r] } }

/-- The largest Bryndle payload size among those offered that the MAC's frames carry: P + 134 ≤ MAC_FRAME_MAX (12 R310; 14 R360); the tether's
carry each of them (18 Table 18.4). -/
def choosePayload (s : State) (mac : Nat) (sizes : BitVec 3) : Option Nat :=
  let ok (bit p : Nat) : Bool := sizes.getLsbD bit && (onTether mac || decide (p + 134 ≤ pMacFrameMax s mac))
  if ok 2 8192 then some 8192 else if ok 1 4096 then some 4096 else if ok 0 1024 then some 1024 else none

/-- The largest RoCE path MTU: at most TRN_ROCE_CTRL [6:4], and carried by the MAC's frames (12 Table 12.6; 14 R360). -/
def choosePmtu (s : State) (mac : Nat) : Nat :=
  let ok (code p : Nat) : Bool := decide (code ≤ pTrnRoceCtrl4 s) && decide (p + 160 ≤ pMacFrameMax s mac)
  if ok 5 4096 then 4096 else if ok 4 2048 then 2048 else 1024

/-- The payload size as its bit (Table 12.4). -/
def payloadBit (p : Nat) : Nat := if p = 8192 then 4 else if p = 4096 then 2 else 1

/-- The session field of a context: number and generation (Table 12.2). -/
def sessionField (c : Ctx) : Nat := c.gen * 1048576 + c.num

/-- SPIs of a service 5 session: both are its session field (log entry 23). -/
def withSpis (c : Ctx) : Ctx :=
  match c.kind with
  | .bryndle 5 => { c with spiIn := sessionField c, spiOut := sessionField c }
  | _ => c

/-- The far end of a session: its context, its address, the session's keys. -/
structure FarEnd where
  peer : Nat
  src  : PeerAddr
  keys : SessionKeys
deriving DecidableEq, Repr

/-- A session opens: its context, its region, its mailbox (12 R325; 13 R338; 19 R464). Answers its number. -/
def openSession (kind : CtxKind) (who : Principal) (mac payload depth : Nat) (offset : Int) (nonce : Digest)
    (far : FarEnd) (s : State) : Nat × State :=
  let n := lowestCtx s
  let c := { withSpis (newCtx s n kind who mac payload depth offset) with peer := far.peer, src := far.src, keys := far.keys }
  let c1 := { c with helloOnly := kind == .bryndle 3 }
  let s1 := bringIn c1 (allocCtx c1 s)
  (n, if kind == .bryndle 4 then openConn (if onTether mac then .tether n else .bryndle n) who nonce s1 else s1)

/-- What a principal's setup of a service is refused with, after its signatures: the grant's validity, the kind for the service, the
limits, the mailbox, and under QUIET a payload that does not fit (12 R325; 13 R339; 15 R389; 19 R464). -/
def setupRefusal (s : State) (service payload : Nat) (who : Principal) : Option Nat :=
  if !grantOk s who then some eDenied
  else if !serviceTakes s service who then some eDenied
  else
    match setupLimit s (.bryndle service) who with
    | some e => some e
    | none =>
      if service = 4 then mailboxRefusal s who
      else if (who.tenant?.bind (quietOf s)).any (fun q => decide (q.item.sizeE.toNat < payload + 134)) then some eCipher
      else none

end Machine
end Sys2Proof
end

