-- ==== Sys2Proof/Machine/HitchOps.lean ====
section
/-!
DEFINITION. The hitch's Myavo messages, and what the source tells its target of locks and deletions (11 R283, R291, R292).
-/
namespace Sys2Proof
namespace Machine

/-- A hitch by its id. -/
def hitchAt (s : State) (id : BitVec 128) : Option Hitch := s.hitch.list.find? (fun h => h.record.id == id)

/-- Writes a hitch. -/
def putHitch (h : Hitch) (s : State) : State :=
  { s with hitch := { list := putBy (fun x => x.record.id == h.record.id) h s.hitch.list } }

/-- Changes a hitch. -/
def mapHitch (id : BitVec 128) (f : Hitch → Hitch) (s : State) : State :=
  { s with hitch := { list := mapIf (fun x => x.record.id == id) f s.hitch.list } }

/-- Neither CLOSED nor ABORTED. -/
def hitchLive (h : Hitch) : Bool := h.state != .closed && h.state != .aborted

/-- A pairing record (11 Table 11.1). -/
def pairingFlds (p : PairingRec) : Flds :=
  [(4, 0x50485655), (2, p.version.toNat), (2, 0), (16, p.id.toNat), (8, p.srcShelf.toNat), (8, p.dstShelf.toNat), (32, p.srcA.toNat),
   (32, p.srcB.toNat), (32, p.dstA.toNat), (32, p.dstB.toNat), (32, p.srcCust.toNat), (32, p.dstCust.toNat), (8, p.notBefore),
   (8, p.notAfter), (4, p.rate.toNat), (1, p.streams.toNat), (1, p.geometry.toNat), (2, p.count.toNat)] ++
    (p.scope.map (fun e => [(2, e.tenant.toNat), (2, e.coll.toNat), (4, 0), (32, e.key.toNat)])).flatten

/-! ## The vault of both modules (R298) -/

/-- The code of a hitch state, in the order of Table 11.2. -/
def hitchCode : HitchState → Nat
  | .opening => 0
  | .streaming => 1
  | .suspended => 2
  | .closing => 3
  | .closed => 4
  | .aborted => 5

/-- A manifest line (Table 11.7). -/
def lineFlds (l : ManifestLine) : Flds :=
  [(2, l.srcColl), (2, l.dstColl), (1, l.result), (3, 0), (32, l.srcMac.toNat), (32, l.dstMac.toNat), (8, l.size), (32, l.srcF3.toNat),
   (32, l.srcF2.toNat), (32, l.dstF3.toNat), (32, l.dstF2.toNat), (8, l.srcPos), (8, l.dstPos), (8, 0)]

/-- The lines of a batch. -/
def manifestFlds (b : HBatch) : Flds := (b.lines.map lineFlds).flatten

/-- The objects of a source that are in flight or still to be sent, as keys. -/
def leftToSend (h : Hitch) : List (Nat × Digest) := h.flight.map (fun f => (f.line.srcColl, f.line.srcMac)) ++ h.todo

/-- A list in a message: its length, then its items. -/
def listFlds {α : Type} (f : α → Flds) (l : List α) : Flds := (4, l.length) :: (l.map f).flatten

/-- What the partner's vault keeps of a hitch, as it crosses the pair link (DESIGN CHOICE, log entry 146). -/
def vaultFlds (h : Hitch) : Flds :=
  let flag (b : Bool) : Fld := (1, if b then 1 else 0)
  let key (x : Nat × Digest) : Flds := [(2, x.1), (32, x.2.toNat)]
  pairingFlds h.record ++ [flag h.source, (1, hitchCode h.state), flag h.ctx.isSome, (8, h.sent), (8, h.received), (4, h.pass), flag h.closing, flag h.final,
    (32, (h.peerKey.getD 0).toNat), (32, h.peerLanyard.toNat)] ++ listFlds (fun x => [(2, x.1), (2, x.2)]) h.collMap ++
  listFlds (fun x => (2, x.1) :: cstampFlds x.2) h.cuts ++ listFlds key (leftToSend h) ++
  listFlds (fun b => [(2, b.tenant), (8, b.number), flag b.closed, flag b.receipted, flag b.acked] ++ listFlds (fun l => lineFlds l) b.lines) h.batches ++
  listFlds key h.chains ++ listFlds (fun d => [(2, d.1), (32, d.2.1.toNat), (32, d.2.2.1.toNat)] ++ cstampFlds d.2.2.2) h.delivered ++
  listFlds key h.retry ++ listFlds key h.retried ++ listFlds (fun n => (1, n.1) :: (4, sizeFlds n.2) :: n.2) h.owed ++ [(4, sizeFlds h.statement)] ++
  h.statement ++ listFlds (fun k => [(32, k.toNat)]) h.signers

/-- The partner's vault follows this module's (R298; 18 Table 18.1). -/
def tellHitch (id : BitVec 128) (s : State) : State := (hitchAt s id).elim s (fun h => pairState 18 (vaultFlds h) s)

/-- The last sequences of a hitch stand in both vaults (R298). -/
def tellSeq (h : Hitch) (s : State) : State := pairState 19 [(16, h.record.id.toNat), (8, h.sent), (8, h.received)] s

/-- The Myavo header (Table 11.3). -/
def myavoFlds (h : Hitch) (type stream seq len : Nat) : Flds :=
  [(4, 0x594D5655), (1, 1), (1, type), (2, stream), (8, seq), (4, len), (4, 0), (16, h.record.id.toNat)]

/-- Sends a Myavo message on the hitch's session, under the next sequence (R283): transport opcode 1 SEND, or 3 WRITE_IMM with its
immediate value for OBJ_DATA (R288). -/
def sendMyavoOn (op imm : Nat) (id : BitVec 128) (type stream : Nat) (body : Flds) (data : Bytes) (s : State) : State :=
  match hitchAt s id with
  | none => s
  | some h =>
    match h.ctx with
    | none => s
    | some n =>
      let q := h.sent + 1
      sendOn n op { port := .ctx n, kind := .myavo, op := type, tag := q, status := imm,
                    body := myavoFlds h type stream q (sizeFlds body + data.length) ++ body, data := data }
        (tellSeq { h with sent := q } (putHitch { h with sent := q } s))

/-- Sends a Myavo message on stream 0. -/
def sendMyavo (id : BitVec 128) (type : Nat) (body : Flds) (s : State) : State := sendMyavoOn 1 0 id type 0 body [] s

/-- Sends a notice, or leaves it for the next session (R291, R292). -/
def sendNotice (id : BitVec 128) (type : Nat) (body : Flds) (s : State) : State :=
  if (hitchAt s id).any (fun h => h.ctx.isSome && (h.state == .streaming || h.state == .closing) && h.owed.isEmpty) then sendMyavo id type body s
  else tellHitch id (mapHitch id (fun h => { h with owed := h.owed ++ [(type, body)] }) s)

/-- The scope entry of a source collection. -/
def inScopeOf (h : Hitch) (coll : Nat) : Bool := h.record.scope.any (fun e => e.coll.toNat == coll)

/-- Whether an object, or a collection, has crossed or is crossing in a hitch of this source. -/
def crossed (h : Hitch) (coll : Nat) (mac : Option Digest) : Bool :=
  h.source && hitchLive h && inScopeOf h coll &&
    (match mac with
     | none => h.sent != 0
     | some m => h.delivered.any (fun d => d.1 == coll && d.2.1 == m))

/-- A module that is not the hitch end tells its partner, which is, what the target is to be told: a lock, or a deletion with the object's seal
stamp (R281). -/
def tellEnd (id : BitVec 128) (coll : Nat) (mac : Option Digest) (lock : Option Lock) (st : CStamp) (s : State) : State :=
  pairState 20 ([(16, id.toNat), (2, coll), (32, (mac.getD 0).toNat)] ++ listFlds lockFlds lock.toList ++ cstampFlds st) s

/-- LOCK_UPDATE for what has crossed in one hitch (R291). -/
def noticeLock (coll : Nat) (mac : Option Digest) (l : Lock) (h : Hitch) (s : State) : State :=
  if h.away then tellEnd h.record.id coll mac (some l) noStamp s
  else sendNotice h.record.id 0x30 ([(2, coll), (6, 0), (32, (mac.getD 0).toNat)] ++ lockFlds l) s

/-- A lock is set, a stopper lengthened, or a hold released on what has crossed: LOCK_UPDATE (R291; log entry 25). -/
def hitchLock (coll : Nat) (mac : Option Digest) (l : Lock) (s : State) : State :=
  (s.hitch.list.filter (fun h => crossed h coll mac)).foldl (fun acc h => noticeLock coll mac l h acc) s

/-! ## Batches of the source (R293) -/

/-- The tenant of a scope collection in the record. -/
def scopeTenant (h : Hitch) (coll : Nat) : Nat := ((h.record.scope.find? (fun e => e.coll.toNat == coll)).map (fun e => e.tenant.toNat)).getD 0

/-- The last batch number of a tenant. -/
def lastBatch (h : Hitch) (t : Nat) : Nat := (h.batches.filter (fun b => b.tenant == t)).foldl (fun m b => max m b.number) 0

/-- The batch of a tenant that is being filled. -/
def openBatch (h : Hitch) (t : Nat) : HBatch :=
  (h.batches.find? (fun b => b.tenant == t && !b.closed)).getD
    { tenant := t, number := lastBatch h t + 1, lines := [], closed := false, receipted := false, acked := false, rows := [] }

/-- Writes a batch. -/
def putBatch (b : HBatch) (h : Hitch) : Hitch :=
  { h with batches := putBy (fun x => x.tenant == b.tenant && x.number == b.number) b h.batches }

/-- An object ends on a tenant's batch with its manifest line and the rows written directly. -/
def addLine (t : Nat) (l : ManifestLine) (rows : List (Nat × Nat)) (h : Hitch) : Hitch :=
  let b := openBatch h t
  putBatch { b with lines := b.lines ++ [l], rows := b.rows ++ rows } h

/-- Ends a flight with OBJ_ABORT: 1 lost, 2 deleted at the source (Table 11.4). -/
def abortFlight (id : BitVec 128) (f : Flight) (cause : Nat) (s : State) : State :=
  let upd (h : Hitch) : Hitch :=
    addLine (scopeTenant h f.line.srcColl) f.line [] { h with flight := dropIf (fun x => x.stream == f.stream) h.flight }
  mapHitch id upd (sendMyavo id 0x12 [(2, f.stream), (1, cause), (5, 0)] s)

/-- One hitch hears that an object has been deleted at the source: in flight it is ended, crossed it is noticed (R286, R292). -/
def noticeDelete (coll : Nat) (mac : Digest) (sealedAt_ : CStamp) (h : Hitch) (s : State) : State :=
  let id := h.record.id
  let gone (x : Hitch) : Hitch := { x with delivered := dropIf (fun d => d.1 == coll && d.2.1 == mac) x.delivered }
  let s1 := mapHitch id gone s
  if h.away then tellEnd id coll (some mac) none sealedAt_ s1
  else
    match h.flight.find? (fun f => f.line.srcColl == coll && f.line.srcMac == mac) with
    | some f => abortFlight id f 2 s1
    | none => sendNotice id 0x31 ([(2, coll), (6, 0), (32, mac.toNat)] ++ cstampFlds sealedAt_) s1

/-- The tenant deletes an object at the source: each hitch in which it has crossed or is crossing hears of it (R286, R292). -/
def hitchDelete (coll : Nat) (mac : Digest) (sealedAt_ : CStamp) (s : State) : State :=
  (s.hitch.list.filter (fun h => crossed h coll (some mac))).foldl (fun acc h => noticeDelete coll mac sealedAt_ h acc) s

end Machine
end Sys2Proof
end

