-- ==== Sys2Proof/Machine/IndexOps.lean ====
section
/-!
DEFINITION. The object index and the namespace maps: partitions, leaves, deltas and flushes, the page cache, the hint table, walks
(06 R148 to R171; 07 R187). Partition 65,536 + n stands for the map of namespace n (log entry 18).
-/
namespace Sys2Proof
namespace Machine

/-! ## The page cache (06 R156; 07 R187) -/

/-- The share of the hint table of a tenant (06 R158). -/
def shareOf (s : State) (t : Nat) : Option HintShare := s.idx.shares.find? (fun x => x.tenant == t)

/-- Pages a tenant may hold: of the index page cache in proportion to its hint share, of the map cache in proportion to its NCAP. -/
def cachePages (s : State) (t : Nat) (map : Bool) : Nat :=
  if map then
    let mine := ((s.block.nss.filter (fun n => n.tenant == t)).map (fun n => n.ncap)).sum
    let all := (s.block.nss.map (fun n => n.ncap)).sum
    if all = 0 then 0 else pStrMapCacheGib s * 65536 * mine / all
  else ((shareOf s t).map (fun x => pIdxCacheGib s * 65536 * 2 ^ x.log2 / 2 ^ pIdxHintLog2 s)).getD 0

/-- A page is resident in a tenant's share of the index page cache or of the map cache. -/
def cached (s : State) (t : Nat) (map : Bool) (addr : Nat) : Bool := s.idx.cache.contains (t, map, addr)

/-- An authoritative walk places a page in its tenant's share, the least recently used ones leaving (06 R156; 07 R187). -/
def touchCache (t addr : Nat) (map : Bool) (s : State) : State :=
  let rest := s.idx.cache.filter (fun x => x != (t, map, addr))
  let mine := rest.filter (fun x => x.1 == t && x.2.1 == map)
  let out := mine.take (mine.length + 1 - cachePages s t map)
  { s with idx := { s.idx with cache := rest.filter (fun x => !out.contains x) ++ (if cachePages s t map = 0 then [] else [(t, map, addr)]) } }

/-! ## The end of a flush (06 R165, R166, R168) -/

/-- The index or map entries of a partition up to a stamp retire (06 R168; 07 R202). -/
def retireDelta (shard part : Nat) (covered : CStamp) (s : State) : State :=
  let hit (e : SpliceEntry) : Bool :=
    e.shard == shard && e.part == part && (e.kind == 3 || e.kind == 4) && !(covered.lt e.stamp)
  retireShard shard { s with log := { s.log with splice := mapIf hit (fun e => { e with retired := true }) s.log.splice } }

/-- Objects whose value lies inline in a leaf that a flush has covered: what the log still holds of their parts becomes stale (06 R154). -/
def freeInline (shard part : Nat) (covered : CStamp) (s : State) : State :=
  let hit (c : Nat) (m : Digest) : Bool :=
    macPart m == part && (collAt s c).any (fun k => k.shard == shard) &&
    (objAt s c m).any (fun o => leafKind o == 2 && !(covered.lt o.stamp))
  killKind (fun k => match k with
    | .extent c m _ => hit c m
    | _ => false) s

/-- The partner is told a partition's root table entry: root, generation and covered stamp (06 R168; 18 Table 18.1). -/
def tellRoot (shard part root gen : Nat) (covered : CStamp) (s : State) : State :=
  pairState 6 ([(2, shard), (4, part), (8, root), (8, gen)] ++ cstampFlds covered) s

/-- A flush ends: the root moves in one step, the delta drops what it covers, and the pages it supersedes stay until no walk from before needs
them; older commit records become stale (06 R165, R166). A delta that is full again starts the next flush. -/
def endFlush (shard part : Nat) (f : FlushState) (s : State) : State :=
  let p := partAt s shard part
  let used := treePages f.leaves f.inner
  let gone := (treePages p.leaves p.inner).filter (fun a => a != 0 && !used.contains a)
  let commits := (s.log.recs.filter (fun r => r.live && r.kind == .commit shard part && r.addr != f.commit)).map (fun r => r.addr)
  let left := p.delta.filter (fun m => f.covered.lt m.stamp)
  let s1 := putPart { p with root := f.root, gen := f.gen, covered := f.covered, leaves := f.leaves.map (fun l => { l with old := 0 }), inner := f.inner.map (fun x => { x with old := 0 }),
                             flushing := none, delta := left, superseded := p.superseded ++ gone.map (fun a => (a, f.covered)) } s
  let s2 := releasePages (freeInline shard part f.covered (killRecs commits s1))
  let s3 := tellRoot shard part f.root f.gen f.covered (retireDelta shard part f.covered s2)
  if pIdxDeltaFlush s3 ≤ left.length then startFlush shard part s3 else s3

/-! ## Recovery of a partition (06 R169, R170) -/

/-- A flush that had not committed leaves nothing: its pages and its commit record are stale. -/
def dropFlush (p : Partition) (f : FlushState) (s : State) : State :=
  killRecs (f.commit :: (treePages f.leaves f.inner).filter (fun a => !(treePages p.leaves p.inner).contains a)) (putPart { p with flushing := none } s)

/-- A mutation of a delta is applied again: its stamp lies above the covered one and its entry stands in the splice log (06 R169). The member map
is formed from the rows (log entry 126). -/
def survives (s : State) (p : Partition) (m : DeltaMut) : Bool :=
  m.seq == 0 || (p.covered.lt m.stamp && s.log.splice.any (fun e => e.shard == p.shard && e.seq == m.seq && !e.retired))

/-- A partition is recovered: its root is that of the newest commit record on media, and its delta what the splice log still holds above its
covered stamp (06 R169). -/
def recoverPart (shard num : Nat) (s : State) : State :=
  let p := partAt s shard num
  if !p.stale then s
  else
    let q := { p with stale := false, delta := p.delta.filter (survives s p) }
    match p.flushing with
    | some f => if recOnMedia s f.commit then endFlush shard num f (putPart q s) else dropFlush q f s
    | none => putPart q s

/-- The partitions of this module's shards that are still to be recovered, by number (06 R170). -/
def staleParts (s : State) : List (Nat × Nat) :=
  sortOn (fun x => x.2) ((s.idx.parts.filter (fun p => p.stale && (shardAt s p.shard).owned)).map (fun p => (p.shard, p.num)))

/-- The idle time of the open objects of some shards counts from the commit stamp of the last mutation (05 R124, R135). -/
def idleFromStamp (shards : List Nat) (s : State) : State :=
  let hit (o : Obj) : Bool := o.whip.isNone && (collAt s o.coll).any (fun c => shards.contains c.shard)
  { s with obj := { s.obj with objs := mapIf hit (fun o => { o with lastUse := o.stamp.time }) s.obj.objs } }

/-- Every partition of this module's shards is recovered (06 R169). -/
def recoverAll (s : State) : State :=
  idleFromStamp ((s.log.shards.filter (fun x => x.owned)).map (fun x => x.num)) ((staleParts s).foldl (fun acc x => recoverPart x.1 x.2 acc) s)

/-- The next partition in ascending number is recovered while service runs (06 R170; log entry 5). -/
def recoverNext (s : State) : State :=
  if s.log.inService then ((staleParts s).head?).elim s (fun x => recoverPart x.1 x.2 s) else s

/-! ## Walks (06 R156, R161; 07 R187) -/

/-- The leaf a walk of a tenant ends at: that of the map's place, or the tenant's leaf that covers the key, where entry 0 of a page covers
every key below entry 1 (06 R153). -/
def leafOf (p : Partition) (tenant coll : Nat) (mac : Digest) : Option Leaf :=
  if isMap p.num then p.leaves.find? (fun l => l.place == mac.toNat)
  else ((leafFor p.leaves (indexKey coll mac)).or p.leaves.head?).filter (fun l => l.tenant == tenant)

/-- The address of the leaf page that the page above points to, 0 where there is none (06 R161). -/
def leafAddr (p : Partition) (tenant coll : Nat) (mac : Digest) : Nat := ((leafOf p tenant coll mac).map (fun l => l.addr)).getD 0

/-- The pages that a walk to a leaf reads below those that stay resident: of an index, the level-1 page and the leaf where they are not the
root (06 R156); of a map, the leaf (07 R187). -/
def walkPages (p : Partition) (leaf : Nat) : List Nat :=
  let up := if isMap p.num then none else p.inner.find? (fun x => x.level == 1 && x.entries.any (fun e => e.child == leaf))
  ((up.map (fun x => x.addr)).toList ++ [leaf]).filter (fun a => a != 0 && (isMap p.num || a != p.root))

/-- The strips that hold a page, each with the first of the page's units in it and their count. -/
def pagePieces (d addr : Nat) : List (Nat × Nat × Nat × Nat × Nat) :=
  (extentStrips d addr 4).map (fun x =>
    let us := (List.range 4).filterMap (fun i =>
      let l := locate (addrSeg addr) (addrUnit addr + i) d
      if l.1 = x.2.1 ∧ l.2.1 = x.2.2 then some l.2.2.1 else none)
    (x.1, x.2.1, x.2.2, us.headD 0, us.length))

/-- Reads a page for a walk, for a purpose of each strip it lies on: nothing is read while its row is in DRAM, and a real read of a strip that
is not available forms it from the others (06 R156, R162, R171). -/
def readPage (f : DriveFlow) (why : Nat → Nat → Nat → DrivePurpose) (real : Bool) (addr : Nat) (s : State) : State :=
  (pagePieces (segD s (addrSeg addr)) addr).foldl (fun acc x =>
    match (rowAt acc x.1 x.2.1).filter (fun w => w.state == .onMedia) with
    | some w =>
      match stripMember acc w x.2.2.1 with
      | some m => (issueFlow m f (why x.1 x.2.1 x.2.2.1) 2 (rowLba acc x.1 x.2.1 + x.2.2.2.1) x.2.2.2.2 acc).2
      | none => if real then pageAround f w x.2.2.1 acc else acc
    | none => acc) s

/-- The drive class of a tenant's walk. -/
def walkFlow (tenant num coll : Nat) : DriveFlow := if isMap num then .host tenant 2 (num - 65536) else .host tenant 1 coll

/-- A walk takes a page: from its tenant's share of the cache, or by a drive read of 16 KiB, charged to the tenant, whose result the walk takes
at once (06 R156; 15 R378; log entry 11). A page that a run-ahead of the walk reads already is not read again (06 R161, R163). -/
def takePage (tenant num coll ahead addr : Nat) (s : State) : State :=
  let map := isMap num
  let s1 := if cached s tenant map addr || addr == ahead then s
    else readPage (walkFlow tenant num coll) .pageRead true addr (chargeDrive tenant (16384 + pSchCmdCost s) s)
  touchCache tenant addr map s1

/-- A walk of a tenant under QUIET counts in its period (15 R390). -/
def noteWalk (t : Nat) (s : State) : State :=
  match quietOf s t with
  | some q => putQuiet { q with walks := q.walks + 1 } s
  | none => s

/-- One walk of a tenant to a key, with the leaf page that its run-ahead reads, 0 for none. The partition is recovered first where a takeover left
it to be (06 R170). -/
def walkPast (shard tenant num coll ahead : Nat) (mac : Digest) (before : State) : State :=
  let s := recoverPart shard num before
  let p := partAt s shard num
  match leafOf p tenant coll mac with
  | none => noteWalk tenant s
  | some l => (walkPages p l.addr).foldl (fun acc a => takePage tenant num coll ahead a acc) (noteWalk tenant s)

/-- One walk of a tenant to a key. -/
def walkTo (shard tenant num coll : Nat) (mac : Digest) (s : State) : State := walkPast shard tenant num coll 0 mac s

/-! ## The hint table (06 R157 to R159) -/

/-- The set of a key in a share: the low s - 3 bits of (MAC bits [31:0] XOR collection) (06 R158). -/
def hintSet (x : HintShare) (coll : Nat) (mac : Digest) : Nat := Nat.xor (mac.toNat % 2 ^ 32) coll % 2 ^ (x.log2 - 3)

/-- The check field of a key (06 Table 6.5). -/
def hintCheck (mac : Digest) : Nat := mac.toNat / 2 ^ 32 % 2 ^ 32

/-- A hint matches a key of a tenant. -/
def hintIs (h : Hint) (t set coll : Nat) (mac : Digest) : Bool :=
  h.tenant == t && h.set == set && h.coll == coll && h.check == hintCheck mac

/-- A probe (06 R159): it changes nothing. -/
def probe (s : State) (t coll : Nat) (mac : Digest) : Option Hint :=
  (shareOf s t).bind (fun x => s.idx.hints.find? (fun h => hintIs h t (hintSet x coll mac) coll mac))

/-- The way a new hint takes: the matching one, else a free one, else the first from 0 whose reference bit is clear, clearing those it
passes (06 R159). Answers the way and the ways whose bit is cleared. -/
def hintWay (ways : List Hint) (hit : Hint → Bool) : Nat × List Nat :=
  match ways.find? hit with
  | some h => (h.way, [])
  | none =>
    match (List.range 8).find? (fun w => !ways.any (fun h => h.way == w)) with
    | some w => (w, [])
    | none =>
      match (List.range 8).find? (fun w => ways.any (fun h => h.way == w && !h.ref)) with
      | some w => (w, List.range w)
      | none => (0, List.range 8)

/-- Writes a hint of a tenant. -/
def setHint (t coll : Nat) (mac : Digest) (kind addr len : Nat) (s : State) : State :=
  match shareOf s t with
  | none => s
  | some x =>
    let set := hintSet x coll mac
    let mine (h : Hint) : Bool := h.tenant == t && h.set == set
    let w := hintWay (s.idx.hints.filter mine) (fun h => hintIs h t set coll mac)
    let new : Hint := { tenant := t, set := set, way := w.1, check := hintCheck mac, coll := coll, kind := kind, ref := true, addr := addr,
                        len := len }
    let kept := s.idx.hints.filter (fun h => !(mine h && h.way == w.1))
    { s with idx := { s.idx with hints := mapIf (fun h => mine h && w.2.contains h.way) (fun h => { h with ref := false }) kept ++ [new] } }

/-- Clears the hint of a key. -/
def clearHint (t coll : Nat) (mac : Digest) (s : State) : State :=
  match shareOf s t with
  | none => s
  | some x => { s with idx := { s.idx with hints := dropIf (fun h => hintIs h t (hintSet x coll mac) coll mac) s.idx.hints } }

/-- The walk-end update for the leaf entry found, an entry of kind 2 with the address of its leaf page: 0, "none", while no page holds it
(06 R159; log entry 129). -/
def walkEnd (t coll : Nat) (mac : Digest) (o : Option Obj) (leaf : Nat) (s : State) : State :=
  match o with
  | none => clearHint t coll mac s
  | some x =>
    match leafKind x with
    | 3 => clearHint t coll mac s
    | 2 => setHint t coll mac 2 (leaf % 2 ^ 48) 0 s
    | _ =>
      match firstExtent x with
      | some e => setHint t coll mac 1 (e.1 % 2 ^ 48) (e.2 - 1) s
      | none => clearHint t coll mac s

/-- The walk-end update of a command that has walked to a key of a collection: the object, or none, with the leaf that covers it. -/
def walkEnded (c : Coll) (mac : Digest) (o : Option Obj) (s : State) : State :=
  walkEnd c.tenant c.num mac o (leafAddr (partAt s c.shard (macPart mac)) c.tenant c.num mac) s

/-- The hints of a tenant are cleared (06 R158, R159). -/
def clearHints (t : Nat) (s : State) : State := { s with idx := { s.idx with hints := dropIf (fun h => h.tenant == t) s.idx.hints } }

/-- A GET's probe counts while run-ahead is enabled (06 R159; 02 R50). -/
def countProbe (t : Nat) (s : State) : State :=
  if pIdxRunahead s % 2 = 1 then
    { s with obj := { s.obj with tenants := mapIf (fun y => y.num == t) (fun y => { y with probes := y.probes + 1 }) s.obj.tenants } }
  else s

/-- The decoy walk of a tenant for a key it does not see: in the shard of the collection named where that is its own, else of its first
collection, else shard 0 (02 R50; 06 R159; log entry 130). -/
def decoyWalk (t coll : Nat) (mac : Digest) (s : State) : State :=
  let own := s.obj.colls.find? (fun c => c.tenant == t && c.num == coll)
  let shard := ((own.or (s.obj.colls.find? (fun c => c.tenant == t))).map (fun c => c.shard)).getD 0
  clearHint t coll mac (walkTo shard t (macPart mac) coll mac s)

/-! ## Shares (06 R158) -/

/-- The lowest aligned range of 2^k entries that no share occupies, of a table of 2^n entries. -/
def placeShare (s : State) (n k : Nat) : Option Nat :=
  let clash (b : Nat) : Bool := s.idx.shares.any (fun x => decide (b < x.base + 2 ^ x.log2) && decide (x.base < b + 2 ^ k))
  let cands := 0 :: s.idx.shares.map (fun x => roundUp (x.base + 2 ^ x.log2) (2 ^ k))
  match cands.filter (fun b => !clash b && decide (b + 2 ^ k ≤ 2 ^ n)) with
  | [] => none
  | b :: bs => some (bs.foldl min b)

/-- Changes a tenant's share: its old range is freed first, then the new one placed; its hints are cleared (06 R158). None when no
aligned free range exists. -/
def changeShare (t k : Nat) (s : State) : Option State :=
  let s1 := { s with idx := { s.idx with shares := dropIf (fun x => x.tenant == t) s.idx.shares, hints := dropIf (fun h => h.tenant == t) s.idx.hints } }
  if k = 0 then some s1
  else (placeShare s1 (pIdxHintLog2 s) k).map (fun b => { s1 with idx := { s1.idx with shares := s1.idx.shares ++ [{ tenant := t, base := b, log2 := k }] } })

end Machine
end Sys2Proof
end

