-- ==== Sys2Proof/Machine/ObjectOps.lean ====
section
/-!
DEFINITION. Operations of the object service (05): capsule checks, visibility, locks, values and their stored form, object records,
sealing, deletion.
-/
namespace Sys2Proof
namespace Machine

/-! ## The checks of class 0x01 (05 R120, R121) -/

/-- What an opcode allows in its header and body (05 Tables 5.1, 5.2, 5.4, 5.5). -/
structure CapSpec where
  /-- addressing values allowed -/
  addr    : List Nat
  /-- header flag bits that apply -/
  flags   : Nat
  /-- bytes of body the fields give -/
  body    : Nat
  /-- in-capsule data bytes -/
  incap   : Nat
  /-- some reserved field or padding byte of the body is not zero -/
  bodyRsv : Bool
  /-- some field of the body is outside its encoding -/
  bodyBad : Bool
deriving DecidableEq, Repr

/-- The assigned opcodes (05 Table 5.4). -/
def uopOpcodes : List Nat := [0x01, 0x02, 0x03, 0x04, 0x10, 0x11, 0x12, 0x20, 0x21, 0x30, 0x31, 0x32, 0x40, 0x50, 0x51]

/-- Zero padding to a multiple of 8 after `n` bytes: present, and all zero. -/
def padOk (n : Nat) (pad : Bytes) : Bool := pad.length == padTo 8 n
/-- Some padding byte is not zero. -/
def padSet (pad : Bytes) : Bool := pad.any (fun b => b != 0)

/-- The checks of class 0x01, in the order of R120. -/
def capsuleCheck (c : Capsule) (k : CapSpec) : Option Nat :=
  let h := c.hdr
  let a := h.addressing.toNat
  if h.version ≠ 1 then some eFormat
  else if !uopOpcodes.contains h.opcode.toNat then some eOpcode
  else if !k.addr.contains a || ((h.nameLen == 0) == (a == 1)) then some eFormat
  else if h.rsvA ≠ 0 ∨ h.rsvB ≠ 0 ∨ (a ≠ 3 ∧ h.handle ≠ 0) ∨ (a ≠ 2 ∧ h.mac ≠ 0) ∨ Nat.land h.flags.toNat k.flags ≠ h.flags.toNat then
    some eReserved
  else if h.bodyLen.toNat ≠ k.body then some eFormat
  else if c.name.length ≠ h.nameLen.toNat ∨ !padOk c.name.length c.namePad ∨
      c.len ≠ 64 + c.name.length + c.namePad.length + k.body + k.incap then some eFormat
  else if padSet c.namePad || k.bodyRsv then some eReserved
  else if k.bodyBad then some eFormat
  else none

/-- The reserved fields of a descriptor (05 Table 5.2): those its kind does not use are zero. -/
def descRsv (d : Desc) : Bool :=
  d.rsvA != 0 || d.rsvB != 0 || ((d.kind.toNat == 0 || d.kind.toNat == 1) && (d.key != 0 || d.addr != 0))

/-- The descriptor carries in-capsule data: kind 1 (05 R121). -/
def descIncap (d : Desc) : Nat := if d.kind.toNat = 1 then d.len.toNat else 0

/-- The bytes received are as many as the length says. -/
def descFits (d : Desc) (data : Bytes) : Bool := d.kind.toNat == 2 || d.kind.toNat == 0 || data.length == d.len.toNat

/-- A length above the limit: 8,192 bytes of kind 1, and 64 MiB of the value commands (05 R121, Table 5.11). -/
def descLong (d : Desc) : Bool := (d.kind.toNat == 1 && decide (8192 < d.len.toNat)) || decide (67108864 < d.len.toNat)

/-- The number of a landing region: the session field form of its context, or the number of its queue pair (13 Table 13.1). -/
def regionKey (c : Ctx) : Nat := if isQp c then c.num else c.num + 1048576 * c.gen

/-- The bytes a descriptor delivers: those received with the capsule or read from the host, or those that stand in the queue's own
region (05 R121; 13 R341). None where it names no range of that region. -/
def descData (s : State) (port : Port) (d : Desc) (data : Bytes) : Option Bytes :=
  if d.kind.toNat = 0 ∨ d.len = 0 then some []
  else if d.kind.toNat = 2 then
    match port with
    | .ctx q =>
      match ctxAt s q, regionAt s q with
      | some c, some r =>
        if d.key.toNat = regionKey c ∧ d.addr.toNat + d.len.toNat ≤ r.size then some (landRead s r d.addr.toNat d.len.toNat) else none
      | _, _ => none
    | _ => none
  else some data

/-- Host memory is read by READ_REQ for a kind 3 descriptor (12 R330; log entry 17). -/
def readRemote (port : Port) (d : Desc) (s : State) : State :=
  match port with
  | .ctx q =>
    if d.kind.toNat = 3 ∧ d.len ≠ 0 then
      sendOn q 4 (msg (.ctx q) .remoteRead 4 0 0 [(4, d.len.toNat), (4, 0), (4, d.key.toNat), (4, 0), (8, d.addr.toNat)]) s
    else s
  | _ => s

/-! ## Visibility (05 R123, R124; 02 R37, R49) -/

/-- A collection is there and accepts commands. -/
def activeColl (s : State) (n : Nat) : Option Coll := (collAt s n).filter (fun c => c.state == .active)

/-- The collection is the tenant's own. -/
def ownColl (s : State) (p : Principal) (n : Nat) : Bool :=
  match p with
  | .tenant t => (activeColl s n).any (fun c => c.tenant == t)
  | _ => false

/-- The collection is within a depositor's grant (D g). -/
def depColl (s : State) (p : Principal) (n : Nat) : Bool :=
  match p with
  | .depositor t _ _ => (activeColl s n).any (fun c => c.tenant == t) && grantOk s p && grantCovers s p false n
  | _ => false

/-- The collection is within a reader's grant (Rd g). -/
def readColl (s : State) (p : Principal) (n : Nat) : Bool :=
  match p with
  | .reader t _ _ => (activeColl s n).any (fun c => c.tenant == t) && grantOk s p && grantCovers s p false n
  | _ => false

/-- A custodian key, on any collection. -/
def custColl (s : State) (p : Principal) (n : Nat) : Bool := isCustodian p && (activeColl s n).isSome

/-- An auditor under a grant in force, on any collection. -/
def auditColl (s : State) (p : Principal) (n : Nat) : Bool :=
  match p with
  | .auditor _ _ => grantOk s p && (activeColl s n).isSome
  | _ => false

/-- The tenant root key is held (02 R62). -/
def keyHeld (s : State) (n : Nat) : Bool := (tenantAt s n).any (fun t => t.root.isSome)

/-- The MAC a capsule addresses: the one it names, or that of its name under the collection's tenant; the auditor and the custodian
address by MAC only (05 R123). -/
def macOf (s : State) (p : Principal) (c : Capsule) (coll : Coll) : Option Digest :=
  if c.hdr.addressing.toNat = 2 then some c.hdr.mac
  else if c.hdr.addressing.toNat = 1 then
    match p with
    | .custodian _ | .auditor _ _ => none
    | _ => (tenantAt s coll.tenant).bind (fun t => t.root.map (fun r => nameMac r c.name))
  else none

/-- A sealed object by its key. -/
def sealedAt (s : State) (coll : Nat) (mac : Digest) : Option Obj := (objAt s coll mac).filter (fun o => o.whip.isSome)

/-- The open object a handle names for a principal: its opener, or the tenant itself (05 R124). -/
def openAt (s : State) (p : Principal) (h : UopHdr) : Option Obj :=
  (s.obj.objs.find? (fun o => o.whip.isNone && o.handle == h.handle && o.coll == h.coll.toNat)).filter (fun o =>
    match p, activeColl s o.coll with
    | .tenant t, some c => c.tenant == t
    | .depositor t _ holder, some c => c.tenant == t && o.opener == some holder && grantOk s p && grantCovers s p false o.coll
    | _, _ => false)

/-! ## Locks (05 R141, R142; 03 R75) -/

/-- The stamp of a list's last change (05 R127). -/
def locksStamp (s : State) (coll : Nat) (mac : Option Digest) : CStamp :=
  ((s.obj.locks.find? (fun l => l.coll == coll && l.mac == mac)).map (fun l => l.stamp)).getD noStamp

/-- Writes a lock list at a stamp; an empty list stays while its stamp tells of its last change. -/
def putLocks (coll : Nat) (mac : Option Digest) (ls : List Lock) (st : CStamp) (s : State) : State :=
  { s with obj := { s.obj with locks := putBy (fun l => l.coll == coll && l.mac == mac) { coll := coll, mac := mac, locks := ls, stamp := st } s.obj.locks } }

/-- Custody Time in seconds, and whether it is Anchored, at the ingress of the command that runs (05 R141, R142). -/
def lockClock (s : State) : Nat × Bool := (s.obj.ingress.map (fun x => x.2)).getD (custodySec s, anchored s)

/-- The lock's expiry has come by Custody Time; a hold with expiry 0 has none (05 R141). -/
def lockPast (s : State) (l : Lock) : Bool := l.expiry != 0 && decide (l.expiry ≤ (lockClock s).1)

/-- A lock is in force: unless its expiry has come and Custody Time is Anchored (05 R142). -/
def lockForce (s : State) (l : Lock) : Bool := !(lockPast s l && (lockClock s).2)

/-- The locks of a target that the command that runs meets: those that stand, and those that have expired since its ingress (05 R142). -/
def locksMet (s : State) (coll : Nat) (mac : Option Digest) : List Lock :=
  let since (l : Lapsed) : Bool := l.coll == coll && l.mac == mac && s.obj.ingress.any (fun x => decide (x.1 < l.at_))
  locksAt s coll mac ++ (s.obj.lapsed.filter since).map (fun l => l.lock)

/-- The locks that bind an object: its own and its collection's. -/
def bindingLocks (s : State) (coll : Nat) (mac : Digest) : List Lock := locksMet s coll (some mac) ++ locksMet s coll none

/-- The latest expiry of the stoppers in force. -/
def stopperExpiry (s : State) (ls : List Lock) : Nat := (ls.filter (fun l => isStopper l && lockForce s l)).foldl (fun m l => max m l.expiry) 0

/-- The retention refusal of a list of locks: E_STOPPER with the latest expiry, E_HELD, or E_UNANCHORED where only locks past their
expiry stand (05 R125; 03 R75). A COLL_DELETE is given the expiry as a DELETE is, although Table 5.5 lists that payload for STOPPER and DELETE only:
DESIGN CHOICE, log entry 144. -/
def lockRefusal (s : State) (ls : List Lock) : Option (Nat × Flds) :=
  let live := ls.filter (fun l => lockForce s l && !lockPast s l)
  if live.any isStopper then some (eStopper, [(8, stopperExpiry s ls)])
  else if !live.isEmpty then some (eHeld, [])
  else if ls.any (lockForce s) then some (eUnanchored, [])
  else none

/-- Locks that expire are kept for the commands that wait. -/
def noteLapsed (coll : Nat) (mac : Option Digest) (gone : List Lock) (s : State) : State :=
  if s.block.waiting.isEmpty then s
  else { s with obj := { s.obj with lapsed := s.obj.lapsed ++ gone.map (fun l => { coll := coll, mac := mac, lock := l, at_ := now s }) } }

/-- The expiry of one target's locks that a command or the sweep meets: one stamp, an entry for each, the list without them (05
R142). -/
def expireTarget (coll : Nat) (mac : Option Digest) (s : State) : State :=
  let ls := locksAt s coll mac
  let gone := ls.filter (fun l => !lockForce s l)
  match gone, collAt s coll with
  | [], _ => s
  | _, none => s
  | _, some c =>
    let (st, s1) := sequence c.shard s
    let s2 := noteLapsed coll mac gone (putLocks coll mac (ls.filter (lockForce s)) st s1)
    gone.foldl (fun acc l => enter c.tenant 0x0016 st [(2, coll), (1, l.num), (5, 0), (32, (mac.getD 0).toNat), (8, l.expiry)] acc) s2

/-- The expiries that a command on an object or a collection meets. -/
def meetExpiries (coll : Nat) (mac : Option Digest) (s : State) : State :=
  let s1 := expireTarget coll none s
  match mac with
  | some m => expireTarget coll (some m) s1
  | none => s1

/-- Every lock whose expiry has come expires (05 R142; 03 R75). -/
def expireAll (s : State) : State := s.obj.locks.foldl (fun acc l => expireTarget l.coll l.mac acc) s

/-! ## Values (10 R277; 07 R178) -/

/-- Units of a part of `len` bytes (10 R277): full chunks take 16 units, the last one what it needs with its tag. -/
def partUnits (len : Nat) : Nat := len / chunkBytes * chunkUnits + (if len % chunkBytes = 0 then 0 else ceilDiv (len % chunkBytes + 16) 4096)

/-- The pieces of a part's extents that hold its stored units from `a` up to `b`. -/
def sliceExtents (a b : Nat) : List (Nat × Nat) → List (Nat × Nat)
  | [] => []
  | (x, u) :: r =>
    let lo := min a u
    let hi := min b u
    (if lo < hi then [(x + lo, hi - lo)] else []) ++ sliceExtents (a - u) (b - u) r

/-- The extents of the chunks that hold value bytes `off` to `off + len`, part by part (05 R136; 06 R160). -/
def rangeExtents (off len : Nat) : List PartData → List (Nat × Nat)
  | [] => []
  | p :: ps =>
    let n := p.data.length
    let lo := min off n
    let hi := min (off + len) n
    (if lo < hi then sliceExtents (lo / chunkBytes * chunkUnits) (ceilDiv hi chunkBytes * chunkUnits) p.extents else []) ++
      rangeExtents (off - n) (if off < n then len - (hi - lo) else len) ps

/-- The range touches a lost stripe (05 R136; 08 R229). -/
def rangeLost (s : State) (o : Obj) (off len : Nat) : Bool :=
  o.lost && s.mem.losses.any (fun r => r.container == o.coll && r.mac == o.mac &&
    (r.kind == 3 || (r.kind == 1 && decide (r.first < off + len) && decide (off < r.first + r.length))))

/-- A tenant's bytes counted against its byte quota: the values of its sealed and open objects, and its namespaces at NCAP × 4,113
(05 R132; 04 R98). -/
def bytesOf (s : State) (t : Nat) : Nat :=
  ((s.obj.objs.filter (fun o => (collAt s o.coll).any (fun c => c.tenant == t))).map objSize).sum +
  ((s.block.nss.filter (fun n => n.tenant == t)).map (fun n => n.ncap * 4113)).sum

/-- A tenant's byte quota. -/
def byteQuota (s : State) (t : Nat) : Nat := ((tenantAt s t).map (fun x => x.quota.byteQuota.toNat)).getD 0

/-- Open objects counted against a tenant's allowance (05 R131). -/
def openOf (s : State) (t : Nat) : Nat :=
  (s.obj.objs.filter (fun o => o.whip.isNone && o.counted && (collAt s o.coll).any (fun c => c.tenant == t))).length

/-- The charge of a mutation: its units, and three times its splice entry when it is small (15 R378). -/
def chargeUnits (t units d : Nat) (small : Bool) (s : State) : State :=
  let s1 := chargeMutation t units d s
  if small then chargeDrive t (3 * (64 * ceilDiv (112 + 4096 * units) 64)) s1 else s1

/-! ## Reads of stored data (05 R134, R136; 15 R378) -/

/-- The strips that reading extents takes from media: those of rows on media. -/
def mediaStrips (s : State) (extents : List (Nat × Nat)) : List (Nat × Nat × Nat) :=
  ((extents.map (fun x => extentStrips (segD s (addrSeg x.1)) x.1 x.2)).flatten.eraseDups).filter
    (fun x => (rowAt s x.1 x.2.1).any (fun w => w.state == .onMedia))

/-- Charges a tenant for the strip reads of extents (15 R378). -/
def chargeReads (t : Nat) (extents : List (Nat × Nat)) (s : State) : State :=
  chargeDrive t ((mediaStrips s extents).length * (65536 + pSchCmdCost s)) s

/-- Reads extents for a held completion, at the tenant's charge. -/
def readFor (t kind num id : Nat) (extents : List (Nat × Nat)) (s : State) : State :=
  readExtents id extents (mapHeld id (fun h => { h with flow := .host t kind num }) (chargeReads t extents s))

/-- Reads extents whose result the module takes at once, at the tenant's charge (log entry 11). -/
def readAway (t coll : Nat) (extents : List (Nat × Nat)) (s : State) : State :=
  (mediaStrips s extents).foldl (fun acc x =>
    match (rowAt acc x.1 x.2.1).bind (fun w => stripMember acc w x.2.2) with
    | some m => (issueFlow m (.host t 1 coll) (.rowRead x.1 x.2.1 x.2.2) 2 (rowLba acc x.1 x.2.1) 16 acc).2
    | none => acc) (chargeReads t extents s)

/-- Every extent of an object. -/
def allExtents (o : Obj) : List (Nat × Nat) := (o.parts.map (fun p => p.extents)).flatten

/-- Extents all of whose rows are on media: their plaintext is no longer in DRAM (05 R134). -/
def extentsOnMedia (s : State) (extents : List (Nat × Nat)) : Bool :=
  extents.all (fun x => (extentStrips (segD s (addrSeg x.1)) x.1 x.2).all (fun y => (rowAt s y.1 y.2.1).any (fun w => w.state == .onMedia)))

/-- The digest engine passes the parts whose turn has come and whose plaintext is still in DRAM (05 R134). -/
def digestOn (s : State) (num : Nat) (o : Obj) : Obj :=
  { o with digested := o.parts.foldl (fun k p => if p.num = k ∧ (p.num = num ∨ !extentsOnMedia s p.extents) then k + 1 else k) o.digested }

/-- The parts that a SEAL must read back for its digests. -/
def undigested (o : Obj) : List (Nat × Nat) := ((o.parts.filter (fun p => decide (o.digested ≤ p.num))).map (fun p => p.extents)).flatten

/-! ## Parts (05 R132) -/

/-- Units of an object's record (10 R276). -/
def recordUnits (s : State) (o : Obj) : Nat := unitsOf (objRecordSize s o)

/-- Commits one part of an object at a stamp (05 R132; 07 R183, R185). Answers its rows written directly. -/
def commitPart (c : Coll) (o : Obj) (num : Nat) (data : Bytes) (st : CStamp) (s : State) : Obj × List (Nat × Nat) × State :=
  let d := geomData c.geometry
  let units := partUnits data.length
  let bytes := storedPart o.key o.mac o.coll num data.length (data.length + 1) 0 data
  let kind := RecKind.extent o.coll o.mac num
  let large := decide (2097152 ≤ data.length)
  let (ext, rows, s1) :=
    if large then
      let w := writeLarge c.shard d chunkUnits kind units bytes st s
      (w.1, w.2.2.1, w.2.2.2)
    else
      let w := writeSmallUnits c.shard d chunkUnits kind units bytes st s
      (w.1, [], w.2.2)
  let p : PartData := { num := num, data := data, extents := ext }
  let parts := o.parts.filter (fun x => decide (x.num < num)) ++ p :: o.parts.filter (fun x => decide (num < x.num))
  (digestOn s1 num { o with parts := parts }, rows, s1)

/-! ## Completion levels (05 R145) -/

/-- A mutation's completion at a stamp and a level, for a splice sequence of a shard (03 R86; 07 R201). -/
def heldMut (m : Msg) (st : CStamp) (shard : Nat) (level : Level) (rows : List (Nat × Nat)) (s : State) : Held :=
  { heldStamp m st with shard := shard, splice := (shardAt s shard).splice, level := level, rows := rows }

/-- Flag bit 1 of a completion on media (05 Table 5.3). -/
def levelFlag (l : Level) : Nat := if l = .onMedia then 2 else 0

/-- The level of a part (05 Table 5.10). -/
def partLevel (fua durable : Bool) (len : Nat) : Level := if fua || durable || decide (2097152 ≤ len) then .onMedia else .isProtected

/-- The level of a seal (05 Table 5.10). -/
def sealLevel (fua durable : Bool) : Level := if fua || durable then .onMedia else .isProtected

/-! ## Sealing (05 R133; 09 R239) -/

/-- Code of an ingest source (09 Table 9.4). -/
def sourceCode : Source → Nat
  | .put => 1
  | .copied => 2
  | .hitch => 3

/-- Seals an object at a stamp: the whipping record, the index entry, the ingest entry and, but for an arrival by hitch, the receipt (05 R133; 09
R239, R245, Table 9.3). A value of
3,072 bytes or less lies inline in the leaf from here on; what was written of it in the log stays until a flush has covered the entry (06
R154). Answers the SEAL payload and the receipt. -/
def sealObj (c : Coll) (o : Obj) (st : CStamp) (s : State) : Flds × (Nat × Nat × Nat) × State :=
  let v := objValue o
  let (salt, s1) := drawDigest s
  let sha2 := Config.sha256 v
  let sha3 := Config.sha3 v
  let w : Whip := { size := v.length, parts := o.parts.length, sha2 := sha2, sha3 := sha3, salt := salt, stamp := st, custody := kstamp s1 }
  let parts := if v.length ≤ 3072 then o.parts.map (fun p => { p with extents := [] }) else o.parts
  let s2 := recordObj c { o with whip := some w, counted := false, parts := parts } st s1
  let f3 := commitF3 o.mac salt sha2 sha3 v.length
  let f2 := commitF2 o.mac salt sha2 sha3 v.length
  let body : Flds := [(2, o.coll), (1, sourceCode o.source), (5, 0), (32, o.mac.toNat), (8, v.length), (4, o.parts.length), (4, 0), (32, f3.toNat), (32, f2.toNat)]
  let (e, s3) := appendEntry c.tenant 0x0010 st body s2
  let leaf := (((s3.fix.batches.find? (fun b => b.tenant == c.tenant && !b.closed))).map (fun b => b.count)).getD 0
  let (b, s4) := match e.filter (fun _ => o.source != .hitch) with
    | some x => addReceipt 1 c.tenant o.coll o.mac (sealBody f3 f2 v.length o.parts.length (sourceCode o.source)) x s3
    | none => ((c.tenant, 0), s3)
  let s5 := walkEnded c o.mac (objAt s4 o.coll o.mac) s4
  ([(32, o.mac.toNat), (8, v.length), (32, sha2.toNat), (32, sha3.toNat), (8, entryPos e), receiptSlot], (b.1, b.2, leaf), s5)

/-! ## Ends of objects (05 R135, R140) -/

/-- The stored parts and record of an object become stale (07 R191). -/
def staleObj (o : Obj) (s : State) : State :=
  killKind (fun k => match k with
    | .extent c m _ => c == o.coll && m == o.mac
    | .object c m => c == o.coll && m == o.mac
    | _ => false) s

/-- An object leaves the state, its index entry with it. -/
def dropObj (c : Coll) (o : Obj) (st : CStamp) (s : State) : State :=
  let objs := dropIf (fun x => x.coll == o.coll && x.mac == o.mac) s.obj.objs
  let locks := dropIf (fun l => l.coll == o.coll && l.mac == some o.mac) s.obj.locks
  let s1 := staleObj o { s with obj := { s.obj with objs := objs, locks := locks } }
  clearHint c.tenant o.coll o.mac (indexRemove c.shard c.tenant o.coll o.mac st s1)

/-- Discards an open object: cause 1 PUT_ABORT, 2 idle (05 R135; 09 Table 9.4). -/
def abortObj (c : Coll) (o : Obj) (cause : Nat) (s : State) : CStamp × State :=
  let (st, s1) := sequence c.shard s
  (st, enter c.tenant 0x0011 st [(2, o.coll), (1, cause), (5, 0), (32, o.mac.toNat)] (dropObj c o st s1))

/-- Deletes a sealed object at a stamp: tombstone, index entry, lanyard entry, and the notice of a hitch
(05 R140; 11 R292). Answers the lanyard position. -/
def deleteObj (c : Coll) (o : Obj) (st : CStamp) (s : State) : Nat × State :=
  let s1 := dropObj c o st s
  let s2 := (writeSealed c.shard (geomData c.geometry) (.tombstone o.coll o.mac) "UVTB" c.tenant 48 (tombstoneBody o.coll o.mac (recordAddr s o)) st
    s1).2
  let (e, s3) := appendEntry c.tenant 0x0012 st [(2, o.coll), (6, 0), (32, o.mac.toNat)] s2
  let s4 := hitchDelete o.coll o.mac ((o.whip.map (fun w => w.stamp)).getD st) s3
  (entryPos e, chargeUnits c.tenant 1 (geomData c.geometry) true s4)

/-! ## Setting and releasing locks (05 R141) -/

/-- The lowest hold number free on a target (log entry 19). -/
def freeHold (ls : List Lock) : Option Nat := (firstFree 16 (fun k => !(ls.any (fun l => l.num == k + 1)))).map (fun k => k + 1)

/-- Places a lock on a target: the list, the object record or the record banks, and the entry (05 R141; 09 Table 9.4). Answers the stamp, the
entry and the bank generation a collection lock waits for. -/
def placeLock (c : Coll) (mac : Option Digest) (l : Lock) (s : State) : CStamp × Option LyEntry × Option (Nat × Bool) × State :=
  let (st, s1) := sequence c.shard s
  let kept := (locksAt s1 c.num mac).filter (fun x => x.num != l.num)
  let s2 := putLocks c.num mac (kept ++ [l]) st s1
  let (gen, s3) : Option (Nat × Bool) × State :=
    match mac.bind (objAt s2 c.num) with
    | some o => (none, recordObj c o st s2)
    | none => (some ((changeBanks s2).1, false), (changeBanks s2).2)
  let (e, s4) := appendEntry c.tenant 0x0014 st
    [(2, c.num), (1, l.num), (1, l.issuer), (4, 0), (32, (mac.getD 0).toNat), (8, l.expiry), (32, l.reason.toNat)] s3
  (st, e, gen, s4)

/-- A lock that crosses in a hitch is placed unchanged, and goes on to a hitch of this shelf (11 R291). -/
def carryLock (c : Coll) (mac : Option Digest) (l : Lock) (s : State) : State := hitchLock c.num mac l (placeLock c mac l s).2.2.2

/-- Sets a lock by HOLD or STOPPER: with the receipt of kind 2 (05 R141; 09 Table 9.3). Answers the stamp, the position, the receipt and the bank
generation a collection lock waits for. -/
def setLock (c : Coll) (mac : Option Digest) (l : Lock) (s : State) : CStamp × Nat × (Nat × Nat × Nat) × Option (Nat × Bool) × State :=
  let (st, e, gen, s1) := placeLock c mac l s
  let leaf := (((s1.fix.batches.find? (fun b => b.tenant == c.tenant && !b.closed))).map (fun b => b.count)).getD 0
  let (b, s2) := match e with
    | some x => addReceipt 2 c.tenant c.num (mac.getD 0) [(8, l.expiry), (1, l.num), (23, 0), (32, l.reason.toNat), (32, 0)] x s1
    | none => ((c.tenant, 0), s1)
  (st, entryPos e, (b.1, b.2, leaf), gen, hitchLock c.num mac l s2)

end Machine
end Sys2Proof
end

