-- ==== Sys2Proof/Machine/Objects.lean ====
section
/-!
DEFINITION. The object service (05): what every UOP command and every timer of the object engine does. Each command is a check,
which answers the first failing test in the order of R125, and an act; the same pair serves a queue and a mailbox relay.
-/
namespace Sys2Proof
namespace Machine

/-! ## Frame of a UOP command -/

/-- The source of a capsule on a queue. -/
def queueSrc (s : State) (q ingress : Nat) : Src :=
  { who := ((ctxAt s q).map (fun c => c.who)).getD (.tenant 0xFFFF), port := .ctx q, op := 0, tag := 0, ingress := ingress }

/-- The source of a capsule on a mailbox (05 R127). -/
def relaySrc (x : Conn) (tag ingress : Nat) : Src := { who := x.who, port := .mbx x.mbx, op := 0x0A01, tag := tag, ingress := ingress }

/-- The decoy of a command that names an object it does not see, under the caller's own name key: the walk, and the probe of a GET (02 R50;
06 R159). -/
def decoy (x : Src) (cap : Capsule) (s : State) : State :=
  match x.who.tenant?.bind (tenantAt s) with
  | none => s
  | some t =>
    let a := cap.hdr.addressing.toNat
    if a ≠ 1 ∧ a ≠ 2 then s
    else
      let mac := if a = 2 then cap.hdr.mac else (t.root.map (fun r => nameMac r cap.name)).getD 0
      decoyWalk t.num cap.hdr.coll.toNat mac (if cap.hdr.opcode.toNat = 0x10 then countProbe t.num s else s)

/-- The walk of a command that finds its object. -/
def walkObj (c : Coll) (o : Obj) (s : State) : State :=
  walkEnded c o.mac (some o) (walkTo c.shard c.tenant (macPart o.mac) o.coll o.mac s)

/-- Refuses a command, after its decoy walk where it names an object that is not visible. -/
def refuseUop (x : Src) (cap : Capsule) (a : Nat × Flds) (s : State) : State :=
  uopRefuse x cap.hdr a (if a.1 = eNotVisible then decoy x cap s else s)

/-- A command: its check, then its act. -/
def runUop (x : Src) (cap : Capsule) (check : State → Option (Nat × Flds)) (act : State → State) (s : State) : State :=
  match check s with
  | some a => refuseUop x cap a s
  | none => act s

/-- A UOP capsule on a queue (04 R105; 05 R119). -/
def uopArrive (i : Instr) (q : Nat) (cap : Capsule) (check : Src → State → Option (Nat × Flds)) (run : Src → State → State) (s : State) :
    State :=
  arrive i (fun s => lowClass (check (queueSrc s q (now s)) s)) (fun ing a s => refuseUop (queueSrc s q ing) cap a s)
    (fun ing s => run (queueSrc s q ing) s) s

/-- The first refusal of a list. -/
def firstOf : List (Option (Nat × Flds)) → Option (Nat × Flds)
  | [] => none
  | some a :: _ => some a
  | none :: r => firstOf r

/-- A refusal with a status when a condition holds. -/
def failIf (b : Bool) (status : Nat) : Option (Nat × Flds) := if b then some (status, []) else none

/-- The collection a capsule names. -/
def capColl (s : State) (cap : Capsule) : Option Coll := activeColl s cap.hdr.coll.toNat

/-- The tenant of the collection holds its key (05 Table 5.7). -/
def collReady (s : State) (cap : Capsule) : Bool := (capColl s cap).any (fun c => keyHeld s c.tenant)

/-- The MAC a capsule addresses in its collection. -/
def capMac (s : State) (x : Src) (cap : Capsule) : Option Digest := (capColl s cap).bind (macOf s x.who cap)

/-- The sealed object a capsule addresses. -/
def capObj (s : State) (x : Src) (cap : Capsule) : Option Obj := (capMac s x cap).bind (sealedAt s cap.hdr.coll.toNat)

/-- Sends a mutation's completion when what it waits for has come. -/
def finishUop (x : Src) (cap : Capsule) (st : CStamp) (level : Level) (shard : Nat) (rows : List (Nat × Nat)) (status : Nat) (payload : Flds)
    (s : State) : State :=
  hold (heldMut (uopMsg x cap.hdr (levelFlag level) status st payload []) st shard level rows s) s

/-- Commits a tenant's bytes: the byte quota would be passed (05 R132). -/
def overQuota (s : State) (t n : Nat) : Bool := decide (byteQuota s t < bytesOf s t + n)

/-- The digests a caller expects differ from those of the value; zero is not checked (05 R133). -/
def digestWrong (v : Bytes) (sha2 sha3 : Digest) : Bool :=
  (sha2 != 0 && sha2 != Config.sha256 v) || (sha3 != 0 && sha3 != Config.sha3 v)

/-- A collection is the target of a hitch that is neither closed nor aborted (11 R296). -/
def hitchTarget (s : State) (n : Nat) : Bool :=
  s.hitch.list.any (fun h => !h.source && h.state != .closed && h.state != .aborted && h.collMap.any (fun m => m.2 == n))

/-- New objects are refused in a collection: a hitch closed it on the source, or fills it on the target (11 R296). -/
def hitchShut (s : State) (n : Nat) : Bool := (collAt s n).any (fun c => c.closed) || hitchTarget s n

/-! ## PUT (05 R131) -/

/-- SEAL_NOW. -/
def sealNow (cap : Capsule) : Bool := cap.hdr.flags.getLsbD 1

/-- FUA. -/
def capFua (cap : Capsule) : Bool := cap.hdr.flags.getLsbD 0

/-- The bytes of part 0 that a PUT carries. -/
def putData (s : State) (x : Src) (b : PutBody) : Option Bytes := descData s x.port b.desc b.data

/-- The checks of PUT. -/
def checkPut (x : Src) (cap : Capsule) (b : PutBody) (s : State) : Option (Nat × Flds) :=
  let n := cap.hdr.coll.toNat
  let spec : CapSpec :=
    { addr := [1], flags := 3, body := 96 + b.metaLen.toNat + padTo 8 b.metaLen.toNat, incap := descIncap b.desc,
      bodyRsv := b.rsv != 0 || descRsv b.desc || padSet b.metaPad || (!sealNow cap && (b.sha2 != 0 || b.sha3 != 0)),
      bodyBad := decide (3 < b.desc.kind.toNat) || !descFits b.desc b.data || b.metadata.length != b.metaLen.toNat ||
        !padOk b.metadata.length b.metaPad }
  let data := (putData s x b).getD []
  let t := ((capColl s cap).map (fun c => c.tenant)).getD 0
  let taken := (capMac s x cap).any (fun m => (objAt s n m).isSome)
  let dep := !ownColl s x.who n
  firstOf [
    (capsuleCheck cap spec).map (fun e => (e, [])),
    failIf (putData s x b).isNone eRange,
    failIf (!(ownColl s x.who n || depColl s x.who n)) eNotVisible,
    failIf (!collReady s cap) eNotReady,
    failIf (taken && dep) eNotVisible,
    failIf (hitchShut s n) eHitchState,
    failIf taken eExists,
    failIf (sealNow cap && !custodyReady s) eCustodyKey,
    failIf (sealNow cap && digestWrong data b.sha2 b.sha3) eDigest,
    failIf (decide (4096 < cap.name.length) || decide (4096 < b.metadata.length) || descLong b.desc) eLimit,
    failIf (decide (2 ^ 36 ≤ s.obj.objs.length)) eLimit,
    failIf (!sealNow cap && (tenantAt s t).any (fun y => decide (y.quota.openAllow.toNat ≤ openOf s t))) eQuota,
    failIf (overQuota s t data.length) eQuota]

/-- The holder a handle is bound to: the depositor's key, or the tenant's (05 R124). -/
def holderOf (s : State) (p : Principal) : Option Digest :=
  match p with
  | .depositor _ _ h => some h
  | .tenant t => (tenantAt s t).map (fun y => y.key)
  | _ => none

/-- A new open object under fresh keys (05 R124, R131; 02 Table 2.6). -/
def newObj (x : Src) (cap : Capsule) (c : Coll) (mac : Digest) (metadata : Bytes) (src : Source) (s : State) : Obj × State :=
  let (key, s1) := drawKey s
  let (hd, s2) := draw s1
  ({ coll := c.num, mac := mac, name := cap.name, metadata := metadata, parts := [], whip := none, handle := hd.setWidth 64,
     opener := holderOf s x.who, lastUse := x.ingress, stamp := noStamp, source := src, lastRead := 0, lost := false,
     counted := false, key := key, version := 0, digested := 0 }, s2)

/-- Ends a SEAL, a PUT with SEAL_NOW or a COPY: its completion waits for its receipt (05 R133, R145; 09 R246). -/
def finishSeal (x : Src) (cap : Capsule) (c : Coll) (o : Obj) (st : CStamp) (rows : List (Nat × Nat)) (s : State) : State :=
  let units := recordUnits s o
  let (payload, batch, s1) := sealObj c o st s
  let level := sealLevel (capFua cap) c.durable
  let m := uopMsg x cap.hdr (levelFlag level) sOk st payload []
  let all := if level = .onMedia then rows ++ ((allExtents o).map (fun e => ((extentStrips (segD s1 (addrSeg e.1)) e.1 e.2).map
      (fun y => (y.1, y.2.1))))).flatten.eraseDups else rows
  let s2 := chargeUnits c.tenant units (geomData c.geometry) true s1
  hold { heldMut m st c.shard level all s2 with batch := some batch } s2

/-- PUT passes its checks. -/
def actPut (x : Src) (cap : Capsule) (b : PutBody) (s : State) : State :=
  match capColl s cap, capMac s x cap with
  | some c, some mac =>
    let data := (putData s x b).getD []
    let s0 := readRemote x.port b.desc s
    let (o0, s1) := newObj x cap c mac b.metadata .put s0
    let (st, s2) := sequence c.shard s1
    let (o1, rows, s3) := if data.isEmpty then (o0, [], s2) else commitPart c o0 0 data st s2
    if sealNow cap then
      finishSeal x cap c o1 st rows (chargeUnits c.tenant (partUnits data.length) (geomData c.geometry) (decide (data.length < 2097152)) s3)
    else
      let o2 := { o1 with counted := true }
      let s4 := chargeUnits c.tenant (partUnits data.length + recordUnits s3 o2) (geomData c.geometry) (decide (data.length < 2097152)) s3
      let level := if data.isEmpty then Level.isProtected else partLevel (capFua cap) c.durable data.length
      let s5 := walkEnded c mac none (recordObj c o2 st s4)
      finishUop x cap st level c.shard rows sOk [(8, o2.handle.toNat)] s5
  | _, _ => s

/-- PUT on a queue or by relay. -/
def runPut (x : Src) (cap : Capsule) (b : PutBody) (s : State) : State := runUop x cap (checkPut x cap b) (actPut x cap b) s

/-- PUT (05 R131). -/
def execPut (q : Nat) (cap : Capsule) (b : PutBody) (s : State) : Host.Outcome State Fault Refusal :=
  .next (uopArrive (.put q cap b) q cap (fun x => checkPut x cap b) (fun x => runPut x cap b) s)

/-! ## PUT_PART (05 R132) -/

/-- The classes 0x01 and 0x02 of PUT_PART. -/
def checkPartHead (x : Src) (cap : Capsule) (b : PartBody) (s : State) : Option (Nat × Flds) :=
  let k := b.desc.kind.toNat
  let bad := !(k == 1 || k == 2 || k == 3) || b.desc.len == 0 || !descFits b.desc b.data
  let spec : CapSpec :=
    { addr := [3], flags := 1, body := 32, incap := descIncap b.desc, bodyRsv := b.rsv != 0 || descRsv b.desc, bodyBad := bad }
  firstOf [
    (capsuleCheck cap spec).map (fun e => (e, [])),
    failIf (descData s x.port b.desc b.data).isNone eRange,
    failIf (openAt s x.who cap.hdr).isNone eNotVisible]

/-- The committed part of a number. -/
def partOf (o : Obj) (n : Nat) : Option PartData := o.parts.find? (fun p => p.num == n)

/-- The checks of PUT_PART. -/
def checkPutPart (x : Src) (cap : Capsule) (b : PartBody) (s : State) : Option (Nat × Flds) :=
  let o := openAt s x.who cap.hdr
  let old := o.bind (fun y => partOf y b.part.toNat)
  let len := b.desc.len.toNat
  let t := ((capColl s cap).map (fun c => c.tenant)).getD 0
  firstOf [
    checkPartHead x cap b s,
    failIf (!collReady s cap) eNotReady,
    failIf (old.any (fun p => p.data.length != len)) eState,
    failIf (decide (262143 < b.part.toNat) || descLong b.desc) eLimit,
    failIf (old.isNone && overQuota s t len) eQuota]

/-- A command that passed the checks of classes 0x01 and 0x02 against its handle restarts the idle time from its ingress (05 R135). -/
def restartIdle (x : Src) (cap : Capsule) (s : State) : State :=
  match openAt s x.who cap.hdr with
  | some o => putObj { o with lastUse := max o.lastUse x.ingress } s
  | none => s

/-- PUT_PART passes its checks. -/
def actPutPart (x : Src) (cap : Capsule) (b : PartBody) (s : State) : State :=
  match openAt s x.who cap.hdr, capColl s cap with
  | some o, some c =>
    match partOf o b.part.toNat with
    | some _ => uopDone x cap.hdr sAlready [] s
    | none =>
      let data := (descData s x.port b.desc b.data).getD []
      let (st, s1) := sequence c.shard (readRemote x.port b.desc s)
      let (o1, rows, s2) := commitPart c o b.part.toNat data st s1
      let o2 := { o1 with stamp := st }
      let s3 := chargeUnits c.tenant (partUnits data.length) (geomData c.geometry) (decide (data.length < 2097152)) s2
      let s4 := walkEnded c o.mac none (recordObj c o2 st s3)
      finishUop x cap st (partLevel (capFua cap) c.durable data.length) c.shard rows sOk [] s4
  | _, _ => s

/-- PUT_PART on a queue. -/
def runPutPart (x : Src) (cap : Capsule) (b : PartBody) (s : State) : State :=
  let s1 := if (checkPartHead x cap b s).isNone then restartIdle x cap s else s
  runUop x cap (checkPutPart x cap b) (actPutPart x cap b) s1

/-- PUT_PART (05 R132). -/
def execPutPart (q : Nat) (cap : Capsule) (b : PartBody) (s : State) : Host.Outcome State Fault Refusal :=
  .next (uopArrive (.putPart q cap b) q cap (fun x => checkPutPart x cap b) (fun x => runPutPart x cap b) s)

/-! ## PUT_ABORT (05 R135) -/

/-- A body of no bytes. -/
def bare (addr : List Nat) (flags : Nat) : CapSpec := { addr := addr, flags := flags, body := 0, incap := 0, bodyRsv := false, bodyBad := false }

/-- The checks of PUT_ABORT. -/
def checkPutAbort (x : Src) (cap : Capsule) (s : State) : Option (Nat × Flds) :=
  firstOf [
    (capsuleCheck cap (bare [3] 1)).map (fun e => (e, [])),
    failIf (openAt s x.who cap.hdr).isNone eNotVisible,
    failIf (!collReady s cap) eNotReady]

/-- PUT_ABORT passes its checks. -/
def actPutAbort (x : Src) (cap : Capsule) (s : State) : State :=
  match openAt s x.who cap.hdr, capColl s cap with
  | some o, some c =>
    let (st, s1) := abortObj c o 1 s
    finishUop x cap st .isProtected c.shard [] sOk [] s1
  | _, _ => s

/-- PUT_ABORT on a queue. -/
def runPutAbort (x : Src) (cap : Capsule) (s : State) : State := runUop x cap (checkPutAbort x cap) (actPutAbort x cap) s

/-- PUT_ABORT (05 R135). -/
def execPutAbort (q : Nat) (cap : Capsule) (s : State) : Host.Outcome State Fault Refusal :=
  .next (uopArrive (.putAbort q cap) q cap (fun x => checkPutAbort x cap) (fun x => runPutAbort x cap) s)

/-! ## SEAL (05 R133) -/

/-- The classes 0x01 and 0x02 of SEAL. -/
def checkSealHead (x : Src) (cap : Capsule) (b : SealBody) (s : State) : Option (Nat × Flds) :=
  firstOf [
    (capsuleCheck cap { addr := [3], flags := 1, body := 80, incap := 0, bodyRsv := b.rsv != 0, bodyBad := false }).map (fun e => (e, [])),
    failIf (openAt s x.who cap.hdr).isNone eNotVisible]

/-- The parts are 0 to n - 1 and their lengths sum to the size (05 R133). -/
def partsWhole (o : Obj) (b : SealBody) : Bool :=
  o.parts.map (fun p => p.num) == List.range o.parts.length && o.parts.length == b.count.toNat && objSize o == b.size.toNat

/-- The checks of SEAL. -/
def checkSeal (x : Src) (cap : Capsule) (b : SealBody) (s : State) : Option (Nat × Flds) :=
  let o := openAt s x.who cap.hdr
  firstOf [
    checkSealHead x cap b s,
    failIf (!collReady s cap) eNotReady,
    failIf (o.any (fun y => !partsWhole y b)) eState,
    failIf (!custodyReady s) eCustodyKey,
    failIf (o.any (fun y => (undigested y).isEmpty && digestWrong (objValue y) b.sha2 b.sha3)) eDigest,
    failIf (decide (262144 < b.count.toNat) || decide (2 ^ 44 < b.size.toNat)) eLimit]

/-- A SEAL waits for the parts that its digests must read back, and its checks are made again then (05 R134). -/
def digestBack (x : Src) (cap : Capsule) (c : Coll) (o : Obj) (i : Instr) (s : State) : State :=
  let id := s.nextId
  readFor c.tenant 1 c.num id (undigested o)
    (hold { heldAt (uopMsg x cap.hdr 0 sOk noStamp [] []) (now s) with job := some (.digest o.coll o.mac i x.ingress) } s)

/-- SEAL passes its checks. -/
def actSeal (x : Src) (cap : Capsule) (b : SealBody) (s : State) : State :=
  match openAt s x.who cap.hdr, capColl s cap, x.port with
  | some o, some c, .ctx q =>
    if (undigested o).isEmpty then
      let (st, s1) := sequence c.shard s
      finishSeal x cap c o st [] s1
    else digestBack x cap c o (.sealObject q cap b) s
  | _, _, _ => s

/-- SEAL on a queue. -/
def runSeal (x : Src) (cap : Capsule) (b : SealBody) (s : State) : State :=
  let s1 := if (checkSealHead x cap b s).isNone then restartIdle x cap s else s
  runUop x cap (checkSeal x cap b) (actSeal x cap b) s1

/-- SEAL (05 R133). -/
def execSeal (q : Nat) (cap : Capsule) (b : SealBody) (s : State) : Host.Outcome State Fault Refusal :=
  .next (uopArrive (.sealObject q cap b) q cap (fun x => checkSeal x cap b) (fun x => runSeal x cap b) s)

/-! ## GET (05 R136; 06 R160) -/

/-- The checks of GET up to the visibility of its collection: those that come before the walk. -/
def checkGetHead (x : Src) (cap : Capsule) (b : GetBody) (s : State) : Option (Nat × Flds) :=
  let k := b.desc.kind.toNat
  let n := cap.hdr.coll.toNat
  let bad := !(k == 1 || k == 3) || b.desc.len == 0
  let spec : CapSpec := { addr := [1, 2], flags := 0, body := 32, incap := 0, bodyRsv := descRsv b.desc, bodyBad := bad }
  firstOf [
    (capsuleCheck cap spec).map (fun e => (e, [])),
    failIf (!(ownColl s x.who n || readColl s x.who n)) eNotVisible,
    failIf (!collReady s cap) eNotReady]

/-- The result of a GET's walk (05 R125, R136): not visible, out of range, over the limit, lost. -/
def checkGetBody (b : GetBody) (o : Option Obj) (s : State) : Option (Nat × Flds) :=
  firstOf [
    failIf o.isNone eNotVisible,
    failIf (o.any (fun y => decide (objSize y < b.offset.toNat + b.desc.len.toNat))) eRange,
    failIf (descLong b.desc) eLimit,
    failIf (o.any (fun y => rangeLost s y b.offset.toNat b.desc.len.toNat)) eLost]

/-- Every check of GET, as a command refused red meets them. -/
def checkGet (x : Src) (cap : Capsule) (b : GetBody) (s : State) : Option (Nat × Flds) :=
  firstOf [checkGetHead x cap b s, checkGetBody b (capObj s x cap) s]

/-- The stored units of a hinted first extent that run-ahead reads, as the first and how many: the chunks of the range that lie wholly in the
window; the last chunk of a value may end short of 16 units (06 Table 6.6, R3). -/
def aheadUnits (s : State) (b : GetBody) (h : Hint) : Nat × Nat :=
  let win := min (h.len + 1) (pIdxRunaheadMax s / 4096)
  let whole := if win = h.len + 1 then ceilDiv win chunkUnits else win / chunkUnits
  let lo := b.offset.toNat / chunkBytes
  let hi := min (ceilDiv (b.offset.toNat + b.desc.len.toNat) chunkBytes) whole
  (lo * chunkUnits, min win (hi * chunkUnits) - lo * chunkUnits)

/-- Speculative reads of a hint: drive reads for the walk, charged at issue (06 R160, R163; 02 R56). Answers the units of the first extent read
ahead. -/
def runAhead (walk t coll : Nat) (b : GetBody) (h : Hint) (s : State) : Nat × State :=
  let f := DriveFlow.host t 1 coll
  if h.kind = 2 then
    if h.addr = 0 then (0, s) else (0, readPage f (.walkRead walk) false h.addr (chargeDrive t (16384 + pSchCmdCost s) s))
  else
    let x := aheadUnits s b h
    let strips := if x.2 = 0 then [] else mediaStrips s [(h.addr + x.1, x.2)]
    (x.2, strips.foldl (fun acc y =>
      match (rowAt acc y.1 y.2.1).bind (fun w => stripMember acc w y.2.2) with
      | some m => (issueFlow m f (.walkRead walk y.1 y.2.1 y.2.2) 2 (rowLba acc y.1 y.2.1) 16 acc).2
      | none => acc) (chargeDrive t (strips.length * (65536 + pSchCmdCost s)) s))

/-- GET starts its walk (06 Table 6.6, stages M, P, R3, W): a leaf that a kind 2 hint reads already is not read again (R161, R163). -/
def actGet (x : Src) (q : Nat) (cap : Capsule) (b : GetBody) (s : State) : State :=
  match capColl s cap, capMac s x cap with
  | some c, some mac =>
    let id := s.nextId
    let s1 := countProbe c.tenant { s with nextId := id + 1 }
    let h := if pIdxRunahead s % 2 = 1 then probe s1 c.tenant c.num mac else none
    let (ahead, s2) := match h with
      | some y => runAhead id c.tenant c.num b y s1
      | none => (0, s1)
    let leaf := leafAddr (partAt s c.shard (macPart mac)) c.tenant c.num mac
    let mine := if h.any (fun y => y.kind == 2 && y.addr == leaf % 2 ^ 48) then leaf else 0
    let s3 := walkPast c.shard c.tenant (macPart mac) c.num mine mac s2
    let w : Walk :=
      { id := id, q := q, tag := cap.hdr.tag.toNat, tenant := c.tenant, coll := c.num, mac := mac, point := readPoint s c.shard,
        ingress := x.ingress, body := b, hint := h, ahead := ahead, target := sealedAt s c.num mac, leaf := leaf,
        faults := [] }
    { s3 with idx := { s3.idx with walks := s3.idx.walks ++ [w] } }
  | _, _ => refuseUop x cap (eNotVisible, []) s

/-- GET on a queue. -/
def runGet (x : Src) (q : Nat) (cap : Capsule) (b : GetBody) (s : State) : State := runUop x cap (checkGetHead x cap b) (actGet x q cap b) s

/-- GET (05 R136; 06 R160). -/
def execGet (q : Nat) (cap : Capsule) (b : GetBody) (s : State) : Host.Outcome State Fault Refusal :=
  .next (uopArrive (.get q cap b) q cap (fun x => checkGet x cap b) (fun x => runGet x q cap b) s)

/-! ## HEAD and LIST (05 R137, R138) -/

/-- The flags of a HEAD record and of a LIST entry (05 Table 5.6). -/
def objFlags (s : State) (o : Obj) : Nat :=
  let ls := (bindingLocks s o.coll o.mac).filter (lockForce s)
  (if ls.any (fun l => !isStopper l) then 1 else 0) + (if ls.any isStopper then 2 else 0) + (if o.lost then 4 else 0)

/-- The HEAD record (05 Table 5.6). -/
def headFlds (s : State) (o : Obj) : Flds :=
  match o.whip with
  | none => []
  | some w =>
    [(32, o.mac.toNat), (8, w.size), (4, w.parts), (2, o.metadata.length), (2, objFlags s o)] ++ cstampFlds w.stamp ++ kstampFlds w.custody ++
    [(32, w.sha2.toNat), (32, w.sha3.toNat), (8, stopperExpiry s (bindingLocks s o.coll o.mac)), (8, o.lastRead),
     (o.metadata.length, leValue o.metadata)]

/-- The checks of HEAD. -/
def checkHead (x : Src) (cap : Capsule) (s : State) : Option (Nat × Flds) :=
  let n := cap.hdr.coll.toNat
  firstOf [
    (capsuleCheck cap (bare [1, 2] 0)).map (fun e => (e, [])),
    failIf (!(ownColl s x.who n || readColl s x.who n)) eNotVisible,
    failIf (!collReady s cap) eNotReady,
    failIf (capObj s x cap).isNone eNotVisible]

/-- HEAD passes its checks. -/
def actHead (x : Src) (cap : Capsule) (s : State) : State :=
  match capColl s cap, capObj s x cap with
  | some c, some o => uopDone x cap.hdr sOk (headFlds s o) (walkObj c o s)
  | _, _ => s

/-- HEAD on a queue. -/
def runHead (x : Src) (cap : Capsule) (s : State) : State := runUop x cap (checkHead x cap) (actHead x cap) s

/-- HEAD (05 R137). -/
def execHead (q : Nat) (cap : Capsule) (s : State) : Host.Outcome State Fault Refusal :=
  .next (uopArrive (.head q cap) q cap (fun x => checkHead x cap) (fun x => runHead x cap) s)

/-- The checks of LIST. -/
def checkList (x : Src) (cap : Capsule) (b : ListBody) (s : State) : Option (Nat × Flds) :=
  let k := b.desc.kind.toNat
  let n := cap.hdr.coll.toNat
  let spec : CapSpec :=
    { addr := [0], flags := 4, body := 64 + b.preLen.toNat + padTo 8 b.preLen.toNat, incap := 0,
      bodyRsv := b.rsv != 0 || descRsv b.desc || padSet b.prePad,
      bodyBad := !(k == 1 || k == 3) || decide (b.desc.len.toNat < 4144) ||
        b.maxEnt == 0 || decide (65536 < b.maxEnt.toNat) || b.pre.length != b.preLen.toNat || !padOk b.pre.length b.prePad }
  firstOf [
    (capsuleCheck cap spec).map
      (fun e => (e, [])),
    failIf (!(ownColl s x.who n || readColl s x.who n)) eNotVisible,
    failIf (!collReady s cap) eNotReady,
    failIf (decide (4096 < b.preLen.toNat) || (k == 1 && decide (8192 < b.desc.len.toNat))) eLimit]

/-- One LIST entry (05 Table 5.8). -/
def listEntry (s : State) (o : Obj) : Flds :=
  [(2, o.name.length), (2, objFlags s o), (4, 0), (8, objSize o), (32, o.mac.toNat), (o.name.length + padTo 8 o.name.length, leValue o.name)]

/-- What one LIST found: its entries, the MAC of the last one examined, whether an object remains unexamined. -/
structure Listed where
  entries : List Flds
  last    : Option Digest
  cut     : Bool
deriving DecidableEq, Repr

/-- Examines objects in order, with so many entries, bytes and examinations left (05 R138). -/
def examine (s : State) (pre : Bytes) : Nat → Nat → Nat → List Obj → Listed
  | _, _, _, [] => { entries := [], last := none, cut := false }
  | entries, room, left, o :: os =>
    let hit := o.whip.isSome && pre.isPrefixOf o.name
    let e := listEntry s o
    if entries = 0 ∨ left = 0 ∨ (hit ∧ room < sizeFlds e) then { entries := [], last := none, cut := true }
    else if hit then
      let r := examine s pre (entries - 1) (room - sizeFlds e) (left - 1) os
      { entries := e :: r.entries, last := r.last.or (some o.mac), cut := r.cut }
    else
      let r := examine s pre entries room (left - 1) os
      { r with last := r.last.or (some o.mac) }

/-- LIST passes its checks: a snapshot at this instant, its entries to the descriptor (05 R138). -/
def actList (x : Src) (cap : Capsule) (b : ListBody) (s : State) : State :=
  match capColl s cap with
  | none => s
  | some c =>
    let cur := if cap.hdr.flags.getLsbD 2 then some b.cursor else none
    let objs := s.obj.objs.filter (fun o => o.coll == c.num && cur.all (fun m => decide (m.toNat < o.mac.toNat)))
    let r := examine s b.pre b.maxEnt.toNat b.desc.len.toNat 65536 objs
    let flds := r.entries.flatten
    let next := (r.last.or cur).getD 0
    let s1 := (objs.takeWhile (fun o => r.last.any (fun m => decide (o.mac.toNat ≤ m.toNat)))).foldl
      (fun acc o => walkTo c.shard c.tenant (macPart o.mac) c.num o.mac acc) s
    let head : Flds := [(4, r.entries.length), (4, 0), (32, next.toNat)]
    let status := if r.cut then sTruncated else sOk
    if b.desc.kind.toNat = 1 then leave (uopMsg x cap.hdr 0 status noStamp (head ++ flds) []) none s1
    else leave (uopMsg x cap.hdr 0 status noStamp head (encodeFlds flds)) (some (b.desc.key.toNat, b.desc.addr.toNat)) s1

/-- LIST on a queue. -/
def runList (x : Src) (cap : Capsule) (b : ListBody) (s : State) : State := runUop x cap (checkList x cap b) (actList x cap b) s

/-- LIST (05 R138). -/
def execList (q : Nat) (cap : Capsule) (b : ListBody) (s : State) : Host.Outcome State Fault Refusal :=
  .next (uopArrive (.list q cap b) q cap (fun x => checkList x cap b) (fun x => runList x cap b) s)

/-! ## DELETE (05 R140) -/

/-- The checks of DELETE. -/
def checkDelete (x : Src) (cap : Capsule) (s : State) : Option (Nat × Flds) :=
  let n := cap.hdr.coll.toNat
  firstOf [
    (capsuleCheck cap (bare [1, 2] 1)).map (fun e => (e, [])),
    failIf (!ownColl s x.who n) eNotVisible,
    failIf (!collReady s cap) eNotReady,
    failIf (capObj s x cap).isNone eNotVisible,
    failIf (hitchTarget s n) eHitchState,
    (capObj s x cap).bind (fun o => lockRefusal s (bindingLocks s n o.mac))]

/-- DELETE passes its checks. -/
def actDelete (x : Src) (cap : Capsule) (s : State) : State :=
  match capColl s cap, capObj s x cap with
  | some c, some o =>
    let (st, s1) := sequence c.shard (walkTo c.shard c.tenant (macPart o.mac) o.coll o.mac s)
    let (pos, s2) := deleteObj c o st s1
    finishUop x cap st .onMedia c.shard [] sOk [(8, pos)] s2
  | _, _ => s

/-- The expiries that a command meets on its target once its checks of classes 0x01 to 0x03 have passed (05 R142). -/
def meetLocks (x : Src) (cap : Capsule) (check : State → Option (Nat × Flds)) (s : State) : State :=
  if (lowClass (check s)).isSome then s
  else meetExpiries cap.hdr.coll.toNat (if cap.hdr.addressing.toNat = 0 then none else capMac s x cap) s

/-- DELETE on a queue. -/
def runDelete (x : Src) (cap : Capsule) (s : State) : State :=
  runUop x cap (checkDelete x cap) (actDelete x cap) (meetLocks x cap (checkDelete x cap) s)

/-- DELETE (05 R140). -/
def execDelete (q : Nat) (cap : Capsule) (s : State) : Host.Outcome State Fault Refusal :=
  .next (uopArrive (.delete q cap) q cap (fun x => checkDelete x cap) (fun x => runDelete x cap) s)

/-! ## COPY (05 R144) -/

/-- The source of a COPY. -/
def copySource (s : State) (b : CopyBody) : Option Obj := sealedAt s b.src.toNat b.mac

/-- A source can be copied: no stripe of it is lost, and its digests are those of its whipping record. -/
def copyWhole (s : State) (o : Obj) : Bool :=
  !rangeLost s o 0 (objSize o) && o.whip.any (fun w => Config.sha256 (objValue o) == w.sha2 && Config.sha3 (objValue o) == w.sha3)

/-- The checks of COPY. -/
def checkCopy (x : Src) (cap : Capsule) (b : CopyBody) (s : State) : Option (Nat × Flds) :=
  let n := cap.hdr.coll.toNat
  let t := ((capColl s cap).map (fun c => c.tenant)).getD 0
  firstOf [
    (capsuleCheck cap { addr := [1], flags := 1, body := 40, incap := 0, bodyRsv := b.rsv != 0, bodyBad := false }).map (fun e => (e, [])),
    failIf (!(ownColl s x.who n && ownColl s x.who b.src.toNat)) eNotVisible,
    failIf (!collReady s cap) eNotReady,
    failIf (copySource s b).isNone eNotVisible,
    failIf (hitchShut s n) eHitchState,
    failIf ((capMac s x cap).any (fun m => (objAt s n m).isSome)) eExists,
    failIf (!custodyReady s) eCustodyKey,
    failIf (decide (4096 < cap.name.length)) eLimit,
    failIf (decide (2 ^ 36 ≤ s.obj.objs.length)) eLimit,
    failIf ((copySource s b).any (fun o => overQuota s t (objSize o))) eQuota,
    failIf ((copySource s b).any (fun o => !copyWhole s o)) eLost]

/-- Commits every part of a source in a new object (05 R144). -/
def copyParts (c : Coll) (st : CStamp) : List PartData → Obj → List (Nat × Nat) → State → Obj × List (Nat × Nat) × State
  | [], o, rows, s => (o, rows, s)
  | p :: ps, o, rows, s =>
    let (o1, r, s1) := commitPart c o p.num p.data st s
    copyParts c st ps o1 (rows ++ r)
      (chargeUnits c.tenant (partUnits p.data.length) (geomData c.geometry) (decide (p.data.length < 2097152)) s1)

/-- COPY passes its checks. -/
def actCopy (x : Src) (cap : Capsule) (b : CopyBody) (s : State) : State :=
  match capColl s cap, capMac s x cap, copySource s b with
  | some c, some mac, some o =>
    let s0 := (collAt s o.coll).elim s (fun k => walkObj k o s)
    let s1 := readAway c.tenant c.num (allExtents o) s0
    let (n, s2) := newObj x cap c mac o.metadata .copied s1
    let (st, s3) := sequence c.shard s2
    let (n1, rows, s4) := copyParts c st o.parts n [] s3
    finishSeal x cap c n1 st rows s4
  | _, _, _ => s

/-- COPY on a queue. -/
def runCopy (x : Src) (cap : Capsule) (b : CopyBody) (s : State) : State := runUop x cap (checkCopy x cap b) (actCopy x cap b) s

/-- COPY (05 R144). -/
def execCopy (q : Nat) (cap : Capsule) (b : CopyBody) (s : State) : Host.Outcome State Fault Refusal :=
  .next (uopArrive (.copy q cap b) q cap (fun x => checkCopy x cap b) (fun x => runCopy x cap b) s)

/-! ## HOLD, STOPPER and RELEASE (05 R141) -/

/-- The expiry of a lock is out of range (05 R141): not after the Custody Time of the ingress, or more than 200 years after it. -/
def expiryBad (s : State) (e : Nat) : Bool := decide (e ≤ (lockClock s).1) || decide ((lockClock s).1 + 6311390400 < e)

/-- The target of HOLD and STOPPER is visible: the collection, and the sealed object where one is addressed. -/
def lockVisible (s : State) (x : Src) (cap : Capsule) : Bool :=
  (ownColl s x.who cap.hdr.coll.toNat || custColl s x.who cap.hdr.coll.toNat) && (cap.hdr.addressing.toNat != 1 || !isCustodian x.who)

/-- The object of HOLD and STOPPER, none for the collection. -/
def lockMac (s : State) (x : Src) (cap : Capsule) : Option Digest := if cap.hdr.addressing.toNat = 0 then none else capMac s x cap

/-- The common checks of HOLD and STOPPER. -/
def checkLock (x : Src) (cap : Capsule) (noExpiry : Bool) (b : LockBody) (s : State) : Option (Nat × Flds) :=
  let e := b.expiry.toNat
  firstOf [
    (capsuleCheck cap { addr := [0, 1, 2], flags := 1, body := 40, incap := 0, bodyRsv := false, bodyBad := false }).map (fun e => (e, [])),
    failIf (!(noExpiry && e == 0) && expiryBad s e) eRange,
    failIf (!lockVisible s x cap) eNotVisible,
    failIf (!collReady s cap) eNotReady,
    failIf (cap.hdr.addressing.toNat != 0 && (capObj s x cap).isNone) eNotVisible,
    failIf (!custodyReady s) eCustodyKey]

/-- The checks of HOLD. -/
def checkHold (x : Src) (cap : Capsule) (b : LockBody) (s : State) : Option (Nat × Flds) :=
  firstOf [
    checkLock x cap true b s,
    failIf (freeHold (locksAt s cap.hdr.coll.toNat (lockMac s x cap))).isNone eLocksFull]

/-- Who sets a lock (09 Table 9.4). -/
def lockIssuer (p : Principal) : Nat := if isCustodian p then 1 else 2

/-- Sets a lock and completes the command: on media, with its receipt (05 R141, R145). -/
def actLock (x : Src) (cap : Capsule) (num : Nat) (b : LockBody) (head : Flds) (s : State) : State :=
  match capColl s cap with
  | none => s
  | some c =>
    let mac := lockMac s x cap
    let s0 := (mac.bind (objAt s c.num)).elim s (fun o => walkObj c o s)
    let l : Lock := { num := num, expiry := b.expiry.toNat, reason := b.reason, issuer := lockIssuer x.who }
    let (st, pos, batch, bank, s1) := setLock c mac l s0
    let s2 := chargeUnits c.tenant 1 (geomData c.geometry) true s1
    let m := uopMsg x cap.hdr 2 sOk st (head ++ [(8, pos), receiptSlot]) []
    hold { heldMut m st c.shard .onMedia [] s2 with batch := some batch, bank := bank } s2

/-- HOLD passes its checks. -/
def actHold (x : Src) (cap : Capsule) (b : LockBody) (s : State) : State :=
  match freeHold (locksAt s cap.hdr.coll.toNat (lockMac s x cap)) with
  | some k => actLock x cap k b [(1, k), (7, 0)] s
  | none => s

/-- HOLD on a queue or by relay. -/
def runHold (x : Src) (cap : Capsule) (b : LockBody) (s : State) : State :=
  runUop x cap (checkHold x cap b) (actHold x cap b) (meetLocks x cap (checkHold x cap b) s)

/-- HOLD (05 R141). -/
def execHold (q : Nat) (cap : Capsule) (b : LockBody) (s : State) : Host.Outcome State Fault Refusal :=
  .next (uopArrive (.hold q cap b) q cap (fun x => checkHold x cap b) (fun x => runHold x cap b) s)

/-- The checks of STOPPER: it only moves an expiry later (05 R141). -/
def checkStopper (x : Src) (cap : Capsule) (b : LockBody) (s : State) : Option (Nat × Flds) :=
  let n := cap.hdr.coll.toNat
  let mac := lockMac s x cap
  let inForce := (locksMet s n mac).filter (fun l => isStopper l && lockForce s l)
  let binding := locksAt s n none ++ (if mac.isSome then locksAt s n mac else [])
  firstOf [
    checkLock x cap false b s,
    if inForce.any (fun l => decide (b.expiry.toNat ≤ l.expiry)) then some (eStopper, [(8, stopperExpiry s binding)]) else none]

/-- STOPPER passes its checks. -/
def actStopper (x : Src) (cap : Capsule) (b : LockBody) (s : State) : State := actLock x cap 0x80 b [] s

/-- STOPPER on a queue or by relay. -/
def runStopper (x : Src) (cap : Capsule) (b : LockBody) (s : State) : State :=
  runUop x cap (checkStopper x cap b) (actStopper x cap b) (meetLocks x cap (checkStopper x cap b) s)

/-- STOPPER (05 R141). -/
def execStopper (q : Nat) (cap : Capsule) (b : LockBody) (s : State) : Host.Outcome State Fault Refusal :=
  .next (uopArrive (.stopper q cap b) q cap (fun x => checkStopper x cap b) (fun x => runStopper x cap b) s)

/-- The class 0x01 checks of a RELEASE capsule. -/
def checkReleaseForm (cap : Capsule) (b : RelBody) : Option (Nat × Flds) :=
  let bad := decide (b.hold.toNat < 1) || decide (16 < b.hold.toNat)
  let spec : CapSpec := { addr := [0, 2], flags := 1, body := 8, incap := 0, bodyRsv := b.rsv != 0, bodyBad := bad }
  (capsuleCheck cap spec).map (fun e => (e, []))

/-- The checks of a RELEASE that arrives on a session: it is issued only as a quorum act (05 R127). -/
def checkRelease (cap : Capsule) (b : RelBody) : Option (Nat × Flds) := firstOf [checkReleaseForm cap b, some (eNotVisible, [])]

/-- RELEASE on a queue. -/
def runRelease (x : Src) (cap : Capsule) (b : RelBody) (s : State) : State := runUop x cap (fun _ => checkRelease cap b) id s

/-- RELEASE (05 R127). -/
def execRelease (q : Nat) (cap : Capsule) (b : RelBody) (s : State) : Host.Outcome State Fault Refusal :=
  .next (uopArrive (.release q cap b) q cap (fun _ _ => checkRelease cap b) (fun x => runRelease x cap b) s)

/-! ## VERIFY (05 R143) -/

/-- The checks of VERIFY. -/
def checkVerify (x : Src) (cap : Capsule) (s : State) : Option (Nat × Flds) :=
  let n := cap.hdr.coll.toNat
  firstOf [
    (capsuleCheck cap (bare [1, 2] 0)).map (fun e => (e, [])),
    failIf (!(ownColl s x.who n || readColl s x.who n || custColl s x.who n || auditColl s x.who n)) eNotVisible,
    failIf (!collReady s cap) eNotReady,
    failIf (capObj s x cap).isNone eNotVisible]

/-- The caller code of a Fixity entry (09 Table 9.4). -/
def callerCode : Principal → Nat
  | .custodian _ => 1
  | .tenant _ => 2
  | .reader _ _ _ => 3
  | _ => 4

/-- VERIFY passes its checks: it reads the whole value at one read point; its finding is made when the reads have ended. -/
def actVerify (x : Src) (cap : Capsule) (s : State) : State :=
  match capColl s cap, capObj s x cap with
  | some c, some o =>
    let s1 := walkObj c o s
    let m := uopMsg x cap.hdr 0 sOk noStamp [] []
    let h := { heldAt m (now s1) with job := some (.verify c.tenant c.num o.mac (callerCode x.who) (readPoint s c.shard)) }
    let id := s1.nextId
    readFor c.tenant 1 c.num id (allExtents o) (hold h s1)
  | _, _ => s

/-- VERIFY on a queue or by relay. -/
def runVerify (x : Src) (cap : Capsule) (s : State) : State := runUop x cap (checkVerify x cap) (actVerify x cap) s

/-- VERIFY (05 R143). -/
def execVerify (q : Nat) (cap : Capsule) (s : State) : Host.Outcome State Fault Refusal :=
  .next (uopArrive (.verify q cap) q cap (fun x => checkVerify x cap) (fun x => runVerify x cap) s)

/-! ## COLL_CREATE and COLL_DELETE (05 R129, R130) -/

/-- The geometry a selector gives under the service overlay in force (04 Table 4.5): 1 is 18+4, 2 is 20+2. -/
def geomUnder (service selector : Nat) : Option Nat :=
  match selector with
  | 0 => some (if service = 1 then 1 else 2)
  | 1 => if service = 1 ∨ service = 3 then some 1 else none
  | 2 => if service = 2 ∨ service = 3 then some 2 else none
  | _ => none

/-- The tenant of a principal that is a tenant. -/
def ownTenant : Principal → Option Nat
  | .tenant t => some t
  | _ => none

/-- The checks of COLL_CREATE. -/
def checkCollCreate (x : Src) (cap : Capsule) (b : CollBody) (s : State) : Option (Nat × Flds) :=
  let bad := decide (2 < b.geom.toNat) || cap.hdr.coll != 0
  let spec : CapSpec := { addr := [0], flags := 1, body := 8, incap := 0, bodyRsv := b.rsv != 0 || decide (1 < b.flags.toNat), bodyBad := bad }
  firstOf [
    (capsuleCheck cap spec).map (fun e => (e, [])),
    failIf (ownTenant x.who).isNone eDenied,
    failIf (!(ownTenant x.who).any (keyHeld s)) eNotReady,
    failIf ((geomUnder s.layers.service b.geom.toNat).isNone || !membersFull s) eGeometry,
    failIf (decide (65536 ≤ s.obj.colls.length)) eLimit]

/-- Puts a number into a rising list. -/
def insNat (n : Nat) : List Nat → List Nat
  | [] => [n]
  | x :: r => if n ≤ x then n :: x :: r else x :: insNat n r

/-- The `k`-th natural that is not in a rising list. -/
def skipUsed : Nat → List Nat → Nat
  | k, [] => k
  | k, u :: r => if u ≤ k then skipUsed (k + 1) r else k

/-- The number of a new collection: the drawn one of those free (05 R129). -/
def drawColl (s : State) : Nat × State :=
  let (d, s1) := draw s
  let used := (s.obj.colls.map (fun c => c.num)).foldr insNat []
  (skipUsed (d.toNat % max 1 (65536 - used.length)) used, s1)

/-- Collections and namespaces placed in a shard. -/
def placedIn (s : State) (n : Nat) : Nat :=
  (s.obj.colls.filter (fun c => c.shard == n)).length + (s.block.nss.filter (fun c => c.shard == n)).length

/-- The data shard of a new container: the one that holds the fewest, and the lowest of those (18 R440). -/
def placeShard (s : State) : Nat := (List.range 64).foldl (fun best n => if placedIn s n < placedIn s best then n else best) 0

/-- A Container entry (09 Table 9.4): 1 collection create, 2 delete, 3 namespace create, 4 delete, 5 format. -/
def containerEntry (tenant action num geom absent : Nat) (st : CStamp) (s : State) : State :=
  enter tenant 0x0020 st [(1, action), (1, 0), (2, num), (1, geom), (3, 0), (4, absent), (4, 0)] s

/-- COLL_CREATE passes its checks: record banks, entry, completion on media (05 R129, R145; 10 R266). -/
def actCollCreate (x : Src) (cap : Capsule) (b : CollBody) (s : State) : State :=
  match ownTenant x.who, geomUnder s.layers.service b.geom.toNat with
  | some t, some g =>
    let (n, s1) := drawColl s
    let shard := placeShard s1
    let (st, s2) := sequence shard s1
    let c : Coll :=
      { num := n, tenant := t, geometry := g, durable := b.flags.getLsbD 0, shard := shard, state := .active, stamp := st, closed := false }
    let s3 := { s2 with obj := { s2.obj with colls := s2.obj.colls ++ [c] } }
    let (gen, s4) := changeBanks s3
    let s5 := containerEntry t 1 n g 0 st s4
    let m := uopMsg x cap.hdr 2 sOk st [(2, n), (6, 0)] []
    hold { heldMut m st shard .onMedia [] s5 with bank := some (gen, false) } s5
  | _, _ => s

/-- COLL_CREATE on a queue. -/
def runCollCreate (x : Src) (cap : Capsule) (b : CollBody) (s : State) : State :=
  runUop x cap (checkCollCreate x cap b) (actCollCreate x cap b) s

/-- COLL_CREATE (05 R129). -/
def execCollCreate (q : Nat) (cap : Capsule) (b : CollBody) (s : State) : Host.Outcome State Fault Refusal :=
  .next (uopArrive (.collCreate q cap b) q cap (fun x => checkCollCreate x cap b) (fun x => runCollCreate x cap b) s)

/-- The checks of COLL_DELETE. -/
def checkCollDelete (x : Src) (cap : Capsule) (s : State) : Option (Nat × Flds) :=
  let n := cap.hdr.coll.toNat
  firstOf [
    (capsuleCheck cap (bare [0] 1)).map (fun e => (e, [])),
    failIf (!ownColl s x.who n) eNotVisible,
    failIf (!collReady s cap) eNotReady,
    failIf (hitchTarget s n) eHitchState,
    failIf (s.obj.objs.any (fun o => o.coll == n)) eNotEmpty,
    lockRefusal s (locksMet s n none)]

/-- The grants that name a collection no longer cover it (05 R130). -/
def stripGrants (n : Nat) (s : State) : State :=
  let strip (g : GrantRec) : GrantRec := { g with scope := dropIf (fun e => !e.isNs && e.num.toNat == n) g.scope }
  { s with auth := { s.auth with grants := s.auth.grants.map strip } }

/-- A collection ends: its number, its locks, its coverage by grants (05 R130, R146). -/
def dropColl (n : Nat) (s : State) : State :=
  stripGrants n { s with obj := { s.obj with colls := dropIf (fun c => c.num == n) s.obj.colls, locks := dropIf (fun l => l.coll == n) s.obj.locks } }

/-- COLL_DELETE passes its checks. -/
def actCollDelete (x : Src) (cap : Capsule) (s : State) : State :=
  match capColl s cap with
  | none => s
  | some c =>
    let (st, s1) := sequence c.shard s
    let (gen, s2) := changeBanks (dropColl c.num s1)
    let s3 := containerEntry c.tenant 2 c.num c.geometry 0 st s2
    let m := uopMsg x cap.hdr 2 sOk st [] []
    hold { heldMut m st c.shard .onMedia [] s3 with bank := some (gen, false) } s3

/-- COLL_DELETE on a queue. -/
def runCollDelete (x : Src) (cap : Capsule) (s : State) : State :=
  runUop x cap (checkCollDelete x cap) (actCollDelete x cap) (meetLocks x cap (checkCollDelete x cap) s)

/-- COLL_DELETE (05 R130). -/
def execCollDelete (q : Nat) (cap : Capsule) (s : State) : Host.Outcome State Fault Refusal :=
  .next (uopArrive (.collDelete q cap) q cap (fun x => checkCollDelete x cap) (fun x => runCollDelete x cap) s)

/-! ## Timers of the object engine (05 R135, R142) -/

/-- A PUT_PART or SEAL of an open object waits: its ingress may meet the idle deadline (03 R82). -/
def idleWaits (s : State) (o : Obj) : Bool :=
  s.block.waiting.any (fun w => match w.cmd with
    | .putPart _ c _ | .sealObject _ c _ => c.hdr.coll.toNat == o.coll && c.hdr.handle == o.handle && decide (w.ingress ≤ o.lastUse + pIdxOpenIdle s * secU)
    | _ => false)

/-- OPEN_IDLE_EXPIRY: an open object whose idle time is confirmed over is discarded (05 R135; 03 R82). -/
def execOpenIdleExpiry (handle : Word64) (s : State) : Host.Outcome State Fault Refusal :=
  match s.obj.objs.find? (fun o => o.whip.isNone && o.handle == handle) with
  | none => .next s
  | some o =>
    match collAt s o.coll with
    | none => .next s
    | some c => if !idleWaits s o && confirmedShelf s (o.lastUse + pIdxOpenIdle s * secU) then .next (abortObj c o 2 s).2 else .next s

/-- LOCK_SWEEP: the module's sweep expires every lock whose expiry has come (05 R142). -/
def execLockSweep (s : State) : Host.Outcome State Fault Refusal := .next (expireAll s)

/-! ## Capsules relayed by a mailbox (05 R127) -/

/-- The addressing values of an opcode (05 Table 5.4). -/
def opAddressing (op : Nat) : List Nat :=
  if op = 0x01 ∨ op = 0x21 then [1]
  else if op = 0x02 ∨ op = 0x03 ∨ op = 0x04 then [3]
  else if op = 0x10 ∨ op = 0x11 ∨ op = 0x20 ∨ op = 0x40 then [1, 2]
  else if op = 0x30 ∨ op = 0x32 then [0, 1, 2]
  else if op = 0x31 then [0, 2]
  else [0]

/-- The checks of class 0x01 of a relayed capsule whose body is none of HOLD, STOPPER and VERIFY: those of its header and name; a capsule of
one of those three opcodes has a body of the wrong length (05 R120). -/
def relayForm (cap : Capsule) : Option Nat :=
  let op := cap.hdr.opcode.toNat
  let flags := if op = 0x01 then 3 else 1
  let own := op = 0x30 ∨ op = 0x32 ∨ op = 0x40
  (capsuleCheck { cap with hdr := { cap.hdr with bodyLen := 0 }, len := 64 + cap.name.length + cap.namePad.length }
    { addr := opAddressing op, flags := flags, body := 0, incap := 0, bodyRsv := false, bodyBad := decide own })

/-- A relayed capsule: HOLD, STOPPER, VERIFY, or its refusal (05 R120, R127). -/
def runRelay (x : Conn) (c : Call) (cap : Capsule) (b : RelayBody) (ingress : Nat) (s : State) : State :=
  let src := relaySrc x c.tag ingress
  match cap.hdr.opcode.toNat, b with
  | 0x30, .hold h => runHold src cap h s
  | 0x32, .stopper h => runStopper src cap h s
  | 0x40, .verify => runVerify src cap s
  | _, _ => uopRefuse src cap.hdr (((relayForm cap).map (fun e => (e, []))).getD (eNotVisible, [])) s

end Machine
end Sys2Proof
end

