-- ==== Sys2Proof/Machine/BlockOps.lean ====
section
/-!
DEFINITION. Operations of block service (04): controllers and their queues, what a principal sees of a namespace, the order of
checks, reservations, protection information, stored form, prefetch, formats. NVMe layouts, codes and rules that the spec takes over by
reference (R95) are those of NVMe 2.0 (log entry 20).
-/
namespace Sys2Proof
namespace Machine

/-! ## Status codes (NVMe 2.0; 04 R95 to R113) -/

/-- Invalid Command Opcode. -/
def nvOpcode : Nat := 0x0001
/-- Command Abort Requested. -/
def nvAborted : Nat := 0x0007
/-- Command Sequence Error. -/
def nvSequence : Nat := 0x000C
/-- Feature Identifier Not Saveable (SC 0x0D of the command specific statuses). -/
def nvNotSaveable : Nat := 0x010D
/-- Data SGL Length Invalid. -/
def nvSglLength : Nat := 0x000F
/-- Sanitize Failed. -/
def nvSanFailed : Nat := 0x001C
/-- Sanitize In Progress. -/
def nvSanProgress : Nat := 0x001D
/-- LBA Out of Range. -/
def nvLbaRange : Nat := 0x0080
/-- Namespace Not Ready. -/
def nvNotReady : Nat := 0x0082
/-- Reservation Conflict. -/
def nvResConflict : Nat := 0x0083
/-- Format In Progress. -/
def nvFormatting : Nat := 0x0084
/-- Asynchronous Event Request Limit Exceeded. -/
def nvAerLimit : Nat := 0x0105
/-- Invalid Log Page. -/
def nvLogPage : Nat := 0x0109
/-- Feature Not Changeable. -/
def nvNotChangeable : Nat := 0x010E
/-- Namespace Insufficient Capacity. -/
def nvCapacity : Nat := 0x0115
/-- Namespace Identifier Unavailable. -/
def nvNoNsid : Nat := 0x0116
/-- Invalid Format. -/
def nvBadFormat : Nat := 0x010A
/-- Controller Busy, of a Connect (NVMe-oF). -/
def nvBusy : Nat := 0x0181
/-- Invalid Queue Type, of a Disconnect (NVMe-oF). -/
def nvQueueType : Nat := 0x0185
/-- Guard, Application Tag and Reference Tag Check Errors, with DNR (R102). -/
def nvGuard : Nat := nvStatus true 0 2 0x82
/-- As above. -/
def nvAppTag : Nat := nvStatus true 0 2 0x83
/-- As above. -/
def nvRefTag : Nat := nvStatus true 0 2 0x84
/-- Compare Failure. -/
def nvMiscompare : Nat := 0x0285
/-- Unrecovered Read Error with DNR (R112). -/
def nvUnrecovered : Nat := nvStatus true 0 2 0x81
/-- Geometry Not Permitted (Table 4.7). -/
def nvGeometry : Nat := nvStatus true 0 7 0xC2
/-- Rate Exceeded (Table 4.7). -/
def nvRate : Nat := nvStatus false 0 7 0xC0

/-! ## Controllers -/

/-- Writes a controller. -/
def putCtrl (k : Ctrl) (s : State) : State := { s with block := { s.block with ctrls := putBy (fun x => x.cntlid == k.cntlid) k s.block.ctrls } }

/-- Changes the controllers that satisfy a condition. -/
def mapCtrls (p : Ctrl → Bool) (f : Ctrl → Ctrl) (s : State) : State := { s with block := { s.block with ctrls := mapIf p f s.block.ctrls } }

/-- The principal of a context. -/
def ctxWho (s : State) (q : Nat) : Principal := ((ctxAt s q).map (fun c => c.who)).getD (.tenant 0xFFFF)

/-- The tenant of a context's principal. -/
def ctxTenant (s : State) (q : Nat) : Nat := ((ctxWho s q).tenant?).getD 0xFFFF

/-- An asynchronous event of a controller completes a request that waits, or waits for one (Table 4.1, AERL). -/
def asyncEvent (cntlid : Nat) (dw0 : Nat) (s : State) : State :=
  match s.block.ctrls.find? (fun k => k.cntlid == cntlid) with
  | none => s
  | some k =>
    match k.aers, k.queues.find? (fun x => x.qid == 0) with
    | cid :: rest, some q => nvDone q.ctx cid 0x0C 0 dw0 [] (putCtrl { k with aers := rest } s)
    | _, _ => if k.aens.contains dw0 then s else putCtrl { k with aens := k.aens ++ [dw0] } s

/-- Dword 0 of a Namespace Attribute Notice and of a Reservation Log Page Available event. -/
def nsNotice : Nat := 0x040002
/-- As above. -/
def resNotice : Nat := 0x800006

/-! ## Visibility of namespaces (R97; 02 Table 2.5) -/

/-- A principal may read a namespace. -/
def mayRead (s : State) (p : Principal) (n : Ns) : Bool :=
  !n.deleting && match p with
  | .tenant t => n.tenant == t
  | .reader t _ _ => n.tenant == t && grantOk s p && grantCovers s p true n.nsid
  | _ => false

/-- A principal may write a namespace. -/
def mayWrite (s : State) (p : Principal) (n : Ns) : Bool :=
  !n.deleting && match p with
  | .tenant t => n.tenant == t
  | .depositor t _ _ => n.tenant == t && grantOk s p && grantCovers s p true n.nsid
  | _ => false

/-- A namespace is attached to a controller of a principal (R97). -/
def attached (s : State) (p : Principal) (n : Ns) : Bool := mayRead s p n || mayWrite s p n

/-- The namespaces attached for a principal, by NSID. -/
def attachedNss (s : State) (p : Principal) : List Ns :=
  (List.range 1025).filterMap (fun i => s.block.nss.find? (fun n => n.nsid == i && attached s p n))

/-- The namespace a command names, if the principal may act on it. -/
def nsFor (s : State) (q : Nat) (nsid : Nat) (may : State → Principal → Ns → Bool) : Option Ns :=
  (nsOf s (ctxTenant s q) nsid).filter (may s (ctxWho s q))

/-- Writes a namespace. -/
def putNs (n : Ns) (s : State) : State := { s with block := { s.block with nss := putBy (fun x => x.num == n.num) n s.block.nss } }

/-- A namespace by its shelf number. -/
def nsNum (s : State) (n : Nat) : Option Ns := s.block.nss.find? (fun x => x.num == n)

/-- A Namespace Attribute Notice to every controller that a condition selects: its changed list and its event (R97). -/
def noticeNs (nsid : Nat) (p : Ctrl → Bool) (s : State) : State :=
  let add (k : Ctrl) : Ctrl := { k with changed := if k.changed.contains nsid then k.changed else k.changed ++ [nsid] }
  let s1 := mapCtrls p add s
  ((s1.block.ctrls.filter (fun k => p k && k.aenCfg.testBit 8)).map (fun k => k.cntlid)).foldl (fun acc c => asyncEvent c nsNotice acc) s1

/-- A sanitise of the tenant runs, or has failed with AUSE = 0 (R112, R116). -/
def sanState (s : State) (t : Nat) : Option Nat :=
  match s.block.sanitises.find? (fun x => x.tenant == t) with
  | some x => if x.failed then (if x.ause then none else some nvSanFailed) else if x.done then none else some nvSanProgress
  | none => none

/-- The states in which a namespace answers no command (R112). -/
def nsBusy (s : State) (n : Ns) : Option Nat :=
  if !keyHeld s n.tenant || n.resuming then some nvNotReady
  else if n.fphase.isSome && !n.sanitising then some nvFormatting
  else sanState s n.tenant

/-! ## Reservations (R108; NVMe 2.0) -/

/-- A host is a registrant. -/
def registered (n : Ns) (h : BitVec 128) : Bool := n.registrants.any (fun r => r.host == h)

/-- The reservation types in which every registrant holds. -/
def allHold (t : Nat) : Bool := t == 5 || t == 6

/-- A host holds the reservation. -/
def holds (n : Ns) (h : BitVec 128) : Bool :=
  match n.holder with
  | some (x, t) => if allHold t then registered n h else x == h
  | none => false

/-- A read by a host conflicts with the reservation. -/
def readConflict (n : Ns) (h : BitVec 128) : Bool :=
  match n.holder with
  | some (_, 2) => !holds n h
  | some (_, 4) | some (_, 6) => !registered n h
  | _ => false

/-- A write by a host conflicts with the reservation. -/
def writeConflict (n : Ns) (h : BitVec 128) : Bool :=
  match n.holder with
  | some (_, 1) | some (_, 2) => !holds n h
  | some _ => !registered n h
  | none => false

/-- The host of a queue's controller. -/
def hostOf (s : State) (q : Nat) : BitVec 128 := ((ctrlAt s q).map (fun k => k.hostId)).getD 0

/-! ## The order of checks of an NVMe command -/

/-- The queue type of a command: admin on queue 0 of an I/O controller, I/O on the others (R94, R95). A queue that is not connected
answers Command Sequence Error. -/
def queueCheck (s : State) (q : Nat) (admin discovery : Bool) : Option Nat :=
  match ctrlAt s q, queueAt s q with
  | some k, some x =>
    if admin != (x.qid == 0) then some nvOpcode else if k.discovery && !discovery then some nvOpcode else none
  | _, _ => some nvSequence

/-- The checks of an I/O command on a namespace: its queue, authority, state, then LBAs, limits and reservation. -/
def ioCheck (c : NvmeCmd) (may : State → Principal → Ns → Bool) (write : Bool) (slba : Nat) (count limit : Nat) (s : State) : Option Nat :=
  match queueCheck s c.ctx false false with
  | some e => some e
  | none =>
    match nsFor s c.ctx c.nsid.toNat may with
    | none => some nvInvalidNs
    | some n =>
      (nsBusy s n).or
        (if limit < count then some nvInvalidField
         else if n.ncap < slba + count then some nvLbaRange
         else if (if write then writeConflict n (hostOf s c.ctx) else readConflict n (hostOf s c.ctx)) then some nvResConflict
         else none)

/-- A capsule carries the opcode of the command it is read as; any other is Invalid Command Opcode, and a fused operation is not supported (R95). -/
def opcodeCheck (op : Nat) (c : NvmeCmd) : Option Nat :=
  if c.opcode.toNat ≠ op then some nvOpcode else if c.fuse ≠ 0 then some nvInvalidField else none

/-- A refusal enters the error log of the controller of the host that sent the command (R93, Table 4.4). -/
def logError (c : NvmeCmd) (lba e : Nat) (s : State) : State :=
  let sqid := ((queueAt s c.ctx).map (fun x => x.qid)).getD 0
  let x : NvError := { ctx := c.ctx, sqid := sqid, cid := c.cid, status := e, lba := lba, nsid := c.nsid.toNat }
  mapCtrls (fun k => k.queues.any (fun y => y.ctx == c.ctx)) (fun k => { k with errors := (x :: k.errors).take 64, errCount := k.errCount + 1 }) s

/-- An NVMe command on a queue, at an LBA where it names one: its checks, then its act. A refusal also enters the controller's error log. -/
def runNvAt (lba op : Nat) (c : NvmeCmd) (ingress : Nat) (check : State → Option Nat) (act : State → State) (s : State) : State :=
  match (opcodeCheck op c).or (check s) with
  | some e => nvRefuse c.ctx c.cid op ingress e (logError c lba e s)
  | none => act s

/-- An NVMe command that names no LBA. -/
def runNv (op : Nat) (c : NvmeCmd) (ingress : Nat) (check : State → Option Nat) (act : State → State) (s : State) : State :=
  runNvAt 0 op c ingress check act s

/-- An NVMe command arrives (R105; 15 R377). -/
def nvArrive (i : Instr) (op : Nat) (c : NvmeCmd) (check : State → Option Nat) (run : Nat → State → State) (s : State) : State :=
  arrive i (fun s => ((opcodeCheck op c).or (check s)).map (fun e => (e, []))) (fun ing a s => nvRefuse c.ctx c.cid op ing a.1 s) run
    (takeHead c.ctx s)

/-- Answers a mutation when what it waits for has come. -/
def finishNv (op : Nat) (c : NvmeCmd) (st : CStamp) (level : Level) (shard : Nat) (rows : List (Nat × Nat)) (dw0 : Nat) (s : State) : State :=
  hold (heldMut (nvMsg c.ctx c.cid op 0 dw0 [] []) st shard level rows s) s

/-- The level of a write (R110). -/
def writeLevel (s : State) (q : Nat) (count : Nat) (fua : Bool) : Level :=
  if decide (512 ≤ count) || fua || !((ctrlAt s q).map (fun k => k.wce)).getD true then .onMedia else .isProtected

/-! ## Protection information (R99, R101, R102) -/

/-- A block of zeros. -/
def zeroLba : Bytes := List.replicate 4096 0

/-- The PI of a deallocated LBA (R99). -/
def deallocPi : PiData := { guard := crc64 zeroLba, app := 0xFFFF, ref := BitVec.allOnes 48 }

/-- The checks that PRCHK selects, on one LBA; a type 1 reference tag is the low 48 bits of the LBA (R102). -/
def piCheck (ptype : Nat) (pr : PrInfo) (lba : Nat) (data : Bytes) (p : PiData) : Option Nat :=
  if p.app = 0xFFFF ∧ (ptype = 1 ∨ p.ref = BitVec.allOnes 48) then none
  else if pr.chkGuard && p.guard != crc64 data then some nvGuard
  else if pr.chkApp && (p.app &&& pr.appMask) != (pr.app &&& pr.appMask) then some nvAppTag
  else if pr.chkRef && ptype == 1 && p.ref != BitVec.ofNat 48 lba then some nvRefTag
  else none

/-- The PI a write with PRACT stores (R102). -/
def makePi (ptype : Nat) (pr : PrInfo) (lba : Nat) (data : Bytes) : PiData :=
  { guard := crc64 data, app := pr.app, ref := if ptype = 1 then BitVec.ofNat 48 lba else pr.ref }

/-- The 16 bytes of PI as they travel, most significant byte first. -/
def piBytes (p : PiData) : Bytes := (leBytes 8 p.guard.toNat).reverse ++ (leBytes 2 p.app.toNat).reverse ++ (leBytes 6 p.ref.toNat).reverse

/-- Cuts bytes into blocks of 4,096. -/
def cutLbas : Nat → Bytes → List Bytes
  | 0, _ => []
  | n + 1, b => b.take 4096 :: cutLbas n (b.drop 4096)

/-- The stored content of an LBA: its bytes and PI, zeros where it is deallocated (R99). -/
def lbaAt (n : Ns) (lba : Nat) : Bytes × PiData :=
  match n.lbas.find? (fun l => l.lba == lba) with
  | some l => (l.data, l.pi.getD deallocPi)
  | none => (zeroLba, deallocPi)

/-- PI matters for a namespace. -/
def hasPi (n : Ns) : Bool := n.format1 && n.piType != 0

/-- The first PI failure of a read of LBAs. -/
def readPi (n : Ns) (pr : PrInfo) (slba count : Nat) : Option Nat :=
  if hasPi n then
    (List.range count).findSome? (fun i => let x := lbaAt n (slba + i); piCheck n.piType pr (slba + i) x.1 x.2)
  else none

/-! ## The stored form of blocks (R100; 07 R187) -/

/-- The XTS key of a namespace (R100; 02 Table 2.6). -/
def nsKey (s : State) (n : Ns) : BitVec 512 := xtsKey (rootOf s n.tenant) n.num (saltValue n.salt)

/-- An encrypted data unit under a tweak. -/
def xtsUnit (key : BitVec 512) (tweak : Nat) (b : Bytes) : Bytes := (List.range b.length).map (fun i => Config.xts key tweak b i)

/-- The stored units of a run of LBAs, under format 1 with its PI unit first (07 R187). -/
def storedRun (key : BitVec 512) (format1 : Bool) (lba : Nat) (xs : List (Bytes × PiData)) : Bytes :=
  (if format1 then padEnd 4096 (xs.zipIdx.map (fun x => xtsUnit key (lba + x.2 + 2 ^ 64) (piBytes x.1.2))).flatten else []) ++
    (xs.zipIdx.map (fun x => xtsUnit key (lba + x.2) x.1.1)).flatten

/-- Units of a write of LBAs, PI units included. -/
def blockUnits (format1 : Bool) (count : Nat) : Nat := if format1 then count + ceilDiv count 255 else count

/-- A run of LBAs in the log: its address, its first LBA, the LBAs (07 R187). -/
structure BlockRun where
  addr : Nat
  lba  : Nat
  xs   : List (Bytes × PiData)
deriving DecidableEq, Repr

/-- Units that stand before a run's first LBA. -/
def piUnits (n : Ns) : Nat := if n.format1 then 1 else 0

/-- Lays LBAs down at the host head as runs, none crossing a segment, each of at most 255 LBAs with its own PI unit under format 1 (07 R178,
R187). -/
def layRuns (n : Ns) (st : CStamp) : Nat → Nat → List (Bytes × PiData) → State → List BlockRun × State
  | 0, _, _, s => ([], s)
  | fuel + 1, lba, xs, s =>
    if xs.isEmpty then ([], s)
    else
      let d := geomData n.geometry
      match openHead n.shard d false s with
      | (none, s1) => ([], s1)
      | (some h, s1) =>
        let room := headLeft h - piUnits n
        if room = 0 then layRuns n st fuel lba xs (fillSegment n.shard d false 129 s1)
        else
          let k := min xs.length (if n.format1 then min 255 room else room)
          let run := xs.take k
          let w := layRecord h (.block n.num lba k) (k + piUnits n) (storedRun (nsKey s n) n.format1 lba run) st s1
          let r := layRuns n st fuel (lba + k) (xs.drop k) w.2
          ({ addr := w.1, lba := lba, xs := run } :: r.1, r.2)

/-- Enters a run in the splice log, but for what lies in rows written directly: from its first unit on as block data, kind 1, any other piece
as a log record (07 R183, R185, Table 7.6; log entry 131). -/
def spliceRun (n : Ns) (direct : List (Nat × Nat)) (st : CStamp) (r : BlockRun) (s : State) : State :=
  let d := geomData n.geometry
  let units := r.xs.length + piUnits n
  let bytes := storedRun (nsKey s n) n.format1 r.lba r.xs
  (splicePieces d direct (units + 1) r.addr units).foldl (fun acc x =>
    if x.1 = r.addr ∧ piUnits n < x.2 then
      (splice n.shard 1 st { nameUnits d x.1 x.2 0 with part := 65536 + n.num } (24 + 4096 * x.2)
        (encodeFlds [(2, n.num), (1, if n.format1 then 1 else 0), (1, 0), (4, x.2 - piUnits n), (8, r.lba), (8, x.1)] ++
          padEnd (4096 * x.2) (bytes.take (4096 * x.2))) acc).2
    else spliceRecord n.shard d direct x.1 x.2 ((bytes.drop (4096 * (x.1 - r.addr))).take (4096 * x.2)) st acc) s

/-- Marks stale the block records of a namespace that no LBA's address lies in any more. -/
def killBlocks (num : Nat) (s : State) : State :=
  let addrs := ((nsNum s num).map (fun n => n.lbas.map (fun l => l.addr))).getD []
  let used (r : LogRec) : Bool := addrs.any (fun a => decide (r.addr ≤ a) && decide (a < r.addr + r.units))
  let mine (r : LogRec) : Bool := match r.kind with
    | .block n _ _ => n == num
    | _ => false
  killRecs ((s.log.recs.filter (fun r => r.live && mine r && !used r)).map (fun r => r.addr)) s

/-- The units of LBAs that a mutation supersedes become stale, and with the last one of a run its record (07 R191). -/
def staleLbas (num : Nat) (old : List LbaData) (s : State) : State :=
  killBlocks num ((old.filter (fun l => !l.lost)).foldl (fun acc l => killUnit l.addr acc) s)

/-- The map leaves that LBAs lie in. -/
def mapLeaves (slba count : Nat) : List Nat := (List.range ((slba + count + 2031) / 2032 - slba / 2032)).map (fun i => slba / 2032 + i)

/-- The walks of a namespace's map to LBAs (07 R187). -/
def mapWalks (n : Ns) (slba count : Nat) (s : State) : State :=
  (mapLeaves slba count).foldl (fun acc m => walkTo n.shard n.tenant (65536 + n.num) n.num (BitVec.ofNat 256 m) acc) s

/-- Prefetched data of LBAs is discarded when they change (R106). -/
def dropAhead (num slba count : Nat) (s : State) : State :=
  let hit (a : Ahead) : Bool := decide (a.lba < slba + count) && decide (slba < a.lba + a.count)
  sweepQuarantine { s with block := { s.block with streams := mapIf (fun x => x.ns == num) (fun x => { x with ahead := dropIf hit x.ahead }) s.block.streams } }

/-- The written LBAs of a range. -/
def lbasIn (n : Ns) (slba count : Nat) : List LbaData := n.lbas.filter (fun l => decide (slba ≤ l.lba) && decide (l.lba < slba + count))

/-- Deallocates LBAs at a stamp (R99, R107). -/
def deallocate (num slba count : Nat) (st : CStamp) (s : State) : State :=
  match nsNum s num with
  | none => s
  | some n =>
    let keep := n.lbas.filter (fun l => decide (l.lba < slba) || decide (slba + count ≤ l.lba))
    staleLbas num (lbasIn n slba count)
      (dropAhead num slba count (mapMut n.shard n.tenant n.num slba count 0 0 st (putNs { n with lbas := keep } s)))

/-- The LBAs of a run as they stand from a stamp on. -/
def runLbas (n : Ns) (st : CStamp) (r : BlockRun) : List LbaData :=
  r.xs.zipIdx.map (fun x => { lba := r.lba + x.2, data := x.1.1, pi := if n.format1 then some x.1.2 else none, stamp := st, lost := false,
                              addr := r.addr + piUnits n + x.2 })

/-- Writes LBAs at a stamp: their runs, their map entries, their old units stale (R107, R110; 07 R183, R185, R187). Answers the rows
written directly. -/
def writeLbas (num slba : Nat) (xs : List (Bytes × PiData)) (st : CStamp) (s : State) : List (Nat × Nat) × State :=
  match nsNum s num with
  | none => ([], s)
  | some n =>
    let count := xs.length
    let d := geomData n.geometry
    let large := decide (512 ≤ count)
    let w := layRuns n st (2 * count + 4) slba xs s
    let direct := if large then fullRows d (w.1.map (fun r => (r.addr, r.xs.length + piUnits n))) else []
    let s1 := w.1.foldl (fun acc r => spliceRun n direct st r acc) w.2
    match nsNum s1 num with
    | none => (direct, s1)
    | some n1 =>
      let below := n1.lbas.filter (fun l => decide (l.lba < slba))
      let above := n1.lbas.filter (fun l => decide (slba + count ≤ l.lba))
      let s2 := putNs { n1 with lbas := below ++ (w.1.map (runLbas n st)).flatten ++ above } s1
      let s3 := w.1.foldl (fun acc r => mapMut n.shard n.tenant n.num r.lba r.xs.length (r.addr + piUnits n) 0 st acc) s2
      let s4 := staleLbas num (lbasIn n1 slba count) (dropAhead num slba count s3)
      (direct, chargeUnits n.tenant (blockUnits n.format1 count) d (!large) s4)

/-- Overwrites LBAs at their units: a row update of each strip they lie in (07 R208, R209). -/
def overwriteLbas (num slba : Nat) (xs : List (Bytes × PiData)) (st : CStamp) (s : State) : State :=
  match nsNum s num with
  | none => s
  | some n =>
    let bytes := storedRun (nsKey s n) false slba xs
    let step (acc : Bytes × State) (x : Nat × Nat × Nat × Nat × Nat) : Bytes × State :=
      (acc.1.drop (4096 * x.2.2.2.2), startRmw x.1 x.2.1 x.2.2.1 x.2.2.2.1 (acc.1.take (4096 * x.2.2.2.2)) acc.2)
    let s1 := ((lbaPieces n slba xs.length).foldl step (bytes, s)).2
    let upd (l : LbaData) : LbaData :=
      match xs[l.lba - slba]? with
      | some x => if slba ≤ l.lba then { l with data := x.1, stamp := st } else l
      | none => l
    let s2 := { s1 with block := { s1.block with nss := mapIf (fun m => m.num == num) (fun m => { m with lbas := m.lbas.map upd }) s1.block.nss } }
    settle (chargeUnits n.tenant xs.length (geomData n.geometry) true (dropAhead num slba xs.length s2))

/-- The extents of the written LBAs in a range. -/
def lbaExtents (n : Ns) (slba count : Nat) : List (Nat × Nat) :=
  (n.lbas.filter (fun l => decide (slba ≤ l.lba) && decide (l.lba < slba + count))).map (fun l => (l.addr, 1))

/-- An LBA of a range lies in a lost stripe (R112). -/
def lbaLost (n : Ns) (slba count : Nat) : Bool := n.lbas.any (fun l => l.lost && decide (slba ≤ l.lba) && decide (l.lba < slba + count))

/-! ## Prefetch (R106) -/

/-- The stream a Read continues, or a new one; a queue tracks two, and a third replaces the one read least recently. -/
def trackRead (q num slba count : Nat) (s : State) : Stream × State :=
  let mine := s.block.streams.filter (fun x => x.ctx == q)
  let others := s.block.streams.filter (fun x => x.ctx != q)
  match mine.find? (fun x => x.ns == num && x.next == slba) with
  | some x =>
    let y := { x with next := slba + count, run := x.run + 1, lastUse := mono s }
    (y, { s with block := { s.block with streams := others ++ mine.filter (fun z => z != x) ++ [y] } })
  | none =>
    let y : Stream := { ctx := q, ns := num, next := slba + count, run := 1, lastUse := mono s, ahead := [] }
    (y, { s with block := { s.block with streams := others ++ (if mine.length < 2 then mine else mine.drop 1) ++ [y] } })

/-- The LBAs from `a` on, at most `k`, whose map leaf is resident. -/
def residentRun (s : State) (n : Ns) (a : Nat) : Nat → Nat
  | 0 => 0
  | k + 1 =>
    let mac := BitVec.ofNat 256 (a / 2032)
    if (leafOf (partAt s n.shard (65536 + n.num)) n.tenant n.num mac).any (fun l => l.addr == 0 || cached s n.tenant true l.addr) then
      1 + residentRun s n (a + 1) k
    else 0

/-- The end of what has been prefetched without a gap from an LBA on. -/
def aheadEnd (l : List Ahead) (lba : Nat) : Nat := l.foldl (fun e a => if a.lba ≤ e ∧ e < a.lba + a.count then a.lba + a.count else e) lba

/-- On a Read of a detected stream, prefetch of up to 512 LBAs beyond it, less what is already prefetched (R106). -/
def prefetch (n : Ns) (x : Stream) (s : State) : State :=
  if x.run < 4 then s
  else
    let first := aheadEnd x.ahead x.next
    let last := min n.ncap (x.next + 512)
    let count := residentRun s n first (last - first)
    if count = 0 then s
    else
      let id := s.nextId
      let strips := mediaStrips s (lbaExtents n first count)
      let a : Ahead := { id := id, lba := first, count := count, point := readPoint s n.shard,
                         arrived := if strips.isEmpty then some (mono s) else none, faults := [] }
      let hit (y : Stream) : Bool := y.ctx == x.ctx && y.ns == x.ns && y.next == x.next
      let s1 := chargeDrive n.tenant (strips.length * (65536 + pSchCmdCost s)) { s with
        nextId := id + 1
        block := { s.block with streams := mapIf hit (fun y => { y with ahead := y.ahead ++ [a] }) s.block.streams } }
      strips.foldl (fun acc y =>
        match (rowAt acc y.1 y.2.1).bind (fun w => stripMember acc w y.2.2) with
        | some m => (issueFlow m (.host n.tenant 2 n.num) (.walkRead id y.1 y.2.1 y.2.2) 2 (rowLba acc y.1 y.2.1) 16 acc).2
        | none => acc) s1

/-- The speculative reads of some strips outstanding under a number, each with its slot (06 R161; R106). -/
def walkReads (s : State) (id : Nat) (p : Nat × Nat × Nat → Bool) : List (Fin 24 × DriveCmd) :=
  (allSlots.map (fun n => ((portAt s n).cmds.filter (fun c => match c.purpose with
    | .walkRead k g r j => k == id && p (g, r, j)
    | _ => false)).map (fun c => (n, c)))).flatten

/-- Speculative reads that are used become real reads of a held completion (06 R161; R106). -/
def adoptReads (tenant id held : Nat) (p : Nat × Nat × Nat → Bool) (s : State) : State :=
  (walkReads s id p).foldl (fun acc x =>
    let real (c : DriveCmd) : DriveCmd := match c.purpose with
      | .walkRead _ g r j => { c with purpose := .hostRead held g r j }
      | _ => c
    let p := portAt acc x.1
    mapHeld held (fun h => { h with drives := h.drives ++ [((x.1 : Nat), x.2.tag)] })
      (putPort x.1 { p with cmds := mapIf (fun c => c.tag == x.2.tag) real p.cmds } acc)) (noteConfirmed id (quietOf s tenant).isSome s)

/-- The faults of speculative reads that are used are recorded now, as those of real reads: the member is struck, a strip that is bad is marked and
its segment queued, and the strip is reconstructed, as one of a page where `page` says so (06 R162; R106; 08 R212, R217). -/
def adoptFaults (f : DriveFlow) (page : Bool) (held : Nat) (l : List SpecFault) (s : State) : State :=
  l.foldl (fun acc x =>
    let (slot, timedOut, why, seg, row, role) := x
    let acc1 := if timedOut then countTimeout slot acc
      else match why with
        | some k => strike slot k (markBad seg row role acc)
        | none => markBad seg row role acc
    if page then ((rowAt acc1 seg row).map (fun r => pageAround f r role acc1)).getD acc1 else readAround held seg row role 0 [] acc1) s

/-- The strip of a fault. -/
def faultStrip (x : SpecFault) : Nat × Nat × Nat := (x.2.2.2.1, x.2.2.2.2.1, x.2.2.2.2.2)

/-! ## Formats (R114, R115) -/

/-- The members that are absent or failed, as a mask by slot (09 Table 9.4). -/
def absentMask (s : State) : Nat :=
  (allSlots.filter (fun m => (memberAt s m).ours && ((memberAt s m).state == .absent || (memberAt s m).state == .failed))).foldl
    (fun (a : Nat) (m : Fin 24) => a + 2 ^ (m : Nat)) 0

/-- The members that are absent or failed owe an overwrite of a kind (R115; 08 R231). -/
def oweAll (what : Nat) (s : State) : State :=
  allSlots.foldl (fun acc m =>
    let x := memberAt acc m
    if x.ours && (x.state == .absent || x.state == .failed) then putMember m { x with owes := x.owes ++ [what] } acc else acc) s

/-- A phase of a format is recorded in the vault of each module (R115; 18 Table 18.1). -/
def formatPhase (num phase : Nat) (s : State) : State :=
  match nsNum s num with
  | some n => pairState 7 [(1, 1), (2, num), (1, phase)] (putNs { n with fphase := if phase = 5 then none else some phase } s)
  | none => s

/-- Phase F1 of a namespace: a new salt, recorded with the new LBA format in the vault, where the old salt stays until it is overwritten (R115). -/
def formatF1 (fmt : Option (Bool × Nat × Bool)) (sanitise : Bool) (num : Nat) (s : State) : State :=
  match nsNum s num with
  | none => s
  | some n0 =>
    let s0 := formatPhase num 1 s
    let (salt, s1) := drawDigest s0
    let n := { n0 with fphase := some 1, salt := some salt, oldSalt := n0.oldSalt.or n0.salt, sanitising := sanitise }
    putNs (match fmt with
      | some (f, t, first) => { n with format1 := f, piType := t, piFirst := first }
      | none => n) s1

/-- Phase F4 of a format: every LBA deallocated at the format's stamp, the entry, the vault's record cleared, the notice (R115). -/
def endFormat (stamps : List (Nat × CStamp)) (num : Nat) (s : State) : State :=
  match nsNum s num with
  | none => s
  | some n =>
    let (st, s1) := match stamps.lookup num with
      | some st => (st, s)
      | none => sequence n.shard s
    let s2 := putNs { n with lbas := [], oldSalt := none, fphase := none, resuming := false, sanitising := false } s1
    let s3 := staleLbas num n.lbas
      (dropAhead num 0 n.ncap (if n.lbas.isEmpty then s2 else mapMut n.shard n.tenant n.num 0 n.ncap 0 0 st s2))
    let s4 := formatPhase num 5 (containerEntry n.tenant 5 n.nsid n.geometry (absentMask s3) st s3)
    noticeNs n.nsid (fun k => !k.discovery && attached s4 k.who n) s4

/-- Segments that hold strips of a tenant's namespaces. -/
def nsSegments (s : State) (t : Nat) : List Nat :=
  let nums := (s.block.nss.filter (fun n => n.tenant == t)).map (fun n => n.num)
  ((s.log.recs.filter (fun r => match r.kind with
    | .block n _ _ => nums.contains n
    | .mapPage n => nums.contains n
    | _ => false)).map (fun r => addrSeg r.addr)).eraseDups

/-- The end of the formats of a sanitise: the segments that held the namespaces are purged (R116). -/
def startPurge (t : Nat) (s : State) : State :=
  let segs := nsSegments s t
  let upd (x : TenantSanitise) : TenantSanitise := { x with segs := segs, total := segs.length, done := segs.isEmpty,
                                                             progress := if segs.isEmpty then 65535 else 0 }
  let q := s.log.relocQ ++ segs.filter (fun g => !s.log.relocQ.contains g)
  { s with block := { s.block with sanitises := mapIf (fun x => x.tenant == t && !x.failed) upd s.block.sanitises },
           log := { s.log with relocQ := q } }

/-- A waiting job that no message belongs to. -/
def jobMsg : Msg := msg .host .feed 0 0 0 []

/-- Phases F3 and F4 wait for the bank generation that carries the new records: for one bank of every present member, or for both, where the new
record stands over the old salt (R115; 10 R266). -/
def formatWait (m : Msg) (j : FormatJob) (overwrite : Bool) (s : State) : State :=
  hold { heldAt m (now s) with bank := some (j.gen, overwrite), job := some (.format j) } s

/-- Phase F2: the new records and salts go to the vault of each module and to the descriptor regions (R115). -/
def formatF2 (m : Msg) (j : FormatJob) (s : State) : State :=
  let (gen, s1) := changeBanks (j.nss.foldl (fun acc n => formatPhase n 2 acc) s)
  formatWait m { j with next := 3, gen := gen } false s1

/-- Phase F3: every copy of the old salt is overwritten in place; members absent owe it (R115). -/
def formatF3 (m : Msg) (j : FormatJob) (s : State) : State :=
  formatWait m { j with next := 4 } true (oweAll 1 (j.nss.foldl (fun acc n => formatPhase n 3 acc) s))

/-- Phase F4, and the purge once a sanitise has formatted every namespace of its tenant (R115, R116). -/
def formatF4 (j : FormatJob) (s : State) : State :=
  let t := ((j.nss.head?.bind (nsNum s)).map (fun n => n.tenant)).getD 0xFFFF
  let s1 := j.nss.foldl (fun acc n => endFormat j.stamps n acc) (j.nss.foldl (fun acc n => formatPhase n 4 acc) s)
  if j.sanitise && !s1.block.nss.any (fun n => n.tenant == t && n.sanitising) then startPurge t s1 else s1

/-- The next phase of a format; the last one's end lets its message leave, which `out` does (R115). -/
def formatStep (m : Msg) (out : State → State) (j : FormatJob) (s : State) : State :=
  match j.next with
  | 1 => formatF2 m j (j.nss.foldl (fun acc n => formatF1 j.fmt j.sanitise n acc) s)
  | 2 => formatF2 m j s
  | 3 => formatF3 m j s
  | _ => out (formatF4 j s)

/-- A format begins: its namespaces answer no command, and its first phase waits for the commands admitted before (R114 to R116). -/
def beginFormat (m : Msg) (nss : List Nat) (sanitise : Bool) (fmt : Option (Bool × Nat × Bool)) (s : State) : State :=
  let t := ((nss.head?.bind (nsNum s)).map (fun n => n.tenant)).getD 0xFFFF
  let mine (h : Held) : Bool := match h.msg.port with
    | .ctx q => ctxTenant s q == t
    | _ => false
  let before := (s.held.filter mine).map (fun h => h.id)
  let stamp (acc : List (Nat × CStamp) × State) (num : Nat) : List (Nat × CStamp) × State :=
    match nsNum acc.2 num with
    | none => acc
    | some n =>
      let (st, s1) := sequence n.shard acc.2
      (acc.1 ++ [(num, st)], putNs { n with fphase := some 0, sanitising := sanitise } s1)
  let (stamps, s1) := nss.foldl stamp ([], s)
  let last := (stamps.map (fun x => x.2.time)).foldl max 0
  let j : FormatJob := { nss := nss, sanitise := sanitise, next := 1, before := before, fmt := fmt, stamps := stamps, gen := 0 }
  hold { heldAt m (last + 64 * nsU) with job := some (.format j) } s1

/-! ## Filling structures -/

/-- Lays fields out at their offsets in a structure of a size, zeros between them; the fields come in offset order. -/
def layoutFrom (pos total : Nat) : List (Nat × Nat × Nat) → Flds
  | [] => if pos < total then [(total - pos, 0)] else []
  | (off, size, v) :: r => (if pos < off then [(off - pos, 0)] else []) ++ (size, v) :: layoutFrom (off + size) total r

/-- A structure of a size. -/
def layout (total : Nat) (l : List (Nat × Nat × Nat)) : Flds := layoutFrom 0 total l

/-- The value of a text of fixed size. -/
def textVal (n : Nat) (t : String) : Nat := leValue (asciiPad n t)

/-- The upper-case hexadecimal digits of a number. -/
def hexDigits : Nat → Nat → List Char
  | 0, _ => []
  | n + 1, v => hexDigits n (v / 16) ++ [("0123456789ABCDEF".toList[v % 16]?).getD '0']

/-- The NQN of a tenant's subsystem (R92), as ASCII bytes. -/
def tenantNqn (s : State) (t : Nat) : Bytes :=
  ascii "nqn.2019-04.com.plovaoz:uv2460:" ++ (hexDigits 16 s.boot.shelfId.toNat).map (fun c => BitVec.ofNat 8 c.toNat) ++ ascii ":t" ++
    ascii (toString t)

/-- The well-known discovery NQN (R94). -/
def discoveryNqn : Bytes := ascii "nqn.2014-08.org.nvmexpress.discovery"

end Machine
end Sys2Proof
end

