-- ==== Sys2Proof/Machine/Network.lean ====
section
/-!
DEFINITION. Network ports: frames and their filter, address traffic, links, flow control, optics (14 R356 to R370; 15 R384).
-/
namespace Sys2Proof
namespace Machine

/-- An event on a MAC: there are 32 (R356). -/
def onMac (n : Nat) (act : State → State) (s : State) : Host.Outcome State Fault Refusal := .next (if 32 ≤ n then s else act s)

/-! ## Addresses (R362, R363) -/

/-- MAC_STATION of a MAC. -/
def stationOf (s : State) (n : Nat) : Nat :=
  let dflt := Config.factoryMac.toNat + n
  bitsOf (layered s (0x02001010 + 256 * n) (dflt % 2 ^ 32)) 0 32 + bitsOf (layered s (0x02001014 + 256 * n) (dflt / 2 ^ 32)) 0 16 * 2 ^ 32

/-- A destination address is a group address: the first bit on the wire. -/
def isGroup (a : BitVec 48) : Bool := a.getLsbD 40

/-- The hash bit of an address: bits 31 to 26 of the CRC-32 of its six bytes, first byte first (R363). -/
def hashIndex (a : BitVec 48) : Nat := crc32 ((List.range 6).map (fun k => BitVec.ofNat 8 (a.toNat / 2 ^ (8 * (5 - k))))) / 2 ^ 26 % 64

/-- MAC_HASH has the bit of an address. -/
def hashHit (s : State) (n : Nat) (a : BitVec 48) : Bool :=
  let i := hashIndex a
  bitsOf (layered s (0x020010B0 + 256 * n + 4 * (i / 32)) 0) (i % 32) 1 == 1

/-- An enabled exact entry equals an address. -/
def exactHit (s : State) (n : Nat) (a : BitVec 48) : Bool :=
  (List.range 8).any (fun e =>
    let lo := layered s (0x02001070 + 256 * n + 8 * e) 0
    let hi := layered s (0x02001074 + 256 * n + 8 * e) 0
    bitsOf hi 31 1 == 1 && bitsOf lo 0 32 + bitsOf hi 0 16 * 2 ^ 32 == a.toNat)

/-- The MACs that TS_PTP_PORT names. -/
def ptpNames (s : State) (n : Nat) : Bool := pTsPtpPort0 s == n || (pTsPtpPort13 s == 1 && pTsPtpPort8 s == n)

/-- The PTP multicast addresses of IEEE 1588. -/
def ptpGroups : List Nat := [0x011B19000000, 0x0180C200000E]

/-- A station address of the partner that this MAC has claimed (18 R452). -/
def claimedStation (s : State) (n : Nat) (a : BitVec 48) : Bool := s.pair.claimed.any (fun x => x.1 == n && Config.partnerStation x.2 == a.toNat)

/-- An address this module answers for on a MAC: its own, or one of its partner's that it has claimed (R362; 18 R452). -/
def answersFor (s : State) (n : Nat) (v6 : Bool) (a : Nat) : Bool :=
  a != 0 && (a == ownAddress s n v6 || s.pair.claimed.any (fun x => x.1 == n && Config.partnerIp v6 x.2 == a))

/-- The destination address filter (R363). A MAC Control frame comes to its own group address and is not filtered (R364). -/
def addressPasses (s : State) (n : Nat) (a : BitVec 48) : Bool :=
  a.toNat == stationOf s n || exactHit s n a || claimedStation s n a || a.toNat == 2 ^ 48 - 1 || (isGroup a && hashHit s n a) ||
  (pMacCtrl1 s n == 1 && !isGroup a) || (pMacCtrl2 s n == 1 && isGroup a) || (ptpNames s n && ptpGroups.contains a.toNat)

/-- The group address of MAC Control frames (IEEE 802.3 Annex 31B). -/
def controlGroup : Nat := 0x0180C2000001

/-- The accepted EtherTypes (R359). -/
def etherOk (s : State) (e : Nat) : Bool :=
  e == 0x0800 || e == 0x86DD || e == 0x0806 || e == 0x8808 || (e == 0x88F7 && pTsPtpCfg8 s == 2)

/-! ## Flow control sent (R366; 16 R402) -/

/-- Quanta of every XOFF the module sends: the choice is the model's. -/
def xoffQuanta : Nat := 0xFFFF

/-- A pause of so many quanta at a MAC's rate, in ns rounded up (R364). -/
def quantaNs (s : State) (n q : Nat) : Nat := ceilDiv (q * 512) (macRate s n * 8 / 1000)

/-- Sends PAUSE or PFC for a class. -/
def sendPause (n cls quanta : Nat) (s : State) : State :=
  let pfc := pMacCtrl4 s n == 2
  let body : Flds := if pfc then [(2, 0x0101), (2, 2 ^ cls), (2, quanta)] else [(2, 1), (2, quanta)]
  transmit n .control .shelf cls 64 (msg (.mac n) .frame 0x8808 0 0 body) (bumpFigure (0x020010FC + 256 * n) 1 s)

/-- Writes the XOFF state of a class. -/
def putXoff (n : Nat) (x : Xoff) (s : State) : State :=
  match macAt s n with
  | some m => putMac { m with xoffs := putBy (fun y => y.cls == x.cls) x m.xoffs } s
  | none => s

/-- The XOFF state of a class. -/
def xoffAt (s : State) (n cls : Nat) : Option Xoff := (macAt s n).bind (fun m => m.xoffs.find? (fun x => x.cls == cls))

/-- A lossless class of a MAC has reached its limit: XOFF, unless one stands or the class is barred (R366; 16 R402). -/
def startXoff (n cls : Nat) (s : State) : State :=
  let full := lossless s cls && pMacCtrl4 s n != 0 && decide (holdLimit s n cls ≤ useAt s.hold.inUse n cls)
  let stands := (xoffAt s n cls).any (fun x => x.active || x.barred.any (fun b => decide (mono s < b)))
  if full && !stands then
    putXoff n { cls := cls, since := mono s, last := mono s, active := true, barred := none } (sendPause n cls xoffQuanta s)
  else s

/-- XOFF is released where use has fallen to the release level (16 R402). -/
def endXoffs (s : State) : State :=
  let all := (s.net.macs.map (fun m => (m.xoffs.filter (fun x => x.active)).map (fun x => (m.num, x)))).flatten
  all.foldl (fun acc y =>
    if useAt acc.hold.inUse y.1 y.2.cls + pHoldRelease acc ≤ holdLimit acc y.1 y.2.cls then
      putXoff y.1 { y.2 with active := false } (sendPause y.1 y.2.cls 0 acc)
    else acc) s

/-- XOFF_REFRESH: when half the quanta sent has elapsed the XOFF is sent again; after MAC_PAUSE_WDOG without a break it stops for
MAC_PAUSE_IGNORE (R366). -/
def execXoffRefresh (mac cls : Nat) (s : State) : Host.Outcome State Fault Refusal :=
  onMac mac (fun s =>
    match (xoffAt s mac cls).filter (fun x => x.active) with
    | none => s
    | some x =>
      if confirmed s x.since (pMacPauseWdog s mac * msU) then
        raise stMAC 0 mac (putXoff mac { x with active := false, barred := some (mono s + pMacPauseIgnore s mac * msU) } s)
      else if x.last + quantaNs s mac xoffQuanta * nsU / 2 ≤ mono s then putXoff mac { x with last := mono s } (sendPause mac cls xoffQuanta s)
      else s) s

/-! ## Frames received (R359 to R361, R368, R369) -/

/-- The traffic class of a frame (R361). -/
def frameClass (s : State) (f : FrameIn) : Nat := if f.tags = 0 then pMacVlan12 s f.mac else f.pcp % 8

/-- The frame carries traffic of a tenant under QUIET: it is left out of the receive counters (R368). -/
def quietIn (s : State) (f : FrameIn) : Bool := f.tenant.any (fun t => (quietOf s t).isSome)

/-- A frame is dropped and counted. -/
def dropFrame (off : Nat) (f : FrameIn) (s : State) : State := if quietIn s f then s else bumpWide (0x02001000 + 256 * f.mac + off) 1 s

/-- The wake causes that a frame raises on its MAC (R369): pattern bits, 8 setup, 9 address. -/
def wakeBits (s : State) (f : FrameIn) : Nat :=
  Nat.land f.patterns.toNat (pMacWakeCtrl0 s f.mac) + (if f.setupInit && pMacWakeCtrl8 s f.mac == 1 then 256 else 0) +
    (if f.magic && pMacWakeCtrl9 s f.mac == 1 then 512 else 0)

/-- A MAC raises a wake (R369, Table 22.3). -/
def wakeMac (n bits : Nat) (s : State) : State := wake 0 (raise stMAC 3 n (orStatus (0x020010BC + 256 * n) bits s))

/-- A frame in Dormant: a MAC with wake enabled examines it, any other is powered down (R369). -/
def dormantFrame (f : FrameIn) (s : State) : State :=
  if pMacCtrl7 s f.mac = 0 ∨ f.length < 64 ∨ pMacFrameMax s f.mac < f.length ∨ !f.fcsOk ∨ !addressPasses s f.mac f.dst then s
  else if wakeBits s f = 0 then s
  else wakeMac f.mac (wakeBits s f) s

/-- The checks of R359 and the hold's admission; a second tag, a fragment or IPv4 options end a frame (R361, R362). -/
def takeFrame (f : FrameIn) (s : State) : State :=
  if f.length < 64 ∨ pMacFrameMax s f.mac < f.length then dropFrame 0xD8 f s
  else if !f.fcsOk then dropFrame 0xD0 f s
  else if !addressPasses s f.mac f.dst && f.dst.toNat != controlGroup then dropFrame 0xE0 f s
  else if 2 ≤ f.tags || !etherOk s f.etype.toNat then dropFrame 0xE0 f s
  else
    let a := 0x020010C0 + 256 * f.mac
    let s1 := if quietIn s f then s else bumpWide (a + 8) f.length (bumpWide a 1 s)
    if f.ipFragmentOrOptions || f.etype.toNat == 0x8808 then s1
    else
      let id := s1.hold.serial
      let x : HoldFrame := { id := id, input := f.mac, output := f.output % 64, cls := frameClass s f, length := f.length, queued := true,
                             tenant := f.tenant }
      startXoff f.mac (frameClass s f) (admitMac x { s1 with hold := { s1.hold with serial := id + 1 } })

/-- FRAME_RECEIVE on a MAC that exists, is enabled and has its link up (R359). -/
def execFrameReceive (f : FrameIn) (s : State) : Host.Outcome State Fault Refusal :=
  onMac f.mac (fun s =>
    if !(macAt s f.mac).any (fun m => m.linkUp) || pMacCtrl0 s f.mac == 0 || !s.pwr.socOn || s.pwr.belay.isSome then s
    else if s.pst.mode == .dormant then dormantFrame f s
    else takeFrame f s) s

/-! ## Address traffic (R362) -/

/-- A MAC answers and originates address traffic. -/
def macAnswers (s : State) (n : Nat) : Bool := s.pwr.socOn && s.pst.mode != .dormant && pMacCtrl0 s n == 1 && (macAt s n).any (fun m => m.linkUp)

/-- An ARP or Neighbor Discovery frame leaves. -/
def sendNeighbour (n op : Nat) (v6 : Bool) (dest addr : Nat) (s : State) : State :=
  transmit n .control .shelf (classOf s n) 86 (msg (.mac n) .frame (if v6 then 0x86DD else 0x0806) op 0
    [(6, dest), (6, stationOf s n), (16, addr)]) s

/-- ARP_REQUEST: the module answers for its own addresses (R362). -/
def execArpRequest (mac : Nat) (v6 : Bool) (target : BitVec 128) (from_ : Nat) (s : State) : Host.Outcome State Fault Refusal :=
  onMac mac (fun s =>
    if macAnswers s mac && answersFor s mac v6 target.toNat then sendNeighbour mac 2 v6 from_ target.toNat s else s) s

/-- ICMP_ECHO: answered up to 100 in a second per MAC (R362). -/
def execIcmpEcho (mac : Nat) (v6 : Bool) (from_ : Nat) (data : Bytes) (s : State) : Host.Outcome State Fault Refusal :=
  onMac mac (fun s =>
    match (macAt s mac).filter (fun _ => macAnswers s mac) with
    | none => s
    | some m =>
      let m1 : Mac := if m.echoAt + secU ≤ mono s then { m with echoes := 0, echoAt := mono s } else m
      if 100 ≤ m1.echoes ∨ pMacFrameMax s mac < data.length + 70 then putMac m1 s
      else
        transmit mac .fair .shelf (classOf s mac) (data.length + 70)
          { port := .mac mac, kind := .frame, op := if v6 then 129 else 0, tag := 0, status := 0, body := [(6, from_), (6, stationOf s mac)],
            data := data } (putMac { m1 with echoes := m1.echoes + 1 } s)) s

/-- NEIGHBOUR_REFRESH: the next hop of a QUIET sink is resolved again: the sink itself within the MAC's prefix, else the gateway
(R362). -/
def execNeighbourRefresh (mac tenant : Nat) (s : State) : Host.Outcome State Fault Refusal :=
  onMac mac (fun s =>
    match (quietOf s tenant).filter (fun q => q.item.macs.getLsbD mac && macAnswers s mac), macAt s mac with
    | some q, some m =>
      let v6 := q.item.ipVer == 6
      sendNeighbour mac 1 v6 (2 ^ 48 - 1) (hopOf s mac v6 q.item.sink.toNat) (putMac { m with sinkAt := some (mono s) } s)
    | _, _ => s) s

/-! ## Links, ports and optics (R356 to R358, R370) -/

/-- The MACs of a port in a mode (Table 14.1). -/
def modeMacs (port mode : Nat) : List Nat :=
  match mode with
  | 0 => [8 * port]
  | 1 => [8 * port, 8 * port + 4]
  | 2 => [8 * port, 8 * port + 2, 8 * port + 4, 8 * port + 6]
  | _ => (List.range 8).map (fun k => 8 * port + k)

/-- The cage of a port. -/
def cageAt (s : State) (port : Nat) : Cage := (s.net.cages[port]?).getD Cage.reset

/-- A port's links may come up: no optical module stands in its cage unpowered (R358). -/
def cageCarries (s : State) (port : Nat) : Bool := (cageAt s port).media != 3 || (cageAt s port).powered

/-- LINK_UP: a gratuitous ARP and an unsolicited Neighbor Advertisement, then what waits is sent (R362). -/
def execLinkUp (mac : Nat) (s : State) : Host.Outcome State Fault Refusal :=
  onMac mac (fun s =>
    match (macAt s mac).filter (fun m => !m.linkUp && cageCarries s (mac / 8) && pMacCtrl0 s mac == 1 && s.pwr.socOn &&
        (s.pst.mode != .dormant || pMacCtrl7 s mac == 1)) with
    | none => s
    | some m =>
      let s1 := putMac { m with linkUp := true } s
      let s2 := sendNeighbour mac 2 false (2 ^ 48 - 1) (ownAddress s mac false) s1
      let s3 := sendNeighbour mac 2 true (2 ^ 48 - 1) (ownAddress s mac true) s2
      if s.pst.mode == .dormant then wakeMac mac 1024 s1 else pumpMac mac s3) s

/-- A link goes down: it is counted, MAC_STATUS bit 2 is set, its pauses end (R370). -/
def dropLink (n : Nat) (s : State) : State :=
  match (macAt s n).filter (fun m => m.linkUp) with
  | none => s
  | some m =>
    let a := 0x02001004 + 256 * n
    raise stMAC 2 n (setFigure a (min 255 (figure s a + 1)) (putMac { m with linkUp := false, sending := none, pauses := [], xoffs := [] } s))

/-- LINK_DOWN (R370). -/
def execLinkDown (mac : Nat) (s : State) : Host.Outcome State Fault Refusal :=
  onMac mac (fun s =>
    if (macAt s mac).any (fun m => m.linkUp) then
      if s.pst.mode == .dormant && pMacCtrl7 s mac == 1 then wakeMac mac 1024 (dropLink mac s) else dropLink mac s
    else s) s

/-- Every link of a port restarts (R357, R370). -/
def restartPort (port : Nat) (s : State) : State :=
  ((s.net.macs.filter (fun m => m.num / 8 == port)).map (fun m => m.num)).foldl (fun acc n => dropLink n acc) s

/-- A port runs in the mode its field now has: its links restart and its MACs are those of the mode (R356, R357). -/
def applyPortMode (port : Nat) (s : State) : State :=
  let s1 := restartPort port s
  let want := modeMacs port (pMacPortMode s port)
  let kept := s1.net.macs.filter (fun m => m.num / 8 != port || want.contains m.num)
  let new := (want.filter (fun n => !kept.any (fun m => m.num == n))).map Mac.reset
  let gone (a : Nat × Nat) : Bool :=
    decide (0x02001000 ≤ a.1) && decide (a.1 < 0x02003000) && decide ((a.1 - 0x02001000) / 256 / 8 = port) &&
      !want.contains ((a.1 - 0x02001000) / 256)
  { s1 with net := { s1.net with macs := kept ++ new },
            layers := { s1.layers with figures := dropIf gone s1.layers.figures, reported := dropIf gone s1.layers.reported },
            sch := { s1.sch with egress := dropIf (fun e => e.mac / 8 == port && !want.contains e.mac) s1.sch.egress } }

/-- OPTIC_INSERT: what stands in a cage changes, 0 for none; an optical module is powered only up to 16 W (R358). -/
def execOpticInsert (port media cls : Nat) (s : State) : Host.Outcome State Fault Refusal :=
  if 4 ≤ port then .next s
  else
    let refused := media == 3 && decide (16 < cls)
    let c : Cage := { media := media % 4, present := media != 0, powered := media != 0 && !refused, cls := cls }
    let s1 := { s with net := { s.net with cages := s.net.cages.set port c } }
    let s2 := if media = 0 ∨ refused then restartPort port s1 else s1
    .next (if refused then raise stMAC 1 (8 * port) s2 else s2)

/-! ## Pause received (R364, R365) -/

/-- The pause state of a priority, 8 for link-level PAUSE. -/
def pauseAt (m : Mac) (prio : Nat) : Pause :=
  (m.pauses.find? (fun p => p.prio == prio)).getD { prio := prio, until_ := none, from_ := 0, heldAt := none, ignore := none }

/-- Writes a pause state; one with nothing in it is not listed. -/
def putPause (n : Nat) (p : Pause) (s : State) : State :=
  match macAt s n with
  | none => s
  | some m =>
    let rest := dropIf (fun x => x.prio == p.prio) m.pauses
    putMac { m with pauses := if p.until_.isNone && p.ignore.isNone then rest else rest ++ [p] } s

/-- One priority of a received frame: it starts, renews or ends its pause, unless received pause is ignored for it; it holds what begins
128 ns after its stamp or later, and a renewal of a pause that still stands restarts its time alone (R364, R365). -/
def takePause (n prio quanta : Nat) (s : State) : State :=
  match macAt s n with
  | none => s
  | some m =>
    let p := pauseAt m prio
    let stands := p.until_.any (fun t => decide (mono s < t))
    if p.ignore.any (fun t => decide (mono s < t)) then s
    else if quanta = 0 then putPause n { p with until_ := none, heldAt := none } s
    else putPause n { p with until_ := some (mono s + quantaNs s n quanta * nsU), from_ := if stands then p.from_ else mono s + 128 * nsU,
                             heldAt := if stands then p.heldAt else none } s

/-- PAUSE_FRAME: counted; honoured as MAC_CTRL says (R364). -/
def execPauseFrame (mac : Nat) (pfc : Bool) (prios : List (Nat × Nat)) (s : State) : Host.Outcome State Fault Refusal :=
  onMac mac (fun s =>
    if !(macAt s mac).any (fun m => m.linkUp) then s
    else
      let s1 := bumpFigure (0x020010F8 + 256 * mac) 1 s
      let mine := if pfc then prios.filter (fun x => decide (x.1 < 8)) else (prios.map (fun x => (8, x.2))).take 1
      if pMacCtrl4 s mac = (if pfc then 2 else 1) then pumpMac mac (mine.foldl (fun acc x => takePause mac x.1 x.2 acc) s1) else s1) s

/-- PAUSE_EXPIRY: a pause time has elapsed, and what it held may begin (R364). -/
def execPauseExpiry (mac prio : Nat) (s : State) : Host.Outcome State Fault Refusal :=
  onMac mac (fun s =>
    match macAt s mac with
    | none => s
    | some m =>
      let p := pauseAt m prio
      if p.until_.any (fun t => decide (t ≤ mono s)) then pumpMac mac (putPause mac { p with until_ := none, heldAt := none } s) else s) s

/-- PAUSE_WATCHDOG_TRIP: received pause is ignored for MAC_PAUSE_IGNORE and the held frames are sent (R365). -/
def execPauseWatchdogTrip (mac prio : Nat) (s : State) : Host.Outcome State Fault Refusal :=
  onMac mac (fun s =>
    match macAt s mac with
    | none => s
    | some m =>
      let p := pauseAt m prio
      let due := pMacPauseWdog s mac * msU
      if p.heldAt.any (fun t => confirmed s t due && p.until_.any (fun e => decide (t + due < e))) then
        let p1 : Pause := { p with until_ := none, heldAt := none, ignore := some (mono s + pMacPauseIgnore s mac * msU) }
        pumpMac mac (raise stMAC 0 mac (putPause mac p1 s))
      else s) s

/-- PAUSE_IGNORE_END: received pause is honoured again (R365). -/
def execPauseIgnoreEnd (mac prio : Nat) (s : State) : Host.Outcome State Fault Refusal :=
  onMac mac (fun s =>
    match macAt s mac with
    | none => s
    | some m =>
      let p := pauseAt m prio
      if p.ignore.any (fun t => decide (t ≤ mono s)) then putPause mac { p with ignore := none } s else s) s

/-- FRAME_TRANSMIT_COMPLETE: the hold's frame that left gives back its cells, and the scheduler picks the next frame (15 R384; 16
R397). -/
def execFrameTransmitComplete (mac : Nat) (s : State) : Host.Outcome State Fault Refusal :=
  onMac mac (fun s =>
    match macAt s mac with
    | none => s
    | some m =>
      match m.sending with
      | none => s
      | some (cls, _) =>
        let first := s.hold.frames.find? (fun f => f.output == mac && f.cls == cls)
        let s1 := readOut (fun f => first.any (fun x => x.id == f.id)) (putMac { m with sending := none } s)
        pumpMac mac (endXoffs s1)) s

end Machine
end Sys2Proof
end

