-- ==== Sys2Proof/Machine/Block.lean ====
section
/-!
DEFINITION. The block service (04): what every NVMe and NVMe-oF command does, and its timers. NVMe layouts and codes that the spec takes
over by reference are those of NVMe 2.0 (log entry 20).
-/
namespace Sys2Proof
namespace Machine

/-! ## Connect, Disconnect, properties (R92 to R95, R103, R104) -/

/-- The SUBNQN is one the session's principal may name (R93, R94; log entry 21). -/
def subnqnOk (s : State) (q : Nat) (n : SubNqn) : Bool :=
  match n with
  | .discovery => true
  | .other => false
  | .tenant t =>
    match ctxWho s q with
    | .tenant u => u == t && (tenantAt s t).isSome
    | p => p.tenant? == some t && s.block.nss.any (fun x => x.tenant == t)

/-- A CNTLID from 0x0001 to 0xFFEF (R92): the lowest that no controller of the module has, DESIGN CHOICE, log entry 137. -/
def freeCntlid (s : State) : Option Nat := (firstFree 0xFFEF (fun i => !(s.block.ctrls.any (fun k => k.cntlid == i + 1)))).map (fun i => i + 1)

/-- The controller an I/O queue's Connect names: of the same principal and host (R92, R103). -/
def connectTo (s : State) (c : ConnectIn) : Option Ctrl :=
  s.block.ctrls.find? (fun k => k.cntlid == c.cntlid.toNat && k.who == ctxWho s c.ctx && k.hostId == c.hostId && k.hostNqn == c.hostNqn && !k.discovery)

/-- Connect Invalid Parameters with IATTR 0 and its IPO; a SUBNQN refusal waits for the NV-B instant (R93, R103). -/
def connectRefuse (c : ConnectIn) (ipo : Nat) (nv : Bool) (ingress : Nat) (s : State) : State :=
  let m := nvMsg c.ctx c.cid 0x7F nvConnectInvalid ipo [] []
  if nv then hold { heldAt m (nvInstant s ingress nvCDelay) with nv := true, nvDelay := nvCDelay } s else leave m none s

/-- What a Connect finds wrong: a status, or the IPO of an invalid parameter. -/
inductive ConnectBad where
  | subnqn
  | param (ipo : Nat)
  | status (e : Nat)
deriving DecidableEq, Repr

/-- The checks of Connect. -/
def checkConnect (c : ConnectIn) (s : State) : Option ConnectBad :=
  let size := c.sqsize.toNat + 1
  if !subnqnOk s c.ctx c.subnqn then some .subnqn
  else if (ctrlAt s c.ctx).isSome then some (.status nvSequence)
  else if c.qid = 0 then
    if size < 2 ∨ 32 < size then some (.param 44)
    else if c.kato.toNat < 1000 ∨ 3600000 < c.kato.toNat then some (.status nvInvalidField)
    else if (freeCntlid s).isNone then some (.status nvBusy)
    else none
  else
    match connectTo s c with
    | none => some (.param 16)
    | some k =>
      if k.nQueues < c.qid.toNat ∨ 128 < c.qid.toNat ∨ k.queues.any (fun x => x.qid == c.qid.toNat) then some (.param 42)
      else if size < 2 ∨ 1024 < size then some (.param 44)
      else if !k.cc.testBit 0 then some (.status nvSequence)
      else none

/-- The queue a Connect makes: the Connect itself was its first entry (R103). -/
def connectQueue (c : ConnectIn) : NvQueue :=
  { ctx := c.ctx, qid := c.qid.toNat, size := c.sqsize.toNat + 1, noFlow := c.noSqFlow, head := 1 }

/-- The controller a Connect to the admin queue creates (R92, R93). -/
def newCtrl (c : ConnectIn) (id : Nat) (s : State) : Ctrl :=
  { cntlid := id, tenant := ctxTenant s c.ctx, who := ctxWho s c.ctx, hostId := c.hostId, hostNqn := c.hostNqn, discovery := c.subnqn == .discovery,
    queues := [connectQueue c], kato := c.kato.toNat, deadline := mono s + c.kato.toNat * msU, cc := 0, wce := true, nQueues := 128, aenCfg := 0,
    aers := [], aens := [], changed := [], errors := [], errCount := 0, resNotes := [] }

/-- Connect passes its checks: a new controller, or an I/O queue of one (R92, R103). -/
def actConnect (c : ConnectIn) (s : State) : State :=
  if c.qid = 0 then
    match freeCntlid s with
    | none => s
    | some id => nvDone c.ctx c.cid 0x7F 0 id [] (putCtrl (newCtrl c id s) s)
  else
    match connectTo s c with
    | none => s
    | some k => nvDone c.ctx c.cid 0x7F 0 k.cntlid [] (putCtrl { k with queues := k.queues ++ [connectQueue c] } s)

/-- Connect when admitted. -/
def runConnect (c : ConnectIn) (ingress : Nat) (s : State) : State :=
  match checkConnect c s with
  | some .subnqn => connectRefuse c 256 true ingress s
  | some (.param ipo) => connectRefuse c ipo false ingress s
  | some (.status e) => nvDone c.ctx c.cid 0x7F e 0 [] s
  | none => actConnect c s

/-- CONNECT (R93). -/
def execConnect (c : ConnectIn) (s : State) : Host.Outcome State Fault Refusal :=
  .next (arrive (.connect c) (fun s => (checkConnect c s).map (fun _ => (0, [])))
    (fun ing a s => if (checkConnect c s).isSome then runConnect c ing s else nvDone c.ctx c.cid 0x7F a.1 0 [] s) (runConnect c) s)

/-- Disconnect when admitted: of an I/O queue, or of a controller by its admin queue. -/
def runDisconnect (c : NvmeCmd) (controller : Bool) (ingress : Nat) (s : State) : State :=
  runNv 0x7F c ingress (fun s => match queueAt s c.ctx with
      | none => some nvSequence
      | some x => if (x.qid == 0) != controller then some nvQueueType else none)
    (fun s => endCtx c.ctx (nvDone c.ctx c.cid 0x7F 0 0 [] s)) s

/-- DISCONNECT (R95): the queue's context ends, and with an admin queue every queue of its controller. -/
def execDisconnect (c : NvmeCmd) (controller : Bool) (s : State) : Host.Outcome State Fault Refusal :=
  .next (nvArrive (.disconnect c controller) 0x7F c (fun s => if (queueAt s c.ctx).isNone then some nvSequence else none)
    (runDisconnect c controller) s)

/-- A property of a controller by offset: CAP, VS, CC, CSTS. -/
def propertyOf (k : Ctrl) (ofst : Nat) : Option (Nat × Nat) :=
  match ofst with
  | 0x00 => some (8, 1023 + 2 ^ 16 + 2 ^ 37)
  | 0x08 => some (4, 0x00020000)
  | 0x14 => some (4, k.cc)
  | 0x1C => some (4, (if k.cc.testBit 0 then 1 else 0) + (if k.cc / 2 ^ 14 % 4 != 0 then 8 else 0))
  | _ => none

/-- Property Get when admitted. -/
def runPropertyGet (c : NvmeCmd) (ofst : Word32) (ingress : Nat) (s : State) : State :=
  let prop (s : State) : Option (Nat × Nat) := (ctrlAt s c.ctx).bind (fun k => propertyOf k ofst.toNat)
  runNv 0x7F c ingress (fun s => (queueCheck s c.ctx true true).or (if (prop s).isNone then some nvInvalidField else none))
    (fun s => let v := ((prop s).map Prod.snd).getD 0; nvDone c.ctx c.cid 0x7F 0 v [] s) s

/-- PROPERTY_GET (R95). -/
def execPropertyGet (c : NvmeCmd) (ofst : Word32) (s : State) : Host.Outcome State Fault Refusal :=
  .next (nvArrive (.propertyGet c ofst) 0x7F c (fun s => queueCheck s c.ctx true true) (runPropertyGet c ofst) s)

/-- Property Set of CC: clearing EN resets the controller, whose I/O queues end. -/
def setCc (k : Ctrl) (v : Nat) (s : State) : State :=
  let io := (k.queues.filter (fun x => x.qid != 0)).map (fun x => x.ctx)
  let s1 := putCtrl { k with cc := v } s
  if k.cc.testBit 0 && !v.testBit 0 then io.foldl (fun acc q => endCtx q acc) s1 else s1

/-- Property Set when admitted. -/
def runPropertySet (c : NvmeCmd) (ofst : Word32) (value : Word64) (ingress : Nat) (s : State) : State :=
  runNv 0x7F c ingress (fun s => (queueCheck s c.ctx true true).or (if ofst.toNat ≠ 0x14 then some nvInvalidField else none))
    (fun s => nvDone c.ctx c.cid 0x7F 0 0 [] ((ctrlAt s c.ctx).elim s (fun k => setCc k (value.toNat % 2 ^ 32) s))) s

/-- PROPERTY_SET (R95). -/
def execPropertySet (c : NvmeCmd) (ofst : Word32) (value : Word64) (s : State) : Host.Outcome State Fault Refusal :=
  .next (nvArrive (.propertySet c ofst value) 0x7F c (fun s => queueCheck s c.ctx true true) (runPropertySet c ofst value) s)

/-! ## Log pages (Table 4.4, R96) -/

/-- The SMART page: only what the caller's namespaces did (R96). -/
def smartPage (s : State) (p : Principal) : Flds :=
  let ns := attachedNss s p
  let sum (f : Ns → Nat) : Nat := (ns.map f).sum
  let units (n : Nat) : Nat := ceilDiv (n * 8) 1000
  layout 512 [(3, 1, 100), (4, 1, 10), (32, 16, units (sum (fun n => n.unitsR))), (48, 16, units (sum (fun n => n.unitsW))),
    (64, 16, sum (fun n => n.reads)), (80, 16, sum (fun n => n.writes)), (160, 16, sum (fun n => n.mediaErr))]

/-- The opcodes of Table 4.1, admin then I/O. -/
def adminOpcodes : List Nat := [0x02, 0x06, 0x08, 0x09, 0x0A, 0x0C, 0x0D, 0x18, 0x80, 0x84]
/-- As above. -/
def ioOpcodes : List Nat := [0x00, 0x01, 0x02, 0x05, 0x08, 0x09, 0x0C, 0x0D, 0x0E, 0x11, 0x15]

/-- The decimal digits of a number. -/
def decimal (n : Nat) : Bytes := ascii (toString n)

/-- The text of an IPv4 address. -/
def dotted (a : Nat) : Bytes :=
  decimal (a / 2 ^ 24 % 256) ++ ascii "." ++ decimal (a / 2 ^ 16 % 256) ++ ascii "." ++ decimal (a / 2 ^ 8 % 256) ++ ascii "." ++ decimal (a % 256)

/-- The text of an IPv6 address: eight groups of four hexadecimal digits. -/
def colons (a : Nat) : Bytes :=
  let group (k : Nat) : Bytes := (hexDigits 4 (a / 2 ^ (16 * (7 - k)))).map (fun c => BitVec.ofNat 8 c.toNat)
  (group 0) ++ ((List.range 7).map (fun k => ascii ":" ++ group (k + 1))).flatten

/-- The discovery log: the subsystem of the caller's tenant, at each address of the MAC it is asked on, IPv4 and IPv6 (R94; 14 R362). -/
def discoveryPage (s : State) (q : Nat) : Flds :=
  let t := ctxTenant s q
  let mac := ((ctxAt s q).map (fun c => c.mac)).getD 0
  let entry (family : Nat) (addr : Bytes) : Flds :=
    layout 1024 [(0, 1, 1), (1, 1, family), (2, 1, 2), (6, 2, 0xFFFF), (8, 2, 32), (32, 32, textVal 32 "4420"),
      (256, 256, leValue (tenantNqn s t)), (512, 256, leValue addr), (768, 1, 1), (769, 1, 1), (770, 1, 1)]
  let v4 := ownAddress s mac false
  let v6 := ownAddress s mac true
  let entries := if s.block.nss.any (fun n => n.tenant == t) then
      (if v4 = 0 then [] else [entry 1 (dotted v4)]) ++ (if v6 = 0 then [] else [entry 2 (colons v6)])
    else []
  layout 1024 [(8, 8, entries.length)] ++ entries.flatten

/-- The sanitize status page (R116). -/
def sanitizePage (s : State) (t : Nat) : Flds :=
  match s.block.sanitises.find? (fun x => x.tenant == t) with
  | none => layout 512 [(0, 2, 0xFFFF), (8, 24, 2 ^ 192 - 1)]
  | some x =>
    let st := if x.failed then 3 else if x.done then 1 else 2
    layout 512 [(0, 2, if x.done then 0xFFFF else x.progress), (2, 2, st), (4, 4, 4 + (if x.ause then 8 else 0)), (8, 24, 2 ^ 192 - 1)]

/-- A log page of a controller, if it has it (Table 4.4). -/
def logPage (s : State) (k : Ctrl) (q lid : Nat) : Option Flds :=
  if k.discovery then (if lid = 0x70 then some (discoveryPage s q) else none)
  else
    match lid with
    | 0x01 => some ((k.errors.zipIdx.map (fun e => layout 64 [(0, 8, k.errCount - e.2), (8, 2, e.1.sqid), (10, 2, e.1.cid), (12, 2, e.1.status * 2),
        (16, 8, e.1.lba), (24, 4, e.1.nsid), (29, 1, if (ctxAt s e.1.ctx).any isQp then 1 else 0)])).flatten)
    | 0x02 => some (smartPage s k.who)
    | 0x03 => some (layout 512 [(0, 1, 1), (8, 8, textVal 8 "3.2")])
    | 0x04 => some (layout 4096 (k.changed.zipIdx.map (fun n => (4 * n.2, 4, n.1))))
    | 0x05 => some (layout 4096 (adminOpcodes.map (fun o => (4 * o, 4, 1)) ++ ioOpcodes.map (fun o => (1024 + 4 * o, 4, 1))))
    | 0x80 => some (match k.resNotes with
        | [] => layout 64 []
        | n :: r => layout 64 [(0, 8, r.length + 1), (8, 1, n % 256), (9, 1, r.length), (12, 4, n / 256)])
    | 0x81 => some (sanitizePage s k.tenant)
    | _ => none

/-- What reading a log page takes away: changed namespaces, one reservation notification. -/
def logTaken (k : Ctrl) (lid : Nat) : Ctrl :=
  if lid = 0x04 then { k with changed := [] } else if lid = 0x80 then { k with resNotes := k.resNotes.drop 1 } else k

/-- The checks of Get Log Page. -/
def checkGetLogPage (c : NvmeCmd) (lid : Byte) (s : State) : Option Nat :=
  (queueCheck s c.ctx true true).or
    (if ((ctrlAt s c.ctx).bind (fun k => logPage s k c.ctx lid.toNat)).isNone then some nvLogPage else none)

/-- Get Log Page when admitted. -/
def runGetLogPage (c : NvmeCmd) (lid : Byte) (ingress : Nat) (s : State) : State :=
  runNv 0x02 c ingress (checkGetLogPage c lid) (fun s => match ctrlAt s c.ctx with
    | some k => nvDone c.ctx c.cid 0x02 0 0 ((logPage s k c.ctx lid.toNat).getD []) (putCtrl (logTaken k lid.toNat) s)
    | none => s) s

/-- GET_LOG_PAGE (R95, Table 4.4). -/
def execGetLogPage (c : NvmeCmd) (lid : Byte) (s : State) : Host.Outcome State Fault Refusal :=
  .next (nvArrive (.getLogPage c lid) 0x02 c (checkGetLogPage c lid) (runGetLogPage c lid) s)

/-! ## Identify (Table 4.2, R97 to R99) -/

/-- Identify Controller (Table 4.2). -/
def identifyCtrl (s : State) (k : Ctrl) : Flds :=
  let nqn := if k.discovery then discoveryNqn else tenantNqn s k.tenant
  if k.discovery then
    layout 4096 [(24, 40, textVal 40 "UV2460-M"), (64, 8, textVal 8 "3.2"), (78, 2, k.cntlid), (80, 4, 0x00020000), (111, 1, 2), (259, 1, 3),
      (320, 2, 10), (512, 1, 0x66), (513, 1, 0x44), (514, 2, 1024), (768, 256, leValue nqn)]
  else
    layout 4096 [(4, 20, textVal 20 ""), (24, 40, textVal 40 "UV2460-M"), (64, 8, textVal 8 "3.2"), (77, 1, 10), (78, 2, k.cntlid),
      (80, 4, 0x00020000), (96, 4, 1), (111, 1, 1), (128, 2, 10), (256, 2, 0x000A), (259, 1, 3), (260, 1, 0x03), (320, 2, 10),
      (328, 4, 0x20000001), (512, 1, 0x66), (513, 1, 0x44), (514, 2, 1024), (516, 4, 1024), (520, 2, 0x00AD), (522, 2, 0), (524, 1, 0x04),
      (525, 1, 0x07), (526, 2, 1023), (528, 2, 1023), (536, 4, 0x00100005), (540, 4, 1024), (768, 256, leValue nqn), (1792, 4, 516),
      (1796, 4, 1), (1800, 2, 0), (1802, 1, 0x01), (1803, 1, 1)]

/-- Identify Namespace (R98, R99, R101, R108). -/
def identifyNs (n : Ns) : Flds :=
  layout 4096 [(0, 8, n.ncap), (8, 8, n.ncap), (16, 8, n.lbas.length), (25, 1, 1), (26, 1, (if n.format1 then 1 else 0) + 16), (27, 1, 1),
    (28, 1, 0x1D), (29, 1, n.piType + (if n.piFirst then 8 else 0)), (30, 1, 1), (31, 1, 0x7F), (33, 1, 0x19), (128, 4, 12 * 65536),
    (132, 4, 12 * 65536 + 16)]

/-- What Identify returns for a CNS value; none where it is not supported; `err` where its namespace is not attached (Table 4.1). -/
def identifyData (s : State) (k : Ctrl) (nsid cns csi : Nat) : Option (Except Nat Flds) :=
  let ns := (nsOf s k.tenant nsid).filter (attached s k.who)
  let onNs (f : Ns → Flds) : Option (Except Nat Flds) := some (match ns with
    | some n => .ok (f n)
    | none => .error nvInvalidNs)
  if k.discovery && cns != 1 then none
  else
    match cns, csi with
    | 0x00, _ => onNs identifyNs
    | 0x01, _ => some (.ok (identifyCtrl s k))
    | 0x02, _ => some (.ok (layout 4096 (((attachedNss s k.who).filter (fun n => decide (nsid < n.nsid))).zipIdx.map (fun n => (4 * n.2, 4, n.1.nsid)))))
    | 0x03, _ => onNs (fun _ => layout 4096 [(0, 1, 4), (1, 1, 1), (4, 1, 0)])
    | 0x05, 0 => onNs (fun _ => layout 4096 [(16, 4, 2 * 128)])
    | 0x06, 0 => some (.ok (layout 4096 []))
    | _, _ => none

/-- The checks of Identify. -/
def checkIdentify (c : NvmeCmd) (cns csi : Byte) (s : State) : Option Nat :=
  (queueCheck s c.ctx true true).or (match ctrlAt s c.ctx with
    | none => some nvSequence
    | some k => match identifyData s k c.nsid.toNat cns.toNat csi.toNat with
      | none => some nvInvalidField
      | some (.error e) => some e
      | some (.ok _) => none)

/-- Identify when admitted. -/
def runIdentify (c : NvmeCmd) (cns csi : Byte) (ingress : Nat) (s : State) : State :=
  runNv 0x06 c ingress (checkIdentify c cns csi) (fun s =>
    match (ctrlAt s c.ctx).bind (fun k => identifyData s k c.nsid.toNat cns.toNat csi.toNat) with
    | some (.ok f) => nvDone c.ctx c.cid 0x06 0 0 f s
    | _ => s) s

/-- IDENTIFY (R95, R97). -/
def execIdentify (c : NvmeCmd) (cns csi : Byte) (s : State) : Host.Outcome State Fault Refusal :=
  .next (nvArrive (.identify c cns csi) 0x06 c (checkIdentify c cns csi) (runIdentify c cns csi) s)

/-! ## Abort, features, events, keep-alive -/

/-- The waiting command that an Abort names: one of the same controller, not yet admitted (Table 4.1). -/
def abortable (s : State) (c : NvmeCmd) (sqCtx cid : Nat) : Option Waiting :=
  if (ctrlAt s c.ctx).any (fun k => k.queues.any (fun x => x.ctx == sqCtx)) then
    s.block.waiting.find? (fun w => (hostCmd w.cmd).any (fun x => x.ctx == sqCtx && x.tag == cid))
  else none

/-- Abort when admitted. -/
def runAbort (c : NvmeCmd) (sqCtx cid ingress : Nat) (s : State) : State :=
  runNv 0x08 c ingress (fun s => queueCheck s c.ctx true false) (fun s =>
    match abortable s c sqCtx cid with
    | some w =>
      let s1 := { s with block := { s.block with waiting := s.block.waiting.erase w } }
      nvDone c.ctx c.cid 0x08 0 0 [] (nvDone sqCtx cid 0 nvAborted 0 [] s1)
    | none => nvDone c.ctx c.cid 0x08 0 1 [] s) s

/-- ABORT (R95). -/
def execAbort (c : NvmeCmd) (sqCtx cid : Nat) (s : State) : Host.Outcome State Fault Refusal :=
  .next (nvArrive (.abort c sqCtx cid) 0x08 c (fun s => queueCheck s c.ctx true false) (runAbort c sqCtx cid) s)

/-- The checks of Set Features (Table 4.3). A feature that cannot be set is answered so whatever SV says: DESIGN CHOICE, log entry 137. -/
def checkSetFeatures (c : NvmeCmd) (fid : Byte) (save : Bool) (value : Word32) (s : State) : Option Nat :=
  match queueCheck s c.ctx true false, ctrlAt s c.ctx with
  | some e, _ => some e
  | none, none => some nvSequence
  | none, some k =>
    let ns := (nsOf s k.tenant c.nsid.toNat).filter (attached s k.who)
    match fid.toNat with
    | 0x01 | 0x04 | 0x81 => some nvNotChangeable
    | 0x06 | 0x0B => if save then some nvNotSaveable else none
    | 0x07 =>
      if save then some nvNotSaveable
      else if k.queues.any (fun x => x.qid != 0) then some nvSequence
      else if value.toNat % 65536 = 65535 ∨ value.toNat / 65536 = 65535 then some nvInvalidField
      else none
    | 0x0F =>
      if save then some nvNotSaveable
      else if value.toNat < 1000 ∨ 3600000 < value.toNat then some nvInvalidField
      else none
    | 0x82 | 0x83 => if save then some nvNotSaveable else if ns.isNone then some nvInvalidNs else none
    | _ => some nvInvalidField

/-- Sets a feature; answers dword 0. -/
def setFeature (k : Ctrl) (nsid fid v : Nat) (s : State) : Nat × State :=
  let ns := (nsOf s k.tenant nsid).filter (attached s k.who)
  match fid with
  | 0x06 => (0, putCtrl { k with wce := v.testBit 0 } s)
  | 0x07 =>
    let n := min 128 (min (v % 65536) (v / 65536) + 1)
    ((n - 1) * 65537, putCtrl { k with nQueues := n } s)
  | 0x0B => (0, putCtrl { k with aenCfg := if v.testBit 8 then 256 else 0 } s)
  | 0x0F => (0, putCtrl { k with kato := v, deadline := mono s + v * msU } s)
  | 0x82 => (0, ns.elim s (fun n => putNs { n with resMask := v } s))
  | 0x83 => (0, ns.elim s (fun n => putNs { n with ptpl := v.testBit 0 } s))
  | _ => (0, s)

/-- Set Features when admitted. -/
def runSetFeatures (c : NvmeCmd) (fid : Byte) (save : Bool) (value : Word32) (ingress : Nat) (s : State) : State :=
  runNv 0x09 c ingress (checkSetFeatures c fid save value) (fun s => match ctrlAt s c.ctx with
    | some k => nvDone c.ctx c.cid 0x09 0 (setFeature k c.nsid.toNat fid.toNat value.toNat s).1 []
        (setFeature k c.nsid.toNat fid.toNat value.toNat s).2
    | none => s) s

/-- SET_FEATURES (Table 4.3). -/
def execSetFeatures (c : NvmeCmd) (fid : Byte) (save : Bool) (value : Word32) (s : State) : Host.Outcome State Fault Refusal :=
  .next (nvArrive (.setFeatures c fid save value) 0x09 c (checkSetFeatures c fid save value) (runSetFeatures c fid save value) s)

/-- The value of a feature: dword 0 and data (Table 4.3). -/
def featureOf (s : State) (k : Ctrl) (nsid fid : Nat) : Except Nat (Nat × Flds) :=
  let onNs (f : Ns → Nat) : Except Nat (Nat × Flds) := match (nsOf s k.tenant nsid).filter (attached s k.who) with
    | some n => .ok (f n, [])
    | none => .error nvInvalidNs
  match fid with
  | 0x01 | 0x04 => .ok (0, [])
  | 0x06 => .ok (if k.wce then 1 else 0, [])
  | 0x07 => .ok ((k.nQueues - 1) * 65537, [])
  | 0x0B => .ok (k.aenCfg, [])
  | 0x0F => .ok (k.kato, [])
  | 0x81 => .ok (0, [(16, k.hostId.toNat)])
  | 0x82 => onNs (fun n => n.resMask)
  | 0x83 => onNs (fun n => if n.ptpl then 1 else 0)
  | _ => .error nvInvalidField

/-- The checks of Get Features. -/
def checkGetFeatures (c : NvmeCmd) (fid : Byte) (s : State) : Option Nat :=
  (queueCheck s c.ctx true false).or (match ctrlAt s c.ctx with
    | none => some nvSequence
    | some k => match featureOf s k c.nsid.toNat fid.toNat with
      | .error e => some e
      | .ok _ => none)

/-- Get Features when admitted. -/
def runGetFeatures (c : NvmeCmd) (fid : Byte) (ingress : Nat) (s : State) : State :=
  runNv 0x0A c ingress (checkGetFeatures c fid) (fun s =>
    match (ctrlAt s c.ctx).map (fun k => featureOf s k c.nsid.toNat fid.toNat) with
    | some (.ok v) => nvDone c.ctx c.cid 0x0A 0 v.1 v.2 s
    | _ => s) s

/-- GET_FEATURES (Table 4.3). -/
def execGetFeatures (c : NvmeCmd) (fid : Byte) (s : State) : Host.Outcome State Fault Refusal :=
  .next (nvArrive (.getFeatures c fid) 0x0A c (checkGetFeatures c fid) (runGetFeatures c fid) s)

/-- The checks of Asynchronous Event Request: up to four outstanding (Table 4.1). -/
def checkAer (c : NvmeCmd) (s : State) : Option Nat :=
  (queueCheck s c.ctx true true).or (if (ctrlAt s c.ctx).any (fun k => decide (4 ≤ k.aers.length)) then some nvAerLimit else none)

/-- Asynchronous Event Request when admitted: it completes with an event that waits, or stays outstanding. -/
def runAer (c : NvmeCmd) (ingress : Nat) (s : State) : State :=
  runNv 0x0C c ingress (checkAer c) (fun s => match ctrlAt s c.ctx with
    | none => s
    | some k => match k.aens with
      | e :: r => nvDone c.ctx c.cid 0x0C 0 e [] (putCtrl { k with aens := r } s)
      | [] => putCtrl { k with aers := k.aers ++ [c.cid] } s) s

/-- ASYNCHRONOUS_EVENT_REQUEST (R95). -/
def execAsynchronousEventRequest (c : NvmeCmd) (s : State) : Host.Outcome State Fault Refusal :=
  .next (nvArrive (.asynchronousEventRequest c) 0x0C c (checkAer c) (runAer c) s)

/-- A controller is deleted and its contexts are freed; what it had admitted goes on for nobody (R104). -/
def dropCtrl (k : Ctrl) (s : State) : State :=
  let s1 := k.queues.foldl (fun acc x => endCtx x.ctx acc) s
  { s1 with block := { s1.block with ctrls := dropIf (fun x => x.cntlid == k.cntlid) s1.block.ctrls } }

/-- Keep Alive when admitted: the deadline starts anew at its ingress, unless that came after the deadline (R104; 03 R81, R82). -/
def runKeepAlive (c : NvmeCmd) (ingress : Nat) (s : State) : State :=
  runNv 0x18 c ingress (fun s => queueCheck s c.ctx true true) (fun s => match ctrlAt s c.ctx with
    | some k =>
      if k.deadline < ingress then dropCtrl k s
      else nvDone c.ctx c.cid 0x18 0 0 [] (putCtrl { k with deadline := max k.deadline (ingress + k.kato * msU) } s)
    | none => s) s

/-- KEEP_ALIVE (R104). -/
def execKeepAlive (c : NvmeCmd) (s : State) : Host.Outcome State Fault Refusal :=
  .next (nvArrive (.keepAlive c) 0x18 c (fun s => queueCheck s c.ctx true true) (runKeepAlive c) s)

/-- A Keep Alive that met a controller's deadline waits for admission (03 R82). -/
def aliveWaits (s : State) (k : Ctrl) : Bool :=
  s.block.waiting.any (fun w => match w.cmd with
    | .keepAlive c => decide (w.ingress ≤ k.deadline) && k.queues.any (fun x => x.ctx == c.ctx)
    | _ => false)

/-- KEEP_ALIVE_EXPIRY: the controller is deleted once its deadline is confirmed, with no Keep Alive that met it still to be heard (R104; 03 R82,
R83). -/
def execKeepAliveExpiry (controller : Nat) (s : State) : Host.Outcome State Fault Refusal :=
  match s.block.ctrls.find? (fun k => k.cntlid == controller) with
  | none => .next s
  | some k =>
    if !confirmed s k.deadline 0 || aliveWaits s k || k.queues.any (fun x => packetHeld s x.ctx) then .next s
    else .next (dropCtrl k s)

/-! ## Namespaces (R97, R98, R100) -/

/-- The host data structure of a creation breaks a rule of R98. -/
def nsCreateBad (d : NsCreate) : Bool :=
  let f := d.flbas.toNat
  let t := d.dps.toNat % 8
  d.nsze != d.ncap || d.ncap.toNat % 256 != 0 || decide (d.ncap.toNat < 262144) || !([0, 0x10, 0x11].contains f) ||
  !([0, 1, 3].contains t) || decide (16 ≤ d.dps.toNat) || (t != 0 && f != 0x11) || decide (2 < d.geom.toNat) || !d.tailZero

/-- The checks of a creation. Their order, and Invalid Field for PI with LBA format 0, are DESIGN CHOICE, log entry 137. -/
def checkNsCreate (c : NvmeCmd) (d : NsCreate) (s : State) : Option Nat :=
  match queueCheck s c.ctx true false with
  | some e => some e
  | none =>
    match ownTenant (ctxWho s c.ctx) with
    | none => some nvInvalidNs
    | some t =>
      if nsCreateBad d then some nvInvalidField
      else if !keyHeld s t then some nvNotReady
      else if (geomUnder s.layers.service d.geom.toNat).isNone || !membersFull s then some nvGeometry
      else if 1024 ≤ s.block.nss.length then some nvNoNsid
      else if overQuota s t (d.ncap.toNat * 4113) then some nvCapacity
      else none

/-- The lowest free NSID of a tenant and the lowest free shelf namespace number (R97; log entry 22). -/
def freeNsid (s : State) (t : Nat) : Nat := ((firstFree 1024 (fun i => (nsOf s t (i + 1)).isNone)).getD 0) + 1
/-- As above. -/
def freeNsNum (s : State) : Nat := (firstFree 1024 (fun i => (nsNum s i).isNone)).getD 0

/-- A creation passes its checks: salt, record banks, entry; it completes when both banks hold the record (R98, R100). -/
def actNsCreate (c : NvmeCmd) (d : NsCreate) (s : State) : State :=
  match ownTenant (ctxWho s c.ctx), geomUnder s.layers.service d.geom.toNat with
  | some t, some g =>
    let shard := placeShard s
    let (salt, s0) := drawDigest s
    let (st, s1) := sequence shard s0
    let id := freeNsid s t
    let n : Ns :=
      { num := freeNsNum s, nsid := id, tenant := t, ncap := d.ncap.toNat, format1 := d.flbas.toNat % 16 == 1, piType := d.dps.toNat % 8,
        piFirst := d.dps.getLsbD 3, geometry := g, shard := shard, salt := some salt, lbas := [], registrants := [], holder := none,
        ptpl := false, resGen := 0, resMask := 0, fphase := none, oldSalt := none, deleting := false, resuming := false, sanitising := false, created := st, reads := 0,
        writes := 0, unitsR := 0, unitsW := 0, mediaErr := 0 }
    let (gen, s2) := changeBanks (putNs n s1)
    let s3 := containerEntry t 3 id g 0 st s2
    let s4 := noticeNs id (fun k => !k.discovery && k.queues.all (fun x => x.ctx != c.ctx) && attached s3 k.who n) s3
    hold { heldMut (nvMsg c.ctx c.cid 0x0D 0 id [] []) st shard .onMedia [] s4 with bank := some (gen, false) } s4
  | _, _ => s

/-- Namespace creation when admitted. -/
def runNsCreate (c : NvmeCmd) (d : NsCreate) (ingress : Nat) (s : State) : State := runNv 0x0D c ingress (checkNsCreate c d) (actNsCreate c d) s

/-- NAMESPACE_CREATE (R98). -/
def execNamespaceCreate (c : NvmeCmd) (d : NsCreate) (s : State) : Host.Outcome State Fault Refusal :=
  .next (nvArrive (.namespaceCreate c d) 0x0D c (checkNsCreate c d) (runNsCreate c d) s)

/-- The namespaces an admin command names: one, or every attached one. -/
def namedNss (s : State) (c : NvmeCmd) : List Ns :=
  if c.nsid.toNat = 0xFFFFFFFF then attachedNss s (ctxWho s c.ctx)
  else ((nsOf s (ctxTenant s c.ctx) c.nsid.toNat).filter (attached s (ctxWho s c.ctx))).toList

/-- The common checks of deletion and format: the tenant alone, on its own namespaces, none of them busy (02 Table 2.5; R112). -/
def checkOwnNss (c : NvmeCmd) (s : State) : Option Nat :=
  match queueCheck s c.ctx true false with
  | some e => some e
  | none =>
    if (ownTenant (ctxWho s c.ctx)).isNone || (namedNss s c).isEmpty then some nvInvalidNs
    else (namedNss s c).findSome? (nsBusy s)

/-- A namespace is gone: its records and map are stale, its NSID is free (R100). -/
def forgetNs (n : Ns) (s : State) : State :=
  let mine (k : RecKind) : Bool := match k with
    | .block x _ _ => x == n.num
    | .mapPage x => x == n.num
    | _ => false
  let s1 := dropAhead n.num 0 n.ncap (killKind mine s)
  { s1 with block := { s1.block with nss := dropIf (fun x => x.num == n.num) s1.block.nss },
            idx := { s1.idx with parts := dropIf (fun p => p.num == 65536 + n.num && p.shard == n.shard) s1.idx.parts } }

/-- A namespace ends: nobody sees it any more, and every copy of its salt is to be overwritten, also on the members that are absent once they return
(R100). -/
def dropNs (n : Ns) (st : CStamp) (s : State) : State :=
  putNs { n with deleting := true, salt := none } (oweAll 1 (containerEntry n.tenant 4 n.nsid n.geometry 0 st s))

/-- The effect of Namespace Management delete: the namespaces named go, and the answer waits for their stamp and for the banks' copies of their
salts to be overwritten, after which their numbers are free (R98, R100). -/
def actNsDelete (c : NvmeCmd) (s : State) : State :=
  let nss := namedNss s c
  let (st, s1) := sequence ((nss.head?.map (fun n => n.shard)).getD 0) s
  let s2 := nss.foldl (fun acc n => noticeNs n.nsid (fun k => !k.discovery && attached acc k.who n) (dropNs n st acc)) s1
  let (gen, s3) := changeBanks s2
  hold { heldStamp (nvMsg c.ctx c.cid 0x0D 0 0 [] []) st with bank := some (gen, true), job := some (.nsDelete (nss.map (fun n => n.num))) } s3

/-- Namespace deletion when admitted: the NSIDs are free once the copies of the salts have been overwritten, and only then it completes (R100). -/
def runNsDelete (c : NvmeCmd) (ingress : Nat) (s : State) : State := runNv 0x0D c ingress (checkOwnNss c) (actNsDelete c) s

/-- NAMESPACE_DELETE (R100). -/
def execNamespaceDelete (c : NvmeCmd) (s : State) : Host.Outcome State Fault Refusal :=
  .next (nvArrive (.namespaceDelete c) 0x0D c (checkOwnNss c) (runNsDelete c) s)

/-! ## Format and sanitise (R114 to R116) -/

/-- The status of a Format whose parameters break a rule of R114: an LBA format that does not exist, or has no room for the PI asked for, is Invalid
Format, anything else Invalid Field. The rule gives no status: DESIGN CHOICE, log entry 137. -/
def formatBad (f : FormatParm) : Option Nat :=
  let l := f.lbaf.toNat
  let t := f.pi.toNat
  if 1 < l ∨ (t ≠ 0 ∧ l ≠ 1) then some nvBadFormat
  else if (l = 1 ∧ f.mset = false) ∨ (t ≠ 0 ∧ t ≠ 1 ∧ t ≠ 3) ∨ 2 < f.ses.toNat then some nvInvalidField
  else none

/-- The checks of Format NVM. -/
def checkFormat (c : NvmeCmd) (f : FormatParm) (s : State) : Option Nat :=
  ((checkOwnNss c s).or (formatBad f)).or (if (namedNss s c).any (fun n => writeConflict n (hostOf s c.ctx)) then some nvResConflict else none)

/-- Format NVM passes its checks: it takes its commit stamps, and its phases follow once the commands admitted before have ended (R114, R115). -/
def actFormat (c : NvmeCmd) (f : FormatParm) (s : State) : State :=
  beginFormat (nvMsg c.ctx c.cid 0x80 0 0 [] []) ((namedNss s c).map (fun n => n.num)) false (some (f.lbaf.toNat == 1, f.pi.toNat, f.pil)) s

/-- Format NVM when admitted. -/
def runFormat (c : NvmeCmd) (f : FormatParm) (ingress : Nat) (s : State) : State := runNv 0x80 c ingress (checkFormat c f) (actFormat c f) s

/-- FORMAT_NVM (R114). -/
def execFormatNvm (c : NvmeCmd) (f : FormatParm) (s : State) : Host.Outcome State Fault Refusal :=
  .next (nvArrive (.formatNvm c f) 0x80 c (checkFormat c f) (runFormat c f) s)

/-- The checks of Sanitize: Crypto Erase alone, by the tenant, one at a time (R116). -/
def checkSanitize (c : NvmeCmd) (action : BitVec 3) (s : State) : Option Nat :=
  match queueCheck s c.ctx true false with
  | some e => some e
  | none =>
    match ownTenant (ctxWho s c.ctx) with
    | none => some nvInvalidNs
    | some t =>
      if action ≠ 4 then some nvInvalidField
      else if !keyHeld s t then some nvNotReady
      else if sanState s t == some nvSanProgress then some nvSanProgress
      else if s.block.nss.any (fun n => n.tenant == t && n.fphase.isSome) then some nvFormatting
      else none

/-- Sanitize passes its checks: it is answered at once, and every namespace of the tenant passes through F1 to F4 (R116). -/
def actSanitize (c : NvmeCmd) (ause : Bool) (s : State) : State :=
  let t := ctxTenant s c.ctx
  let nums := (s.block.nss.filter (fun n => n.tenant == t && !n.deleting)).map (fun n => n.num)
  let x : TenantSanitise := { tenant := t, progress := 0, segs := [], total := 0, failed := false, ause := ause, done := nums.isEmpty }
  let s1 := nvDone c.ctx c.cid 0x84 0 0 [] { s with block := { s.block with sanitises := putBy (fun y => y.tenant == t) x s.block.sanitises } }
  failSanitises (beginFormat jobMsg nums true none s1)

/-- Sanitize when admitted. -/
def runSanitize (c : NvmeCmd) (action : BitVec 3) (ause : Bool) (ingress : Nat) (s : State) : State :=
  runNv 0x84 c ingress (checkSanitize c action) (actSanitize c ause) s

/-- SANITIZE (R116). -/
def execSanitize (c : NvmeCmd) (action : BitVec 3) (ause : Bool) (s : State) : Host.Outcome State Fault Refusal :=
  .next (nvArrive (.sanitize c action ause) 0x84 c (checkSanitize c action) (runSanitize c action ause) s)

/-! ## Flush, Write, Read, Compare, Verify (R99, R102, R106 to R112) -/

/-- The namespaces a Flush covers. -/
def checkFlush (c : NvmeCmd) (s : State) : Option Nat :=
  match queueCheck s c.ctx false false with
  | some e => some e
  | none =>
    if c.nsid.toNat = 0xFFFFFFFF then none
    else
      match nsFor s c.ctx c.nsid.toNat attached with
      | none => some nvInvalidNs
      | some n => (nsBusy s n).or (if writeConflict n (hostOf s c.ctx) then some nvResConflict else none)

/-- Flush passes its checks: it waits for every entry of its shards up to now to be on media (R111). -/
def actFlush (c : NvmeCmd) (s : State) : State :=
  let shards := ((namedNss s c).map (fun n => n.shard)).eraseDups
  let h := heldAt (nvMsg c.ctx c.cid 0x00 0 0 [] []) (now s)
  hold { h with level := .onMedia, also := shards.map (fun n => (n, (shardAt s n).splice)) } s

/-- Flush when admitted. -/
def runFlush (c : NvmeCmd) (ingress : Nat) (s : State) : State := runNv 0x00 c ingress (checkFlush c) (actFlush c) s

/-- FLUSH (R111). -/
def execFlush (c : NvmeCmd) (s : State) : Host.Outcome State Fault Refusal :=
  .next (nvArrive (.flush c) 0x00 c (checkFlush c) (runFlush c) s)

/-- LBAs of a command, counted from zero. -/
def lbaCount (nlb : Word16) : Nat := nlb.toNat + 1

/-- The metadata of an LBA travels with it: under format 1, unless PI is on and the module makes and strips it (R101, R102). -/
def metaMoves (n : Ns) (pr : PrInfo) : Bool := n.format1 && (n.piType == 0 || !pr.pract)

/-- The LBAs and PI a Write brings. -/
def writeItems (n : Ns) (slba : Nat) (pr : PrInfo) (data : Bytes) (pi : List PiData) (count : Nat) : List (Bytes × PiData) :=
  (cutLbas count data).zipIdx.map (fun x =>
    (x.1, if metaMoves n pr then (pi[x.2]?).getD deallocPi else makePi n.piType pr (slba + x.2) x.1))

/-- The checks of a Write on its data: lengths, then PI (R102). -/
def checkWriteData (n : Ns) (slba : Nat) (pr : PrInfo) (data : Bytes) (pi : List PiData) (count : Nat) : Option Nat :=
  if data.length ≠ count * 4096 ∨ (metaMoves n pr ∧ pi.length ≠ count) then some nvSglLength
  else if hasPi n && !pr.pract then
    (writeItems n slba pr data pi count).zipIdx.findSome? (fun x => piCheck n.piType pr (slba + x.2) x.1.1 x.1.2)
  else none

/-- The checks of Write. -/
def checkWrite (c : NvmeCmd) (slba : Word64) (nlb : Word16) (pr : PrInfo) (data : Bytes) (pi : List PiData) (s : State) : Option Nat :=
  (ioCheck c mayWrite true slba.toNat (lbaCount nlb) 1024 s).or
    ((nsFor s c.ctx c.nsid.toNat mayWrite).bind (fun n => checkWriteData n slba.toNat pr data pi (lbaCount nlb)))

/-- Write passes its checks: one mutation, completing at its level (R107, R110); in place where the free segments call for it (07 R208). -/
def actWrite (c : NvmeCmd) (slba : Word64) (nlb : Word16) (fua : Bool) (pr : PrInfo) (data : Bytes) (pi : List PiData) (s : State) : State :=
  match nsFor s c.ctx c.nsid.toNat mayWrite with
  | none => s
  | some n =>
    let count := lbaCount nlb
    let s0 := putNs { n with writes := n.writes + 1, unitsW := n.unitsW + count } s
    let (st, s1) := sequence n.shard s0
    let items := writeItems n slba.toNat pr data pi count
    let (rows, s2) := if overwritable s1 n slba.toNat count then ([], overwriteLbas n.num slba.toNat items st s1) else writeLbas n.num slba.toNat items st s1
    finishNv 0x01 c st (writeLevel s c.ctx count fua) n.shard rows 0 s2

/-- Write when admitted. -/
def runWrite (c : NvmeCmd) (slba : Word64) (nlb : Word16) (fua : Bool) (pr : PrInfo) (data : Bytes) (pi : List PiData) (ingress : Nat)
    (s : State) : State :=
  runNvAt slba.toNat 0x01 c ingress (checkWrite c slba nlb pr data pi) (actWrite c slba nlb fua pr data pi) s

/-- NVME_WRITE (R107, R110). -/
def execNvmeWrite (c : NvmeCmd) (slba : Word64) (nlb : Word16) (fua : Bool) (pr : PrInfo) (data : Bytes) (pi : List PiData) (s : State) :
    Host.Outcome State Fault Refusal :=
  .next (nvArrive (.nvmeWrite c slba nlb fua pr data pi) 0x01 c (checkWrite c slba nlb pr data pi) (runWrite c slba nlb fua pr data pi) s)

/-- A Read, Compare or Verify of the lost counts as the caller's unrecovered read (R96). -/
def countMedia (c : NvmeCmd) (e : Option Nat) (s : State) : State :=
  if e = some nvUnrecovered then (nsFor s c.ctx c.nsid.toNat mayRead).elim s (fun n => putNs { n with mediaErr := n.mediaErr + 1 } s) else s

/-- The LBAs of a Read, Compare or Verify count as data units read; the first two count as host reads (R96; NVMe 2.0, log entry 20). -/
def countRead (host : Bool) (n : Ns) (count : Nat) (s : State) : State :=
  putNs { n with reads := n.reads + (if host then 1 else 0), unitsR := n.unitsR + count } s

/-- What a Read of a range leaves of a prefetched run: the LBAs after the range. -/
def aheadRest (slba count : Nat) (a : Ahead) : Option Ahead :=
  let stop := slba + count
  if a.lba + a.count ≤ slba ∨ stop ≤ a.lba then some a
  else if a.lba + a.count ≤ stop then none
  else some { a with lba := stop, count := a.lba + a.count - stop }

/-- The reads of LBAs for a held completion: where prefetches of the same queue cover them and no mutation has touched them since, those are used and
their faults are recorded; else they are read (R106, R108; 07 R187). -/
def readLbas (q held num slba count : Nat) (s : State) : State :=
  match nsNum s num with
  | none => s
  | some n =>
    let s1 := mapWalks n slba count s
    let hit (x : Stream) : Bool := x.ctx == q && x.ns == num && !x.ahead.isEmpty && decide (slba + count ≤ aheadEnd x.ahead slba)
    match s1.block.streams.find? hit with
    | some x =>
      let strips := mediaStrips s1 (lbaExtents n slba count)
      let runs := x.ahead.filter (fun a => decide (a.lba < slba + count) && decide (slba < a.lba + a.count))
      let used (y : Stream) : Stream := { y with ahead := y.ahead.filterMap (aheadRest slba count) }
      let s2 := runs.foldl (fun acc a =>
        adoptFaults (.host n.tenant 2 n.num) false held (a.faults.filter (fun f => strips.contains (faultStrip f)))
          (adoptReads n.tenant a.id held (fun y => strips.contains y) acc)) s1
      { s2 with block := { s2.block with streams := mapIf hit used s2.block.streams } }
    | none => readFor n.tenant 2 n.num held (lbaExtents n slba count) s1

/-- The checks of Read. -/
def checkRead (c : NvmeCmd) (slba : Word64) (nlb : Word16) (pr : PrInfo) (s : State) : Option Nat :=
  (ioCheck c mayRead false slba.toNat (lbaCount nlb) 1024 s).or
    ((nsFor s c.ctx c.nsid.toNat mayRead).bind (fun n =>
      if lbaLost n slba.toNat (lbaCount nlb) then some nvUnrecovered else readPi n pr slba.toNat (lbaCount nlb)))

/-- The bytes a Read returns: with PRACT the PI is stripped, else it follows each LBA's data (R102). -/
def readBytes (n : Ns) (pr : PrInfo) (slba count : Nat) : Bytes :=
  ((List.range count).map (fun i =>
    let x := lbaAt n (slba + i)
    x.1 ++ (if metaMoves n pr then piBytes x.2 else []))).flatten

/-- Read passes its checks (R106, R107). -/
def actRead (c : NvmeCmd) (slba : Word64) (nlb : Word16) (pr : PrInfo) (s : State) : State :=
  match nsFor s c.ctx c.nsid.toNat mayRead with
  | none => s
  | some n =>
    let count := lbaCount nlb
    let s1 := countRead true n count s
    let (x, s2) := trackRead c.ctx n.num slba.toNat count s1
    let id := s2.nextId
    let s3 := hold (heldAt (nvMsg c.ctx c.cid 0x02 0 0 [] (readBytes n pr slba.toNat count)) (now s2)) s2
    prefetch n ((s3.block.streams.find? (fun y => y.ctx == x.ctx && y.ns == x.ns && y.next == x.next)).getD x)
      (readLbas c.ctx id n.num slba.toNat count s3)

/-- Read when admitted. -/
def runRead (c : NvmeCmd) (slba : Word64) (nlb : Word16) (pr : PrInfo) (ingress : Nat) (s : State) : State :=
  runNvAt slba.toNat 0x02 c ingress (checkRead c slba nlb pr) (actRead c slba nlb pr) (countMedia c (checkRead c slba nlb pr s) s)

/-- NVME_READ (R107). -/
def execNvmeRead (c : NvmeCmd) (slba : Word64) (nlb : Word16) (pr : PrInfo) (s : State) : Host.Outcome State Fault Refusal :=
  .next (nvArrive (.nvmeRead c slba nlb pr) 0x02 c (checkRead c slba nlb pr) (runRead c slba nlb pr) s)

/-- PREFETCH_EXPIRY: prefetched data not used within 10,000,000 ns of its arrival is discarded undecrypted (R106). -/
def execPrefetchExpiry (ctx : Nat) (s : State) : Host.Outcome State Fault Refusal :=
  let old (a : Ahead) : Bool := a.arrived.any (fun t => confirmed s t (10 * msU))
  .next (sweepQuarantine { s with block := { s.block with
    streams := mapIf (fun x => x.ctx == ctx) (fun x => { x with ahead := dropIf old x.ahead }) s.block.streams } })

/-- The checks of Compare. -/
def checkCompare (c : NvmeCmd) (slba : Word64) (nlb : Word16) (pr : PrInfo) (data : Bytes) (pi : List PiData) (s : State) : Option Nat :=
  (checkRead c slba nlb pr s).or ((nsFor s c.ctx c.nsid.toNat mayRead).bind (fun n =>
    if data.length ≠ lbaCount nlb * 4096 ∨ (metaMoves n pr ∧ pi.length ≠ lbaCount nlb) then some nvSglLength else none))

/-- Compare passes its checks: the data, and the metadata where it travels, against what is stored; its result is ready when the LBAs have been
read. -/
def actCompare (c : NvmeCmd) (slba : Word64) (nlb : Word16) (pr : PrInfo) (data : Bytes) (pi : List PiData) (s : State) : State :=
  match nsFor s c.ctx c.nsid.toNat mayRead with
  | none => s
  | some n =>
    let count := lbaCount nlb
    let stored := (List.range count).map (fun i => lbaAt n (slba.toNat + i))
    let same := (stored.map (fun x => x.1)).flatten == data && (!metaMoves n pr || stored.map (fun x => x.2) == pi)
    let id := s.nextId
    readLbas c.ctx id n.num slba.toNat count
      (hold (heldAt (nvMsg c.ctx c.cid 0x05 (if same then 0 else nvMiscompare) 0 [] []) (now s)) (countRead true n count s))

/-- Compare when admitted. -/
def runCompare (c : NvmeCmd) (slba : Word64) (nlb : Word16) (pr : PrInfo) (data : Bytes) (pi : List PiData) (ingress : Nat) (s : State) : State :=
  runNvAt slba.toNat 0x05 c ingress (checkCompare c slba nlb pr data pi) (actCompare c slba nlb pr data pi)
    (countMedia c (checkCompare c slba nlb pr data pi s) s)

/-- COMPARE (R95). -/
def execCompare (c : NvmeCmd) (slba : Word64) (nlb : Word16) (pr : PrInfo) (data : Bytes) (pi : List PiData) (s : State) :
    Host.Outcome State Fault Refusal :=
  .next (nvArrive (.compare c slba nlb pr data pi) 0x05 c (checkCompare c slba nlb pr data pi) (runCompare c slba nlb pr data pi) s)

/-- The checks of Write Zeroes. -/
def checkWriteZeroes (c : NvmeCmd) (slba : Word64) (nlb : Word16) (s : State) : Option Nat :=
  ioCheck c mayWrite true slba.toNat (lbaCount nlb) 65536 s

/-- Write Zeroes passes its checks: it deallocates (R99, R107). -/
def actWriteZeroes (c : NvmeCmd) (slba : Word64) (nlb : Word16) (s : State) : State :=
  match nsFor s c.ctx c.nsid.toNat mayWrite with
  | none => s
  | some n =>
    let (st, s1) := sequence n.shard s
    let s2 := deallocate n.num slba.toNat (lbaCount nlb) st s1
    finishNv 0x08 c st (writeLevel s c.ctx 0 false) n.shard [] 0 (chargeUnits n.tenant 0 (geomData n.geometry) true s2)

/-- Write Zeroes when admitted. -/
def runWriteZeroes (c : NvmeCmd) (slba : Word64) (nlb : Word16) (ingress : Nat) (s : State) : State :=
  runNvAt slba.toNat 0x08 c ingress (checkWriteZeroes c slba nlb) (actWriteZeroes c slba nlb) s

/-- WRITE_ZEROES (R107). -/
def execWriteZeroes (c : NvmeCmd) (slba : Word64) (nlb : Word16) (s : State) : Host.Outcome State Fault Refusal :=
  .next (nvArrive (.writeZeroes c slba nlb) 0x08 c (checkWriteZeroes c slba nlb) (runWriteZeroes c slba nlb) s)

/-- The checks of Dataset Management: at most 256 ranges, each within the namespace. -/
def checkDsm (c : NvmeCmd) (ranges : List (Word64 × Word32)) (s : State) : Option Nat :=
  (ioCheck c mayWrite true 0 0 0 s).or ((nsFor s c.ctx c.nsid.toNat mayWrite).bind (fun n =>
    if 256 < ranges.length ∨ ranges.isEmpty then some nvInvalidField
    else if ranges.any (fun r => decide (n.ncap < r.1.toNat + r.2.toNat)) then some nvLbaRange
    else none))

/-- Dataset Management passes its checks: Deallocate is one mutation over all ranges; other attributes are ignored (R95, R107). -/
def actDsm (c : NvmeCmd) (dealloc : Bool) (ranges : List (Word64 × Word32)) (s : State) : State :=
  match nsFor s c.ctx c.nsid.toNat mayWrite with
  | none => s
  | some n =>
    if !dealloc then nvDone c.ctx c.cid 0x09 0 0 [] s
    else
      let (st, s1) := sequence n.shard s
      let s2 := ranges.foldl (fun acc r => deallocate n.num r.1.toNat r.2.toNat st acc) s1
      finishNv 0x09 c st (writeLevel s c.ctx 0 false) n.shard [] 0 (chargeUnits n.tenant 0 (geomData n.geometry) true s2)

/-- Dataset Management when admitted. -/
def runDsm (c : NvmeCmd) (dealloc : Bool) (ranges : List (Word64 × Word32)) (ingress : Nat) (s : State) : State :=
  runNv 0x09 c ingress (checkDsm c ranges) (actDsm c dealloc ranges) s

/-- DATASET_MANAGEMENT (R107). -/
def execDatasetManagement (c : NvmeCmd) (deallocate : Bool) (ranges : List (Word64 × Word32)) (s : State) :
    Host.Outcome State Fault Refusal :=
  .next (nvArrive (.datasetManagement c deallocate ranges) 0x09 c (checkDsm c ranges) (runDsm c deallocate ranges) s)

/-- Verify passes its checks: the LBAs are read from media, their strip check values and PI checked, nothing is transferred. -/
def actNvVerify (c : NvmeCmd) (slba : Word64) (nlb : Word16) (s : State) : State :=
  match nsFor s c.ctx c.nsid.toNat mayRead with
  | none => s
  | some n =>
    let id := s.nextId
    let s1 := hold (heldAt (nvMsg c.ctx c.cid 0x0C 0 0 [] []) (now s)) (countRead false n (lbaCount nlb) s)
    readFor n.tenant 2 n.num id (lbaExtents n slba.toNat (lbaCount nlb)) (mapWalks n slba.toNat (lbaCount nlb) s1)

/-- The checks of Verify; it moves no data, so MDTS does not bound it. -/
def checkNvVerify (c : NvmeCmd) (slba : Word64) (nlb : Word16) (pr : PrInfo) (s : State) : Option Nat :=
  (ioCheck c mayRead false slba.toNat (lbaCount nlb) 65536 s).or
    ((nsFor s c.ctx c.nsid.toNat mayRead).bind (fun n =>
      if lbaLost n slba.toNat (lbaCount nlb) then some nvUnrecovered else readPi n pr slba.toNat (lbaCount nlb)))

/-- Verify when admitted. -/
def runNvVerify (c : NvmeCmd) (slba : Word64) (nlb : Word16) (pr : PrInfo) (ingress : Nat) (s : State) : State :=
  runNvAt slba.toNat 0x0C c ingress (checkNvVerify c slba nlb pr) (actNvVerify c slba nlb) (countMedia c (checkNvVerify c slba nlb pr s) s)

/-- NVME_VERIFY (R95). -/
def execNvmeVerify (c : NvmeCmd) (slba : Word64) (nlb : Word16) (pr : PrInfo) (s : State) : Host.Outcome State Fault Refusal :=
  .next (nvArrive (.nvmeVerify c slba nlb pr) 0x0C c (checkNvVerify c slba nlb pr) (runNvVerify c slba nlb pr) s)

/-! ## Reservations (R107, R108; the rules of NVMe 2.0, log entry 20) -/

/-- The registration a host holds, if it gave its key. -/
def registrantWith (n : Ns) (h : BitVec 128) (key : Word64) : Bool := n.registrants.any (fun r => r.host == h && r.key == key)

/-- A reservation notification of a type on a namespace to the controllers of hosts: log page 0x80 and its event, unless masked. -/
def noticeRes (n : Ns) (kind : Nat) (hosts : List (BitVec 128)) (s : State) : State :=
  if n.resMask.testBit kind then s
  else
    let hit (k : Ctrl) : Bool := k.tenant == n.tenant && !k.discovery && hosts.contains k.hostId
    let add (k : Ctrl) : Ctrl := { k with resNotes := k.resNotes ++ [kind + n.nsid * 256] }
    ((s.block.ctrls.filter hit).map (fun k => k.cntlid)).foldl (fun acc c => asyncEvent c resNotice acc) (mapCtrls hit add s)

/-- The hosts registered with a namespace other than one. -/
def otherHosts (n : Ns) (h : BitVec 128) : List (BitVec 128) := (n.registrants.map (fun r => r.host)).filter (fun x => x != h)

/-- A reservation of a type for registrants only or for all registrants: its release is notified. -/
def noticedType (t : Nat) : Bool := decide (3 ≤ t)

/-- What a reservation command does to a namespace: the namespace after it and the notifications it causes, each a type and hosts. -/
abbrev ResEffect := Ns × List (Nat × List (BitVec 128))

/-- Unregisters hosts: a holder that goes, or the last of all registrants, releases the reservation. -/
def unregister (n : Ns) (gone : List (BitVec 128)) (self : BitVec 128) : ResEffect :=
  let left := n.registrants.filter (fun r => !gone.contains r.host)
  let m := { n with registrants := left }
  match n.holder with
  | some (h, t) =>
    let lost := if allHold t then left.isEmpty else gone.contains h
    if lost then ({ m with holder := none }, if noticedType t then [(2, otherHosts m self)] else []) else (m, [])
  | none => (m, [])

/-- Reservation Register: the status it is refused with, or its effect. -/
def registerEffect (n : Ns) (h : BitVec 128) (action : BitVec 3) (ignoreKey : Bool) (cptpl : BitVec 2) (crkey nrkey : Word64) :
    Except Nat ResEffect :=
  let keep (m : Ns) : Ns := { m with ptpl := if cptpl = 2 then false else if cptpl = 3 then true else m.ptpl, resGen := (m.resGen + 1) % 2 ^ 32 }
  let put (m : Ns) : Ns := { m with registrants := putBy (fun r => r.host == h) { host := h, key := nrkey } m.registrants }
  if cptpl = 1 ∨ 2 < action.toNat then .error nvInvalidField
  else if action = 0 then
    if registered n h && !registrantWith n h nrkey then .error nvResConflict else .ok (keep (put n), [])
  else if action = 1 then
    if registrantWith n h crkey || (ignoreKey && registered n h) then
      let x := unregister n [h] h
      .ok (keep x.1, x.2)
    else .error nvResConflict
  else if registrantWith n h crkey || ignoreKey then .ok (keep (put n), [])
  else .error nvResConflict

/-- Preempts: registrants with a key are unregistered; where the holder's key is named, the reservation passes to the host. -/
def preemptEffect (n : Ns) (h : BitVec 128) (rtype : Nat) (prkey : Word64) : Except Nat ResEffect :=
  let keyed := ((n.registrants.filter (fun r => r.key == prkey)).map (fun r => r.host))
  let every := otherHosts n h
  let take (gone : List (BitVec 128)) (old : Nat) : ResEffect :=
    let left := n.registrants.filter (fun r => !gone.contains r.host)
    let m := { n with registrants := left, holder := some (h, rtype), resGen := (n.resGen + 1) % 2 ^ 32 }
    (m, [(1, gone), (2, if noticedType old && old != rtype then otherHosts m h else [])])
  let plain : Except Nat ResEffect :=
    if keyed.isEmpty then .error nvResConflict
    else
      let x := unregister n keyed h
      .ok ({ x.1 with resGen := (n.resGen + 1) % 2 ^ 32 }, (1, keyed.filter (fun y => y != h)) :: x.2)
  match n.holder with
  | some (o, t) =>
    if allHold t then
      if prkey = 0 then .ok (take every t) else plain
    else if prkey = 0 then .error nvInvalidField
    else if keyed.contains o then .ok (take (keyed.filter (fun y => y != h)) t)
    else plain
  | none => plain

/-- Reservation Acquire. -/
def acquireEffect (n : Ns) (h : BitVec 128) (action : BitVec 3) (ignoreKey : Bool) (rtype : Byte) (crkey prkey : Word64) :
    Except Nat ResEffect :=
  if ignoreKey ∨ 2 < action.toNat ∨ rtype.toNat = 0 ∨ 6 < rtype.toNat then .error nvInvalidField
  else if !registrantWith n h crkey then .error nvResConflict
  else if action = 0 then
    match n.holder with
    | none => .ok ({ n with holder := some (h, rtype.toNat) }, [])
    | some (_, t) => if holds n h && t == rtype.toNat then .ok (n, []) else .error nvResConflict
  else preemptEffect n h rtype.toNat prkey

/-- Reservation Release. -/
def releaseEffect (n : Ns) (h : BitVec 128) (action : BitVec 3) (ignoreKey : Bool) (rtype : Byte) (crkey : Word64) :
    Except Nat ResEffect :=
  if ignoreKey ∨ 1 < action.toNat then .error nvInvalidField
  else if !registrantWith n h crkey then .error nvResConflict
  else if action = 1 then
    .ok ({ n with registrants := [], holder := none, resGen := (n.resGen + 1) % 2 ^ 32 }, [(3, otherHosts n h)])
  else
    match n.holder with
    | none => .ok (n, [])
    | some (_, t) =>
      if !holds n h then .ok (n, [])
      else if t ≠ rtype.toNat then .error nvInvalidField
      else .ok ({ n with holder := none }, if noticedType t then [(2, otherHosts n h)] else [])

/-- The namespace of a reservation command, after authority and state (R108: authority first). -/
def resNs (c : NvmeCmd) (s : State) : Except Nat Ns :=
  match queueCheck s c.ctx false false with
  | some e => .error e
  | none =>
    match nsFor s c.ctx c.nsid.toNat attached with
    | none => .error nvInvalidNs
    | some n => match nsBusy s n with
      | some e => .error e
      | none => .ok n

/-- The checks of a reservation command. -/
def checkRes (c : NvmeCmd) (f : Ns → BitVec 128 → Except Nat ResEffect) (s : State) : Option Nat :=
  match resNs c s with
  | .error e => some e
  | .ok n => match f n (hostOf s c.ctx) with
    | .error e => some e
    | .ok _ => none

/-- A reservation change: one mutation with one stamp at its namespace's shard (R107). -/
def actRes (op : Nat) (c : NvmeCmd) (f : Ns → BitVec 128 → Except Nat ResEffect) (s : State) : State :=
  match resNs c s with
  | .error _ => s
  | .ok n =>
    match f n (hostOf s c.ctx) with
    | .error _ => s
    | .ok (m, notes) =>
      let (st, s1) := sequence n.shard (putNs m s)
      let s2 := notes.foldl (fun acc x => noticeRes m x.1 x.2 acc) s1
      finishNv op c st .isProtected n.shard [] 0 (chargeUnits n.tenant 0 (geomData n.geometry) true s2)

/-- Reservation Register when admitted. -/
def runResRegister (c : NvmeCmd) (action : BitVec 3) (ignoreKey : Bool) (cptpl : BitVec 2) (crkey nrkey : Word64) (ingress : Nat)
    (s : State) : State :=
  let f (n : Ns) (h : BitVec 128) : Except Nat ResEffect := registerEffect n h action ignoreKey cptpl crkey nrkey
  runNv 0x0D c ingress (checkRes c f) (actRes 0x0D c f) s

/-- RESERVATION_REGISTER (R108). -/
def execReservationRegister (c : NvmeCmd) (action : BitVec 3) (ignoreKey : Bool) (cptpl : BitVec 2) (crkey nrkey : Word64) (s : State) :
    Host.Outcome State Fault Refusal :=
  .next (nvArrive (.reservationRegister c action ignoreKey cptpl crkey nrkey) 0x0D c
    (checkRes c (fun n h => registerEffect n h action ignoreKey cptpl crkey nrkey))
    (runResRegister c action ignoreKey cptpl crkey nrkey) s)

/-- The extended reservation status of a namespace: a header, then an entry for each controller of a registrant, or one of controller
0xFFFF for a registrant with none. -/
def resReport (s : State) (n : Ns) : Flds :=
  let entry (cntlid : Nat) (r : Registrant) : Flds :=
    layout 64 [(0, 2, cntlid), (2, 1, if holds n r.host then 1 else 0), (8, 8, r.key.toNat), (16, 16, r.host.toNat)]
  let ents := (n.registrants.map (fun r =>
    let ks := s.block.ctrls.filter (fun k => k.tenant == n.tenant && !k.discovery && k.hostId == r.host)
    if ks.isEmpty then [entry 0xFFFF r] else ks.map (fun k => entry k.cntlid r))).flatten
  layout 64 [(0, 4, n.resGen), (4, 1, (n.holder.map Prod.snd).getD 0), (5, 2, ents.length), (9, 1, if n.ptpl then 1 else 0)] ++ ents.flatten

/-- Reservation Report when admitted. -/
def runResReport (c : NvmeCmd) (ingress : Nat) (s : State) : State :=
  runNv 0x0E c ingress (checkRes c (fun n _ => .ok (n, []))) (fun s => match resNs c s with
    | .ok n => nvDone c.ctx c.cid 0x0E 0 0 (resReport s n) s
    | .error _ => s) s

/-- RESERVATION_REPORT (R108). -/
def execReservationReport (c : NvmeCmd) (s : State) : Host.Outcome State Fault Refusal :=
  .next (nvArrive (.reservationReport c) 0x0E c (checkRes c (fun n _ => .ok (n, []))) (runResReport c) s)

/-- Preempt and abort: the commands that wait for admission of hosts unregistered are aborted. -/
def abortHosts (n : Ns) (hosts : List (BitVec 128)) (s : State) : State :=
  let hit (w : Waiting) : Bool := (hostCmd w.cmd).any (fun x => x.nsid == some n.nsid && meterOf s x.ctx == n.tenant && hosts.contains (hostOf s x.ctx))
  let dead := s.block.waiting.filter hit
  dead.foldl (fun acc w => (hostCmd w.cmd).elim acc (fun x => nvDone x.ctx x.tag 0 nvAborted 0 [] acc))
    { s with block := { s.block with waiting := s.block.waiting.filter (fun w => !hit w) } }

/-- The effect of Reservation Acquire: the reservation's own, and a preempt and abort also aborts the commands that wait of the hosts it preempts
(R108). -/
def actAcquire (c : NvmeCmd) (action : BitVec 3) (f : Ns → BitVec 128 → Except Nat ResEffect) (s : State) : State :=
  let s1 := actRes 0x11 c f s
  match action.toNat, resNs c s with
  | 2, .ok n => match f n (hostOf s c.ctx) with
    | .ok (m, _) => abortHosts n ((otherHosts n (hostOf s c.ctx)).filter (fun h => !registered m h)) s1
    | .error _ => s1
  | _, _ => s1

/-- Reservation Acquire when admitted. -/
def runResAcquire (c : NvmeCmd) (action : BitVec 3) (ignoreKey : Bool) (rtype : Byte) (crkey prkey : Word64) (ingress : Nat) (s : State) : State :=
  let f (n : Ns) (h : BitVec 128) : Except Nat ResEffect := acquireEffect n h action ignoreKey rtype crkey prkey
  runNv 0x11 c ingress (checkRes c f) (actAcquire c action f) s

/-- RESERVATION_ACQUIRE (R108). -/
def execReservationAcquire (c : NvmeCmd) (action : BitVec 3) (ignoreKey : Bool) (rtype : Byte) (crkey prkey : Word64) (s : State) :
    Host.Outcome State Fault Refusal :=
  .next (nvArrive (.reservationAcquire c action ignoreKey rtype crkey prkey) 0x11 c
    (checkRes c (fun n h => acquireEffect n h action ignoreKey rtype crkey prkey))
    (runResAcquire c action ignoreKey rtype crkey prkey) s)

/-- Reservation Release when admitted. -/
def runResRelease (c : NvmeCmd) (action : BitVec 3) (ignoreKey : Bool) (rtype : Byte) (crkey : Word64) (ingress : Nat) (s : State) : State :=
  let f (n : Ns) (h : BitVec 128) : Except Nat ResEffect := releaseEffect n h action ignoreKey rtype crkey
  runNv 0x15 c ingress (checkRes c f) (actRes 0x15 c f) s

/-- RESERVATION_RELEASE (R108). -/
def execReservationRelease (c : NvmeCmd) (action : BitVec 3) (ignoreKey : Bool) (rtype : Byte) (crkey : Word64) (s : State) :
    Host.Outcome State Fault Refusal :=
  .next (nvArrive (.reservationRelease c action ignoreKey rtype crkey) 0x15 c
    (checkRes c (fun n h => releaseEffect n h action ignoreKey rtype crkey))
    (runResRelease c action ignoreKey rtype crkey) s)

end Machine
end Sys2Proof
end

