-- ==== Sys2Proof/Machine/CeremonyOps.lean ====
section
/-!
DEFINITION. Quorum ceremonies (02 R38 to R42; 19 R470): what a ceremony's statement holds, its target, its end, and how an act that
runs only as its body is entered.
-/
namespace Sys2Proof
namespace Machine

/-- The opcode of an act (19 Table 19.3). -/
def actOp : QAct → Nat
  | .setChange _ _ _ _ => 0x0204
  | .timeAuth _ => 0x0205
  | .escrowImport _ _ _ => 0x0206
  | .custodyCertify _ => 0x0207
  | .tenantErase _ _ => 0x0303
  | .fwStage _ => 0x0501
  | .debugUnlock _ => 0x0504
  | .ovlApply _ => 0x0601
  | .ovlRemove _ => 0x0602
  | .baseLoad _ => 0x0603
  | .sanitiseStart => 0x0803
  | .hitchOpen _ => 0x0901
  | .hitchClose _ => 0x0902
  | .hitchAbort _ => 0x0903
  | .uopRelease _ _ => 0x0A03
  | .bad op => op.toNat

/-- A public key pair of Ed25519 and ML-DSA-87 as it travels (02 R33). -/
def keyFld (k : Digest) : Fld := (2624, Config.publicKey k)

/-- Bytes 0 to 2,711 of a custody certificate issued at a stamp (09 Table 9.1). -/
def certHead (c : CertBody) (issued : KStamp) : Flds :=
  [(4, 0x43435655), (2, c.version.toNat), (2, c.epoch.toNat), (32, c.module.toNat)] ++ kstampFlds issued ++
    [(32, c.previous.toNat), keyFld c.key]

/-- A UOP command header and name (05 Table 5.1, R120). -/
def capsuleFlds (c : Capsule) : Flds :=
  [(1, c.hdr.version.toNat), (1, c.hdr.opcode.toNat), (1, c.hdr.tag.toNat), (1, c.hdr.flags.toNat), (2, c.hdr.coll.toNat),
   (2, c.hdr.nameLen.toNat), (4, c.hdr.bodyLen.toNat), (1, c.hdr.addressing.toNat), (3, c.hdr.rsvA.toNat), (8, c.hdr.handle.toNat),
   (8, c.hdr.rsvB.toNat), (32, c.hdr.mac.toNat), (c.name.length, leValue c.name), (c.namePad.length, leValue c.namePad)]

/-- The body of an act (19 Table 19.3). -/
def actFlds (s : State) : QAct → Flds
  | .setChange k n keys escrow =>
    [(1, k.toNat), (1, n.toNat), (6, 0)] ++ keys.map keyFld ++ (escrow.map (fun e => (1600, Config.publicKey e))).toList
  | .timeAuth k => [keyFld k]
  | .escrowImport e w _ => [(32, e.toNat), (32, w.toNat)]
  | .custodyCertify c => certHead c s.fix.issued
  | .tenantErase t k => [(2, t.toNat), (2, 0), (32, k.toNat)]
  | .fwStage d => [(32, d.toNat)]
  | .debugUnlock n => [(32, n.toNat)]
  | .ovlRemove c => [(1, c.toNat), (7, 0)]
  | .sanitiseStart => [(8, 0)]
  | .hitchOpen p => pairingFlds p
  | .hitchClose id => [(16, id.toNat)]
  | .hitchAbort id => [(16, id.toNat)]
  | .uopRelease c b => capsuleFlds c ++ [(1, b.hold.toNat), (7, b.rsv.toNat)]
  | .ovlApply _ | .baseLoad _ | .bad _ => []

/-- The partner is told of an open ceremony, with the body of its act (02 R42; 18 Table 18.1). -/
def tellCeremony (m : Ceremony) (s : State) : State :=
  pairState 8 ([(32, m.id.toNat), (2, m.opcode), (32, m.bodyDig.toNat), (32, m.nonce.toNat)] ++ cstampFlds m.stamp ++ shelfFlds m.expiry ++ actFlds s m.act) s

/-- The SHA3-256 of an act's body (02 R39); a record or an image carries its own digest (20 R481). -/
def actDigest (s : State) : QAct → Digest
  | .ovlApply r => r.digest
  | .baseLoad b => b.digest
  | a => Config.sha3 (encodeFlds (actFlds s a))

/-- What an act touches (02 R39, R41; 05 R127, R146). -/
def actTarget : QAct → Target
  | .setChange _ _ _ _ => .custodianSet
  | .timeAuth _ => .timeAuthority
  | .escrowImport _ _ _ => .keys
  | .custodyCertify _ => .custodyKey
  | .tenantErase t _ => .tenant t.toNat
  | .fwStage _ => .firmware
  | .debugUnlock _ => .debug
  | .ovlApply r => .overlay r.cls.toNat
  | .ovlRemove c => .overlay c.toNat
  | .baseLoad _ => .baseImage
  | .hitchOpen p => .hitch p.id
  | .hitchClose id => .hitch id
  | .hitchAbort id => .hitch id
  | .uopRelease c _ => .locks c.hdr.coll.toNat (if c.hdr.addressing = 0 then 0 else c.hdr.mac)
  | .sanitiseStart | .bad _ => .shelf

/-- The state stamp of a target: the commit stamp of its last change (02 R39). -/
def targetStamp (s : State) : Target → CStamp
  | .tenant n => ((tenantAt s n).map (fun t => t.stamp)).getD noStamp
  | .locks coll mac =>
    ((s.obj.locks.find? (fun l => l.coll == coll && l.mac == (if mac = 0 then none else some mac))).map (fun l => l.stamp)).getD noStamp
  | t => (s.auth.targets.lookup t).getD noStamp

/-- A target changes: its state stamp is the next one of the custody shard (02 R39; 03 R85). -/
def touch (t : Target) (s : State) : State :=
  let (st, s1) := sequence (custodyShard s) s
  { s1 with auth := { s1.auth with targets := (t, st) :: s1.auth.targets.filter (fun x => x.1 != t) } }

/-- A ceremony statement (02 R39). -/
def statementFlds (op : Nat) (body nonce : Digest) (stamp : CStamp) (expiry : Nat) : Flds :=
  [(2, op), (32, body.toNat), (32, Config.moduleDigest.toNat), (32, nonce.toNat)] ++ cstampFlds stamp ++ shelfFlds expiry

/-- The open ceremony of a statement. -/
def ceremonyAt (s : State) (id : Digest) : Option Ceremony := s.auth.ceremonies.find? (fun c => c.id == id)

/-- Closes a ceremony and tells the partner (02 R39, R42). -/
def closeCeremony (id : Digest) (s : State) : State :=
  pairState 10 [(32, id.toNat)] { s with auth := { s.auth with ceremonies := dropIf (fun c => c.id == id) s.auth.ceremonies } }

/-- Signatures of a ceremony that count: those of keys in force (02 R38). In the first-use form every key named must sign, and k of a
set that survives (24 R541). -/
def countedSigners (s : State) (c : Ceremony) : List Digest :=
  match c.act with
  | .setChange _ _ keys _ =>
    if s.boot.firstUse && !s.boot.enrolled then c.signers.filter (fun k => keys.contains k || s.auth.custKeys.contains k)
    else c.signers.filter (fun k => s.auth.custKeys.contains k)
  | _ => c.signers.filter (fun k => s.auth.custKeys.contains k)

/-- The signatures reach the quorum (02 R38, R39; 24 R541). -/
def quorumReached (s : State) (c : Ceremony) : Bool :=
  let have_ := countedSigners s c
  let old := (have_.filter (fun k => s.auth.custKeys.contains k)).length
  match c.act with
  | .setChange _ _ keys _ =>
    if s.boot.firstUse && !s.boot.enrolled then
      keys.all (fun k => have_.contains k) && (s.auth.custKeys.isEmpty || decide (s.auth.quorumK ≤ old))
    else decide (s.auth.quorumK ≤ old)
  | _ => decide (s.auth.quorumK ≤ old)

/-- The place of a call whose signature the partner forwarded: its answer goes back over the pair link (R42; log entry 118). -/
def matePlace : Nat := 64

/-- The place of an act that resumes a recorded phase: no connection takes its answer (04 R115; 05 R146). -/
def noPlace : Nat := 65

/-- A call that came over the pair link, or that nothing answers. -/
def mateCall (place : Nat) : Call := { mbx := place, tag := 0, counter := 0, sigOk := true, rsv := 0 }

/-- The answer to a signature that the partner forwarded (R42). -/
def answerMate (id key : Digest) (status : Nat) (body : Flds) (s : State) : State :=
  pairState 17 ([(32, id.toNat), (32, key.toNat), (2, status)] ++ body) s

/-- The message that carries an act's response, to the connection of the k-th signer or to the partner's module (R42; 19 R470). -/
def qMsg (q : QCtx) (status : Nat) (body : Flds) : Msg :=
  if q.call.mbx = matePlace then
    msg .pair .pairState 17 0 0 ([(32, q.id.toNat), (32, (q.signers.getLast?.getD 0).toNat), (2, status)] ++ body)
  else replyMsg q.call q.rop status body

/-- The act's response waits (03 R86; 02 R51). -/
def qHeld (q : QCtx) (h : Held) (s : State) : State :=
  if q.call.mbx = matePlace then hold h s else if (connAt s q.call.mbx).isSome then replyHeld q.call h s else s

/-- The act is answered, at the module whose connection took the k-th signature, while that connection stands (R42; 19 R470). An act that was
performed is answered 64 ns of Shelf Time after the custody shard's last stamp (03 R86). -/
def qReply (q : QCtx) (status : Nat) (body : Flds) (s : State) : State :=
  let t := stampPassed s [custodyShard s]
  if status = sOk ∧ now s < t then qHeld q (heldAt (qMsg q status body) t) s
  else if q.call.mbx = matePlace then answerMate q.id (q.signers.getLast?.getD 0) status body s
  else if (connAt s q.call.mbx).isSome then reply q.call q.rop status body s else s

/-- A quorum act has been performed: its entry in the chain of the one tenant it touches, or the shelf chain, and a checkpoint (09 R247,
R253, Table 9.4; 23 Table 23.1). -/
def quorumDone (q : QCtx) (chain : Nat) (st : CStamp) (s : State) : State :=
  raiseEvent 0xB81 noInst [(16, 0)] (signCheckpoint (enter chain 0x0040 st
    ([(2, q.op), (1, q.signers.length), (5, 0), (32, q.body.toNat), (32, q.id.toNat)] ++ q.signers.map (fun k => (32, k.toNat))) s))

/-- The ceremony of a quorum act, its quorum reached, closes; the act runs unless its target has changed since the statement (02 R39,
R41). -/
def endCeremony (c : Call) (rop : Nat) (m : Ceremony) (run : QCtx → State → State) (s : State) : State :=
  let s1 := closeCeremony m.id s
  let q : QCtx := { call := c, rop := rop, op := m.opcode, id := m.id, body := m.bodyDig,
                    stmt := statementFlds m.opcode m.bodyDig m.nonce m.stamp m.expiry, signers := countedSigners s m }
  if targetStamp s m.target != m.stamp then qReply q eConflict [] s1 else run q s1

/-- A quorum act: sent directly it is answered E_QUORUM; as the body of a ceremony whose quorum is reached it runs (19 R470). UOP_RELEASE
names an object or a collection, which decides how its refusal is answered (R37). -/
def quorumCmd (c : Call) (via : Via) (act : QAct) (run : QCtx → State → State) (s : State) : State :=
  let op := actOp act
  mailboxCmd c op (match act with | .uopRelease _ _ => .object | _ => .nothing) isCustodian (fun _ s =>
    match via with
    | .direct => reply c op eQuorum [] s
    | .ceremony id =>
      match ceremonyAt s id with
      | none => reply c op eQuorum [] s
      | some m => if m.act == act && quorumReached s m then endCeremony c op m run s else reply c op eQuorum [] s) s

end Machine
end Sys2Proof
end

