-- ==== Sys2Proof/Machine/HitchRun.lean ====
section
/-!
DEFINITION. The two ends of a hitch at work: trigger entries, streams, passes and batches of the source, arrivals, whipping and receipts
of the target, suspension and ending (11 R284 to R300; 13 Table 13.4).
-/
namespace Sys2Proof
namespace Machine

/-! ## Trigger entries (13 R347, Table 13.4) -/

/-- The lowest trigger entries that are free. -/
def freeTrigs (s : State) (k : Nat) : List Nat :=
  ((List.range (s.reg.triggers.length + k)).filter (fun n => !(s.reg.triggers.any (fun t => t.num == n)))).take k

/-- A work request without operands of its own. -/
def work (kind : Nat) (note : Bool) : WorkReq := { kind := kind, fromNote := note, args := [] }

/-- An armed entry of a stream: it matches the stream in bits 13 to 8 of the immediate value. -/
def streamTrig (num ctx gen stream threshold order : Nat) (w : List WorkReq) (chain : Option Nat) : TrigEntry :=
  { num := num, ctx := ctx, gen := gen, matchVal := BitVec.ofNat 32 ((stream - 1) * 256), mask := 0x3F00, threshold := threshold,
    noted := [], remaining := 0, state := .armed, work := w, at_ := 0, chain := chain, last := 0, faultReq := none, faultCode := 0,
    order := order }

/-- Adds trigger entries; TRN_TRIG_ENTRIES is their number. -/
def addTrigs (l : List TrigEntry) (s : State) : State :=
  { s with reg := { s.reg with triggers := s.reg.triggers ++ l, armed := s.reg.armed + l.length } }

/-- Arms the two entries of a target's stream: slot arrival, chained to credit (Table 13.4). -/
def armTarget (c : Ctx) (stream : Nat) (s : State) : State :=
  match freeTrigs s 2 with
  | [a, b] =>
    addTrigs [streamTrig a c.num c.gen stream 1 (s.reg.armed + 1) [work 3 true, work 2 true, work 4 true, work 6 true] (some b),
              streamTrig b c.num c.gen stream 16 (s.reg.armed + 2) [work 5 false] none] s
  | _ => s

/-- Arms the entry of a source's stream: credit arrival (Table 13.4). -/
def armSource (c : Ctx) (stream : Nat) (s : State) : State :=
  match freeTrigs s 1 with
  | [a] => addTrigs [streamTrig a c.num c.gen stream 1 (s.reg.armed + 1) [work 1 true, work 2 false, work 5 true] none] s
  | _ => s

/-- An internal notification to the entry of a stream (13 R349, Table 13.4). -/
def noteStream (ctx stream : Nat) (s : State) : State :=
  match s.reg.triggers.find? (fun t => t.ctx == ctx && t.matchVal == BitVec.ofNat 32 ((stream - 1) * 256)) with
  | some t => chainNote t s
  | none => s

/-! ## Streaming and suspension (R284, R285; 13 Table 13.1, R342) -/

/-- The stream numbers of a hitch. -/
def streamsOf (h : Hitch) : List Nat := (List.range h.record.streams.toNat).map (fun k => k + 1)

/-- Two custody stamps allow the hitch to run: no flag on either, and at most 1 s between them (R284). -/
def stampsAgree (s : State) (k : StampIn) : Bool :=
  let m := kstamp s
  let a := k.sec * 1000000000 + k.ns
  let b := m.sec * 1000000000 + m.ns
  k.flags == 0 && m.flags == 0 && decide (a ≤ b + 1000000000) && decide (b ≤ a + 1000000000)

/-- The hitch is SUSPENDED: the target's region is revoked, the source's entries are freed (13 R342). -/
def suspendHitch (id : BitVec 128) (s : State) : State :=
  match hitchAt s id with
  | none => s
  | some h =>
    if h.state != .streaming && h.state != .closing then s
    else
      let s1 := mapHitch id (fun x => { x with state := .suspended, paced := [] }) s
      match h.ctx with
      | none => s1
      | some n =>
        if h.source then { s1 with reg := { s1.reg with triggers := dropIf (fun t => t.ctx == n) s1.reg.triggers } }
        else revokeRegion (mono s) n s1

/-- A source stream with an object in flight and a slot granted is told so (Table 13.4). -/
def kickStream (id : BitVec 128) (stream : Nat) (s : State) : State :=
  match hitchAt s id with
  | some h =>
    match h.ctx with
    | some n =>
      if h.flight.any (fun f => f.stream == stream) && h.credits.any (fun c => c.1 == stream) then noteStream n stream s else s
    | none => s
  | none => s

/-- The source sends the notices that waited for a session, in order (R291, R292). -/
def flushOwed (id : BitVec 128) (s : State) : State :=
  match hitchAt s id with
  | none => s
  | some h => h.owed.foldl (fun acc n => sendMyavo id n.1 n.2 acc) (putHitch { h with owed := [] } s)

/-- The hitch streams from now: the target registers its region where the pool holds it, arms its entries and grants every slot; the
source arms its entries and sends the notices that waited (R285, R288, R289; 13 Table 13.1). -/
def startStreaming (id : BitVec 128) (s : State) : State :=
  match hitchAt s id with
  | none => s
  | some h =>
    match h.ctx.bind (ctxAt s) with
    | none => s
    | some c =>
      let s1 := putHitch { h with state := if h.closing then .closing else .streaming, credits := [], landed := [] } s
      if h.source then flushOwed id ((streamsOf h).foldl (fun acc k => armSource c k acc) s1)
      else
        let size := h.record.streams.toNat * 16777216
        if (regionAt s c.num).isSome then s
        else if landGib s * 1073741824 < landUsed s + size then raise stRG 0 noInst s
        else
          let r : Region := { owner := c.num, tenant := 0xFFFF, roce := false, base := landBase c.num, size := size, phase := .active,
                              revoked := 0, pushes := [] }
          let s2 := (streamsOf h).foldl (fun acc k => armTarget c k acc) (putRegion r s1)
          (streamsOf h).foldl (fun acc k => sendMyavo id 0x20 [(2, k), (6, 0), (32, 2 ^ 256 - 1)] acc) s2

/-! ## The source: passes, objects, chunks (R286 to R289, R293) -/

/-- Objects of a tenant in flight. -/
def flightsOf (h : Hitch) (t : Nat) : Nat := (h.flight.filter (fun f => scopeTenant h f.line.srcColl == t)).length

/-- A tenant's objects may start: its batch has room, at most 8 batches wait for BATCH_ACK, and no receipt that is to be sent again is
still to come (R293, R298). -/
def mayStartObj (h : Hitch) (t : Nat) : Bool :=
  decide ((openBatch h t).lines.length + flightsOf h t < 256) &&
  decide ((h.batches.filter (fun b => b.tenant == t && b.closed && !b.acked)).length < 8) &&
  !h.batches.any (fun b => b.receipted && !b.acked)

/-- Sends the newest checkpoint if it covers every excerpt sent since the last (R295, Table 11.4). -/
def sendCover (id : BitVec 128) (s : State) : State :=
  match hitchAt s id, s.fix.current.bind (fun l => l.checkpoints.getLast?) with
  | some h, some c =>
    if h.uncovered.isEmpty || !(h.uncovered.all (fun x => c.heads.any (fun y => y.1 == x.1 && decide (x.2 ≤ y.2.2.1)))) then s
    else sendMyavo id 0x14 (checkpointFlds c) (putHitch { h with uncovered := [] } s)
  | _, _ => s

/-- Closes the batches of a source that are full, or whose pass has nothing left (R293). -/
def closeBatches (id : BitVec 128) (s : State) : State :=
  match hitchAt s id with
  | none => s
  | some h =>
    let idle (t : Nat) : Bool := flightsOf h t == 0 && !h.todo.any (fun x => scopeTenant h x.1 == t)
    let due (b : HBatch) : Bool :=
      !b.closed && !b.lines.isEmpty && (decide (256 ≤ b.lines.length) || idle b.tenant) &&
      decide ((h.batches.filter (fun x => x.tenant == b.tenant && x.closed && !x.acked)).length < 8)
    (h.batches.filter due).foldl (fun acc b =>
      let shut (x : Hitch) : Hitch := putBatch { b with closed := true } x
      sendMyavo id 0x21 [(2, b.tenant), (6, 0), (8, b.number), (4, b.lines.length), (4, 0)]
        (tellHitch id (mapHitch id shut (sendCover id acc)))) s

/-- The MAC that an entry of an object names, at offset 8 of its body (09 Table 9.4). -/
def entryMac (e : LyEntry) : Nat := numAt (encodeFlds e.body) 8 32

/-- The lanyards of this shelf that this module can read, oldest first (09 R255). -/
def shelfLanyards (s : State) : List Lanyard := s.fix.past ++ s.pair.lanyard.toList ++ s.fix.current.toList

/-- The excerpts of an object: its Ingest entry, every Lock, Release and Expiry entry and its latest Fixity entry; of more than 64 the
Ingest entry and the 63 newest of the rest (R287). -/
def excerptsOf (s : State) (tenant : Nat) (mac : Digest) : List LyEntry :=
  let mine := ((shelfLanyards s).map (fun l => l.entries.filter (fun e => e.chain == tenant && entryMac e == mac.toNat))).flatten
  let ing := (mine.filter (fun e => e.type == 0x0010)).take 1
  let fx := ((mine.filter (fun e => e.type == 0x0013)).getLast?).toList
  let rest := mine.filter (fun e => e.type == 0x0014 || e.type == 0x0015 || e.type == 0x0016 || fx.contains e)
  ing ++ rest.drop (rest.length - 63)

/-- The last checkpoints of the lanyards other than the one in use that hold some of the excerpts: they cover them (Table 11.4). -/
def oldCovers (s : State) (ex : List LyEntry) : List Checkpoint :=
  ((s.fix.past ++ s.pair.lanyard.toList).filter (fun l => ex.any (fun e => l.entries.contains e))).filterMap (fun l => l.checkpoints.getLast?)

/-- Starts an object on a stream: OBJ_BEGIN, its excerpts, its flight (R286, R287). A lost object is ended at once (R290). -/
def startObj (id : BitVec 128) (stream : Nat) (o : Obj) (w : Whip) (s : State) : State :=
  match hitchAt s id with
  | none => s
  | some h =>
    let t := scopeTenant h o.coll
    let dst := (h.collMap.lookup o.coll).getD 0
    let ex := excerptsOf s t o.mac
    let locks := locksAt s o.coll (some o.mac)
    let line : ManifestLine :=
      { srcColl := o.coll, dstColl := dst, result := 0, srcMac := o.mac, dstMac := 0, size := w.size,
        srcF3 := commitF3 o.mac w.salt w.sha2 w.sha3 w.size, srcF2 := commitF2 o.mac w.salt w.sha2 w.sha3 w.size, dstF3 := 0, dstF2 := 0,
        srcPos := ((ex.head?).map (fun e => e.pos)).getD 0, dstPos := 0 }
    let f : Flight := { stream := stream, part := 0, off := 0, line := line }
    let pad (b : Bytes) : Fld := (roundUp b.length 8, leValue b)
    let body : Flds :=
      [(2, o.coll), (2, dst), (2, stream), (2, 0), (32, o.mac.toNat)] ++ cstampFlds w.stamp ++ kstampFlds w.custody ++
      [(8, w.size), (4, w.parts), (2, o.name.length), (2, o.metadata.length), (32, w.sha2.toNat), (32, w.sha3.toNat), (1, locks.length),
       (1, ex.length), (6, 0), pad o.name, pad o.metadata] ++ (locks.map lockFlds).flatten
    let h1 : Hitch := { h with flight := h.flight ++ [f], delivered := h.delivered ++ [(o.coll, o.mac, o.mac, w.stamp)],
                               uncovered := h.uncovered ++ (ex.filter (fun e => s.fix.current.any (fun l => l.entries.contains e))).map
                                 (fun e => (e.chain, e.pos)) }
    let s0 := (oldCovers s ex).foldl (fun acc c => sendMyavo id 0x14 (checkpointFlds c) acc) (tellHitch id (putHitch h1 s))
    let s1 := sendMyavo id 0x10 body s0
    let s2 := ex.foldl (fun acc e =>
      sendMyavoOn 1 0 id 0x13 0 [(2, e.chain), (6, 0), (8, e.pos)] (entryBytes e) acc) s1
    if o.lost then abortFlight id f 1 s2 else kickStream id stream s2

/-- Starts the next object of the pass that may start, on a free stream; objects deleted before their turn are passed over (R286);
in Keep-safe service none starts (21 R494). -/
def startNext (id : BitVec 128) (s : State) : State :=
  match hitchAt s id with
  | none => s
  | some h =>
    if (h.state != .streaming && h.state != .closing) || s.pwr.keepSafe then s
    else
      let there (x : Nat × Digest) : Bool := (sealedAt s x.1 x.2).isSome
      let todo := h.todo.filter there
      let s1 := putHitch { h with todo := todo } s
      match (streamsOf h).find? (fun k => !h.flight.any (fun f => f.stream == k)),
            todo.find? (fun x => mayStartObj h (scopeTenant h x.1)) with
      | some k, some x =>
        match sealedAt s x.1 x.2 with
        | some o =>
          match o.whip with
          | some w => startObj id k o w (putHitch { h with todo := todo.erase x } s1)
          | none => s1
        | none => s1
      | _, _ => s1

/-- Starts what may start on every free stream, and closes the batches that are due. -/
def pumpHitch (id : BitVec 128) (s : State) : State :=
  closeBatches id ((List.range 64).foldl (fun acc _ => startNext id acc) s)

/-- Bytes of a value in one OBJ_DATA (Table 11.4). -/
def chunkMax : Nat := 65472

/-- The instant from which the next value bytes may leave, after so many have left: all streams of a hitch together keep the record's rate,
in MB/s (R288, Table 11.1). -/
def paceAfter (h : Hitch) (bytes : Nat) (s : State) : Nat :=
  max h.paceAt (mono s) + ceilDiv (bytes * 1000 * nsU) (max 1 h.record.rate.toNat)

/-- Sends the next chunk of a stream's object into a granted slot, if there is one and the pace allows it (R288). -/
def sendChunk (id : BitVec 128) (stream : Nat) (s : State) : State :=
  match (hitchAt s id).filter (fun h => decide (h.paceAt ≤ mono s)) with
  | none => s
  | some h =>
    match h.flight.find? (fun f => f.stream == stream), h.credits.find? (fun c => c.1 == stream) with
    | some f, some slot =>
      match sealedAt s f.line.srcColl f.line.srcMac with
      | none => s
      | some o =>
        let p := o.parts[f.part]?
        let all := (p.map (fun x => x.data)).getD []
        let data := (all.drop f.off).take chunkMax
        let lastPart := decide (all.length ≤ f.off + data.length)
        let lastObj := lastPart && decide (o.parts.length ≤ f.part + 1)
        let flags := (if lastPart && p.isSome then 1 else 0) + (if lastObj then 2 else 0)
        let f1 : Flight := if lastPart then { f with part := f.part + 1, off := 0 } else { f with off := f.off + data.length }
        let rest := dropIf (fun x => x.stream == stream) h.flight
        let h1 : Hitch := { h with credits := h.credits.erase slot, flight := if lastObj then rest else rest ++ [f1],
                                   paceAt := paceAfter h data.length s }
        let h2 := if lastObj then addLine (scopeTenant h o.coll) f.line [] h1 else h1
        let ext := rangeExtents (((o.parts.take f.part).map (fun x => x.data.length)).sum + f.off) data.length o.parts
        let s1 := (mediaStrips s ext).foldl (fun acc x =>
          match (rowAt acc x.1 x.2.1).bind (fun w => stripMember acc w x.2.2) with
          | some m => (issueFlow m .hitch (.rowRead x.1 x.2.1 x.2.2) 2 (rowLba acc x.1 x.2.1) 16 acc).2
          | none => acc) (putHitch h2 s)
        let s2 := sendMyavoOn 3 (slot.2 + (stream - 1) * 256) id 0x11 stream
          [(4, (p.map (fun x => x.num)).getD 0), (4, flags), (8, f.off), (4, data.length), (4, 0)] data s1
        if lastObj then pumpHitch id s2 else s2
    | _, _ => s

/-- A stream has a chunk and a slot for it, and must wait for the pace of its hitch (R288). -/
def paceWaits (h : Hitch) (stream : Nat) (s : State) : Bool :=
  h.flight.any (fun f => f.stream == stream) && h.credits.any (fun c => c.1 == stream) && decide (mono s < h.paceAt)

/-- The POST of a source's stream: every chunk it has a slot for and the pace allows (Table 13.4; R288). -/
def postChunks (id : BitVec 128) (stream : Nat) (s : State) : State :=
  let s1 := (List.range 256).foldl (fun acc _ => sendChunk id stream acc) s
  mapHitch id (fun h => { h with paced := h.paced.erase stream ++ (if paceWaits h stream s1 then [stream] else []) }) s1

/-- The final pass is over and every batch acknowledged: PASS_END (R300). -/
def endPass (id : BitVec 128) (s : State) : State :=
  match hitchAt s id with
  | none => s
  | some h =>
    if h.source && h.final && h.state == .closing && h.todo.isEmpty && h.flight.isEmpty && h.retry.isEmpty && h.batches.all (fun b => b.acked) then
      sendMyavo id 0x40 [(4, h.pass), (4, 0), (8, ((h.batches.map (fun b => b.lines.length)).sum))] s
    else s

/-! ## Ending (R300) -/

/-- A stream whose POST waited for the pace goes on, once its instant has come (R288). -/
def resumeStream (id : BitVec 128) (stream : Nat) (s : State) : State :=
  match (hitchAt s id).filter (fun h => decide (h.paceAt ≤ mono s)) with
  | none => s
  | some _ => endPass id (pumpHitch id (postChunks id stream s))

/-- The streams that waited for the pace of their hitch, the longest waiting first (R288). -/
def resumePaced (s : State) : State :=
  s.hitch.list.foldl (fun acc h => h.paced.foldl (fun a k => resumeStream h.record.id k a) acc) s

/-- Lines with result 1 or 4, of one tenant or of all. -/
def doneLines (h : Hitch) (t : Option Nat) : List ManifestLine :=
  (((h.batches.filter (fun b => t.all (fun x => x == b.tenant))).map (fun b => b.lines)).flatten).filter
    (fun l => l.result == 1 || l.result == 4)

/-- Objects with result 1 or 4 and their value bytes. -/
def doneFigures (h : Hitch) (t : Option Nat) : Nat × Nat := ((doneLines h t).length, ((doneLines h t).map (fun l => l.size)).sum)

/-- The tenants in scope, as the record numbers them. -/
def scopeTenants (h : Hitch) : List Nat := (h.record.scope.map (fun e => e.tenant.toNat)).eraseDups

/-- This shelf's number of a tenant in scope: the record's own on the source, the one with the key on the target (Table 11.1). -/
def localTenant (s : State) (h : Hitch) (t : Nat) : Nat :=
  if h.source then t
  else
    match h.record.scope.find? (fun e => e.tenant.toNat == t) with
    | some e => ((s.obj.tenants.find? (fun x => x.key == e.key)).map (fun x => x.num)).getD t
    | none => t

/-- A Close entry (Table 11.9). -/
def closeEntry (h : Hitch) (chain outcome : Nat) (fig : Nat × Nat) (leaf : Nat) (s : State) : Option LyEntry × State :=
  appendEntry chain 0x0067 noStamp [(16, h.record.id.toNat), (1, outcome), (7, 0), (8, fig.1), (8, fig.2), (32, leaf)] s

/-- Arrivals in progress end: the open objects of the hitch in its target collections are aborted, cause 1 (R298, R299). -/
def dropArrivals (id : BitVec 128) (s : State) : State :=
  match hitchAt s id with
  | none => s
  | some h =>
    let mine (o : Obj) : Bool := o.whip.isNone && o.source == .hitch && h.collMap.any (fun m => m.2 == o.coll)
    (s.obj.objs.filter mine).foldl (fun acc o => (collAt acc o.coll).elim acc (fun c => (abortObj c o 1 acc).2)) (putHitch { h with arrivals := [] } s)

/-- A hitch ends ABORTED: Close entries of outcome 2 in the shelf chain and each scope tenant's; its session closes (R300). -/
def abortHitch (id : BitVec 128) (s : State) : State :=
  match hitchAt s id with
  | none => s
  | some h =>
    let s1 := (scopeTenants h).foldl (fun acc t => (closeEntry h (localTenant acc h t) 2 (doneFigures h (some t)) 0 acc).2)
      (closeEntry h shelfChain 2 (doneFigures h none) 0 s).2
    let s2 := dropArrivals id (mapHitch id (fun x => { x with state := .aborted, flight := [], todo := [] }) s1)
    match h.ctx with
    | some n => closeCtx eSession n s2
    | none => s2

/-! ## The target: objects, locks, batches (R290 to R294) -/

/-- A lock that crosses is set unchanged; a stopper takes the later expiry where one stands; a hold that stands unchanged is kept and
noticed, kind 3 (R291; log entry 25). -/
def setCrossed (c : Coll) (srcMac : Digest) (mac : Option Digest) (l : LockIn) (s : State) : State :=
  let x : Lock := { num := l.num, expiry := l.expiry, reason := l.reason, issuer := l.issuer }
  let ls := locksAt s c.num mac
  match ls.find? (fun y => y.num == l.num) with
  | some y =>
    if isStopper y then if y.expiry < l.expiry then carryLock c mac x s else s
    else if y == x then enter c.tenant 0x0066 noStamp [(1, 3), (7, 0), (32, srcMac.toNat), (32, (mac.getD 0).toNat)] s
    else carryLock c mac { x with num := (freeHold ls).getD l.num } s
  | none => carryLock c mac x s

/-- The open object of an arrival (R290). -/
def arrivalObj (s : State) (a : Arrival) : Option (Coll × Obj) :=
  match collAt s a.begin_.dstColl, objAt s a.begin_.dstColl a.mac with
  | some c, some o => if a.fate = 0 ∧ o.whip.isNone then some (c, o) else none
  | _, _ => none

/-- The line of an arrival with a result. -/
def arrivalLine (a : Arrival) (result : Nat) : ManifestLine :=
  { srcColl := a.begin_.srcColl, dstColl := a.begin_.dstColl, result := result, srcMac := a.begin_.srcMac, dstMac := 0,
    size := a.begin_.size, srcF3 := a.begin_.srcF3, srcF2 := a.begin_.srcF2, dstF3 := 0, dstF2 := 0, srcPos := a.begin_.srcPos,
    dstPos := 0 }

/-- The target's fields of a line for an object that stands on it. -/
def landedLine (l : ManifestLine) (o : Obj) (w : Whip) (pos : Nat) : ManifestLine :=
  { l with dstMac := o.mac, dstF3 := commitF3 o.mac w.salt w.sha2 w.sha3 w.size, dstF2 := commitF2 o.mac w.salt w.sha2 w.sha3 w.size,
           dstPos := pos }

/-- The position of an object's Ingest entry. -/
def ingestPos (s : State) (tenant : Nat) (mac : Digest) : Nat :=
  entryPos (((shelfLanyards s).map (fun l => l.entries)).flatten.find? (fun e => e.chain == tenant && e.type == 0x0010 && entryMac e == mac.toNat))

/-- Ends an arrival with its line. -/
def endArrival (id : BitVec 128) (a : Arrival) (l : ManifestLine) (s : State) : State :=
  let upd (h : Hitch) : Hitch :=
    addLine (scopeTenant h a.begin_.srcColl) l a.rows { h with arrivals := dropIf (fun x => x.stream == a.stream) h.arrivals }
  tellHitch id (mapHitch id upd s)

/-- An open arrival whose object is not created leaves no object (R290). -/
def undoArrival (a : Arrival) (s : State) : State :=
  match arrivalObj s a with
  | some (c, o) => let q := sequence c.shard s; dropObj c o q.1 q.2
  | none => s

/-- The last byte of an object: both digests are compared; a match is whipped as SEAL does, with Ingest, Arrival and Excerpt entries and
its locks, a mismatch creates nothing (R290, R291). -/
def whipArrival (id : BitVec 128) (a : Arrival) (s : State) : State :=
  match hitchAt s id, arrivalObj s a with
  | some h, some (c, o) =>
    let v := objValue o
    if Config.sha256 v != a.begin_.sha2 || Config.sha3 v != a.begin_.sha3 then endArrival id a (arrivalLine a 2) (undoArrival a s)
    else
      let q := sequence c.shard s
      let r := sealObj c o q.1 q.2
      let s1 := r.2.2
      match (objAt s1 c.num o.mac).bind (fun x => x.whip) with
      | none => s1
      | some w =>
        let h3 := ((a.excerpts.find? (fun e => e.2.1 == a.begin_.srcPos)).map (fun e => Config.sha3 e.2.2)).getD 0
        let b := (openBatch h (scopeTenant h a.begin_.srcColl)).number
        let s2 := enter c.tenant 0x0061 q.1
          [(16, id.toNat), (8, b), (32, h.peerLanyard.toNat), (8, a.begin_.srcPos), (32, h3.toNat), (32, a.begin_.srcMac.toNat),
           (32, o.mac.toNat), (6, a.begin_.srcStamp.sec), (4, a.begin_.srcStamp.ns), (2, a.begin_.srcStamp.flags), (4, a.begin_.srcStamp.count)] s1
        let s3 := a.excerpts.foldl (fun acc e =>
          enter c.tenant 0x0062 q.1 [(32, h.peerLanyard.toNat), (2, e.1), (6, 0), (8, e.2.1), (e.2.2.length, leValue e.2.2)] acc) s2
        let s4 := a.begin_.locks.foldl (fun acc l => setCrossed c a.begin_.srcMac (some o.mac) l acc) s3
        let st : CStamp := { time := a.begin_.srcTime, seq := a.begin_.srcSeq }
        let s5 := mapHitch id (fun x => { x with delivered := x.delivered ++ [(c.num, o.mac, a.begin_.srcMac, st)] }) s4
        endArrival id a (landedLine (arrivalLine a 1) o w (ingestPos s5 c.tenant o.mac)) s5
  | _, _ => s

/-- The last byte of an object whose bytes were discarded: result 4 or 5 (R290). -/
def endHeld (id : BitVec 128) (a : Arrival) (s : State) : State :=
  match sealedAt s a.begin_.dstColl a.mac, a.fate with
  | some o, 4 =>
    match o.whip, collAt s a.begin_.dstColl with
    | some w, some c => endArrival id a (landedLine (arrivalLine a 4) o w (ingestPos s c.tenant o.mac)) s
    | _, _ => endArrival id a (arrivalLine a 5) s
  | _, _ => endArrival id a (arrivalLine a 5) s

/-- The manifest digest of a batch (R294). -/
def manifestDigest (b : HBatch) : Digest := Config.sha3 (encodeFlds (manifestFlds b))

/-- The chain digest of a tenant after one more batch (R294). -/
def chainDigest (h : Hitch) (b : HBatch) : Digest :=
  Config.sha3 (encodeFlds [(32, ((h.chains.lookup b.tenant).getD 0).toNat), (32, (manifestDigest b).toNat)])

/-- The body of a kind 6 receipt (Table 11.8); the target names the source lanyard. -/
def batchBody (h : Hitch) (b : HBatch) : Flds :=
  [(16, h.record.id.toNat), (8, b.number), (4, b.lines.length), (4, 0), (32, (manifestDigest b).toNat), (32, h.peerLanyard.toNat)]

/-- The body of a kind 7 receipt (Table 11.8). -/
def completeBody (h : Hitch) (t : Nat) : Flds :=
  [(16, h.record.id.toNat), (8, (doneFigures h (some t)).1), (8, (doneFigures h (some t)).2), (32, ((h.chains.lookup t).getD 0).toNat),
   (32, h.peerLanyard.toNat)]

/-- The leaf the next receipt of a tenant takes in its batch. -/
def nextLeaf (s : State) (t : Nat) : Nat := (((s.fix.batches.find? (fun b => b.tenant == t && !b.closed))).map (fun b => b.count)).getD 0

/-- The signed receipt of a kind and body, in any lanyard of this module. -/
def signedReceipt (s : State) (kind t : Nat) (body : Flds) : Option (Lanyard × Receipt) :=
  ((s.fix.current.toList ++ s.fix.past).filterMap (fun l =>
    (l.receipts.find? (fun r => r.kind == kind && r.tenant == t && r.body == body && r.signed)).map (fun r => (l, r)))).head?

/-- The Manifest entry and the receipt of a closed batch; the answer waits until its objects are on media and the receipt is signed
(R293). -/
def closeArrived (id : BitVec 128) (b : HBatch) (s : State) : State :=
  match hitchAt s id with
  | none => s
  | some h =>
    let b1 := { b with closed := true }
    let d := chainDigest h b1
    let h1 := { putBatch b1 h with chains := (b.tenant, d) :: dropIf (fun x => x.1 == b.tenant) h.chains }
    let t := localTenant s h b.tenant
    let (e, s1) := appendEntry t 0x0065 noStamp
      ([(16, id.toNat), (8, b.number), (4, b.lines.length), (4, 0), (32, d.toNat)] ++ manifestFlds b1) (tellHitch id (putHitch h1 s))
    let leaf := nextLeaf s1 t
    let (k, s2) := match e with
      | some x => addReceipt 6 t 0 0 (batchBody h b1) x s1
      | none => ((t, 0), s1)
    let shards := ((b.lines.map (fun l => ((collAt s2 l.dstColl).map (fun c => c.shard)).getD 0)).eraseDups).map
      (fun n => (n, (shardAt s2 n).splice))
    hold { heldAt jobMsg 0 with level := .onMedia, also := shards, rows := b.rows.eraseDups, batch := some (k.1, k.2, leaf),
                                job := some (.hitchBatch id b.tenant b.number) } s2

/-- BATCH_RECEIPT leaves, or leaves again (R293, R298). -/
def sendReceipt (id : BitVec 128) (tenant number : Nat) (s : State) : State :=
  match hitchAt s id with
  | none => s
  | some h =>
    match h.batches.find? (fun b => b.tenant == tenant && b.number == number) with
    | none => s
    | some b =>
      match signedReceipt s 6 (localTenant s h tenant) (batchBody h b) with
      | none => s
      | some (l, r) =>
        sendMyavo id 0x22 (manifestFlds b ++ receiptFlds l r) (putHitch (putBatch { b with receipted := true } h) s)

/-- Every kind 7 receipt is signed and a session stands: COMPLETE leaves and the hitch is CLOSED (R300). -/
def sendComplete (id : BitVec 128) (s : State) : State :=
  match hitchAt s id with
  | none => s
  | some h =>
    let rs := (scopeTenants h).filterMap (fun t => signedReceipt s 7 (localTenant s h t) (completeBody h t))
    if rs.length < (scopeTenants h).length || h.ctx.isNone || (h.state != .streaming && h.state != .closing) then s
    else
      tellHitch id (mapHitch id (fun x => { x with state := .closed })
        (sendMyavo id 0x41 ((rs.map (fun r => receiptFlds r.1 r.2)).flatten) s))

end Machine
end Sys2Proof
end

