-- ==== Sys2Proof/Machine/Admission.lean ====
section
/-!
DEFINITION. Admission of waiting commands and the instants at which answers leave (04 R105; 02 R51, R52; 03 R86).
-/
namespace Sys2Proof
namespace Machine

/-- What a host command does when it is admitted, from its ingress stamp (04 R105). -/
def perform (i : Instr) (t : Nat) (s : State) : State :=
  match i with
  | .connect c => runConnect c t s
  | .disconnect c k => runDisconnect c k t s
  | .propertyGet c o => runPropertyGet c o t s
  | .propertySet c o v => runPropertySet c o v t s
  | .getLogPage c l => runGetLogPage c l t s
  | .identify c a b => runIdentify c a b t s
  | .abort c a b => runAbort c a b t s
  | .setFeatures c f sv v => runSetFeatures c f sv v t s
  | .getFeatures c f => runGetFeatures c f t s
  | .asynchronousEventRequest c => runAer c t s
  | .namespaceCreate c d => runNsCreate c d t s
  | .namespaceDelete c => runNsDelete c t s
  | .keepAlive c => runKeepAlive c t s
  | .formatNvm c f => runFormat c f t s
  | .sanitize c a u => runSanitize c a u t s
  | .flush c => runFlush c t s
  | .nvmeWrite c a n f p d pi => runWrite c a n f p d pi t s
  | .nvmeRead c a n p => runRead c a n p t s
  | .compare c a n p d pi => runCompare c a n p d pi t s
  | .writeZeroes c a n => runWriteZeroes c a n t s
  | .datasetManagement c d r => runDsm c d r t s
  | .nvmeVerify c a n p => runNvVerify c a n p t s
  | .reservationRegister c a g p k n => runResRegister c a g p k n t s
  | .reservationReport c => runResReport c t s
  | .reservationAcquire c a g r k p => runResAcquire c a g r k p t s
  | .reservationRelease c a g r k => runResRelease c a g r k t s
  | .put q c b => runPut (queueSrc s q t) c b s
  | .putPart q c b => runPutPart (queueSrc s q t) c b s
  | .putAbort q c => runPutAbort (queueSrc s q t) c s
  | .sealObject q c b => runSeal (queueSrc s q t) c b s
  | .get q c b => runGet (queueSrc s q t) q c b s
  | .head q c => runHead (queueSrc s q t) c s
  | .list q c b => runList (queueSrc s q t) c b s
  | .delete q c => runDelete (queueSrc s q t) c s
  | .copy q c b => runCopy (queueSrc s q t) c b s
  | .hold q c b => runHold (queueSrc s q t) c b s
  | .release q c b => runRelease (queueSrc s q t) c b s
  | .stopper q c b => runStopper (queueSrc s q t) c b s
  | .verify q c => runVerify (queueSrc s q t) c s
  | .collCreate q c b => runCollCreate (queueSrc s q t) c b s
  | .collDelete q c => runCollDelete (queueSrc s q t) c s
  | _ => s

/-- A waiting command is answered in Keep-safe service, forwarded to the owner of its shard, or performed (04 R105; 18 R448; 21 R494). -/
def runWaiter (w : Waiting) (s : State) : State :=
  match w.cmd, hostCmd w.cmd with
  | .uopRelay c cap b, _ => (connAt s c.mbx).elim s (fun x => runRelay x c cap b w.ingress s)
  | _, none => s
  | _, some c =>
    if s.pwr.keepSafe then keepSafeAnswer w.cmd c s
    else if forPartner s c then forwardCmd w.cmd c s
    else actEnds (needsDrives (downAnswer w.cmd c) (perform w.cmd w.ingress) (takeIn w.cmd c s))

/-- A waiting command that the scheduler has served runs as of its ingress: its locks are those of that instant (05 R141, R142). What has
lapsed stays while a command waits that came before. -/
def runWaiting (w : Waiting) (s : State) : State :=
  let s1 := runWaiter w { s with obj := { s.obj with ingress := some (w.ingress, w.custody) } }
  let met (l : Lapsed) : Bool := s1.block.waiting.any (fun x => decide (x.ingress < l.at_))
  { s1 with obj := { s1.obj with ingress := none, lapsed := s1.obj.lapsed.filter met } }

/-- ADMIT_COMMAND: the command the scheduler serves next takes an operation and runs; with none that may be admitted nothing happens
(R105; 15 R380 to R383). -/
def execAdmitCommand (s : State) : Host.Outcome State Fault Refusal :=
  .next (match admitPick s (fun t => (quietOf s t).isNone) with
    | some x => runWaiting x.1 (admServe x s)
    | none => s)

/-- A completion may leave: a module of a pair completes a host's command only while it holds its lease (18 R450). -/
def mayComplete (s : State) (h : Held) : Bool :=
  match h.msg.port with
  | .ctx _ => leaseOk s
  | _ => true

/-- NOT_VISIBLE_RELEASE: an answer held for its time class leaves once its instant has come (02 R51, R52). -/
def execNotVisibleRelease (id : Nat) (s : State) : Host.Outcome State Fault Refusal :=
  .next (match s.held.find? (fun h => h.id == id) with
    | some h =>
      if h.nv && decide (h.notBefore ≤ now s) && mayComplete s h then leave h.msg h.remote { s with held := dropIf (fun x => x.id == id) s.held } else s
    | none => s)

/-! ## The end of a VERIFY and of a GET (05 R137, R143; 09 R241) -/

/-- A completion with a payload (05 Table 5.3). -/
def withPayload (m : Msg) (p : Flds) : Msg :=
  { m with body := m.body.take 6 ++ [(4, sizeFlds p), (4, 0)] ++ m.body.drop 8 ++ p }

/-- The finding of a VERIFY (05 R143). -/
def verifyResult (s : State) (coll : Nat) (mac : Digest) (repaired : Bool) : Nat :=
  match objAt s coll mac with
  | none => if repaired then 1 else 0
  | some o =>
    let wrong := match o.whip with
      | some w => w.sha2 != Config.sha256 (objValue o) || w.sha3 != Config.sha3 (objValue o)
      | none => false
    if rangeLost s o 0 (objSize o) || wrong then 2 else if repaired then 1 else 0

/-- A VERIFY ends: its Fixity entry carries the read point, and its completion the finding. -/
def endVerify (h : Held) (tenant coll : Nat) (mac : Digest) (caller : Nat) (point : CStamp) (s : State) : State :=
  let r := verifyResult s coll mac h.repaired
  let (e, s1) := appendEntry tenant 0x0013 point [(2, coll), (1, r), (1, caller), (4, 0), (32, mac.toNat)] s
  leave (withPayload h.msg ([(1, r), (7, 0)] ++ kstampFlds (kstamp s) ++ [(8, entryPos e)])) h.remote s1

/-- The parts that a SEAL read back have passed the digest engine (05 R134). -/
def readBackDone (coll : Nat) (mac : Digest) (s : State) : State :=
  match objAt s coll mac with
  | some o => putObj { o with digested := o.parts.length } s
  | none => s

/-- A GET that completes notes its second, at most once in 3,600 s (05 R137). -/
def noteRead (coll : Nat) (mac : Digest) (s : State) : State :=
  let t := custodySec s
  let hit (o : Obj) : Bool := o.coll == coll && o.mac == mac && (o.lastRead == 0 || decide (o.lastRead + 3600 ≤ t))
  { s with obj := { s.obj with objs := mapIf hit (fun o => { o with lastRead := t }) s.obj.objs } }

/-! ## Later phases of long acts -/

/-- A lock in force in a collection or on an object of a tenant: the status that refuses its erasure, E_STOPPER before E_HELD, and
E_UNANCHORED where only locks past their expiry bind while Custody Time is unanchored (05 R125, R146; 03 R75). -/
def eraseRefusal (s : State) (p : LockList → Bool) : Option Nat :=
  let ls := ((s.obj.locks.filter p).map (fun l => l.locks)).flatten.filter (lockForce s)
  let live := ls.filter (fun l => !lockPast s l)
  if ls.isEmpty then none
  else if live.any isStopper then some eStopper
  else if !live.isEmpty then some eHeld
  else some eUnanchored

/-- The locks of a tenant's collections. -/
def tenantLocks (s : State) (t : Nat) (l : LockList) : Bool := (collAt s l.coll).any (fun c => c.tenant == t)

/-- Every session and connection of a tenant and of its grants closes (05 R146 X3). -/
def closeTenant (t : Nat) (s : State) : State :=
  closeConns (fun c => c.who.tenant? == some t) (closeAll eSession (fun c => c.who.tenant? == some t) s)

/-- Answers E_NOT_VISIBLE to a command that an erasure suspended (05 R146). -/
def refuseWaiting (w : Waiting) (s : State) : State :=
  match hostCmd w.cmd with
  | none => s
  | some c =>
    if c.uop then
      let op := keepSafeAnswer.uopOp w.cmd
      let m := msg (.ctx c.ctx) .uop op c.tag eNotVisible (uopBody op c.tag 0 eNotVisible noStamp [])
      hold { heldAt m (nvInstant s w.ingress (uopDelay s op)) with nv := true, nvDelay := uopDelay s op } s
    else nvRefuse c.ctx c.tag 0 w.ingress nvInvalidNs s

/-- The partner is told the phase of a tenant erasure, with what its act runs on (05 R146; 18 Table 18.1). -/
def tellErasure (t phase : Nat) (q : QCtx) (s : State) : State :=
  pairState 7 ([(1, 2), (2, t), (1, phase), (32, q.id.toNat), (32, q.body.toNat)] ++ q.signers.map (fun k => (32, k.toNat))) s

/-- Sets the phase of a tenant erasure, recorded in both vaults (05 R146; 18 Table 18.1). -/
def erasePhase (t phase : Nat) (q : QCtx) (s : State) : State :=
  let put (l : List Erasure) : List Erasure := putBy (fun e => e.tenant == t) { tenant := t, phase := phase, q := q } l
  tellErasure t phase q { s with obj := { s.obj with erasures := put s.obj.erasures } }

/-- Phase X4 of a tenant erasure: the overwrites on every present member; X5 follows when the banks hold them. -/
def eraseWraps (t : Nat) (q : QCtx) (s : State) : State :=
  let s4 := erasePhase t 4 q s
  let s5 := { s4 with
    obj := { s4.obj with tenants := mapIf (fun x => x.num == t) (fun x => { x with wrap := none, media := none, escrow := none }) s4.obj.tenants },
    block := { s4.block with nss := mapIf (fun n => n.tenant == t) (fun n => { n with salt := none }) s4.block.nss } }
  let (gen, s6) := changeBanks (oweAll 3 s5)
  hold { heldAt jobMsg (now s6) with bank := some (gen, true), job := some (.eraseEnd t q) } s6

/-- What follows an act's closing of sessions goes on once the landing regions of those that a condition selects are drained (13 R342). -/
def afterDrain (p : Ctx → Bool) (job : HeldJob) (run : State → State) (s : State) : State :=
  let d := drainsOf p s
  if d.isEmpty then run s else hold { heldAt jobMsg (now s) with drains := d, job := some job } s

/-- Phase X3 of a tenant erasure: marks, closed sessions, void grants and handles; X4 follows once the sessions' regions are drained. -/
def eraseKeys (t : Nat) (q : QCtx) (s : State) : State :=
  let s1 := erasePhase t 3 q s
  let s2 := { s1 with
    obj := { s1.obj with
      colls := mapIf (fun c => c.tenant == t) (fun c => { c with state := .erasing }) s1.obj.colls,
      objs := mapIf (fun (o : Obj) => o.whip.isNone && (collAt s1 o.coll).any (fun (c : Coll) => c.tenant == t)) (fun o => { o with opener := none }) s1.obj.objs },
    auth := { s1.auth with grants := s1.auth.grants.filter (fun g => !((g.kind = 1 || g.kind = 2) && g.tenant.toNat == t)) } }
  let mine (w : Waiting) : Bool := meterOf s1 (waitCtx w) == t
  let s3 := (s2.block.waiting.filter mine).foldl (fun acc w => refuseWaiting w acc)
    { s2 with block := { s2.block with waiting := s2.block.waiting.filter (fun w => !mine w) } }
  afterDrain (fun c => c.who.tenant? == some t) (.eraseWraps t q) (eraseWraps t q) (closeTenant t s3)

/-- Phase X2 of a tenant erasure: it is refused while a lock is in force, and admission resumes at both modules (05 R146). -/
def eraseCheck (t : Nat) (q : QCtx) (s : State) : State :=
  let s1 := erasePhase t 2 q s
  match eraseRefusal s1 (tenantLocks s1 t) with
  | some e =>
    let s2 := erasePhase t 0 q s1
    qReply q e [] { s2 with obj := { s2.obj with erasures := dropIf (fun x => x.tenant == t) s2.obj.erasures } }
  | none => eraseKeys t q s1

/-- Everything of a tenant is freed; its records become stale (05 R146). -/
def forgetTenant (t : Nat) (s : State) : State :=
  let colls := (s.obj.colls.filter (fun c => c.tenant == t)).map (fun c => c.num)
  let nss := (s.block.nss.filter (fun n => n.tenant == t)).map (fun n => n.num)
  let gone (k : RecKind) : Bool := match k with
    | .extent c _ _ => colls.contains c
    | .object c _ => colls.contains c
    | .tombstone c _ => colls.contains c
    | .block n _ _ => nss.contains n
    | .mapPage n => nss.contains n
    | _ => false
  let s1 := killKind gone s
  { s1 with
    obj := { s1.obj with
      tenants := dropIf (fun y => y.num == t) s1.obj.tenants, colls := s1.obj.colls.filter (fun c => c.tenant != t),
      objs := s1.obj.objs.filter (fun o => !colls.contains o.coll), locks := s1.obj.locks.filter (fun l => !colls.contains l.coll),
      erasures := dropIf (fun y => y.tenant == t) s1.obj.erasures },
    block := { s1.block with nss := s1.block.nss.filter (fun n => n.tenant != t), sanitises := dropIf (fun y => y.tenant == t) s1.block.sanitises },
    idx := { s1.idx with parts := dropIf (fun p => decide (65536 ≤ p.num) && nss.contains (p.num - 65536)) s1.idx.parts,
                         hints := dropIf (fun h => h.tenant == t) s1.idx.hints, shares := dropIf (fun x => x.tenant == t) s1.idx.shares,
                         cache := s1.idx.cache.filter (fun x => x.1 != t) },
    sch := { s1.sch with quiets := dropIf (fun y => y.item.tenant.toNat == t) s1.sch.quiets,
                         weights := dropIf (fun y => y.tenant == t) s1.sch.weights } }

/-- Phase X5: the erase entry and receipt, the tenant's chain closed, everything of the tenant freed; its segments become stale (05
R146; 09 Tables 9.3, 9.4). -/
def eraseEnd (t : Nat) (q : QCtx) (s : State) : State :=
  match tenantAt s t with
  | none => s
  | some x =>
    let s0 := { s with obj := { s.obj with tenants := mapIf (fun y => y.num == t) (fun y => { y with root := none }) s.obj.tenants } }
    let s1 := erasePhase t 5 q s0
    let absent := absentMask s1
    let (st, s2) := sequence (custodyShard s1) s1
    let s3 := enter t 0x0003 st [(1, 4), (7, 0), (32, (custodyKeyNow s2).toNat)] s2
    let (e, s4) := appendEntry shelfChain 0x0018 st [(2, t), (2, 0), (4, absent), (32, x.key.toNat)] s3
    let s5 := match e with
      | some y => (addReceipt 4 0xFFFF 0 0 [(2, t), (30, 0), (32, x.key.toNat), (32, 0)] y s4).2
      | none => s4
    let s7 := forgetTenant t s5
    let s8 := quorumDone q shelfChain st (changeBanks ((overlayIn s7 7 t).elim s7 (fun o => dropOverlay o s7))).2
    qReply q sOk [] s8

/-! ## Shelf-wide sanitise, phases S4 and S5 (04 R118) -/

/-- Members that a sanitise reaches: present and not failed. -/
def sanitiseSlots (s : State) : List (Fin 24) := allSlots.filter (fun m => (memberAt s m).state != .absent && (memberAt s m).state != .failed)

/-- Records the phase of a shelf-wide sanitise in both vaults. -/
def sanPhase (phase : Nat) (s : State) : State :=
  pairState 7 ([(1, 3), (2, 0), (1, phase)] ++ if phase = 1 then [(32, (s.block.shelfSan.elim (0 : Digest) (fun x => x.statement)).toNat)] else [])
    { s with block := { s.block with shelfSan := s.block.shelfSan.map (fun x => { x with phase := phase }) } }

/-- Phase S1: the sanitise entry and receipt, and the lanyard closed with its final checkpoint; the vault keeps them (R118; 09 R252, Table
9.3). -/
def sanSign (statement : Digest) (st : CStamp) (s : State) : State :=
  let (e, s1) := appendEntry shelfChain 0x0045 st [(32, statement.toNat)] s
  let s2 := match e with
    | some y => (addReceipt 5 0xFFFF 0 0 [(32, statement.toNat), (64, 0)] y s1).2
    | none => s1
  closeLanyard 2 s2

/-- Phase S2 after its closed sessions: the shelf wrapping key and every tenant root key in the SoC are zeroized (R118). -/
def sanKeys (s : State) : State :=
  { s with auth := { s.auth with shelfKey := none },
           obj := { s.obj with tenants := s.obj.tenants.map (fun t => { t with root := none, media := none }) } }

/-- Phase S3, in this module's vault: every key wrap, escrow record and salt is overwritten; the members that are absent owe a sanitise (R118). -/
def sanWraps (s : State) : State :=
  oweAll 2 { s with auth := { s.auth with shelfVault := none, shelfEscrow := none },
                    obj := { s.obj with tenants := s.obj.tenants.map (fun t => { t with wrap := none, escrow := none }) },
                    block := { s.block with nss := s.block.nss.map (fun n => { n with salt := none, oldSalt := none }) } }

/-- The keys of phase S2, and phase S3: S4 follows once the descriptor region of every present member holds what is left (R118). -/
def sanitiseKeys (s : State) : State :=
  let (gen, s1) := changeBanks (sanWraps (sanPhase 3 (sanKeys s)))
  hold { heldAt jobMsg (now s1) with bank := some (gen, true), job := some .sanitiseDrives } s1

/-- Phase S2: every session closes; what follows waits until their landing regions are drained (R118; 13 R342). -/
def sanitiseBanks (s : State) : State :=
  afterDrain (fun _ => true) .sanitiseKeys sanitiseKeys (closeAll eSession (fun _ => true) (sanPhase 2 s))

/-- Phase S4: an NVMe Sanitize to each member (R118); the members that are absent owe one. -/
def sanitiseDrives (s : State) : State :=
  let s1 := sanPhase 4 s
  let (ds, s2) := (sanitiseSlots s1).foldl (fun (acc : List (Nat × Nat) × State) m =>
    let r := issueDrive m .sanitise 0x84 (sanitizeDword (memberAt acc.2 m)) 0 acc.2
    (acc.1 ++ [((m : Nat), r.1)], r.2)) ([], s1)
  hold { heldAt jobMsg (now s2) with drives := ds, job := some .sanitiseEnd } s2

/-- The tenants, containers, log and configuration of a shelf are gone: the first-use state of 24 R540. The vault keeps the closed
lanyards, and the auditor grants (R118). -/
def blankShelf (s : State) : State :=
  let auditor (g : GrantRec) : Bool := g.kind = 3
  { s with
    obj := { s.obj with tenants := [], colls := [], objs := [], locks := [], erasures := [], everTenant := false },
    block := { s.block with nss := [], sanitises := [], waiting := [], inFlight := [], ctrls := [], streams := [], shelfSan := none },
    auth := { s.auth with grants := s.auth.grants.filter auditor, ceremonies := [], timeKey := none, escrowKey := none, shelfKey := none,
                           shelfVault := none, shelfEscrow := none },
    log := { s.log with segs := [], rows := [], recs := [], heads := [], splice := [], rmws := [], relocQ := [] },
    idx := { s.idx with parts := [], hints := [], cache := [] },
    hitch := { s.hitch with list := [] },
    fix := { s.fix with certified := false, batches := [] },
    boot := { s.boot with firstUse := true, enrolled := false, open_ := true, formBase := none, forming := 0, shelfId := 0 } }

/-- Writes a blank descriptor region on a member: LBAs 0 to 16,383 as zeros (R118; 10 R262). -/
def blankRegion (m : Fin 24) (s : State) : State := (issueWrite m .log .descriptor 0 16384 [] s).2

/-- Phase S5: blank descriptor regions, then the first-use state (R118; 24 R540). -/
def sanitiseEnd (s : State) : State :=
  let s1 := sanPhase 5 s
  blankShelf ((sanitiseSlots s1).foldl (fun acc m => blankRegion m (putMember m { memberAt acc m with ours := false } acc)) s1)

/-! ## Debug unlock after its closed sessions (02 R61) -/

/-- The contents of DRAM are void: hints, cached pages, root tables and deltas, the splice journal's entries that stand nowhere else, the
mirror of the partner and the landing regions (R61; 06 R169; 07 R199; 18 R445). -/
def voidDram (s : State) : State :=
  { s with
    idx := { s.idx with hints := [], cache := [], parts := s.idx.parts.map (fun p => { p with stale := true }) },
    log := { s.log with splice := s.log.splice.filter (fun e => e.mirrored || !e.copies.isEmpty) },
    pair := { s.pair with mirror := [] },
    reg := { s.reg with mem := [] } }

/-- Steps 3 to 6 of R61: keys zeroized with their vault copies; DRAM void; the custody key disabled; JTAG open. The partner learns that
the module fails. -/
def unlockModule (s : State) : State :=
  let (_, s2) := draw s
  let s3 := { s2 with
    auth := { s2.auth with shelfKey := none, shelfVault := none, dramKey := s.auth.drawn, unlocked := true, debugNonce := none },
    obj := { s2.obj with tenants := s2.obj.tenants.map (fun x => { x with root := none, wrap := none }) },
    fix := { s2.fix with certified := false, disabled := s2.fix.epoch } }
  sayDying (voidDram s3)

/-! ## COMPLETION_RELEASE -/

/-- What leaves when a held completion may: its message, after what it does as it leaves. -/
def releaseHeld (h : Held) (s : State) : State :=
  match h.job with
  | none => leave h.msg h.remote s
  | some (.verify t c m k p) => endVerify h t c m k p s
  | some (.get c m) => leave h.msg h.remote (if h.msg.status = sOk then noteRead c m s else s)
  | some (.digest c m i t) => if h.msg.status = sOk then perform i t (readBackDone c m s) else leave h.msg h.remote s
  | some (.format j) => formatStep h.msg (fun s => if h.msg.port == .host then s else leave h.msg h.remote s) j s
  | some (.nsDelete nss) =>
    let s1 := nss.foldl (fun acc n => (nsNum acc n).elim acc (fun x => forgetNs x acc)) s
    if h.msg.port == .host then s1 else leave h.msg h.remote s1
  | some (.eraseCheck t q) => eraseCheck t q s
  | some (.eraseWraps t q) => eraseWraps t q s
  | some (.eraseEnd t q) => eraseEnd t q s
  | some .sanitiseKeys => sanitiseKeys s
  | some .unlock =>
    let s1 := unlockModule s
    if h.msg.port == .host then s1 else leave h.msg h.remote s1
  | some .sanitiseDrives => sanitiseDrives s
  | some .sanitiseEnd => sanitiseEnd s
  | some (.hitchBatch i t n) => sendReceipt i t n s
  | some (.hitchComplete i) => sendComplete i s

/-- What the follower of a pair adds to the instant of each completion while the two clocks differ by more than 50 ns (18 R447). -/
def followerWait (s : State) : Nat := if s.time.follower && decide (50 < s.time.pairOffset.natAbs) then s.time.pairOffset.natAbs * nsU else 0

/-- What a held completion waits for has come (03 R86); phase X1 of an erasure waits for the tenant's admitted commands (05
R146), and a format for the commands admitted before it (04 R114). -/
def releasable (s : State) (h : Held) : Bool :=
  !h.nv && decide (h.notBefore + followerWait s ≤ now s) && heldReady s h && mayComplete s h &&
    (match h.job with
     | some (.eraseCheck t _) => opsOf s t == 0
     | some (.format j) => j.before.all (fun id => !s.held.any (fun x => x.id == id))
     | _ => true)

/-- COMPLETION_RELEASE: a completion leaves once what it waits for has come, and Shelf Time has passed its stamp by 64 ns (03 R86; 04
R110; 07 R201; 09 R246; 10 R266). -/
def execCompletionRelease (id : Nat) (s : State) : Host.Outcome State Fault Refusal :=
  .next (match s.held.find? (fun h => h.id == id) with
    | some h => if releasable s h then releaseHeld h { s with held := dropIf (fun x => x.id == id) s.held } else s
    | none => s)

end Machine
end Sys2Proof
end

