-- ==== Sys2Proof/Machine/Members.lean ====
section
/-!
DEFINITION. Member failure, rebuild, restore and scrub (08): strikes, drive warnings, MEMBER_FAIL, hedged reads, the rebuild,
restore and scrub engines, and the loss report.
-/
namespace Sys2Proof
namespace Machine

/-- STRIKE_EXPIRY (R212, R213): strikes older than STR_STRIKE_WINDOW are forgotten, and a SUSPECT member without one is
HEALTHY again. -/
def execStrikeExpiry (slot : Fin 24) (s : State) : Host.Outcome State Fault Refusal :=
  let left := strikesNow s slot
  let s1 := putMember slot { memberAt s slot with strikes := left } s
  .next (if (memberAt s slot).state == .suspect && left.isEmpty then setMemberState slot .healthy s1 else s1)

/-- A member that stripes are read from or written to. -/
def inUseState : MemberState → Bool
  | .healthy | .suspect | .restoring => true
  | .absent | .joining | .failed => false

/-- DRIVE_CRITICAL_WARNING (R213): bit 2, bit 3 or CSTS.CFS make the member FAILED; bit 0 makes a HEALTHY member SUSPECT. -/
def execDriveCriticalWarning (slot : Fin 24) (bits : Byte) (cfs : Bool) (s : State) : Host.Outcome State Fault Refusal :=
  let m := memberAt s slot
  if (cfs || bits.getLsbD 2 || bits.getLsbD 3) && inUseState m.state then .next (failMember slot s)
  else if bits.getLsbD 0 && m.state == .healthy then .next (recopy slot false (setMemberState slot .suspect s))
  else .next s

/-- Failing a member would leave some stripe with more strips unavailable than its parity (R214). -/
def wouldExpose (slot : Fin 24) (s : State) : Bool :=
  let s1 := loseStrips slot (putMember slot { memberAt s slot with state := .failed } s)
  s1.log.rows.any (unreadable s1)

/-- MEMBER_FAIL (R214; 19 Table 19.3). -/
def execMemberFail (c : Call) (slot flags : Byte) (s : State) : Host.Outcome State Fault Refusal :=
  .next (mailboxCmd c 0x0801 .nothing isCustOper (fun x s =>
    let force := flags.getLsbD 0
    if flags.toNat / 2 ≠ 0 then reply c 0x0801 eReserved [] s
    else if h : slot.toNat < 24 then
      let n : Fin 24 := ⟨slot.toNat, h⟩
      if force && !isCustodian x.who then reply c 0x0801 eDenied [] s
      else if (memberAt s n).state == .failed || (memberAt s n).state == .absent then reply c 0x0801 sOk [] s
      else if !force && wouldExpose n s then reply c 0x0801 eExposed [] s
      else reply c 0x0801 sOk [] (failMember n s)
    else reply c 0x0801 eRange [] s) s)

/-- HEDGE_TIMEOUT (R216): a read of a SUSPECT member not complete STR_HEDGE after its issue is reconstructed in parallel. -/
def execHedgeTimeout (slot : Fin 24) (tag : Nat) (s : State) : Host.Outcome State Fault Refusal :=
  let p := portAt s slot
  match p.cmds.find? (fun c => c.tag == tag && !c.queued && !c.hedged) with
  | none => .next s
  | some c =>
    if (memberAt s slot).state != .suspect || !confirmed s c.issued (pStrHedge s * usU) then .next s
    else
      match c.purpose with
      | .hostRead id seg row role =>
        match rowAt s seg row with
        | none => .next s
        | some w =>
          let cand := survivors s w role
          if cand.length < w.d then .next s
          else
            let s1 := putPort slot { p with cmds := mapIf (fun x => x.tag == tag) (fun x => { x with hedged := true }) p.cmds } s
            .next (cand.foldl (fun acc j => match stripMember acc w j with
              | some m => readAt id seg row j c.lba c.count 0 [] m acc
              | none => acc) s1)
      | _ => .next s

/-! ## Rebuild (R220 to R225) -/

/-- The roles of a row that rebuild has to write: lost, with no write under way, and not of a member being restored (R220,
R232). -/
def rebuildRoles (s : State) (w : Row) : List Nat :=
  if w.state == .onMedia && !w.short && !w.locked then
    w.missing.filter (fun j => decide (j < w.d + geomParity w.d) && !w.writes.contains j &&
      (memberAt s (homeMember w.seg w.row j)).state != .restoring)
  else []

/-- A row waits for rebuild: its segment is not RELOCATING and its shard is owned (R220, R222). -/
def rebuildWaits (s : State) (w : Row) : Bool :=
  !(rebuildRoles s w).isEmpty &&
  (segAt s w.seg).any (fun g => g.state != .relocating && (shardAt s g.shard).owned)

/-- Most lost strips of a row of a segment. -/
def segLost (s : State) (seg : Nat) : Nat :=
  (s.log.rows.filter (fun w => w.seg == seg && w.state == .onMedia)).foldl (fun m w => max m (lostStrips s w)) 0

/-- The better of two segments for rebuild: more lost strips, then the lower number (R222). -/
def rebuildFirst (s : State) (a b : Nat) : Nat :=
  if segLost s a < segLost s b then b else if segLost s b < segLost s a then a else min a b

/-- The segment the rebuild engine works on: the one in hand while it has rows left, else the next in R222's order. -/
def rebuildPick (s : State) : Option Nat :=
  let segs := ((s.log.rows.filter (rebuildWaits s)).map (fun w => w.seg)).eraseDups
  match s.mem.rebuildSeg with
  | some n =>
    if segs.contains n then some n
    else match segs with
      | [] => none
      | x :: xs => some (xs.foldl (rebuildFirst s) x)
  | none =>
    match segs with
    | [] => none
    | x :: xs => some (xs.foldl (rebuildFirst s) x)

/-- The lowest of the rows. -/
def lowestRow : List Row → Option Row
  | [] => none
  | w :: ws =>
    match lowestRow ws with
    | none => some w
    | some v => if w.seg < v.seg ∨ (w.seg = v.seg ∧ w.row ≤ v.row) then some w else some v

/-- The reads of one row that rebuild or restore issues: `d` whole strips of available members (R220 step 1; log entry 11). -/
def rowReads (w : Row) (role : Nat) (s : State) : State :=
  (survivors s w role).foldl (fun acc j => match stripMember acc w j with
    | some m => (issueFlow m .rebuild (.rowRead w.seg w.row j) 2 (rowLba acc w.seg w.row) 16 acc).2
    | none => acc) s

/-- REBUILD_ROW (R220, R222): the next row of the segment in hand is read, its lost strips are reconstructed, and each is written
to a spare position; a row with more lost strips than parity is declared lost. -/
def execRebuildRow (s : State) : Host.Outcome State Fault Refusal :=
  let pick := rebuildPick s
  let s1 := { s with mem := { s.mem with rebuildSeg := pick } }
  match pick.filter (fun _ => !s.pwr.keepSafe) with
  | none => .next s1
  | some seg =>
    match lowestRow (s1.log.rows.filter (fun w => w.seg == seg && rebuildWaits s1 w)) with
    | none => .next s1
    | some w =>
      if unreadable s1 w then .next (declareLost w.seg w.row s1)
      else
        let roles := rebuildRoles s1 w
        .next (roles.foldl (fun acc j => writeSpare w.seg w.row j 0 acc) (rowReads w (roles.headD 0) s1))

/-! ## Replacing a member (R231, R232) -/

/-- An overwrite that a drive of this shelf still owes (R231): of a sanitise, the drive's own sanitise action (04 R118); of a format or an
erasure, both record banks (10 R266). -/
def payOwed (slot : Fin 24) (kind : Nat) (s : State) : State :=
  if kind = 2 then (issueDrive slot .sanitise 0x84 (sanitizeDword (memberAt s slot)) 0 s).2
  else
    let banks := bankBytes s slot s.mem.bankGen
    (issueWrite slot .log .descriptor 8192 4096 banks (issueWrite slot .log .descriptor 4096 4096 banks s).2).2

/-- DRIVE_INSERT (R231): a drive in a powered slot whose member is ABSENT or FAILED is checked; one that fails is left unpowered.
One that passes receives the overwrites it owes, is deallocated, gets a fresh descriptor region and becomes RESTORING. `ours`: it carries
a valid record bank of this shelf; in the first-use state, of any shelf, and it then waits as JOINING for formation (24 R542). -/
def execDriveInsert (slot : Fin 24) (lbas : Nat) (dualPort ours checksOk cryptoErase blockErase : Bool) (nguid : BitVec 128)
    (serial : BitVec 160) (s : State) : Host.Outcome State Fault Refusal :=
  let m := memberAt s slot
  if !(feedAt s (.slot slot)).enabled || !(m.state == .absent || m.state == .failed) then .next s
  else if !checksOk || decide (lbas < s.log.segBase + 2048 * s.log.segCount) then
    .next (disableSlot slot (raise stDRV 5 slot s))
  else
    let owes := if ours then m.owes else []
    let s1 := setMemberState slot .joining
      (putMember slot { m with lbas := lbas, dualPort := dualPort, ours := ours, cryptoErase := cryptoErase, blockErase := blockErase,
                               nguid := nguid, serial := serial, strikes := [], timeouts := 0, downSince := none, ringAt := 0,
                               bankA := 0, bankB := 0, ptr0 := 0, ptr1 := 0 } s)
    let s2 := owes.foldl (fun acc k => payOwed slot k acc) s1
    let s3 := putMember slot { memberAt s2 slot with owes := [], ours := ours || !s.boot.firstUse } s2
    if s3.boot.firstUse then .next s3
    else .next (setMemberState slot .restoring (writeRegion slot (issueDrive slot (.deallocate 0) 9 0 lbas s3).2))

/-- The role of a row that a slot holds at home, when it is data or parity. -/
def homeRole (w : Row) (slot : Fin 24) : Option Nat :=
  (List.range (w.d + geomParity w.d)).find? (fun j => homeMember w.seg w.row j == slot)

/-- A row whose strip on a slot is to be restored (R232). -/
def restoreWaits (slot : Fin 24) (w : Row) : Bool :=
  w.state == .onMedia && !w.locked &&
  (homeRole w slot).any (fun j => (w.missing.contains j || (w.subst.lookup j).isSome) && !w.writes.contains j)

/-- Writes are outstanding for restored strips of a slot. -/
def restoreBusy (s : State) (slot : Fin 24) : Bool :=
  (portAt s slot).cmds.any (fun c => match c.purpose with
    | .restored _ _ _ => true
    | _ => false)

/-- RESTORE_ROW (R232): the next row of a RESTORING member, spare-short rows first, then in ascending order, then those left for
later, is copied from its spare position or reconstructed and written to the new member; when every row is restored the member
is HEALTHY. -/
def execRestoreRow (slot : Fin 24) (s : State) : Host.Outcome State Fault Refusal :=
  if (memberAt s slot).state != .restoring || s.pwr.keepSafe then .next s
  else
    let all := s.log.rows.filter (restoreWaits slot)
    let left (w : Row) : Bool := s.mem.skipped.contains ((slot : Nat), w.seg, w.row)
    let fresh := all.filter (fun w => !left w)
    let next := (lowestRow (fresh.filter (fun w => w.short))).orElse (fun _ => lowestRow fresh)
    match next with
    | some w =>
      let role := (homeRole w slot).getD 0
      let s1 := match w.subst.lookup role with
        | some i => (issueFlow (homeMember w.seg w.row (22 + i)) .rebuild (.rowRead w.seg w.row role) 2 (rowLba s w.seg w.row) 16 s).2
        | none => rowReads w role s
      let s2 := mapRow w.seg w.row (fun x => { x with writes := x.writes ++ [role] }) s1
      let data := if (w.subst.lookup role).isSome then stripImage s w role else rebuiltStrip s w (survivors s w role) role
      if unreadable s w && (w.subst.lookup role).isNone then .next (declareLost w.seg w.row s)
      else .next (issueWrite slot .rebuild (.restored w.seg w.row role) (rowLba s w.seg w.row) 16 data s2).2
    | none =>
      if all.isEmpty && !restoreBusy s slot then .next (raise stRB 6 slot (setMemberState slot .healthy s))
      else .next { s with mem := { s.mem with skipped := s.mem.skipped.filter (fun x => x.1 != (slot : Nat)) } }

/-! ## Scrub (R234 to R236) -/

/-- A rebuild or restore runs (R234; 20 R485). -/
def repairing (s : State) : Bool :=
  allSlots.any (fun n => (memberAt s n).state == .restoring) || s.log.rows.any (rebuildWaits s)

/-- Scrub may visit: no rebuild or restore runs, and under DORMANT only while the schedule powers the drives (R234), and not in
Keep-safe service (21 R494). -/
def scrubMay (s : State) : Bool :=
  !repairing s && (!classIn s 5 || s.pst.window) && !s.pst.drivesDown && s.pst.downStep == 0 && !s.pwr.keepSafe

/-- A pass starts (R234). -/
def startScrub (s : State) : State :=
  if s.mem.scrubbing then s
  else
    let copies := ((s.log.splice.filter (fun e => !e.retired)).map (fun e => e.copies.map (fun n => (n, e.shard, e.seq)))).flatten
    { s with mem := { s.mem with scrubbing := true, scrubRows := 0, scrubBad := 0, scrubLost := 0, scrubNext := 0, scrubAt := mono s,
                                 scrubCopies := copies, scrubSlots := (descriptorSlots s).map Fin.val } }

/-- Ring copies and descriptor regions that a pass has still to visit: those of entries that have not retired since, and of members that are still
there (R234). -/
def scrubLeft (s : State) : Bool :=
  s.mem.scrubCopies.any (fun x => s.log.splice.any (fun e => !e.retired && e.shard == x.2.1 && e.seq == x.2.2 && e.copies.contains x.1)) ||
  s.mem.scrubSlots.any (fun n => (descriptorSlots s).contains (slotOf n))

/-- The rows a pass has still to visit, those of owned shards. -/
def scrubRest (s : State) : List Row :=
  s.log.rows.filter (fun w => w.state == .onMedia && decide (s.mem.scrubNext ≤ 128 * w.seg + w.row) &&
    (segAt s w.seg).any (fun g => (shardAt s g.shard).owned))

/-- One strip of a row is judged bad by a pass: a strike on its member once, STR_RB_STATUS bit 4, and its segment goes to the front of
relocation (R236, Table 8.5). -/
def judgeBad (seg row role : Nat) (k : StrikeKind) (s : State) : State :=
  match (rowAt s seg row).bind (fun w => stripMember s w role) with
  | some m => judgeStrip seg row role k (raise stRB 4 m { s with mem := { s.mem with scrubBad := s.mem.scrubBad + 1 } })
  | none => s

/-- A tombstone of a key is in the log. -/
def entombed (s : State) (c : Nat) (m : Digest) : Bool := s.log.recs.any (fun r => r.live && r.kind == .tombstone c m)

/-- A pass writes a fresh tombstone for an object record it meets whose object has no leaf entry and no tombstone: the one it had was lost
(R228, Table 8.3). -/
def freshTombstones (w : Row) (s : State) : State :=
  (recsIn s w.seg w.row w.d).foldl (fun acc r =>
    match r.kind with
    | .object c m =>
      match collAt acc c with
      | some k =>
        if (objAt acc c m).isSome || entombed acc c m then acc
        else
          let (st, a1) := sequence k.shard acc
          (writeSealed k.shard (geomData k.geometry) (.tombstone c m) "UVTB" k.tenant 48 (tombstoneBody c m r.addr) st a1).2
      | none => acc
    | _ => acc) s

/-- The strip reads of a visit, as one flow per member capped at STR_SCRUB_SHARE (R234; log entry 11). -/
def scrubReads (w : Row) (s : State) : State :=
  (List.range (w.d + geomParity w.d)).foldl (fun acc j => match stripMember acc w j with
    | some m => (issueFlow m .scrub .work 2 (rowLba acc w.seg w.row) 16 acc).2
    | none => acc) s

/-- SCRUB_ROW (R234 to R236): one visit of the running pass, which starts STR_SCRUB_PERIOD after the last, and its findings. -/
def execScrubRow (f : ScrubFound) (s : State) : Host.Outcome State Fault Refusal :=
  if !scrubMay s then .next s
  else
    let s0 := if s.mem.scrubbing || !confirmed s s.mem.scrubAt (pStrScrubPeriod s * secU) then s else startScrub s
    if !s0.mem.scrubbing then .next s0
    else
      match f with
      | .row unread bad headerOk =>
        match lowestRow (scrubRest s0) with
        | none => .next s0
        | some w =>
          let s0 := freshTombstones w (scrubReads w s0)
          let s1 := { s0 with mem := { s0.mem with scrubRows := s0.mem.scrubRows + 1, scrubNext := 128 * w.seg + w.row + 1 } }
          let s2 := unread.foldl (fun acc j => judgeBad w.seg w.row j .media acc) s1
          let s3 := (if headerOk then bad else 0 :: bad).foldl (fun acc j => judgeBad w.seg w.row j .check acc) s2
          match rowAt s3 w.seg w.row with
          | some v =>
            if unreadable s3 v then
              let s4 := declareLost w.seg w.row s3
              .next { s4 with mem := { s4.mem with scrubLost := s4.mem.scrubLost + 1 } }
            else .next s3
          | none => .next s3
      | .ringCopy slot shard seq valid =>
        let s0 := { s0 with mem := { s0.mem with scrubCopies := dropIf (fun x => x == ((slot : Nat), shard, seq)) s0.mem.scrubCopies } }
        if valid then .next s0
        else
          let hit (e : SpliceEntry) : Bool := e.shard == shard && e.seq == seq && e.copies.contains (slot : Nat)
          let s1 := { s0 with log := { s0.log with
              splice := mapIf hit (fun e => { e with copies := e.copies.filter (fun m => m != (slot : Nat)) }) s0.log.splice } }
          let s2 := strike slot .write s1
          match s0.log.splice.find? hit with
          | some _ =>
            match s2.log.splice.find? (fun e => e.shard == shard && e.seq == seq) with
            | some e => .next (ringCopies e s2)
            | none => .next s2
          | none => .next s0
      | .descriptor slot agrees =>
        let s0 := (issueFlow slot .scrub .work 2 0 16384 { s0 with mem := { s0.mem with scrubSlots := dropIf (fun n => n == (slot : Nat)) s0.mem.scrubSlots } }).2
        if agrees then .next s0
        else .next (writeRegion slot (strike slot .check s0))

/-- SCRUB_PASS_END (R234; 09 Table 9.4): a pass that has visited every row appends its entry. -/
def execScrubPassEnd (s : State) : Host.Outcome State Fault Refusal :=
  if s.mem.scrubbing && (scrubRest s).isEmpty && !scrubLeft s then
    let n := s.mem.scrubPasses + 1
    let s1 := enter shelfChain 0x0050 noStamp [(4, n), (4, 0), (8, s.mem.scrubRows), (4, s.mem.scrubBad), (4, s.mem.scrubLost)] s
    .next { s1 with mem := { s1.mem with scrubbing := false, scrubPasses := n, scrubRepairs := s.mem.scrubBad } }
  else .next s

/-! ## The loss report (R229, R230) -/

/-- The loss records a principal may read (R230). -/
def lossVisible (p : Principal) (r : LossRec) : Bool :=
  match p with
  | .tenant n => r.tenant == n
  | _ => true

/-- LOSS_REPORT_READ (R230; 19 Table 19.3): records in declaration order from a cursor, and the next cursor. A response holds
10,922 records at most (19 R465). -/
def execLossReportRead (c : Call) (cursor : Word64) (count : Word32) (s : State) : Host.Outcome State Fault Refusal :=
  .next (mailboxCmd c 0x0705 .nothing readsLanyard (fun x s =>
    let mine := (s.mem.losses.filter (lossVisible x.who)).zipIdx.filter (fun r => decide (cursor.toNat ≤ r.2))
    let out := mine.take (min count.toNat 10922)
    let next := match out.getLast? with
      | some r => r.2 + 1
      | none => cursor.toNat
    reply c 0x0705 sOk ((out.map (fun r => lossFlds r.1)).flatten ++ [(8, next)]) s) s)

end Machine
end Sys2Proof
end

