-- ==== Sys2Proof/Machine/Drives.lean ====
section
/-!
DEFINITION. Drive ports: discovery, translation windows, timeouts, resets; and the service endpoint (17).
-/
namespace Sys2Proof
namespace Machine

/-! ## Discovery (R417 to R421) -/

/-- Levels of a drive's reset pin leave the module: 0 held, 1 released (R430). -/
def perst (slot : Fin 24) (level : Nat) (s : State) : State := send (msg (.drive slot) .pin 0 0 0 [(1, level)]) s

/-- Discovery begins at the release of the reset pin, `delay` ns from now (R420). -/
def startDiscovery (slot : Fin 24) (delay : Nat) (s : State) : State :=
  perst slot 1 (putPort slot { portAt s slot with step := some 1, stepAt := s.time.ticks + delay, perstAt := none, linkUp := false, rate := 0, width := 0 } s)

/-- The budget of a discovery step in ns (Table 17.2). -/
def stepBudget (p : DrivePort) (step : Nat) : Nat :=
  if step = 1 then 1000000000 else if step = 3 then min 30000000000 (p.capTo * 500000000) else 60000000000

/-- A member keeps its state through discovery; D6 never formats its drive (R420, R431). -/
def keepsState (m : MemberState) : Bool := m == .healthy || m == .suspect || m == .restoring

/-- A failed step leaves the slot unpowered and its result recorded; a member that held data is FAILED (R420). -/
def failDiscovery (slot : Fin 24) (result : Nat) (s : State) : State :=
  let s1 := putPort slot { portAt s slot with step := none, linkUp := false, rate := 0, width := 0, result := result } s
  let s2 := disableSlot slot (raise stDRV 5 slot s1)
  let m := memberAt s2 slot
  slotBack slot (if keepsState m.state then failMember slot s2 else s2)

/-- I/O queue pairs the module creates, and the entries of each (R421). -/
def foundQueues (d : DriveFound) : Nat := min 16 d.queues
def foundEntries (d : DriveFound) : Nat := foundQueues d * min 1024 d.depth

/-- The first failing check of D2 to D8 on what a drive reports, 0 where none fails (Table 17.2). -/
def discoveryCheck (s : State) (d : DriveFound) : Nat :=
  if !d.nvme then 2
  else if !d.features || (d.mdts != 0 && decide (d.mdts < 16)) then 4
  else if s.pair.pairShelf && !d.dualPort then 5
  else if !d.format then 6
  else if 125000000000 < d.lbas ∨ (!s.boot.firstUse ∧ d.lbas < s.log.segBase + 2048 * s.log.segCount) then 7
  else if foundEntries d < 16 then 8
  else 0

/-- The windows that firmware programs before D3: the queues and the tag aperture, at addresses the spec does not give (R422; log entry
30). -/
def programWindows (slot : Fin 24) (s : State) : State :=
  if !(portAt s slot).windows.isEmpty then s
  else
    let (a, s1) := free s
    let (b, s2) := free s1
    let (l, s3) := free s2
    let (t, s4) := free s3
    let (u, s5) := free s4
    let w0 : Window := { num := 0, base := a % 2 ^ 52 * 4096, log2 := 12 + l % 25, kind := 1, canRead := true, canWrite := true, relaxed := false,
                         target := t % 2 ^ 64 }
    let w1 : Window := { num := 1, base := b % 2 ^ 52 * 4096, log2 := 36, kind := 2, canRead := true, canWrite := true, relaxed := true,
                         target := u % 2 ^ 64 }
    let p := portAt s5 slot
    putPort slot { p with windows := [w0, w1], shadow := [w0, w1], commits := (p.commits + 1) % 65536 } s5

/-- D6: namespace 1 is formatted to the LBA format of 4,096 data bytes; discovery goes on when the drive reports it in use (R420). -/
def lbaFormat (slot : Fin 24) (s : State) : State :=
  send (msg (.drive slot) .driveCmd 0x80 0 0 [(4, 1)]) (putPort slot { portAt s slot with step := some 6, stepAt := s.time.ticks, cfgReads := [] } s)

/-- DRIVE_LINK_UP: the link trains and discovery runs on what the drive reports; one that is not ready is waited for at D3, and one with
another LBA format in use is formatted at D6 (R419, R420). A
member that passes keeps its state, and its waiting commands are issued (R431). -/
def execDriveLinkUp (slot : Fin 24) (rate width : Nat) (d : DriveFound) (s : State) : Host.Outcome State Fault Refusal :=
  let p := portAt s slot
  if p.step.isNone || p.perstAt.isSome then .next s
  else
    let s1 := putPort slot { p with linkUp := true, rate := rate % 8, width := width % 8, capTo := d.capTo, queues := foundQueues d, entries := foundEntries d, nextQ := 0, mdts := d.mdts } s
    let full := decide (6 ≤ rate) && decide ((if s.drv.x2 then 2 else 3) ≤ width)
    let s2 := putMember slot { memberAt s1 slot with downSince := none } (if full then s1 else raise stDRV 1 slot s1)
    if !d.nvme then .next (failDiscovery slot 2 s2)
    else
      let s3 := programWindows slot s2
      if !d.ready then
        .next (putPort slot { portAt s3 slot with step := some 3, stepAt := s3.time.ticks, cfgReads := [(3, mono s3)] } s3)
      else
        match discoveryCheck s3 d with
        | 0 =>
          if !d.inUse then .next (if keepsState (memberAt s3 slot).state then failDiscovery slot 6 s3 else lbaFormat slot s3)
          else .next (slotBack slot (pumpPort slot (putPort slot { portAt s3 slot with step := none, result := 0, cfgReads := [] } s3)))
        | r => .next (failDiscovery slot r s3)

/-- DISCOVERY_STEP_TIMEOUT: a step over its budget fails the drive (R420). -/
def execDiscoveryStepTimeout (slot : Fin 24) (s : State) : Host.Outcome State Fault Refusal :=
  let p := portAt s slot
  match p.step with
  | none => .next s
  | some k => .next (if p.stepAt + stepBudget p k ≤ s.time.ticks then failDiscovery slot k s else s)

/-! ## Translation windows (R422 to R424) -/

/-- The window of a port that a request falls in. -/
def windowOf (p : DrivePort) (addr len : Nat) : Option Window :=
  p.windows.find? (fun w => w.kind != 0 && decide (w.base ≤ addr) && decide (addr + len ≤ w.base + 2 ^ w.log2))

/-- The aperture's tag entry stands: its command is outstanding and not invalidated (R422, R426). -/
def apertureOpen (p : DrivePort) (w : Window) (addr : Nat) : Bool :=
  w.kind != 2 || p.cmds.any (fun c => c.tag == (addr - w.base) / 4194304 && !c.queued)

/-- DRIVE_MEMORY_REQUEST: a drive's request is translated by its port's windows, or refused: a refused read gets an Unsupported Request
completion (status 1), a refused write is dropped. The completion of a read carries Relaxed Ordering as the read did (R422, R424). -/
def execDriveMemoryRequest (slot : Fin 24) (addr len : Nat) (isWrite relaxed : Bool) (s : State) : Host.Outcome State Fault Refusal :=
  let p := portAt s slot
  if !p.linkUp then .next s
  else
    let answer (status : Nat) (s : State) : State :=
      if isWrite then s
      else send (msg (.drive slot) .remoteRead 0 0 status [(8, addr), (4, len), (1, if relaxed then 1 else 0)]) s
    match (windowOf p addr len).filter (fun w => (if isWrite then w.canWrite else w.canRead) && apertureOpen p w addr) with
    | some _ => .next (answer 0 s)
    | none => .next (answer 1 (raise stDRV 3 slot (bumpFigure 0x06000020 1 s)))

/-- WINDOW_COMMIT: the shadow copy takes effect; requests in progress finish under the old one (R423). -/
def execWindowCommit (slot : Fin 24) (s : State) : Host.Outcome State Fault Refusal :=
  let p := portAt s slot
  .next (putPort slot { p with windows := p.shadow, commits := (p.commits + 1) % 65536, draining := p.draining || decide (0 < issuedCount p) } s)

/-- WINDOW_DRAIN_END: no request is in progress under an old copy any more (R423). -/
def execWindowDrainEnd (slot : Fin 24) (s : State) : Host.Outcome State Fault Refusal :=
  .next (putPort slot { portAt s slot with draining := false } s)

/-! ## Timeouts (R425 to R429) -/

/-- DRIVE_TIMEOUT: a command whose deadline is confirmed ends (R426; 03 R82). -/
def execDriveTimeout (slot : Fin 24) (tag : Nat) (s : State) : Host.Outcome State Fault Refusal :=
  match (portAt s slot).cmds.find? (fun c => c.tag == tag && !c.queued) with
  | none => .next s
  | some c => .next (if confirmed s c.issued (c.timeout) then timeoutCmd slot c s else s)

/-- TAG_QUARANTINE_END: a tag leaves quarantine at its instant (R426). -/
def execTagQuarantineEnd (slot : Fin 24) (tag : Nat) (s : State) : Host.Outcome State Fault Refusal :=
  let p := portAt s slot
  .next (putPort slot { p with quar := p.quar.filter (fun q => !(q.1 == tag && decide (q.2 ≤ mono s))) } s)

/-- CONFIG_READ_TIMEOUT: a read not completed in DRV_CPL_TIMEOUT returns all ones and records a timeout strike (R429). -/
def execConfigReadTimeout (slot : Fin 24) (num : Nat) (s : State) : Host.Outcome State Fault Refusal :=
  let p := portAt s slot
  match p.cfgReads.find? (fun r => r.1 == num) with
  | none => .next s
  | some r =>
    if !confirmed s r.2 (pDrvCplTimeout s * usU) then .next s
    else .next (timeoutStrike slot (putPort slot { p with cfgReads := p.cfgReads.erase r } s))

/-! ## Resets (R430 to R432) -/

/-- A command that was issued ends as timed out, without a strike of its own (R431). -/
def endIssued (slot : Fin 24) (s : State) (c : DriveCmd) : State :=
  if (portAt s slot).cmds.any (fun d => d.tag == c.tag) then
    ownerDone slot c false true (some .timeout) (bumpFigure 0x06000024 1
      (putPort slot { portAt s slot with timeouts := min 0xFFFFFFFF ((portAt s slot).timeouts + 1) } (quarantineTag slot c s)))
  else s

/-- A waiting read is reconstructed and a waiting ring write is placed elsewhere at once; the rest wait (R431). -/
def endWaiting (slot : Fin 24) (s : State) (c : DriveCmd) : State :=
  let gone (s : State) : State := putPort slot { portAt s slot with cmds := dropIf (fun d => d.tag == c.tag) (portAt s slot).cmds } s
  if !(portAt s slot).cmds.any (fun d => d.tag == c.tag) then s
  else
    match c.purpose with
    | .hostRead _ _ _ _ => ownerDone slot c false true none (gone s)
    | .ring _ _ => ownerDone slot c false false none (gone s)
    | .rowRead _ _ _ => ownerDone slot c false true none (gone s)
    | .pageRead _ _ _ | .walkRead _ _ _ _ => ownerDone slot c false true none (gone s)
    | .work => gone s
    | .discard => gone s
    | _ => s

/-- The reset of a port: the commands issued end as timed out with one strike, those that wait are handed on or wait, and the pin is held
(R431, R432). -/
def resetPort (slot : Fin 24) (s : State) : State :=
  let p := portAt s slot
  let issued := p.cmds.filter (fun c => !c.queued)
  let s1 := putPort slot { p with linkUp := false, rate := 0, width := 0, step := none, perstAt := some (mono s), cfgReads := [] } s
  let s2 := issued.foldl (endIssued slot) s1
  let s3 := (p.cmds.filter (fun c => c.queued)).foldl (endWaiting slot) s2
  let s4 := if issued.any (fun c => !isSpeculative c) then timeoutStrike slot s3 else s3
  settle (perst slot 0 (raise stDRV 2 slot s4))

/-- A slot that has lost its power good: its link goes down and discovery stops; its commands end as at a reset, without a strike (R431;
21 R505). A member that was in service counts its link as down from now (08 R213). -/
def darkSlot (slot : Fin 24) (s : State) : State :=
  if slotPg (feedAt s (.slot slot)) then s
  else
    let p := portAt s slot
    let m := memberAt s slot
    let s1 := putPort slot { p with linkUp := false, rate := 0, width := 0, step := none, perstAt := none, cfgReads := [] } s
    let s2 := if p.linkUp then putMember slot { m with downSince := m.downSince.or (some (mono s)) } s1 else s1
    let s3 := (p.cmds.filter (fun c => !c.queued)).foldl (endIssued slot) s2
    settle ((p.cmds.filter (fun c => c.queued)).foldl (endWaiting slot) s3)

/-- DRIVE_LINK_DOWN: a present drive's link goes down, or containment is triggered (Table 17.1); the port is reset (R431). -/
def execDriveLinkDown (slot : Fin 24) (containment : Bool) (s : State) : Host.Outcome State Fault Refusal :=
  let p := portAt s slot
  if !p.linkUp then .next s
  else
    let m := memberAt s slot
    let s1 := putPort slot { p with downs := min 255 (p.downs + 1) } (if containment then raise stDRV 4 slot s else s)
    let s2 := putMember slot { m with downSince := m.downSince.or (some (mono s)) } s1
    .next (if (feedAt s2 (.slot slot)).present then resetPort slot s2
      else putPort slot { portAt s2 slot with linkUp := false, rate := 0, width := 0 } s2)

/-- PERST_PULSE_END: after DRV_PERST_TIME the pin is released and D1 to D8 run again (R431). -/
def execPerstPulseEnd (slot : Fin 24) (s : State) : Host.Outcome State Fault Refusal :=
  match (portAt s slot).perstAt with
  | none => .next s
  | some t => .next (if confirmed s t (pDrvPerstTime s * usU) then startDiscovery slot 0 s else s)

/-- DRIVE_LINK_DOWN_TIMEOUT: a member whose link is not up 1 s after it first went down is FAILED (R431; 08 R213). -/
def execDriveLinkDownTimeout (slot : Fin 24) (s : State) : Host.Outcome State Fault Refusal :=
  match (memberAt s slot).downSince with
  | none => .next s
  | some t => .next (if !(portAt s slot).linkUp && confirmed s t (secU) then failMember slot s else s)

/-! ## The service endpoint (R433 to R437) -/

/-- The configuration space of the endpoint, as offset and bytes: vendor and device, revision, class code, subsystem (Table 17.3). -/
def sepConfig : List (Nat × Flds) :=
  [(0x00, [(2, 0x1E7C), (2, 0x2460)]), (0x08, [(1, 0xB1), (3, 0x088000)]), (0x2C, [(2, 0x1E7C), (2, 0x0001)])]

/-- The identity page (Table 17.4). -/
def identityPage (s : State) : Flds :=
  [asciiFld 4 "UVSE", (2, 1), (8, s.boot.shelfId.toNat), asciiFld 2 "B1", (16, s.auth.release.toNat),
   (8, bitsOf (layered s 0x07000008 0) 0 32 + bitsOf (layered s 0x0700000C 0) 0 32 * 2 ^ 32)]

/-- What the endpoint's host reads in BAR0, by byte: the identity page, the doorbells of mailboxes bound to the endpoint, the pending bits
of MSI-X, and zeros elsewhere; the entries of rings leave as messages of their mailbox (Table 17.4, R434, R435). -/
def barByte (s : State) (off : Nat) : Byte :=
  if off < 0x1000 then (encodeFlds (identityPage s)).getD off 0
  else if off < 0x1200 then
    let m := (off - 0x1000) / 8
    match s.mbx.rings.find? (fun r => r.mbx == m && onEndpoint s m) with
    | some r => (encodeFlds [(4, r.reqTail), (4, r.rspHead)]).getD (off % 8) 0
    | none => 0
  else if 0x110000 ≤ off ∧ off < 0x110200 then
    BitVec.ofNat 8 (((List.range 8).map (fun k => if s.sep.pending.contains ((off - 0x110000) * 8 + k) then 2 ^ k else 0)).sum)
  else 0

/-- SEP_LINK_UP: the link trains while SEP_CTRL bit 0 is set (R433). -/
def execSepLinkUp (rate width : Nat) (s : State) : Host.Outcome State Fault Refusal :=
  .next (if pSepCtrl s = 1 ∧ s.pwr.socOn then { s with sep := { s.sep with linkUp := true, rate := rate % 8, width := width % 8 } } else s)

/-- An endpoint reset: configuration and MSI-X table at reset values, its connections closed, its rings cleared (R437). -/
def resetEndpoint (s : State) : State :=
  let s1 := if s.sep.linkUp then raise stSEP 3 noInst s else s
  let s2 := { s1 with sep := { s1.sep with linkUp := false, rate := 0, width := 0, master := false, msixOn := false, masked := [], pending := [] } }
  let s3 := closeConns (fun c => c.path == .endpoint) s2
  let clear (r : Ring) : Ring := { mbx := r.mbx, reqTail := 0, reqHead := 0, rspTail := 0, rspHead := 0, owed := 0, ready := [] }
  let s4 := { s3 with mbx := { s3.mbx with rings := mapIf (fun r => onEndpoint s3 r.mbx) clear s3.mbx.rings } }
  raise stSEP 0 noInst (bumpFigure 0x07000010 1 s4)

/-- SEP_RESET (R437). -/
def execSepReset (s : State) : Host.Outcome State Fault Refusal := .next (resetEndpoint s)

/-- BUS_MASTER_ENABLE: set, the messages held are sent; the host enables MSI-X with it (R436; log entry 31). -/
def execBusMasterEnable (on : Bool) (s : State) : Host.Outcome State Fault Refusal :=
  if !s.sep.linkUp then .next s
  else
    let held := s.sep.pending
    let s1 := { s with sep := { s.sep with master := on, msixOn := s.sep.msixOn || on, pending := if on then [] else held } }
    .next (if on then held.foldl (fun acc v => msix v acc) s1 else s1)

end Machine
end Sys2Proof
end

