-- ==== Sys2Proof/Machine/Lanyard.lean ====
section
/-!
DEFINITION. Receipts, checkpoints, and the commands that read and certify the lanyard (09).
-/
namespace Sys2Proof
namespace Machine

/-! ## Receipt batches (R246, R558) -/

/-- A closed batch, waiting for the signer from this instant. -/
def shutBatch (s : State) (b : Batch) : Batch := { b with closed := true, first := mono s }

/-- RECEIPT_BATCH_CLOSE: a tenant's batch closes IDX_RECEIPT_BATCH after its first receipt; under QUIET only its schedule closes it
(R246). -/
def execReceiptBatchClose (tenant : Nat) (s : State) : Host.Outcome State Fault Refusal :=
  let due (b : Batch) : Bool := b.tenant == tenant && !b.closed && confirmed s b.first (pIdxReceiptBatch s * usU)
  .next (if (quietOf s tenant).isSome then s
    else { s with fix := { s.fix with batches := mapIf due (shutBatch s) s.fix.batches } })

/-- The receipt of a position of a chain in a lanyard. -/
def receiptAt (l : Lanyard) (chain epoch pos : Nat) : Option Receipt :=
  l.receipts.find? (fun r => r.chain == chain && r.epoch == epoch && r.pos == pos)

/-- The newest epoch of a chain in a lanyard. -/
def newestEpoch (l : Lanyard) (chain : Nat) : Nat := (l.entries.filter (fun e => e.chain == chain)).foldl (fun m e => max m e.epoch) 0

/-- The lanyards that this module can read: closed ones first, then the partner's and its own (R255). -/
def lanyards (s : State) : List Lanyard := s.fix.past ++ s.pair.lanyard.toList ++ s.fix.current.toList

/-- A lanyard by its id. -/
def lanyardAt (s : State) (id : Digest) : Option Lanyard := (lanyards s).find? (fun l => l.id == id)

/-- The signed receipt that a call waits for. -/
def waitedFor (s : State) (w : ReceiptWait) : Option (Lanyard × Receipt) :=
  (lanyardAt s w.lanyard).bind (fun l => ((receiptAt l w.chain w.epoch w.pos).filter (fun r => r.signed)).map (fun r => (l, r)))

/-- Answers the RECEIPT_READ calls whose receipt is signed now (R255). -/
def answerWaiting (s : State) : State :=
  s.fix.waiting.foldl (fun acc w => match waitedFor s w with
    | some x => freeTag w.mbx w.tag (sendMbx w.mbx (msg (.mbx w.mbx) .mailbox 0x0704 w.tag sOk (receiptFlds x.1 x.2)) acc)
    | none => acc) { s with fix := { s.fix with waiting := s.fix.waiting.filter (fun w => (waitedFor s w).isNone) } }

/-- The signer signs a closed batch: its receipts are complete, and the completions that carry them may leave (R246). -/
def signBatch (b : Batch) (s : State) : State :=
  let s1 := signReceipts b s
  answerWaiting (if b.first + 10 * pIdxReceiptBatch s * usU < mono s then raise stLY 3 noInst s1 else s1)

/-- The closed batch a tenant's flow holds at its head, at a cost of 1 (15 R386). -/
def signHead (s : State) (b : Batch) : FlowHead Batch := { path := [tenantFlow s b.tenant], cost := 1, item := b }

/-- The oldest closed batch of each tenant; while any is of receipts formed again, only those (R558). -/
def signHeads (s : State) : List (FlowHead Batch) :=
  let all := s.fix.batches.filter (fun b => b.closed)
  let old := all.filter (fun b => b.again)
  let bs := if old.isEmpty then all else old
  (bs.filter (fun b => bs.find? (fun x => x.tenant == b.tenant) == some b)).map (signHead s)

/-- The batch the signer serves next, with its virtual time and flows after it: one of the shelf chain first, then fair queueing with tenant
weights (15 R386). -/
def signPick (s : State) : Option (Batch × Nat × List Flow) :=
  let heads := signHeads s
  match heads.find? (fun h => h.item.tenant == 0xFFFF) with
  | some h => some (h.item, s.sch.signV, s.sch.signFlows)
  | none =>
    let flows := wakeHeads s.sch.signV heads s.sch.signFlows
    (fairPick flows 1 0 heads).map (fun h => (h.item, fairServe s.sch.signV h.cost h.path flows))

/-- RECEIPT_BATCH_SIGNED: the signer has signed the batch it serves next, which is one of the tenant named, once the custody key is certified (R244,
R246; 15 R386). -/
def execReceiptBatchSigned (tenant : Nat) (s : State) : Host.Outcome State Fault Refusal :=
  .next (match signPick s with
    | some x => if custodyReady s && x.1.tenant == tenant then signBatch x.1 { s with sch := { s.sch with signV := x.2.1, signFlows := x.2.2 } } else s
    | none => s)

/-- This module's unsigned receipts join new batches, which are signed before any new receipt (R558). -/
def reformReceipts (s : State) : State :=
  match s.fix.current with
  | none => s
  | some l =>
    let (l1, bs) := rebatch (mono s) (fun r => !r.signed && !(s.fix.batches.any (fun b => b.tenant == r.tenant && b.number == r.batch))) l
    { s with fix := { s.fix with current := some l1, batches := bs ++ s.fix.batches } }

/-- LANYARD_CHECKPOINT: every IDX_CKPT_INTERVAL of Shelf Time a checkpoint is signed (R253). -/
def execLanyardCheckpoint (s : State) : Host.Outcome State Fault Refusal :=
  .next (if confirmed s s.fix.lastCkpt (pIdxCkptInterval s * secU) then signCheckpoint s else s)

/-! ## Reading (R255, R256) -/

/-- A principal may read a chain: custodian and auditor every one, a tenant its own (R255). -/
def mayReadChain (p : Principal) (chain : Nat) : Bool :=
  match p with
  | .tenant t => t == chain
  | _ => true

/-- The epoch of a chain that a principal reads: a tenant the current one (R255). -/
def readEpoch (s : State) (p : Principal) (l : Lanyard) (chain : Nat) : Nat :=
  match p with
  | .tenant _ => chainEpoch s chain
  | _ => newestEpoch l chain

/-- Bytes a response holds at most (19 R465). -/
def maxResponse : Nat := 1048576

/-- As many whole records as fit in so many bytes. -/
def fitting (room : Nat) : List Flds → List Flds
  | [] => []
  | f :: r => if sizeFlds f ≤ room then f :: fitting (room - sizeFlds f) r else []

/-- The fields of an entry. -/
def entryFull (e : LyEntry) : Flds := entryFlds e.type e.pos e.chain e.epoch e.custody e.commit e.prev3 e.prev2 e.body

/-- LANYARD_READ (R255). -/
def execLanyardRead (c : Call) (id : Digest) (chain : Word16) (first : Word64) (count : Word32) (s : State) :
    Host.Outcome State Fault Refusal :=
  .next (mailboxCmd c 0x0701 .nothing readsLanyard (fun x s =>
    let n := chain.toNat
    if !mayReadChain x.who n then reply c 0x0701 eDenied [] s
    else
      match lanyardAt s id with
      | none => reply c 0x0701 eRange [] s
      | some l =>
        let es := chainEntries l n (readEpoch s x.who l n)
        if first.toNat = 0 ∨ es.length < first.toNat then reply c 0x0701 eRange [] s
        else
          let part := (es.drop (first.toNat - 1)).take count.toNat
          reply c 0x0701 sOk (fitting maxResponse (part.map entryFull)).flatten s) s)

/-- The leaf fields of a chain in a checkpoint (R254). -/
def leafFlds (k : Checkpoint) (chain : Nat) : Flds :=
  match k.heads.find? (fun h => h.1 == chain) with
  | some (ch, ep, pos, h3, h2) => [(2, ch), (2, ep), (8, pos), (32, h3.toNat), (32, h2.toNat)]
  | none => [(2, chain), (2, 0), (8, 0), (32, 0), (32, 0)]

/-- LANYARD_PROOF (R254, R255). -/
def execLanyardProof (c : Call) (id : Digest) (chain : Word16) (number : Word64) (s : State) : Host.Outcome State Fault Refusal :=
  .next (mailboxCmd c 0x0702 .nothing readsLanyard (fun x s =>
    let n := chain.toNat
    if !mayReadChain x.who n then reply c 0x0702 eDenied [] s
    else if 4096 < n then reply c 0x0702 eRange [] s
    else
      match (lanyardAt s id).bind (fun l => l.checkpoints.find? (fun k => k.number == number.toNat)) with
      | none => reply c 0x0702 eRange [] s
      | some k =>
        let other := x.who.tenant?.isSome && k.heads.any (fun h => h.1 == n && h.2.1 != chainEpoch s n)
        if other then reply c 0x0702 eDenied [] s
        else reply c 0x0702 sOk (checkpointFlds k ++ leafFlds k n ++ hashPath (headLeaf k.heads) n 13) s) s)

/-- A whole custody certificate (09 Table 9.1). -/
def certFlds (k : Cert) : Flds :=
  certHead { version := 1, epoch := BitVec.ofNat 16 k.epoch, module := Config.moduleDigest, previous := k.previous, key := k.key } k.issued ++
    [(2, sizeFlds k.statement), (1, k.signers.length), (5, 0)] ++ k.statement ++
    (k.signers.map (fun d => [(32, d.toNat), (4691, Config.sign d (ascii "UAVIK-QUORUM-1" ++ encodeFlds k.statement))])).flatten

/-- A frame of an export (R256). -/
def frame (kind : Nat) (f : Flds) : Flds := [(2, kind), (2, 0), (4, sizeFlds f)] ++ f

/-- The frames a principal may export of a lanyard, in kind order (R256). -/
def exportFrames (s : State) (p : Principal) (l : Lanyard) : List Flds :=
  let mine (chain epoch : Nat) : Bool := match p with
    | .tenant t => chain == t && epoch == chainEpoch s t
    | _ => true
  let es := (lanyardChains l).map (fun c => if mine c.1 c.2 then chainEntries l c.1 c.2 else [])
  s.fix.certs.map (fun k => frame 1 (certFlds k)) ++ l.checkpoints.map (fun k => frame 2 (checkpointFlds k)) ++
    es.flatten.map (fun e => frame 3 (entryFull e)) ++
    (l.receipts.filter (fun r => r.signed && mine r.chain r.epoch)).map (fun r => frame 4 (receiptFlds l r)) ++
    (s.mem.losses.filter (lossVisible p)).map (fun r => frame 5 (lossFlds r))

/-- LANYARD_EXPORT (R256): frames from a cursor, as many whole ones as fit, and the next cursor. -/
def execLanyardExport (c : Call) (id : Digest) (cursor : Word64) (s : State) : Host.Outcome State Fault Refusal :=
  .next (mailboxCmd c 0x0703 .nothing readsLanyard (fun x s =>
    match lanyardAt s id with
    | none => reply c 0x0703 eRange [] s
    | some l =>
      let out := fitting (maxResponse - 8) ((exportFrames s x.who l).drop cursor.toNat)
      reply c 0x0703 sOk (out.flatten ++ [(8, cursor.toNat + out.length)]) s) s)

/-- RECEIPT_READ: a receipt not signed yet is answered when its batch is (R255). -/
def execReceiptRead (c : Call) (id : Digest) (chain : Word16) (pos : Word64) (s : State) : Host.Outcome State Fault Refusal :=
  .next (mailboxCmd c 0x0704 .nothing readsLanyard (fun x s =>
    let n := chain.toNat
    if !mayReadChain x.who n then reply c 0x0704 eDenied [] s
    else
      match lanyardAt s id with
      | none => reply c 0x0704 eRange [] s
      | some l =>
        let ep := readEpoch s x.who l n
        if pos.toNat = 0 ∨ (chainEntries l n ep).length < pos.toNat then reply c 0x0704 eRange [] s
        else
          match receiptAt l n ep pos.toNat with
          | none => reply c 0x0704 eState [] s
          | some r =>
            if r.signed then reply c 0x0704 sOk (receiptFlds l r) s
            else holdTag c { s with fix := { s.fix with waiting := s.fix.waiting ++ [{ mbx := c.mbx, tag := c.tag, lanyard := id, chain := n, epoch := ep, pos := pos.toNat }] } }) s)

/-- FIXITY_DISCLOSE: the salt, size and digests of a sealed object, to its tenant only; any other caller's tenant pays a decoy walk (R240; 02
R50). -/
def execFixityDisclose (c : Call) (coll : Word16) (mac : Digest) (s : State) : Host.Outcome State Fault Refusal :=
  .next (mailboxCmd c 0x0706 .object isTenant (fun x s =>
    let n := coll.toNat
    match (collAt s n).filter (fun k => x.who.tenant? == some k.tenant && k.state == .active) with
    | none => replyNotVisible c 0x0706 (nvODelay s) (x.who.tenant?.elim s (fun t => decoyWalk t n mac s))
    | some k =>
      if !keyHeld s k.tenant then reply c 0x0706 eNotReady [] s
      else
        let s1 := walkEnded k mac (objAt s n mac) (walkTo k.shard k.tenant (macPart mac) n mac s)
        match (objAt s n mac).bind (fun o => o.whip) with
        | none => replyNotVisible c 0x0706 (nvODelay s) s1
        | some w => reply c 0x0706 sOk [(32, w.salt.toNat), (8, w.size), (32, w.sha2.toNat), (32, w.sha3.toNat)] s1) s)

/-! ## CUSTODY_CERTIFY (R243, R244) -/

/-- The key of the epoch before, zero for the first. -/
def previousKey (s : State) : Digest := if s.fix.epoch ≤ 1 then 0 else Config.custodyKey (s.fix.epoch - 1)

/-- What a custody certificate must agree with. -/
def certMatches (s : State) (k : CertBody) : Bool :=
  k.epoch.toNat == s.fix.epoch && k.module == Config.moduleDigest && k.previous == previousKey s && k.key == custodyKeyNow s

/-- The act: the key is certified, deferred checkpoints are signed at once, receipts left unsigned get new batches, and a
partner's lanyard that waited for the key ends (R243, R244, R558). -/
def actCustodyCertify (k : CertBody) (q : QCtx) (s : State) : State :=
  if k.version ≠ 1 then qReply q eFormat [] s
  else if s.fix.epoch = 0 ∨ !certMatches s k then qReply q eDigest [] s
  else
    let cert : Cert := { epoch := s.fix.epoch, key := k.key, issued := s.fix.issued, previous := k.previous, statement := q.stmt, signers := q.signers }
    let s1 := touch .custodyKey (reformReceipts { s with fix := { s.fix with certified := true, certs := s.fix.certs ++ [cert] } })
    let s2 := answerWaiting (endOwed (if s1.fix.deferred then signCheckpoint s1 else s1))
    qReply q sOk (certFlds cert) (quorumDone q shelfChain noStamp s2)

/-- CUSTODY_CERTIFY (R243). -/
def execCustodyCertify (c : Call) (via : Via) (cert : CertBody) (s : State) : Host.Outcome State Fault Refusal :=
  .next (quorumCmd c via (.custodyCertify cert) (actCustodyCertify cert) s)

end Machine
end Sys2Proof
end

