-- ==== Sys2Proof/Machine/Transport.lean ====
section
/-!
DEFINITION. Bryndle and queue-pair transports: the meanings of their packets, messages, setups and timers (12; 13 R343 to R345;
15 R379).
-/
namespace Sys2Proof
namespace Machine

/-! ## DATA packets (12 R308 to R318) -/

/-- The receiver's key phase: a toggled bit is the next phase, and the previous key stays for 2W; while it stays, the other value of the
bit is a packet under it (R327). -/
def phaseIn (phase : Bool) (c : Ctx) (s : State) : State :=
  if phase == decide (c.rxPhase % 2 = 1) || c.oldKey.isSome then s
  else
    let k := { c.keys with rx := nextPhase c.keys.rx, prevRx := some c.keys.rx }
    mirrorCtx c.num c.gen (putCtx { c with rxPhase := c.rxPhase + 1, oldKey := some (mono s + 2 * freshW c), keys := k } s)

/-- Flags bit 3 asks for an ACK at once (R317). -/
def ackIf (asked : Bool) (n : Nat) (s : State) : State := if asked then sendAck n s else s

/-- A DATA packet that has authenticated, in its session: duplicate, beyond the window, of a message known, or of a new one (R313 to
R315, R317, R318). -/
def takeData (p : DataPkt) (ing : Nat) (c : Ctx) (s : State) : State :=
  if !seqAfter c.through p.seq then paceAck c.num s
  else if 256 < seqDist c.through p.seq then s
  else
    match c.inMsgs.find? (fun m => m.seq == p.seq) with
    | some m =>
      if m.refused || m.id != p.id then s
      else if m.whole.isSome then paceAck c.num s
      else if (m.got.lookup p.index).isSome then sendNak c.num m s
      else ackIf p.ackNow c.num (joinMsg c.num p ing s)
    | none =>
      if (freshW c / nsU : Nat) < ageOf s c ing (p.id / 65536) then bumpFigure 0x12000054 1 s
      else if decide (4194304 ≤ s.trn.seen.length) && !s.trn.seen.any (fun e => e.1 == seenKey c && e.2.1 == p.id) then
        raise stTRN 2 noInst s
      else
        let s1 := ackIf p.ackNow c.num (joinMsg c.num p ing (startMsg c p ing s))
        if 1 < p.count ∧ p.index + 1 = p.count then
          match (ctxAt s1 c.num).bind (fun x => x.inMsgs.find? (fun m => m.seq == p.seq && !m.refused)) with
          | some m => sendNak c.num m s1
          | none => s1
        else s1

/-- A DATA packet whose context is on-die: its tag, then its session (R309, R313; 15 R388). -/
def dataIn (p : DataPkt) (ing : Nat) (c : Ctx) (s : State) : State :=
  if !p.tagOk then authFail s
  else if quietDrops s c.who.tenant? p.mac then countDrop c.who.tenant? s
  else
    let s1 := phaseIn p.phase c s
    let s2 := passTag ((ctxAt s1 c.num).getD c) p.mac ing p.src s1
    let c2 := lowerOffset s2 ((ctxAt s2 c.num).getD c) ing (p.id / 65536)
    let c3 := { c2 with ceMarks := if p.ce then c2.ceMarks + 1 else c2.ceMarks }
    takeData p ing c3 (putCtx c3 s2)

/-- A Bryndle packet other than DATA whose context is on-die. -/
def ctlIn (p : CtlPkt) (ing : Nat) (act : Ctx → State → State) (c : Ctx) (s : State) : State :=
  if !p.tagOk then authFail s
  else if quietDrops s c.who.tenant? p.mac then countDrop c.who.tenant? s
  else
    let s1 := passTag c p.mac ing p.src s
    act ((ctxAt s1 c.num).getD c) s1

/-- ACK: the messages it covers are acknowledged, and CE marks are a congestion signal (R318; 15 R379). -/
def ackAct (through : Nat) (bitmap : BitVec 256) (ceMarks : Nat) (c : Ctx) (s : State) : State :=
  let s1 := takeAcks c.num through bitmap s
  if 0 < ceMarks then ccSignal c.num s1 else s1

/-- NAK: the packets it names are sent again (R317). -/
def nakAct (seq : Nat) (ranges : List (Nat × Nat)) (c : Ctx) (s : State) : State :=
  match c.outMsgs.find? (fun o => o.seq == seq && !o.queued) with
  | some o => resend c.num o ranges s
  | none => s

/-- STATUS_REQ: a message in reassembly is discarded; the answer is STATUS (R319). -/
def statusReqAct (seq : Nat) (c : Ctx) (s : State) : State :=
  let s1 := discardIn c.num seq s
  match ctxAt s1 c.num with
  | some c1 => sendCtl c.num 5 (ackFlds c1) s1
  | none => s1

/-- STATUS: the messages it covers count as acknowledged; the one asked for, if it is not among them, goes again under a new id and
its sequence (R319). -/
def statusAct (through : Nat) (bitmap : BitVec 256) (asked : Nat) (c : Ctx) (s : State) : State :=
  let s1 := takeAcks c.num through bitmap s
  match (ctxAt s1 c.num).bind (fun x => x.outMsgs.find? (fun o => o.seq == asked && o.statusAsked)) with
  | some o => launch c.num o s1
  | none => s1

/-- CLOSE: the session ends; the instant of revocation is its ingress stamp (R320; 13 R342). -/
def closeAct (ing : Nat) (c : Ctx) (s : State) : State := endCtxAt ing c.num s

/-! ## RoCE v2 (12 R331, R332) -/

/-- Sends RoCE packets that are no request, under their SA (R332): 6 ACK, 7 RNR NAK, 8 NAK with its syndrome, 9 CNP, 10 READ response, 11 and 12
RDMA_CM reject and reply. -/
def sendRoce (n op status : Nat) (body : Flds) (data : Bytes) (s : State) : State :=
  match ctxAt s n with
  | none => s
  | some c =>
    let (heads, s1) := espSend c (max 1 (ceilDiv data.length c.payload)) s
    transmit c.mac .fair (ctxFlow c) (classOf s c.mac) (160 + data.length)
      { port := .ctx n, kind := .roce, op := op, tag := 0, status := status, body := body, data := data, wire := heads.map (fun b => (c.src, b)) } s1

/-- A queue pair answers a NAK and moves to the error state (13 R344; IBTA Volume 1, log entry 24). -/
def qpNak (n syndrome : Nat) (s : State) : State := endCtx n (sendRoce n 8 syndrome [] [] s)

/-- A request is complete: its PSN advances, it is acknowledged with the message sequence number, once the partner holds what the ACK
covers (18 R445). -/
def qpAck (n : Nat) (s : State) : State :=
  match ctxAt s n with
  | none => s
  | some c =>
    let c1 := { c with through := c.through + 1, inMsgs := [] }
    if ackWaits s n then putCtx { c1 with ackDue := some (c.ackDue.getD (mono s)) } s
    else sendRoce n 6 0 [(3, (c.through + 1) % 16777216)] [] (putCtx c1 s)

/-- The last packet of a request: a SEND passes on, a write is placed and notified, a READ is answered from the region it names. -/
def qpWhole (c : Ctx) (m : InMsg) (s : State) : State :=
  let data := (m.got.reverse.map Prod.snd).flatten
  let n := c.num
  if m.opcode = 1 then
    if 8256 < data.length then qpNak n 0x61 s else qpAck n s
  else if m.opcode = 4 then
    match m.region.bind (regionAt s) with
    | some r => qpAck n (sendRoce n 10 0 [] (landRead s r m.addr.toNat m.length) s)
    | none => s
  else
    match m.region.bind (regionAt s) with
    | some r =>
      let s1 := qpAck n (mirrorPush n m.addr.toNat (data.take m.length) (endPush n m.id (landWrite r m.addr.toNat (data.take m.length) s)))
      if m.opcode = 3 then notify r.owner m.imm m.addr.toNat m.length (now s) s1 else s1
    | none => s

/-- A request packet in PSN order: first packets open a request, and a push is admitted or refused with it (13 R343, R344). -/
def qpRequest (p : RocePkt) (ing : Nat) (c : Ctx) (s : State) : State :=
  let c1 := { c with psn := (c.psn + 1) % 16777216 }
  let n := c.num
  let go (m : InMsg) (t : State) : State :=
    let c2 := (ctxAt t n).getD c1
    let t1 := putCtx { c2 with inMsgs := [m] } t
    if p.last then qpWhole c2 m t1 else t1
  if p.first then
    let m : InMsg :=
      { id := p.psn, seq := 0, opcode := p.opcode, count := 0, got := [(0, p.data)], length := p.length, key := p.key, addr := p.addr,
        imm := p.imm, first := ing, whole := none, region := none, refused := false, nakAt := none }
    if p.opcode = 1 then go m (putCtx c1 s)
    else
      match admitPush s c p.key.toNat p.addr.toNat p.length ing with
      | none => qpNak n 0x62 (countRefused s)
      | some r =>
        let m1 := { m with region := some r.owner }
        if p.opcode = 4 then go m1 (putCtx c1 s) else go m1 (takePush r n p.psn p.addr.toNat p.length (putCtx c1 s))
  else
    match c.inMsgs with
    | m :: _ =>
      if m.opcode = p.opcode then go { m with got := (0, p.data) :: m.got, imm := if p.last then p.imm else m.imm } (putCtx c1 s)
      else qpNak n 0x61 s
    | [] => qpNak n 0x61 s

/-- Every message the queue pair has sent and that is not acknowledged goes again. -/
def qpAgain (n : Nat) (s : State) : State :=
  match ctxAt s n with
  | none => s
  | some c => (c.outMsgs.filter (fun o => !o.queued)).foldl (fun acc o => resend n o [(0, o.packets)] acc) s

/-- One retry: the count is spent, or the messages go again (Table 12.6). -/
def qpRetry (n : Nat) (s : State) : State :=
  match ctxAt s n with
  | none => s
  | some c =>
    if c.retries = 0 then endCtx n s
    else qpAgain n (putCtx { c with retries := c.retries - 1, qpAckAt := some (mono s + c.set.roceAck * usU) } s)

/-- An acknowledgement up to a message sequence number. -/
def qpAcked (msn : Nat) (c : Ctx) (s : State) : State :=
  let left := c.outMsgs.filter (fun o => o.queued || decide (msn < o.seq % 16777216))
  let gone := c.outMsgs.filter (fun o => !o.queued && decide (o.seq % 16777216 ≤ msn))
  let due := if left.any (fun o => !o.queued) then some (mono s + c.set.roceAck * usU) else none
  pumpOut c.num (mirrorRetire c.num gone (putCtx { c with outMsgs := left, retries := 7, rnr := 7, qpAckAt := due } s))

/-- A CNP for a CE-marked packet, at most once per TRN_CNP_INTERVAL (Table 12.6). -/
def qpMarked (ce : Bool) (n : Nat) (s : State) : State :=
  match ctxAt s n with
  | none => s
  | some c =>
    if ce && decide (c.cnpAt + c.set.cnpGap * usU ≤ mono s) then sendRoce n 9 0 [] [] (putCtx { c with cnpAt := mono s } s) else s

/-- The first packet under a new SA: the old inbound SA stays 2W from it (R333). -/
def newSa (parent spi : Nat) (s : State) : State :=
  match ctxAt s parent with
  | none => s
  | some c =>
    match c.oldSpi with
    | some (o, 0) => if spi = c.spiIn then putCtx { c with oldSpi := some (o, mono s + 2 * freshW c) } s else s
    | _ => s

/-- The anti-replay window of the SA of an inbound SPI (R332). -/
def espWindow (c : Ctx) (spi : Nat) : EspWin := if spi = c.spiIn then c.espIn else c.espOld

/-- A packet of an SA is accepted into its window. -/
def espAccept (n spi q : Nat) (s : State) : State :=
  match ctxAt s n with
  | none => s
  | some c => if spi = c.spiIn then putCtx { c with espIn := espTake c.espIn q } s else putCtx { c with espOld := espTake c.espOld q } s

/-- A RoCE v2 packet whose queue pair's context is on-die, under RC rules: PSN order, requests, acknowledgements, READ responses, NAKs
(R331). -/
def roceIn (p : RocePkt) (ing : Nat) (c : Ctx) (s : State) : State :=
  if quietDrops s c.who.tenant? p.mac then countDrop c.who.tenant? s
  else
    let n := c.num
    let s1 := qpMarked p.ce n (passTag c p.mac ing c.src s)
    let c1 := (ctxAt s1 n).getD c
    let ahead := (p.psn + 16777216 - c.psn) % 16777216
    match p.opcode with
    | 1 | 2 | 3 | 4 =>
      if ahead = 0 then qpRequest p ing c1 s1
      else if ahead < 8388608 then sendRoce n 8 0x60 [] [] s1
      else sendRoce n 6 0 [(3, c1.through % 16777216)] [] s1
    | 6 => qpAcked p.imm.toNat c1 s1
    | 7 => if c1.rnr = 0 then endCtx n s1 else qpAgain n (putCtx { c1 with rnr := c1.rnr - 1 } s1)
    | 8 => if p.imm.toNat = 0x60 then qpRetry n s1 else endCtx n s1
    | _ => s1

/-- A packet taken from the holding area, or one whose context is on-die already. -/
def handlePacket (i : Instr) (ing : Nat) (c : Ctx) (s : State) : State :=
  match i with
  | .dataPacket p => dataIn p ing c s
  | .ack p through bitmap ceMarks => ctlIn p ing (ackAct through bitmap ceMarks) c s
  | .nak p seq ranges => ctlIn p ing (nakAct seq ranges) c s
  | .statusReq p seq => ctlIn p ing (statusReqAct seq) c s
  | .status p through bitmap asked => ctlIn p ing (statusAct through bitmap asked) c s
  | .close p _ => ctlIn p ing (closeAct ing) c s
  | .rocePacket p => roceIn p ing c s
  | _ => s

/-- A Bryndle packet arrives: its session and header, then its context (R305, R309). -/
def bryndleIn (i : Instr) (n gen mac bytes : Nat) (headerOk : Bool) (s : State) : State :=
  if !taking s then s
  else
    match headerOk, ctxFor s n gen with
    | true, some c => onDieOr i c mac bytes (handlePacket i) s
    | _, _ => authFail s

/-- A control packet arrives. -/
def ctlArrive (i : Instr) (p : CtlPkt) (s : State) : State := bryndleIn i p.ctx p.gen p.mac 128 p.headerOk s

/-- The header of a DATA packet is well formed (R309, R310, R316, Table 12.2). -/
def dataHeaderOk (p : DataPkt) : Bool :=
  p.headerOk && p.rsv == 0 && p.seq != 0 && decide (p.seq ≤ seqSpan) && decide (p.index < p.count) && decide (p.count ≤ 65536) &&
  decide (1 ≤ p.opcode ∧ p.opcode ≤ 5) && decide (p.length ≤ 67108864)

/-- DATA_PACKET. A packet that matches the seen table and whose message is delivered needs no fetch (R314). -/
def execDataPacket (p : DataPkt) (s : State) : Host.Outcome State Fault Refusal :=
  let known (c : Ctx) : Bool := s.trn.seen.any (fun e => e.1 == seenKey c && e.2.1 == p.id) &&
    (!seqAfter c.through p.seq || c.inMsgs.any (fun m => m.seq == p.seq && m.whole.isSome))
  match (ctxFor s p.ctx p.gen).filter (fun c => c.place != .onDie && dataHeaderOk p && known c) with
  | some c => .next (if taking s then dueAck c.num s else s)
  | none => .next (bryndleIn (.dataPacket p) p.ctx p.gen p.mac (64 + p.data.length) (dataHeaderOk p) s)

/-- ACK (R318; 15 R379). -/
def execAck (p : CtlPkt) (through : Nat) (bitmap : BitVec 256) (ceMarks : Nat) (s : State) : Host.Outcome State Fault Refusal :=
  .next (ctlArrive (.ack p through bitmap ceMarks) p s)

/-- NAK (R317). -/
def execNak (p : CtlPkt) (seq : Nat) (ranges : List (Nat × Nat)) (s : State) : Host.Outcome State Fault Refusal :=
  .next (ctlArrive (.nak p seq ranges) p s)

/-- STATUS_REQ (R319). -/
def execStatusReq (p : CtlPkt) (seq : Nat) (s : State) : Host.Outcome State Fault Refusal := .next (ctlArrive (.statusReq p seq) p s)

/-- STATUS (R319). -/
def execStatus (p : CtlPkt) (through : Nat) (bitmap : BitVec 256) (asked : Nat) (s : State) : Host.Outcome State Fault Refusal :=
  .next (ctlArrive (.status p through bitmap asked) p s)

/-- CLOSE (R320). -/
def execClose (p : CtlPkt) (code : Word16) (s : State) : Host.Outcome State Fault Refusal := .next (ctlArrive (.close p code) p s)

/-- The SA pair of an SPI: the service 5 session whose inbound SPI, present or old, it is (R332, R333). -/
def saOf (s : State) (spi : Nat) : Option Ctx :=
  s.trn.ctxs.find? (fun c => c.kind == .bryndle 5 && !c.closing && (c.spiIn == spi || c.oldSpi.any (fun o => o.1 == spi)))

/-- ROCE_PACKET: outside ESP, under an unknown SPI or with a failed ICV it is dropped and counted; one whose sequence number is not new is
dropped; on a full holding area it is dropped and its PSN recorded for an RNR NAK (R306, R332). -/
def execRocePacket (p : RocePkt) (s0 : State) : Host.Outcome State Fault Refusal :=
  .next (
    if !taking s0 then s0
    else
      match p.esp && p.icvOk, saOf s0 p.spi with
      | true, some sa =>
        if !espFresh (espWindow sa p.spi) p.espSeq then s0 else
        let s := espAccept sa.num p.spi p.espSeq s0
        match (ctxAt s p.qp).filter (fun c => !c.closing && !c.qpError && (match c.kind with
          | .qp a _ => a == sa.num
          | .bryndle _ => false)) with
        | none => s
        | some c =>
          let s1 := newSa sa.num p.spi s
          if c.place == .onDie && !s1.trn.holding.any (fun h => h.ctx == c.num) then roceIn p (mono s1) c s1
          else
            match holdPacket (.rocePacket p) c p.mac (160 + p.data.length) s1 with
            | some s2 => s2
            | none =>
              let s2 := missDrop s1
              if 1024 ≤ (s2.trn.nakQ.filter (fun k => k.1 == p.mac / 8)).length then raise stTRN 1 noInst s2
              else { s2 with trn := { s2.trn with nakQ := s2.trn.nakQ ++ [(p.mac / 8, p.qp, p.psn)] } }
      | _, _ => authFail s0)

/-! ## Delivery (12 R321) -/

/-- Delivers a whole message at its turn: the next sequence of its session, of the opcode given (R321). -/
def deliver (op n seq : Nat) (act : Ctx → InMsg → State → State) (s : State) : State :=
  match (ctxAt s n).filter (fun c => !c.closing && !isQp c && serving s && decide (seq = seqNext c.through)) with
  | none => s
  | some c =>
    match c.inMsgs.find? (fun m => m.seq == seq && m.opcode == op && m.whole.isSome && !m.refused) with
    | none => s
    | some m => refusalTurn n (dueAck n (act c m (putCtx { c with through := seq, inMsgs := dropIf (fun x => x.seq == seq) c.inMsgs } s)))

/-- The bytes of a delivered write become visible, and its push is delivered. -/
def placeWrite (c : Ctx) (m : InMsg) (s : State) : State :=
  match m.region.bind (regionAt s) with
  | some r => mirrorPush c.num m.addr.toNat ((msgBytes m).take m.length) (endPush c.num m.id (landWrite r m.addr.toNat ((msgBytes m).take m.length) s))
  | none => s

/-- SEND: the payload passes to the command layer, where its commands are rows of their own (log entry 17). -/
def execSend (ctx seq : Nat) (s : State) : Host.Outcome State Fault Refusal := .next (deliver 1 ctx seq (fun _ _ t => t) s)

/-- WRITE. -/
def execWrite (ctx seq : Nat) (s : State) : Host.Outcome State Fault Refusal := .next (deliver 2 ctx seq placeWrite s)

/-- WRITE_IMM: the notification carries the owner context of the region written (13 R346). -/
def execWriteImm (ctx seq : Nat) (s : State) : Host.Outcome State Fault Refusal :=
  .next (deliver 3 ctx seq (fun c m t =>
    match m.region with
    | some o => notify o m.imm m.addr.toNat m.length (now t - (mono t - m.whole.getD (mono t))) (placeWrite c m t)
    | none => t) s)

/-- READ_REQ: the READ_RESP carries the return key and address; the request names no source address, so the data is free (R310; log
entry 17). A length above the largest message is not answered. -/
def execReadReq (ctx seq : Nat) (s : State) : Host.Outcome State Fault Refusal :=
  .next (deliver 4 ctx seq (fun c m t =>
    let b := msgBytes m
    let len := leValue (b.take 4)
    if 67108864 < len then t
    else
      let f := freeRun len t
      sendOn c.num 5 { port := .ctx c.num, kind := .remoteRead, op := 5, tag := 0, status := 0,
                       body := [(4, leValue ((b.drop 8).take 4)), (8, leValue ((b.drop 16).take 8))], data := f.1 } f.2) s)

/-- READ_RESP: the read completes; the data it placed is an operand of the command that asked (log entry 17). -/
def execReadResp (ctx seq : Nat) (s : State) : Host.Outcome State Fault Refusal := .next (deliver 5 ctx seq (fun _ _ t => t) s)

/-! ## Contexts (12 R305 to R307) -/

/-- CONTEXT_FETCH_COMPLETE: the held packets are processed in arrival order, and the RNR NAKs recorded for the context are sent (R305,
R306). -/
def execContextFetchComplete (ctx : Nat) (s : State) : Host.Outcome State Fault Refusal :=
  .next (
    match (ctxAt s ctx).filter (fun c => c.place == .fetching || (c.place == .writeBack && s.trn.holding.any (fun h => h.ctx == ctx))) with
    | none => s
    | some c =>
      let mine := s.trn.holding.filter (fun h => h.ctx == ctx)
      let naks := s.trn.nakQ.filter (fun k => k.2.1 == ctx)
      let s1 := bringIn c { s with trn := { s.trn with holding := dropIf (fun h => h.ctx == ctx) s.trn.holding,
                                                       nakQ := dropIf (fun k => k.2.1 == ctx) s.trn.nakQ } }
      let s2 := mine.foldl (fun acc h =>
        match (ctxAt acc ctx).filter (fun x => !x.closing) with
        | some x => handlePacket h.cmd h.ingress x acc
        | none => authFail acc) s1
      naks.foldl (fun acc k => sendRoce ctx 7 0 [(3, k.2.2), (4, c.set.rnrTimer)] [] acc) s2)

/-- CONTEXT_EVICT: a write-back in progress has ended; the least recently used context that may be replaced begins its own (R307). -/
def execContextEvict (s : State) : Host.Outcome State Fault Refusal :=
  .next (
    if !serving s then s
    else
      let ended (c : Ctx) : Ctx :=
        if c.place == .writeBack then { c with place := if s.trn.holding.any (fun h => h.ctx == c.num) then .fetching else .dram } else c
      let s1 := { s with trn := { s.trn with ctxs := s.trn.ctxs.map ended } }
      match evictee s1 with
      | some c => putCtx { c with place := .writeBack } s1
      | none => s1)

/-! ## Timers (12 R313 to R319, R327, R333) -/

/-- A timer of a context: on an evicted one it causes a fetch (R318), and a held packet is processed first (R83). -/
def ctxTimer (n : Nat) (act : Ctx → State → State) (s : State) : State :=
  match (ctxAt s n).filter (fun c => !c.closing && serving s) with
  | none => s
  | some c =>
    if c.place != .onDie then startFetch c s
    else if packetHeld s n then s
    else act c s

/-- SEEN_ENTRY_EXPIRY (R314). -/
def execSeenEntryExpiry (ctx id : Nat) (s : State) : Host.Outcome State Fault Refusal :=
  .next (if packetHeld s ctx then s else { s with trn := { s.trn with
    seen := dropIf (fun e => e.1 % 1048576 == ctx && e.2.1 == id && decide (e.2.2 ≤ mono s)) s.trn.seen } })

/-- REASSEMBLY_EXPIRY: a message whose age passes W before it is whole is discarded, and its push abandoned (R315; 13 R345). -/
def execReassemblyExpiry (ctx seq : Nat) (s : State) : Host.Outcome State Fault Refusal :=
  .next (ctxTimer ctx (fun c t =>
    if c.inMsgs.any (fun m => m.seq == seq && m.whole.isNone && !m.refused &&
        decide ((freshW c / nsU : Nat) < ageOf t c (mono t) (m.id / 65536))) then discardIn ctx seq t
    else t) s)

/-- ACK_DELAY_TIMER (R317). -/
def execAckDelayTimer (ctx : Nat) (s : State) : Host.Outcome State Fault Refusal :=
  .next (ctxTimer ctx (fun c t => if c.ackDue.isSome then sendAck ctx t else t) s)

/-- NAK_DELAY_TIMER (R317). -/
def execNakDelayTimer (ctx seq : Nat) (s : State) : Host.Outcome State Fault Refusal :=
  .next (ctxTimer ctx (fun c t =>
    match c.inMsgs.find? (fun m => m.seq == seq && m.whole.isNone && m.nakAt.any (fun x => decide (x + ackW c ≤ mono t))) with
    | some m => mapIn ctx seq (fun x => { x with nakAt := none }) (sendNak ctx m t)
    | none => t) s)

/-- RETRANSMIT_TIMEOUT: the last packet of each unacknowledged message goes again, and the timeout doubles up to TRN_RTO_MAX (R318). -/
def execRetransmitTimeout (ctx : Nat) (s : State) : Host.Outcome State Fault Refusal :=
  .next (ctxTimer ctx (fun c t =>
    if !isQp c && c.rtoAt.any (fun x => confirmed t x 0) then
      let r := min (c.set.rtoMax * usU) (2 * c.rto)
      (c.outMsgs.filter (fun o => !o.queued)).foldl (fun acc o => resend ctx o [(o.packets - 1, 1)] acc)
        (putCtx { c with rto := r, rtoAt := some (mono t + r) } t)
    else t) s)

/-- MESSAGE_AGE_TIMEOUT: an unacknowledged message of age W is asked about with STATUS_REQ (R319). -/
def execMessageAgeTimeout (ctx seq : Nat) (s : State) : Host.Outcome State Fault Refusal :=
  .next (ctxTimer ctx (fun c t =>
    if !isQp c && c.outMsgs.any (fun o => o.seq == seq && !o.queued && !o.statusAsked && confirmed t o.sentAt (freshW c)) then
      sendCtl ctx 4 [(4, seq), (4, 0)]
        (putCtx { c with outMsgs := mapIf (fun o => o.seq == seq) (fun o => { o with statusAsked := true }) c.outMsgs } t)
    else t) s)

/-- DEAD_TIME_EXPIRY: a session that has answered nothing for TRN_DEAD_TIME is closed with E_SESSION (R319, R320). -/
def execDeadTimeExpiry (ctx : Nat) (s : State) : Host.Outcome State Fault Refusal :=
  .next (ctxTimer ctx (fun c t =>
    if !isQp c && c.outMsgs.any (fun o => !o.queued) && confirmed t c.heard (deadW c) then closeCtx eSession ctx (raise stTRN 4 noInst t)
    else t) s)

/-- KEY_PHASE_CHANGE: not again within 2W of the last change (R327). -/
def execKeyPhaseChange (ctx : Nat) (s : State) : Host.Outcome State Fault Refusal :=
  .next (ctxTimer ctx (fun c t =>
    if isQp c || (decide (0 < c.txPhase) && decide (mono t < c.txSince + 2 * freshW c)) then t
    else mirrorCtx ctx c.gen (putCtx (advancePhase t c) t)) s)

/-- OLD_KEY_EXPIRY (R327). -/
def execOldKeyExpiry (ctx : Nat) (s : State) : Host.Outcome State Fault Refusal :=
  .next (ctxTimer ctx (fun c t => if c.oldKey.any (fun x => confirmed t x 0) then putCtx { c with oldKey := none, keys := { c.keys with prevRx := none } } t
    else t) s)

/-- SA_REKEY: the module asks for a new SA pair by SETUP_CHILD of service 5 on the parent session (R333). -/
def execSaRekey (ctx : Nat) (s : State) : Host.Outcome State Fault Refusal :=
  .next (ctxTimer ctx (fun c t =>
    if c.kind == .bryndle 5 then
      let d := drawDigest t
      sendCtl ctx 0x14 [(1, 5), (3, 0), (4, sessionField c), (32, d.1.toNat)] (putCtx { c with saNonce := d.1 } d.2)
    else t) s)

/-- OLD_SA_EXPIRY (R333). -/
def execOldSaExpiry (ctx : Nat) (s : State) : Host.Outcome State Fault Refusal :=
  .next (ctxTimer ctx (fun c t =>
    if c.oldSpi.any (fun o => decide (0 < o.2) && confirmed t o.2 0) then
      putCtx { c with oldSpi := none, keys := { c.keys with prevEspRx := none }, espOld := { top := 0, seen := [] } } t
    else t) s)

/-- ROCE_ACK_TIMEOUT (Table 12.6). -/
def execRoceAckTimeout (ctx : Nat) (s : State) : Host.Outcome State Fault Refusal :=
  .next (ctxTimer ctx (fun c t => if isQp c && c.qpAckAt.any (fun x => confirmed t x 0) then qpRetry ctx t else t) s)

/-- CNP for a queue pair (15 R379). -/
def execCnp (ctx : Nat) (s : State) : Host.Outcome State Fault Refusal :=
  .next (if taking s && (ctxAt s ctx).any (fun c => isQp c && !c.closing) then ccSignal ctx s else s)

/-- CC_RECOVER_TIMER (15 R379). -/
def execCcRecoverTimer (ctx : Nat) (s : State) : Host.Outcome State Fault Refusal :=
  .next (
    match (ctxAt s ctx).filter (fun c => !c.closing && serving s && !packetHeld s ctx && confirmed s c.rateAt (pSchCcRecover s * usU)) with
    | none => s
    | some c => putCtx { c with cc := ccNow s c, ccAt := refillsNow s, rate := min (macRate s c.mac) (c.rate + pSchCcStep s),
                                rateAt := mono s } s)

/-! ## Setup (12 R323 to R326) -/

/-- The packets of a setup message: of 1,024 bytes, in clear or sealed under a handshake key (R310, R323). -/
def setupPackets (type session id : Nat) (initiator : Bool) (key : Option (BitVec 512)) (b : Bytes) : List Bytes :=
  let n := max 1 (ceilDiv b.length 1024)
  (List.range n).map (fun i =>
    let h := packetHead type 0 0 session id 0 i n b.length 0 0 0
    let x := (b.drop (1024 * i)).take 1024
    match key with
    | some k => sealPacket k initiator type id i h x
    | none => h ++ x)

/-- A setup packet leaves: setup packets are of the second order of a MAC (15 R384). -/
def sendSetup (mac op tag status : Nat) (body : Flds) (wire : List (PeerAddr × Bytes)) (s : State) : State :=
  transmit mac .ack .shelf (classOf s mac) (64 + sizeFlds body) { msg (.mac mac) .setup op tag status body with wire := wire } s

/-- The payload of a SETUP_INIT (Table 12.4). -/
def initFlds (m : InitMsg) : Flds :=
  [(1, m.version), (1, m.service), (1, m.sizes.toNat), (1, m.suite), (4, m.ictx), (8, m.rsv.toNat), (32, m.nonce.toNat), (32, m.dh.toNat),
   (1568, m.kem)]

/-- The grant record of SETUP_AUTH (02 Table 2.2). -/
def grantFlds (g : GrantRec) (sig : Nat) : Flds :=
  [(2, g.version.toNat), (1, g.kind.toNat), (1, 0), (2, g.tenant.toNat), (2, g.scope.length), (8, g.serial.toNat), (8, g.notBefore),
   (8, g.notAfter), (32, g.holder.toNat), (32, g.issuer.toNat)] ++
  g.scope.map (fun e => (4, (if e.isNs then 2 ^ 31 else 0) + e.num.toNat)) ++ [(4691, sig)]

/-- The plaintext of a SETUP_AUTH (Table 12.4). -/
def authFlds (m : AuthMsg) : Flds :=
  [(1, m.kind), (7, 0)] ++
  (if m.kind = 3 then [(96, m.sig)]
   else [(2624, Config.publicKey m.key)] ++ ((m.grant.map (fun g => grantFlds g m.grantSig)).getD []) ++ [(4691, m.sig)])

/-- A SETUP_RESP that carries only a refusal (R323, R325). -/
def refuseInit (m : InitMsg) (code : Nat) (s : State) : State :=
  sendSetup m.mac 0x11 m.ictx code [(2, code)]
    ((setupPackets 0x11 m.ictx 1 false none (leBytes 2 code)).map (fun b => (m.src, b))) s

/-- What a SETUP_INIT that is taken makes: the fields of SETUP_RESP, its bytes, the setup that is kept, the state its draws leave. KI is
fixed by the keys of the two messages, and the signature covers both (R323, R324; Table 12.4). -/
def setupAnswer (m : InitMsg) (p : Nat) (s : State) : Flds × Bytes × Setup × State :=
  let h := ((List.range (s.trn.setups.length + 1)).find? (fun n => !(s.trn.setups.any (fun x => x.handle == n)))).getD 0
  let (nonce, s1) := drawDigest s
  let (dh, s2) := draw s1
  let (r, s3) := draw s2
  let head : Flds := [(2, sOk), (1, payloadBit p), (1, 0), (4, h), (32, nonce.toNat), (32, (Config.x25519 dh).toNat),
                      (1568, Config.kemEncap m.kem r), (4, Config.certChain.length)]
  let pre := encodeFlds (initFlds m) ++ encodeFlds head ++ Config.certChain
  let sig := Config.deviceSign (ascii "UAVIK-SESSION-R1" ++ pre)
  let resp := encodeFlds head ++ Config.certChain ++ leBytes 96 sig
  let x : Setup := { handle := h, service := m.service, payload := p, mac := m.mac, since := mono s, nonce := nonce,
                     initiator := false, hitch := none, src := m.src, peer := m.ictx, script := encodeFlds (initFlds m) ++ resp,
                     ki := setupKi (Config.kemShared m.kem r) (Config.dhShared dh m.dh), dh := 0, kem := 0 }
  (head ++ [(96, sig)], resp, x, s3)

/-- SETUP_INIT: E_SETUP_BUSY beyond the limit, E_CIPHER where nothing is supported, else SETUP_RESP; to another UDP port it is no Bryndle
packet, and the tether carries service 4 only (R308, R323, R325; 18 R458). -/
def execSetupInit (m : InitMsg) (s : State) : Host.Outcome State Fault Refusal :=
  .next (
    if !taking s || (if onTether m.mac then decide (m.service ≠ 4) else decide (m.udp.toNat ≠ pTrnUdpPort s)) then s
    else if m.rsv != 0 then authFail s
    else if pTrnSetupMax s ≤ s.trn.setups.length then refuseInit m eSetupBusy (raise stTRN 3 noInst s)
    else
      match decide (m.version = 1 ∧ m.suite = 1), choosePayload s m.mac m.sizes with
      | true, some p =>
        let (flds, resp, x, s1) := setupAnswer m p s
        sendSetup m.mac 0x11 m.ictx sOk flds ((setupPackets 0x11 m.ictx 1 false none resp).map (fun b => (m.src, b)))
          { s1 with trn := { s1.trn with setups := s1.trn.setups ++ [x] } }
      | _, _ => refuseInit m eCipher s)

/-- The fields of SETUP_DONE after its status (Table 12.4). -/
def doneFlds (s : State) (n : Nat) : Flds :=
  match ctxAt s n with
  | none => []
  | some c => [(2, 0), (4, sessionField c)] ++ (if c.kind == .bryndle 5 then [(4, c.spiIn), (4, c.spiOut)] else [])

/-- A depth of a UOP queue, from 1 to 256 (05 R119). -/
def depthOf (d : Nat) : Nat := min 256 (max 1 d)

/-- A refusal of a setup for the landing pool sets TRN_RG_STATUS bit 0 (13 R339). -/
def landingFlag (code : Nat) (s : State) : State := if code = eLanding then raise stRG 0 noInst s else s

/-- SETUP_DONE leaves, sealed under the handshake key (R323, R324). -/
def sendDone (x : Setup) (status : Nat) (body : Flds) (s : State) : State :=
  let k := (handshakeKeys x.ki (Config.sha3 x.script) false).1
  sendSetup x.mac 0x13 x.handle status ((2, status) :: body)
    ((setupPackets 0x13 x.peer 2 false (some k) (encodeFlds ((2, status) :: body))).map (fun b => (x.src, b))) s

/-- The session that a SETUP_AUTH opens for its principal, under the traffic keys of the three messages (R323 to R325). -/
def authSession (m : AuthMsg) (x : Setup) (who : Principal) (s : State) : Nat × State :=
  openSession (.bryndle x.service) who x.mac x.payload (depthOf m.depth) (signed48 ((stampOf s (mono s) : Int) - (m.timestamp : Int))) x.nonce
    { peer := x.peer, src := x.src, keys := sessionKeys x.ki (Config.sha3 (x.script ++ encodeFlds (authFlds m))) false } s

/-- SETUP_AUTH: signatures, role, then the rest of R325; under QUIET a setup on a MAC not named is dropped (15 R388). -/
def execSetupAuth (m : AuthMsg) (s : State) : Host.Outcome State Fault Refusal :=
  .next (
    if !taking s then s
    else
      match s.trn.setups.find? (fun x => x.handle == m.handle && !x.initiator) with
      | none => authFail s
      | some x =>
        let s1 := { s with trn := { s.trn with setups := dropIf (fun y => y.handle == m.handle && !y.initiator) s.trn.setups } }
        let refuse (code : Nat) (t : State) : State := sendDone x code [(2, 0), (4, 0)] (landingFlag code t)
        if !m.sigOk || (decide (m.kind = 2) && !m.grantOk) then refuse eSignature s1
        else
          match credential s1 m.kind m.key m.grant with
          | none => refuse eDenied s1
          | some who =>
            if quietDrops s1 who.tenant? x.mac then countDrop who.tenant? s
            else
              match setupRefusal s1 x.service x.payload who with
              | some code => refuse code s1
              | none =>
                let (n, s2) := authSession m x who s1
                sendDone x sOk (doneFlds s2 n) s2)

/-- The child session of a parent, with the module's nonce; its keys come from the parent's child secret and the two nonces (R326). -/
def childSession (c : Ctx) (service ictx : Nat) (nonce r : Digest) (timestamp depth : Nat) (s : State) : Nat × State :=
  openSession (.bryndle service) c.who c.mac c.payload (depthOf depth) (signed48 ((stampOf s (mono s) : Int) - (timestamp : Int))) r
    { peer := ictx, src := c.src, keys := childKeys c.keys.child nonce r false } s

/-- SETUP_CHILD on a parent session: its principal and payload size, authority checked as at the parent's setup (R326). -/
def execSetupChild (parent service ictx : Nat) (nonce : Digest) (timestamp depth : Nat) (s : State) : Host.Outcome State Fault Refusal :=
  .next (
    match (ctxAt s parent).filter (fun c => !c.closing && !isQp c && !c.helloOnly && taking s) with
    | none => s
    | some c =>
      match setupRefusal s service c.payload c.who with
      | some code => sendCtl parent 0x15 [(2, code), (2, 0), (4, 0), (32, 0)] (landingFlag code s)
      | none =>
        let (r, s1) := drawDigest s
        let (n, s2) := childSession c service ictx nonce r timestamp depth s1
        let f := doneFlds s2 n
        sendCtl parent 0x15 ([(2, sOk)] ++ f.take 2 ++ [(32, r.toNat)] ++ f.drop 2) s2)

/-- SETUP_CHILD_DONE for a new SA pair: the module sends under it at once and keeps the old inbound SA until 2W after the first packet
under the new one (R333). -/
def execSetupChildDone (parent status _ctx : Nat) (nonce : Digest) (spiIn spiOut : Nat) (s : State) : Host.Outcome State Fault Refusal :=
  .next (ctxTimer parent (fun c t =>
    if c.kind == .bryndle 5 && decide (status = sOk) then
      let k := childKeys c.keys.child c.saNonce nonce true
      mirrorCtx parent c.gen (putCtx { c with oldSpi := some (c.spiIn, 0), spiIn := spiIn, spiOut := spiOut, spiSince := mono t,
                                              keys := { c.keys with espTx := k.espTx, espRx := k.espRx, prevEspRx := some c.keys.espRx },
                                              espOld := c.espIn, espIn := { top := 0, seen := [] }, espOut := 0 } t)
    else t) s)

/-- SETUP_TIMEOUT (R323). -/
def execSetupTimeout (handle : Nat) (s : State) : Host.Outcome State Fault Refusal :=
  .next { s with trn := { s.trn with
    setups := dropIf (fun x => x.handle == handle && confirmed s x.since (pTrnSetupTimeout s * msU)) s.trn.setups } }

/-- RDMA_CM: a queue pair under an SA takes its principal; the limits of R304 and R339 refuse it in the REJ (R332; 13 R339). -/
def execRdmaCm (parent : Nat) (uop : Bool) (depth : Nat) (s : State) : Host.Outcome State Fault Refusal :=
  .next (
    match (ctxAt s parent).filter (fun c => c.kind == .bryndle 5 && !c.closing && taking s) with
    | none => s
    | some c =>
      let kind : CtxKind := .qp parent uop
      let rej (code : Nat) : State := sendRoce parent 11 code [] [] (landingFlag code s)
      if !grantOk s c.who then rej eDenied
      else
        match setupLimit s kind c.who with
        | some code => rej code
        | none =>
          let (n, s1) := openSession kind c.who c.mac (choosePmtu s c.mac) (depthOf depth) 0 0 { peer := 0, src := c.src, keys := noKeys } s
          sendRoce parent 12 0 [(3, n)] [] s1)

end Machine
end Sys2Proof
end

