-- ==== Sys2Proof/Machine/PairOps.lean ====
section
/-!
DEFINITION. The module pair: the partner's contexts and commands, its digest, homes and handover (18 R440 to R456).
-/
namespace Sys2Proof
namespace Machine

/-! ## The partner's contexts (R452; log entry 32) -/

/-- The number under which this module keeps a context of its partner. -/
def partnerCtx (n : Nat) : Nat := 1048576 + n % 1048576

/-- An NVMe command of one of the partner's queues. -/
def shiftNv (c : NvmeCmd) : NvmeCmd := { c with ctx := partnerCtx c.ctx }

/-- A host command of the partner's, on the context under which this module keeps its queue. -/
def shiftCtx : Instr → Instr
  | .connect c => .connect { c with ctx := partnerCtx c.ctx }
  | .disconnect c a => .disconnect (shiftNv c) a
  | .propertyGet c a => .propertyGet (shiftNv c) a
  | .propertySet c a b => .propertySet (shiftNv c) a b
  | .getLogPage c a => .getLogPage (shiftNv c) a
  | .identify c a b => .identify (shiftNv c) a b
  | .abort c a b => .abort (shiftNv c) (partnerCtx a) b
  | .setFeatures c a b d => .setFeatures (shiftNv c) a b d
  | .getFeatures c a => .getFeatures (shiftNv c) a
  | .asynchronousEventRequest c => .asynchronousEventRequest (shiftNv c)
  | .namespaceCreate c a => .namespaceCreate (shiftNv c) a
  | .namespaceDelete c => .namespaceDelete (shiftNv c)
  | .keepAlive c => .keepAlive (shiftNv c)
  | .formatNvm c a => .formatNvm (shiftNv c) a
  | .sanitize c a b => .sanitize (shiftNv c) a b
  | .flush c => .flush (shiftNv c)
  | .nvmeWrite c a b d e f g => .nvmeWrite (shiftNv c) a b d e f g
  | .nvmeRead c a b d => .nvmeRead (shiftNv c) a b d
  | .compare c a b d e f => .compare (shiftNv c) a b d e f
  | .writeZeroes c a b => .writeZeroes (shiftNv c) a b
  | .datasetManagement c a b => .datasetManagement (shiftNv c) a b
  | .nvmeVerify c a b d => .nvmeVerify (shiftNv c) a b d
  | .reservationRegister c a b d e f => .reservationRegister (shiftNv c) a b d e f
  | .reservationReport c => .reservationReport (shiftNv c)
  | .reservationAcquire c a b d e f => .reservationAcquire (shiftNv c) a b d e f
  | .reservationRelease c a b d e => .reservationRelease (shiftNv c) a b d e
  | .put q a b => .put (partnerCtx q) a b
  | .putPart q a b => .putPart (partnerCtx q) a b
  | .putAbort q a => .putAbort (partnerCtx q) a
  | .sealObject q a b => .sealObject (partnerCtx q) a b
  | .get q a b => .get (partnerCtx q) a b
  | .head q a => .head (partnerCtx q) a
  | .list q a b => .list (partnerCtx q) a b
  | .delete q a => .delete (partnerCtx q) a
  | .copy q a b => .copy (partnerCtx q) a b
  | .hold q a b => .hold (partnerCtx q) a b
  | .release q a b => .release (partnerCtx q) a b
  | .stopper q a b => .stopper (partnerCtx q) a b
  | .verify q a => .verify (partnerCtx q) a
  | .collCreate q a b => .collCreate (partnerCtx q) a b
  | .collDelete q a => .collDelete (partnerCtx q) a
  | i => i

/-- A host command takes an operation and is performed from its ingress stamp. -/
def takeAndPerform (i : Instr) (ingress : Nat) (s : State) : State :=
  match hostCmd i with
  | some c => perform i ingress (takeOp c s)
  | none => s

/-! ## Identity, time and homes -/

/-- PAIR_PEER_DIGEST (R444, Table 18.5). -/
def peerDigest (s : State) : Nat :=
  ((List.range 8).map (fun k => bitsOf (layered s (0x0800002C + 4 * k) 0) 0 32 * 2 ^ (32 * k))).sum

/-- The partner's identity is accepted: that of the last pairing, the approved one, or any while both are in the first-use state
(R444; 24 R541). -/
def peerAccepted (s : State) (p : PeerIn) : Bool :=
  s.pair.peer == some p.digest || (peerDigest s != 0 && peerDigest s == p.digest.toNat) || (s.boot.firstUse && !p.serving)

/-- The handshake's checks (R444). -/
def handshakeOk (s : State) (p : PeerIn) : Bool :=
  p.sameProduct && p.sameStepping && p.sameRelease && p.sameProtocol && !p.unlocked && !s.auth.unlocked && p.certOk && peerAccepted s p

/-- PAIR_HB_MISS in units of Shelf Time. -/
def hbMiss (s : State) : Nat := pPairHbMiss s * msU

/-- PAIR_LEASE: two milliseconds less (R450). -/
def leaseLen (s : State) : Nat := (pPairHbMiss s - 2) * msU

/-- The shards homed on this module (R441). -/
def homedHere (s : State) (n : Nat) : Bool := homeB s n == s.pair.isB

/-- Work of a shard that has been admitted and has not ended (R456 step 2). -/
def shardBusy (s : State) (n : Nat) : Bool :=
  s.held.any (fun h => h.shard == n && h.level != .none) || s.idx.walks.any (fun w => (collAt s w.coll).any (fun c => c.shard == n))

/-- The shard that moves next: the lowest owned one whose home is the partner (R456). -/
def nextMove (s : State) : Option Nat :=
  (List.range 64).find? (fun n => (shardAt s n).owned && !homedHere s n)

/-- The room left for the partner's mirror, in bytes (R446). -/
def mirrorRoom (s : State) : Nat := pStrJournalMax s * 2 ^ 30 - journalBytes s

/-- The mirror stream of a pair that has just become PAIRED: nothing outstanding, and every unretired splice entry sent, and the hitches that this
module is the end of told (R455; 11 R298). -/
def startMirror (s : State) : State :=
  let s1 := { s with pair := { s.pair with mode := .paired, unacked := [], nextRec := 0, mirror := [], recvNum := 0,
                                           recBase := s.pair.recBase + s.pair.recvNum, leaseHeld := true,
                                           leaseAck := some (now s), heard := mono s, heardTether := mono s, detected := none, won := [],
                                           lost := [], yielded := false, survivor := false, moving := none, claimed := [] } }
  let s2 := { s1 with pair := { s1.pair with room := mirrorRoom s1 }, log := { s1.log with bothPools := false } }
  let s3 := (s2.hitch.list.filter (fun h => !h.away)).foldl (fun acc h => tellHitch h.record.id acc) s2
  (s3.log.splice.filter (fun e => !e.retired)).foldl (fun acc e => mirrorSend (entryRec e none) acc)
    { s3 with log := { s3.log with splice := s3.log.splice.map (fun e => if e.retired then e else { e with mirrored := false }) } }

/-- Resynchronisation: the survivor tells the returning module the state of Table 18.1: member states, bank content, sessions, root tables, the
phases of formats and erasures, open ceremonies, the base image and the overlays in force (R455; 20 R488). The records of the mirror
follow with the pairing. -/
def tellState (s : State) : State :=
  let s1 := allSlots.foldl (fun acc (n : Fin 24) => pairState 1 [(1, (n : Nat)), (1, memberCode (memberAt s n).state)] acc) (tellBanks s.mem.bankGen s)
  let s2 := s.trn.ctxs.foldl (fun acc c => mirrorCtx c.num c.gen acc) s1
  let s3 := s.idx.parts.foldl (fun acc p => tellRoot p.shard p.num p.root p.gen p.covered acc) s2
  let s4 := s.block.nss.foldl (fun acc n => match n.fphase with
    | some k => pairState 7 [(1, 1), (2, n.num), (1, k)] acc
    | none => acc) s3
  let s5 := s.obj.erasures.foldl (fun acc e => tellErasure e.tenant e.phase e.q acc) s4
  let s6 := s.auth.ceremonies.foldl (fun acc m => tellCeremony m acc) s5
  let s7 := pairState 11 [(1, 1), (1, 0), (2, 0xFFFF), (32, s.layers.baseDigest.toNat)] s6
  s.layers.overlays.foldl (fun acc o => pairState 11 [(1, 1), (1, o.cls), (2, o.tenant), (32, o.digest.toNat)] acc) s7

end Machine
end Sys2Proof
end

