-- ==== Sys2Proof/Machine/Pair.lean ====
section
/-!
DEFINITION. The pair link: handshake, mirror stream, heartbeats, lease, detection and fence (18 R443 to R451; 03 R72).
-/
namespace Sys2Proof
namespace Machine

/-! ## The link (R443, R444) -/

/-- The pair state a completed handshake leads to: a survivor that serves alone tells its partner its state, and both rejoin; two modules that start
together are PAIRED, A leading time (R444, R455; 03 R72; 24 R538). A module that holds no shelf wrapping key takes the one that the other
passes under the session key of the link, and keeps it in its vault (02 R44). -/
def shake (p : PeerIn) (s : State) : State :=
  let key := s.auth.shelfKey.or (p.shelfKey.map (fun k => k.setWidth 512))
  let s1 := { s with
    pair := { s.pair with lanes := 8, peer := some p.digest, pairShelf := true, linkKey := some p.session },
    auth := { s.auth with shelfKey := key, shelfVault := s.auth.shelfVault.or key },
    drv := { s.drv with x2 := s.drv.x2 || s.boot.firstUse } }
  match s1.pair.mode with
  | .alone => tellState { s1 with pair := { s1.pair with mode := .rejoining, survivor := true } }
  | .fenced => { s1 with pair := { s1.pair with mode := .rejoining, survivor := false, leader := false },
                         time := { s1.time with follower := true } }
  | _ =>
    if p.serving then
      { s1 with pair := { s1.pair with mode := .rejoining, survivor := false, leader := false }, time := { s1.time with follower := true } }
    else
      let lead := !s1.pair.isB
      let s2 := { s1 with pair := { s1.pair with leader := lead }, time := { s1.time with follower := !lead } }
      startMirror s2

/-- PAIR_LINK_UP: the handshake of R444. A module that fails it serves nothing and leaves the other's state; a single-controller shelf
has no partner. -/
def execPairLinkUp (peer : PeerIn) (s : State) : Host.Outcome State Fault Refusal :=
  .next (if (!s.pair.pairShelf && !s.boot.firstUse) || decide (0 < s.pair.lanes) then s
    else if handshakeOk s peer then shake peer s
    else
      let s1 := raise stPAIR 2 noInst { s with pair := { s.pair with lanes := 8 } }
      if s.pair.mode == .alone then s1 else { s1 with pair := { s1.pair with mode := .handshake, leaseHeld := false } })

/-- The tether still carries the partner's heartbeats (R451). -/
def tetherHears (s : State) : Bool := !confirmed s s.pair.heardTether (hbMiss s)

/-- PAIR_LINK_DOWN. While both modules hear each other on the tether, B yields and enters FENCED; a yield already heard lets A fence
(R449, R451). -/
def execPairLinkDown (s : State) : Host.Outcome State Fault Refusal :=
  if s.pair.lanes = 0 then .next s
  else
    let s1 := { s with pair := { s.pair with lanes := 0, linkKey := none, downs := min 255 (s.pair.downs + 1) } }
    if s1.pair.mode == .paired && tetherHears s1 && s1.pair.isB then
      .next (enterFenced (send (msg (.tether false) .tetherFrame 6 0 1 []) (send (msg (.tether true) .tetherFrame 6 0 1 []) s1)))
    else if s1.pair.yielded then .next (detectFailure s1)
    else .next s1

/-- PAIR_LANE_FAIL: the link retrains on 4 lanes; PAIR_STATUS bit 3 (R443). -/
def execPairLaneFail (s : State) : Host.Outcome State Fault Refusal :=
  .next (if s.pair.lanes = 8 then raise stPAIR 3 noInst { s with pair := { s.pair with lanes := 4 } } else s)

/-! ## The mirror stream (R445, R446) -/

/-- The records that a retire record prunes: the admission and the messages of its command, the pushes of its session before that
admission, and the splice entries of its shard up to its sequence (Table 18.2; log entry 33). -/
def pruned (r : MirrorRec) (adm : Option Nat) (x : MirrorRec) : Bool :=
  if r.tag = 0 ∧ 0 < r.seq then x.kind == 2 && x.shard == r.shard && decide (x.seq ≤ r.seq)
  else x.ctx == r.ctx && (((x.kind == 1 || x.kind == 4) && x.tag == r.tag) || (x.kind == 3 && adm.any (fun n => decide (x.num < n))))

/-- A record joins the mirror; a splice entry's stamp counts as mirrored for its shard (03 R89), and a record of the partner's custody shard gives its
lanyard (09 R252). -/
def keepRecord (r : MirrorRec) (s : State) : State :=
  let s1 := { s with pair := { s.pair with recvNum := r.num } }
  if r.kind = 5 then
    let adm := (s1.pair.mirror.find? (fun x => x.kind == 1 && x.ctx == r.ctx && x.tag == r.tag)).map (fun x => x.num)
    let stands := (s1.pair.mirror.filter (fun x => pruned r adm x && x.kind != 4)).map (fun x =>
      ({ x with num := s1.pair.recBase + x.num }, ctxAt s1 (partnerCtx x.ctx)))
    { s1 with pair := { s1.pair with mirror := dropIf (pruned r adm) s1.pair.mirror, landed := s1.pair.landed ++ stands } }
  else
    let s2 := { s1 with pair := { s1.pair with mirror := s1.pair.mirror ++ [r] } }
    let gib := ceilDiv ((s2.pair.mirror.map (fun x => x.bytes)).sum) (2 ^ 30)
    let s3 := setFigure 0x0800004C (max (figure s2 0x0800004C) gib) s2
    let x := shardAt s3 r.shard
    let s4 := if r.kind = 2 && x.mirrored.lt r.stamp then putShard { x with mirrored := r.stamp } s3 else s3
    if r.kind = 2 && r.shard == (if s.pair.isB then 0xFFF0 else 0xFFF1) then takeLyRecord r.shard r.data s4 else s4

/-- MIRROR_RECORD: stored in stream order, and acknowledged with the room left (R445, R446). -/
def execMirrorRecord (num kind shard seq time sub bytes ctx tag addr : Nat) (data : Bytes) (capsule : Instr) (s : State) :
    Host.Outcome State Fault Refusal :=
  if s.pair.lanes = 0 ∨ ¬ (s.pair.mode = .paired ∨ s.pair.mode = .rejoining) ∨ num ≠ s.pair.recvNum + 1 then .next s
  else
    let r : MirrorRec := { num := num, kind := kind, shard := shard, seq := seq, stamp := { time := time, seq := sub }, bytes := bytes,
                           ctx := ctx, tag := tag, addr := addr, data := data, cmd := if kind = 1 then some capsule else none }
    let s1 := keepRecord r s
    .next (send (msg .pair .pairRec 6 num 0 [(8, mirrorRoom s1)]) s1)

/-- The RoCE acknowledgements that waited for the mirror leave (R445); those of sessions leave with their ACK timer. -/
def releaseAcks (s : State) : State :=
  (s.trn.ctxs.filter (fun c => isQp c && c.ackDue.isSome && !ackWaits s c.num)).foldl (fun acc c =>
    sendRoce c.num 6 0 [(3, c.through % 16777216)] [] (putCtx { c with ackDue := none } acc)) s

/-- MIRROR_ACK: records up to a number are mirrored, so splice entries count as protected and messages and acknowledgements that waited
leave; the partner's free room (R445, R446; 07 R201). -/
def execMirrorAck (num room : Nat) (s : State) : Host.Outcome State Fault Refusal :=
  let done := s.pair.unacked.filter (fun r => decide (r.num ≤ num))
  let covered (e : SpliceEntry) : Bool := done.any (fun r => r.kind == 2 && r.shard == e.shard && r.seq == e.seq)
  let s1 := { s with pair := { s.pair with unacked := s.pair.unacked.filter (fun r => decide (num < r.num)), room := room },
                     log := { s.log with splice := mapIf covered (fun e => { e with mirrored := true }) s.log.splice } }
  let qs := (s1.trn.ctxs.filter (fun c => c.outMsgs.any (fun o => o.queued))).map (fun c => c.num)
  .next (settle (releaseAcks (qs.foldl (fun acc n => pumpOut n acc) s1)))

/-! ## Heartbeats, leases and detection (R449, R450) -/

/-- PAIR_STATE as a number (Table 18.5). -/
def pairCode : PairMode → Nat
  | .single => 0
  | .handshake => 1
  | .paired => 2
  | .alone => 3
  | .fenced => 4
  | .rejoining => 5

/-- A power state as a heartbeat carries it (22 R515). -/
def powerCode : PMode → Nat
  | .run => 0
  | .idle => 1
  | .drowse => 2
  | .dormant => 3

/-- A heartbeat's fields: Shelf Time, pair state, power state (Table 18.1; 22 R515). -/
def beatFlds (s : State) : Flds := shelfFlds (now s) ++ [(1, pairCode s.pair.mode), (1, powerCode s.pst.mode)]

/-- PAIR_HEARTBEAT_SEND: every PAIR_HB_INTERVAL, over the pair link and the tether (R449). -/
def execPairHeartbeatSend (s : State) : Host.Outcome State Fault Refusal :=
  if !s.pair.pairShelf || mono s < s.pair.beatAt + pPairHbInterval s * usU then .next s
  else
    let s1 := { s with pair := { s.pair with beatAt := mono s } }
    let s2 := if s1.pair.lanes = 0 then s1 else send (msg .pair .heartbeat 6 0 0 (beatFlds s1)) s1
    .next (overTether 6 0 (beatFlds s2) s2)

/-- A power state reported. -/
def powerOf : Nat → PMode
  | 0 => .run
  | 1 => .idle
  | 2 => .drowse
  | _ => .dormant

/-- A heartbeat that acknowledges this module's: its lease runs from the acknowledgement (R450). -/
def renewLease (stamp : Nat) (s : State) : State :=
  if s.pair.mode != .paired then s
  else
    let a := max stamp (s.pair.leaseAck.getD 0)
    { s with pair := { s.pair with leaseAck := some a, leaseHeld := decide (now s < a + leaseLen s) } }

/-- PAIR_HEARTBEAT: the partner is heard on a path; its heartbeat is acknowledged on the same path, and an acknowledgement extends the
lease (R449, R450). A partner that enters Run is a wake (22 Table 22.3). -/
def execPairHeartbeat (tether ack : Bool) (ackStamp power : Nat) (s : State) : Host.Outcome State Fault Refusal :=
  if !s.pair.pairShelf then .next s
  else
    let woke := powerOf power == .run && s.pst.partner != .run
    let s1 := { s with pair := { s.pair with heard := mono s, heardTether := if tether then mono s else s.pair.heardTether },
                       pst := { s.pst with partner := powerOf power } }
    let s2 := if ack then renewLease ackStamp s1
      else if tether then overTether 6 2 (beatFlds s1) s1
      else send (msg .pair .heartbeat 6 0 2 (beatFlds s1)) s1
    .next (if woke then wake 3 s2 else s2)

/-- The failure of the partner is detected; in Dormant the module exits first (R449; 22 R523). -/
def partnerFails (s : State) : State := if s.pair.mode == .paired then detectFailure (wake 3 s) else s

/-- PAIR_HEARTBEAT_MISS: no heartbeat on either path for PAIR_HB_MISS, confirmed (R449). -/
def execPairHeartbeatMiss (s : State) : Host.Outcome State Fault Refusal :=
  .next (if confirmed s s.pair.heard (hbMiss s) then partnerFails s else s)

/-- DYING_MESSAGE (R449). -/
def execDyingMessage (s : State) : Host.Outcome State Fault Refusal := .next (partnerFails s)

/-- LEASE_LAPSE: the module stops admitting and completing; PAIR_STATUS bit 4 (R450). -/
def execLeaseLapse (s : State) : Host.Outcome State Fault Refusal :=
  .next (if s.pair.mode == .paired && s.pair.leaseHeld && s.pair.leaseAck.all (fun a => decide (a + leaseLen s ≤ now s)) then
      raise stPAIR 4 noInst { s with pair := { s.pair with leaseHeld := false } }
    else s)

/-! ## The fence (R451) -/

/-- FENCE_DEFER_EXPIRY: B starts its preempts PAIR_FENCE_DEFER after detection (R451 step 1). -/
def execFenceDeferExpiry (s : State) : Host.Outcome State Fault Refusal :=
  .next (if s.pair.deferTo.any (fun x => confirmed s x 0) then fenceNext { s with pair := { s.pair with deferTo := none } } else s)

/-- TETHER_YIELD: B has yielded, and A fences it without a race once the pair link is down (R449, R451). -/
def execTetherYield (s : State) : Host.Outcome State Fault Refusal :=
  if s.pair.mode != .paired then .next s
  else
    let s1 := { s with pair := { s.pair with yielded := true } }
    .next (if s1.pair.lanes = 0 then partnerFails s1 else s1)

end Machine
end Sys2Proof
end

