-- ==== Sys2Proof/Machine/Authority.lean ====
section
/-!
DEFINITION. Keys and roles, tenants and quotas, grants, firmware, debug unlock and slot power: the commands of 19 Table 19.3 that 02
decides (02 R31 to R46, R60 to R64; 05 R146; 06 R158; 07 R194; 19 R470 to R472; 21 R506).
-/
namespace Sys2Proof
namespace Machine

/-! ## Roles (R32) -/

/-- A key may take a role: it has held no other (R32). -/
def roleFree (s : State) (k : Digest) (r : KeyRole) : Bool := (s.auth.keys.filter (fun x => x.1 == k)).all (fun x => x.2 == r)

/-- A key has taken a role, for the life of the shelf (R32). -/
def takeRole (k : Digest) (r : KeyRole) (s : State) : State :=
  { s with auth := { s.auth with keys := if s.auth.keys.contains (k, r) then s.auth.keys else s.auth.keys ++ [(k, r)] } }

/-- A Key enrolment entry (09 Table 9.4): role, count and k of the keys. -/
def keyEntry (role k : Nat) (keys : List Digest) (st : CStamp) (s : State) : State :=
  enter shelfChain 0x0046 st ([(1, role), (1, keys.length), (1, k), (5, 0)] ++ keys.map keyFld) s

/-! ## The custodian set, the time authority, escrow (R38, R44; 03 R76; 24 R541) -/

/-- The custodian set is enrolled in its first-use form (24 R541). -/
def firstForm (s : State) : Bool := s.boot.firstUse && !s.boot.enrolled

/-- A custodian set of R38: 3 to 9 keys, none named twice, and k above half of them and not above all. -/
def legalSet (k : Nat) (keys : List Digest) : Bool :=
  decide (3 ≤ keys.length) && decide (keys.length ≤ 9) && decide (keys.length < 2 * k) && decide (k ≤ keys.length) &&
    decide (keys.eraseDups.length = keys.length)

/-- What refuses a custodian set: its form, then k and n and keys named twice, then a key of another role (R32, R38; 24 R541). -/
def setRefusal (s : State) (k n : Nat) (keys : List Digest) (escrow : Option Digest) : Option Nat :=
  if keys.length ≠ n ∨ escrow.isSome ≠ firstForm s then some eFormat
  else if !legalSet k keys then some eRange
  else if !keys.all (fun x => roleFree s x .custodian) || !escrow.all (fun e => roleFree s e .escrow && !keys.contains e) then some eDenied
  else none

/-- The act: the set replaces the one in force; connections of keys that left it close. -/
def actSetChange (k n : Byte) (keys : List Digest) (escrow : Option Digest) (q : QCtx) (s : State) : State :=
  match setRefusal s k.toNat n.toNat keys escrow with
  | some e => qReply q e [] s
  | none =>
    let first := firstForm s
    let s1 := touch .custodianSet ((escrow.toList).foldl (fun acc e => takeRole e .escrow acc) (keys.foldl (fun acc x => takeRole x .custodian acc) s))
    let s2 := { s1 with
      auth := { s1.auth with custKeys := keys, quorumK := k.toNat, escrowKey := if first then escrow else s1.auth.escrowKey,
                             escrowAt := if first then kstamp s1 else s1.auth.escrowAt },
      boot := { s1.boot with enrolled := s1.boot.enrolled || first } }
    let st := targetStamp s2 .custodianSet
    let s3 := quorumDone q shelfChain st (keyEntry 1 k.toNat keys st (changeBanks s2).2)
    let left (p : Principal) : Bool := match p with
      | .custodian x => !keys.contains x
      | _ => false
    closeConns (fun c => left c.who) (closeAll eSession (fun c => left c.who) (qReply q sOk [] s3))

/-- CUSTODIAN_SET_CHANGE (R38; 24 R541). -/
def execCustodianSetChange (c : Call) (via : Via) (k n : Byte) (keys : List Digest) (escrow : Option Digest) (s : State) :
    Host.Outcome State Fault Refusal :=
  .next (quorumCmd c via (.setChange k n keys escrow) (actSetChange k n keys escrow) s)

/-- The act: the key replaces the time authority key in force (03 R76). -/
def actTimeAuth (key : Digest) (q : QCtx) (s : State) : State :=
  if !roleFree s key .timeAuthority then qReply q eDenied [] s
  else
    let s1 := touch .timeAuthority (takeRole key .timeAuthority { s with auth := { s.auth with timeKey := some key } })
    let st := targetStamp s1 .timeAuthority
    qReply q sOk [] (quorumDone q shelfChain st (keyEntry 2 1 [key] st s1))

/-- TIME_AUTH_ENROL (03 R76). -/
def execTimeAuthEnrol (c : Call) (via : Via) (key : Digest) (s : State) : Host.Outcome State Fault Refusal :=
  .next (quorumCmd c via (.timeAuth key) (actTimeAuth key) s)

/-- The tenant root keys are unwrapped under the shelf wrapping key, from the vault or else from the descriptor regions, and the vault holds
their wraps (R43, R61; 24 P9). -/
def unwrapRoots (s : State) : State :=
  let held (t : Tenant) : Tenant := { t with root := t.wrap.or t.media, wrap := t.wrap.or t.media }
  if s.auth.shelfKey.isNone then s else { s with obj := { s.obj with tenants := s.obj.tenants.map held } }

/-- The act: a key that unwraps the Tenant records' wraps is the shelf wrapping key again (R44, R61). -/
def actEscrowImport (escrow : Digest) (wrapKey : BitVec 256) (unwraps : Bool) (q : QCtx) (s : State) : State :=
  if !unwraps ∨ s.auth.escrowKey ≠ some escrow then qReply q eDigest [] s
  else
    let k : BitVec 512 := wrapKey.setWidth 512
    let s1 := touch .keys (unwrapRoots { s with auth := { s.auth with shelfKey := some k, shelfVault := some k } })
    qReply q sOk [] (quorumDone q shelfChain (targetStamp s1 .keys) s1)

/-- ESCROW_IMPORT (R44, R61). -/
def execEscrowImport (c : Call) (via : Via) (escrow : Digest) (wrapKey : BitVec 256) (unwraps : Bool) (s : State) :
    Host.Outcome State Fault Refusal :=
  .next (quorumCmd c via (.escrowImport escrow wrapKey unwraps) (actEscrowImport escrow wrapKey unwraps) s)

/-! ## Tenants (06 R158; 07 R194; 13 R339; 15 R374; 19 R472) -/

/-- The quota of a tenant created without a record (19 Table 19.5). -/
def quotaDefault (s : State) : QuotaRec :=
  { byteQuota := 0, openAllow := 1024, ctxAllow := 65536, landAllow := 4096, landSize := BitVec.ofNat 16 (pTrnLandDefaultMib s),
    hintShare := 20, rsv := 0, sched := schedDefault }

/-- A field lies in a range. -/
def within (lo hi n : Nat) : Bool := decide (lo ≤ n) && decide (n ≤ hi)

/-- The scheduling fields lie in their ranges (15 Table 15.1). -/
def schedRanges (q : SchedQuota) : Bool :=
  let mode := q.policer.toNat % 4
  let burst (n : Nat) : Bool := within 65540 1048576 n
  let rate (n : Nat) : Bool := n == 0 || within 10 400000 n
  within 1 65535 q.weight.toNat && mode != 3 &&
  (if mode = 0 then q.cir == 0 && q.pir == 0 && q.cbs == 0 && q.ebs == 0
   else within 1 400000 q.cir.toNat && burst q.cbs.toNat &&
     (if mode = 1 then q.pir == 0 && (q.ebs == 0 || burst q.ebs.toNat)
      else decide (q.cir.toNat ≤ q.pir.toNat) && burst q.ebs.toNat)) &&
  rate q.driveRate.toNat && within 64 1048576 q.driveBurst.toNat && rate q.egressRate.toNat && within 64 1048576 q.egressBurst.toNat &&
  within 1 131072 q.opAllow.toNat

/-- The fields of a quota record lie in their ranges (19 Table 19.5). -/
def quotaRanges (s : State) (q : QuotaRec) : Bool :=
  within 1 65536 q.openAllow.toNat && within 1 1048576 q.ctxAllow.toNat && decide (q.landAllow.toNat ≤ 1024 * landGib s) &&
  decide (q.landSize.toNat ≤ 1024) && (q.hintShare == 0 || within 16 (pIdxHintLog2 s) q.hintShare.toNat) && schedRanges q.sched

/-- Data units of a segment of the permitted geometry that has the fewest (07 R194; 04 Table 4.5). -/
def leastUnits (service : Nat) : Nat := if service = 2 then segUnits 20 else segUnits 18

/-- The segments a byte quota needs (07 R194). -/
def quotaSegments (service bytes : Nat) : Nat := ceilDiv (ceilDiv bytes 4096) (leastUnits service)

/-- Byte quotas lie within the allocatable segments under a service overlay and a reserve (07 R194). Segment 0 holds no data (07 R177). -/
def quotasFit (s : State) (service reserve : Nat) (quotas : List Nat) : Bool :=
  decide ((quotas.map (quotaSegments service)).sum * 100 ≤ (s.log.segCount - 1) * (100 - reserve))

/-- The byte quotas of the tenants but one. -/
def otherQuotas (s : State) (t : Nat) : List Nat := (s.obj.tenants.filter (fun x => x.num != t)).map (fun x => x.quota.byteQuota.toNat)

/-- What refuses a quota record by its content (19 R472). -/
def quotaForm (s : State) (q : QuotaRec) : Option Nat :=
  if q.rsv ≠ 0 ∨ q.sched.rsv ≠ 0 ∨ 8 ≤ q.sched.policer.toNat then some eReserved
  else if !quotaRanges s q then some eRange
  else none

/-- A tenant's share becomes that of its quota, where it differs (06 R158). -/
def takeShare (t k : Nat) (s : State) : Option State :=
  if ((shareOf s t).map (fun x => x.log2)).getD 0 = k then some s else changeShare t k s

/-- The lowest tenant number not enrolled (Table 1.4). -/
def freeTenant (s : State) : Option Nat := firstFree 4096 (fun n => (tenantAt s n).isNone)

/-- A tenant is enrolled: its number, root key and wraps, its chain with the next epoch, its share and buckets, its record in the banks
(R32, R43, R45; 09 R247; 10 R266). -/
def enrolTenant (c : Call) (n : Nat) (key : Digest) (q : QuotaRec) (s : State) : State :=
  let (root, s0) := drawKey (refill s)
  let (escrow, s1) := escrowWrap root s0
  let (st, s2) := sequence (custodyShard s1) s1
  let ep := (s2.obj.epochs.lookup n).getD 0 + 1
  let t : Tenant := { num := n, key := key, root := some root, wrap := some root, media := some root, escrow := escrow, enrolled := kstamp s2,
                      epoch := ep, quota := q, stamp := st, probes := 0, hits := 0, red := 0, drops := 0 }
  let s3 := { s2 with obj := { s2.obj with tenants := s2.obj.tenants ++ [t], everTenant := true,
                                           epochs := (n, ep) :: s2.obj.epochs.filter (fun x => x.1 != n) } }
  let s4 := takeRole key (.tenant n) (putBuckets (fullBuckets n q.sched) s3)
  let s5 := keyEntry 4 1 [key] st (enter n 0x0002 st [(32, key.toNat)] s4)
  let (gen, s6) := changeBanks s5
  replyHeld c { heldStamp (replyMsg c 0x0301 sOk [(2, n), (6, 0)]) st with bank := some (gen, false) } s6

/-- TENANT_CREATE (19 R472; 20 R485). -/
def execTenantCreate (c : Call) (key : Digest) (quota : Option QuotaRec) (s : State) : Host.Outcome State Fault Refusal :=
  .next (mailboxCmd c 0x0301 .nothing isCustodian (fun _ s =>
    let q := quota.getD (quotaDefault s)
    match quotaForm s q with
    | some e => reply c 0x0301 e [] s
    | none =>
      if s.auth.keys.any (fun x => x.1 == key) then reply c 0x0301 eDenied [] s
      else if classIn s 8 then reply c 0x0301 eState [] s
      else
        match freeTenant s with
        | none => reply c 0x0301 eLimit [] s
        | some n =>
          if !quotasFit s s.layers.service s.layers.reservePct (q.byteQuota.toNat :: otherQuotas s n) then reply c 0x0301 eLimit [] s
          else
            match takeShare n q.hintShare.toNat s with
            | none => reply c 0x0301 eLimit [] s
            | some s1 => enrolTenant c n key q s1) s)

/-- TENANT_QUOTA_SET: the whole record replaces the tenant's (19 R472; 15 R374). -/
def execTenantQuotaSet (c : Call) (tenant : Word16) (quota : QuotaRec) (s : State) : Host.Outcome State Fault Refusal :=
  .next (mailboxCmd c 0x0302 .nothing isCustodian (fun _ s =>
    let n := tenant.toNat
    match quotaForm s quota with
    | some e => reply c 0x0302 e [] s
    | none =>
      if (tenantAt s n).isNone then reply c 0x0302 eNotVisible [] s
      else if !quotasFit s s.layers.service s.layers.reservePct (quota.byteQuota.toNat :: otherQuotas s n) then reply c 0x0302 eLimit [] s
      else
        match takeShare n quota.hintShare.toNat s with
        | none => reply c 0x0302 eLimit [] s
        | some s1 =>
          let (st, s2) := sequence (custodyShard s1) (refill s1)
          let s3 := { s2 with obj := { s2.obj with tenants := mapIf (fun t => t.num == n) (fun t => { t with quota := quota, stamp := st }) s2.obj.tenants } }
          replyStamped c 0x0302 [] [custodyShard s1] (changeBanks s3).2) s)

/-- The act: phase X1 suspends admission; the later phases follow as its commands end (05 R146). A second erasure finds its target
changing. -/
def actTenantErase (tenant : Word16) (key : Digest) (q : QCtx) (s : State) : State :=
  let t := tenant.toNat
  if !(tenantAt s t).any (fun x => x.key == key) then qReply q eNotVisible [] s
  else if s.obj.erasures.any (fun e => e.tenant == t) then qReply q eConflict [] s
  else
    let s1 := erasePhase t 1 q s
    hold { heldAt jobMsg (now s1) with job := some (.eraseCheck t q) } s1

/-- TENANT_ERASE (05 R146). -/
def execTenantErase (c : Call) (via : Via) (tenant : Word16) (key : Digest) (s : State) : Host.Outcome State Fault Refusal :=
  .next (quorumCmd c via (.tenantErase tenant key) (actTenantErase tenant key) s)

/-! ## Grants (R34, R35; 04 R97) -/

/-- The form of a grant record (Table 2.2). -/
def grantForm (g : GrantRec) : Bool :=
  g.version == 1 &&
  (if g.kind = 1 ∨ g.kind = 2 then within 1 64 g.scope.length && decide (g.tenant.toNat < 4096)
   else (g.kind = 3 || g.kind = 4) && g.scope.isEmpty && g.tenant == 0xFFFF)

/-- The role a grant gives its holder: a depositor or reader is one of the tenant that issues it, known by its key (R32). -/
def grantRole (g : GrantRec) : KeyRole :=
  if g.kind = 3 then .auditor else if g.kind = 4 then .operator else .holder g.issuer

/-- A principal may issue a grant: a tenant kinds 1 and 2 for itself, a custodian kinds 3 and 4 (Table 2.5). -/
def mayIssue (p : Principal) (g : GrantRec) : Bool :=
  match p with
  | .tenant n => (g.kind = 1 || g.kind = 2) && g.tenant.toNat == n
  | .custodian _ => g.kind = 3 || g.kind = 4
  | _ => false

/-- Every entry of a scope names a collection or namespace of the tenant. -/
def scopeOwn (s : State) (t : Nat) (l : List ScopeEntry) : Bool :=
  l.all (fun e => if e.isNs then (nsOf s t e.num.toNat).isSome else (collAt s e.num.toNat).any (fun k => k.tenant == t))

/-- Who issued a grant: a tenant or a custodian (Table 2.5). -/
def issuesGrants (p : Principal) : Bool := isTenant p || isCustodian p

/-- Notices to the controllers of a grant's sessions, for each namespace of its scope (04 R97). -/
def noticeScope (g : GrantRec) (s : State) : State :=
  let id : GrantId := { issuer := g.issuer, serial := g.serial.toNat }
  (g.scope.filter (fun e => e.isNs)).foldl (fun acc e => noticeNs e.num.toNat (fun k => k.who.grant? == some id) acc) s

/-- A Grant entry, in its tenant's chain or the shelf chain (09 Table 9.4); answers its position. -/
def grantEntry (action : Nat) (g : GrantRec) (st : CStamp) (s : State) : Nat × State :=
  let chain := if g.kind = 1 ∨ g.kind = 2 then g.tenant.toNat else shelfChain
  let r := appendEntry chain 0x0030 st [(1, action), (1, g.kind.toNat), (6, 0), (8, g.serial.toNat), (32, g.holder.toNat)] s
  (entryPos r.1, r.2)

/-- GRANT_ISSUE: a record of the same issuer and serial is replaced (R34; Table 19.3). -/
def execGrantIssue (c : Call) (g : GrantRec) (grantSigOk : Bool) (s : State) : Host.Outcome State Fault Refusal :=
  .next (mailboxCmd c 0x0304 .nothing issuesGrants (fun x s =>
    let same (h : GrantRec) : Bool := h.issuer == g.issuer && h.serial == g.serial
    if !grantForm g then reply c 0x0304 eFormat [] s
    else if g.issuer ≠ x.key || !mayIssue x.who g || !roleFree s g.holder (grantRole g) then reply c 0x0304 eDenied [] s
    else if !scopeOwn s g.tenant.toNat g.scope then replyNotVisible c 0x0304 nvCDelay s
    else if !grantSigOk then reply c 0x0304 eSignature [] s
    else if 262144 ≤ (s.auth.grants.filter (fun h => !same h)).length then reply c 0x0304 eLimit [] s
    else
      let s1 := takeRole g.holder (grantRole g) { s with auth := { s.auth with grants := s.auth.grants.filter (fun h => !same h) ++ [g] } }
      let (pos, s2) := grantEntry 1 g noStamp (noticeScope g s1)
      reply c 0x0304 sOk [(8, pos)] s2) s)

/-- The shards of a grant's scope. -/
def scopeShards (s : State) (g : GrantRec) : List Nat :=
  (g.scope.filterMap (fun e => if e.isNs then (nsOf s g.tenant.toNat e.num.toNat).map (fun n => n.shard)
    else (collAt s e.num.toNat).map (fun k => k.shard))).eraseDups

/-- Revokes a grant: a mutation at each shard of its scope; every session under it closes (R35). -/
def revokeGrant (g : GrantRec) (s : State) : Nat × State :=
  let id : GrantId := { issuer := g.issuer, serial := g.serial.toNat }
  let (st, s1) := (scopeShards s g).foldl (fun (acc : CStamp × State) n => sequence n acc.2) (noStamp, s)
  let s2 := { s1 with auth := { s1.auth with grants := s1.auth.grants.filter (fun h => h != g) } }
  let (pos, s3) := grantEntry 2 g st (noticeScope g s2)
  (pos, closeConns (fun k => k.who.grant? == some id) (closeAll eSession (fun k => k.grant == some id || k.who.grant? == some id) s3))

/-- GRANT_REVOKE: a holder and serial that match no grant of this issuer in force change nothing (Table 19.3). -/
def execGrantRevoke (c : Call) (holder : Digest) (serial : Word64) (s : State) : Host.Outcome State Fault Refusal :=
  .next (mailboxCmd c 0x0305 .nothing issuesGrants (fun x s =>
    match s.auth.grants.find? (fun g => g.issuer == x.key && g.holder == holder && g.serial == serial) with
    | none => reply c 0x0305 sOk [(8, 0)] s
    | some g =>
      let (pos, t) := revokeGrant g s
      let id : GrantId := { issuer := g.issuer, serial := g.serial.toNat }
      replyAfter c 0x0305 [(8, pos)] (scopeShards s g) (drainsOf (fun k => k.grant == some id || k.who.grant? == some id) t) t) s)

/-! ## TIME_BEACON (03 R75 to R77) -/

/-- The time a beacon states. -/
def beaconTime (b : Beacon) : Nat := (b.seconds * 1000000000 + b.nanos) * nsU

/-- A rejected beacon: TS_STATUS bit 2, and no nonce outstanding. -/
def rejectBeacon (c : Call) (status : Nat) (s : State) : State :=
  reply c 0x0402 status [] (raise stTS 2 noInst { s with time := { s.time with challenge := none } })

/-- Sessions and connections set up while unanchored whose grant is no longer valid close at the moment of anchoring (03 R75). -/
def recheckGrants (s : State) : State :=
  let bad (p : Principal) : Bool := !grantOk s p
  let s1 := closeConns (fun k => k.unanchored && bad k.who) (closeAll eSession (fun k => k.unanchored && bad k.who) s)
  { s1 with trn := { s1.trn with ctxs := s1.trn.ctxs.map (fun k => { k with unanchored := false }) },
            mbx := { s1.mbx with conns := s1.mbx.conns.map (fun k => { k with unanchored := false }) } }

/-- An accepted beacon: Custody Time steps or is slewed towards it, the module is Anchored, locks past their expiry expire (03 R75, R77;
09 Table 9.4). -/
def acceptBeacon (c : Call) (b : Beacon) (s : State) : State :=
  let delta : Int := (beaconTime b : Int) - s.time.custody
  let at_ := if (secU : Int) < delta then beaconTime b else s.time.custody
  let s1 := { s with time := { s.time with
    custody := at_, custOffset := (beaconTime b : Int) - s.time.shelf, anchor := .anchored, lastBeacon := at_, beacons := s.time.beacons + 1,
    challenge := none } }
  let ns : Int := delta / (nsU : Int)
  let sat : Int := max (-(2 ^ 63 : Int)) (min (2 ^ 63 - 1 : Int) ns)
  let s2 := enter shelfChain 0x0041 noStamp [(4, s1.time.beacons), (4, 0), (8, (sat % (2 ^ 64 : Int)).toNat), (4, b.uncertainty.toNat), (4, 0)] s1
  let s3 := recheckGrants (expireAll s2)
  replyAfter c 0x0402 (kstampFlds (kstamp s3)) [] (drainsOf (fun k => !grantOk s3 k.who) s3) (signCheckpoint s3)

/-- TIME_BEACON (03 R77). -/
def execTimeBeacon (c : Call) (b : Beacon) (beaconSigOk : Bool) (s : State) : Host.Outcome State Fault Refusal :=
  .next (mailboxCmd c 0x0402 .nothing isCustodian (fun _ s =>
    if b.version ≠ 1 ∨ 1000000000 ≤ b.nanos then rejectBeacon c eFormat s
    else if !beaconSigOk ∨ s.auth.timeKey ≠ some b.signer then rejectBeacon c eSignature s
    else
      match s.time.challenge with
      | none => rejectBeacon c eBeaconStale s
      | some k =>
        if k.mbx ≠ c.mbx ∨ k.nonce ≠ b.nonce ∨ b.module ≠ Config.moduleDigest then rejectBeacon c eBeaconStale s
        else if late s k.egress (pTsBeaconWindow s * secU) then rejectBeacon c eBeaconStale s
        else if (beaconTime b : Int) - s.time.custody < -(secU : Int) then rejectBeacon c eTimeBackward s
        else acceptBeacon c b s) s)

/-! ## Firmware (R63, R64) -/

/-- The checks at the last chunk of an image: vendor signature under a key fused and not revoked, consent, anti-rollback (R63, R64). An SVN
above 127, for which the spec names no status, is answered as one below the fused value (DESIGN CHOICE, log entry 119). -/
def imageRefusal (s : State) (i : FwImage) : Option Nat :=
  if !i.sigOk || !s.auth.vendorKeys.contains i.vendorKey || s.auth.revoked.contains i.vendorKey then some eSignature
  else if !s.auth.fwConsent.contains i.digest then some eQuorum
  else if i.svn < s.auth.fusedSvn ∨ 127 < i.svn then some eRollback
  else none

/-- FW_STAGE: chunks follow one another from offset 0; the last writes the image to the inactive slot or refuses it, and a refusal changes
nothing (R63; 00 R6). -/
def execFwStage (c : Call) (offset length : Word64) (chunk : Bytes) (image : FwImage) (s : State) : Host.Outcome State Fault Refusal :=
  .next (mailboxCmd c 0x0501 .nothing isCustodian (fun _ s =>
    let o := offset.toNat
    let n := length.toNat
    let put (x : Option FwStaging) (s : State) : State := { s with auth := { s.auth with staging := x } }
    let follows := o == 0 || s.auth.staging.any (fun g => g.received == o && g.length == n && g.digest.isNone)
    if !follows ∨ n < o + chunk.length ∨ chunk.isEmpty then reply c 0x0501 eRange [] s
    else if o + chunk.length < n then
      reply c 0x0501 sOk [] (put (some { received := o + chunk.length, length := n, digest := none, svn := 0, release := 0, revokes := [] }) s)
    else
      match imageRefusal s image with
      | some e => reply c 0x0501 e [] s
      | none =>
        reply c 0x0501 sOk []
          (enter shelfChain 0x0043 noStamp [(1, 1), (1, image.svn), (6, 0), (32, image.digest.toNat)]
            (put (some { received := n, length := n, digest := some image.digest, svn := image.svn, release := image.release,
                         revokes := image.revokes }) s))) s)

/-- FW_COMMIT: fuses burn up to an SVN not above the running image's; they never clear, and the previous image is no longer returned to
(R64). -/
def execFwCommit (c : Call) (svn : Byte) (s : State) : Host.Outcome State Fault Refusal :=
  .next (mailboxCmd c 0x0502 .nothing isCustodian (fun _ s =>
    if s.auth.runningSvn < svn.toNat then reply c 0x0502 eRange [] s
    else
      let n := max s.auth.fusedSvn svn.toNat
      let s1 := send (msg .host .fuse 0 0 0 [(1, n)]) { s with auth := { s.auth with fusedSvn := n, previous := none } }
      reply c 0x0502 sOk [] (enter shelfChain 0x0043 noStamp [(1, 2), (1, n), (6, 0), (32, (Config.bootDigest 3).toNat)] s1)) s)

/-! ## Debug unlock (R60 to R62) -/

/-- DEBUG_CHALLENGE: a new nonce replaces the one outstanding (R60). -/
def execDebugChallenge (c : Call) (s : State) : Host.Outcome State Fault Refusal :=
  .next (mailboxCmd c 0x0503 .nothing isOperator (fun _ s =>
    let (n, s1) := drawDigest s
    reply c 0x0503 sOk [(32, n.toNat)] { s1 with auth := { s1.auth with debugNonce := some (n, mono s1) } }) s)

/-- The Shelf Time that fields state (03 Table 3.1). -/
def ShelfIn.value (t : ShelfIn) : Nat := (t.sec.toNat * 1000000000 + t.ns.toNat) * 65536 + t.frac.toNat

/-- A token opens the module: bound to the nonce outstanding, in time, signed by a quorum of the set in force (R60). -/
def tokenOk (s : State) (t : DebugToken) : Bool :=
  let good := (t.signers.eraseDups.filter (fun k => s.auth.custKeys.contains k)).length
  s.auth.debugNonce.any (fun x => x.1 == t.nonce && decide (mono s ≤ x.2 + 600 * secU)) && decide (now s ≤ ShelfIn.value t.expiry) && t.sigsOk &&
    decide (s.auth.quorumK ≤ good)

/-- Steps 1 and 2 of R61: the entry and a checkpoint, the lanyard closed with reason 3; sessions closed. -/
def unlockClose (t : DebugToken) (s : State) : State :=
  closeAll eSession (fun _ => true) (closeLanyard 3 (signCheckpoint (enter shelfChain 0x0042 noStamp [(32, t.statement.toNat)] s)))

/-- DEBUG_UNLOCK (R60, R61): the steps after the second go on once the landing regions of the closed sessions are drained (13 R342); a
statement whose expiry has nanoseconds of 10^9 or more is E_FORMAT (03 R66). -/
def execDebugUnlock (c : Call) (t : DebugToken) (s : State) : Host.Outcome State Fault Refusal :=
  .next (mailboxCmd c 0x0504 .nothing isOperator (fun _ s =>
    if 1000000000 ≤ t.expiry.ns.toNat then reply c 0x0504 eFormat [] s
    else if tokenOk s t then
      let s1 := unlockClose t s
      let d := drainsOf (fun _ => true) s1
      if d.isEmpty then reply c 0x0504 sOk [] (unlockModule s1)
      else replyHeld c { heldAt (replyMsg c 0x0504 sOk []) (now s1) with drains := d, job := some .unlock } s1
    else reply c 0x0504 eToken [] s) s)

/-! ## SLOT_POWER (21 R506) -/

/-- An enable change passes to the partner (21 R506). -/
def tellSlot (slot : Fin 24) (on : Bool) (s : State) : State := pairState 13 [(1, (slot : Nat)), (1, if on then 1 else 0)] s

/-- SLOT_POWER: a LATCHED slot refuses it; off needs a member that is ABSENT or FAILED (21 R506; 19 Table 19.3). -/
def execSlotPower (c : Call) (slot action : Byte) (s : State) : Host.Outcome State Fault Refusal :=
  .next (mailboxCmd c 0x0802 .nothing isCustOper (fun _ s =>
    if h : slot.toNat < 24 then
      let n : Fin 24 := ⟨slot.toNat, h⟩
      let m := (memberAt s n).state
      if 2 ≤ action.toNat then reply c 0x0802 eFormat [] s
      else if (feedAt s (.slot n)).state == .latched then reply c 0x0802 eState [] s
      else if action.toNat = 1 then reply c 0x0802 sOk [] (tellSlot n true (enableSlot n s))
      else if m != .absent && m != .failed then reply c 0x0802 eSlotBusy [] s
      else reply c 0x0802 sOk [] (tellSlot n false (darkSlot n (disableSlot n s)))
    else reply c 0x0802 eRange [] s) s)

/-! ## SANITISE_START and SANITISE_STATUS (04 R117, R118) -/

/-- SANITISE_START: phase S1, the response, and phases S2 and S3 (04 R117, R118). -/
def actSanitise (q : QCtx) (s : State) : State :=
  match eraseRefusal s (fun _ => true) with
  | some e => qReply q e [] s
  | none =>
    let s1 := touch .shelf (sanPhase 1 { s with block := { s.block with shelfSan := some { phase := 1, statement := q.id, progress := List.replicate 24 0 } } })
    let st := targetStamp s1 .shelf
    sanitiseBanks (qReply q sOk [] (sanSign q.id st (quorumDone q shelfChain st s1)))

/-- SANITISE_START (04 R117). -/
def execSanitiseStart (c : Call) (via : Via) (s : State) : Host.Outcome State Fault Refusal :=
  .next (quorumCmd c via .sanitiseStart actSanitise s)

/-- SANITISE_STATUS: the phase, 0 while none runs, and the progress of each slot (04 R118; 19 Table 19.3). -/
def execSanitiseStatus (c : Call) (s : State) : Host.Outcome State Fault Refusal :=
  .next (mailboxCmd c 0x0804 .nothing isCustOper (fun _ s =>
    match s.block.shelfSan with
    | some x => reply c 0x0804 sOk ([(1, x.phase), (7, 0)] ++ x.progress.map (fun p => (1, p))) s
    | none => reply c 0x0804 sOk ([(1, 0), (7, 0), (24, 0)]) s) s)

/-! ## UOP capsules by mailbox (05 R127) -/

/-- UOP_RELAY: HOLD, STOPPER and VERIFY of a custodian; any other capsule that is well formed is answered E_NOT_VISIBLE (05 R120, R125,
R127). A principal that may not relay is refused as for an object (R37). A mutation waits as one from a queue does (07 R193). -/
def execUopRelay (c : Call) (cap : Capsule) (b : RelayBody) (s : State) : Host.Outcome State Fault Refusal :=
  .next (mailboxCmd c 0x0A01 .object isCustodian (fun x s =>
    let i : Instr := .uopRelay c cap b
    let s1 := holdTag c s
    if (hostCmd i).any (fun k => mutationWaits s1 k || walkWaits s1 k) then
      { s1 with block := { s1.block with waiting := s1.block.waiting ++ [waitingAt (now s) false i s1] } }
    else runRelay x c cap b (now s) s1) s)

/-- The completion of a RELEASE as the act's response; E_NOT_VISIBLE leaves at its instant (R51; 05 R122, R127). -/
def relDone (q : QCtx) (cap : Capsule) (a : Nat × Flds) (s : State) : State :=
  let body := uopBody 0x31 cap.hdr.tag.toNat 0 a.1 noStamp a.2
  if a.1 = eNotVisible then
    qHeld q { heldAt (qMsg q a.1 body) (now s + nvODelay s) with nv := true, nvDelay := nvODelay s } s
  else qReply q a.1 body s

/-- What refuses a RELEASE: its form, with opcode 0x31 and tag 0, the collection, the key, the object, the hold named, the custody key (05
R125, R127). -/
def relRefusal (s : State) (cap : Capsule) (b : RelBody) : Option (Nat × Flds) :=
  let coll := cap.hdr.coll.toNat
  let mac := if cap.hdr.addressing = 0 then none else some cap.hdr.mac
  firstOf [
    failIf (cap.hdr.opcode != 0x31 && uopOpcodes.contains cap.hdr.opcode.toNat) eFormat,
    checkReleaseForm cap b,
    failIf (cap.hdr.tag != 0) eFormat,
    failIf (capColl s cap).isNone eNotVisible,
    failIf (!collReady s cap) eNotReady,
    failIf (!mac.all (fun m => (sealedAt s coll m).isSome)) eNotVisible,
    failIf (!(locksAt s coll mac).any (fun l => l.num == b.hold.toNat)) eNotVisible,
    failIf (!custodyReady s) eCustodyKey]

/-- The act: the hold ends, with its entry, its receipt of kind 3 and the Quorum act entry in the tenant's chain; the response is the
completion, on media (05 R127, R141, R145; 09 Tables 9.3, 9.4). -/
def actRelease (cap : Capsule) (b : RelBody) (q : QCtx) (s : State) : State :=
  match relRefusal s cap b, capColl s cap with
  | some a, _ => relDone q cap a s
  | none, none => s
  | none, some c =>
    let mac := if cap.hdr.addressing = 0 then none else some cap.hdr.mac
    let m := (mac.getD 0).toNat
    let (st, s1) := sequence c.shard s
    let old := locksAt s1 c.num mac
    let s2 := putLocks c.num mac (old.filter (fun l => l.num != b.hold.toNat)) st s1
    let (gen, s3) : Option (Nat × Bool) × State := match mac.bind (objAt s2 c.num) with
      | some o => (none, recordObj c o st s2)
      | none => (some ((changeBanks s2).1, false), (changeBanks s2).2)
    let (e, s4) := appendEntry c.tenant 0x0015 st [(2, c.num), (1, b.hold.toNat), (5, 0), (32, m), (32, q.id.toNat)] s3
    let leaf := ((s4.fix.batches.find? (fun x => x.tenant == c.tenant && !x.closed)).map (fun x => x.count)).getD 0
    let (bt, s5) := match e with
      | some y => addReceipt 3 c.tenant c.num (mac.getD 0) [(1, b.hold.toNat), (31, 0), (32, q.id.toNat), (32, 0)] y s4
      | none => ((c.tenant, 0), s4)
    let s6 := quorumDone q c.tenant st s5
    let s7 := (old.find? (fun l => l.num == b.hold.toNat)).elim s6 (fun l => hitchLock c.num mac l s6)
    let done := qMsg q sOk (uopBody 0x31 cap.hdr.tag.toNat 2 sOk st [(8, entryPos e), receiptSlot])
    let h : Held := { heldMut done st c.shard .onMedia [] s7 with batch := some (bt.1, bt.2, leaf), bank := gen }
    qHeld q h s7

/-- UOP_RELEASE (05 R127). -/
def execUopRelease (c : Call) (via : Via) (cap : Capsule) (b : RelBody) (s : State) : Host.Outcome State Fault Refusal :=
  .next (quorumCmd c via (.uopRelease cap b) (actRelease cap b) s)

end Machine
end Sys2Proof
end

