-- ==== Sys2Proof/Machine/Hitch.lean ====
section
/-!
DEFINITION. Shelf-to-shelf migration: the quorum acts of a hitch, the Myavo messages it receives and its timers (11 R280 to R300), and
the answers to the session setup its source end begins (12 R323).
-/
namespace Sys2Proof
namespace Machine

/-! ## Quorum acts (R280, R281, R300) -/

/-- The body of the Custodian set record in force (10 Table 10.4). -/
def custSetFlds (s : State) : Flds :=
  [(1, s.auth.quorumK), (1, s.auth.custKeys.length), (6, 0)] ++ s.auth.custKeys.map (fun k => (32, k.toNat)) ++
    [(32, (s.auth.timeKey.getD 0).toNat)]

/-- This shelf is the source of a record. -/
def isSource (s : State) (p : PairingRec) : Bool := p.srcShelf == s.boot.shelfId

/-- A record names this shelf once, its own modules and its custodian set (R281). -/
def pairingOurs (s : State) (p : PairingRec) : Bool :=
  let src := isSource s p
  let a := if src then p.srcA else p.dstA
  let b := if src then p.srcB else p.dstB
  let named (d : Digest) : Bool := d == a || d == b
  (src != (p.dstShelf == s.boot.shelfId)) && named Config.moduleDigest && (s.pair.peer.all named) &&
    (if src then p.srcCust else p.dstCust) == Config.sha3 (encodeFlds (custSetFlds s))

/-- The fields of a record lie in their ranges, and it has not run out (Table 11.1). -/
def pairingRange (s : State) (p : PairingRec) : Bool :=
  decide (custodySec s < p.notAfter) && decide (p.notBefore < p.notAfter) && decide (1000 ≤ p.rate.toNat) &&
  decide (p.rate.toNat ≤ 200000) && decide (1 ≤ p.streams.toNat) && decide (p.streams.toNat ≤ 64) && decide (p.geometry.toNat ≤ 2) &&
  decide (1 ≤ p.count.toNat) && decide (p.count.toNat ≤ 256)

/-- A scope entry names what the shelf has: on the source a collection of the tenant, on the target a tenant with the key. -/
def scopeVisible (s : State) (p : PairingRec) (e : PairScope) : Bool :=
  if isSource s p then
    (collAt s e.coll.toNat).any (fun c => c.tenant == e.tenant.toNat && c.state == .active) &&
      (tenantAt s e.tenant.toNat).any (fun t => t.key == e.key)
  else s.obj.tenants.any (fun t => t.key == e.key)

/-- The id is in use, or a scope collection of the source is in another open hitch. -/
def scopeTaken (s : State) (p : PairingRec) : Bool :=
  (hitchAt s p.id).isSome ||
    (isSource s p && s.hitch.list.any (fun h => hitchLive h && h.source && p.scope.any (fun e => inScopeOf h e.coll.toNat)))

/-- The refusal of a pairing record (R280, R281). -/
def openRefusal (s : State) (p : PairingRec) : Option Nat :=
  if p.rsv ≠ 0 then some eReserved
  else if p.version ≠ 1 ∨ p.count.toNat ≠ p.scope.length then some eFormat
  else if !classIn s 4 then some eHitchState
  else if !pairingOurs s p then some ePairing
  else if !pairingRange s p then some eRange
  else if !p.scope.all (scopeVisible s p) then some eNotVisible
  else if scopeTaken s p then some eHitchState
  else if 4 ≤ (s.hitch.list.filter hitchLive).length then some eHitchFull
  else none

/-- A hitch in OPENING. -/
def newHitch (p : PairingRec) (source : Bool) (q : QCtx) : Hitch :=
  { record := p, source := source, state := .opening, ctx := none, hello := false, sent := 0, received := 0, heard := 0, beat := 0,
    tried := 0, collMap := [], pass := 0, cuts := [], todo := [], flight := [], arrivals := [], credits := [], landed := [],
    batches := [], chains := [], delivered := [], retry := [], retried := [], owed := [], uncovered := [], closing := false,
    final := false, peerKey := none, peerLanyard := 0, timeBad := false, statement := q.stmt, signers := q.signers, away := false,
    paceAt := 0, paced := [] }

/-- The hitch's state stands in the vault of both modules (R298; 18 Table 18.1). -/
def hitchVault (id : BitVec 128) (s : State) : State := tellHitch id (touch (.hitch id) s)

/-- HITCH_OPEN passes its quorum (R281). -/
def actHitchOpen (p : PairingRec) (q : QCtx) (s : State) : State :=
  match openRefusal s p with
  | some code => qReply q code [] s
  | none =>
    let src := isSource s p
    let s1 := enter shelfChain 0x0060 noStamp
      [(16, p.id.toNat), (1, if src then 1 else 2), (7, 0), (32, (Config.sha3 (encodeFlds (pairingFlds p))).toNat)] s
    let s2 := hitchVault p.id (putHitch (newHitch p src q) s1)
    qReply q sOk [] (quorumDone q shelfChain noStamp s2)

/-- HITCH_OPEN (R280, R281). -/
def execHitchOpen (c : Call) (via : Via) (p : PairingRec) (s : State) : Host.Outcome State Fault Refusal :=
  .next (quorumCmd c via (.hitchOpen p) (actHitchOpen p) s)

/-- A source collection closes to new objects, for its life (R296). -/
def closeToWrites (n : Nat) (s : State) : State :=
  match collAt s n with
  | none => s
  | some c =>
    let (st, s1) := sequence c.shard s
    let c1 : Coll := { c with closed := true, stamp := st }
    { s1 with obj := { s1.obj with colls := mapIf (fun x => x.num == n) (fun _ => c1) s1.obj.colls } }

/-- HITCH_CLOSE passes its quorum: the source's scope collections close to writes, and the final pass follows (R296, R300). -/
def actHitchClose (id : BitVec 128) (q : QCtx) (s : State) : State :=
  match hitchAt s id with
  | none => qReply q eHitchState [] s
  | some h =>
    if !h.source || h.state != .streaming then qReply q eHitchState [] s
    else
      let s1 := h.record.scope.foldl (fun acc e => closeToWrites e.coll.toNat acc) s
      let s2 := hitchVault id (mapHitch id (fun x => { x with state := .closing, closing := true }) (changeBanks s1).2)
      qReply q sOk [] (quorumDone q shelfChain noStamp s2)

/-- HITCH_CLOSE (R300). -/
def execHitchClose (c : Call) (via : Via) (id : BitVec 128) (s : State) : Host.Outcome State Fault Refusal :=
  .next (quorumCmd c via (.hitchClose id) (actHitchClose id) s)

/-- HITCH_ABORT passes its quorum (R300). -/
def actHitchAbort (id : BitVec 128) (q : QCtx) (s : State) : State :=
  if (hitchAt s id).any hitchLive then qReply q sOk [] (quorumDone q shelfChain noStamp (hitchVault id (abortHitch id s)))
  else qReply q eHitchState [] s

/-- HITCH_ABORT (R300). -/
def execHitchAbort (c : Call) (via : Via) (id : BitVec 128) (s : State) : Host.Outcome State Fault Refusal :=
  .next (quorumCmd c via (.hitchAbort id) (actHitchAbort id) s)

/-- HITCH_STATUS (19 Table 19.3). -/
def execHitchStatus (c : Call) (id : BitVec 128) (s : State) : Host.Outcome State Fault Refusal :=
  .next (mailboxCmd c 0x0904 .nothing isCustodian (fun _ s =>
    match hitchAt s id with
    | none => reply c 0x0904 eRange [] s
    | some h =>
      let fig := doneFigures h none
      reply c 0x0904 sOk [(1, hitchCode h.state), (7, 0), (4, h.pass), (8, (h.batches.filter (fun b => b.acked)).length), (8, fig.1),
                          (8, fig.2)] s) s)

/-! ## The Myavo link: sessions and HELLO (R282 to R285) -/

/-- The part of HELLO before its lengths (Table 11.4): role, version, custody stamp; then certificate, custodian set, ceremony and
custody certificate, each after its length. The certificate chain stands as the digest of the module it is for. -/
def helloFlds (s : State) (h : Hitch) : Flds :=
  let sigs : Flds := (h.signers.map (fun k =>
    [(32, k.toNat), (4691, Config.sign k (ascii "UAVIK-QUORUM-1" ++ encodeFlds h.statement))])).flatten
  let cert : Flds := ((s.fix.certs.getLast?).map certFlds).getD []
  let part (f : Flds) : Flds := (4, sizeFlds f) :: f
  [(1, if h.source then 1 else 2), (1, 1), (6, 0)] ++ kstampFlds (kstamp s) ++ part [(32, Config.moduleDigest.toNat)] ++
    part (custSetFlds s) ++ part (h.statement ++ sigs) ++ part cert

/-- Sends HELLO. -/
def sendHello (id : BitVec 128) (s : State) : State :=
  match hitchAt s id with
  | none => s
  | some h => sendMyavo id 0x01 (helloFlds s h) s

/-- SCOPE: each scope entry with its objects, their bytes and its collection's locks (Table 11.4). -/
def scopeFlds (s : State) (h : Hitch) : Flds :=
  (h.record.scope.map (fun e =>
    let n := e.coll.toNat
    let objs := s.obj.objs.filter (fun o => o.coll == n && o.whip.isSome)
    let locks := locksAt s n none
    [(2, n), (1, if (collAt s n).any (fun c => c.durable) then 1 else 0), (1, locks.length), (4, 0), (8, objs.length),
     (8, (objs.map objSize).sum)] ++ (locks.map lockFlds).flatten)).flatten

/-- RESUME: per tenant in scope its last batch sent or receipted, and the last sequence processed (R298). -/
def resumeFlds (h : Hitch) : Flds :=
  ((scopeTenants h).map (fun t =>
    [(2, t), (6, 0), (8, ((h.batches.filter (fun b => b.tenant == t && (if h.source then b.closed else b.receipted))).map
      (fun b => b.number)).foldl max 0)])).flatten ++ [(8, h.received)]

/-- The hitch waits SUSPENDED (R284, R285). -/
def waitSuspended (id : BitVec 128) (s : State) : State :=
  mapHitch id (fun h => if hitchLive h then { h with state := .suspended } else h) (suspendHitch id s)

/-- What follows HELLO on a session: SCOPE on the first, RESUME on every other (R285, R298). -/
def afterHello (id : BitVec 128) (s : State) : State :=
  match hitchAt s id with
  | none => s
  | some h =>
    if h.collMap.isEmpty then
      if h.timeBad then waitSuspended id s else if h.source then sendMyavo id 0x02 (scopeFlds s h) s else s
    else sendMyavo id 0x04 (resumeFlds h) s

/-- The live session of a peer shelf that a message came on (12 R325). -/
def peerSession (s : State) (m : Myavo) : Option Ctx :=
  (ctxAt s m.ctx).filter (fun c => taking s && c.kind == .bryndle 3 && !c.closing)

/-- A Myavo message other than HELLO (R283): it is heard; a format error closes the session; one already processed is discarded. -/
def myavoIn (m : Myavo) (act : Hitch → State → State) (s : State) : State :=
  match peerSession s m with
  | none => s
  | some c =>
    if c.helloOnly then s
    else
      match (hitchAt s m.id).filter (fun h => h.ctx == some m.ctx) with
      | none => closeCtx eFormat m.ctx s
      | some h =>
        if !m.known || m.rsv != 0 then closeCtx eFormat m.ctx s
        else if m.seq ≤ h.received || !hitchLive h then s
        else
          let h1 : Hitch := { h with received := m.seq, heard := mono s }
          act h1 (tellSeq h1 (putHitch h1 s))

/-- The modules of the peer shelf, and its custodian set, as the record names them. -/
def peerModules (h : Hitch) : List Digest := if h.source then [h.record.dstA, h.record.dstB] else [h.record.srcA, h.record.srcB]

/-- The custodian set of the peer. -/
def peerCust (h : Hitch) : Digest := if h.source then h.record.dstCust else h.record.srcCust

/-- What R282 asks of a HELLO. -/
def helloOk (h : Hitch) (x : HelloIn) : Bool :=
  x.identity != 0 && (peerModules h).contains x.identity && x.ceremonyOk && x.custBody == peerCust h && x.certOk

/-- A HELLO that passes: the session is the hitch's, any older one ends, the peer's stamp is judged; the target answers (R282, R284). -/
def takeHello (m : Myavo) (x : HelloIn) (c : Ctx) (h : Hitch) (s : State) : State :=
  let id := h.record.id
  let s1 := match h.ctx with
    | some n => if n = m.ctx then s else closeCtx eSession n s
    | none => s
  let s2 := putCtx { c with helloOnly := false, who := .peer id } s1
  let upd (y : Hitch) : Hitch :=
    { y with ctx := some m.ctx, hello := true, received := m.seq, heard := mono s, beat := mono s, peerKey := some x.custodyKey,
             peerLanyard := x.lanyard, timeBad := !stampsAgree s x.stamp, away := false }
  let s3 := mapHitch id upd s2
  let s4 := if h.source then s3 else sendHello id s3
  hitchVault id (afterHello id s4)

/-- HELLO (R282). -/
def execHello (m : Myavo) (x : HelloIn) (s : State) : Host.Outcome State Fault Refusal :=
  .next (
    match peerSession s m with
    | none => s
    | some c =>
      match hitchAt s m.id with
      | none => closeCtx eFormat m.ctx s
      | some h =>
        if !m.known || m.rsv != 0 then closeCtx eFormat m.ctx s
        else if m.seq ≤ h.received then s
        else if !hitchLive h || !helloOk h x then closeCtx ePairing m.ctx s
        else takeHello m x c h s)

/-! ## SCOPE, COLL_MAP, RESUME (R285, R298) -/

/-- The target creates a collection of the scope under its tenant and sets its locks (R285). -/
def createScoped (h : Hitch) (x : ScopeIn) (s : State) : State :=
  match h.record.scope.find? (fun e => e.coll.toNat == x.coll), geomUnder s.layers.service h.record.geometry.toNat with
  | some e, some g =>
    let t := localTenant s h e.tenant.toNat
    let d := drawColl s
    let shard := placeShard d.2
    let q := sequence shard d.2
    let c : Coll := { num := d.1, tenant := t, geometry := g, durable := x.durable, shard := shard, state := .active, stamp := q.1, closed := false }
    let s1 := containerEntry t 1 d.1 g 0 q.1 (changeBanks { q.2 with obj := { q.2.obj with colls := q.2.obj.colls ++ [c] } }).2
    let s2 := x.locks.foldl (fun acc l => setCrossed c 0 none l acc) s1
    mapHitch h.record.id (fun y => { y with collMap := y.collMap ++ [(x.coll, d.1)] }) s2
  | _, _ => s

/-- A tenant's byte quota holds what the scope brings it (R285). -/
def quotaHolds (s : State) (h : Hitch) (xs : List ScopeIn) : Bool :=
  (scopeTenants h).all (fun t =>
    let mine := xs.filter (fun x => scopeTenant h x.coll == t)
    let n := localTenant s h t
    decide (bytesOf s n + (mine.map (fun x => x.bytes)).sum ≤ byteQuota s n))

/-- The answer to SCOPE, per scope entry: the collection, or a status. -/
def collMapFlds (xs : List ScopeIn) (map : List (Nat × Nat)) (status : Nat) : Flds :=
  (xs.map (fun x => [(2, x.coll), (2, if status = sOk then (map.lookup x.coll).getD 0 else 0), (2, status), (2, 0)])).flatten

/-- A hitch streams again; a target whose completion receipts are signed sends COMPLETE (R300). -/
def goOn (id : BitVec 128) (s : State) : State :=
  match hitchAt s id with
  | none => s
  | some h => if !h.source && h.closing then sendComplete id (startStreaming id s) else startStreaming id s

/-- A hitch streams unless the two clocks disagree (R284). -/
def streamOrWait (id : BitVec 128) (s : State) : State :=
  match hitchAt s id with
  | none => s
  | some h => if h.timeBad then waitSuspended id s else goOn id s

/-- SCOPE on the target (R285). -/
def scopeAct (xs : List ScopeIn) (h : Hitch) (s : State) : State :=
  let id := h.record.id
  if h.source then s
  else if !(h.collMap.isEmpty) then sendMyavo id 0x03 (collMapFlds xs h.collMap sOk) s
  else if (geomUnder s.layers.service h.record.geometry.toNat).isNone || !membersFull s then
    abortHitch id (sendMyavo id 0x03 (collMapFlds xs [] eGeometry) s)
  else if !quotaHolds s h xs then waitSuspended id (sendMyavo id 0x03 (collMapFlds xs [] eQuota) s)
  else
    let s1 := xs.foldl (fun acc x => createScoped h x acc) s
    let map := ((hitchAt s1 id).map (fun y => y.collMap)).getD []
    streamOrWait id (hitchVault id (sendMyavo id 0x03 (collMapFlds xs map sOk) s1))

/-- SCOPE (R285). -/
def execScope (m : Myavo) (entries : List ScopeIn) (s : State) : Host.Outcome State Fault Refusal :=
  .next (myavoIn m (scopeAct entries) s)

/-- COLL_MAP on the source: target collections, E_QUOTA that waits, or E_GEOMETRY that ends the hitch (R285). -/
def collMapAct (entries : List (Nat × Nat × Word16)) (h : Hitch) (s : State) : State :=
  let id := h.record.id
  if !h.source then s
  else if entries.any (fun e => e.2.2.toNat == eGeometry) then abortHitch id s
  else if entries.any (fun e => e.2.2.toNat != sOk) then waitSuspended id s
  else streamOrWait id (hitchVault id (mapHitch id (fun y => { y with collMap := entries.map (fun e => (e.1, e.2.1)) }) s))

/-- COLL_MAP (R285). -/
def execCollMap (m : Myavo) (entries : List (Nat × Nat × Word16)) (s : State) : Host.Outcome State Fault Refusal :=
  .next (myavoIn m (collMapAct entries) s)

/-- The objects of a source's batch, as keys still to send. -/
def batchKeys (b : HBatch) : List (Nat × Digest) := b.lines.map (fun l => (l.srcColl, l.srcMac))

/-- RESUME on the source: batches that the target receipted wait for their receipts, every other batch begun or closed and every object
in flight is sent again (R298). -/
def resumeSource (tenants : List (Nat × Nat)) (h : Hitch) : Hitch :=
  let kept (b : HBatch) : Bool := b.acked || (b.closed && decide (b.number ≤ (tenants.lookup b.tenant).getD 0))
  let more := ((dropIf kept h.batches).map batchKeys).flatten ++ h.flight.map (fun f => (f.line.srcColl, f.line.srcMac))
  let keep (b : HBatch) : HBatch := { b with receipted := true }
  { h with batches := (h.batches.filter kept).map keep, flight := [], todo := more ++ h.todo }

/-- RESUME (R298). -/
def resumeAct (tenants : List (Nat × Nat)) (h : Hitch) (s : State) : State :=
  let id := h.record.id
  if h.source then pumpHitch id (streamOrWait id (putHitch (resumeSource tenants h) s))
  else
    let s1 := dropArrivals id s
    let s2 := mapHitch id (fun y => { y with batches := dropIf (fun b => !b.closed) y.batches }) s1
    let due := h.batches.filter (fun b => b.receipted && !b.acked)
    streamOrWait id (due.foldl (fun acc b => sendReceipt id b.tenant b.number acc) s2)

/-- RESUME (R298). -/
def execResume (m : Myavo) (tenants : List (Nat × Nat)) (s : State) : Host.Outcome State Fault Refusal :=
  .next (myavoIn m (resumeAct tenants) s)

/-! ## Heartbeats and timers (R284, R285, R300) -/

/-- A peer's HEARTBEAT: the hitch is suspended while the clocks disagree, and streams again when they agree (R284); a source whose SCOPE
was not accepted for want of quota sends it again (R285). -/
def heartbeatAct (stamp : StampIn) (h : Hitch) (s : State) : State :=
  let id := h.record.id
  let bad := !stampsAgree s stamp
  let s1 := mapHitch id (fun y => { y with timeBad := bad }) s
  if bad then waitSuspended id s1
  else if h.state != .suspended then s1
  else if h.collMap.isEmpty then if h.source then sendMyavo id 0x02 (scopeFlds s1 h) s1 else s1
  else
    let s2 := goOn id s1
    if h.source then pumpHitch id s2 else s2

/-- MYAVO_HEARTBEAT (R284). -/
def execMyavoHeartbeat (m : Myavo) (stamp : StampIn) (s : State) : Host.Outcome State Fault Refusal :=
  .next (myavoIn m (heartbeatAct stamp) s)

/-- MYAVO_HEARTBEAT_SEND: a second after the last one (R285). -/
def execMyavoHeartbeatSend (id : BitVec 128) (s : State) : Host.Outcome State Fault Refusal :=
  .next (
    match hitchAt s id with
    | none => s
    | some h =>
      if h.ctx.isSome && h.hello && confirmed s h.beat (secU) then
        sendMyavo id 0x05 (kstampFlds (kstamp s)) (putHitch { h with beat := mono s } s)
      else s)

/-- HITCH_SILENCE_TIMEOUT: 10 s without a message (R285). -/
def execHitchSilenceTimeout (id : BitVec 128) (s : State) : Host.Outcome State Fault Refusal :=
  .next (
    match hitchAt s id with
    | none => s
    | some h =>
      match h.ctx with
      | none => s
      | some n => if confirmed s h.heard (10 * secU) then closeCtx eSession n s else s)

/-- The address of the target end: the PEER item of the HITCH overlay, or what DISCOVER announced (20 Table 20.3; 18 R458). -/
def peerAddress (s : State) (h : Hitch) : Option (BitVec 128 × Nat) :=
  let items := ((overlayIn s 4 0).map (fun o => o.items)).getD []
  let named := items.findSome? (fun i => match i with
    | .peer p => if p.shelf == h.record.dstShelf then some (p.addr, p.port.toNat) else none
    | _ => none)
  match named with
  | some a => some a
  | none => (s.tet.found.find? (fun f => f.1 == h.record.id)).map (fun f => f.2)

/-- The lowest handle no setup has. -/
def freeHandle (s : State) : Nat :=
  ((List.range (s.trn.setups.length + 1)).find? (fun n => !(s.trn.setups.any (fun x => x.handle == n)))).getD 0

/-- The MAC the source end sets up its session on: the lowest whose link is up. -/
def setupMac (s : State) : Nat := ((s.net.macs.find? (fun m => m.linkUp)).map (fun m => m.num)).getD 0

/-- What the source end begins a setup with: the SETUP_INIT of service 3 to the peer's address, what it keeps of it, and the state with both
key pairs and the nonce drawn (12 R323, R324; 11 R282). -/
def hitchInit (id : BitVec 128) (h : Hitch) (a : BitVec 128 × Nat) (s : State) : InitMsg × Setup × State :=
  let n := freeHandle s
  let mac := setupMac s
  let (nonce, s1) := drawDigest (putHitch { h with tried := mono s } s)
  let (dh, s2) := draw s1
  let (kem, s3) := draw s2
  let hop := hopOf s mac (decide (2 ^ 32 ≤ a.1.toNat)) a.1.toNat
  let dst : PeerAddr := { addr := a.1, port := BitVec.ofNat 16 a.2, eth := Config.neighbour mac hop }
  let m : InitMsg := { src := dst, udp := 0, version := 1, service := 3, sizes := 7, suite := 1, ictx := n, rsv := 0, nonce := nonce,
                       dh := Config.x25519 dh, kem := Config.kemPublic kem, mac := mac }
  (m, { handle := n, service := 3, payload := 0, mac := mac, since := mono s, nonce := nonce, initiator := true, hitch := some id, src := dst,
        peer := 0, script := encodeFlds (initFlds m), ki := 0, dh := dh, kem := kem }, s3)

/-- HITCH_SETUP_RETRY: every 10 s the source end without a session begins a setup (R282, R285; 12 R323). -/
def execHitchSetupRetry (id : BitVec 128) (s : State) : Host.Outcome State Fault Refusal :=
  .next (
    match (hitchAt s id).filter (fun h => h.source && hitchLive h && !h.away && h.ctx.isNone && taking s &&
        decide (custodySec s < h.record.notAfter) && !(s.trn.setups.any (fun x => x.hitch == some id)) &&
        (h.tried == 0 || confirmed s h.tried (10 * secU))) with
    | none => s
    | some h =>
      match peerAddress s h with
      | none => s
      | some a =>
        let (m, x, s1) := hitchInit id h a s
        sendSetup m.mac 0x10 x.handle sOk (initFlds m) ((setupPackets 0x10 0 1 true none x.script).map (fun p => (x.src, p)))
          { s1 with trn := { s1.trn with setups := s1.trn.setups ++ [x] } })

/-- A setup of this module as the initiator. -/
def ownSetup (s : State) (handle : Nat) : Option Setup := s.trn.setups.find? (fun x => x.handle == handle && x.initiator)

/-- A setup of this module ends. -/
def dropSetup (handle : Nat) (s : State) : State :=
  { s with trn := { s.trn with setups := dropIf (fun x => x.handle == handle && x.initiator) s.trn.setups } }

/-- The payload of a SETUP_RESP (Table 12.4). -/
def respBytes (r : RespMsg) : Bytes :=
  encodeFlds [(2, r.status), (1, payloadBit r.payload), (1, 0), (4, r.setup), (32, r.nonce.toNat), (32, r.dh.toNat), (1568, r.ct),
    (4, r.chain.length)] ++ r.chain ++ leBytes 96 r.sig

/-- What the source end makes of a SETUP_RESP: the fields of its SETUP_AUTH of kind 3, the handshake key that seals it, and the setup as it
then stands (12 R323, R324, Table 12.4; 11 R282). -/
def hitchAuth (r : RespMsg) (x : Setup) : Flds × BitVec 512 × Setup :=
  let script := x.script ++ respBytes r
  let t1 := Config.sha3 script
  let ki := setupKi (Config.kemDecap x.kem r.ct) (Config.dhShared x.dh r.dh)
  let body : Flds := [(1, 3), (7, 0), (96, Config.deviceSign (ascii "UAVIK-SESSION-1" ++ leBytes 32 t1.toNat))]
  (body, (handshakeKeys ki t1 true).1,
    { x with payload := r.payload, peer := r.setup, script := script ++ encodeFlds body, ki := ki, dh := 0, kem := 0 })

/-- SETUP_RESP: the source end proves its device identity in SETUP_AUTH of kind 3, sealed under the handshake key (12 R323, R324, Table 12.4;
11 R282). -/
def execSetupResp (r : RespMsg) (s : State) : Host.Outcome State Fault Refusal :=
  .next (
    match (ownSetup s r.handle).filter (fun _ => taking s) with
    | none => s
    | some x =>
      if r.status ≠ sOk ∨ !r.sigOk then dropSetup r.handle s
      else
        let (body, key, y) := hitchAuth r x
        sendSetup x.mac 0x12 r.handle sOk body
          ((setupPackets 0x12 r.setup (max 2 (stamp48 s * 65536)) true (some key) (encodeFlds body)).map (fun p => (x.src, p)))
          { s with trn := { s.trn with setups := mapIf (fun z => z.handle == r.handle && z.initiator) (fun _ => y) s.trn.setups } })

/-- The session that a SETUP_DONE naming context `ctx` of the peer opens for the hitch (12 R323, R324). -/
def hitchSession (id : BitVec 128) (ctx : Nat) (x : Setup) (s : State) : Nat × State :=
  openSession (.bryndle 3) (.peer id) x.mac (max 1024 x.payload) 1 0 x.nonce
    { peer := ctx, src := x.src, keys := sessionKeys x.ki (Config.sha3 x.script) true } s

/-- SETUP_DONE: the session stands, and the source end sends HELLO (12 R323; 11 R282). -/
def execSetupDone (handle status ctx : Nat) (s : State) : Host.Outcome State Fault Refusal :=
  .next (
    match (ownSetup s handle).filter (fun _ => taking s) with
    | none => s
    | some x =>
      let s1 := dropSetup handle s
      match x.hitch.bind (hitchAt s1) with
      | none => s1
      | some h =>
        let id := h.record.id
        if status ≠ sOk ∨ h.ctx.isSome ∨ !hitchLive h ∨ (setupLimit s1 (.bryndle 3) (.peer id)).isSome then s1
        else
          let (n, s2) := hitchSession id ctx x s1
          sendHello id (mapHitch id (fun y => { y with ctx := some n, heard := mono s2 }) s2))

/-- HITCH_NOT_AFTER: Custody Time has reached the record's not-after (R300, Table 11.2). -/
def execHitchNotAfter (id : BitVec 128) (s : State) : Host.Outcome State Fault Refusal :=
  .next (if (hitchAt s id).any (fun h => hitchLive h && !h.away && decide (h.record.notAfter ≤ custodySec s)) then hitchVault id (abortHitch id s) else s)

/-! ## Passes of the source (R286) -/

/-- The cut of a scope collection: a read point at its shard's sequencer. -/
def cutOf (s : State) (coll : Nat) : Nat × CStamp := (coll, readPoint s (((collAt s coll).map (fun c => c.shard)).getD 0))

/-- An object of the scope sealed at or after the cut before and before its own. -/
def inPass (old new : List (Nat × CStamp)) (o : Obj) : Bool :=
  match o.whip, new.lookup o.coll with
  | some w, some c => w.stamp.lt c && !((old.lookup o.coll).any (fun b => w.stamp.lt b))
  | _, _ => false

/-- The next pass: cuts, its objects in the order of LIST, and those to be sent again (R286, R290). -/
def startPass (h : Hitch) (s : State) : State :=
  let cuts := h.record.scope.map (fun e => cutOf s e.coll.toNat)
  let objs := (s.obj.objs.filter (inPass h.cuts cuts)).map (fun o => (o.coll, o.mac))
  let h1 : Hitch := { h with pass := h.pass + 1, cuts := cuts, todo := h.retry ++ objs, retry := [], retried := h.retried ++ h.retry,
                             final := h.closing }
  hitchVault h.record.id (putHitch h1 s)

/-- HITCH_PASS_START: the pass before is over; the final one runs once, after HITCH_CLOSE (R286, R300). -/
def execHitchPassStart (id : BitVec 128) (s : State) : Host.Outcome State Fault Refusal :=
  .next (
    match hitchAt s id with
    | none => s
    | some h =>
      if h.source && !h.away && h.todo.isEmpty && h.flight.isEmpty && !s.pwr.keepSafe &&
          (h.state == .streaming || (h.state == .closing && (!h.final || !h.retry.isEmpty))) then
        endPass id (pumpHitch id (startPass h s))
      else s)

/-! ## Objects arriving at the target (R287, R288, R290, R295) -/

/-- The fate of an arrival: 4 a duplicate of what this hitch delivered, 5 a name held, 0 to be created (R290). -/
def arrivalFate (s : State) (h : Hitch) (b : ObjBegin) (mac : Digest) : Nat :=
  let st : CStamp := { time := b.srcTime, seq := b.srcSeq }
  match objAt s b.dstColl mac with
  | none => 0
  | some _ => if h.delivered.any (fun d => d.1 == b.dstColl && d.2.1 == mac && d.2.2.2 == st) then 4 else 5

/-- The open object of an arrival: a PUT by the module under a fresh key (R290). -/
def arrivalOpen (b : ObjBegin) (mac : Digest) (s : State) : Obj × State :=
  let (key, s1) := drawKey s
  let (hd, s2) := draw s1
  ({ coll := b.dstColl, mac := mac, name := b.name, metadata := b.metadata, parts := [], whip := none, handle := hd.setWidth 64,
     opener := none, lastUse := now s2, stamp := noStamp, source := .hitch, lastRead := 0, lost := false, counted := false, key := key,
     version := 0, digested := 0 }, s2)

/-- OBJ_BEGIN on the target (R287, R290). -/
def objBeginAct (b : ObjBegin) (h : Hitch) (s : State) : State :=
  let id := h.record.id
  let n := (h.ctx).getD 0
  if h.source || h.state != .streaming then s
  else if 17 < b.locks.length ∨ 64 < b.excerpts then closeCtx eLimit n s
  else if !h.collMap.any (fun x => x == (b.srcColl, b.dstColl)) ∨ b.stream = 0 ∨ h.record.streams.toNat < b.stream then closeCtx eFormat n s
  else
    match collAt s b.dstColl with
    | none => closeCtx eFormat n s
    | some c =>
      match (tenantAt s c.tenant).bind (fun t => t.root) with
      | none => closeCtx eNotReady n s
      | some root =>
        let mac := nameMac root b.name
        let fate := arrivalFate s h b mac
        let a : Arrival := { stream := b.stream, begin_ := b, mac := mac, part := [], fate := fate, excerpts := [], rows := [] }
        let keep (y : Hitch) : Hitch := { y with arrivals := dropIf (fun x => x.stream == b.stream) y.arrivals ++ [a] }
        let s1 := mapHitch id keep s
        if fate = 0 then
          let (o, s2) := arrivalOpen b mac s1
          let q := sequence c.shard s2
          recordObj c o q.1 q.2
        else s1

/-- OBJ_BEGIN (R287). -/
def execObjBegin (m : Myavo) (b : ObjBegin) (s : State) : Host.Outcome State Fault Refusal := .next (myavoIn m (objBeginAct b) s)

/-- The arrival on a stream. -/
def arrivalOn (h : Hitch) (stream : Nat) : Option Arrival := h.arrivals.find? (fun a => a.stream == stream)

/-- Writes an arrival. -/
def putArrival (id : BitVec 128) (a : Arrival) (s : State) : State :=
  mapHitch id (fun y => { y with arrivals := mapIf (fun x => x.stream == a.stream) (fun _ => a) y.arrivals }) s

/-- The part in hand is committed to the arriving object (R290, Table 11.6; 05 R132). -/
def arrivalPart (a : Arrival) (part : Nat) (s : State) : Arrival × State :=
  let a0 : Arrival := { a with part := [] }
  match arrivalObj s a with
  | none => (a0, s)
  | some (c, o) =>
    let q := sequence c.shard s
    let r := commitPart c o part a.part q.1 q.2
    let a1 : Arrival := { a0 with rows := a.rows ++ r.2.1 }
    (a1, recordObj c r.1 q.1 r.2.2)

/-- OBJ_DATA on the target: the slot has landed, the bytes join the part in hand; last of part commits it, last of object ends the arrival
(R288 to R290). -/
def objDataAct (stream slot part : Nat) (lastPart lastObj : Bool) (data : Bytes) (h : Hitch) (s : State) : State :=
  let id := h.record.id
  if h.source || h.state != .streaming || stream = 0 || decide (256 ≤ slot) then s
  else
    let s1 := mapHitch id (fun y => { y with landed := y.landed ++ [(stream, slot)] }) s
    match arrivalOn h stream with
    | none => s1
    | some a =>
      let a1 : Arrival := { a with part := if a.fate = 0 then a.part ++ data else [] }
      let r := if lastPart && a.fate == 0 then arrivalPart a1 part s1 else (a1, s1)
      let s2 := putArrival id r.1 r.2
      if !lastObj then s2 else if r.1.fate = 0 then whipArrival id r.1 s2 else endHeld id r.1 s2

/-- OBJ_DATA (R288). -/
def execObjData (m : Myavo) (slot part : Nat) (lastPart lastObj : Bool) (_offset : Nat) (data : Bytes) (s : State) :
    Host.Outcome State Fault Refusal :=
  .next (myavoIn m (objDataAct m.stream slot part lastPart lastObj data) s)

/-- OBJ_ABORT names its stream in the header: result 3 for cause 1, 6 for cause 2 (R290). -/
def objAbortAct (stream cause : Nat) (h : Hitch) (s : State) : State :=
  if h.source then s
  else
    match arrivalOn h stream with
    | none => s
    | some a => endArrival h.record.id a (arrivalLine a (if cause = 1 then 3 else 6)) (undoArrival a s)

/-- OBJ_ABORT (R290). -/
def execObjAbort (m : Myavo) (cause : Nat) (s : State) : Host.Outcome State Fault Refusal := .next (myavoIn m (objAbortAct m.stream cause) s)

/-- EXCERPT: it belongs to the latest arrival that still announces one (R287, R295). -/
def excerptAct (chain position : Nat) (entry : Bytes) (h : Hitch) (s : State) : State :=
  match (h.arrivals.filter (fun a => decide (a.excerpts.length < a.begin_.excerpts))).getLast? with
  | none => s
  | some a => putArrival h.record.id { a with excerpts := a.excerpts ++ [(chain, position, entry)] } s

/-- EXCERPT (R295). -/
def execExcerpt (m : Myavo) (chain position : Nat) (entry : Bytes) (s : State) : Host.Outcome State Fault Refusal :=
  .next (myavoIn m (excerptAct chain position entry) s)

/-- CHECKPOINT: a Source checkpoint entry in the target's shelf chain (R295). -/
def checkpointAct (bytes : Bytes) (h : Hitch) (s : State) : State :=
  if h.source then s
  else enter shelfChain 0x0063 noStamp [(16, h.record.id.toNat), (bytes.length, leValue bytes)] s

/-- CHECKPOINT (R295). -/
def execCheckpoint (m : Myavo) (bytes : Bytes) (s : State) : Host.Outcome State Fault Refusal := .next (myavoIn m (checkpointAct bytes) s)

/-- CREDIT on the source: the slots of its bitmap are granted, and the stream's trigger is notified (R288, Table 11.6). -/
def creditAct (stream slots : Nat) (h : Hitch) (s : State) : State :=
  let id := h.record.id
  if !h.source then s
  else
    let grant := ((List.range 256).filter (fun k => slots.testBit k)).map (fun k => (stream, k))
    kickStream id stream (mapHitch id (fun y => { y with credits := y.credits ++ grant.filter (fun g => !y.credits.contains g) }) s)

/-- CREDIT (R288). -/
def execCredit (m : Myavo) (stream slots : Nat) (s : State) : Host.Outcome State Fault Refusal := .next (myavoIn m (creditAct stream slots) s)

/-! ## Batches (R293) -/

/-- BATCH_CLOSE on the target: its open batch, and as many lines as the source says (R293). -/
def batchCloseAct (tenant number objects : Nat) (h : Hitch) (s : State) : State :=
  if h.source then s
  else
    let b := openBatch h tenant
    if b.number ≠ number ∨ b.lines.length ≠ objects then closeCtx eFormat ((h.ctx).getD 0) s else closeArrived h.record.id b s

/-- BATCH_CLOSE (R293). -/
def execBatchClose (m : Myavo) (tenant number objects : Nat) (s : State) : Host.Outcome State Fault Refusal :=
  .next (myavoIn m (batchCloseAct tenant number objects) s)

/-- A line's source fields equal what was sent (R293). -/
def lineAgrees (l : ManifestLine) (x : LineIn) : Bool :=
  l.srcColl == x.srcColl && l.dstColl == x.dstColl && l.srcMac == x.srcMac && l.size == x.size && l.srcF3 == x.srcF3 && l.srcF2 == x.srcF2 &&
    l.srcPos == x.srcPos

/-- A line with the target's fields. -/
def lineFilled (l : ManifestLine) (x : LineIn) : ManifestLine :=
  { l with result := x.result, dstMac := x.dstMac, dstF3 := x.dstF3, dstF2 := x.dstF2, dstPos := x.dstPos }

/-- BATCH_RECEIPT on the source: a receipt or a line that fails suspends the hitch with E_SIGNATURE; else its Batch entry, BATCH_ACK, and
the objects that mismatched go again once (R290, R293). -/
def receiptAct (tenant number : Nat) (lines : List LineIn) (receiptOk : Bool) (leaf : Digest) (h : Hitch) (s : State) : State :=
  let id := h.record.id
  match h.batches.find? (fun b => b.tenant == tenant && b.number == number && b.closed) with
  | none => s
  | some b =>
    if !receiptOk || lines.length != b.lines.length || !((List.zip b.lines lines).all (fun p => lineAgrees p.1 p.2)) then
      closeCtx eSignature ((h.ctx).getD 0) (waitSuspended id s)
    else
      let filled := (List.zip b.lines lines).map (fun p => lineFilled p.1 p.2)
      let b1 : HBatch := { b with lines := filled, receipted := true, acked := true }
      let bad := (filled.filter (fun l => l.result == 2)).map (fun l => (l.srcColl, l.srcMac))
      let again := bad.filter (fun x => !h.retried.contains x)
      let s1 := enter (localTenant s h tenant) 0x0064 noStamp
        [(16, id.toNat), (8, number), (4, filled.length), (4, 0), (32, (manifestDigest b1).toNat), (32, leaf.toNat),
         (32, h.peerLanyard.toNat)] s
      let upd (y : Hitch) : Hitch :=
        let y1 := if b.acked then y else { y with chains := (tenant, chainDigest y b1) :: dropIf (fun x => x.1 == tenant) y.chains }
        putBatch b1 { y1 with retry := y1.retry ++ again.filter (fun x => !y1.retry.contains x) }
      let s2 := if b.acked then s else hitchVault id (mapHitch id upd s1)
      endPass id (pumpHitch id (sendMyavo id 0x23 [(2, tenant), (6, 0), (8, number)] s2))

/-- BATCH_RECEIPT (R293). -/
def execBatchReceipt (m : Myavo) (tenant number : Nat) (lines : List LineIn) (receiptOk : Bool) (leaf : Digest) (s : State) :
    Host.Outcome State Fault Refusal :=
  .next (myavoIn m (receiptAct tenant number lines receiptOk leaf) s)

/-- BATCH_ACK on the target: the receipt need not be kept for resending (R298). -/
def batchAckAct (tenant number : Nat) (h : Hitch) (s : State) : State :=
  if h.source then s
  else
    let upd (b : HBatch) : HBatch := { b with acked := true }
    tellHitch h.record.id (mapHitch h.record.id (fun y =>
      { y with batches := mapIf (fun b => b.tenant == tenant && b.number == number && b.receipted) upd y.batches }) s)

/-- BATCH_ACK (R293). -/
def execBatchAck (m : Myavo) (tenant number : Nat) (s : State) : Host.Outcome State Fault Refusal := .next (myavoIn m (batchAckAct tenant number) s)

/-! ## Locks and deletions (R291, R292) -/

/-- The target's copy of a source object that has crossed: collection and object. -/
def crossedCopy (s : State) (h : Hitch) (srcColl : Nat) (srcMac : Digest) : Option (Coll × Obj) :=
  match (h.collMap.lookup srcColl).bind (collAt s) with
  | none => none
  | some c =>
    match (h.delivered.filter (fun d => d.1 == c.num && d.2.2.1 == srcMac)).getLast? with
    | none => none
    | some d => (sealedAt s c.num d.2.1).map (fun o => (c, o))

/-- LOCK_UPDATE on the target: on the collection, on the copy, or on the arrival that is still in flight (R291). -/
def lockUpdateAct (srcColl : Nat) (srcMac : Option Digest) (l : LockIn) (h : Hitch) (s : State) : State :=
  if h.source then s
  else
    match srcMac with
    | none =>
      match (h.collMap.lookup srcColl).bind (collAt s) with
      | none => s
      | some c => setCrossed c 0 none l s
    | some mac =>
      match h.arrivals.find? (fun a => a.begin_.srcColl == srcColl && a.begin_.srcMac == mac) with
      | some a => putArrival h.record.id { a with begin_ := { a.begin_ with locks := a.begin_.locks ++ [l] } } s
      | none =>
        match crossedCopy s h srcColl mac with
        | none => s
        | some (c, o) => setCrossed c mac (some o.mac) l s

/-- LOCK_UPDATE (R291). -/
def execLockUpdate (m : Myavo) (srcColl : Nat) (srcMac : Option Digest) (lock : LockIn) (s : State) : Host.Outcome State Fault Refusal :=
  .next (myavoIn m (lockUpdateAct srcColl srcMac lock) s)

/-- DELETE_NOTICE on the target: its copy goes unless a lock is in force on it, and a Notice entry says which (R292). -/
def deleteNoticeAct (srcColl : Nat) (srcMac : Digest) (h : Hitch) (s : State) : State :=
  if h.source then s
  else
    match crossedCopy s h srcColl srcMac with
    | none => s
    | some (c, o) =>
      let note (k : Nat) (t : State) : State := enter c.tenant 0x0066 noStamp [(1, k), (7, 0), (32, srcMac.toNat), (32, o.mac.toNat)] t
      let s1 := meetExpiries c.num (some o.mac) (meetExpiries c.num none s)
      match lockRefusal s1 (bindingLocks s1 c.num o.mac) with
      | some _ => note 2 s1
      | none =>
        let q := sequence c.shard s1
        let s2 := (deleteObj c o q.1 q.2).2
        note 1 (mapHitch h.record.id (fun y => { y with delivered := dropIf (fun d => d.1 == c.num && d.2.1 == o.mac) y.delivered }) s2)

/-- DELETE_NOTICE (R292). -/
def execDeleteNotice (m : Myavo) (srcColl : Nat) (srcMac : Digest) (s : State) : Host.Outcome State Fault Refusal :=
  .next (myavoIn m (deleteNoticeAct srcColl srcMac) s)

/-! ## The partner's hitches (R281, R298, R299) -/

/-- The hitch state of a code. -/
def hitchStateOf : Nat → HitchState
  | 0 => .opening
  | 1 => .streaming
  | 2 => .suspended
  | 3 => .closing
  | 4 => .closed
  | _ => .aborted

/-- The copy of a hitch that this module's vault keeps for its partner. -/
def copyOf (v : HitchVault) : Hitch :=
  { record := v.record, source := v.source, state := hitchStateOf v.state, ctx := none, hello := false, sent := v.sent, received := v.received,
    heard := 0, beat := 0, tried := 0, collMap := v.collMap, pass := v.pass, cuts := v.cuts.map (fun c => (c.1, { time := c.2.1, seq := c.2.2 })),
    todo := v.todo, flight := [], arrivals := [], credits := [], landed := [], batches := v.batches, chains := v.chains,
    delivered := v.delivered.map (fun d => (d.1, d.2.1, d.2.2.1, { time := d.2.2.2.1, seq := d.2.2.2.2 })), retry := v.retry, retried := v.retried,
    owed := v.owed, uncovered := [], closing := v.closing, final := v.final, peerKey := v.peerKey, peerLanyard := v.peerLanyard, timeBad := false,
    statement := v.statement, signers := v.signers, away := true, paceAt := 0, paced := [] }

/-- A source's scope collections stand closed to new objects, as the partner's act closed them (R296). -/
def shutScope (p : PairingRec) (s : State) : State :=
  { s with obj := { s.obj with colls := mapIf (fun c => p.scope.any (fun e => e.coll.toNat == c.num)) (fun c => { c with closed := true }) s.obj.colls } }

/-- The partner reports a hitch. The module that holds its session is the end; an end without a session learns only that the partner's quorum act
closes or aborts it (R281, R300). -/
def mateHitch (v : HitchVault) (s : State) : State :=
  let id := v.record.id
  let s1 := if v.closing && v.source then shutScope v.record s else s
  match hitchAt s1 id with
  | some h =>
    if h.away || v.session then putHitch (copyOf v) ((h.ctx).elim s1 (fun n => closeCtx eSession n s1))
    else if v.state = 5 ∧ hitchLive h then
      let s2 := dropArrivals id (mapHitch id (fun x => { x with state := .aborted, flight := [], todo := [] }) s1)
      (h.ctx).elim s2 (fun n => closeCtx eSession n s2)
    else if v.closing ∧ h.source then
      mapHitch id (fun x => { x with closing := true, state := if x.state == .streaming then .closing else x.state }) s1
    else s1
  | none => putHitch (copyOf v) s1

/-- The partner's last sequences of a hitch. -/
def mateSeq (id : BitVec 128) (sent received : Nat) (s : State) : State :=
  mapHitch id (fun h => if h.away then { h with sent := sent, received := received } else h) s

/-- The partner has performed a lock or a deletion on what has crossed: the end tells the target (R291, R292). -/
def mateNotice (id : BitVec 128) (coll : Nat) (mac : Option Digest) (lock : Option LockIn) (st : CStamp) (s : State) : State :=
  match (hitchAt s id).filter (fun h => !h.away && crossed h coll mac) with
  | none => s
  | some h =>
    match lock, mac with
    | some l, _ => noticeLock coll mac { num := l.num, expiry := l.expiry, reason := l.reason, issuer := l.issuer } h s
    | none, some m => noticeDelete coll m st h s
    | none, none => s

/-- This module continues as the end of its partner's hitches: each waits for a session, and goes on with RESUME (R298, R299). -/
def takeHitches (s : State) : State :=
  let upd (h : Hitch) : Hitch :=
    { h with away := false, ctx := none, hello := false, state := if h.state == .streaming || h.state == .closing then .suspended else h.state }
  { s with hitch := { list := mapIf (fun h => h.away) upd s.hitch.list } }

/-! ## Completion (R300) -/

/-- A tenant's Close entry and its kind 7 receipt, which names that entry; the entry's leaf hash field is a free value, for the leaf holds
the entry's own hash (Tables 11.8, 11.9; R294). -/
def completeTenant (h : Hitch) (t : Nat) (s : State) : State :=
  let n := localTenant s h t
  let (v, s1) := free s
  let (e, s2) := closeEntry h n 1 (doneFigures h (some t)) v s1
  let leaf := nextLeaf s2 n
  match e with
  | none => s2
  | some x =>
    let r := addReceipt 7 n 0 0 (completeBody h t) x s2
    hold { heldAt jobMsg 0 with batch := some (r.1.1, r.1.2, leaf), job := some (.hitchComplete h.record.id) } r.2

/-- PASS_END on the target: with every batch acknowledged, the Close entries and the completion receipts; COMPLETE leaves when they are
signed (R300). -/
def passEndAct (h : Hitch) (s : State) : State :=
  if h.source || !h.batches.all (fun b => b.acked) then s
  else if h.closing then sendComplete h.record.id s
  else
    let s1 := tellHitch h.record.id (mapHitch h.record.id (fun y => { y with closing := true }) s)
    (scopeTenants h).foldl (fun acc t => completeTenant h t acc) (closeEntry h shelfChain 1 (doneFigures h none) 0 s1).2

/-- PASS_END (R300). -/
def execPassEnd (m : Myavo) (_pass _objects : Nat) (s : State) : Host.Outcome State Fault Refusal := .next (myavoIn m passEndAct s)

/-- COMPLETE on the source: each receipt is verified as a batch's is; then its Close entries, and CLOSED (R300). -/
def completeAct (receipts : List (Nat × Bool × Digest)) (h : Hitch) (s : State) : State :=
  let id := h.record.id
  if !h.source || h.state != .closing then s
  else if !(scopeTenants h).all (fun t => receipts.any (fun r => r.1 == t && r.2.1)) || receipts.any (fun r => !r.2.1) then
    closeCtx eSignature ((h.ctx).getD 0) (waitSuspended id s)
  else
    let leafOf (t : Nat) : Nat := ((receipts.find? (fun r => r.1 == t)).map (fun r => r.2.2.toNat)).getD 0
    let s1 := (scopeTenants h).foldl (fun acc t => (closeEntry h t 1 (doneFigures h (some t)) (leafOf t) acc).2)
      (closeEntry h shelfChain 1 (doneFigures h none) 0 s).2
    hitchVault id (mapHitch id (fun y => { y with state := .closed }) s1)

/-- COMPLETE (R300). -/
def execComplete (m : Myavo) (receipts : List (Nat × Bool × Digest)) (s : State) : Host.Outcome State Fault Refusal :=
  .next (myavoIn m (completeAct receipts) s)

end Machine
end Sys2Proof
end

