-- ==== Sys2Proof/Machine/Time.lean ====
section
/-!
DEFINITION. Shelf Time and Custody Time (03): PTP and its servo, the reference inputs, holdover, the time challenge, and the
ageing and persistence of Custody Time. The beacon itself stands with the commands that expire locks and close sessions.
-/
namespace Sys2Proof
namespace Machine

/-! ## The best grandmaster (R68) -/

/-- Data set comparison of the default BMCA: priority1, class, accuracy, variance, priority2, identity; of two paths to one
grandmaster, the fewer steps removed. -/
def better (a b : AnnounceData) : Bool :=
  if a.gm = b.gm then decide (a.steps ≤ b.steps)
  else if a.priority1 ≠ b.priority1 then decide (a.priority1 < b.priority1)
  else if a.cls ≠ b.cls then decide (a.cls < b.cls)
  else if a.accuracy ≠ b.accuracy then decide (a.accuracy < b.accuracy)
  else if a.variance ≠ b.variance then decide (a.variance < b.variance)
  else if a.priority2 ≠ b.priority2 then decide (a.priority2 < b.priority2)
  else decide (a.gm.toNat < b.gm.toNat)

/-- The PTP MAC in use: the active one, or the standby that took over (Table 3.2). -/
def ptpMac (s : State) : Nat := if s.time.onStandby then pTsPtpPort8 s else pTsPtpPort0 s

/-- A PTP message came by the configured transport (Table 3.2: one at a time). -/
def ptpByCfg (s : State) (transport : Nat) : Bool := transport == pTsPtpCfg8 s

/-- The best of the foreign masters heard on a MAC. -/
def bestOn (s : State) (mac : Nat) : Option AnnounceData :=
  match ((s.time.foreign.filter (fun f => f.data.mac == mac)).map (fun f => f.data)) with
  | [] => none
  | x :: xs => some (xs.foldl (fun a b => if better b a then b else a) x)

/-- The grandmaster on the PTP MAC in use is selected; a distrusted one is not, until a different one is selected (R67, R70).
FREERUN goes to ACQUIRING. -/
def selectGm (s : State) : State :=
  match bestOn s (ptpMac s) with
  | none => s
  | some a =>
    if s.time.distrusted == some a.gm then s
    else
      let same := s.time.gm.any (fun g => g.gm == a.gm)
      let t := { s.time with gm := some a, distrusted := none, goodSince := if same then s.time.goodSince else none }
      { s with time := { t with mode := if t.mode == .freerun then .acquiring else t.mode } }

/-- The grandmaster in use is lost or distrusted: HOLDOVER after LOCKED, FREERUN before the first LOCKED (R67, R70). -/
def loseGm (s : State) : State :=
  match s.time.mode with
  | .locked => { s with time := { s.time with mode := .holdover, gm := none, goodSince := none, holdSince := some (mono s) } }
  | .acquiring => { s with time := { s.time with mode := .freerun, gm := none, goodSince := none } }
  | _ => { s with time := { s.time with gm := none, goodSince := none } }

/-- TS_STATUS bit 0 cleared: Shelf Time may return to PTP (R70). -/
def trustAgain (s : State) : State := selectGm { s with time := { s.time with distrusted := none } }

/-- The Sync rates accepted: logSyncInterval -7 to +1 (Table 3.2). -/
def syncOk (l : Int) : Bool := decide (-7 ≤ l) && decide (l ≤ 1)

/-- PTP_ANNOUNCE (R67, R68): an Announce of the domain and the configured transport on the active or the standby MAC tracks a foreign master, up to 8, and the
best one is selected. A follower runs no servo (R72). -/
def execPtpAnnounce (a : AnnounceData) (s : State) : Host.Outcome State Fault Refusal :=
  let onPort := a.mac == pTsPtpPort0 s || (pTsPtpPort13 s == 1 && a.mac == pTsPtpPort8 s)
  if s.time.follower || !onPort || !ptpByCfg s a.transport || a.domain != pTsPtpCfg0 s || !syncOk a.logSync then .next s
  else
    let same (f : Foreign) : Bool := f.data.gm == a.gm && f.data.mac == a.mac
    if !s.time.foreign.any same && decide (8 ≤ s.time.foreign.length) then .next s
    else .next (selectGm { s with time := { s.time with foreign := putBy same { data := a, heard := mono s } s.time.foreign } })

/-- A grandmaster whose Sync rate is not accepted is disqualified (Table 3.2). It is tracked again at its next qualified Announce: DESIGN CHOICE,
log entry 136. -/
def disqualify (mac : Nat) (gm : Word64) (s : State) : State :=
  let s1 := { s with time := { s.time with foreign := dropIf (fun f => f.data.gm == gm && f.data.mac == mac) s.time.foreign } }
  if s1.time.gm.any (fun g => g.gm == gm) then
    match bestOn s1 (ptpMac s1) with
    | some _ => selectGm s1
    | none => loseGm s1
  else s1

/-- An offset to the grandmaster in service: Shelf Time slews against it, and beyond TS_PTP_REJECT the grandmaster is distrusted (R70). -/
def followPtp (gm : Word64) (offset : Int) (s : State) : State :=
  if pTsPtpReject s * 1000000 < offset.natAbs then
    raise stTS 0 noInst (loseGm { s with time := { s.time with ptpOffset := offset, distrusted := some gm } })
  else { s with time := { s.time with ptpOffset := offset, slewLeft := -(offset * (nsU : Int)) } }

/-- The instant service opens: the offset that stands is corrected as one in service is (R70). -/
def openTime (s : State) : State :=
  let s1 := { s with time := { s.time with openedAt := mono s, slewed := 0 } }
  match s.time.gm with
  | some g => if s.time.follower then s1 else followPtp g.gm s.time.ptpOffset s1
  | none => s1

/-- PTP_SYNC (R67, R70): an offset of Shelf Time to the grandmaster, positive when Shelf Time is ahead. Before service opens Shelf
Time steps forwards only; after, it slews, and beyond TS_PTP_REJECT the grandmaster is distrusted. -/
def execPtpSync (mac transport : Nat) (gm : Word64) (offset logSync : Int) (s : State) : Host.Outcome State Fault Refusal :=
  if s.time.follower || mac != ptpMac s || !ptpByCfg s transport || !(s.time.gm.any (fun g => g.gm == gm)) then .next s
  else if !syncOk logSync then .next (disqualify mac gm s)
  else
    let good := if offset.natAbs < 100 then some (s.time.goodSince.getD (mono s)) else none
    if !s.boot.open_ then
      let step := if offset < 0 then offset.natAbs * nsU else 0
      .next { s with time := { s.time with shelf := s.time.shelf + step, ptpOffset := if offset < 0 then 0 else offset,
                                           goodSince := good } }
    else .next (followPtp gm offset { s with time := { s.time with goodSince := good } })

/-- The frame a PTP event message leaves in: its EtherType, and UDP port 319 where the transport is UDP (Table 3.2; IEEE 1588-2019 Annexes C, D
and E). -/
def ptpFrame (s : State) : Nat × Flds :=
  match pTsPtpCfg8 s with
  | 0 => (0x0800, [(2, 319)])
  | 1 => (0x86DD, [(2, 319)])
  | _ => (0x88F7, [])

/-- The length of a Delay_Req frame by the configured transport: 44 bytes in a least frame, or with UDP over IPv4 or IPv6. -/
def delayReqLen (s : State) : Nat := match pTsPtpCfg8 s with
  | 0 => 90
  | 1 => 110
  | _ => 64

/-- DELAY_REQ_SEND (R68): a Delay_Req waits for its MAC by the configured transport; its egress stamp is kept as it leaves (14 R367). -/
def execDelayReqSend (s : State) : Host.Outcome State Fault Refusal :=
  if s.time.follower || s.time.gm.isNone then .next s
  else .next (transmit (ptpMac s) .control .shelf (classOf s (ptpMac s)) (delayReqLen s)
    (msg (.mac (ptpMac s)) .frame (ptpFrame s).1 1 0 ((ptpFrame s).2 ++ [(1, pTsPtpCfg0 s)])) { s with time := { s.time with delayReq := none } })

/-- DELAY_RESP (R68): the answer to the outstanding Delay_Req gives the mean path delay. -/
def execDelayResp (mac transport : Nat) (gm : Word64) (delay : Int) (s : State) : Host.Outcome State Fault Refusal :=
  if s.time.delayReq.isNone || mac != ptpMac s || !ptpByCfg s transport || !(s.time.gm.any (fun g => g.gm == gm)) then .next s
  else .next { s with time := { s.time with pathDelay := delay, delayReq := none } }

/-- The announce receipt timeout of a master: announceReceiptTimeout of its own Announce intervals (R67, R68; Table 3.7). -/
def receiptTimeout (s : State) (a : AnnounceData) : Nat :=
  if a.logAnnounce < 0 then pTsPtpCfg16 s * secU / 2 ^ a.logAnnounce.natAbs else pTsPtpCfg16 s * secU * 2 ^ a.logAnnounce.natAbs

/-- No Announce of a master has come for its receipt timeout (R67; R82). -/
def notHeard (s : State) (f : Foreign) : Bool := confirmed s f.heard (receiptTimeout s f.data)

/-- ANNOUNCE_RECEIPT_TIMEOUT (R67, Table 3.2): a grandmaster in use that has not been heard for its timeout is dropped. Another on the same MAC is selected, or the
standby MAC takes over; with neither, ACQUIRING goes to FREERUN and LOCKED to HOLDOVER. -/
def execAnnounceReceiptTimeout (s : State) : Host.Outcome State Fault Refusal :=
  match s.time.gm with
  | none => .next s
  | some g =>
    let mine (f : Foreign) : Bool := f.data.gm == g.gm && f.data.mac == g.mac
    if s.time.follower || s.time.foreign.any (fun f => mine f && !notHeard s f) then .next s
    else
      let s1 := { s with time := { s.time with
          foreign := dropIf mine s.time.foreign, delayReq := none } }
      match bestOn s1 (ptpMac s1) with
      | some _ => .next (selectGm s1)
      | none =>
        let other := { s1 with time := { s1.time with onStandby := !s1.time.onStandby } }
        if pTsPtpPort13 s == 1 && (bestOn other (ptpMac other)).isSome then .next (selectGm other) else .next (loseGm s1)

/-- PTP_LOCK_ACHIEVED (R67): the offset has stayed below 100 ns for 60 s. -/
def execPtpLockAchieved (s : State) : Host.Outcome State Fault Refusal :=
  match s.time.goodSince with
  | none => .next s
  | some t =>
    if s.time.gm.isSome && (s.time.mode == .acquiring || s.time.mode == .holdover) && decide (t + 60 * secU ≤ mono s) then
      .next { s with time := { s.time with mode := .locked, everLocked := true, holdSince := none } }
    else .next s

/-- HOLDOVER_LIMIT (R71): after 4 h of HOLDOVER, TS_STATUS bit 1. -/
def execHoldoverLimit (s : State) : Host.Outcome State Fault Refusal :=
  match s.time.holdSince with
  | none => .next s
  | some t =>
    if s.time.mode == .holdover && confirmed s t (14400 * secU) then .next (raise stTS 1 noInst s) else .next s

/-! ## The reference inputs (R69) -/

/-- TS_PPS_DELAY as a signed number of ns. -/
def ppsDelay (s : State) : Int := if pTsPpsDelay s < 2147483648 then pTsPpsDelay s else (pTsPpsDelay s : Int) - 4294967296

/-- PPS_EDGE (R69): an edge of the selected sense (TS_REF_CTRL bit 1) at `offset` ns from the second boundary that PTP gives, less TS_PPS_DELAY. A qualified input sets the
phase, but not of a follower, whose time is the leader's (R72); ten edges in a row more than 1 µs off disqualify it, and ten that agree qualify
it. -/
def execPpsEdge (rising : Bool) (offset : Int) (s : State) : Host.Outcome State Fault Refusal :=
  if pTsRefCtrl0 s == 0 || rising != (pTsRefCtrl1 s == 0) then .next s
  else
    let d := offset - ppsDelay s
    let off := decide (1000 < d.natAbs)
    if s.time.ppsQual then
      if off then
        if s.time.ppsRun + 1 < 10 then .next { s with time := { s.time with ppsRun := s.time.ppsRun + 1 } }
        else .next (raise stTS 4 noInst { s with time := { s.time with ppsQual := false, ppsRun := 0 } })
      else
        .next { s with time := { s.time with ppsRun := 0, slewLeft := if s.boot.open_ && !s.time.follower then -(d * (nsU : Int)) else s.time.slewLeft } }
    else if off then .next { s with time := { s.time with ppsRun := 0 } }
    else if s.time.ppsRun + 1 < 10 then .next { s with time := { s.time with ppsRun := s.time.ppsRun + 1 } }
    else .next { s with time := { s.time with ppsQual := true, ppsRun := 0 } }

/-- REF10M_QUALIFIED (R69): ref10m_in has stayed within ±2 ppm for 10 s, at `ppb` parts in 10^9 above the OCXO; it gives the servo its
frequency from now on. -/
def execRef10mQualified (ppb : Int) (s : State) : Host.Outcome State Fault Refusal :=
  if pTsRefCtrl2 s == 0 || decide (2000 < ppb.natAbs) then .next s
  else .next { s with time := { s.time with refQual := true, refPpb := ppb } }

/-- REF10M_LOSS (R69): edges absent for 1 µs, or out of range. -/
def execRef10mLoss (s : State) : Host.Outcome State Fault Refusal :=
  if s.time.refQual then .next (raise stTS 3 noInst { s with time := { s.time with refQual := false, refPpb := 0 } }) else .next s

/-! ## Custody Time (R73 to R76) -/

/-- TIME_CHALLENGE (R76): a nonce bound to the connection; it replaces the one outstanding. -/
def execTimeChallenge (c : Call) (s : State) : Host.Outcome State Fault Refusal :=
  .next (mailboxCmd c 0x0401 .nothing isCustodian (fun _ s =>
    let (n, s1) := drawDigest s
    reply c 0x0401 sOk [(32, n.toNat)]
      { s1 with time := { s1.time with challenge := some { mbx := c.mbx, nonce := n, egress := mono s1 } } }) s)

/-- ANCHOR_AGED (R74): the last beacon is older than TS_ANCHOR_AGE_MAX of Custody Time. -/
def execAnchorAged (s : State) : Host.Outcome State Fault Refusal :=
  if s.time.anchor == .anchored && decide (s.time.lastBeacon + s.layers.anchorAge * secU < s.time.custody) then
    .next { s with time := { s.time with anchor := .aged } }
  else .next s

/-- CUSTODY_PERSIST (R73): Custody Time is written to the vault once per second. -/
def execCustodyPersist (s : State) : Host.Outcome State Fault Refusal :=
  .next { s with time := { s.time with vault := s.time.custody } }

end Machine
end Sys2Proof
end

