-- ==== Sys2Proof/Machine/BootOps.lean ====
section
/-!
DEFINITION. The phases of start-up: which runs, which has ended, what begins when one ends, and the opening of service (24 R534 to R540).
-/
namespace Sys2Proof
namespace Machine

/-- A phase, 1 to 11 (24 Table 24.1). -/
def phaseAt (s : State) (p : Nat) : PhaseState := if p = 0 then .notStarted else (s.boot.phases[p - 1]?).getD .notStarted

/-- Sets a phase. -/
def setPhase (p : Nat) (x : PhaseState) (s : State) : State := { s with boot := { s.boot with phases := s.boot.phases.set (p - 1) x } }

/-- A phase runs. -/
def phaseRuns (s : State) (p : Nat) : Bool :=
  match phaseAt s p with
  | .running _ => true
  | _ => false

/-- A phase has ended, well or not. -/
def phaseEnded (s : State) (p : Nat) : Bool := phaseAt s p == .done || phaseAt s p == .failed

/-- A phase begins: its budget counts oscillator ticks (R534; 03 R80). -/
def startPhase (p : Nat) (s : State) : State := setPhase p (.running s.time.ticks) s

/-- The module halts: only SPDM answers, or nothing is served (Table 24.1, R538). -/
def haltAs (h : Halt) (s : State) : State := { s with boot := { s.boot with halted := some h } }

/-- The slots that P6 powers: those of recorded members, or in the first-use state every one with a drive present (Table 24.1, R540). -/
def bootSlot (s : State) (n : Fin 24) : Bool :=
  if s.boot.firstUse then (feedAt s (.slot n)).present else (memberAt s n).ours

/-- P6 begins: the drive ports run at x2 in a pair-mode shelf, and the slots are enabled; their channels start in stagger (R535; 17 R417;
21 R498, R506). -/
def startDrives (s : State) : State :=
  let s1 := startPhase 6 { s with drv := { s.drv with up := true, x2 := s.pair.pairShelf } }
  (allSlots.filter (bootSlot s1)).foldl (fun acc n => enableSlot n acc) s1

/-- P7 begins: in a pair-mode shelf the handshake is awaited; a single-controller shelf has no partner to shake hands with (R535, R538). -/
def startPair (s : State) : State :=
  if s.pair.pairShelf then startPhase 7 { s with pair := { s.pair with mode := .handshake } }
  else if s.boot.firstUse then startPhase 7 s
  else setPhase 7 .done s

/-- What follows P5: P7, P8 with the reeving, and P11 begin, and P6 unless the first-use state makes it wait for P7 (R535; 18 R459). -/
def afterConfig (s : State) : State :=
  let s1 := startPhase 11 (beginReeving (startPhase 8 (startPair s)))
  if s1.boot.firstUse then s1 else startDrives s1

/-- The configuration in force passes its checks again: start-up resumes at P6 (R539). -/
def resumeConfig (s : State) : State :=
  if s.boot.configStop then afterConfig { s with boot := { s.boot with configStop := false } } else s

/-- Service may open: P10 is complete, or skipped in the first-use state after P6 and P7; Shelf Time is LOCKED or TS_LOCK_WAIT is over; a
follower has taken its leader's time (03 R72); no sanitise is being resumed (R535, R540). -/
def mayOpen (s : State) : Bool :=
  !s.boot.open_ && s.boot.halted.isNone && !s.boot.configStop && (shelfMode s == .locked || s.boot.lockWaited) &&
  (!s.time.follower || s.time.aligned) &&
  (if s.boot.firstUse then phaseEnded s 6 && phaseEnded s 7 else phaseAt s 10 == .done && s.block.shelfSan.isNone)

/-- Service opens, and its status bits are set together (R535); the offset of Shelf Time that stands is corrected from here on (03 R70). -/
def tryOpen (s : State) : State :=
  if mayOpen s then
    openTime { s with boot := { s.boot with open_ := true }, log := { s.log with inService := true }, idx := { s.idx with recovered := true },
                      pst := { s.pst with lastWork := mono s, lastPkt := mono s } }
  else s

/-- P9 begins when P6 and P7 have both ended; in the first-use state it is skipped, and service may open (R535, R540). -/
def afterDrivesAndPair (s : State) : State :=
  if phaseEnded s 6 && phaseEnded s 7 then
    if s.boot.firstUse then tryOpen s else if phaseAt s 9 == .notStarted then startPhase 9 s else s
  else s

/-- The start-up sequence begins at P1, with nothing halted (R534). -/
def beginStart (s : State) : State :=
  { s with boot := { s.boot with
      phases := (List.range 11).map (fun k => if k = 0 then .running s.time.ticks else .notStarted),
      halted := none, open_ := false, lockWaited := false, configStop := false } }

/-- A new custody key: its epoch follows every one used or disabled, and it is uncertified (09 R242, R244). -/
def newCustodyKey (s : State) : State :=
  { s with fix := { s.fix with epoch := max s.fix.epoch s.fix.disabled + 1, issued := kstamp s, certified := false } }

end Machine
end Sys2Proof
end

