-- ==== Sys2Proof/Machine/Channels.lean ====
section
/-!
DEFINITION. What the two modules of a pair tell each other of their slot channels, the clearing of latches, and the pins that follow the
channels (21 R502, R505 to R507).
-/
namespace Sys2Proof
namespace Machine

/-- The code of a channel state (21 Table 21.3). -/
def feedCode : FeedState → Nat
  | .off => 0
  | .insert => 1
  | .precharge => 2
  | .ramp => 3
  | .qualify => 4
  | .good => 5
  | .limit => 6
  | .retry => 7
  | .latched => 8

/-- In a pair-mode shelf a slot channel's state, latch kind and power good go to the partner on the state class (21 R502, R506). -/
def tellMate (n : Fin 24) (s : State) : State :=
  if s.pair.pairShelf then
    let f := feedAt s (.slot n)
    pairState 14 [(1, (n : Nat)), (1, feedCode f.state), (1, f.kind), (1, if f.pg then 1 else 0)] s
  else s

/-- A slot channel of this module leaves LATCHED: its failure count is cleared, and it starts again where R498 lets it (21 R505, R507). -/
def clearOwnLatch (n : Fin 24) (s : State) : State :=
  let f := feedAt s (.slot n)
  if f.state == .latched then
    tellMate n (startInsert (.slot n) (putFeed (.slot n) { f with state := .off, since := s.time.ticks, fails := 0, kind := 0 } s))
  else s

/-- A slot channel's latch is cleared; of kinds 1 and 3 in a pair-mode shelf both channels' (21 R507). -/
def clearLatch (n : Fin 24) (s : State) : State :=
  let f := feedAt s (.slot n)
  let s1 := clearOwnLatch n s
  if f.state == .latched && (f.kind == 1 || f.kind == 3) && s.pair.pairShelf then pairState 15 [(1, (n : Nat))] s1 else s1

/-- The pg pin: the input channel's power good (21 R505). -/
def pgPin (s : State) : Bool := s.pwr.input.pg

/-- The flt_n pin is asserted: a channel is LATCHED or PWR_STATUS bit 8 is set (21 R505). -/
def fltPin (s : State) : Bool :=
  s.pwr.input.state == .latched || allSlots.any (fun n => (feedAt s (.slot n)).state == .latched) || (statusWord s stPWR).testBit 8

end Machine
end Sys2Proof
end

