-- ==== Sys2Proof/Machine/HoldMover.lean ====
section
/-!
DEFINITION. The coil count of the hold and the channels of the mover (16 R406 to R414).
-/
namespace Sys2Proof
namespace Machine

/-! ## The coil count (R406, R407) -/

/-- A mover channel whose current source or burst buffer keeps cells: it runs a descriptor (R406, R413). -/
def channelKeeps (s : State) (n : Nat) : Bool := s.mov.channels.any (fun c => c.num == n && c.running)

/-- The owner of a cell is live: a frame queued or being read, an open quarantine tag, or a channel's kept buffer (R406). -/
def ownerLive (s : State) : CellOwner → Bool
  | .frame id => s.hold.frames.any (fun f => f.id == id)
  | .quarantine id => quarOpen s id
  | .channel n => channelKeeps s n
  | .gone _ => false

/-- COIL_COUNT_VISIT: the count visits one cell; one orphaned in two consecutive passes is leaked and freed. A cell before the count's
place, or one that would skip a cell not yet visited, is no visit of this pass (R406; log entry 10). -/
def execCoilCountVisit (cell : Nat) (s : State) : Host.Outcome State Fault Refusal :=
  if holdCells ≤ cell then .next s
  else if cell < s.hold.next ∨ s.hold.cells.any (fun x => decide (s.hold.next ≤ x.num) && decide (x.num < cell)) then .next s
  else
    let s1 := { s with hold := { s.hold with passing := true, next := cell + 1 } }
    match s.hold.cells.find? (fun x => x.num == cell) with
    | none => .next s1
    | some x =>
      let mark (b : Bool) : State :=
        { s1 with hold := { s1.hold with cells := mapIf (fun y => y.num == cell) (fun y => { y with orphaned := b }) s1.hold.cells } }
      if ownerLive s x.owner then .next (mark false)
      else if !x.orphaned then .next (mark true)
      else
        let s2 := { s1 with hold := { s1.hold with cells := dropIf (fun y => y.num == cell) s1.hold.cells } }
        .next (retryHold (raise stHOLD 0 x.input (bumpFigure 0x04000028 1 s2)))

/-- The inputs or outputs and classes that a counter or the owner entries name. -/
def useKeys (l : List Use) (cells : List (Nat × Nat)) : List (Nat × Nat) := (l.map (fun u => (u.port, u.cls)) ++ cells).eraseDups

/-- The counters that differ from the owner entries: 0 for inputs and 1 for outputs, port, class (R407). -/
def wrongUses (s : State) : List (Nat × Nat × Nat) :=
  let ins := s.hold.cells.map (fun x => (x.input, x.cls))
  let outs := (s.hold.cells.filter (fun x => x.output != noOutput)).map (fun x => (x.output, x.cls))
  ((useKeys s.hold.inUse ins).filter (fun k => useAt s.hold.inUse k.1 k.2 != ins.count k)).map (fun k => (0, k)) ++
  ((useKeys s.hold.outUse outs).filter (fun k => useAt s.hold.outUse k.1 k.2 != outs.count k)).map (fun k => (1, k))

/-- A counter takes the value that the owner entries give (R407). -/
def correctUse (s : State) (k : Nat × Nat × Nat) : State :=
  if k.1 = 0 then
    let n := (s.hold.cells.filter (fun x => x.input == k.2.1 && x.cls == k.2.2)).length
    { s with hold := { s.hold with inUse := setUse k.2.1 k.2.2 n s.hold.inUse } }
  else
    let n := (s.hold.cells.filter (fun x => x.output == k.2.1 && x.cls == k.2.2)).length
    { s with hold := { s.hold with outUse := setUse k.2.1 k.2.2 n s.hold.outUse } }

/-- COIL_PASS_END: the counters are recomputed; one that differed at the end of two consecutive passes is set (R407). The pass has ended
once no cell in use is left to visit (log entry 10). -/
def execCoilPassEnd (s : State) : Host.Outcome State Fault Refusal :=
  if !s.hold.passing || s.hold.cells.any (fun x => decide (s.hold.next ≤ x.num)) then .next s
  else
    let wrong := wrongUses s
    let again := wrong.filter (fun k => s.hold.suspect.contains k)
    let s1 := again.foldl correctUse s
    let s2 := { s1 with hold := { s1.hold with suspect := wrong.filter (fun k => !again.contains k), passing := false, next := 0 } }
    let s3 := setFigure 0x04000024 ((figure s2 0x04000024 + 1) % 2 ^ 32) s2
    .next (if again.isEmpty then s3 else retryHold (raise stHOLD 0 ((again.head?).elim noInst (fun k => k.2.1)) s3))

/-! ## Descriptors (R411, R412) -/

/-- Bytes a side of a descriptor moves. -/
def sideTotal (len count : Nat) : Nat := len * count

/-- The span of a side from its first byte to past its last. -/
def sideSpan (len stride count : Nat) : Nat := (count - 1) * stride + len

/-- A side's fields are within their encodings (Table 16.2). -/
def sideForm (space len stride count : Nat) : Bool :=
  decide (space ≤ 1) && decide (1 ≤ len) && decide (len ≤ 16777216) && decide (1 ≤ count) && decide (count ≤ 65536) &&
  (count == 1 || decide (len ≤ stride))

/-- Module DRAM as the model numbers it: the landing memory of every context (log entry 15). -/
def dramBytes : Nat := 2 ^ 51

/-- A side lies within its space, or within its hold frame (R412). -/
def sideFits (s : State) (space addr len stride count : Nat) : Bool :=
  if space = 0 then decide (addr + sideSpan len stride count ≤ dramBytes)
  else s.hold.frames.any (fun f => f.id == addr % 2 ^ 32 && decide (addr / 2 ^ 32 + sideSpan len stride count ≤ f.length))

/-- The two spans share bytes (R412; log entry 29). -/
def sidesMeet (d : MoveDesc) : Bool :=
  let place (space addr : Nat) : Nat × Nat := if space = 0 then (2 ^ 32, addr) else (addr % 2 ^ 32, addr / 2 ^ 32)
  let a := place d.srcSpace d.srcAddr
  let b := place d.dstSpace d.dstAddr
  a.1 == b.1 && decide (a.2 < b.2 + sideSpan d.dstLen d.dstStride d.dstCount) &&
    decide (b.2 < a.2 + sideSpan d.srcLen d.srcStride d.srcCount)

/-- The first failing check of a descriptor on a channel, 0 where none fails (R412). -/
def moveCheck (s : State) (channel : Nat) (d : MoveDesc) : Nat :=
  if d.rsv ≠ 0 ∨ 1 < d.flags ∨ d.prio ≠ (if channel < 16 then 1 else 0) ∨ !sideForm d.srcSpace d.srcLen d.srcStride d.srcCount ∨
      !sideForm d.dstSpace d.dstLen d.dstStride d.dstCount then eFormat
  else if sideTotal d.srcLen d.srcCount ≠ sideTotal d.dstLen d.dstCount ∨ 2 ^ 32 < sideTotal d.srcLen d.srcCount then eRange
  else if !sideFits s d.srcSpace d.srcAddr d.srcLen d.srcStride d.srcCount || !sideFits s d.dstSpace d.dstAddr d.dstLen d.dstStride d.dstCount
    then eRange
  else if sidesMeet d then eRange
  else 0

/-- Address of byte `k` of a side. -/
def sideAddr (addr len stride k : Nat) : Nat := addr + k / max 1 len * stride + k % max 1 len

/-- Bytes of the burst that begins at byte `k`: up to 4,096, within a source line, a destination line and a 4,096-byte boundary (R411). -/
def burstLen (d : MoveDesc) (k : Nat) : Nat :=
  let inDram (space addr : Nat) : Nat := if space = 0 then addr else addr / 2 ^ 32
  let a := sideAddr (inDram d.srcSpace d.srcAddr) d.srcLen d.srcStride k
  let b := sideAddr (inDram d.dstSpace d.dstAddr) d.dstLen d.dstStride k
  min (min (4096 - a % 4096) (4096 - b % 4096))
    (min (sideTotal d.srcLen d.srcCount - k) (min (d.srcLen - k % max 1 d.srcLen) (d.dstLen - k % max 1 d.dstLen)))

/-- One byte of a burst: from DRAM, or from a hold frame, whose bytes the model does not keep (log entry 29). -/
def moveByte (d : MoveDesc) (k : Nat) (s : State) : State :=
  let (b, s1) : Byte × State :=
    if d.srcSpace = 0 then (memByte s.reg.mem (sideAddr d.srcAddr d.srcLen d.srcStride k), s)
    else let r := free s; (BitVec.ofNat 8 r.1, r.2)
  if d.dstSpace = 0 then
    { s1 with reg := { s1.reg with mem := memPut (sideAddr d.dstAddr d.dstLen d.dstStride k) b s1.reg.mem } }
  else s1

/-- The bytes of a burst are written in the order they are read (R411). -/
def moveBurst (d : MoveDesc) (k n : Nat) (s : State) : State := (List.range n).foldl (fun acc i => moveByte d (k + i) acc) s

/-! ## Channels (R410, R413, R414) -/

/-- A channel by its number. -/
def channelAt (s : State) (n : Nat) : Channel :=
  (s.mov.channels.find? (fun c => c.num == n)).getD
    { num := n, ring := [], done := 0, beats := 0, running := false, pipe := none, since := 0, preempted := false, everPre := false,
      aborting := false, fault := none, stopped := false }

/-- Writes a channel. -/
def putChannel (c : Channel) (s : State) : State :=
  { s with mov := { s.mov with channels := putBy (fun x => x.num == c.num) c s.mov.channels } }

/-- The status record of a descriptor, 32 bytes in DRAM (Table 16.3). -/
def moverRecord (n : Nat) (d : MoveDesc) (status flags done : Nat) (s : State) : State :=
  let f : Flds := [(2, status), (1, n), (1, flags), (4, (sideTotal d.srcLen d.srcCount - done) % 2 ^ 32), (4, done / max 1 d.srcLen), (4, 0)] ++
    shelfFlds (now s) ++ [(4, 0)]
  { s with mov := { s.mov with records := s.mov.records ++ [(d.statusAt, f)] },
           reg := { s.reg with mem := memPutAll d.statusAt (encodeFlds f) s.reg.mem } }

/-- The channel's next descriptors: those rejected get their records, and the first accepted one becomes current (R410, R412). -/
def nextDesc (n : Nat) : Nat → State → State
  | 0, s => s
  | fuel + 1, s =>
    let c := channelAt s n
    let idle : Channel := { c with running := false, done := 0, beats := 0, preempted := false, everPre := false, aborting := false, fault := none }
    match c.ring with
    | [] => putChannel { idle with pipe := none } s
    | d :: rest =>
      if c.stopped then putChannel { idle with pipe := none } s
      else
        match moveCheck s n d with
        | 0 => putChannel { idle with running := true } s
        | e => nextDesc n fuel (raise stMOV 2 n (moverRecord n d e 0 0 (putChannel { idle with ring := rest } s)))

/-- A channel's current descriptor ends: its record is written before the next one starts; a requested abort stops the ring, and an abort
counts and raises its event (R410, R414). -/
def endDesc (n : Nat) (s : State) : State :=
  let c := channelAt s n
  match c.ring with
  | [] => s
  | d :: rest =>
    let whole := decide (sideTotal d.srcLen d.srcCount ≤ c.done)
    let pre := if c.everPre then 4 else 0
    let s1 :=
      if whole then moverRecord n d sOk pre c.done s
      else if c.aborting then moverRecord n d eMoveAbort (1 + pre) c.done s
      else moverRecord n d (c.fault.getD sOk) (2 + pre) c.done s
    let s2 :=
      if c.aborting then raise stMOV 0 n (bumpFigure 0x05000028 1 s1)
      else if c.fault.isSome && !whole then raise stMOV 1 n (bumpFigure 0x05000028 1 s1)
      else s1
    nextDesc n (rest.length + 1) (putChannel { c with ring := rest, running := false, stopped := c.stopped || c.aborting } s2)

/-- A channel waits for a pipe: it runs a descriptor and has none. -/
def wantsPipe (c : Channel) : Bool := c.running && c.pipe.isNone

/-- The pipes that no channel holds, of 16. -/
def idlePipe (s : State) : Option Nat := firstFree 16 (fun p => !(s.mov.channels.any (fun c => c.pipe == some p)))

/-- The normal channels in round robin from the channel after the last one served (R413). -/
def robinOrder (s : State) : List Nat := (List.range 48).map (fun i => 16 + (s.mov.robin - 16 + i) % 48)

/-- The channel that takes the next idle pipe: high priority, then a normal channel that was pre-empted or is aborting, then round robin
(R413). -/
def pipeNext (s : State) : Option Nat :=
  let wants (n : Nat) : Bool := wantsPipe (channelAt s n)
  let held (n : Nat) : Bool := (channelAt s n).preempted || (channelAt s n).aborting
  ((List.range 16).find? wants).or
    (((List.range 48).map (fun i => 16 + i)).find? (fun n => wants n && held n)) |>.or ((robinOrder s).find? wants)

/-- Idle pipes go to the channels that wait, at most `fuel` of them (R413). -/
def grantPipes : Nat → State → State
  | 0, s => s
  | fuel + 1, s =>
    match idlePipe s, pipeNext s with
    | some p, some n =>
      let c := channelAt s n
      let turn := if n < 16 || c.preempted || c.aborting then s.mov.robin else 16 + (n - 16 + 1) % 48
      let s1 := putChannel { c with pipe := some p, since := now s, preempted := false } s
      grantPipes fuel { s1 with mov := { s1.mov with robin := turn } }
    | _, _ => s

/-- The normal channel that has held its pipe longest. -/
def longestHeld (s : State) : Option Channel :=
  match s.mov.channels.filter (fun c => decide (16 ≤ c.num) && c.pipe.isSome) with
  | [] => none
  | c :: cs => some (cs.foldl (fun a b => if b.since < a.since then b else a) c)

/-- High-priority channels with work take pipes from normal ones, whose burst buffers are kept with the beats read (R413). -/
def preempt : Nat → State → State
  | 0, s => s
  | fuel + 1, s =>
    match (List.range 16).find? (fun n => wantsPipe (channelAt s n)), longestHeld s with
    | some n, some v =>
      let burst := ceilDiv ((v.ring.head?).elim 1 (fun d => burstLen d v.done)) 64
      let kept := min (burst - 1) (v.beats + (now s - v.since) / nsU)
      let s1 := putChannel { v with pipe := none, preempted := true, everPre := true, beats := kept } s
      let s2 := putChannel { channelAt s1 n with pipe := v.pipe, since := now s1 } s1
      preempt fuel (bumpFigure 0x0500002C 1 s2)
    | _, _ => s

/-- Pipes are shared out at a boundary (R413). -/
def sharePipes (s : State) : State := preempt 16 (grantPipes 64 s)

/-- MOVER_BURST_COMPLETE: the burst in hand of a channel is written. Its descriptor ends when all is written or an abort waits; and the
pipes are granted at the boundary (R410 to R414). -/
def execMoverBurstComplete (channel : Nat) (s : State) : Host.Outcome State Fault Refusal :=
  if 64 ≤ channel then .next s
  else
    let c := channelAt s channel
    match c.ring.head?.filter (fun _ => c.running && c.pipe.isSome) with
    | none =>
      let ready := decide (c.ring ≠ []) && !c.running && !c.stopped
      .next (sharePipes (if ready then nextDesc channel (c.ring.length + 1) s else s))
    | some d =>
      let n := burstLen d c.done
      let s1 := moveBurst d c.done n s
      let c1 := { c with done := c.done + n, beats := 0, pipe := none }
      let s2 := putChannel c1 s1
      let done := decide (sideTotal d.srcLen d.srcCount ≤ c1.done) || c1.aborting || c1.fault.isSome
      .next (sharePipes (if done then endDesc channel s2 else s2))

/-- A channel's abort or fault is taken: at once where no burst is in hand, else when that burst has been written (R414). -/
def takeAbort (n : Nat) (s : State) : State :=
  let c := channelAt s n
  if c.running && c.pipe.isNone && c.beats == 0 && (c.aborting || c.fault.isSome) then endDesc n s else s

/-- A requested abort of the channels of a mask: an idle channel takes none (R414). -/
def abortChannels (mask : Nat) (s : State) : State :=
  ((List.range 64).filter (fun n => mask.testBit n && (channelAt s n).running)).foldl
    (fun acc n => takeAbort n (putChannel { channelAt acc n with aborting := true } acc)) s

/-- MOVER_FAULT: an uncorrectable DRAM ECC error, or a hold cell that fails its check, aborts the channel's current descriptor (R409,
R414). -/
def execMoverFault (channel : Nat) (ecc : Bool) (s : State) : Host.Outcome State Fault Refusal :=
  if 64 ≤ channel then .next s
  else
    let s1 := if ecc then s else raise stHOLD 4 noInst s
    let c := channelAt s1 channel
    if !c.running then .next s1
    else .next (sharePipes (takeAbort channel (putChannel { c with fault := some (if ecc then eEcc else eHoldFault) } s1)))

end Machine
end Sys2Proof
end

