-- ==== Sys2Proof/Machine/Idle.lean ====
section
/-!
DEFINITION. What the passing of time does of itself: the clocks advance, the outputs of the hold read their frames, and the windows in
which figures are reported end (02 R53; 16 R397, R405; log entry 5).
-/
namespace Sys2Proof
namespace Machine

/-- A frame of the hold may be read: its output is no MAC, or a MAC with its link up on which its class is not paused (16 R397; 14
R364). -/
def outputReads (s : State) (f : HoldFrame) : Bool :=
  if f.output < 32 then (macAt s f.output).any (fun m => m.linkUp && !classPaused (mono s) m f.cls) else true

/-- Every output reads the frames queued for it; what this frees ends XOFFs, and squashed quarantine cells return (16 R397, R404). -/
def drainHold (s : State) : State := endXoffs (sweepQuarantine (readOut (outputReads s) s))

/-- Length of a window of R53, in units of Shelf Time. -/
def windowLen : Nat := 60 * secU

/-- A figure kept over a window of 60 s: MAC counters, SCH_RED_TOTAL, HOLD_ and DRV_ figures, MOV_ figures, PAIR_FORWARDED and
PAIR_MIRROR_PEAK, TRN_ figures, STR_JOURNAL_PEAK (14 R368; 15 R392; 16 R405, R415; 17 R438; 18 R461; 12 R334; 13 R354; Table 7.8). -/
def windowed (a : Nat) : Bool :=
  (decide (0x02001000 ≤ a) && decide (a < 0x02003000) && decide (0xC0 ≤ a % 256)) ||
  [0x0300003C, 0x0400000C, 0x0400002C, 0x04000030, 0x05000028, 0x0500002C, 0x0600001C, 0x06000020, 0x06000024, 0x08000050, 0x0800004C,
   0x10000048, 0x12000050, 0x12000054, 0x12000058, 0x12000114, 0x12000118].contains a

/-- A figure as the end of its window reports it: HOLD_FREE is the least number of free cells, rounded down to a multiple of 1,024
(16 Table 16.4). -/
def reportOf (s : State) (a v : Nat) : Nat :=
  if a = 0x0400000C then (393216 - max v (holdUsed s)) / 1024 * 1024 else v

/-- The figures of the drive ports at the end of a window: DRV_PORT_TIMEOUTS and DRV_PORT_AER (17 Table 17.5). -/
def portReports (s : State) : List (Nat × Nat) :=
  (allSlots.map (fun (n : Fin 24) => [(0x0600010C + 0x20 * (n : Nat), (portAt s n).timeouts), (0x06000110 + 0x20 * (n : Nat), (portAt s n).aer)])).flatten

/-- A window ends when Shelf Time passes a multiple of 60 s: its figures are those reported, and the next window's begin (R53). -/
def rollWindows (s : State) : State :=
  if now s / windowLen = s.layers.windowAt then s
  else
    let f := if (s.layers.figures.lookup 0x0400000C).isSome then s.layers.figures else s.layers.figures ++ [(0x0400000C, 0)]
    let done := (f.filter (fun x => windowed x.1)).map (fun x => (x.1, reportOf s x.1 x.2))
    let s1 := { s with layers := { s.layers with reported := done ++ (portReports s).filter (fun x => x.2 != 0),
                                                 figures := dropIf (fun x => windowed x.1) s.layers.figures, windowAt := now s / windowLen } }
    allSlots.foldl (fun acc n => putPort n { portAt acc n with timeouts := 0, aer := 0 } acc) s1

/-- Time passes (log entry 5). -/
def idle (s : State) : State := rollWindows (drainHold (tick s))

end Machine
end Sys2Proof
end

