-- ==== Sys2Proof/Machine/Tether.lean ====
section
/-!
DEFINITION. The tether chain: hops, reeving, membership, frames it relays (18 R457 to R460).
-/
namespace Sys2Proof
namespace Machine

/-- Relays a frame that is not for this module only, away from the port it arrived on; one that reaches 0 hops is dropped (R458). A
module without an address forwards nothing (R459). -/
def relay (kind source dest seq hops : Nat) (fromDown : Bool) (body : Flds) (s : State) : State :=
  if !s.tet.valid || hops ≤ 1 || dest = s.tet.addr then s
  else hopSend (!fromDown) kind dest ((1, source) :: (1, hops - 1) :: (8, seq) :: body) s

/-- A frame's sequence is new for its sender (Table 18.4). -/
def freshSeq (s : State) (source seq : Nat) : Bool := decide ((s.tet.seqs.lookup source).getD 0 < seq) && !(s.tet.valid && source == s.tet.addr)

/-- The last sequence of a sender. -/
def noteSeq (source seq : Nat) (s : State) : State := { s with tet := { s.tet with seqs := putKey source seq 0 s.tet.seqs } }

/-! ## Hops (R457) -/

/-- TETHER_HOP_UP: each side has verified the other's identity, or the hop stays down and TET_STATUS bit 4 is set (R457). While P8 runs, a
module that has its address sends the next one over a down hop that comes up, and one whose up hop comes up takes its neighbour's address
plus one when it hears it (R459). -/
def execTetherHopUp (down authOk : Bool) (s : State) : Host.Outcome State Fault Refusal :=
  let t := s.tet
  let s1 := { s with tet := if down then { t with downCable := true, downHop := authOk }
                            else { t with upCable := true, upHop := authOk, waiting := t.waiting || phaseRuns s 8 } }
  .next (if !authOk then raise stTET 4 noInst s1
    else if down && phaseRuns s 8 && t.valid && !t.waiting then reeveOn s1
    else s1)

/-- TETHER_HOP_DOWN; the cable presence contact says whether a cable stays (R457, R459). A module whose upstream is cabled and silent keeps its
address and waits (R459). -/
def execTetherHopDown (down cable : Bool) (s : State) : Host.Outcome State Fault Refusal :=
  let t := s.tet
  .next { s with tet := if down then { t with downHop := false, downCable := cable }
                        else { t with upHop := false, upCable := cable, waiting := cable } }

/-! ## Reeving (R459) -/

/-- REEVE: the address received is taken and the next one sent; 16 or more is taken by none (R459). -/
def execReeve (addr : Nat) (s : State) : Host.Outcome State Fault Refusal :=
  .next (if isHead s then s
    else if 16 ≤ addr then raise stTET 3 noInst { s with tet := { s.tet with valid := false } }
    else reeveOn (takeAddress addr s))

/-- REEVE_DONE: the head learns the total; any other module passes it upstream (R459). -/
def execReeveDone (total : Nat) (s : State) : Host.Outcome State Fault Refusal :=
  .next (if isHead s then { s with tet := { s.tet with done := true, total := total } } else hopSend false 2 0 [(1, total)] s)

/-! ## Membership (R460) -/

/-- The role a heartbeat carries: A, B or single (R460). -/
def tetRole (s : State) : Nat := if !s.pair.pairShelf then 3 else if s.pair.isB then 2 else 1

/-- A member is heard: the first time, TET_STATUS bit 1 (R460). -/
def noteMember (m : TetMember) (s : State) : State :=
  let new := !s.tet.members.any (fun x => x.addr == m.addr)
  let s1 := { s with tet := { s.tet with members := putBy (fun x => x.addr == m.addr) m s.tet.members } }
  if new then raise stTET 1 noInst s1 else s1

/-- The upstream neighbour is heard: a module that starts, or has no address, takes the neighbour's address plus one; any other keeps its own
across the break, and waits no longer (R459). -/
def startAddress (addr : Nat) (s : State) : State :=
  if s.tet.valid && !(s.tet.waiting && phaseRuns s 8) then { s with tet := { s.tet with waiting := false } }
  else if 16 ≤ addr + 1 then raise stTET 3 noInst { s with tet := { s.tet with valid := false } }
  else reeveOn (takeAddress (addr + 1) s)

/-- TETHER_HEARTBEAT (R460). A frame sent by the neighbour itself has 15 hops left. -/
def execTetherHeartbeat (source seq : Nat) (fromDown : Bool) (addr : Nat) (shelf : Word64) (digest : Digest) (role hops : Nat) (s : State) :
    Host.Outcome State Fault Refusal :=
  if !freshSeq s source seq then .next s
  else
    let s1 := noteSeq source seq s
    let s2 := if addr < 16 then noteMember { addr := addr, shelf := shelf, digest := digest, role := role % 4, heard := mono s } s1 else s1
    let s3 := relay 3 source 0xFF seq hops fromDown [(1, addr), (8, shelf.toNat), (32, digest.toNat), (1, role)] s2
    .next (if !fromDown && hops == 15 && decide (addr < 16) then startAddress addr s3 else s3)

/-- The hitch ends a DISCOVER announces: those of hitches in OPENING or SUSPENDED, at the IPv4 address of the lowest configured MAC, or its IPv6
address where it has no other (R458). -/
def hitchEnds (s : State) : List (BitVec 128 × Nat) :=
  let open_ := s.hitch.list.filter (fun h => h.state == .opening || h.state == .suspended)
  let at_ (n : Nat) : Nat := if ownAddress s n false = 0 then ownAddress s n true else ownAddress s n false
  open_.filterMap (fun h => (s.net.macs.head?).map (fun m => (h.record.id, at_ m.num)))

/-- TETHER_HEARTBEAT_SEND: every TET_HB_INTERVAL, and with it the announcements of hitch ends while TET_CTRL bit 1 is set (R458, R460).
-/
def execTetherHeartbeatSend (s : State) : Host.Outcome State Fault Refusal :=
  if !s.tet.valid || mono s < s.tet.beatAt + pTetHbInterval s * msU then .next s
  else
    let s1 := flood 3 0xFF [(1, s.tet.addr), (8, s.boot.shelfId.toNat), (32, Config.moduleDigest.toNat), (1, tetRole s)]
      { s with tet := { s.tet with beatAt := mono s } }
    .next (if pTetCtrl s = 1 ∧ !(hitchEnds s).isEmpty then
        flood 5 0xFF (((hitchEnds s).map (fun e => [(16, e.1.toNat), (16, e.2), (2, pTrnUdpPort s)])).flatten) s1
      else s1)

/-- TETHER_MEMBER_TIMEOUT: a member not heard for TET_HB_MISS intervals is removed; TET_STATUS bit 0 (R460). Where it was the upstream
neighbour, the module waits for it with its stored address (R459). -/
def execTetherMemberTimeout (addr : Nat) (s : State) : Host.Outcome State Fault Refusal :=
  .next (match s.tet.members.find? (fun m => m.addr == addr) with
    | some m =>
      if confirmed s m.heard (pTetHbMiss s * pTetHbInterval s * msU) then
        raise stTET 0 noInst { s with tet := { s.tet with members := dropIf (fun x => x.addr == addr) s.tet.members,
                                                             waiting := s.tet.waiting || (s.tet.upCable && s.tet.valid && addr + 1 == s.tet.addr) } }
      else s
    | none => s)

/-! ## Frames relayed (R458) -/

/-- TETHER_MAILBOX: packets of a service 4 session, for this module, where they are a wake, or passed on (R458; 22 Table 22.3). -/
def execTetherMailbox (source dest seq hops : Nat) (fromDown : Bool) (ctx length : Nat) (s : State) : Host.Outcome State Fault Refusal :=
  if !freshSeq s source seq then .next s
  else
    let s1 := relay 4 source dest seq hops fromDown [(4, ctx), (4, length)] (noteSeq source seq s)
    .next (if s.tet.valid && (dest == s.tet.addr || dest == 0xFF) then wake 2 s1 else s1)

/-- DISCOVER: the ends announced are kept, one for each hitch, and the frame is passed on; it is a wake (R458; 22 Table 22.3). -/
def execDiscover (source seq hops : Nat) (fromDown : Bool) (ends : List (BitVec 128 × BitVec 128 × Nat)) (s : State) :
    Host.Outcome State Fault Refusal :=
  if !freshSeq s source seq then .next s
  else
    let s1 := noteSeq source seq s
    let s2 := { s1 with tet := { s1.tet with found := ends.foldl (fun acc e => putBy (fun x => x.1 == e.1) e acc) s1.tet.found } }
    .next (wake 2 (relay 5 source 0xFF seq hops fromDown ((ends.map (fun e => [(16, e.1.toNat), (16, e.2.1.toNat), (2, e.2.2)])).flatten) s2))

end Machine
end Sys2Proof
end

