-- ==== Sys2Proof/Machine/ParamRead.lean ====
section
/-!
DEFINITION. The words of the parameter maps as PARAM_GET returns them: RW fields from the layers, status words, and every read-only
field from the state it reports (03 Table 3.7 and the map of each block; 19 R473).
-/
namespace Sys2Proof
namespace Machine

/-- Bits from conditions, the first at bit 0. -/
def bitsFrom (l : List Bool) : Nat := l.foldr (fun b v => b.toNat + 2 * v) 0

/-- Word `w` of an integer. -/
def wordOf (v w : Nat) : Nat := v / 2 ^ (32 * w) % 2 ^ 32

/-- A signed integer as a word, saturating at plus and minus 2^31 - 1 (Table 3.7). -/
def signedWord (i : Int) : Nat := (max (-2147483647) (min 2147483647 i) % 4294967296).toNat

/-- Quotient rounded up. -/
def ceilDiv (a b : Nat) : Nat := (a + b - 1) / b

/-- A start-up phase has completed (24 Table 24.1). -/
def phaseDone (s : State) (p : Nat) : Bool :=
  match s.boot.phases[p - 1]? with
  | some .done => true
  | _ => false

/-- Word `w` of fields laid out in ascending bytes, as the layouts of 03 lie across parameter words. -/
def fldsWord (f : Flds) (w : Nat) : Nat := ((encodeFlds f).drop (4 * w)).take 4 |>.foldr (fun b v => b.toNat + 256 * v) 0

/-- Time block (03 Table 3.7). -/
def roTime (s : State) (off : Nat) : Option Nat :=
  if off = 0 then
    let mode := match shelfMode s with
      | .freerun => 0
      | .acquiring => 1
      | .locked => 2
      | .holdover => 3
    let anchor := match s.time.anchor with
      | .unanchored => 0
      | .anchored => 1
      | .aged => 2
    some (mode + 16 * anchor + 256 * bitsFrom [s.time.ppsQual && pTsRefCtrl0 s == 1, s.time.refQual, s.time.follower])
  else if 4 ≤ off ∧ off < 0x10 then some (fldsWord (shelfFlds (now s)) (off / 4 - 1))
  else if 0x10 ≤ off ∧ off < 0x20 then some (fldsWord (kstampFlds (kstamp s)) (off / 4 - 4))
  else if off = 0x20 then some (signedWord s.time.ptpOffset)
  else if off = 0x44 then some s.layers.anchorAge
  else if off = 0x50 then some s.time.beacons
  else if 0x54 ≤ off ∧ off < 0x5C then some (wordOf (s.time.lastBeacon / secU) (off / 4 - 0x15))
  else if off = 0x5C then some (match s.time.holdSince with
    | some t => (now s - t) / secU
    | none => 0)
  else if off = 0x60 then some (signedWord s.time.pairOffset)
  else none

/-- Partitions not yet recovered: all of an owned shard that is not ready, and those a takeover left (06 R170). -/
def notRecovered (s : State) : Nat :=
  let waits := (s.log.shards.filter (fun x => x.owned && x.num < 64 && !x.ready)).map (fun x => x.num)
  65536 * waits.length + ((staleParts s).filter (fun x => decide (x.2 < 65536) && !waits.contains x.1)).length

/-- Index block with the lanyard's part (06 Table 6.7; 09 Table 9.7). -/
def roIndex (s : State) (off : Nat) : Option Nat :=
  let last := (s.fix.current.bind (fun l => l.checkpoints.getLast?))
  if off = 0 then some (bitsFrom [s.idx.recovered && notRecovered s == 0, s.log.replaying || (s.log.inService && notRecovered s != 0),
    s.idx.parts.any (fun p => p.rebuilding)])
  else if off = 0x30 then some (notRecovered s)
  else if off = 0x100 then some (bitsFrom [s.fix.certified, s.fix.current.isSome, s.fix.ckptUnanchored, s.fix.past.any (fun l => l.partners)])
  else if 0x10C ≤ off ∧ off < 0x114 then some (wordOf ((last.map (fun c => c.number)).getD 0) (off / 4 - 0x43))
  else if 0x114 ≤ off ∧ off < 0x11C then some (wordOf ((last.map (fun c => c.custody.sec)).getD 0) (off / 4 - 0x45))
  else if off = 0x11C then
    some (ceilDiv ((lanyards s).map (fun l => (l.entries.map (fun e => (entryBytes e).length)).sum)).sum (2 ^ 30))
  else if off = 0x120 then some s.fix.epoch
  else none

/-- The data units that heads may take and no quota or reserve holds, in TB (Table 7.8). -/
def freeTb (s : State) : Nat :=
  let all := (s.log.segCount - 1) * (100 - s.layers.reservePct) / 100
  let held := (s.obj.tenants.map (fun t => quotaSegments s.layers.service t.quota.byteQuota.toNat)).sum
  (all - held) * leastUnits s.layers.service * 4096 / 10 ^ 12

/-- A three-bit or eight-bit figure of each slot, packed into words. -/
def slotPack (per : Nat) (f : Fin 24 → Nat) (w : Nat) : Nat :=
  ((List.range per).map (fun k => f (slotOf (w * per + k)) * 2 ^ (32 / per * k))).sum

/-- Rows still to rebuild or restore. -/
def repairLeft (s : State) : Nat :=
  (s.log.rows.filter (rebuildWaits s)).length +
  (allSlots.map (fun (n : Fin 24) => if (memberAt s n).state == .restoring then (s.log.rows.filter (restoreWaits n)).length else 0)).sum

/-- Stripes block with rebuild and scrub (07 Table 7.8; 08 Table 8.6). -/
def roStripes (s : State) (off : Nat) : Option Nat :=
  if off = 0 then some (bitsFrom [s.log.inService, s.log.replaying, classIn s 6 || classIn s 8, s.log.replayed,
    s.log.inService && decide ((eligibleGroups s).length < 3)])
  else if off = 0x0C then some (bitsFrom (allSlots.map (fun (n : Fin 24) => (feedAt s (.slot n)).present)))
  else if off = 0x34 then some s.layers.reservePct
  else if off = 0x44 then some (freeTb s)
  else if 0x100 ≤ off ∧ off < 0x10C then some (slotPack 8 (fun (n : Fin 24) => memberCode (memberAt s n).state) (off / 4 - 0x40))
  else if 0x10C ≤ off ∧ off < 0x124 then some (slotPack 4 (fun (n : Fin 24) => min 255 (memberAt s n).strikes.length) (off / 4 - 0x43))
  else if off = 0x140 then some (repairLeft s)
  else if off = 0x144 then some (s.log.rows.filter (exposed s)).length
  else if off = 0x148 then some s.mem.lostStripes
  else if off = 0x154 then
    some ((if s.mem.scrubbing then s.mem.scrubRows * 65536 / max 1 (s.mem.scrubRows + (scrubRest s).length) else 0) % 65536 +
      65536 * (s.mem.scrubPasses % 65536))
  else if off = 0x158 then some s.mem.scrubRepairs
  else none

/-- A principal's contexts, regions and triggers count in the shelf's figures: not those of a tenant under QUIET (02 R58; log entry 134). -/
def countsIn (s : State) (t : Option Nat) : Bool := !t.any (fun n => (quietOf s n).isSome)

/-- Transports block with regions and triggers (12 Table 12.7; 13 Table 13.5). -/
def roTransports (s : State) (off : Nat) : Option Nat :=
  let quietCtx (n : Nat) : Bool := (ctxAt s n).any (fun c => !countsIn s c.who.tenant?)
  if off = 0 then some (bitsFrom [s.boot.open_, s.boot.open_ && pTrnRoceCtrl0 s == 1, phaseDone s 8])
  else if off = 0x30 then some (((ownCtxs s).filter (fun c => countsIn s c.who.tenant?)).length / 1024 * 1024)
  else if off = 0x104 then some (ceilDiv ((s.reg.regions.filter (fun r => countsIn s (some r.tenant))).map (fun r => r.size)).sum (2 ^ 30))
  else if off = 0x110 then some ((s.reg.triggers.filter (fun r => !quietCtx r.ctx)).length / 64 * 64)
  else none

/-- The configured rate of the QUIET schedules of a MAC over one window of 60 s, frames and bytes: what its receive counters carry in place
of those tenants' traffic (14 R368). -/
def quietFrames (s : State) (n : Nat) : Nat × Nat :=
  s.sch.quiets.foldl (fun a q => if q.item.macs.toNat.testBit n then
    let k := 60000000000 / max 1 q.item.period.toNat
    (a.1 + k, a.2 + k * q.item.sizeE.toNat) else a) (0, 0)

/-- A counter of the last window that ended. -/
def reportedFigure (s : State) (a : Nat) : Nat := (s.layers.reported.lookup a).getD 0

/-- The rate code of a port's MACs (Table 14.1): 1 is 100 Gb/s and 4 is 800 Gb/s. -/
def macRateCode (s : State) (n : Nat) : Nat := 4 - pMacPortMode s (n / 8) % 4

/-- MAC block (14 Table 14.3). -/
def roMac (s : State) (off : Nat) : Option Nat :=
  let macs := s.net.macs
  if off = 0 then some (bitsFrom ((List.range 32).map (fun n => macs.any (fun m => m.num == n && m.linkUp))))
  else if off = 4 then some (bitsFrom ((List.range 32).map (fun n => macs.any (fun m => m.num == n))))
  else if 0x100 ≤ off ∧ off < 0x200 then
    let c := cageAt s ((off - 0x100) / 0x40)
    if off % 0x40 = 0 then some (16 * c.media)
    else if off % 0x40 = 4 then some (bitsFrom [c.present, c.powered] + 256 * c.cls)
    else none
  else if 0x1000 ≤ off ∧ off < 0x3000 then
    let n := (off - 0x1000) / 0x100
    let m := macs.find? (fun x => x.num == n)
    let rest := off % 0x100
    if rest = 4 then
      some ((match m with
        | some x => x.linkUp.toNat + 2 * macRateCode s n
        | none => 0) + 256 * min 255 (figure s (0x02001004 + 0x100 * n)))
    else if rest = 0x68 then
      some (match m with
        | none => 0
        | some x =>
          let held (k : Nat) : Bool := x.pauses.any (fun p => p.prio == k && p.until_.isSome)
          bitsFrom ((List.range 8).map held) + 256 * bitsFrom ((List.range 8).map (fun k => x.pauses.any (fun p => p.prio == k && p.ignore.isSome))) +
          65536 * (held 8).toNat + 131072 * bitsFrom ((List.range 8).map (fun k => x.xoffs.any (fun o => o.cls == k && o.active))))
    else if 0xC0 ≤ rest then
      let a := 0x02000000 + off
      if rest < 0xF8 then
        let low := a / 8 * 8
        let v := reportedFigure s low
        let fixed := quietFrames s n
        let whole := v + (if rest / 8 = 0x18 then fixed.1 else if rest / 8 = 0x19 then fixed.2 else 0)
        some (wordOf whole (a / 4 % 2))
      else some (reportedFigure s a)
    else none
  else none

/-- Parity strips of a tenant's geometry with the most parity: 18+4 where it has a container of it, else 20+2 (15 R391). -/
def quietData (s : State) (t : Nat) : Nat :=
  if s.obj.colls.any (fun c => c.tenant == t && c.geometry == 1) || s.block.nss.any (fun n => n.tenant == t && n.geometry == 1) then 18
  else 20

/-- The reservation of QUIET items on the most loaded MAC, as a fraction over 2^64 rounded up of the MAC's rate in per cent (15 R391): S_e
bytes in T ns at `macRate` MB/s. -/
def quietMacPct (s : State) (items : List QuietItem) : Nat × Nat :=
  (List.range 32).foldl (fun best n =>
    let sum := items.foldl (fun (a : Nat × Nat) q => if q.macs.toNat.testBit n then
      (a.1 * (q.period.toNat * macRate s n) + 100000 * q.sizeE.toNat * a.2, a.2 * (q.period.toNat * macRate s n)) else a) (0, 1)
    if best.1 * sum.2 < sum.1 * best.2 then sum else best) (0, 1)

/-- The reservation of QUIET items on any member, as numerator and denominator of a percentage of SCH_QUIET_DRV: every member bears S_d
and its 24th part of the stripes and of three copies of the entries (15 R391). -/
def quietDrvPct (s : State) (items : List QuietItem) : Nat × Nat :=
  items.foldl (fun (a : Nat × Nat) q =>
    let d := quietData s q.tenant.toNat
    let num := 100000 * (24 * d * q.sizeD.toNat + 22 * q.sizeW.toNat + 3 * d * q.sizeW.toNat)
    let den := 24 * d * q.period.toNat * max 1 (pSchQuietDrv s)
    (a.1 * den + num * a.2, a.2 * den)) (0, 1)

/-- The QUIET items in force. -/
def quietItems (s : State) : List QuietItem := s.sch.quiets.map (fun q => q.item)

/-- The greater of the two reservations in force, in per cent rounded up. -/
def quietReserved (s : State) : Nat :=
  max (ceilDiv (quietMacPct s (quietItems s)).1 (quietMacPct s (quietItems s)).2)
    (ceilDiv (quietDrvPct s (quietItems s)).1 (quietDrvPct s (quietItems s)).2)

/-- Scheduler block (15 Table 15.4). -/
def roSched (s : State) (off : Nat) : Option Nat :=
  if off = 0 then some (bitsFrom [phaseDone s 8, classIn s 7])
  else if off = 0x38 then
    let m := quietMacPct s (quietItems s)
    let d := quietDrvPct s (quietItems s)
    some (ceilDiv m.1 m.2 % 256 + 256 * (ceilDiv d.1 d.2 % 256))
  else none

/-- The addresses of the words of the hold's limits (16 R399). -/
def holdLimitAddr (a : Nat) : Bool := decide (0x04001000 ≤ a) && decide (a < 0x04005000)

/-- The addresses whose values a start-up latches: the limits of the hold, TRN_MISS_KIB and TRN_LAND_GIB. -/
def latchedAddr (a : Nat) : Bool := holdLimitAddr a || a == 0x12000034 || a == 0x12000100

/-- The words latched at start-up that a layer sets. -/
def layeredAddrs (s : State) : List Nat :=
  (s.layers.base.map (fun x => x.1) ++ (s.layers.overlays.map (fun o => o.items.filterMap (fun i => match i with
    | .param w => some w.addr.toNat
    | _ => none))).flatten).filter latchedAddr

/-- A limit of the hold differs from the one in force since start-up (16 R399). -/
def limitsWait (s : State) : Bool :=
  (layeredAddrs s ++ s.layers.latched.map (fun x => x.1)).any (fun a =>
    holdLimitAddr a && (s.layers.latched.lookup a).getD (resetWord a) != rwWord s a)

/-- Hold block (16 Table 16.4). -/
def roHold (s : State) (off : Nat) : Option Nat :=
  if off = 0 then some (bitsFrom [phaseDone s 8, limitsWait s, s.hold.passing])
  else if off = 0x10 then some (393216 - holdReserved s)
  else none

/-- Mover block (16 Table 16.5). -/
def roMover (s : State) (off : Nat) : Option Nat :=
  if off = 0 then some (phaseDone s 8).toNat
  else if 0x20 ≤ off ∧ off < 0x28 then
    some (wordOf (bitsFrom ((List.range 64).map (fun n => s.mov.channels.any (fun c => c.num == n && c.running)))) (off / 4 - 8))
  else none

/-- Drive-port block (17 Table 17.5). -/
def roDrive (s : State) (off : Nat) : Option Nat :=
  if off = 0 then some (bitsFrom [s.drv.up, s.drv.x2])
  else if 0x100 ≤ off ∧ off < 0x400 then
    let p := portAt s (slotOf ((off - 0x100) / 0x20))
    let rest := off % 0x20
    if rest = 0 then some (p.linkUp.toNat + 2 * p.rate + 16 * p.width + 256 * min 255 p.downs + 65536 * p.result)
    else if rest = 8 then some p.quar.length
    else if rest = 0x14 then some (p.draining.toNat + 65536 * (p.commits % 65536))
    else none
  else if 0x1000 ≤ off ∧ off < 0x4000 then
    match (portAt s (slotOf ((off - 0x1000) / 0x200))).windows.find? (fun w => w.num == off % 0x200 / 0x20) with
    | none => none
    | some w =>
      let rest := off % 0x20
      if rest < 8 then some (wordOf w.base (rest / 4))
      else if rest = 8 then some (w.log2 + 256 * w.kind + 4096 * bitsFrom [w.canRead, w.canWrite, w.relaxed])
      else if rest < 0x14 then some (wordOf w.target (rest / 4 - 3))
      else none
  else none

/-- Service endpoint block (17 Table 17.6). -/
def roEndpoint (s : State) (off : Nat) : Option Nat :=
  if off = 0 then some (s.sep.linkUp.toNat + 2 * s.sep.rate + 16 * s.sep.width + 256 * bitsFrom [s.sep.master, s.sep.msixOn])
  else none

/-- Pair-link block (18 Table 18.5). -/
def roPair (s : State) (off : Nat) : Option Nat :=
  if off = 0 then some (pairCode s.pair.mode + 8 * bitsFrom [s.pair.isB, s.pair.leader, s.pair.leaseHeld])
  else if off = 4 then some (s.pair.lanes + 256 * min 255 s.pair.downs)
  else if 8 ≤ off ∧ off < 0x10 then
    some (wordOf (bitsFrom ((List.range 64).map (fun n => s.log.shards.any (fun x => x.num == n && x.owned)))) (off / 4 - 2))
  else if off = 0x20 then some (pPairHbMiss s - 2)
  else none

/-- Tether block (18 Table 18.6). -/
def roTether (s : State) (off : Nat) : Option Nat :=
  if off = 0 then some (s.tet.addr + 16 * bitsFrom [s.tet.valid, s.tet.upHop, s.tet.downHop, isHead s, s.tet.done, s.tet.waiting])
  else if off = 4 then some (bitsFrom ((List.range 16).map (fun a => s.tet.members.any (fun m => m.addr == a))))
  else if 0x100 ≤ off ∧ off < 0x500 then
    match s.tet.members.find? (fun m => m.addr == (off - 0x100) / 0x40) with
    | none => none
    | some m =>
      let rest := off % 0x40
      if rest = 0 then some m.role
      else if rest < 0x0C then some (wordOf m.shelf.toNat (rest / 4 - 1))
      else if rest < 0x2C then some (fldsWord [(32, m.digest.toNat)] (rest / 4 - 3))
      else if rest = 0x2C then some ((now s - m.heard) / msU)
      else none
  else none

/-- The code of a band (21 Table 21.4). -/
def bandCode : Band → Nat
  | .full => 0
  | .derated => 1
  | .keepSafe => 2
  | .below => 3

/-- Power-entry block (21 Table 21.4). Under QUIET the input current is not given (02 R58). -/
def roPower (s : State) (off : Nat) : Option Nat :=
  let p := s.pwr
  if off = 0 then some (feedCode p.input.state + 16 * bandCode p.band +
    64 * bitsFrom [p.input.pg, p.onHoldup, p.keepSafe, decide (pPwrHoldupMin s ≤ p.holdup)])
  else if off = 4 then some p.vin
  else if off = 8 then some (if s.sch.quiets.isEmpty then p.iin else 0)
  else if off = 0x0C then some (p.cap / 1000)
  else if off = 0x10 then some p.holdup
  else if off = 0x14 then some p.capacity
  else if off = 0x58 then some p.input.fails
  else if off = 0x5C then some p.lastStop
  else none

/-- Slot-feed block (21 Table 21.5). Voltage and current of a channel that conducts are measured values; under QUIET the current is not
given (02 R58). -/
def roSlot (s : State) (off : Nat) : Option Nat :=
  let all (f : Feed → Bool) : Nat := bitsFrom (allSlots.map (fun (n : Fin 24) => f (feedAt s (.slot n))))
  if off = 0 then some (all slotPg)
  else if off = 4 then some (all (fun f => f.present))
  else if off = 8 then some (all (fun f => f.enabled))
  else if off = 0x0C then some (all (fun f => f.state == .latched))
  else if 0x100 ≤ off ∧ off < 0x400 then
    let f := feedAt s (.slot (slotOf ((off - 0x100) / 0x20)))
    let rest := off % 0x20
    let conducts := [FeedState.precharge, .ramp, .qualify, .good, .limit].contains f.state
    if rest = 0 then some (feedCode f.state + 16 * bitsFrom [f.present, f.enabled, f.mateGood] + 128 * f.fails + 1024 * f.kind)
    else if rest = 4 then some (if conducts then Config.measured s.auth.freeUsed off else 0)
    else if rest = 8 then some (if conducts && s.sch.quiets.isEmpty then Config.measured s.auth.freeUsed off else 0)
    else if rest = 0x10 then some f.total
    else none
  else none

/-- The module is in Idle: it is in Run with clock gating enabled and no engine has work: no host command, drive command, descriptor, packet
in the hold or unsigned receipt (22 R511, R512; log entry 101). -/
def idleNow (s : State) : Bool :=
  s.pst.mode == .run && s.pst.entering.isNone && pPstCtrl1 s == 1 && s.block.inFlight.isEmpty && s.block.waiting.isEmpty && s.held.isEmpty &&
  allSlots.all (fun n => (portAt s n).cmds.isEmpty) && s.mov.channels.all (fun c => c.ring.isEmpty || !c.running) && s.hold.frames.isEmpty &&
  s.fix.batches.isEmpty

/-- Power-state block (22 Table 22.5). -/
def roPstate (s : State) (off : Nat) : Option Nat :=
  if off = 0 then some ((if idleNow s then 1 else powerCode s.pst.mode) + 8 * s.pst.entering.isSome.toNat + 16 * s.pst.point + 128 * s.pst.drivesDown.toNat)
  else none

/-- Event block (23 Table 23.4). -/
def roEvents (s : State) (off : Nat) : Option Nat :=
  if off = 0 then some (bitsFrom [phaseDone s 5, s.ev.receiver.isSome]) else none

/-- A read-only word that reports state, by its block. -/
def roState (s : State) (a : Nat) : Option Nat :=
  let off := a % 2 ^ 24
  match a / 2 ^ 24 with
  | 0x01 => roTime s off
  | 0x02 => roMac s off
  | 0x03 => roSched s off
  | 0x04 => roHold s off
  | 0x05 => roMover s off
  | 0x06 => roDrive s off
  | 0x07 => roEndpoint s off
  | 0x08 => roPair s off
  | 0x09 => roTether s off
  | 0x0A => roPower s off
  | 0x0B => roSlot s off
  | 0x0C => roPstate s off
  | 0x0D => roEvents s off
  | 0x10 => roStripes s off
  | 0x11 => roIndex s off
  | 0x12 => roTransports s off
  | _ => none

/-- The read-only bits of a word: the state it reports, a figure, or the value its map fixes. -/
def roWord (s : State) (a : Nat) : Nat :=
  match roState s a with
  | some v => v
  | none =>
    if windowed a then reportedFigure s a
    else
      match s.layers.figures.lookup a with
      | some v => v
      | none => ((rowsAt a).filter (fun x => x.1.acc == .ro)).foldl (fun v x => Nat.lor v (x.1.resetAt x.2.1 x.2.2.2)) 0

/-- The bits of a word that are of one access. -/
def accMask (acc : PAcc) (a : Nat) : Nat :=
  ((rowsAt a).filter (fun x => x.1.acc == acc)).foldl (fun v x => Nat.lor v (x.1.mask x.2.1 x.2.2.2)) 0

/-- A word as PARAM_GET returns it: write-only and reserved bits read as zero (19 R473). -/
def readWord (s : State) (a : Nat) : Nat :=
  Nat.lor (Nat.lor (rwWord s a) (Nat.land (statusWord s a) (accMask .w1c a))) (Nat.land (roWord s a) (accMask .ro a))

end Machine
end Sys2Proof
end

