-- ==== Sys2Proof/Machine/ParamOps.lean ====
section
/-!
DEFINITION. Writing parameters: the checks of 19 R474 over a set of entries, which overlays and base images share (20 R478, R482), the
layer that takes them, and what a changed field does at once.
-/
namespace Sys2Proof
namespace Machine

/-- Who writes a set of entries: PARAM_SET of a custodian or the operator, a base image, an overlay of a class (19 R474; 20 R479, R482). -/
inductive SetKind where
  | param (oper : Bool)
  | base
  | overlay (cls : Nat)
deriving DecidableEq, Repr

/-- The address of an entry. -/
def entryAddr (e : ParamWrite) : Nat := e.addr.toNat

/-- The mask of an entry. -/
def entryBits (e : ParamWrite) : Nat := e.mask.toNat

/-- The fields an entry's mask touches. -/
def touched (e : ParamWrite) : List (PRow × Nat × Nat × Nat) :=
  (rowsAt (entryAddr e)).filter (fun x => Nat.land (x.1.mask x.2.1 x.2.2.2) (entryBits e) != 0)

/-- An entry writes a field: its address and bits. -/
def writes (e : ParamWrite) (addr lo width : Nat) : Bool := (entryAddr e) == addr && Nat.land ((2 ^ width - 1) * 2 ^ lo) (entryBits e) != 0

/-- An entry writes a non-zero reserved bit (check 2). -/
def writesReserved (e : ParamWrite) : Bool :=
  let v := Nat.land e.value.toNat (entryBits e)
  let known := (rowsAt (entryAddr e)).foldl (fun a x => Nat.lor a (x.1.mask x.2.1 x.2.2.2)) 0
  v != Nat.land v known

/-- A word with the RW bits of an entry written. -/
def entryWord (e : ParamWrite) (old : Nat) : Nat := mergeBits old (Nat.land (entryBits e) (accMask .rw (entryAddr e))) e.value.toNat

/-- An RW field's value is one its map admits: its range, and what the Meaning column adds to it. `v` is the field, `after` the state that
the set leaves. -/
def fieldOk (after : State) (r : PRow) (i v : Nat) : Bool :=
  if r.addr = 0x01000024 ∧ r.lo = 0 then (macAt after v).isSome
  else if r.addr = 0x01000024 then
    if pTsPtpPort13 after = 1 then (macAt after (pTsPtpPort8 after)).isSome && pTsPtpPort8 after != pTsPtpPort0 after else true
  else if r.addr = 0x01000030 then decide (v ≤ 10000) || decide (4294967296 - 10000 ≤ v)
  else if r.addr = 0x11000010 then decide (r.min ≤ v) && decide (v ≤ r.max) && v % 65536 == 0
  else if r.addr = 0x1100000C then decide (r.min ≤ v) && decide (v ≤ r.max) && after.idx.shares.all (fun x => decide (x.log2 ≤ v))
  else if r.addr = 0x12000004 then decide (r.min ≤ v) && decide (v ≤ r.max) && v != 4791
  else if r.addr = 0x03000014 then (List.range 8).all (fun c => v / 4 ^ c % 4 != 3)
  else if r.addr = 0x02001010 then !isGroup (BitVec.ofNat 48 (stationOf after i))
  else if r.addr = 0x04001000 then decide (i < 32) || decide (257 ≤ v)
  else if r.addr = 0x04002000 ∨ r.addr = 0x04004000 then decide (257 ≤ v)
  else if 1 < r.words then true
  else decide (r.min ≤ v) && decide (v ≤ r.max)

/-- The two read-only fields that a base image sets, with their ranges (20 R479; 03 R74; 07 R194). -/
def baseField (a v : Nat) : Bool :=
  (a == 0x01000044 && decide (3600 ≤ v) && decide (v ≤ 31536000)) || (a == 0x10000034 && decide (5 ≤ v) && decide (v ≤ 20))

/-- An entry passes check 3: every field it touches keeps a value its map admits, and a read-only field its present one. `new` is the word
as this entry leaves it. -/
def valueOk (k : SetKind) (s after : State) (e : ParamWrite) (new : Nat) : Bool :=
  (touched e).all (fun x =>
    match x.1.acc with
    | .rw => fieldOk after x.1 x.2.1 (bitsOf new x.1.lo x.1.width)
    | .ro => if k = .base then baseField (entryAddr e) (mergeBits (if entryAddr e = 0x01000044 then 2592000 else 7) (entryBits e) e.value.toNat)
      else
        let m := Nat.land (entryBits e) (x.1.mask x.2.1 x.2.2.2)
        Nat.land (readWord s (entryAddr e)) m == Nat.land e.value.toNat m
    | .w1c => true
    | .wo => true)

/-- The words a set leaves in a layer, entry by entry: for each entry the word it leaves (19 R474: the entries are applied in order). -/
def runWords (start : Nat → Nat) : List ParamWrite → List (Nat × Nat) → List Nat
  | [], _ => []
  | e :: es, seen =>
    let new := entryWord e ((seen.lookup (entryAddr e)).getD (start (entryAddr e)))
    new :: runWords start es ((entryAddr e, new) :: seen)

/-- A MAC's IPv4 gateway lies within its prefix; no gateway is given while it is zero. -/
def gatewayOk (s : State) (n : Nat) : Bool :=
  let low := 2 ^ (32 - pMacIpv4Prefix s n)
  pMacIpv4Gw s n == 0 || pMacIpv4Gw s n / low == pMacIpv4 s n / low

/-- The cross-field rules that an entry joins and that the state left breaks (19 R474, check 4). Each has a number. -/
def brokenRules (s : State) (e : ParamWrite) : List Nat :=
  let a := (entryAddr e)
  let rule (n : Nat) (ok : Bool) (l : List Nat) : List Nat := if l.contains a && Nat.land (entryBits e) (accMask .rw a) != 0 && !ok then [n] else []
  let word (addr : Nat) : Nat := rwWord s addr
  match a / 2 ^ 24 with
  | 0x0A => rule 1 (decide (pPwrPgLow s + 5 ≤ pPwrPgHigh s)) [0x0A000048, 0x0A00004C] ++
      rule 9 (decide (pPwrRampIlim s < pPwrIlim s)) [0x0A000018, 0x0A000038]
  | 0x0B => rule 8 (decide (pSlotUvFall s + 300 ≤ pSlotUvRise s)) [0x0B000014, 0x0B000018] ++
      rule 10 (decide (pSlotRampIlim s < pSlotIlim s)) [0x0B000010, 0x0B00002C]
  | 0x10 => rule 2 (decide (pStrFreeCrit s < pStrFreeLow s)) [0x1000002C, 0x10000030] ++
      rule 3 (decide (pStrSuspectStrikes s < pStrFailStrikes s)) [0x10000128, 0x1000012C] ++
      rule 4 (decide (pStrHedge s < 1000 * pDrvTimeout s)) [0x10000130] ++
      rule 6 (decide (pStrRebuildShare s ≤ pStrRebuildCritShare s)) [0x10000138, 0x1000013C] ++
      rule 14 (decide (3 ≤ (((List.range 24).filter (fun n => (feedAt s (.slot (slotOf n))).present)).map (faultGroup s)).eraseDups.length))
        [0x10000010, 0x10000014, 0x10000018]
  | 0x06 => rule 4 (decide (pStrHedge s < 1000 * pDrvTimeout s)) [0x06000004]
  | 0x12 => rule 5 (decide (pTrnRtoMin s ≤ pTrnRtoMax s)) [0x1200000C, 0x12000010]
  | 0x08 => rule 7 (decide (4 * pPairHbInterval s ≤ 1000 * pPairHbMiss s)) [0x08000018, 0x0800001C]
  | 0x03 => rule 12 (decide (quietReserved s ≤ pSchQuietPct s)) [0x03000030, 0x03000034]
  | 0x04 =>
    let p := a % 0x1000 / 0x20
    let c := a % 0x20 / 4
    let k := a / 0x1000 % 0x1000
    if k = 1 ∨ k = 2 then
      (if word (0x04002000 + 0x20 * p + 4 * c) < word (0x04001000 + 0x20 * p + 4 * c) then [20000 + 8 * p + c] else []) ++
      (if k = 1 ∧ 262144 < ((List.range 64).map (fun p => ((List.range 8).map (fun c =>
          layered s (0x04001000 + 0x20 * p + 4 * c) (if p < 32 then 64 else 512))).sum)).sum then [13] else []) ++
      (if k = 2 ∧ word (0x04002000 + 0x20 * p + 4 * c) ≤ pHoldRelease s then [11] else [])
    else if a = 0x0400001C ∧ (List.range 64).any (fun p => (List.range 8).any (fun c =>
        decide (layered s (0x04002000 + 0x20 * p + 4 * c) (if p < 32 then 4096 else 32768) ≤ pHoldRelease s))) then [11]
    else []
  | 0x02 =>
    if a % 2 ^ 24 < 0x1000 then []
    else
      let n := (a % 2 ^ 24 - 0x1000) / 0x100
      (if (writes e (0x02001000 + 0x100 * n) 6 1 || writes e (0x0200100C + 0x100 * n) 0 12) && pMacCtrl6 s n == 1 &&
          (pMacVlan0 s n == 0 || pMacVlan0 s n == 4095) then [1000 + n] else []) ++
      (if [0x18, 0x1C, 0x20].contains (a % 0x100) && !gatewayOk s n then [1100 + n] else [])
  | _ => []

/-- The first entry of a list that fails, counting from 0. -/
def firstBad (p : ParamWrite → Bool) (es : List ParamWrite) : Option Nat := es.findIdx? p

/-- The entry that check 4 names: for each broken rule the highest entry that writes a field it joins; of several rules the lowest such
entry (19 R474). -/
def crossBad (after : State) (es : List ParamWrite) : Option Nat :=
  let broken := es.map (brokenRules after)
  let last (r : Nat) : Nat := (broken.foldl (fun (a : Nat × Nat) l => (a.1 + 1, if l.contains r then a.1 else a.2)) (0, 0)).2
  ((broken.flatten.eraseDups).map last).foldl (fun a n => match a with
    | none => some n
    | some m => some (min m n)) none

/-- The fields that an overlay class's PARAM items may set (20 Table 20.4). -/
def classSets (cls : Nat) (r : PRow) : Bool :=
  if r.acc ≠ .rw then false
  else if cls = 1 ∨ cls = 2 ∨ cls = 3 then
    [0x11000010, 0x11000014, 0x11000018, 0x11000028, 0x11000104, 0x11000108, 0x10000038, 0x1000001C, 0x1000014C].contains r.addr
  else if cls = 4 then r.addr == 0x10000024 || (r.addr == 0x09000010 && r.lo == 1)
  else if cls = 5 then
    (r.addr == 0x02001000 && r.lo == 7) || r.addr == 0x020010B8 || (decide (0x02000200 ≤ r.addr) && decide (r.addr < 0x02000A00)) ||
      r.addr == 0x10000150 || r.addr == 0x1000014C || r.dorm
  else if cls = 6 then
    [0x10000138, 0x1000013C, 0x10000024, 0x10000130, 0x10000134, 0x10000128, 0x1000012C, 0x06000004].contains r.addr
  else if cls = 8 then r.addr / 2 ^ 24 == 2 || (decide (5 ≤ r.addr / 2 ^ 24) && decide (r.addr / 2 ^ 24 ≤ 12))
  else false

/-- An entry writes a field that its writer may not write (check 5; 20 R479, R482). -/
def notAllowed (k : SetKind) (e : ParamWrite) : Bool :=
  (touched e).any (fun x =>
    match k with
    | .param oper => x.1.acc != .ro && oper && !x.1.oper
    | .base => x.1.acc == .w1c || x.1.acc == .wo
    | .overlay cls => !classSets cls x.1)

/-- The status by which a field's own rule refuses an entry in the module's present state (check 7). -/
def ownRule (s after : State) (e : ParamWrite) : Option Nat :=
  let a := (entryAddr e)
  let gone (n : Nat) : Bool := (macAt s n).isSome && (macAt after n).isNone
  if decide (0x02000100 ≤ a) && decide (a < 0x02000200) && a % 0x40 == 0 &&
      (gone (pTsPtpPort0 after) || (pTsPtpPort13 after == 1 && gone (pTsPtpPort8 after))) then some ePortInUse
  else if decide (0x06000100 ≤ a) && decide (a < 0x06000400) && a % 0x20 == 4 && e.value.toNat % 2 == 1 && (entryBits e) % 2 == 1 &&
      !([MemberState.absent, .failed].contains (memberAt s (slotOf ((a - 0x06000100) / 0x20))).state) then some eSlotBusy
  else if (a == 0x07000008 || a == 0x0700000C) && s.mbx.conns.any (fun x => onEndpoint s x.mbx != onEndpoint after x.mbx) then
    some eMailboxOpen
  else if (a == 0x08000010 || a == 0x08000014) && (entryBits e) != 0 && s.pair.mode != .paired then some ePairState
  else none

/-- The modes of ports that differ give the MACs of the state left (14 R356). -/
def withModes (after : State) : State :=
  { after with net := { after.net with macs := ((List.range 4).map (fun p => (modeMacs p (pMacPortMode after p)).map (fun n =>
      (after.net.macs.find? (fun m => m.num == n)).getD (Mac.reset n)))).flatten } }

/-- The checks of a set of entries in the order of R474: the status of the first that fails and the entry it names. `start` is the layer's
word before the set, `left` the state with the set in its layer. -/
def checkSet (k : SetKind) (s left : State) (start : Nat → Nat) (es : List ParamWrite) : Option (Nat × Nat) :=
  let after := withModes left
  let words := runWords start es []
  let bad3 := (es.zip words).findIdx? (fun x => !valueOk k s after x.1 x.2)
  match firstBad (fun e => !addrOk (entryAddr e)) es with
  | some n => some (eRange, n)
  | none =>
    match firstBad writesReserved es with
    | some n => some (eReserved, n)
    | none =>
      match bad3 with
      | some n => some (eRange, n)
      | none =>
        match crossBad after es with
        | some n => some (eRange, n)
        | none =>
          match firstBad (notAllowed k) es with
          | some n => some (eDenied, n)
          | none =>
            let covered (e : ParamWrite) : Bool := match k with
              | .param _ => Nat.land (overlayMask s (entryAddr e)) (entryBits e) != 0
              | _ => false
            match firstBad covered es with
            | some n => some (eOverlay, n)
            | none =>
              match firstBad (fun e => (ownRule s after e).isSome) es with
              | some n => (es[n]?.bind (ownRule s after)).map (fun st => (st, n))
              | none => none

/-! ## The base layer -/

/-- One entry enters the base layer (20 R476). -/
def baseEntry (e : ParamWrite) (s : State) : State :=
  let a := (entryAddr e)
  { s with layers := { s.layers with base := putKey a (entryWord e (baseWord s a (resetWord a))) (resetWord a) s.layers.base } }

/-- The record of PARAM_SET's bits takes one more entry. -/
def noteSet (a m v : Nat) : List (Nat × Nat × Nat) → List (Nat × Nat × Nat)
  | [] => if m = 0 then [] else [(a, m, Nat.land v m)]
  | (b, n, w) :: r =>
    if m = 0 then (b, n, w) :: r
    else if a < b then (a, m, Nat.land v m) :: (b, n, w) :: r
    else if a = b then (b, Nat.lor n m, mergeBits w m v) :: r
    else (b, n, w) :: noteSet a m v r

/-- One entry of PARAM_SET: the base layer and the record of what PARAM_SET has set. -/
def setEntry (e : ParamWrite) (s : State) : State :=
  let m := Nat.land (entryBits e) (accMask .rw (entryAddr e))
  let s1 := baseEntry e s
  { s1 with layers := { s1.layers with sets := noteSet (entryAddr e) m e.value.toNat s1.layers.sets } }

/-- The base layer of a base image: the reset values, what PARAM_SET has set, and above both the image's entries, which were accepted later
(20 R476). TS_ANCHOR_AGE_MAX and STR_RESERVE_PCT take what the image says, or their reset values (20 R479). -/
def baseLayer (es : List ParamWrite) (s : State) : State :=
  let bare := s.layers.sets.foldl (fun l x => putKey x.1 (mergeBits (resetWord x.1) x.2.1 x.2.2) (resetWord x.1) l) ([] : List (Nat × Nat))
  let s1 := es.foldl (fun acc e => baseEntry e acc) { s with layers := { s.layers with base := bare } }
  let own (addr reset : Nat) : Nat := es.foldl (fun v e => if (entryAddr e) = addr then mergeBits v (entryBits e) e.value.toNat else v) reset
  { s1 with layers := { s1.layers with anchorAge := own 0x01000044 2592000, reservePct := own 0x10000034 7 } }

/-! ## What a change does at once -/

/-- Rings of mailboxes that the endpoint no longer carries, or carries now, start empty (17 R434). -/
def rebindRings (b s : State) : State :=
  { s with mbx := { s.mbx with rings := dropIf (fun r => onEndpoint b r.mbx != onEndpoint s r.mbx) s.mbx.rings } }

/-- What the changed parameters do at once: `b` is the state before, `s` the state with the new layers. -/
def paramEffects (b s : State) : State :=
  let s1 := (List.range 4).foldl (fun acc p => if pMacPortMode b p = pMacPortMode s p then acc else applyPortMode p acc) s
  let s2 := (List.range 32).foldl (fun acc n =>
    if pMacCtrl0 b n == 1 && pMacCtrl0 s n == 0 && (macAt acc n).any (fun m => m.linkUp) then dropLink n acc else acc) s1
  let s3 := if pIdxHintLog2 b = pIdxHintLog2 s then s2 else { s2 with idx := { s2.idx with hints := [] } }
  let gone (x : Nat × Bool × Nat) : Bool := if x.2.1 then pStrMapCacheGib b != pStrMapCacheGib s else pIdxCacheGib b != pIdxCacheGib s
  let s4 := { s3 with idx := { s3.idx with cache := dropIf gone s3.idx.cache } }
  let s5 := if pSepCtrl b == 1 && pSepCtrl s == 0 && s4.sep.linkUp then resetEndpoint s4 else s4
  let s6 := rebindRings b s5
  let s7 := if rwWord b 0x01000024 = rwWord s 0x01000024 && rwWord b 0x01000028 = rwWord s 0x01000028 then s6
    else
      let other := rwWord b 0x01000028 != rwWord s 0x01000028
      selectGm { s6 with time := { s6.time with onStandby := false, foreign := if other then [] else s6.time.foreign } }
  let s8 := if pTsRefCtrl0 s = 0 then { s7 with time := { s7.time with ppsQual := false, ppsRun := 0 } } else s7
  if pTsRefCtrl2 s = 0 then { s8 with time := { s8.time with refQual := false } } else s8

/-- The write-only and write-one-to-clear bits of an entry act (00 Table 0.2). -/
def entryActs (e : ParamWrite) (s : State) : State :=
  let a := (entryAddr e)
  let v := Nat.land e.value.toNat (entryBits e)
  let clr := Nat.land v (accMask .w1c a)
  let s1 := if clr = 0 then s else clearStatus a clr s
  let s2 := if a = stTS ∧ clr.testBit 0 then trustAgain s1 else s1
  if a = 0x1000015C ∧ v.testBit 0 then (if s2.mem.scrubbing then s2 else startScrub s2)
  else if decide (0x02000100 ≤ a) && decide (a < 0x02000200) && a % 0x40 == 8 && v.testBit 0 then restartPort ((a - 0x02000100) / 0x40) s2
  else if a = 0x05000018 then sharePipes (abortChannels v s2)
  else if a = 0x0500001C then sharePipes (abortChannels (v * 2 ^ 32) s2)
  else if decide (0x06000100 ≤ a) && decide (a < 0x06000400) && a % 0x20 == 4 && v.testBit 0 then
    resetPort (slotOf ((a - 0x06000100) / 0x20)) s2
  else if a = 0x08000028 ∧ v.testBit 1 ∧ s2.pair.mode = .paired then { s2 with pair := { s2.pair with handNow := true } }
  else if a = 0x09000010 ∧ v.testBit 0 then (if isHead s2 then startReeving s2 else s2)
  else if decide (0x0B000100 ≤ a) && decide (a < 0x0B000400) && a % 0x20 == 12 && v.testBit 0 then
    clearLatch (slotOf ((a - 0x0B000100) / 0x20)) s2
  else s2

/-! ## PARAM_SET -/

/-- Fields that PARAM_SET may write in the first-use state (24 R541). -/
def firstUseField (e : ParamWrite) : Bool :=
  (entryAddr e) / 2 ^ 24 == 1 || (entryAddr e) / 2 ^ 24 == 2 || (decide (0x10000010 ≤ (entryAddr e)) && decide (entryAddr e < 0x1000001C))

/-- The state that a set of PARAM_SET entries would leave. -/
def withSets (es : List ParamWrite) (s : State) : State := es.foldl (fun acc e => setEntry e acc) s

/-- An accepted set takes effect at one instant (19 R474). -/
def applySet (es : List ParamWrite) (s : State) : State :=
  es.foldl (fun acc e => entryActs e acc) (paramEffects s (withSets es s))

/-- PARAM_SET of a list of entries: all or none (19 R474). -/
def paramSetCmd (c : Call) (count : Nat) (es : List ParamWrite) (s : State) : State :=
  mailboxCmd c 0x0103 .nothing isCustOper (fun x s =>
    let oper := isOperator x.who
    if count ≠ es.length then reply c 0x0103 eFormat [] s
    else if count = 0 ∨ 64 < count then reply c 0x0103 eRange [] s
    else
      match firstBad (fun e => s.boot.firstUse && !firstUseField e) es with
      | some n => reply c 0x0103 eState [(2, n), (6, 0)] s
      | none =>
        match checkSet (.param oper) s (withSets es s) (fun a => baseWord s a (resetWord a)) es with
        | some (st, n) => reply c 0x0103 st [(2, n), (6, 0)] s
        | none => reply c 0x0103 sOk [(2, 0xFFFF), (6, 0)] (applySet es s)) s

end Machine
end Sys2Proof
end

