-- ==== Sys2Proof/Machine/Formation.lean ====
section
/-!
DEFINITION. First-use initialisation: the checks and the steps of formation (24 R542 to R544, Table 24.2). The steps are recorded before they
run; the model runs them in one command.
-/
namespace Sys2Proof
namespace Machine

/-- Formation is possible: every slot holds a drive that has passed discovery and carries no valid record bank; in a pair-mode shelf the
partner is present (R542). -/
def mayForm (s : State) : Bool :=
  allSlots.all (fun n =>
    let p := portAt s n
    let m := memberAt s n
    p.linkUp && p.step.isNone && p.result == 0 && m.state == .joining && !m.ours) &&
  (!s.pair.pairShelf || s.pair.mode == .paired)

/-- seg_base of a shelf formed by release 3.2 (G2; 07 R177). -/
def formBaseLba : Nat := 1064960

/-- LBAs of the smallest member. -/
def leastLbas (s : State) : Nat := allSlots.foldl (fun a n => min a (memberAt s n).lbas) (memberAt s 0).lbas

/-- G1: the shelf identity and the shelf wrapping key are drawn; the key is kept in the vault and wrapped to the escrow key (02 R43, R45). -/
def formG1 (s : State) : State :=
  let (v, s1) := draw s
  let (k, s2) := drawKey s1
  let (w, s3) := escrowWrap k s2
  { s3 with boot := { s3.boot with shelfId := BitVec.ofNat 64 (v.toNat % (2 ^ 64 - 1) + 1), forming := 2, formedAt := kstamp s3 },
            auth := { s3.auth with shelfKey := some k, shelfVault := some k, shelfEscrow := w } }

/-- G2: the segments are laid out, and every LBA of every member is deallocated. -/
def formG2 (s : State) : State :=
  let s1 := { s with log := { s.log with segBase := formBaseLba, segCount := (leastLbas s - formBaseLba) / 2048 }, boot := { s.boot with forming := 3 } }
  allSlots.foldl (fun acc n => (issueDrive n (.deallocate 0) 9 0 (memberAt acc n).lbas acc).2) s1

/-- G3: the members are HEALTHY members of this shelf, and generation 1 of both banks is written (10 R266, R270). -/
def formG3 (s : State) : State :=
  let join (acc : State) (n : Fin 24) : State :=
    pairState 1 [(1, (n : Nat)), (1, memberCode .healthy)]
      (raiseEvent 0xC80 n [(1, memberCode (memberAt acc n).state), (1, memberCode .healthy), (14, 0)]
        (putMember n { memberAt acc n with state := .healthy, ours := true } acc))
  let s1 := allSlots.foldl join s
  (changeBanks { s1 with mem := { s1.mem with bankGen := 0, bankStep := 0 }, boot := { s1.boot with forming := 4 } }).2

/-- G4: the shards stand at their homes, PAIR_HOME at reset, and the segment pools are those of R195. -/
def formG4 (s : State) : State :=
  let home (a : Nat) : Bool := a == 0x08000010 || a == 0x08000014
  let s1 := { s with layers := { s.layers with base := s.layers.base.filter (fun x => !home x.1), sets := s.layers.sets.filter (fun x => !home x.1) } }
  let mine (n : Nat) : Bool := !s1.pair.pairShelf || homeB s1 n == s1.pair.isB
  let shard (n : Nat) (own : Bool) : Shard := { noShard n with owned := own, ready := true }
  { s1 with
    log := { s1.log with granted := [], given := [],
                         shards := (List.range 64).map (fun n => shard n (mine n)) ++ [shard 0xFFF0 (!s1.pair.isB), shard 0xFFF1 s1.pair.isB] },
    boot := { s1.boot with forming := 5 } }

/-- G5 and G6: the custody key, the lanyard with its first entries, the service overlay named, and the end of the first-use state. -/
def formG56 (b : BaseImage) (s : State) : State :=
  let s1 := openLanyard (newCustodyKey s)
  let s2 := keyEntry 3 1 s1.auth.escrowKey.toList noStamp (keyEntry 1 s1.auth.quorumK s1.auth.custKeys noStamp s1)
  let s3 := configEntry 0 1 b.digest s2
  let o : OvlInForce := { cls := b.svcClass.toNat, tenant := 0xFFFF, digest := 0, items := [], since := now s3 }
  let s4 := { s3 with layers := { s3.layers with service := b.svcClass.toNat, overlays := [o] } }
  let s5 := configEntry b.svcClass.toNat 1 0 s4
  { s5 with boot := { s5.boot with forming := 0, formBase := none, firstUse := false },
            log := { s5.log with inService := true }, idx := { s5.idx with recovered := true } }

/-- The steps of Table 24.2 from the one recorded (R542, R544). -/
def formShelf (b : BaseImage) (s : State) : State :=
  let k := max 1 s.boot.forming
  let s0 := { s with boot := { s.boot with forming := k, formBase := some b } }
  let s1 := if k ≤ 1 then formG1 s0 else s0
  let s2 := if k ≤ 2 then formG2 s1 else s1
  let s3 := if k ≤ 3 then formG3 s2 else s2
  let s4 := if k ≤ 4 then formG4 s3 else s3
  formG56 b s4

end Machine
end Sys2Proof
end

