-- ==== Sys2Proof/Machine/Overlay.lean ====
section
/-!
DEFINITION. The base image and the overlays: their checks, their application and removal (20).
-/
namespace Sys2Proof
namespace Machine

/-! ## The form of a record (20 R481, Tables 20.2 to 20.4) -/

/-- The type number of an item (Table 20.3). -/
def itemType : OvlItem → Nat
  | .param _ => 1
  | .quiet _ => 2
  | .peer _ => 3
  | .dormant _ => 4
  | .expiry _ => 5
  | .rmwTest _ _ _ _ _ _ => 6
  | .windowTest _ _ _ _ _ _ => 7
  | .unknown _ => 0

/-- How many items of a type a class takes: least and most; 0 and 0 where it takes none (Table 20.4). A record has no more than 4,096
bytes, so PARAM items are not counted. -/
def itemCount (cls type : Nat) : Nat × Nat :=
  match cls, type with
  | 7, 1 => (0, 0)
  | _, 1 => (0, 168)
  | 4, 3 => (0, 4)
  | 5, 4 => (1, 1)
  | 6, 5 => (1, 1)
  | 7, 2 => (1, 1)
  | 8, 6 => (0, 32)
  | 8, 7 => (0, 32)
  | _, _ => (0, 0)

/-- An IP version field (Table 20.3). -/
def ipVersion (b : Byte) : Bool := b == 4 || b == 6

/-- The encodings of an item's fields (Table 20.3). -/
def itemForm : OvlItem → Bool
  | .quiet q => ipVersion q.ipVer
  | .peer p => ipVersion p.ipVer
  | .windowTest _ _ d _ _ _ => d == 1 || d == 2
  | .unknown _ => false
  | _ => true

/-- The form of a record: version, class, lengths, the items its class takes and their encodings (R481, Tables 20.2 to 20.4). A QUIET record
that withdraws has only its tenant, and is not checked further (R486). -/
def recordForm (r : OvlRec) : Bool :=
  let cls := r.cls.toNat
  r.version == 1 && decide (1 ≤ cls) && decide (cls ≤ 8) && r.lenOk && decide (64 ≤ r.length.toNat) && decide (r.length.toNat ≤ 4096) &&
  r.length.toNat % 8 == 0 && r.count.toNat == r.items.length &&
  (List.range 8).all (fun k =>
    let n := (r.items.filter (fun i => itemType i == k)).length
    decide ((itemCount cls k).1 ≤ n) && decide (n ≤ (itemCount cls k).2)) &&
  (r.flags == 1 || r.items.all itemForm)

/-- The QUIET item of a record. -/
def quietItem (r : OvlRec) : Option QuietItem := r.items.findSome? (fun i => match i with
  | .quiet q => some q
  | _ => none)

/-- The record withdraws a QUIET overlay (R486). -/
def withdraws (r : OvlRec) : Bool := r.cls == 7 && r.flags == 1

/-- A withdrawal's other fields are zero (R486). -/
def withdrawForm (r : OvlRec) : Bool :=
  (quietItem r).all (fun q =>
    q.period == 0 && q.macs == 0 && q.sizeE == 0 && q.countA == 0 && q.countN == 0 && q.sizeD == 0 && q.sizeW == 0 && q.ipVer == 0 &&
    q.udpPort == 0 && q.sink == 0)

/-- A non-zero reserved field: a reserved flag, or in the record, or in a DORMANT item's flags (Tables 20.2 and 20.3). -/
def recordReserved (r : OvlRec) : Bool :=
  r.rsv != 0 || 2 ≤ r.flags.toNat || (r.flags == 1 && r.cls != 7) ||
  r.items.any (fun i => match i with
    | .dormant d => decide (2 ≤ d.flags.toNat)
    | _ => false)

/-- The ranges of Table 15.3. -/
def quietRanges (s : State) (q : QuietItem) : Bool :=
  let macs := (List.range 32).filter (fun n => q.macs.toNat.testBit n)
  (tenantAt s q.tenant.toNat).isSome &&
  within 1024 1000000000 q.period.toNat && q.period.toNat % 64 == 0 &&
  !macs.isEmpty && macs.all (fun n => (macAt s n).isSome && decide (q.sizeE.toNat ≤ pMacFrameMax s n)) && decide (1518 ≤ q.sizeE.toNat) &&
  within 1 64 q.countA.toNat && within 1 64 q.countN.toNat &&
  within 4096 65536 q.sizeD.toNat && q.sizeD.toNat % 4096 == 0 && decide (q.sizeW.toNat ≤ 2097152) && q.sizeW.toNat % 4096 == 0

/-- The ranges of a DORMANT item (R483). -/
def dormantRanges (d : DormantItem) : Bool :=
  within 3600 31536000 d.period.toNat && decide (600 ≤ d.window.toNat) && decide (2 * d.window.toNat ≤ d.period.toNat) &&
  decide (d.phase.toNat < d.period.toNat) && within 60 86400 d.idle.toNat

/-- The geometry of a BRINGUP row test: the one in use with the most parity. -/
def testData (s : State) : Nat := lanyardData s

/-- The ranges of an item (R483, R490; 15 Table 15.3). -/
def itemRanges (s : State) : OvlItem → Bool
  | .quiet q => quietRanges s q
  | .dormant d => dormantRanges d
  | .expiry n => within 3600 604800 n.toNat
  | .rmwTest seg row strip unit count _ =>
    segFree s seg.toNat && decide (row.toNat < 128) && decide (strip.toNat < testData s) && decide (1 ≤ count.toNat) &&
      decide (unit.toNat + count.toNat ≤ 16)
  | .windowTest slot window _ size _ _ =>
    decide (slot.toNat < 24) && within 2 15 window.toNat && within 12 36 size.toNat && (memberAt s (slotOf slot.toNat)).state == .healthy
  | _ => true

/-- Distinct peer shelves (Table 20.4). -/
def peersDistinct (r : OvlRec) : Bool :=
  let l := r.items.filterMap (fun i => match i with
    | .peer p => some p.shelf
    | _ => none)
  l.eraseDups.length == l.length

/-- The PARAM items of a record, in order. -/
def paramItems (r : OvlRec) : List ParamWrite := r.items.filterMap (fun i => match i with
  | .param w => some w
  | _ => none)

/-! ## Application -/

/-- The tenant of an overlay: that of a QUIET record, none otherwise. -/
def recordTenant (r : OvlRec) : Nat := ((quietItem r).map (fun q => q.tenant.toNat)).getD 0xFFFF

/-- The overlay that a record replaces: the service overlay for a service class, else that of its class, for QUIET of its tenant (R477,
R486; 01 R29). -/
def replaced (s : State) (r : OvlRec) : Option OvlInForce :=
  if r.cls.toNat ≤ 3 then s.layers.overlays.find? (fun o => decide (o.cls ≤ 3)) else overlayIn s r.cls.toNat (recordTenant r)

/-- An overlay takes force in place of the one it replaces (R476, R477). -/
def withOverlay (r : OvlRec) (s : State) : State :=
  let cls := r.cls.toNat
  let old := replaced s r
  let o : OvlInForce := { cls := cls, tenant := recordTenant r, digest := r.digest, items := r.items, since := now s }
  { s with layers := { s.layers with overlays := s.layers.overlays.filter (fun x => some x != old) ++ [o],
                                     service := if cls ≤ 3 then cls else s.layers.service } }

/-- The refusals of R485 and the capacity of R391, with the replaced reservation left out (R486); then the quotas under a new service overlay
(07 R194) and the 64 QUIET overlays. -/
def applyState (s : State) (r : OvlRec) : Option Nat :=
  let cls := r.cls.toNat
  let quiet := classIn s 7
  if cls = 8 ∧ (s.obj.everTenant ∨ classIn s 4 ∨ classIn s 5 ∨ quiet) then some eState
  else if (cls = 4 ∨ cls = 5 ∨ cls = 7) ∧ classIn s 8 then some eState
  else if cls = 5 ∧ quiet then some eState
  else if cls = 5 ∧ classIn s 4 then some eHitchState
  else if cls = 7 ∧ classIn s 5 then some eState
  else if cls ≤ 3 ∧ !quotasFit s cls s.layers.reservePct (s.obj.tenants.map (fun t => t.quota.byteQuota.toNat)) then some eLimit
  else
    match quietItem r with
    | none => none
    | some q =>
      let others := (quietItems s).filter (fun x => x.tenant != q.tenant)
      let m := quietMacPct s (others ++ [q])
      let d := quietDrvPct s (others ++ [q])
      if 64 ≤ others.length then some eLimit
      else if pSchQuietPct s * m.2 < m.1 ∨ pSchQuietPct s * d.2 < d.1 then some eQuietCapacity
      else none

/-- What refuses a record, in the class order of 05 R125: its form, reserved fields, ranges, its PARAM items as a set, then the module's state
(R481 to R486). -/
def applyRefusal (s : State) (r : OvlRec) : Option Nat :=
  if !recordForm r then some eFormat
  else if recordReserved r then some eReserved
  else if r.shelf ≠ 0 ∧ r.shelf ≠ s.boot.shelfId ∨ !r.releaseOk then some eRange
  else if withdraws r then (if withdrawForm r then none else some eFormat)
  else if !r.items.all (itemRanges s) || !peersDistinct r then some eRange
  else
    let bare := { s with layers := { s.layers with overlays := s.layers.overlays.filter (fun x => some x != replaced s r) } }
    match checkSet (.overlay r.cls.toNat) s (withOverlay r s) (rwWord bare) (paramItems r) with
    | some (st, _) => some st
    | none => applyState s r

/-- A finding of a BRINGUP test: pass or mismatch, the bytes mismatched and the item's index; what the drives return is a free value (23
Table 23.2; log entry 2). -/
def testFinding (event inst index : Nat) (s : State) : State :=
  let (v, s1) := free s
  raiseEvent event inst [(1, min 1 v), (3, 0), (4, v % 2 ^ 32), (2, index), (6, 0)] s1

/-- The strip of a role of a test row whose units hold the pattern byte, those of a range its complement (R490). -/
def testStrip (s : State) (seg row first count : Nat) (pattern : Byte) (role : Nat) : Bytes :=
  let d := testData s
  let unit (i : Nat) : Byte := if first ≤ i ∧ i < first + count then pattern ^^^ 0xFF else pattern
  let bytes := ((List.range (rowUnits d)).map (fun i => List.replicate 4096 (unit i))).flatten
  let r : Row := { seg := seg, row := row, d := d, state := .writing, reloc := false, seq := 0, stampLo := noStamp, stampHi := noStamp, seqLo := 0,
                   seqHi := 0, missing := [], bad := [], subst := [], writes := [], failed := [], locked := false, short := false }
  let rec_ : LogRec := { addr := logAddr seg (row * rowUnits d), units := rowUnits d, kind := .fill, live := false, dead := 0, bytes := bytes,
                         stamp := noStamp }
  stripImage { s with log := { s.log with recs := [rec_] } } r role

/-- RMW_TEST: the row is written whole with the pattern byte, the units named are updated in place with its complement under the parity
strips, the row is read and checked; the segment is FREE again (R490; 07 R209; 08 R235; log entry 11). -/
def rmwTest (seg row strip unit count : Nat) (pattern : Byte) (index : Nat) (s : State) : State :=
  let d := testData s
  let roles := List.range (d + geomParity d)
  let first := 16 * strip + unit - 1
  let put (lba n off changed : Nat) (acc : State) (j : Nat) : State :=
    (issueWrite (homeMember seg row j) .log .test lba n (((testStrip s seg row first changed pattern j).drop (4096 * off)).take (4096 * n)) acc).2
  let s1 := roles.foldl (put (rowLba s seg row) 16 0 0) s
  let s2 := (strip :: roles.filter (fun j => decide (d ≤ j))).foldl (put (rowLba s seg row + unit) count unit count) s1
  testFinding 0xC81 noInst index (roles.foldl (fun acc j => (issueDrive (homeMember seg row j) .test 2 (rowLba s seg row) 16 acc).2) s2)

/-- WINDOW_TEST: the window is programmed and committed, one Read or Write of LBA 0 of namespace 1 passes through it, and it is invalidated
(R490; 17 R422, R423). What stands at the module address is a free value (log entry 2). -/
def windowTest (slot : Fin 24) (direction index : Nat) (s : State) : State :=
  let s1 := if direction = 1 then (issueWrite slot .log .test 0 1 (leBytes 4096 (free s).1) (free s).2).2 else (issueDrive slot .test 2 0 1 s).2
  let p := portAt s1 slot
  testFinding 0x680 slot index (putPort slot { p with commits := p.commits + 2 } s1)

/-- BRINGUP's tests, once, in item order (R490). -/
def runTests (r : OvlRec) (s : State) : State :=
  ((List.range r.items.length).zip r.items).foldl (fun acc x => match x.2 with
    | .rmwTest seg row strip unit count pattern => rmwTest seg.toNat row.toNat strip.toNat unit.toNat count.toNat pattern x.1 acc
    | .windowTest slot _ d _ _ _ => windowTest (slotOf slot.toNat) d.toNat x.1 acc
    | _ => acc) s

/-- The QUIET schedule of a record takes force from the next period (15 R387). -/
def startQuiet (r : OvlRec) (s : State) : State :=
  match quietItem r with
  | none => s
  | some q =>
    putQuiet { item := q, period := now s / (max 1 q.period.toNat * nsU), admitted := 0, walks := 0, logBytes := 0, frames := [] } s

/-- An accepted record takes force at one instant: its fields apply, its schedule begins (R476, R483, R489). -/
def placeOverlay (r : OvlRec) (s : State) : State :=
  let s1 := startQuiet r (paramEffects s (withOverlay r s))
  if r.cls = 5 then { s1 with pst := { s1.pst with lastDrive := mono s } }
  else if r.cls = 6 then powerDrives (wake 7 { s1 with layers := { s1.layers with removing := none } })
  else s1

/-- An overlay leaves force on this module, with what its fields do as they return to the next source (R476). -/
def leaveOverlay (o : OvlInForce) (s : State) : State :=
  if o.cls = 6 then removeRebuildSafe s
  else
    let s1 := paramEffects s (dropOverlay o s)
    if o.cls = 5 then powerDrives (wake 7 s1) else s1

/-- The record, a removal or an image goes to the partner, which applies it first (R488). -/
def tellConfig (action cls tenant : Nat) (digest : Digest) (s : State) : State :=
  if s.pair.mode == .paired then pairState 11 [(1, action), (1, cls), (2, tenant), (32, digest.toNat)] s else s

/-- OVL_APPLY once it is permitted: refused, withdrawn, or applied with its entry, two where a service overlay replaces another; tests run at the
instant of application (R477, R486 to R490). Answers the status. -/
def ovlApplied (r : OvlRec) (s : State) : Nat × State :=
  match applyRefusal s r with
  | some e => (e, if e = eQuietCapacity then raise stSCH 0 noInst s else s)
  | none =>
    if withdraws r then
      match overlayIn s 7 (recordTenant r) with
      | none => (sOk, s)
      | some o => (sOk, leaveOverlay o (tellConfig 2 7 (recordTenant r) o.digest s))
    else
      let s1 := placeOverlay r (tellConfig 1 r.cls.toNat (recordTenant r) r.digest s)
      let s2 := match (replaced s r).filter (fun o => decide (o.cls ≤ 3)) with
        | some o => configEntry o.cls 2 o.digest s1
        | none => s1
      (sOk, resumeConfig (runTests r (configEntry r.cls.toNat 1 r.digest s2)))

/-- OVL_REMOVE of a class once it is permitted (R477, R485, R486, R489). -/
def ovlRemoved (cls : Nat) (s : State) : Nat × State :=
  if cls = 0 ∨ 8 < cls then (eFormat, s)
  else if cls = 7 then (eRange, s)
  else if cls ≤ 3 then (eState, s)
  else if cls = 4 ∧ s.hitch.list.any (fun h => h.state != .closed && h.state != .aborted) then (eHitchState, s)
  else
    match overlayIn s cls 0 with
    | none => (sOk, s)
    | some o => (sOk, resumeConfig (leaveOverlay o (tellConfig 2 cls 0xFFFF o.digest s)))

/-- Who applies and removes a class (Table 20.4; 02 Table 2.5). HITCH is a quorum act. -/
def mayApply (cls : Nat) (p : Principal) : Bool :=
  if cls = 8 then isOperator p else if cls = 6 then isCustOper p else isCustodian p

/-- A quorum act that ends with a status only, its Quorum act entry in the shelf chain when it was performed. -/
def actStatus (t : Target) (q : QCtx) (r : Nat × State) : State :=
  if r.1 = sOk then
    let s1 := touch t r.2
    qReply q sOk [] (quorumDone q shelfChain (targetStamp s1 t) s1)
  else qReply q r.1 [] r.2

/-- The act of a HITCH overlay's application. -/
def actOvlApply (r : OvlRec) (q : QCtx) (s : State) : State := actStatus (.overlay r.cls.toNat) q (ovlApplied r s)

/-- The act of a HITCH overlay's removal. -/
def actOvlRemove (cls : Byte) (q : QCtx) (s : State) : State := actStatus (.overlay cls.toNat) q (ovlRemoved cls.toNat s)

/-- OVL_APPLY (R477, R481 to R488). -/
def execOvlApply (c : Call) (via : Via) (r : OvlRec) (s : State) : Host.Outcome State Fault Refusal :=
  .next (if r.cls = 4 then quorumCmd c via (.ovlApply r) (actOvlApply r) s
    else mailboxCmd c 0x0601 .nothing (mayApply r.cls.toNat) (fun _ s =>
      let a := ovlApplied r s
      reply c 0x0601 a.1 [] a.2) s)

/-- OVL_REMOVE (R486, R489). -/
def execOvlRemove (c : Call) (via : Via) (cls : Byte) (s : State) : Host.Outcome State Fault Refusal :=
  .next (if cls = 4 then quorumCmd c via (.ovlRemove cls) (actOvlRemove cls) s
    else mailboxCmd c 0x0602 .nothing (mayApply cls.toNat) (fun _ s =>
      let a := ovlRemoved cls.toNat s
      reply c 0x0602 a.1 [] a.2) s)

/-- REBUILD_SAFE_EXPIRY: REBUILD-SAFE leaves force at its application plus its EXPIRY, once the updates begun have retired (R489; 03 R82). -/
def execRebuildSafeExpiry (s : State) : Host.Outcome State Fault Refusal :=
  match overlayIn s 6 0 with
  | none => .next s
  | some o =>
    let life := (o.items.findSome? (fun i => match i with
      | .expiry n => some n.toNat
      | _ => none)).getD 0
    .next (if s.layers.removing.isNone && confirmedShelf s (o.since + life * secU) then paramEffects s (removeRebuildSafe s) else s)

/-! ## The base image (R478, R479) -/

/-- The form of a base image (Table 20.1). -/
def imageForm (b : BaseImage) : Bool :=
  b.version == 1 && within 1 3 b.svcClass.toNat && decide (b.count.toNat ≤ 3072) && b.count.toNat == b.entries.length &&
  b.length.toNat == 64 + 16 * b.count.toNat

/-- What refuses a base image (R478, R479, in the class order of 05 R125). -/
def imageRefusal_ (s : State) (b : BaseImage) : Option Nat :=
  if !imageForm b then some eFormat
  else if b.rsv ≠ 0 then some eReserved
  else if b.shelf ≠ s.boot.shelfId ∨ !b.releaseOk then some eRange
  else
    let left := baseLayer b.entries s
    match checkSet .base s left (fun a => baseWord (baseLayer [] s) a (resetWord a)) b.entries with
    | some (st, _) => some st
    | none =>
      if b.generation ≤ s.layers.generation then some eState
      else if !quotasFit s s.layers.service left.layers.reservePct (s.obj.tenants.map (fun t => t.quota.byteQuota.toNat)) then some eLimit
      else none

/-- An accepted image takes force at one instant (R478). -/
def placeImage (b : BaseImage) (s : State) : State :=
  let s1 := baseLayer b.entries s
  paramEffects s { s1 with layers := { s1.layers with generation := b.generation, baseDigest := b.digest, baseClass := b.svcClass.toNat } }

/-- BASE_LOAD at its quorum: in the first-use state, after the custodian set is enrolled, it forms the shelf (R478; 24 R542). -/
def baseLoaded (b : BaseImage) (s : State) : Nat × State :=
  match imageRefusal_ s b with
  | some e => (e, s)
  | none =>
    if s.boot.firstUse then
      if s.boot.enrolled && mayForm s then (sOk, formShelf b (placeImage b s)) else (eState, s)
    else (sOk, resumeConfig (configEntry 0 1 b.digest (placeImage b (tellConfig 1 0 0xFFFF b.digest s))))

/-- The act of BASE_LOAD. -/
def actBaseLoad (b : BaseImage) (q : QCtx) (s : State) : State := actStatus .baseImage q (baseLoaded b s)

/-- BASE_LOAD (R478, R479; 24 R542). -/
def execBaseLoad (c : Call) (via : Via) (b : BaseImage) (s : State) : Host.Outcome State Fault Refusal :=
  .next (quorumCmd c via (.baseLoad b) (actBaseLoad b) s)

end Machine
end Sys2Proof
end

