-- ==== Sys2Proof/Machine/Ceremony.lean ====
section
/-!
DEFINITION. The quorum ceremonies: QUORUM_BEGIN, QUORUM_SIGN, QUORUM_STATUS and the expiry of a ceremony (02 R38 to R42; 19 R470).
-/
namespace Sys2Proof
namespace Machine

/-- Ceremonies open at once, shelf-wide (R40). -/
def ceremonyMax : Nat := 16

/-- The opcode names a quorum act: HITCH is the one overlay class that is applied and removed by one (19 R470; 20 Table 20.4). -/
def isQuorumAct : QAct → Bool
  | .bad _ => false
  | .ovlApply r => r.cls == 4
  | .ovlRemove c => c == 4
  | _ => true

/-- The acts that the module's state admits: in the first-use state the enrolment of the custodian set, and the base image by a key of that
set; at a stop in P5 the configuration's own (24 R539, R541, R542). -/
def actAdmitted (s : State) (p : Principal) (a : QAct) : Bool :=
  let enrolled := match p with
    | .custodian k => s.auth.custKeys.contains k
    | _ => false
  if s.boot.firstUse then
    match a with
    | .setChange _ _ _ _ => true
    | .baseLoad _ => enrolled
    | _ => false
  else if s.boot.configStop then
    match a with
    | .ovlApply _ => true
    | .ovlRemove _ => true
    | .baseLoad _ => true
    | _ => false
  else true

/-- The body of the act holds a key in clear, and only a Bryndle connection may carry it (19 R470). -/
def bryndleOnly (x : Conn) : Bool :=
  match x.path with
  | .bryndle _ => true
  | _ => false

/-- The refusal of class 0x01 that the body of an act meets, which its ceremony is not begun with (00 R6; DEDUCED, log entry 120). -/
def bodyRefusal (s : State) (a : QAct) : Option Nat :=
  (match a with
   | .setChange k n keys escrow => setRefusal s k.toNat n.toNat keys escrow
   | .ovlApply r => applyRefusal s r
   | .baseLoad b => imageRefusal_ s b
   | _ => none).filter (fun e => decide (e < 0x0200))

/-- What refuses QUORUM_BEGIN (R40; 19 Table 19.3, R470; 05 R127). The capsule of a RELEASE is checked whole. -/
def beginRefusal (s : State) (x : Conn) (a : QAct) : Option Nat :=
  let clear := match a with
    | .escrowImport _ _ _ => !bryndleOnly x
    | _ => false
  if !isQuorumAct a then some eOpcode
  else if (bodyRefusal s a).isSome then bodyRefusal s a
  else if clear then some eDenied
  else if !actAdmitted s x.who a then some eState
  else
    match a with
    | .uopRelease cap b =>
      ((relRefusal s cap b).map Prod.fst).or (if ceremonyMax ≤ s.auth.ceremonies.length then some eCeremonyFull else none)
    | _ => if ceremonyMax ≤ s.auth.ceremonies.length then some eCeremonyFull else none

/-- A new ceremony of an act: its nonce is drawn, its target's stamp and its expiry are taken now (R39, R40). -/
def newCeremony (a : QAct) (s : State) : Ceremony × State :=
  let (nonce, s1) := drawDigest s
  let expiry := now s + pTsCeremonyWindow s * secU
  let stamp := targetStamp s (actTarget a)
  let stmt := statementFlds (actOp a) (actDigest s a) nonce stamp expiry
  ({ id := Config.sha3 (encodeFlds stmt), opcode := actOp a, act := a, bodyDig := actDigest s a, nonce := nonce, target := actTarget a,
     stamp := stamp, expiry := expiry, signers := [], remote := false,
     ticked := if s.boot.open_ then none else some (mono s + pTsCeremonyWindow s * secU) }, s1)

/-- A signature now comes after a ceremony's expiry; one begun before service opened counts the oscillator (R40; 03 R80, R82). -/
def ceremonyPast (s : State) (m : Ceremony) : Bool :=
  match m.ticked with
  | some t => decide ((t : Int) < (s.time.mono : Int) - s.time.slewed)
  | none => decide (m.expiry < now s)

/-- A ceremony's expiry is confirmed (R40; 03 R80, R82). -/
def ceremonyEnds (s : State) (m : Ceremony) : Bool :=
  match m.ticked with
  | some t => confirmedShelf s (((t : Int) + (s.time.shelf : Int) - ((s.time.mono : Int) - s.time.slewed)).toNat)
  | none => confirmedShelf s m.expiry

/-- The statement of a ceremony (R39). -/
def ceremonyStatement (m : Ceremony) : Flds := statementFlds m.opcode m.bodyDig m.nonce m.stamp m.expiry

/-- QUORUM_BEGIN: the ceremony stands in the vault, and at the partner, before the statement leaves (R39, R42). -/
def execQuorumBegin (c : Call) (act : QAct) (s : State) : Host.Outcome State Fault Refusal :=
  .next (mailboxCmd c 0x0201 .nothing isCustodian (fun x s =>
    match beginRefusal s x act with
    | some e => if e = eNotVisible then replyNotVisible c 0x0201 (nvODelay s) s else reply c 0x0201 e [] s
    | none =>
      let (m, s1) := newCeremony act s
      let s2 := { s1 with auth := { s1.auth with ceremonies := s1.auth.ceremonies ++ [m] } }
      let s3 := tellCeremony m s2
      raiseEvent 0xB80 noInst [(16, 0)] (reply c 0x0201 sOk (ceremonyStatement m) s3)) s)

/-- A completed ceremony that performs no act: the consent to an image, or the token that opens the module, which the k-th signer's
connection receives (02 R60, R63; 19 R470). -/
def endNoAct (a : QAct) (q : QCtx) (s : State) : State :=
  let s1 := raiseEvent 0xB81 noInst [(16, 0)] s
  match a with
  | .fwStage d => qReply q sOk [] { s1 with auth := { s1.auth with fwConsent := s1.auth.fwConsent ++ [d] } }
  | _ =>
    let signed (k : Digest) : Flds := [(32, k.toNat), (4691, Config.sign k (ascii "UAVIK-QUORUM-1" ++ encodeFlds q.stmt))]
    qReply q sOk ([(2, (encodeFlds q.stmt).length), (1, q.signers.length), (5, 0)] ++ q.stmt ++ (q.signers.map signed).flatten) s1

/-- The act of a ceremony, performed whole at the k-th signature (R39; 19 R470). -/
def runAct (a : QAct) (q : QCtx) (s : State) : State :=
  match a with
  | .setChange k n keys escrow => actSetChange k n keys escrow q s
  | .timeAuth k => actTimeAuth k q s
  | .escrowImport e w ok => actEscrowImport e w ok q s
  | .custodyCertify k => actCustodyCertify k q s
  | .tenantErase t k => actTenantErase t k q s
  | .fwStage d => endNoAct (.fwStage d) q s
  | .debugUnlock n => endNoAct (.debugUnlock n) q s
  | .ovlApply r => actOvlApply r q s
  | .ovlRemove k => actOvlRemove k q s
  | .baseLoad b => actBaseLoad b q s
  | .sanitiseStart => actSanitise q s
  | .hitchOpen p => actHitchOpen p q s
  | .hitchClose id => actHitchClose id q s
  | .hitchAbort id => actHitchAbort id q s
  | .uopRelease cap b => actRelease cap b q s
  | .bad _ => s

/-- A key may sign a ceremony: it is a custodian key in force, or in the first-use form one that the act names (R39; 24 R541). -/
def maySign (s : State) (m : Ceremony) (k : Digest) : Bool :=
  s.auth.custKeys.contains k ||
  (match m.act with
   | .setChange _ _ keys _ => firstForm s && keys.contains k
   | _ => false)

/-- A valid signature is counted once per key, kept in the vault and told to the partner (R39, R42). -/
def countSignature (m : Ceremony) (k : Digest) (s : State) : Ceremony × State :=
  if m.signers.contains k then (m, s)
  else
    let m1 := { m with signers := m.signers ++ [k] }
    (m1, pairState 9 [(32, m.id.toNat), (32, k.toNat)]
      { s with auth := { s.auth with ceremonies := mapIf (fun x => x.id == m.id) (fun _ => m1) s.auth.ceremonies } })

/-- Answers a signature, on the connection that brought it or at the partner that forwarded it (R42). -/
def signReply (c : Call) (id key : Digest) (status : Nat) (body : Flds) (s : State) : State :=
  if c.mbx = matePlace then answerMate id key status body s else reply c 0x0202 status body s

/-- The module that holds a ceremony takes a valid signature: it counts, a repeated one not again, and once the quorum of the set in force is
reached the act is performed (R38, R39). -/
def takeSignature (c : Call) (m : Ceremony) (k : Digest) (s : State) : State :=
  if !maySign s m k then signReply c m.id k eQuorum [] s
  else
    let (m1, s1) := countSignature m k s
    if quorumReached s1 m1 then endCeremony c 0x0202 m1 (runAct m1.act) s1
    else signReply c m.id k sOk [(1, (countedSigners s1 m1).length), (7, 0)] s1

/-- A signature for a ceremony that the partner holds goes there, and the tag is held for its answer (R42). -/
def forwardSignature (c : Call) (m : Ceremony) (k : Digest) (s : State) : State :=
  pairState 9 [(32, m.id.toNat), (32, k.toNat)]
    { holdTag c s with auth := { (holdTag c s).auth with asked := s.auth.asked ++ [(m.id, k, c)] } }

/-- QUORUM_SIGN: the signature counts, and the k-th performs the act. A ceremony that the partner holds takes its signature there (R39 to
R42). -/
def execQuorumSign (c : Call) (q : QSign) (s : State) : Host.Outcome State Fault Refusal :=
  .next (mailboxCmd c 0x0202 .nothing isCustodian (fun _ s =>
    match ceremonyAt s q.statement with
    | none => reply c 0x0202 eQuorum [] s
    | some m =>
      if ceremonyPast s m || !maySign s m q.key then reply c 0x0202 eQuorum [] s
      else if !q.sigOk then reply c 0x0202 eSignature [] s
      else if m.remote then forwardSignature c m q.key s
      else takeSignature c m q.key s) s)

/-- The partner's answer to a signature this module forwarded goes to the connection that brought it (R42). -/
def mateAnswer (id key : Digest) (status : Nat) (body : Flds) (s : State) : State :=
  match s.auth.asked.find? (fun x => x.1 == id && x.2.1 == key) with
  | none => s
  | some x =>
    let s1 := { s with auth := { s.auth with asked := s.auth.asked.erase x } }
    if (connAt s1 x.2.2.mbx).isSome then freeTag x.2.2.mbx x.2.2.tag (reply x.2.2 0x0202 status body s1) else s1

/-- The survivor of a takeover holds every ceremony, and takes the signatures it had forwarded (R42). -/
def takeCeremonies (s : State) : State :=
  s.auth.asked.foldl (fun acc x => match ceremonyAt acc x.1 with
    | some m => takeSignature x.2.2 m x.2.1 (freeTag x.2.2.mbx x.2.2.tag acc)
    | none => reply x.2.2 0x0202 eQuorum [] (freeTag x.2.2.mbx x.2.2.tag acc))
    { s with auth := { s.auth with asked := [], ceremonies := s.auth.ceremonies.map (fun c => { c with remote := false }) } }

/-- QUORUM_STATUS: the open ceremonies (19 Table 19.3). -/
def execQuorumStatus (c : Call) (s : State) : Host.Outcome State Fault Refusal :=
  .next (mailboxCmd c 0x0203 .nothing isCustodian (fun _ s =>
    reply c 0x0203 sOk ((s.auth.ceremonies.map (fun m =>
      [(32, m.id.toNat), (2, m.opcode), (1, (countedSigners s m).length), (5, 0)] ++ shelfFlds m.expiry)).flatten) s) s)

/-- CEREMONY_EXPIRY: a ceremony whose expiry is confirmed closes (R40, R42). -/
def execCeremonyExpiry (statement : Digest) (s : State) : Host.Outcome State Fault Refusal :=
  match ceremonyAt s statement with
  | none => .next s
  | some m => .next (if ceremonyEnds s m && !m.remote then raiseEvent 0xB82 noInst [(16, 0)] (closeCeremony m.id s) else s)

end Machine
end Sys2Proof
end

