-- ==== Sys2Proof/Machine/Events.lean ====
section
/-!
DEFINITION. Delivery of events: EVT_READ and the PLDM path to the management controller (23 R527 to R532), and the SPDM responder (02 R65).
-/
namespace Sys2Proof
namespace Machine

/-- An event record as it is delivered, 64 bytes (Table 23.2). -/
def eventFlds (r : EvRecord) : Flds :=
  [(2, r.event), (1, r.kind), (1, if 1 < r.count then 1 else 0), (2, r.inst), (2, r.count), (4, r.seq), (4, 0)] ++ shelfFlds r.first ++ [(4, 0)] ++
    shelfFlds r.last ++ [(4, 0)] ++ r.detail ++ [(16 - sizeFlds r.detail, 0)]

/-- A ring's records in order of sequence, the overflow record in its place (R529). -/
def ringOrdered (r : EvRing) : List EvRecord :=
  match r.overflow with
  | none => r.records
  | some o => r.records.filter (fun x => decide (x.seq < o.seq)) ++ [o] ++ r.records.filter (fun x => decide (o.seq < x.seq))

/-- The records that one EVT_READ returns: the oldest unread of admitted groups; group 0 is always admitted (R532). -/
def readable (r : EvRing) (mask max_ : Nat) : List EvRecord :=
  ((ringOrdered r).filter (fun x => !x.read && (x.event / 0x100 == 0 || mask.testBit (x.event / 0x100)))).take max_

/-- The ring after an EVT_READ: records up to the acknowledged sequence are freed, those returned are read, and an overflow record returned
is gone (R529, R532). -/
def ringRead (r : EvRing) (ack mask max_ : Nat) : EvRing :=
  let r1 : EvRing := { r with records := r.records.filter (fun x => decide (ack < x.seq)), overflow := r.overflow.filter (fun x => decide (ack < x.seq)) }
  let out := readable r1 mask max_
  { r1 with records := mapIf (fun x => out.any (fun y => y.seq == x.seq)) (fun x => { x with read := true }) r1.records,
            overflow := r1.overflow.filter (fun x => !out.any (fun y => y.seq == x.seq)),
            returned := (out.map (fun x => x.seq)).foldl max r1.returned }

/-- The records it returns. -/
def ringReturned (r : EvRing) (ack mask max_ : Nat) : List EvRecord :=
  readable { r with records := r.records.filter (fun x => decide (ack < x.seq)), overflow := r.overflow.filter (fun x => decide (ack < x.seq)) } mask max_

/-- Those who read their own ring: custodian, tenant, auditor, operator (02 Table 2.5). -/
def readsRing : Principal → Bool
  | .operator _ _ => true
  | p => readsLanyard p

/-- EVT_READ (R532). -/
def execEvtRead (c : Call) (ack : Word32) (maxRec : Word16) (mask : Word16) (s : State) : Host.Outcome State Fault Refusal :=
  .next (mailboxCmd c 0x0A02 .nothing readsRing (fun _ s =>
    match s.ev.rings.find? (fun r => r.mbx == some c.mbx) with
    | none => reply c 0x0A02 sOk [] s
    | some r =>
      if maxRec.toNat = 0 ∨ 1024 < maxRec.toNat ∨ r.returned < ack.toNat then reply c 0x0A02 eRange [] s
      else
        let out := ringReturned r ack.toNat mask.toNat maxRec.toNat
        let r1 := ringRead r ack.toNat mask.toNat maxRec.toNat
        reply c 0x0A02 sOk (out.map eventFlds).flatten
          { s with ev := { s.ev with rings := mapIf (fun x => x.mbx == some c.mbx) (fun _ => r1) s.ev.rings } }) s)

/-! ## PLDM (R531) -/

/-- Changes the ring of the management controller. -/
def mapMcRing (f : EvRing → EvRing) (s : State) : State := { s with ev := { s.ev with rings := mapIf (fun r => r.mbx.isNone) f s.ev.rings } }

/-- A record leaves the ring of the management controller. -/
def dropMcRecord (seq : Nat) (s : State) : State :=
  mapMcRing (fun r => { r with records := dropIf (fun x => x.seq == seq) r.records, overflow := r.overflow.filter (fun x => x.seq != seq) }) s

/-- A PlatformEventMessage with one record, event class 0xF0 (R531). -/
def platformEvent (x : EvRecord) (s : State) : State := send (msg .pldm .plevent 0x0A x.seq 0 ((1, 0xF0) :: eventFlds x)) s

/-- The oldest record goes to the event receiver when none awaits its answer; while EVT_PLDM bit 0 is clear or no receiver is set the records
stay (R531). Its record is read: later occurrences open a new one (R530). -/
def pumpPldm (s : State) : State :=
  if s.ev.receiver.isNone || s.ev.pldm.isSome || pEvtPldm s == 0 || !mbxServed s then s
  else
    match (s.ev.rings.find? (fun r => r.mbx.isNone)).bind (fun r => (ringOrdered r).head?) with
    | none => s
    | some x =>
      let mark (r : EvRing) : EvRing :=
        { r with records := mapIf (fun y => y.seq == x.seq) (fun y => { y with read := true }) r.records,
                 overflow := r.overflow.filter (fun y => y.seq != x.seq),
                 returned := x.seq }
      let keep (r : EvRing) : EvRing := if r.overflow.any (fun y => y.seq == x.seq) then { mark r with records := { x with read := true } :: r.records } else mark r
      let s1 := mapMcRing keep s
      platformEvent x { s1 with ev := { s1.ev with pldm := some (x.seq, 1, mono s) } }

/-- PLDM_EVENT_RESPONSE: the request is answered, its record leaves the ring, and the next is sent (R531). -/
def execPldmEventResponse (_ok : Bool) (s : State) : Host.Outcome State Fault Refusal :=
  let s0 := wake 1 s
  .next (match s0.ev.pldm with
    | none => s0
    | some (seq, _, _) => pumpPldm (dropMcRecord seq { s0 with ev := { s0.ev with pldm := none } }))

/-- PLDM_EVENT_TIMEOUT: unanswered for 100 ms, a request is retried twice; then its record is dropped from the PLDM path, and EVT_STATUS bit 1
is set (R531). -/
def execPldmEventTimeout (s : State) : Host.Outcome State Fault Refusal :=
  .next (match s.ev.pldm with
    | none => s
    | some (seq, tries, at_) =>
      if !confirmed s at_ (100 * msU) then s
      else
        match (s.ev.rings.find? (fun r => r.mbx.isNone)).bind (fun r => r.records.find? (fun x => x.seq == seq)) with
        | some x =>
          if tries < 3 then platformEvent x { s with ev := { s.ev with pldm := some (seq, tries + 1, mono s) } }
          else pumpPldm (raise stEVT 1 noInst (dropMcRecord seq { s with ev := { s.ev with pldm := none } }))
        | none => pumpPldm { s with ev := { s.ev with pldm := none } })

/-- SET_EVENT_RECEIVER: the receiver is set, or cleared; the request is answered (R531). -/
def execSetEventReceiver (eid : Option Nat) (s : State) : Host.Outcome State Fault Refusal :=
  let s0 := wake 1 s
  .next (if !mbxServed s0 then s0
    else pumpPldm (send (msg .pldm .plevent 0x04 0 0 []) { s0 with ev := { s0.ev with receiver := eid } }))

/-- Readings of so many sensors, each a free value (log entry 2). -/
def readSensors (n : Nat) (s : State) : List Nat × State :=
  (List.range n).foldl (fun acc _ => (acc.1 ++ [(free acc.2).1], (free acc.2).2)) ([], s)

/-- The temperatures go to the operator over PLDM at the end of each window of 60 s: inlet, outlet, SoC, DRAM, the six cages, the hold-up bank
(25 R552; 02 R53; DESIGN CHOICE, log entry 143). -/
def reportTemps (window : Nat) (s : State) : State :=
  if s.layers.windowAt = window || !mbxServed s then s
  else
    let r := readSensors 11 s
    send (msg .pldm .plevent 0x11 0 0 (r.1.map (fun v => (2, v)))) { r.2 with ev := { r.2.ev with temps := r.1 } }

/-! ## SPDM (02 R65) -/

/-- The SPDM responder answers: from the end of P5, and the boot ROM's while the module has halted in P2 to P4 (24 R536, Table 24.1). -/
def spdmServed (s : State) : Bool :=
  mbxServed s || (s.pwr.belay.isNone && (s.boot.halted == some .noImage || s.boot.halted == some .dram || s.boot.halted == some .vault))

/-- An SPDM response; the codes are those of DSP0274 (log entry 35). -/
def spdmReply (code param : Nat) (body : Flds) (s : State) : State := send (msg .spdm .spdm code param 0 body) s

/-- An SPDM ERROR: 0x01 invalid request, 0x04 unexpected request. -/
def spdmError (e : Nat) (s : State) : State := spdmReply 0x7F e [] s

/-- Takes an SPDM request, a wake of Table 22.3, in a stage of the exchange of at least `need`. -/
def spdmTake (need : Nat) (act : State → State) (s : State) : State :=
  let s0 := wake 1 s
  if !spdmServed s0 then s0 else if s0.spdm.stage < need then spdmError 4 s0 else act s0

/-- A stage of the exchange is reached. -/
def spdmStage (n : Nat) (s : State) : State := { s with spdm := { stage := n } }

/-- GET_VERSION: the exchange starts; SPDM 1.3. -/
def execGetVersion (s : State) : Host.Outcome State Fault Refusal :=
  .next (spdmTake 0 (fun s => spdmReply 0x04 0 [(1, 0), (1, 1), (2, 0x1300)] (spdmStage 1 s)) s)

/-- GET_CAPABILITIES: the requests of Table 2.9 and nothing else. -/
def execGetCapabilities (s : State) : Host.Outcome State Fault Refusal :=
  .next (spdmTake 1 (fun s => spdmReply 0x61 0 [(4, Config.spdmField 0x61 0)] (spdmStage 2 s)) s)

/-- NEGOTIATE_ALGORITHMS: ECDSA P-384 and SHA-384 (Table 2.9); a requester that offers either not is refused. -/
def execNegotiateAlgorithms (offersP384 offersSha384 : Bool) (s : State) : Host.Outcome State Fault Refusal :=
  .next (spdmTake 2 (fun s =>
    if offersP384 && offersSha384 then spdmReply 0x63 0 [(4, 0x80), (4, 0x02)] (spdmStage 3 s) else spdmError 1 s) s)

/-- GET_DIGESTS: the digest of the chain of slot 0, the one slot in use. -/
def execGetDigests (s : State) : Host.Outcome State Fault Refusal :=
  .next (spdmTake 3 (fun s => spdmReply 0x01 1 [(48, Config.spdmField 0x01 0)] s) s)

/-- GET_CERTIFICATE: a portion of the chain of slot 0: the Plovaoz root, then the device identity certificate. -/
def execGetCertificate (slot : Byte) (offset length : Word16) (s : State) : Host.Outcome State Fault Refusal :=
  .next (spdmTake 3 (fun s =>
    if slot.toNat = 0 then
      spdmReply 0x02 0 [(2, offset.toNat), (2, length.toNat), (length.toNat, Config.spdmField 0x02 (offset.toNat * 65536 + length.toNat))] s
    else spdmError 1 s) s)

/-- The digest of each overlay in force, then of none (Table 2.10, block 6). -/
def overlayDigests (s : State) : Flds := s.layers.overlays.map (fun o => (48, (Config.sha384Of o.digest).toNat))

/-- A measurement block (Tables 2.9, 2.10): digests are SHA-384. While no firmware image has verified block 3 is zero (24 Table 24.1). Block 8
is the stepping `B1` and then the firmware release in force, both in ASCII (DESIGN CHOICE, log entry 35). -/
def measurement (s : State) (index : Nat) : Flds :=
  if index = 1 ∨ index = 2 then [(48, (Config.bootMeasure index).toNat)]
  else if index = 3 then [(48, if s.boot.halted = some .noImage then 0 else (Config.bootMeasure 3).toNat)]
  else if index = 4 then [(1, s.auth.runningSvn), (1, s.auth.fusedSvn)]
  else if index = 5 then [(48, (Config.sha384Of s.layers.baseDigest).toNat)]
  else if index = 6 then overlayDigests s
  else if index = 7 then [(1, if s.auth.unlocked then 1 else 0)]
  else [(1, 0x42), (1, 0x31), (16, s.auth.release.toNat)]

/-- A block with its index and size; blocks 5 and 6 are measured at P5 (24 Table 24.1). -/
def measurementBlock (s : State) (index : Nat) : Flds :=
  let m := if (index = 5 ∨ index = 6) ∧ !mbxServed s then [] else measurement s index
  [(1, index), (2, sizeFlds m)] ++ m

/-- The message a signed response covers: nonces and what it says. -/
def spdmSigned (code : Nat) (body : Flds) : Flds := [(96, (Config.sign Config.moduleDigest (encodeFlds ((1, code) :: body))) % 2 ^ 768)]

/-- CHALLENGE: the certificate chain's digest, a fresh nonce, the measurement summary and the signature, for slot 0. -/
def execChallenge (slot : Byte) (nonce : Digest) (s : State) : Host.Outcome State Fault Refusal :=
  .next (spdmTake 3 (fun s =>
    if slot.toNat ≠ 0 then spdmError 1 s
    else
      let n := drawDigest s
      let body : Flds := [(48, Config.spdmField 0x01 0), (32, n.1.toNat)] ++ ((List.range 8).map (fun k => measurementBlock s (k + 1))).flatten
      spdmReply 0x03 0 (body ++ spdmSigned 0x03 ((32, nonce.toNat) :: body)) n.2) s)

/-- GET_MEASUREMENTS: index 0 asks for the number of blocks, 255 for all, any other for that block; signed where asked (Table 2.10). -/
def execGetMeasurements (index : Byte) (signed : Bool) (nonce : Digest) (s : State) : Host.Outcome State Fault Refusal :=
  .next (spdmTake 3 (fun s =>
    let i := index.toNat
    if 8 < i ∧ i ≠ 255 then spdmError 1 s
    else
      let blocks := if i = 255 then ((List.range 8).map (fun k => measurementBlock s (k + 1))).flatten
        else if i = 0 then [] else measurementBlock s i
      let n := drawDigest s
      let body := (1, if i = 255 then 8 else if i = 0 then 0 else 1) :: blocks ++ [(32, n.1.toNat)]
      spdmReply 0x60 (if i = 0 then 8 else 0) (body ++ (if signed then spdmSigned 0x60 ((32, nonce.toNat) :: body) else [])) n.2) s)

end Machine
end Sys2Proof
end

