-- ==== Sys2Proof/Machine/Index.lean ====
section
/-!
DEFINITION. The object index and run-ahead (06): ends of walks, flushes, subtree rebuilds.
-/
namespace Sys2Proof
namespace Machine

/-! ## The end of a GET's walk (06 R160 to R163) -/

/-- The header of the GET a walk serves, as far as its completion needs it. -/
def walkHdr (w : Walk) : UopHdr :=
  { version := 1, opcode := 0x10, tag := BitVec.ofNat 8 w.tag, flags := 0, coll := BitVec.ofNat 16 w.coll, nameLen := 0, bodyLen := 32,
    addressing := 2, rsvA := 0, handle := 0, rsvB := 0, mac := w.mac }

/-- The run-ahead is confirmed (06 R161). -/
def confirmedHint (w : Walk) : Bool :=
  match w.hint, w.target with
  | some h, some x =>
    if h.kind = 1 then leafKind x == 1 && (firstExtent x).any (fun e => e.1 % 2 ^ 48 == h.addr && e.2 - 1 == h.len)
    else h.addr != 0 && w.leaf % 2 ^ 48 == h.addr
  | _, _ => false

/-- The strips of a GET's range that its run-ahead did not read. -/
def restStrips (s : State) (w : Walk) (o : Obj) (on : Bool) : List (Nat × Nat × Nat) :=
  let all := if leafKind o = 2 then [] else mediaStrips s (rangeExtents w.body.offset.toNat w.body.desc.len.toNat o.parts)
  let ahead := match w.hint with
    | some h => if on && h.kind == 1 then mediaStrips s [(h.addr + (aheadUnits s w.body h).1, w.ahead)] else []
    | none => []
  all.filter (fun x => !ahead.contains x)

/-- The message of a GET's data: in its payload, or to the host's memory (05 Table 5.5). -/
def getMsg (x : Src) (w : Walk) (o : Obj) : Msg :=
  let data := ((objValue o).drop w.body.offset.toNat).take w.body.desc.len.toNat
  if w.body.desc.kind.toNat = 1 then uopMsg x (walkHdr w) 0 sOk noStamp [(data.length, leValue data)] []
  else uopMsg x (walkHdr w) 0 sOk noStamp [] data

/-- The tenant's confirmed hints rise by one (06 R163). -/
def countHit (t : Nat) (s : State) : State :=
  { s with obj := { s.obj with tenants := mapIf (fun y => y.num == t) (fun y => { y with hits := y.hits + 1 }) s.obj.tenants } }

/-- The inline record of an object has failed its tag in a leaf that passed its own: the object is lost as a whole, with a report of kind 3 and
a Loss entry that name the leaf's segment and row (06 R154). -/
def loseInline (w : Walk) (o : Obj) (s : State) : State :=
  match collAt s w.coll, objAt s w.coll w.mac with
  | some c, some x =>
    if x.lost || x.handle != o.handle then s
    else
      let seg := addrSeg w.leaf
      let row := addrUnit w.leaf / rowUnits (segD s seg)
      let (st, s1) := sequence c.shard s
      let o1 := { x with lost := true }
      let s2 := reenterObj c o1 st (putObj o1 s1)
      let r : LossRec := { kind := 3, tenant := c.tenant, container := c.num, seg := seg, row := row, mac := w.mac, first := 0, length := 0,
                           declared := kstamp s2, lyPos := 0 }
      let (e, s3) := appendEntry c.tenant 0x0017 st [(4, seg), (1, row), (3, 0), (4, 1), (4, 0)] s2
      raiseLost [(c.tenant, c.num)] (fileLosses c.shard [{ r with lyPos := entryPos e }] st s3)
  | _, _ => s

/-- Stage C of a GET (06 Table 6.6): the walk-end update from the entry at its read point, then the refusal, or the reads that remain. -/
def endWalk (w : Walk) (s : State) : State :=
  let o := w.target
  let on := confirmedHint w
  let s1 := { s with idx := { s.idx with walks := dropIf (fun y => y.id == w.id) s.idx.walks } }
  let s2 := walkEnd w.tenant w.coll w.mac o w.leaf s1
  let x := queueSrc s2 w.q w.ingress
  let s3 := if on then countHit w.tenant s2 else s2
  match checkGetBody w.body o s3, o with
  | none, some obj =>
    let held := s3.nextId
    let dest := if w.body.desc.kind.toNat = 3 then some (w.body.desc.key.toNat, w.body.desc.addr.toNat) else none
    let h0 := heldAt (getMsg x w obj) (now s3)
    let h : Held := { h0 with job := some (.get w.coll w.mac), remote := dest, flow := .host w.tenant 1 w.coll }
    let s4 := hold h s3
    let s5 := if on then adoptFaults (.host w.tenant 1 w.coll) (w.hint.any (fun h => h.kind == 2)) held w.faults (adoptReads w.tenant w.id held (fun _ => true) s4) else s4
    let rest := restStrips s5 w obj on
    rest.foldl (fun acc y => readStrip held y.1 y.2.1 y.2.2 acc) (chargeDrive w.tenant (rest.length * (65536 + pSchCmdCost s5)) s5)
  | some a, _ => uopRefuse x (walkHdr w) a s3
  | none, none => s3

/-- A walk ends; pages that only it still read become stale (06 R166). -/
def closeWalk (w : Walk) (s : State) : State := releasePages (sweepQuarantine (endWalk w s))

/-- The shard of a walk's collection. -/
def walkShard (s : State) (w : Walk) : Nat := ((collAt s w.coll).map (fun c => c.shard)).getD 0

/-- The leaf that a walk reaches has failed its tag: it is formed from the other strips of its row, or, where they cannot form it, its stripe is
lost and its subtree is rebuilt (06 R171; 08 R227). -/
def leafFailed (w : Walk) (s : State) : State :=
  let seg := addrSeg w.leaf
  let pieces := pagePieces (segD s seg) w.leaf
  pieces.foldl (fun acc x =>
    match (rowAt acc x.1 x.2.1).filter (fun r => r.state == .onMedia) with
    | some r =>
      if (survivors acc r x.2.2.1).length < r.d then declareLost x.1 x.2.1 acc
      else pageAround (.host w.tenant 1 w.coll) r x.2.2.1 (judgeStrip x.1 x.2.1 x.2.2.1 .check acc)
    | none => acc) s

/-- INDEX_WALK_COMPLETE (06 R154, R161, R170, R171): a walk has waited for its partition to be recovered, and waits while it is being rebuilt. A leaf that fails its tag
is rebuilt, and an inline record that fails its own in a leaf that stands is lost with its object, which this GET meets. -/
def execIndexWalkComplete (id : Nat) (found : WalkFound) (s : State) : Host.Outcome State Fault Refusal :=
  match s.idx.walks.find? (fun w => w.id == id) with
  | none => .next s
  | some w =>
    let s := recoverPart (walkShard s w) (macPart w.mac) s
    if (partAt s (walkShard s w) (macPart w.mac)).rebuilding then .next s
    else
      match found with
      | .whole => .next (closeWalk w s)
      | .page =>
        let s1 := if w.leaf = 0 then s else leafFailed w s
        .next (if (partAt s1 (walkShard s1 w) (macPart w.mac)).rebuilding then s1 else closeWalk w s1)
      | .inline_ =>
        match w.target with
        | some o =>
          if leafKind o = 2 then .next (closeWalk { w with target := some { o with lost := true } } (loseInline w o s))
          else .next (closeWalk w s)
        | none => .next (closeWalk w s)

/-! ## Flushes (06 R165) -/

/-- DELTA_FLUSH_AGE: the oldest mutation of a delta has reached IDX_DELTA_AGE (06 R165). -/
def execDeltaFlushAge (shard part : Nat) (s : State) : Host.Outcome State Fault Refusal :=
  match (partAt s shard part).delta with
  | [] => .next s
  | m :: _ => if confirmed s m.at_ (pIdxDeltaAge s * msU) then .next (startFlush shard part s) else .next s

/-- INDEX_FLUSH_COMMIT: the commit record of a flush is on media (06 R165, step 3). -/
def execIndexFlushCommit (shard part : Nat) (s : State) : Host.Outcome State Fault Refusal :=
  match (partAt s shard part).flushing.filter (fun _ => !(partAt s shard part).stale) with
  | some f => if recOnMedia s f.commit then .next (endFlush shard part f s) else .next s
  | none => .next s

/-! ## Subtree rebuild (06 R171) -/

/-- SUBTREE_REBUILD_COMPLETE: the lost pages of a partition have been rebuilt from the records in the log; they are written anew, and
the walks that waited resume (06 R171). -/
def execSubtreeRebuildComplete (shard part : Nat) (s : State) : Host.Outcome State Fault Refusal :=
  let p := partAt s shard part
  if !p.rebuilding then .next s
  else
    let gone (a : Nat) : Bool := a != 0 && (List.range 4).any (fun i =>
      (rowAt s (addrSeg a) ((addrUnit a + i) / rowUnits (segD s (addrSeg a)))).any (fun w => w.state == .lost))
    let leaf (l : Leaf) : Leaf := if gone l.addr then l.dirty l.items else l
    let lost := (treePages p.leaves p.inner).filter gone
    let s1 := killRecs lost (putPart { p with rebuilding := false, leaves := p.leaves.map leaf, inner := p.inner.filter (fun x => !gone x.addr) } s)
    .next (raise stIDX 1 noInst (flushNow shard part s1))

end Machine
end Sys2Proof
end

