-- ==== Sys2Proof/Machine/Log.lean ====
section
/-!
DEFINITION. The log, stripes and the splice log (07): the stripe close delay, drive completions, log checkpoints, relocation,
freeing of segments and read-modify-write.
-/
namespace Sys2Proof
namespace Machine

/-- STRIPE_CLOSE_DELAY (R184): STR_CLOSE_DELAY after a stripe's first unit was filled, the rest is fill and the stripe is
written. -/
def execStripeCloseDelay (shard d : Nat) (reloc : Bool) (s : State) : Host.Outcome State Fault Refusal :=
  match headOf s shard d reloc with
  | some h =>
    match h.since with
    | some t => .next (if confirmed s t (pStrCloseDelay s * usU) then closeRow h s else s)
    | none => .next s
  | none => .next s

/-- DRIVE_COMPLETION (17 R425, R426, R428): a completion entry of an outstanding command ends it; any other is discarded as
late. One stamped after the command's deadline is late too, whichever was evaluated first, and its command ends as timed out (R426; 03 R82, R84). The tag is the command identifier: 14 bits of tag below 2 bits of generation. `checks` is what the checks of the range it serves give (08
R218, R557). -/
def execDriveCompletion (slot : Fin 24) (queue tag sct sc : Nat) (checks : ReadChecks) (s : State) : Host.Outcome State Fault Refusal :=
  match cmdAt (portAt s slot) queue (tag % 16384) (tag / 16384) with
  | some c => .next (if late s c.issued c.timeout then lateCompletion slot (timeoutCmd slot c s) else completeCmd slot c sct sc checks s)
  | none => .next (lateCompletion slot s)

/-- LOG_CHECKPOINT (R196): STR_CKPT_INTERVAL after its last checkpoint, an owned shard writes one to its host head. While its drives are
powered down the interval is suspended (22 R521). -/
def execLogCheckpoint (shard : Nat) (s : State) : Host.Outcome State Fault Refusal :=
  let x := shardAt s shard
  .next (if x.owned && x.ready && !s.pst.drivesDown && confirmed s x.ckptAt (pStrCkptInterval s * secU) then shardCheckpoint shard s else s)

/-- Relocation applies STR_RELOC_MIN_STALE only while free segments are at or above STR_FREE_LOW (Table 7.4). -/
def staleEnough (s : State) (g : Segment) : Bool :=
  freeBelow s (pStrFreeLow s) || decide (pStrRelocMinStale s * segUnits g.d ≤ g.stale * 100)

/-- The better of two segments: the greater stale fraction, then the older (R191). -/
def staler (a b : Segment) : Segment :=
  let x := a.stale * segUnits b.d
  let y := b.stale * segUnits a.d
  if y < x then a else if x < y then b else if a.order ≤ b.order then a else b

/-- A live record that relocation can move: not one with a unit in a lost row, and not a page that only walks still read (R191; 06 R166; 08
R227). -/
def movable (s : State) (r : LogRec) : Bool :=
  let d := segD s (addrSeg r.addr)
  r.live && !((List.range ((addrUnit r.addr + r.units - 1) / rowUnits d + 1 - addrUnit r.addr / rowUnits d)).any (fun i =>
    (rowAt s (addrSeg r.addr) (addrUnit r.addr / rowUnits d + i)).any (fun w => w.state == .lost))) &&
  (match pageOf s r.kind with
   | some (sh, num) => !((partAt s sh num).superseded.any (fun x => x.1 == r.addr))
   | none => true)

/-- The live records of a segment that relocation can move. -/
def segMovable (s : State) (seg : Nat) : List LogRec := s.log.recs.filter (fun r => addrSeg r.addr == seg && movable s r)

/-- The segment that relocation takes: a RELOCATING one with records left to move, a FULL one queued for repair, else the stalest FULL one
(R191), and never the one under rebuild (08 R222). -/
def relocPick (s : State) : Option Segment :=
  let full := s.log.segs.filter (fun g => g.state == .full && s.mem.rebuildSeg != some g.num)
  match s.log.segs.find? (fun g => g.state == .relocating && !(segMovable s g.num).isEmpty) with
  | some g => some g
  | none =>
    match s.log.relocQ.filterMap (fun n => full.find? (fun g => g.num == n)) with
    | g :: _ => some g
    | [] =>
      match full.filter (fun g => staleEnough s g && decide (0 < g.stale)) with
      | [] => none
      | g :: gs => some (gs.foldl staler g)

/-- The strip reads of relocation leave as drive commands; the records they return are those of the log (log entry 11). -/
def relocReads (r : LogRec) (d : Nat) (s : State) : State :=
  (extentStrips d r.addr r.units).foldl (fun acc x =>
    match (rowAt acc x.1 x.2.1).filter (fun w => w.state == .onMedia) with
    | some w =>
      match stripMember acc w x.2.2 with
      | some m => (issueFlow m .relocation (.rowRead x.1 x.2.1 x.2.2) 2 (rowLba acc x.1 x.2.1) 16 acc).2
      | none => acc
    | none => acc) s

/-- A FULL segment becomes RELOCATING; the stamp of its selection stands for that of its last record moved where it holds none (R191, R192).
-/
def startReloc (g : Segment) (s : State) : State :=
  if g.state == .relocating then s
  else
    let (st, s1) := sequence g.shard s
    segEntry g.shard g.num 3 (mapSeg g.num (fun x => { x with state := .relocating, movedAt := some st })
      { s1 with log := { s1.log with relocQ := s1.log.relocQ.filter (fun n => n != g.num) } })

/-- RELOCATION_SELECT (R191): the segment chosen becomes RELOCATING and its live records move to the relocation head. -/
def execRelocationSelect (s : State) : Host.Outcome State Fault Refusal :=
  match relocPick s with
  | none => .next s
  | some g =>
    let s1 := startReloc g s
    let live := segMovable s1 g.num
    .next (moveAll g.shard g.d true live (live.foldl (fun acc r => relocReads r g.d acc) s1)).2

/-- A held read or a walk still reads a segment (06 R166). -/
def segRead (s : State) (seg : Nat) : Bool :=
  allSlots.any (fun n => (portAt s n).cmds.any (fun c => match c.purpose with
    | .hostRead _ g _ _ => g == seg
    | .walkRead _ g _ _ => g == seg
    | .rowRead g _ _ => g == seg
    | .pageRead g _ _ => g == seg
    | _ => false)) ||
  s.idx.walks.any (fun w => w.target.any (fun o => o.parts.any (fun p => p.extents.any (fun x => addrSeg x.1 == seg))))

/-- A splice-log entry that has not retired names a segment (R192). -/
def spliceNames (s : State) (seg : Nat) : Bool := s.log.splice.any (fun e => !e.retired && (e.seg == seg || e.seg2 == seg))

/-- The four conditions of R192. -/
def freeable (s : State) (g : Segment) : Bool :=
  g.state == .relocating && !(s.log.recs.any (fun r => r.live && addrSeg r.addr == g.num)) && !segRead s g.num && !spliceNames s g.num &&
  g.movedAt.all (fun st => st.lt (shardAt s g.shard).ckpt)

/-- A segment that a tenant sanitise purges has been freed: its progress, and its end with the last (04 R116). -/
def sanitiseFreed (seg : Nat) (s : State) : State :=
  let upd (x : TenantSanitise) : TenantSanitise :=
    let left := x.segs.filter (fun n => n != seg)
    { x with segs := left, progress := (x.total - left.length) * 65536 / max 1 x.total - (if left.isEmpty then 1 else 0),
             done := x.done || left.isEmpty }
  { s with block := { s.block with sanitises := mapIf (fun x => x.segs.contains seg && !x.failed) upd s.block.sanitises } }

/-- SEGMENT_FREE (R192): the range is deallocated on every member and the segment returns to its pool. -/
def execSegmentFree (seg : Nat) (s : State) : Host.Outcome State Fault Refusal :=
  match segAt s seg with
  | none => .next s
  | some g =>
    if !freeable s g then .next s
    else
      let s1 := (descriptorSlots s).foldl (fun acc m =>
        (issueDrive m (.deallocate seg) 9 (rowLba acc seg 0) 2048 acc).2) s
      let s1 := putShard { shardAt s1 g.shard with freed := (shardAt s1 g.shard).freed ++ [seg] } s1
      let s2 := sanitiseFreed seg (segEntry g.shard seg 0 s1)
      .next { s2 with log := { s2.log with segs := dropIf (fun x => x.num == seg) s2.log.segs,
                                           recs := dropIf (fun r => addrSeg r.addr == seg) s2.log.recs,
                                           rows := dropIf (fun r => r.seg == seg) s2.log.rows } }

/-- RMW_UPDATE (R208, R209): the row is locked, its images are formed and their intent is written; the changed ranges follow
once the intent is on media and mirrored. -/
def execRmwUpdate (seg row strip first : Nat) (data : Bytes) (s : State) : Host.Outcome State Fault Refusal :=
  .next (settle (startRmw seg row strip first data s))

/-- RMW_RETIRE (R209 step 6): when all writes have completed, the intent retires and the row unlocks; a REBUILD-SAFE removal
that waited takes effect with the last (20 R489). -/
def execRmwRetire (seg row : Nat) (s : State) : Host.Outcome State Fault Refusal :=
  match s.log.rmws.find? (fun m => m.seg == seg && m.row == row) with
  | none => .next s
  | some m =>
    if !m.issued || !m.writes.isEmpty then .next s
    else
      let hit (e : SpliceEntry) : Bool := e.shard == m.shard && e.seq == m.intent
      let s1 := { s with log := { s.log with splice := mapIf hit (fun e => { e with retired := true }) s.log.splice,
                                             rmws := dropIf (fun x => x.seg == seg && x.row == row) s.log.rmws } }
      let s2 := mapRow seg row (fun x => { rmwRow s1 x m.strip m.first m.count with locked := false }) (retireShard m.shard s1)
      .next (finishRemoval (raise stSTR 6 noInst s2))

end Machine
end Sys2Proof
end

