-- ==== Sys2Proof/Machine/Mailbox.lean ====
section
/-!
DEFINITION. Mailbox rings, connections on MCTP and the endpoint, and the identity record (19 R463 to R471; 17 R434).
-/
namespace Sys2Proof
namespace Machine

/-! ## Rings (R465, R466) -/

/-- The opcodes of Table 19.3. -/
def catalogue : List Nat :=
  [0x0001, 0x0002, 0x0003, 0x0101, 0x0102, 0x0103, 0x0201, 0x0202, 0x0203, 0x0204, 0x0205, 0x0206, 0x0207, 0x0301, 0x0302, 0x0303, 0x0304,
   0x0305, 0x0306, 0x0307, 0x0401, 0x0402, 0x0501, 0x0502, 0x0503, 0x0504, 0x0601, 0x0602, 0x0603, 0x0701, 0x0702, 0x0703, 0x0704, 0x0705,
   0x0706, 0x0801, 0x0802, 0x0803, 0x0804, 0x0901, 0x0902, 0x0903, 0x0904, 0x0A01, 0x0A02, 0x0A03]

/-- A BAR0 write to a mailbox not bound to the endpoint is dropped: SEP_DROPPED, SEP_STATUS bit 1 (17 R434). -/
def dropBar (s : State) : State := raise stSEP 1 noInst (bumpFigure 0x07000014 1 s)

/-- A mailbox connection closes with a status; over Bryndle and the tether its session closes with it (R464, R466). -/
def breakConn (code : Nat) (x : Conn) (s : State) : State :=
  match x.path with
  | .bryndle n | .tether n => closeCtx code n s
  | .mctp | .endpoint => closeConn x.mbx (send (msg (.mbx x.mbx) .mailbox 0 0 code []) s)

/-- The path of a mailbox that has no connection: the endpoint where it is bound to it, MCTP for the others below 16 (Table 19.1). -/
def barePath (s : State) (m : Nat) : Option MbxPath :=
  if onEndpoint s m then some .endpoint else if m < 16 then some .mctp else none

/-- A message is well formed: as many entries as its length needs, 256 at most (R465). -/
def wholeMessage (entries length : Nat) (sequenceOk : Bool) : Bool :=
  sequenceOk && entries == max 1 (ceilDiv length 240) && decide (entries ≤ 256)

/-- The entries that stand in a request ring. -/
def ringUsed (r : Ring) : Nat := (r.ready.map (fun x => x.2)).sum

/-- A tag of a mailbox is held: its request stands in the ring, or its response has not been placed (R466). -/
def tagHeld (s : State) (m tag : Nat) : Bool :=
  (ringAt s m).ready.any (fun x => x.1 == tag) || (connAt s m).any (fun x => x.tags.contains tag)

/-- A request has arrived whole: it stands in its ring until it is taken; one whose tag is held or out of range, or whose opcode is outside the
catalogue, is answered at once (R465, R466, R469). -/
def requestIn (m tag opcode entries : Nat) (s : State) : State :=
  let r := ringAt s m
  let refused (code : Nat) : State :=
    sendMbx m (msg (.mbx m) .mailbox opcode tag code [])
      (putRing { r with reqTail := r.reqTail + entries, reqHead := r.reqHead + entries } s)
  if tagHeld s m tag || 64 ≤ tag then refused eTag
  else if catalogue.contains opcode then
    putRing { r with reqTail := r.reqTail + entries, ready := r.ready ++ [(tag, entries)] } s
  else refused eOpcode

/-- MAILBOX_DOORBELL: a message's last entry becomes available. A broken sequence, or an endpoint tail more than 256 entries ahead,
closes the connection with E_FORMAT; a full ring on MCTP or Bryndle answers E_RING_FULL (R465, R466; 17 R434). -/
def execMailboxDoorbell (mbx tag : Nat) (endpoint : Bool) (opcode : Word16) (entries length : Nat) (sequenceOk : Bool) (tail : Nat)
    (s : State) : Host.Outcome State Fault Refusal :=
  if 64 ≤ mbx then .next s
  else if endpoint && !onEndpoint s mbx then .next (dropBar s)
  else if !endpoint && onEndpoint s mbx then .next s
  else
    let s0 := if !endpoint && (connAt s mbx).all (fun x => x.path == .mctp) then wake 1 s else s
    if !mbxServed s0 then .next s0
    else
      let r := ringAt s0 mbx
      let conn := connAt s0 mbx
      if !wholeMessage entries length sequenceOk || (endpoint && decide (r.reqHead + 256 < tail)) then
        .next (conn.elim s0 (fun x => breakConn eFormat x s0))
      else if !endpoint && decide (256 < ringUsed r + entries) then
        .next (sendMbx mbx (msg (.mbx mbx) .mailbox opcode.toNat tag eRingFull []) s0)
      else
        .next (requestIn mbx tag opcode.toNat entries (conn.elim s0 (fun x => putConn { x with lastReq := mono s0 } s0)))

/-- RESPONSE_HEAD_WRITE: room in the response ring, which further entries fill; a head beyond the tail moves nothing (R465). -/
def execResponseHeadWrite (mbx head : Nat) (s : State) : Host.Outcome State Fault Refusal :=
  if 64 ≤ mbx then .next s
  else if !onEndpoint s mbx then .next (dropBar s)
  else
    let r := ringAt s mbx
    if r.rspHead ≤ head ∧ head ≤ r.rspTail then .next (fillRing mbx (putRing { r with rspHead := head } s)) else .next s

/-! ## Connections (R464) -/

/-- MAILBOX_IDLE_TIMEOUT: an MCTP or endpoint connection with no request for 600 s closes (R464). -/
def execMailboxIdleTimeout (mbx : Nat) (s : State) : Host.Outcome State Fault Refusal :=
  .next (match connAt s mbx with
    | some x => if (x.path == .mctp || x.path == .endpoint) && confirmed s x.lastReq (600 * secU) then closeConn mbx s else s
    | none => s)

/-- Answers a request made before a connection is open. -/
def bareReply (m tag op status : Nat) (body : Flds) (s : State) : State := sendMbx m (msg (.mbx m) .mailbox op tag status body) s

/-- MBX_CHALLENGE: a nonce of the DRBG for the next MBX_OPEN; on an open connection it is refused (R464, R470; 02 R37). A reserved field
that is not zero is E_RESERVED (Table 19.2; 00 R10). -/
def execMbxChallenge (mbx tag : Nat) (rsv : Word64) (s : State) : Host.Outcome State Fault Refusal :=
  let s0 := takeRequest mbx tag s
  .next (if !mbxServed s || (barePath s mbx).isNone then s
    else if s.block.shelfSan.isSome then bareReply mbx tag 0x0001 eState [] s0
    else if rsv != 0 then bareReply mbx tag 0x0001 eReserved [] s0
    else if (connAt s mbx).isSome then bareReply mbx tag 0x0001 eDenied [] s0
    else
      let (n, s1) := drawDigest s0
      bareReply mbx tag 0x0001 sOk [(32, n.toNat)]
        { s1 with mbx := { s1.mbx with nonces := (mbx, n) :: s1.mbx.nonces.filter (fun x => x.1 != mbx) } })

/-- The principal of an MBX_OPEN: kind 4 a custodian key, any key before the first set is enrolled; kind 5 an operator grant; kind 6 an
auditor grant, in the first-use state (R464, Table 19.3; 24 R540, R541). -/
def openWho (s : State) (kind : Nat) (key : Digest) (grant : Option GrantRec) : Option Principal :=
  match kind, grant with
  | 4, _ => if s.auth.custKeys.contains key || (s.boot.firstUse && !s.boot.enrolled) then some (.custodian key) else none
  | 5, some g => if g.kind = 4 then (credential s 2 key (some g)).filter (grantOk s) else none
  | 6, some g => if g.kind = 3 ∧ s.boot.firstUse then (credential s 2 key (some g)).filter (grantOk s) else none
  | _, _ => none

/-- Opens the connection of a mailbox with its event ring. -/
def openBare (mbx : Nat) (path : MbxPath) (who : Principal) (key nonce : Digest) (s : State) : State :=
  let k : Conn := { mbx := mbx, path := path, who := who, key := key, nonce := nonce, counter := 0, lastReq := mono s, tags := [],
                    unanchored := !anchored s }
  let r : EvRing := { mbx := some mbx, records := [], overflow := none, nextSeq := 0, returned := 0 }
  putConn k { s with ev := { s.ev with rings := dropIf (fun x => x.mbx == some mbx) s.ev.rings ++ [r] },
                     mbx := { s.mbx with nonces := s.mbx.nonces.filter (fun x => x.1 != mbx) } }

/-- MBX_OPEN: the signature covers the nonce of the last MBX_CHALLENGE; one principal holds two connections (R464, R467). -/
def execMbxOpen (mbx tag : Nat) (rsv : Word64) (kind : Byte) (key : Digest) (grant : Option GrantRec) (sigOk : Bool) (s : State) :
    Host.Outcome State Fault Refusal :=
  let s0 := takeRequest mbx tag s
  let no (e : Nat) : State := bareReply mbx tag 0x0002 e [] s0
  .next (match barePath s mbx with
    | none => s
    | some path =>
      if !mbxServed s then s
      else if s.block.shelfSan.isSome then no eState
      else if rsv != 0 then no eReserved
      else if !(kind = 4 ∨ kind = 5 ∨ kind = 6) then no eFormat
      else if (connAt s mbx).isSome then no eDenied
      else
        match s.mbx.nonces.lookup mbx with
        | none => no eDenied
        | some nonce =>
          if !sigOk then no eSignature
          else
            match openWho s kind.toNat key grant with
            | none => no eDenied
            | some who =>
              if 2 ≤ (s.mbx.conns.filter (fun c => samePeer c.who who)).length then no eMailboxFull
              else bareReply mbx tag 0x0002 sOk [] (openBare mbx path who key nonce s0))

/-- MBX_CLOSE: the response, then the connection ends; over Bryndle its session ends with it (R464). -/
def execMbxClose (c : Call) (s : State) : Host.Outcome State Fault Refusal :=
  .next (mailboxCmd c 0x0003 .nothing anyone (fun x s =>
    let s1 := reply c 0x0003 sOk [] s
    match x.path with
    | .bryndle n | .tether n => closeCtx sOk n s1
    | .mctp | .endpoint => closeConn c.mbx s1) s)

/-! ## Identity (R471) -/

/-- The identity record (Table 19.4; 01 R30 for the designation). -/
def identityFlds (s : State) : Flds :=
  [asciiFld 4 "UVID", (2, 1), (1, if !s.pair.pairShelf then 0 else if s.pair.isB then 2 else 1), (1, 0), (8, s.boot.shelfId.toNat),
   asciiFld 16 "UV2460-M-B1-32", asciiFld 2 "B1", (2, 0), (16, s.auth.release.toNat), (1, s.auth.runningSvn), (1, s.auth.fusedSvn), (2, 0),
   (32, Config.moduleDigest.toNat), (32, if s.fix.certified then (Config.custodyKey s.fix.epoch).toNat else 0), (8, 0)]

/-- IDENTITY_GET (R471). -/
def execIdentityGet (c : Call) (s : State) : Host.Outcome State Fault Refusal :=
  .next (mailboxCmd c 0x0101 .nothing anyone (fun _ s => reply c 0x0101 sOk (identityFlds s) s) s)

end Machine
end Sys2Proof
end

