-- ==== Sys2Proof/Machine/PowerOps.lean ====
section
/-!
DEFINITION. The power entry unit: the limits and times of a channel, belay, Keep-safe service, failures and latches (21 R492 to R509).
The unit's timers count oscillator ticks in ns (R496).
-/
namespace Sys2Proof
namespace Machine

/-! ## Figures of a channel (R510) -/

/-- The configuration has been applied at this start: P5 has ended and did not stop start-up (24 Table 24.1, R539). -/
def configApplied (s : State) : Bool := s.boot.phases[4]? == some .done && !s.boot.configStop

/-- What the power entry unit sees of the configuration: reset values at a cold start until the base image and the overlays have been applied
(R496; 20 R480). -/
def unitView (s : State) : State := if configApplied s then s else { s with layers := Layers.reset }

/-- Insertion delay in ns. -/
def insertDelay (s : State) : ChanId → Nat
  | .input => pPwrInsertDelay (unitView s) * 1000000
  | .slot _ => pSlotInsertDelay (unitView s) * 1000000

/-- Pre-charge time in ns. -/
def prechargeTime (s : State) : ChanId → Nat
  | .input => pPwrPreTime (unitView s) * 1000000
  | .slot _ => pSlotPreTime (unitView s) * 1000000

/-- Ramp fault time in ns. -/
def rampFaultTime (s : State) : ChanId → Nat
  | .input => pPwrRampFault (unitView s) * 1000000
  | .slot _ => pSlotRampFault (unitView s) * 1000000

/-- Fault timer in ns. -/
def faultTime (s : State) : ChanId → Nat
  | .input => pPwrFaultTime (unitView s) * 1000
  | .slot _ => pSlotFaultTime (unitView s) * 1000

/-- Current limit in mA. -/
def currentLimit (s : State) : ChanId → Nat
  | .input => pPwrIlim (unitView s)
  | .slot _ => pSlotIlim (unitView s)

/-- Qualification time in µs. -/
def qualTime (s : State) : ChanId → Nat
  | .input => pPwrPgQual (unitView s)
  | .slot _ => pSlotPgQual (unitView s)

/-- The window of a channel: the bounds that let it start, UV rising and OV falling, and those whose passing turns it off, UV falling and OV
rising, in mV (R498, R510). -/
def chanWindow (s : State) : ChanId → Nat × Nat × Nat × Nat
  | .input => (pPwrUvRise (unitView s), 18000, 4500, 18500)
  | .slot _ => (pSlotUvRise (unitView s), pSlotOvRise (unitView s) - 500, pSlotUvFall (unitView s), pSlotOvRise (unitView s))

/-- The input lies in the channel's window: within the inner bounds while the channel has not started, within the outer ones after (R498,
R505). -/
def insideWindow (s : State) (ch : ChanId) (mv : Nat) : Bool :=
  let w := chanWindow s ch
  let f := feedAt s ch
  if f.inside && f.state != .off && f.state != .insert then decide (w.2.2.1 ≤ mv) && decide (mv ≤ w.2.2.2)
  else decide (w.1 ≤ mv) && decide (mv ≤ w.2.1)

/-- The instant `n` ns after an instant of the unit has come. -/
def ticked (s : State) (since n : Nat) : Bool := decide (since + n ≤ s.time.ticks)

/-- A channel's gate is commanded on. -/
def gateOn (f : Feed) : Bool := f.state == .ramp || f.state == .qualify || f.state == .good || f.state == .limit

/-- A channel enters a state. -/
def feedTo (ch : ChanId) (st : FeedState) (s : State) : State := putFeed ch { feedAt s ch with state := st, since := s.time.ticks, waits := false } s

/-- What a slot channel's change of state brings: the partner is told, and a slot without power good goes dark (R502, R505). -/
def slotFollows (ch : ChanId) (s : State) : State :=
  match ch with
  | .input => s
  | .slot n => darkSlot n (tellMate n s)

/-- A power-entry status bit is set, with its event; it wakes the module (R510; 22 Table 22.3). -/
def powerBit (addr bit inst : Nat) (s : State) : State := raise addr bit inst (wake 6 s)

/-! ## Belay (R508, R509; 07 R205) -/

/-- A hold cell keeps its contents through the start of belay: those of frames for a drive port (16 R394). -/
def belayKeeps (s : State) (c : Cell) : Bool :=
  match c.owner with
  | .frame id => s.hold.frames.any (fun f => f.id == id && decide (32 ≤ f.output) && decide (f.output < 56))
  | _ => false

/-- All other contents of the hold are abandoned (16 R394). -/
def abandonHold (s : State) : State :=
  let s1 := freeCells (fun c => !belayKeeps s c) s
  { s1 with hold := { s1.hold with frames := s1.hold.frames.filter (fun f => decide (32 ≤ f.output) && decide (f.output < 56)), waiting := [] } }

/-- The input gate goes off and pg low (R509). A channel that waits in RETRY stays there until the module stops (R503). -/
def inputGateOff (s : State) : State :=
  let f := s.pwr.input
  if f.state == .retry then putFeed .input { f with pg := false } s else feedOff .input s

/-- The belay condition is raised while the SoC is powered: the dying message is sent, the input gate goes off, admission and completions
stop and the hold is abandoned; it wakes the module (R508, R509, R522; 07 Table 7.7). -/
def raiseBelay (cause : BelayCause) (s : State) : State :=
  if !s.pwr.socOn || s.pwr.belay.isSome then s
  else
    let s1 := wake 6 (if s.pst.mode == .dormant then raise stPST 4 noInst s else s)
    let s2 := inputGateOff (sayDying s1)
    abandonHold { s2 with pwr := { s2.pwr with belay := some (cause, s.time.ticks), belayTen := false, onHoldup := true, outSince := none } }

/-- The PWR_LAST_STOP code of a belay (Table 21.4). -/
def stopCode : BelayCause → Nat
  | .belowWindow => 1
  | .aboveWindow => 2
  | .channelFault => 3
  | .slotWindow => 4
  | .holdupShort => 4

/-! ## Keep-safe service (R494) -/

/-- A cause of Keep-safe service holds; a bank measured low keeps it until it is replaced (R494, R495). -/
def keepSafeCause (s : State) : Bool :=
  s.pwr.band == .keepSafe || s.pwr.band == .below || decide (s.pwr.holdup < pPwrHoldupMin (unitView s)) || decide (s.pwr.cap < 180000) || s.pwr.damaged ||
  (s.boot.phases[3]? == some .done && decide (s.pwr.capacity < pPwrHoldupMin (unitView s)))

/-- Judges the causes: one that holds takes the module into Keep-safe service; when none does, the second that must pass without one begins
(R494). -/
def judgeKeepSafe (s : State) : State :=
  if keepSafeCause s then
    let s1 := { s with pwr := { s.pwr with keepSafe := true, clearSince := none } }
    if s.pwr.keepSafe then s1 else powerBit stPWR 2 noInst s1
  else { s with pwr := { s.pwr with clearSince := s.pwr.clearSince.or (some s.time.ticks) } }

/-! ## Failures and latches (R503 to R507) -/

/-- A channel latches: gate and pre-charge off, power good low. A slot whose every channel is latched fails its member (R506; 08 R213); the
input raises the belay condition, or leaves the module unpowered with its cause recorded (R504, R508). -/
def latchChannel (ch : ChanId) (kind : Nat) (s : State) : State :=
  let s1 := putFeed ch { feedAt s ch with state := .latched, since := s.time.ticks, pg := false, waits := false, kind := kind } s
  match ch with
  | .input =>
    let s2 := wake 6 s1
    if s2.pwr.socOn then raiseBelay .channelFault s2 else { s2 with pwr := { s2.pwr with lastStop := if kind = 2 then 6 else 5 } }
  | .slot n =>
    let s2 := slotFollows ch (powerBit stSLOT (if kind = 2 then 3 else 2) n s1)
    if slotLatchedOff s2 (feedAt s2 ch) then failMember n s2 else s2

/-- The wait after an attempt that ended now, in ns: 197/3 of its length, rounded up to a µs (R503). -/
def retryWait (s : State) (f : Feed) : Nat := ceilDiv ((s.time.ticks - f.attempt) / 1000 * 197) 3 * 1000

/-- A start failure or a run failure: the gate goes off and the channel waits in RETRY; the seventh in a row latches it (R503, Table 21.3).
The input's raises the belay condition (R508). -/
def failAttempt (ch : ChanId) (run : Bool) (s : State) : State :=
  let f := feedAt s ch
  let s1 := putFeed ch { f with state := .retry, since := s.time.ticks, retryEnd := s.time.ticks + retryWait s f, pg := false, waits := false,
                                fails := min 7 (f.fails + 1), total := min 0xFFFFFFFF (f.total + 1) } s
  let s2 := match ch with
    | .input => powerBit stPWR 4 noInst s1
    | .slot n => powerBit stSLOT (if run then 1 else 0) n s1
  if 7 ≤ f.fails + 1 then latchChannel ch 1 s2
  else match ch with
    | .input => raiseBelay .channelFault s2
    | .slot _ => slotFollows ch s2

/-! ## Turns (R498) -/

/-- A slot channel may take a turn: none lower waits, and SLOT_STAGGER has passed since the last entry to PRECHARGE (R498). -/
def turnComes (s : State) (n : Fin 24) : Bool :=
  !(allSlots.any (fun (k : Fin 24) => decide (k < n) && (feedAt s (.slot k)).waits)) &&
  (s.pwr.lastTurn.all (fun t => ticked s t (pSlotStagger (unitView s) * 1000000)))

/-- The channel enters PRECHARGE: its attempt starts (R499, R503). A slot channel waits for its turn (R498). -/
def toPrecharge (ch : ChanId) (s : State) : State :=
  let f := feedAt s ch
  let go := putFeed ch { f with state := .precharge, since := s.time.ticks, attempt := s.time.ticks, waits := false } s
  match ch with
  | .input => go
  | .slot n => if turnComes s n then { go with pwr := { go.pwr with lastTurn := some s.time.ticks } } else putFeed ch { f with waits := true } s

/-! ## The input leaving and entering its window (R508) -/

/-- The deadline of an excursion has not passed: a return at it still counts (R508). -/
def withinQual (s : State) (t : Nat) : Bool := decide (s.time.ticks ≤ t + pPwrBelayQual (unitView s) * 1000)

/-- The input is back in its window: a ride-through goes straight to RAMP; a return too late raises the belay condition (R508). -/
def inputReturns (t : Nat) (s : State) : State :=
  if !withinQual s t then raiseBelay (if s.pwr.outAbove then .aboveWindow else .belowWindow) s
  else
    let f := s.pwr.input
    let s1 := { s with pwr := { s.pwr with outSince := none, outAbove := false, onHoldup := false } }
    let s2 := if f.state == .off then putFeed .input { f with state := .ramp, since := s.time.ticks, attempt := s.time.ticks } s1 else s1
    powerBit stPWR 0 noInst s2

/-- The input channel's input leaves its window. While the SoC is powered the module runs on the hold-up bank; before that it stays
unpowered (R505, R508, Table 21.4). -/
def inputLeaves (mv : Nat) (s : State) : State :=
  let started := s.pwr.input.state != .off && s.pwr.input.state != .latched
  let above := decide (18000 < mv)
  let s1 := feedOff .input s
  if s.pwr.socOn && s.pwr.belay.isNone then
    let s2 := { s1 with pwr := { s1.pwr with outSince := s1.pwr.outSince.or (some s.time.ticks), outAbove := above, onHoldup := true } }
    if above then powerBit stPWR 5 noInst s2 else s2
  else
    let s2 := if above then powerBit stPWR 5 noInst s1 else s1
    if started && !s.pwr.socOn then { s2 with pwr := { s2.pwr with lastStop := 7 } } else s2

/-- A slot channel's input leaves its window: it is turned off; while the input channel is GOOD or in LIMIT this raises the belay condition
(R505, R508). -/
def slotLeaves (n : Fin 24) (s : State) : State :=
  let f := feedAt s (.slot n)
  if f.state == .off || f.state == .latched then s
  else
    let s1 := slotFollows (.slot n) (powerBit stSLOT 5 n (feedOff (.slot n) s))
    if s.pwr.input.state == .good || s.pwr.input.state == .limit then raiseBelay .slotWindow s1 else s1

end Machine
end Sys2Proof
end

