-- ==== Sys2Proof/Machine/Power.lean ====
section
/-!
DEFINITION. The meanings of the power entry unit's events (21 R492 to R509; 07 R205 to R207). An event whose condition does not hold in the
state it meets has no effect (log entry 10).
-/
namespace Sys2Proof
namespace Machine

/-! ## Supply bands and the governor (R492 to R495) -/

/-- Number of a band, from the top. -/
def bandIndex : Band → Nat
  | .full => 0
  | .derated => 1
  | .keepSafe => 2
  | .below => 3

/-- A band by its number. -/
def bandOf (n : Nat) : Band := if n = 0 then .full else if n = 1 then .derated else if n = 2 then .keepSafe else .below

/-- Lower bound of a band above Below, mV (Table 21.1). -/
def bandLow (n : Nat) : Nat := if n = 0 then 10200 else if n = 1 then 6000 else 4500

/-- The band that a mean input voltage leads to: downward below a lower bound, upward only at the bound plus 200 mV (R492). -/
def nextBand (b : Band) (mv : Nat) : Band :=
  let byMean := if bandLow 0 ≤ mv then 0 else if bandLow 1 ≤ mv then 1 else if bandLow 2 ≤ mv then 2 else 3
  let byRise := if bandLow 0 + 200 ≤ mv then 0 else if bandLow 1 + 200 ≤ mv then 1 else if bandLow 2 + 200 ≤ mv then 2 else 3
  if bandIndex b < byMean then bandOf byMean else if byRise < bandIndex b then bandOf byRise else b

/-- The governor's cap in mW: the least of 420 W and the voltage times the least of 42 A and PWR_ILIM - 3 A (R493). -/
def governorCap (s : State) (mv : Nat) : Nat := min 420000 (mv * min 42000 (pPwrIlim (unitView s) - 3000) / 1000)

/-- SUPPLY_BAND_WINDOW: the mean input of the last 1 ms sets the readings, the band and the cap; the causes of Keep-safe service and the hold-up
shortfall are judged (R492 to R495, R508, R510). -/
def execSupplyBandWindow (meanMv meanMa holdupJ : Nat) (s : State) : Host.Outcome State Fault Refusal :=
  let b := nextBand s.pwr.band meanMv
  let low := pPwrHoldupMin (unitView s)
  let s1 := { s with pwr := { s.pwr with vin := meanMv, iin := meanMa, holdup := holdupJ, band := b, cap := governorCap s meanMv } }
  let s2 := if b != s.pwr.band then wake 6 s1 else s1
  let s3 := if b == .derated && s.pwr.band != .derated then powerBit stPWR 1 noInst s2 else s2
  let s4 := judgeKeepSafe s3
  let s5 := if holdupJ < low && low ≤ s.pwr.holdup then powerBit stPWR 6 noInst s4 else s4
  .next (if holdupJ < 360 && !gateOn s5.pwr.input then raiseBelay .holdupShort s5 else s5)

/-- KEEP_SAFE_EXIT: no cause has held for 1 s; what was paused goes on (R494). -/
def execKeepSafeExit (s : State) : Host.Outcome State Fault Refusal :=
  .next (match s.pwr.clearSince with
    | some t =>
      if s.pwr.keepSafe && !keepSafeCause s && ticked s t 1000000000 then
        s.hitch.list.foldl (fun acc h => pumpHitch h.record.id acc) { s with pwr := { s.pwr with keepSafe := false } }
      else s
    | none => s)

/-! ## Window, presence and insertion (R498, R505, R506) -/

/-- A channel that is OFF and may start enters INSERT; the input waits for the end of a belay (R498, R503). When the module is unpowered the
start-up phases begin with it (24 R534). -/
def startChannel (ch : ChanId) (s : State) : State :=
  match ch with
  | .slot _ => startInsert ch s
  | .input =>
    if s.pwr.belay.isSome then s
    else if !s.pwr.socOn && s.pwr.input.state == .off && mayStart s.pwr.input then beginStart (startInsert .input s)
    else startInsert .input s

/-- CHANNEL_WINDOW_CHANGE: the input voltage crosses a bound of a channel's window (R498, R505, R508). -/
def execChannelWindowChange (ch : ChanId) (mv : Nat) (s : State) : Host.Outcome State Fault Refusal :=
  let was := (feedAt s ch).inside
  let is := insideWindow s ch mv
  let s0 : State := { s with pwr := { s.pwr with sensed := mv } }
  let s1 := putFeed ch { feedAt s0 ch with inside := is } s0
  .next (
    if was && !is then
      match ch with
      | .input => inputLeaves mv s1
      | .slot n => slotLeaves n s1
    else if is && !was then
      match ch, s1.pwr.outSince with
      | .input, some t => inputReturns t s1
      | _, _ => startChannel ch s1
    else s1)

/-- SLOT_PRESENCE_CHANGE: a drive inserted lets its channel start; presence lost turns the channel off, clears its failures, and fails a member
that was in use (R503, R505, R506; 08 R213). -/
def execSlotPresenceChange (slot : Fin 24) (present : Bool) (s : State) : Host.Outcome State Fault Refusal :=
  let ch := ChanId.slot slot
  let f := feedAt s ch
  if present then .next (startInsert ch (putFeed ch { f with present := true } s))
  else
    let on := f.state != .off && f.state != .latched
    let s1 := putFeed ch { f with present := false, fails := 0 } s
    let s2 := if f.present && on then slotFollows ch (powerBit stSLOT 4 slot (feedOff ch s1)) else s1
    let m := memberAt s2 slot
    .next (if f.present && inUseState m.state then failMember slot s2 else s2)

/-- INSERT_DELAY_EXPIRY: the insertion delay has passed: PRECHARGE, for a slot at its stagger turn (R498, Table 21.3). -/
def execInsertDelayExpiry (ch : ChanId) (s : State) : Host.Outcome State Fault Refusal :=
  let f := feedAt s ch
  .next (if f.state == .insert && ticked s f.since (insertDelay s ch) && mayStart f then toPrecharge ch s else s)

/-- STAGGER_TURN: the turn of a waiting slot channel comes (R498). -/
def execStaggerTurn (slot : Fin 24) (s : State) : Host.Outcome State Fault Refusal :=
  let f := feedAt s (.slot slot)
  .next (if f.waits && (f.state == .insert || f.state == .retry) && mayStart f then toPrecharge (.slot slot) s else s)

/-! ## Pre-charge, ramp, limit and power good (R499 to R502) -/

/-- PRECHARGE_DONE: the output has reached 50 % of the input (R499). -/
def execPrechargeDone (ch : ChanId) (outMv : Nat) (s : State) : Host.Outcome State Fault Refusal :=
  .next (if (feedAt s ch).state == .precharge && s.pwr.sensed ≤ 2 * outMv then feedTo ch .ramp s else s)

/-- PRECHARGE_TIMEOUT: the pre-charge time has passed: a start failure (R499). -/
def execPrechargeTimeout (ch : ChanId) (s : State) : Host.Outcome State Fault Refusal :=
  let f := feedAt s ch
  .next (if f.state == .precharge && ticked s f.since (prechargeTime s ch) then failAttempt ch false s else s)

/-- RAMP_DONE: the output has reached 90 % of the input with the gate at full enhancement; a run failure's attempt counts from here (R500,
R503). -/
def execRampDone (ch : ChanId) (outMv : Nat) (gateFull : Bool) (s : State) : Host.Outcome State Fault Refusal :=
  .next (if (feedAt s ch).state == .ramp && gateFull && 9 * s.pwr.sensed ≤ 10 * outMv then
      let s1 := feedTo ch .qualify s
      putFeed ch { feedAt s1 ch with attempt := s.time.ticks } s1
    else s)

/-- RAMP_FAULT_TIMEOUT: the ramp fault time has passed: a start failure (R500). -/
def execRampFaultTimeout (ch : ChanId) (s : State) : Host.Outcome State Fault Refusal :=
  let f := feedAt s ch
  .next (if f.state == .ramp && ticked s f.since (rampFaultTime s ch) then failAttempt ch false s else s)

/-- CURRENT_LIMIT_REACHED: in QUALIFY or GOOD the current is held at the limit and the fault timer starts; an attempt counts from the last
instant the channel left GOOD (R501, R503). -/
def execCurrentLimitReached (ch : ChanId) (ma : Nat) (s : State) : Host.Outcome State Fault Refusal :=
  let f := feedAt s ch
  if (f.state == .qualify || f.state == .good) && currentLimit s ch ≤ ma then
    let good := f.state == .good
    let s1 := putFeed ch { f with state := .limit, since := s.time.ticks, fromGood := good,
                                  attempt := if good then s.time.ticks else f.attempt } s
    .next (match ch with
      | .input => powerBit stPWR 3 noInst s1
      | .slot n => tellMate n s1)
  else .next s

/-- LIMIT_RELEASE: below the limit for 10 µs, the fault timer resets and the channel returns to the state it came from (R501). -/
def execLimitRelease (ch : ChanId) (belowUs : Nat) (s : State) : Host.Outcome State Fault Refusal :=
  let f := feedAt s ch
  .next (if f.state == .limit && 10 ≤ belowUs then
      let s1 := feedTo ch (if f.fromGood then .good else .qualify) s
      match ch with
      | .input => s1
      | .slot n => tellMate n s1
    else s)

/-- FAULT_TIMER_EXPIRY: the gate goes off and power good drops: a run failure (R501, R502). -/
def execFaultTimerExpiry (ch : ChanId) (s : State) : Host.Outcome State Fault Refusal :=
  let f := feedAt s ch
  .next (if f.state == .limit && ticked s f.since (faultTime s ch) then failAttempt ch true s else s)

/-- The input channel is GOOD: the SoC is powered, and failures since start-up count from here (R505, R508, Table 21.5). -/
def inputGood (s : State) : State :=
  if s.pwr.socOn then s
  else { s with pwr := { s.pwr with socOn := true, onHoldup := false, slots := s.pwr.slots.map (fun f => { f with total := 0 }) } }

/-- PG_QUALIFIED: the good condition has held for the qualification time: power good is asserted. A slot that was dark begins discovery 100 ms
later (R502; 17 Table 17.2). -/
def execPgQualified (ch : ChanId) (heldUs : Nat) (s : State) : Host.Outcome State Fault Refusal :=
  let f := feedAt s ch
  if f.state == .qualify && qualTime s ch ≤ heldUs && ticked s f.since (qualTime s ch * 1000) then
    let s1 := putFeed ch { f with state := .good, since := s.time.ticks, pg := true } s
    .next (match ch with
      | .input => inputGood s1
      | .slot n =>
        let s2 := tellMate n s1
        if !slotPg f && s2.drv.up then startDiscovery n 100000000 s2 else s2)
  else .next s

/-- PG_LOSS: in GOOD the output has fallen below PWR_PG_LOW % of the input: power good drops and the channel qualifies again; a run failure's
attempt counts from here (R502, R503, Table 21.3). -/
def execPgLoss (ch : ChanId) (outMv : Nat) (s : State) : Host.Outcome State Fault Refusal :=
  let f := feedAt s ch
  .next (if f.state == .good && 100 * outMv < pPwrPgLow (unitView s) * s.pwr.sensed then
      slotFollows ch (putFeed ch { f with state := .qualify, since := s.time.ticks, pg := false, attempt := s.time.ticks } s)
    else s)

/-! ## Retry, damage and latches (R503 to R507) -/

/-- RETRY_WAIT_END: the wait is over: PRECHARGE where R498's conditions hold, for a slot at its turn, and OFF otherwise. While a belay runs the
input stays in RETRY (R503). -/
def execRetryWaitEnd (ch : ChanId) (s : State) : Host.Outcome State Fault Refusal :=
  let f := feedAt s ch
  if f.state != .retry || s.time.ticks < f.retryEnd then .next s
  else if ch == .input && s.pwr.belay.isSome then .next s
  else .next (if mayStart f then toPrecharge ch s else feedOff ch s)

/-- FAILURE_COUNT_CLEAR: GOOD held for 1 s clears the count (R503). -/
def execFailureCountClear (ch : ChanId) (s : State) : Host.Outcome State Fault Refusal :=
  let f := feedAt s ch
  .next (if f.state == .good && ticked s f.since 1000000000 then putFeed ch { f with fails := 0 } s else s)

/-- A test of R504 runs in a state of the channel, and its time in µs. -/
def damageTest (t : DamageTest) (f : Feed) : Bool × Nat :=
  match t with
  | .gateDoesNotRise => (gateOn f, 500)
  | .staysOpen => (f.state == .ramp || f.state == .qualify || f.state == .good, 1000)
  | .conductsWhenOff => (f.state == .off || f.state == .insert || f.state == .retry, 10000)

/-- DEVICE_DAMAGE: a pass device has failed a test for its whole time: its channel latches with kind 2; an input device that conducts when off
does not latch and takes the module into Keep-safe service (R504). -/
def execDeviceDamage (ch : ChanId) (test : DamageTest) (heldUs : Nat) (s : State) : Host.Outcome State Fault Refusal :=
  let t := damageTest test (feedAt s ch)
  if !t.1 || heldUs < t.2 then .next s
  else match ch, test with
    | .input, .conductsWhenOff => .next (powerBit stPWR 8 noInst (judgeKeepSafe { s with pwr := { s.pwr with damaged := true } }))
    | _, _ => .next (latchChannel ch 2 s)

/-- INPUT_LATCH_CLEAR: the input has stayed below 2.0 V for 100 ms, or the module has been withdrawn (R507). -/
def execInputLatchClear (belowUs : Nat) (withdrawn : Bool) (s : State) : Host.Outcome State Fault Refusal :=
  let f := s.pwr.input
  .next (if f.state == .latched && (withdrawn || 100000 ≤ belowUs) then
      putFeed .input { f with state := .off, since := s.time.ticks, inside := false, fails := 0, kind := 0 } s
    else s)

/-! ## Belay (R508, R509; 07 R205 to R207) -/

/-- BELAY_QUALIFICATION: the input has been outside its window for PWR_BELAY_QUAL, and the step of the deadline has passed (R508). -/
def execBelayQualification (s : State) : Host.Outcome State Fault Refusal :=
  .next (match s.pwr.outSince with
    | some t => if withinQual s t then s else raiseBelay (if s.pwr.outAbove then .aboveWindow else .belowWindow) s
    | none => s)

/-- RIDE_THROUGH: the input is back in its window at or before the deadline (R508). -/
def execRideThrough (mv : Nat) (s : State) : Host.Outcome State Fault Refusal :=
  .next (match s.pwr.outSince with
    | some t =>
      if insideWindow s .input mv && withinQual s t then
        let s0 : State := { s with pwr := { s.pwr with sensed := mv } }
        inputReturns t (putFeed .input { s0.pwr.input with inside := true } s0)
      else s
    | none => s)

/-- BELAY_DRIVE_ABANDON: at t0 + 10 ms the drive writes still in flight are abandoned, with the hold cells they read, and every slot is
disabled (R509; 07 Table 7.7; 16 R394). -/
def execBelayDriveAbandon (s : State) : Host.Outcome State Fault Refusal :=
  .next (match s.pwr.belay with
    | some (_, t0) =>
      if s.pwr.belayTen || !ticked s t0 10000000 then s
      else
        let s1 := allSlots.foldl (fun acc n => putPort n { portAt acc n with cmds := [], linkUp := false, rate := 0, width := 0, step := none, perstAt := none } acc) s
        let s2 := allSlots.foldl (fun acc n => disableSlot n acc) s1
        let s3 := freeCells (fun _ => true) s2
        { s3 with hold := { s3.hold with frames := [] }, pwr := { s3.pwr with belayTen := true } }
    | none => s)

/-- What survives the stop of a module: the vault, the non-volatile record of the power entry unit, and what stands on the members. Everything
else is gone, debug unlock with it (02 R42, R62; 04 R108; R496; 05 R134; 07 R205, R206; 11 R299; 16 R394; 20 R480). -/
def stopModule (s : State) : State :=
  { s with
    block := { s.block with ctrls := [], streams := [], waiting := [], inFlight := [],
                            nss := s.block.nss.map (fun n => 
                              { n with registrants := if n.ptpl then n.registrants else [], holder := if n.ptpl then n.holder else none,
                                       fphase := n.fphase.filter (fun k => 0 < k), resuming := n.fphase.any (fun k => 0 < k) && !n.sanitising }) },
    auth := { s.auth with debugNonce := none, unlocked := false, shelfKey := none },
    obj := { s.obj with tenants := s.obj.tenants.map (fun t => { t with root := none }), objs := s.obj.objs.map (fun o => { o with digested := 0 }) },
    hitch := { list := s.hitch.list.map (fun h => { h with
      state := if h.state == .streaming || h.state == .closing then .suspended else h.state, ctx := none, hello := false, heard := 0,
      beat := 0, tried := 0, paceAt := 0, paced := [] }) },
    layers := { s.layers with status := s.layers.status.filter (fun x => x.1 / 0x1000000 == 0x0A || x.1 / 0x1000000 == 0x0B),
                              figures := s.layers.figures.filter (fun x => x.1 == 0x1000004C), reported := [], windowAt := 0, latched := [] },
    fix := { s.fix with waiting := [], batches := [] },
    idx := { s.idx with hints := [], cache := [], walks := [], recovered := false, parts := s.idx.parts.map (fun p => { p with stale := true }) },
    log := { s.log with inService := false },
    trn := { ctxs := [], gens := s.trn.gens, setups := [], holding := [], nakQ := [], seen := [], clock := 0 },
    reg := { regions := [], mem := [], triggers := [], ring := [], armed := 0 },
    net := { s.net with macs := s.net.macs.map (fun m => Mac.reset m.num) },
    sch := Sched.reset,
    mem := { s.mem with slots := s.mem.slots.map (fun m => { m with downSince := none }) },
    hold := { frames := [], waiting := [], cells := [], struck := s.hold.struck, inUse := [], outUse := [], suspect := [],
              passing := false, next := 0, serial := 0 },
    mov := { channels := [], robin := 16, records := [] },
    drv := { ports := Vector.replicate 24 DrivePort.reset, x2 := s.drv.x2, up := false },
    sep := { linkUp := false, rate := 0, width := 0, master := false, msixOn := false, masked := [], pending := [] },
    pair := { Pair.reset with isB := s.pair.isB, pairShelf := s.pair.pairShelf, peer := s.pair.peer, landed := s.pair.landed, lanyard := s.pair.lanyard,
                              recBase := s.pair.recBase + s.pair.recvNum, mirror := if s.pwr.belayTen then s.pair.mirror else [] },
    tet := { Tether.reset with addr := s.tet.addr, valid := s.tet.valid, upCable := s.tet.upCable, downCable := s.tet.downCable },
    mbx := { conns := [], nonces := s.mbx.nonces, rings := [] },
    pst := PowerStates.reset,
    ev := { rings := [{ mbx := none, records := [], overflow := none, nextSeq := 0, returned := 0 }], receiver := none, pldm := none, temps := [] },
    spdm := { stage := 0 }, held := [] }

/-- The module stops: the SoC loses power and the power entry unit records the cause, and starts the input again where its window lets it
(R503, R507, R509). -/
def powerDown (cause : Nat) (s : State) : State :=
  let f := s.pwr.input
  let f1 := if f.state == .latched then { f with pg := false } else { f with state := .off, since := s.time.ticks, pg := false, waits := false }
  let s1 := { stopModule s with
    pwr := { s.pwr with input := f1, socOn := false, belay := none, belayTen := false, onHoldup := false, outSince := none, outAbove := false,
                        keepSafe := false, clearSince := none, lastStop := cause, lastTurn := none },
    boot := { s.boot with phases := List.replicate 11 .notStarted, halted := none, open_ := false, lockWaited := false } }
  startChannel .input s1

/-- BELAY_STOP: the trailer and Custody Time have been written and the module stops; it starts again as from power-on. Before service opens the
image holds only its header and Custody Time, and an image still to be replayed stays (R205 to R207, R509; 03 R73; 24 R536). Its length is
known; its size in GiB is not (log entry 2). -/
def execBelayStop (s : State) : Host.Outcome State Fault Refusal :=
  .next (match s.pwr.belay with
    | some (cause, t0) =>
      if !s.pwr.belayTen then s
      else
        let g := free s
        let s1 := setFigure 0x1000004C ((s.time.ticks - t0) / 1000000 % 65536 + 65536 * (g.1 % 65536)) g.2
        powerDown (stopCode cause) { s1 with log := { s1.log with image := s1.log.image || s1.boot.open_ },
                                             time := { s1.time with vault := s1.time.custody } }
    | none => s)

end Machine
end Sys2Proof
end

