-- ==== Sys2Proof/Machine/PowerStates.lean ====
section
/-!
DEFINITION. Drowse, Dormant, their entry and its abort points, and the drives under a DORMANT schedule (22; 20 R483, R485). An event whose
condition does not hold in the state it meets has no effect (log entry 10).
-/
namespace Sys2Proof
namespace Machine

/-! ## Conditions (R513, R515, R517) -/

/-- A format, sanitise or tenant erasure runs. -/
def erasingNow (s : State) : Bool :=
  s.block.nss.any (fun n => n.fphase.isSome) || s.block.shelfSan.isSome || s.block.sanitises.any (fun x => !x.done && !x.failed) ||
  !s.obj.erasures.isEmpty

/-- A host command is admitted, in flight, or waits for admission. -/
def hostBusy (s : State) : Bool := !s.block.inFlight.isEmpty || !s.block.waiting.isEmpty

/-- Drowse may be entered, its time apart (R513). -/
def drowseMay (s : State) : Bool :=
  pPstCtrl0 s == 1 && !hostBusy s && !repairing s && !(s.log.segs.any (fun g => g.state == .relocating)) && !s.mem.scrubbing &&
  !(s.hitch.list.any (fun h => h.state == .streaming || h.state == .closing)) && !erasingNow s && !classIn s 7

/-- Dormant may be entered, its time apart (R515). -/
def dormantMay (s : State) : Bool :=
  classIn s 5 && s.pst.drivesDown && !hostBusy s && !s.sep.linkUp && pSepCtrl s == 0 &&
  !(s.mbx.conns.any (fun c => c.path == .mctp)) && (s.pair.mode != .paired || s.pst.partner == .drowse || s.pst.partner == .dormant)

/-- Entry begins: A1 is passed (R517). -/
def beginEntry (m : PMode) (s : State) : State :=
  { s with pst := { s.pst with entering := some m, point := 1, abandon := false, heldWake := false } }

/-- DROWSE_IDLE_EXPIRY: no host command has been admitted or in flight for PST_DROWSE_IDLE (R513, R517). -/
def execDrowseIdleExpiry (s : State) : Host.Outcome State Fault Refusal :=
  .next (if s.pst.mode == .run && s.pst.entering.isNone && drowseMay s && confirmed s s.pst.lastWork (pPstDrowseIdle s * msU) then
      beginEntry .drowse s
    else s)

/-- DORMANT_IDLE_EXPIRY: no packet has passed its tag for PST_DORMANT_IDLE (R515, R517). -/
def execDormantIdleExpiry (s : State) : Host.Outcome State Fault Refusal :=
  .next (if s.pst.mode != .dormant && s.pst.entering.isNone && dormantMay s && confirmed s s.pst.lastPkt (pPstDormantIdle s * secU) then
      beginEntry .dormant s
    else s)

/-! ## Steps and abort points (R517, R518) -/

/-- The abort point that the end of the step after a point reaches: Drowse passes A4 and A5 at once, with A6 (Table 22.4). -/
def nextPoint (m : PMode) (point : Nat) : Nat := if m == .drowse && point = 3 then 6 else point + 1

/-- Entry is abandoned: what was done is undone and the module continues in Run (R518). -/
def abandonEntry (s : State) : State :=
  raise stPST 0 noInst (bumpFigure 0x0C000030 1
    { s with pst := { s.pst with entering := none, point := 0, abandon := false, heldWake := false, mode := .run, woken := [] } })

/-- Step S5 powers down the MACs that neither keep PTP nor may wake the module, and the drive port links (Tables 22.2 and 22.4). -/
def linksDown (s : State) : State :=
  let off (m : Mac) : Bool := m.num != ptpMac s && pMacCtrl7 s m.num == 0
  let s1 := (s.net.macs.filter off).foldl (fun acc m => dropLink m.num acc) s
  allSlots.foldl (fun acc n => putPort n { portAt acc n with linkUp := false, rate := 0, width := 0 } acc) s1

/-- Entry is complete: PST_STATE shows the new state (A7). A wake held since A6 takes the module to Run at once (R518). -/
def completeEntry (m : PMode) (s : State) : State :=
  let s1 := { s with pst := { s.pst with entering := none, point := 7, abandon := false, heldWake := false, mode := m, woken := [] } }
  let s2 := if m == .dormant then bumpFigure 0x0C00002C 1 s1 else s1
  if s.pst.heldWake then
    raise stPST 1 noInst { s2 with pst := { s2.pst with mode := .run, point := 0, wokeAt := some (mono s) } }
  else s2

/-- ENTRY_STEP_COMPLETE: the step in hand is complete and the next abort point is reached, where an entry with a wake stamped before A6 is
abandoned (R517, R518). -/
def execEntryStepComplete (s : State) : Host.Outcome State Fault Refusal :=
  match s.pst.entering with
  | none => .next s
  | some m =>
    let s1 := if m == .dormant && s.pst.point = 5 then linksDown s else s
    if 6 ≤ s.pst.point then .next (completeEntry m s)
    else if s.pst.abandon then .next (abandonEntry s1)
    else .next { s1 with pst := { s1.pst with point := nextPoint m s.pst.point } }

/-! ## Domains in Drowse (R514) -/

/-- DOMAIN_WAKE: a request reaches a gated domain, which is powered and restored; its work puts off its gating (R514). -/
def execDomainWake (domain : Nat) (s : State) : Host.Outcome State Fault Refusal :=
  .next (if s.pst.mode == .drowse then
      { s with pst := { s.pst with woken := dropIf (fun x => x.1 == domain) s.pst.woken ++ [(domain, mono s)] } }
    else s)

/-- DOMAIN_IDLE_EXPIRY: a woken domain has had no work for PST_DOMAIN_IDLE and is gated again (R514). -/
def execDomainIdleExpiry (domain : Nat) (s : State) : Host.Outcome State Fault Refusal :=
  .next (match s.pst.woken.lookup domain with
    | some t =>
      if confirmed s t (pPstDomainIdle s * usU) then { s with pst := { s.pst with woken := dropIf (fun x => x.1 == domain) s.pst.woken } } else s
    | none => s)

/-! ## Drives under the schedule (20 R483, R485; 22 R519 to R521) -/

/-- Shelf Time lies in an awake window: of each multiple of the period plus the phase, for the window's length (20 R483). -/
def inAwakeWindow (s : State) (d : DormantItem) : Bool :=
  let p := max 1 d.period.toNat * secU
  decide ((now s + p - d.phase.toNat * secU % p) % p < d.window.toNat * secU)

/-- A cause that keeps the drives powered: REBUILD-SAFE, a rebuild or restore, a sanitise or a tenant erasure (20 R485). -/
def keepsDrives (s : State) : Bool := classIn s 6 || repairing s || s.block.shelfSan.isSome || s.block.sanitises.any (fun x => !x.done && !x.failed) ||
  !s.obj.erasures.isEmpty

/-- The schedule may power the drives down: outside a window, without such a cause, with no channel LATCHED and every member HEALTHY (20
R483, R485; 22 R520). -/
def mayPowerDown (s : State) : Bool :=
  (dormantItem s).any (fun d => !inAwakeWindow s d) && !s.pst.window && !keepsDrives s && s.pst.poweringUp.isEmpty &&
  !(allSlots.any (fun n => (feedAt s (.slot n)).state == .latched)) && allSlots.all (fun n => (memberAt s n).state == .healthy)

/-- Every open stripe is closed with fill (R519 step 2). -/
def closeHeads (s : State) : State := (s.log.heads.filter (fun h => h.used != 0)).foldl (fun acc h => closeRow h acc) s

/-- The partner is told that steps 1 and 2 are complete here, or that they are taken back (R519 step 3). -/
def tellQuiet (on : Bool) (s : State) : State :=
  if s.pair.mode == .paired then pairState 16 [(1, if on then 1 else 0)] s else s

/-- Step 4: each member receives a normal shutdown notification, CC.SHN = 01b (R519). -/
def notifyShutdown (s : State) : State :=
  let slots := allSlots.filter (fun n => memberWrites (memberAt s n))
  let s1 := slots.foldl (fun acc (n : Fin 24) => send (msg (.drive n) .remoteWrite 0 0 0 [(8, 0x14), (4, 0x4000)]) acc) s
  { s1 with pst := { s1.pst with downStep := 4, shutting := slots.map Fin.val, shutAt := mono s1 } }

/-- Step 5: every slot is disabled and PST_STATE bit 7 is set; members keep their states (R519). Commands that came meanwhile power the drives
again where wake on demand is set (20 R483). -/
def finishDown (s : State) : State :=
  let s1 := allSlots.foldl (fun acc n =>
    putPort n { portAt acc n with linkUp := false, rate := 0, width := 0, step := none, perstAt := none } (disableSlot n acc)) s
  let s2 := { s1 with pst := { s1.pst with downStep := 0, shutting := [], drivesDown := true } }
  if allSlots.any (fun n => !(portAt s2 n).cmds.isEmpty) then powerDrives s2 else s2

/-- No index or map flush of an owned shard runs. -/
def flushesDone (s : State) : Bool := s.idx.parts.all (fun p => p.flushing.isNone || !(shardAt s p.shard).owned)

/-- No drive command waits or is outstanding, no checkpoint is on its way to media and every splice log is retired (R519 step 2). -/
def logQuiet (s : State) : Bool :=
  allSlots.all (fun n => (portAt s n).cmds.isEmpty) && s.log.shards.all (fun x => x.ckptNew.isNone || !x.owned) &&
  s.log.splice.all (fun e => e.retired || !(shardAt s e.shard).owned)

/-- A power-down that has begun goes on as far as it can: the checkpoints once the flushes are done, the partner's word once the log is quiet,
the notifications, and the end of the shutdowns. A cause under R485 takes it back before the notifications (R519; 20 R485). -/
def advanceDown (s : State) : State :=
  let step := s.pst.downStep
  if step = 0 then s
  else if step ≤ 3 ∧ keepsDrives s then tellQuiet false { s with pst := { s.pst with downStep := 0 } }
  else if step = 1 then
    if flushesDone s then
      let own := s.log.shards.filter (fun x => x.owned && x.ready)
      closeHeads (own.foldl (fun acc x => shardCheckpoint x.num acc) { s with pst := { s.pst with downStep := 2 } })
    else s
  else if step = 2 then if logQuiet s then tellQuiet true { s with pst := { s.pst with downStep := 3 } } else s
  else if step = 3 then if s.pair.mode != .paired || s.pst.mateDown then notifyShutdown s else s
  else if s.pst.shutting.isEmpty then finishDown s
  else s

/-- DRIVE_IDLE_TIMEOUT: no host command has needed the drives for the idle time: their power-down begins. Deltas are flushed and open stripes
closed, so that the splice logs retire (R519; 20 R483). -/
def execDriveIdleTimeout (s : State) : Host.Outcome State Fault Refusal :=
  .next (match dormantItem s with
    | none => s
    | some d =>
      if s.pst.drivesDown || s.pst.downStep != 0 || !mayPowerDown s || hostBusy s || !confirmed s s.pst.lastDrive (d.idle.toNat * secU) then s
      else
        let parts := s.idx.parts.filter (fun p => (shardAt s p.shard).owned)
        let s1 := parts.foldl (fun acc p => startFlush p.shard p.num acc) s
        advanceDown (closeHeads { s1 with pst := { s1.pst with downStep := 1 } }))

/-- A slot's shutdown wait is over. -/
def shutOver (slot : Fin 24) (s : State) : State :=
  advanceDown { s with pst := { s.pst with shutting := s.pst.shutting.filter (fun n => n != (slot : Nat)) } }

/-- DRIVE_SHUTDOWN_COMPLETE: a member reports CSTS.SHST = 10b (R519 step 4). -/
def execDriveShutdownComplete (slot : Fin 24) (s : State) : Host.Outcome State Fault Refusal :=
  .next (if s.pst.downStep = 4 ∧ s.pst.shutting.contains (slot : Nat) then shutOver slot s else s)

/-- DRIVE_SHUTDOWN_TIMEOUT: a drive has not finished within PST_SHUTDOWN_MAX; PST_STATUS bit 2 (R519 step 4). -/
def execDriveShutdownTimeout (slot : Fin 24) (s : State) : Host.Outcome State Fault Refusal :=
  .next (if s.pst.downStep = 4 ∧ s.pst.shutting.contains (slot : Nat) ∧ confirmed s s.pst.shutAt (pPstShutdownMax s * msU) then
      shutOver slot (raise stPST 2 slot s)
    else s)

/-- An awake window opens: it wakes the module and the drives are powered (20 R483; 22 R520, Table 22.3). -/
def openWindow (s : State) : State := powerDrives (wake 5 { s with pst := { s.pst with window := true } })

/-- DORMANT_WINDOW_START: Shelf Time has come to an awake window (20 R483; 22 R520). -/
def execDormantWindowStart (s : State) : Host.Outcome State Fault Refusal :=
  .next (match dormantItem s with
    | some d => if inAwakeWindow s d && !s.pst.window then openWindow s else s
    | none => s)

/-- DORMANT_WINDOW_END: the window is over; the drives may be powered down once idle (20 R483). -/
def execDormantWindowEnd (s : State) : Host.Outcome State Fault Refusal :=
  .next (match dormantItem s with
    | some d => if s.pst.window && !inAwakeWindow s d then { s with pst := { s.pst with window := false } } else s
    | none => { s with pst := { s.pst with window := false } })

/-- DORMANT_TIMER_WAKE: the timer unit's instant has come while the drives are down: a lock expiry powers them, a checkpoint that is due is
signed and held in the vault, a window opens (R521). -/
def execDormantTimerWake (s : State) : Host.Outcome State Fault Refusal :=
  let lock := s.obj.locks.any (fun l => l.locks.any (lockPast s))
  let ckpt := confirmed s s.fix.lastCkpt (pIdxCkptInterval s * secU)
  let win := (dormantItem s).any (fun d => inAwakeWindow s d && !s.pst.window)
  if !s.pst.drivesDown || !(lock || ckpt || win) then .next s
  else
    let s1 := wake 4 s
    let s2 := if ckpt then signCheckpoint s1 else s1
    let s3 := if lock then powerDrives s2 else s2
    .next (if win then openWindow s3 else s3)

/-- What time brings to the drives under the schedule: a power-down goes on, and a cause under R485 powers drives that are down (22 R519; 20
R485). -/
def scheduleDrives (s : State) : State := if s.pst.drivesDown && keepsDrives s then powerDrives (wake 7 s) else advanceDown s

end Machine
end Sys2Proof
end

