-- ==== Sys2Proof/Machine/Takeover.lean ====
section
/-!
DEFINITION. Takeover, rejoin, handover and forwarding (18 R448, R452 to R456).
-/
namespace Sys2Proof
namespace Machine

/-! ## Recorded phases (04 R115, R118; 05 R146) -/

/-- A format recorded in progress goes on from its phase; a sanitise whose first phase was not recorded begins it (04 R115, R116). -/
def resumeFormat (num : Nat) (s : State) : State :=
  match nsNum s num with
  | none => s
  | some n =>
    let s1 := putNs { n with resuming := !n.sanitising } s
    let j : FormatJob := { nss := [num], sanitise := n.sanitising, next := max 1 (n.fphase.getD 1), before := [], fmt := none, stamps := [], gen := 0 }
    let (gen, s2) := if 3 ≤ j.next then changeBanks s1 else (0, s1)
    formatStep jobMsg (fun x => x) { j with gen := gen } s2

/-- The formats, sanitises and deletions of namespaces that were under way on some shards go on (04 R100, R115, R116). -/
def resumeFormats (shards : List Nat) (s : State) : State :=
  let mine (n : Ns) : Bool := shards.contains n.shard
  let s1 := ((s.block.nss.filter (fun n => mine n && (n.fphase.isSome || n.sanitising))).map (fun n => n.num)).foldl (fun acc n => resumeFormat n acc) s
  let gone := (s1.block.nss.filter (fun n => mine n && n.deleting)).map (fun n => n.num)
  if gone.isEmpty then s1
  else
    let (gen, s2) := changeBanks s1
    hold { heldAt jobMsg (now s2) with bank := some (gen, true), job := some (.nsDelete gone) } s2

/-- A recorded tenant erasure goes on from its phase (05 R146). -/
def resumeErasure (e : Erasure) (s : State) : State :=
  if e.phase ≤ 2 then eraseCheck e.tenant e.q s
  else if e.phase = 5 then eraseEnd e.tenant e.q s
  else if e.phase = 4 then eraseWraps e.tenant e.q s
  else eraseKeys e.tenant e.q s

/-- A recorded shelf-wide sanitise goes on from its phase (04 R118). -/
def resumeSanitise (s : State) : State :=
  match s.block.shelfSan with
  | some x =>
    if x.phase ≤ 1 then sanitiseBanks (sanSign x.statement (targetStamp s .shelf) s)
    else if x.phase ≤ 3 then sanitiseBanks s
    else if x.phase = 4 then sanitiseDrives s
    else sanitiseEnd s
  | none => s

/-! ## What a takeover takes (R452, Table 18.3) -/

/-- The own MAC that claims the addresses of MAC `n` of the partner: MAC `n`, or the lowest with link up whose prefix holds its IP
address (Table 18.3 step 3). -/
def claimMac (s : State) (n : Nat) : Option Nat :=
  let up (m : Mac) : Bool := m.linkUp
  let near (m : Mac) : Bool :=
    let w := 32 - pMacIpv4Prefix s m.num
    Config.partnerIp false n / 2 ^ w == pMacIpv4 s m.num / 2 ^ w
  if (macAt s n).any up then some n
  else
    match (s.net.macs.filter (fun m => up m && near m)).map (fun m => m.num) with
    | [] => none
    | k :: ks => some (ks.foldl min k)

/-- Claims the addresses of the partner, each with a gratuitous ARP and an unsolicited Neighbor Advertisement (Table 18.3 step 3). -/
def claimAddresses (s : State) : State :=
  let pairs := s.net.macs.filterMap (fun m => (claimMac s m.num).map (fun k => (k, m.num)))
  pairs.foldl (fun acc x => sendNeighbour x.1 2 true (2 ^ 48 - 1) (Config.partnerIp true x.2)
      (sendNeighbour x.1 2 false (2 ^ 48 - 1) (Config.partnerIp false x.2) acc))
    { s with pair := { s.pair with claimed := pairs } }

/-- The partner's lanyard, taken from the mirror: a Close entry on each chain, its unsigned receipts, and the closing checkpoint under this module's
key, which waits while that key is not certified; the shelf chain of this module's lanyard names it (09 R252, R558; Table 18.3 step 2). The id of a
lanyard of which no record has reached this module is free (log entry 32). -/
def closePartner (s : State) : State :=
  let (v, s1) := free s
  let none_ : Lanyard := { id := BitVec.ofNat 256 v, isOpen := false, entries := [], receipts := [], checkpoints := [], partners := true, owed := false }
  let l0 := s1.pair.lanyard.getD none_
  let l1 := { closeChains 1 (custodyKeyNow s1) (kstamp s1) l0 with isOpen := false, partners := true, owed := !s1.fix.certified }
  let l2 := if s1.fix.certified then endPartners s1 l1 else l1
  let s2 := { s1 with fix := { s1.fix with past := s1.fix.past ++ [l2] }, pair := { s1.pair with lanyard := none, lyPart := [] } }
  answerWaiting (enter shelfChain 0x0040 noStamp [(2, 0), (1, 0), (5, 0), (32, l2.id.toNat), (32, 0)] s2)

/-- A shard taken over: its sequencer starts above the highest stamp mirrored, its splice log after the last entry mirrored (03 R89;
Table 18.3 step 4). -/
def takeShard (s : State) (x : Shard) : Shard :=
  let seqs := (s.pair.mirror.filter (fun r => r.kind == 2 && r.shard == x.num)).map (fun r => r.seq)
  { x with owned := true, ready := true, moving := false, last := if x.last.lt x.mirrored then x.mirrored else x.last,
           splice := seqs.foldl max x.splice }

/-- The shards of the partner, its custody shard apart. -/
def partnerShards (s : State) : List Shard := s.log.shards.filter (fun x => !x.owned && decide (x.num < 64))

/-- The landing regions of the partner's sessions (R453). -/
def takeRegions (s : State) : State :=
  (s.trn.ctxs.filter (fun c => partnerSpace c.num)).foldl (fun acc c => match landSize acc c.kind c.who, c.who.tenant? with
    | some z, some t =>
      if z = 0 then acc
      else putRegion { owner := c.num, tenant := t, roce := isQp c, base := landBase c.num, size := z, phase := .active, revoked := 0,
                       pushes := [] } acc
    | _, _ => acc) s

/-- A mirrored push stands in the landing region of its session (R453). -/
def pushStands (r : MirrorRec) (s : State) : State := (regionAt s (partnerCtx r.ctx)).elim s (fun g => landWrite g r.addr r.data s)

/-- The PSN after those of a recorded message: a READ's are those of its answer (12 R331). -/
def psnPast (c : Ctx) (r : MirrorRec) : Nat :=
  (r.stamp.seq + max 1 (ceilDiv (if r.shard = 4 then leValue (r.data.take 4) else r.bytes) c.payload)) % 16777216

/-- The senders of the partner's sessions go on above every sequence, message identity and PSN recorded for them, and its SAs 2^32 above every ESP
sequence recorded (R453). -/
def takeSenders (s : State) : State :=
  let upd (c : Ctx) : Ctx :=
    if partnerSpace c.num then
      let sent := s.pair.mirror.filter (fun r => r.kind == 4 && partnerCtx r.ctx == c.num)
      let under := s.pair.mirror.filter (fun r => r.kind == 4 && ((ctxAt s (partnerCtx r.ctx)).bind (saCtx s)).any (fun a => a.num == c.num))
      { c with sent := sent.foldl (fun a r => if seqAfter a r.seq then r.seq else a) c.sent, lastId := sent.foldl (fun a r => max a r.addr) c.lastId,
               psnOut := if isQp c then sent.foldl (fun _ r => psnPast c r) c.psnOut else c.psnOut,
               espOut := if c.kind == .bryndle 5 then under.foldl (fun a r => max a r.stamp.time) c.espOut + 4294967296 else c.espOut }
    else c
  { s with trn := { s.trn with ctxs := s.trn.ctxs.map upd } }

/-! ## Resuming commands (R453) -/

/-- A recorded message goes again: under a new identity with the same sequence, or at the same PSN. -/
def sendRecorded (r : MirrorRec) (s : State) : State :=
  let n := partnerCtx r.ctx
  match ctxAt s n with
  | none => s
  | some c =>
    let kind : MsgKind := if r.shard = 1 then (if isUop c then .uop else .nvme) else if placed r.shard then .remoteWrite else .remoteRead
    let place : Flds := [(4, leValue (r.data.take 4)), (8, leValue ((r.data.drop 4).take 8))]
    let m : Msg := { port := .ctx n, kind := kind, op := if r.shard = 1 then 0 else r.shard, tag := r.tag, status := 0,
                     body := if placed r.shard then place else [], data := if placed r.shard then r.data.drop 12 else r.data }
    let o : OutMsg := { id := 0, seq := r.seq, opcode := r.shard, sentAt := 0, length := m.data.length, packets := max 1 (ceilDiv m.data.length c.payload),
                        statusAsked := false, queued := true, mir := 0, what := m, wire := [], psn := r.stamp.seq }
    launch n o (putCtx { c with outMsgs := c.outMsgs ++ [o] } s)

/-- A mutation whose splice entry stands: its effect and its completion under its recorded commit stamp (R453). This module performs
it as of that stamp, since the mirror carries its capsule and its stamp. -/
def standing (i : Instr) (e : MirrorRec) (s : State) : State :=
  let x := shardAt s e.shard
  let at_ : CStamp := if e.stamp.seq = 0 then { time := e.stamp.time - 1, seq := 0xFFFFFFFF } else { e.stamp with seq := e.stamp.seq - 1 }
  let s1 := putShard { x with last := at_ } { s with time := { s.time with shelf := e.stamp.time } }
  let s2 := takeAndPerform i e.stamp.time s1
  let y := shardAt s2 e.shard
  putShard { y with last := if y.last.lt x.last then x.last else y.last } { s2 with time := { s2.time with shelf := s.time.shelf } }

/-- The splice entries of the command of an admission record: those of its context and tag before the next admission under them (R446). -/
def spliceOf (rs : List MirrorRec) (r : MirrorRec) : List MirrorRec :=
  let same (x : MirrorRec) : Bool := x.ctx == r.ctx && x.tag == r.tag && decide (r.num < x.num)
  let next := rs.find? (fun x => x.kind == 1 && same x)
  rs.filter (fun x => x.kind == 2 && same x && next.all (fun y => decide (x.num < y.num)))

/-- The handle of an open object is that of its leaf entry, which the splice entry carries: kind 3, no removal, an entry of kind 3 (05 R124; 07
Table 7.6; 06 Table 6.2). -/
def takeHandle (e : MirrorRec) (s : State) : State :=
  let b := e.data.drop 32
  let leaf (at_ n : Nat) : Nat := leValue ((b.drop at_).take n)
  if leValue (e.data.take 1) = 3 ∧ leValue ((e.data.drop 26).take 1) = 0 ∧ leaf 34 1 = 3 then
    match objAt s (leaf 32 2) (BitVec.ofNat 256 (leaf 0 32)) with
    | some o => putObj { o with handle := BitVec.ofNat 64 (leaf 88 8) } s
    | none => s
  else s

/-- A mutation that stands, with nothing of its completion. -/
def stands (i : Instr) (es : List MirrorRec) (s : State) : State :=
  match es with
  | [] => s
  | e :: _ =>
    let s1 := standing i e s
    es.foldl (fun acc x => takeHandle x acc) { s1 with held := s.held, trn := s.trn, block := { s1.block with inFlight := s.block.inFlight } }

/-- A record of the partner that stands on the members: a push that later commands read, or a mutation of a shard taken (R453; 06 R170). -/
def takeLanded (rs : List MirrorRec) (shards : List Nat) (x : MirrorRec × Option Ctx) (s : State) : State :=
  if x.1.kind = 3 then pushStands x.1 s
  else
    match x.1.cmd with
    | none => s
    | some i =>
      let es := (spliceOf rs x.1).filter (fun e => shards.contains e.shard && decide ((shardAt s e.shard).seen < e.num))
      let n := partnerCtx x.1.ctx
      let s1 := match x.2 with
        | some c => if (ctxAt s n).isSome then s else { s with trn := { s.trn with ctxs := s.trn.ctxs ++ [c] } }
        | none => s
      let s2 := stands (shiftCtx i) es s1
      { s2 with trn := s.trn }

/-- A record of the mirror in the order across streams, with the context it came on. -/
def withCtx (s : State) (r : MirrorRec) : MirrorRec × Option Ctx := ({ r with num := s.pair.recBase + r.num }, ctxAt s (partnerCtx r.ctx))

/-- What shards hold that this module did not sequence itself: the mutations that stand on the members, in stream order; those of `more` are among
them (06 R170). -/
def readLanded (shards : List Nat) (more : List MirrorRec) (s : State) : State :=
  let xs := s.pair.landed ++ more.map (withCtx s)
  let rs := (s.pair.landed ++ s.pair.mirror.map (withCtx s)).map (fun x => x.1)
  let s1 := (sortOn (fun (x : MirrorRec × Option Ctx) => x.1.num) xs).foldl (fun acc x => takeLanded rs shards x acc) s
  idleFromStamp shards
    { s1 with log := { s1.log with shards := mapIf (fun x => shards.contains x.num) (fun x => { x with seen := s.pair.recBase + s.pair.recvNum }) s1.log.shards } }

/-- What the survivor does for one admission record that is not retired (R453). -/
def resumeRecord (r : MirrorRec) (s : State) : State :=
  match r.cmd with
  | none => s
  | some i0 =>
    let i := shiftCtx i0
    let sent := s.pair.mirror.filter (fun x => x.kind == 4 && x.ctx == r.ctx && x.tag == r.tag && decide (r.num < x.num))
    let es := spliceOf s.pair.mirror r
    if !sent.isEmpty then sent.foldl (fun acc x => sendRecorded x acc) (stands i es s)
    else
      match es with
      | e :: _ => es.foldl (fun acc x => takeHandle x acc) (standing i e s)
      | [] => takeAndPerform i (now s) s

/-- What the survivor does for a record it holds: a push stands in its region, a command is resumed (R453). -/
def takeRecord (r : MirrorRec) (s : State) : State :=
  if r.kind = 3 then pushStands r s else if r.kind = 1 then resumeRecord r s else s

/-- This module's own forwarded commands, which it now performs itself. -/
def resumeForwarded (s : State) : State :=
  s.pair.forwarded.foldl (fun acc f => perform f.cmd (now acc) acc) { s with pair := { s.pair with forwarded := [] } }

/-- The members' preempts have all ended (R451 step 3). -/
def fenceDone (s : State) : Bool :=
  decide (2 ≤ s.pair.won.length) && !(allSlots.any (fun n => (portAt s n).cmds.any (fun c => c.purpose == .reservation 1)))

/-- The figures and status of a takeover (Table 18.5). -/
def takeoverFigures (since : Nat) (s : State) : State :=
  let ms := ceilDiv (mono s - since) msU
  let s1 := raise stPAIR 0 noInst (setFigure 0x08000058 ms (bumpFigure 0x08000054 1 s))
  if 50 < ms then raise stPAIR 5 noInst s1 else s1

/-- The survivor's takeover, in the order of Table 18.3: pool, lanyard, addresses, shards, contexts, commands. -/
def takeAll (since : Nat) (s : State) : State :=
  let taken := partnerShards s
  let s1 := { s with
    pair := { s.pair with mode := .alone, leader := true, detected := none, deferTo := none, unacked := [], moving := none },
    time := { s.time with follower := false },
    log := { s.log with bothPools := true, splice := s.log.splice.map (fun e => { e with mirrored := true }) } }
  let s2 := claimAddresses (closePartner s1)
  let mine (p : Partition) : Bool := taken.any (fun x => x.num == p.shard)
  let s3 := taken.foldl (fun acc x => putShard (takeShard acc x) acc)
    { s2 with idx := { s2.idx with parts := mapIf mine (fun p => { p with stale := true }) s2.idx.parts } }
  let nums := taken.map (fun x => x.num)
  let s4 := takeSenders (readLanded nums [] (takeRegions s3))
  let s5 := s4.pair.mirror.foldl (fun acc r => takeRecord r acc) s4
  let s6 := resumeForwarded { s5 with pair := { s5.pair with mirror := [], landed := [] } }
  let s7 := resumeFormats nums (takeHitches s6)
  let s8 := resumeSanitise ((s7.obj.erasures.filter (fun e => e.q.call.mbx == noPlace)).foldl (fun acc e => resumeErasure e acc) s7)
  let qs := (s8.trn.ctxs.filter (fun c => c.outMsgs.any (fun o => o.queued))).map (fun c => c.num)
  takeCeremonies (takeoverFigures since (settle (qs.foldl (fun acc n => pumpOut n acc) s8)))

/-- TAKEOVER: once the fence is won and every other member is preempted (R451, R452; 24 R538). -/
def execTakeover (s : State) : Host.Outcome State Fault Refusal :=
  .next (match s.pair.detected with
    | some d => if (s.pair.mode == .paired || s.pair.mode == .handshake) && fenceDone s then takeAll d s else s
    | none => s)

/-! ## Rejoin and handover (R455, R456) -/

/-- A returning module registers its reservation key on every member and opens a new lanyard; it owns no data shard until one is handed
back (R455). -/
def returnToPair (s : State) : State :=
  let s1 := (allSlots.filter (fenceable s)).foldl (fun acc n => reservationCmd n 2 acc) s
  let s2 := match s1.fix.current with
    | some l => { s1 with fix := { s1.fix with current := none, past := s1.fix.past ++ [{ l with isOpen := false }] } }
    | none => s1
  let s3 := openLanyard s2
  { s3 with log := { s3.log with shards := s3.log.shards.map (fun x => if x.num < 64 then { x with owned := false } else x) } }

/-- PAIR_REJOIN: the pair that was REJOINING is PAIRED (R455). -/
def execPairRejoin (s : State) : Host.Outcome State Fault Refusal :=
  .next (if s.pair.mode == .rejoining && decide (0 < s.pair.lanes) then startMirror (if s.pair.survivor then s else returnToPair s) else s)

/-- The owner's side of a move: it stops admitting, and once what it admitted has ended it sends its highest stamp and gives the shard
up (R456 steps 1 to 3). -/
def giveShard (n : Nat) (s : State) : State :=
  let x := shardAt s n
  if shardBusy s n then putShard { x with moving := true } { s with pair := { s.pair with moving := some n } }
  else
    let s1 := putShard { x with owned := false, moving := false } { s with pair := { s.pair with moving := none } }
    let s2 := send (msg .pair .feed 0x100 n 0 (cstampFlds x.last)) s1
    { s2 with pair := { s2.pair with handNow := s2.pair.handNow && (nextMove s2).isSome } }

/-- SHARD_HANDOVER: the shard named is this module's and homed on the partner, and is the next to move; or its owner hands it over with
its highest stamp, from which the sequencer starts (R456; 03 R89). It waits until both modules are in Run (22 R523). -/
def execShardHandover (shard stampTime stampSeq : Nat) (s : State) : Host.Outcome State Fault Refusal :=
  if s.pair.mode != .paired || decide (64 ≤ shard) then .next s
  else if nextMove s = some shard then
    .next (if (pPairCtrl s = 1 ∨ s.pair.handNow) ∧ s.pst.mode = .run ∧ s.pst.partner = .run then giveShard shard s else s)
  else
    let x := shardAt s shard
    if x.owned || !homedHere s shard then .next s
    else
      let st : CStamp := { time := stampTime, seq := stampSeq }
      let s1 := readLanded [shard] s.pair.mirror (takeRegions s)
      let y := shardAt s1 shard
      .next (putShard { y with owned := true, ready := true, moving := false, last := if x.last.lt st then st else x.last } { s1 with reg := s.reg })

/-! ## Forwarding (R448) -/

/-- FORWARDED_COMMAND: the owner of the shard admits the command to it and performs it, or lets it wait for admission; what it answers
goes back over the pair link. -/
def execForwardedCommand (_num : Nat) (capsule : Instr) (s : State) : Host.Outcome State Fault Refusal :=
  let i := shiftCtx capsule
  match hostCmd i with
  | none => .next s
  | some c =>
    if s.pair.mode != .paired || (ctxAt s c.ctx).isNone then .next s
    else
      let s1 := wake 3 s
      if admitsNow s1 false c then .next (takeAndPerform i (now s1) s1)
      else .next { s1 with block := { s1.block with waiting := s1.block.waiting ++ [waitingAt (now s1) false i s1] } }

/-- The completion the receiving module sends for a forwarded command. -/
def forwardedMsg (s : State) (i : Instr) (c : HostCmd) (status : Status) (st : CStamp) (data : Bytes) : Msg :=
  if c.uop then
    let x : Src := { who := .tenant (meterOf s c.ctx), port := .ctx c.ctx, op := 0, tag := c.tag, ingress := now s }
    let op := keepSafeAnswer.uopOp i
    { uopMsg x (dummyHdr op c.tag) 0 status.toNat st [] data with op := op }
  else nvMsg c.ctx c.tag 0 status.toNat 0 [] data
where
  /-- A header that carries an opcode and a tag. -/
  dummyHdr (op tag : Nat) : UopHdr :=
    { version := 1, opcode := BitVec.ofNat 8 op, tag := BitVec.ofNat 8 tag, flags := 0, coll := 0, nameLen := 0, bodyLen := 0, addressing := 0,
      rsvA := 0, handle := 0, rsvB := 0, mac := 0 }

/-- Where a command asks for its data to be placed (05 R121, kind 3). -/
def dataPlace : Instr → Option (Nat × Nat)
  | .get _ _ b => if b.desc.kind.toNat = 3 then some (b.desc.key.toNat, b.desc.addr.toNat) else none
  | .list _ _ b => if b.desc.kind.toNat = 3 then some (b.desc.key.toNat, b.desc.addr.toNat) else none
  | _ => none

/-- FORWARD_REPLY: the receiving module reads the extents it is given through its own drive ports and sends the completion (R448). -/
def execForwardReply (num : Nat) (status : Status) (stampTime stampSeq : Nat) (extents : List (Nat × Nat)) (data : Bytes) (s : State) :
    Host.Outcome State Fault Refusal :=
  .next (match s.pair.forwarded.find? (fun f => f.num == num) with
    | none => s
    | some f =>
      match hostCmd f.cmd with
      | none => s
      | some c =>
        let s1 := wake 3 { s with pair := { s.pair with forwarded := dropIf (fun x => x.num == num) s.pair.forwarded } }
        let m := forwardedMsg s1 f.cmd c status { time := stampTime, seq := stampSeq } data
        let id := s1.nextId
        readFor (meterOf s1 c.ctx) (if c.uop then 1 else 2) ((c.coll.orElse (fun _ => c.nsid)).getD 0) id extents
          (hold { heldAt m (now s1) with remote := dataPlace f.cmd } s1))

end Machine
end Sys2Proof
end

