-- ==== Sys2Proof/Machine/PairMsgs.lean ====
section
/-!
DEFINITION. The state-class messages of the pair link: what the partner reports and this module applies (18 R443; 02 R42; 07 R195; 08 R215;
10 R266; 20 R488; 21 R502, R506, R507; 22 R519).
-/
namespace Sys2Proof
namespace Machine

/-! ## Members (08 R215) -/

/-- A state of the partner for a member: FAILED by either is FAILED for both, and a member that this module still counts strikes for stays
SUSPECT (08 R215, Table 8.1). -/
def mateMember (slot : Fin 24) (code : Nat) (s : State) : State :=
  let m := memberAt s slot
  if code = 4 then failMember slot s
  else if m.state == .failed && (code = 2 || code = 3) then s
  else if code = 3 then if m.state == .healthy then setMemberState slot .suspect s else s
  else if code = 2 then if m.state == .suspect && !m.strikes.isEmpty then s else setMemberState slot .healthy s
  else if code = 0 then setMemberState slot .absent s
  else if code = 1 then setMemberState slot .joining s
  else if code = 5 then setMemberState slot .restoring s
  else s

/-! ## Contexts (12 R328; 18 R452; log entry 32) -/

/-- The kind of a partner's context: a Bryndle service, or 16 and 17 for an NVMe and a UOP queue pair under its session. -/
def mateKind (service parent : Nat) : CtxKind :=
  if service = 16 then .qp (partnerCtx parent) false else if service = 17 then .qp (partnerCtx parent) true else .bryndle service

/-- A context of the partner is set up, changes its key phase or closes. -/
def mateCtx (x : CtxIn) (s : State) : State :=
  let n := partnerCtx x.num
  if x.alive then
    let c := (ctxAt s n).getD (newCtx s n (mateKind x.service x.parent) x.who x.mac x.payload x.depth 0)
    putCtx { c with gen := x.gen, who := x.who, grant := x.who.grant?, depth := x.depth, mac := x.mac, payload := x.payload, peer := x.peer,
                    src := x.src, txPhase := x.txPhase, rxPhase := x.rxPhase, keys := x.keys, spiIn := x.spiIn, spiOut := x.spiOut } s
  else { s with trn := { s.trn with ctxs := dropIf (fun c => c.num == n) s.trn.ctxs } }

/-! ## Segments (07 R195) -/

/-- The segments of one parity from a first one. -/
def batchOf (first count : Nat) : List Nat := (List.range count).map (fun i => first + 2 * i)

/-- A grant of the partner: its segments join the pool, with a kind 6 entry (07 R195). -/
def takeGrant (first count : Nat) (s : State) : State :=
  segEntry (custodyShard s) first 0 { s with log := { s.log with granted := s.log.granted ++ batchOf first count } }

/-- A batch of 1,024 segments that may be granted: all FREE and in this module's pool. -/
def mayGive (s : State) (j : Nat) : Bool :=
  let lo := 2048 * j + (if s.pair.isB then 1 else 0)
  let mine (n : Nat) : Bool := decide (lo ≤ n) && decide (n < lo + 2048) && n % 2 == lo % 2
  decide (0 < lo) && decide (lo + 2046 < s.log.segCount) && !s.log.segs.any (fun g => mine g.num) && !s.log.given.any mine

/-- The partner asks for segments: the highest batch that is wholly FREE is granted, with a kind 6 entry (07 R195; DESIGN CHOICE, log
entry 36). -/
def giveGrant (s : State) : State :=
  if s.pair.mode != .paired then s
  else
    match ((List.range (s.log.segCount / 2048)).reverse).find? (mayGive s) with
    | none => s
    | some j =>
      let lo := 2048 * j + (if s.pair.isB then 1 else 0)
      pairState 3 [(4, lo), (4, 1024)]
        (segEntry (custodyShard s) lo 0 { s with log := { s.log with given := s.log.given ++ batchOf lo 1024 } })

/-! ## Record banks (10 R264, R266) -/

/-- The partner has changed the custodian set: this module has enrolled its keys too, its target has changed, and connections of keys that
left it close (02 R32, R38, R39, R41). -/
def mateSet (k : Nat) (keys : List Digest) (escrow : Option Digest) (s : State) : State :=
  let s1 := (escrow.toList).foldl (fun acc e => takeRole e .escrow acc) (keys.foldl (fun acc x => takeRole x .custodian acc) s)
  let s2 := touch .custodianSet { s1 with auth := { s1.auth with quorumK := k, custKeys := keys, escrowKey := escrow } }
  let left (p : Principal) : Bool := match p with
    | .custodian x => !keys.contains x
    | _ => false
  closeConns (fun c => left c.who) (closeAll eSession (fun c => left c.who) s2)

/-- A tenant's record: its root key with its wraps and its quota (02 R43, R45). The state stamp of a tenant already known moves (02 R39,
R41). -/
def bankTenant (num epoch : Nat) (key : Digest) (quota : QuotaRec) (root : BitVec 256) (escrow : Option EscrowIn) (s : State) : State :=
  let k : BitVec 512 := root.setWidth 512
  let wrap : Option EscrowWrap := match escrow, s.auth.escrowKey with
    | some w, some e => some { escrow := e, ephemeral := w.ephemeral, ct := w.ct, wrapped := w.wrapped, stamp := kstamp s }
    | _, _ => none
  match tenantAt s num with
  | some _ =>
    let (st, s1) := sequence (custodyShard s) s
    let set (t : Tenant) : Tenant := { t with key := key, root := s.auth.shelfKey.map (fun _ => k), wrap := some k, media := some k, escrow := wrap, epoch := epoch, quota := quota,
                                              stamp := st }
    { s1 with obj := { s1.obj with tenants := mapIf (fun t => t.num == num) set s1.obj.tenants } }
  | none =>
    let t : Tenant := { num := num, key := key, root := s.auth.shelfKey.map (fun _ => k), wrap := some k, media := some k, escrow := wrap, enrolled := kstamp s, epoch := epoch,
                        quota := quota, stamp := noStamp, probes := 0, hits := 0, red := 0, drops := 0 }
    let s2 := { s with obj := { s.obj with tenants := s.obj.tenants ++ [t], everTenant := true,
                                           epochs := (num, epoch) :: s.obj.epochs.filter (fun x => x.1 != num) } }
    let s3 := takeRole key (.tenant num) (putBuckets (fullBuckets num quota.sched) s2)
    (takeShare num quota.hintShare.toNat s3).getD s3

/-- A collection's record with its locks. -/
def bankColl (num tenant geometry : Nat) (durable : Bool) (shard : Nat) (locks : List LockIn) (s : State) : State :=
  let old := collAt s num
  let c : Coll := { num := num, tenant := tenant, geometry := geometry, durable := durable, shard := shard,
                    state := (old.map (fun x => x.state)).getD .active, stamp := (old.map (fun x => x.stamp)).getD noStamp,
                    closed := (old.map (fun x => x.closed)).getD false }
  let held : List Lock := locks.map (fun l => { num := l.num, expiry := l.expiry, reason := l.reason, issuer := l.issuer })
  let rest := s.obj.locks.filter (fun l => !(l.coll == num && l.mac.isNone))
  { s with obj := { s.obj with colls := putBy (fun x => x.num == num) c s.obj.colls,
                               locks := if held.isEmpty then rest
                                 else rest ++ [{ coll := num, mac := none, locks := held, stamp := noStamp }] } }

/-- A namespace's record with its format salt (04 R100). -/
def bankNs (num nsid tenant ncap : Nat) (format1 : Bool) (piType : Nat) (piFirst : Bool) (geometry shard : Nat) (salt : Digest) (s : State) : State :=
  match nsNum s num with
  | some n =>
    putNs { n with nsid := nsid, tenant := tenant, ncap := ncap, format1 := format1, piType := piType, piFirst := piFirst, geometry := geometry,
                   shard := shard, salt := some salt } s
  | none =>
    putNs { num := num, nsid := nsid, tenant := tenant, ncap := ncap, format1 := format1, piType := piType, piFirst := piFirst,
            geometry := geometry, shard := shard, salt := some salt, lbas := [], registrants := [], holder := none, ptpl := false,
            resGen := 0, resMask := 0, fphase := none, oldSalt := none, deleting := false, resuming := false, sanitising := false, created := noStamp, reads := 0, writes := 0,
            unitsR := 0, unitsW := 0, mediaErr := 0 } s

/-- One record of the banks that changes. -/
def bankRec (r : BankRec) (s : State) : State :=
  match r with
  | .custodians k keys escrow => if legalSet k keys then mateSet k keys escrow s else s
  | .tenant num epoch key quota root escrow => bankTenant num epoch key quota root escrow s
  | .tenantGone num => forgetTenant num s
  | .coll num tenant geometry durable shard locks => bankColl num tenant geometry durable shard locks s
  | .collGone num => dropColl num s
  | .ns num nsid tenant ncap format1 piType piFirst geometry shard salt => bankNs num nsid tenant ncap format1 piType piFirst geometry shard salt s
  | .nsGone num => (nsNum s num).elim s (fun n => forgetNs n s)

/-- Bank content of the partner: its change is applied; the module that writes the banks carries it in its next generation; the other
follows the generation being written, which every bank holds at the end (10 R266). -/
def mateBank (gen : Nat) (held : Bool) (recs : List BankRec) (s : State) : State :=
  let s1 := recs.foldl (fun acc r => bankRec r acc) s
  if held then
    let s2 := { s1 with mem := { s1.mem with bankGen := gen, bankStep := 0 } }
    (descriptorSlots s2).foldl (fun acc n => putMember n { memberAt acc n with bankA := gen, bankB := gen } acc) s2
  else if writesBanks s1 then (changeBanks s1).2
  else { s1 with mem := { s1.mem with bankGen := gen, bankStep := 1 } }

/-! ## Recorded phases (04 R115, R118; 05 R146) -/

/-- The act that runs a recorded phase, with no connection of this module to answer. -/
def mateAct (op : Nat) (statement body : Digest) (signers : List Digest) : QCtx :=
  { call := mateCall noPlace, rop := op, op := op, id := statement, body := body, stmt := [],
    signers := signers }

/-- The opcode of TENANT_ERASE (19 Table 19.3). -/
def opTenantErase : Nat := actOp (.tenantErase 0 0)

/-- A phase of a shelf-wide sanitise: the partner runs it too, on its own lanyard, keys, sessions and vault; what is written to the drives is
written once, by the module that runs the act (04 R118). -/
def matePhaseSan (phase : Nat) (statement : Digest) (s : State) : State :=
  let x : ShelfSanitise := { phase := phase, statement := (s.block.shelfSan.map (fun y => y.statement)).getD statement, progress := List.replicate 24 0 }
  let s1 := { s with block := { s.block with shelfSan := some x } }
  if phase = 1 then sanSign statement (targetStamp s1 .shelf) s1
  else if phase = 2 then sanKeys (closeAll eSession (fun _ => true) s1)
  else if phase = 3 then sanWraps s1
  else if phase = 4 then s1
  else if phase = 5 then blankShelf s1
  else { s with block := { s.block with shelfSan := none } }

/-- A phase that the partner records. -/
def matePhase (kind num phase : Nat) (statement body : Digest) (signers : List Digest) (s : State) : State :=
  if kind = 1 then
    let set (n : Ns) : Ns := { n with fphase := if 1 ≤ phase ∧ phase ≤ 4 then some phase else none }
    { s with block := { s.block with nss := mapIf (fun n => n.num == num) set s.block.nss } }
  else if kind = 2 then
    let e : Erasure := { tenant := num, phase := phase, q := mateAct opTenantErase statement body signers }
    let rest := dropIf (fun (x : Erasure) => x.tenant == num) s.obj.erasures
    { s with obj := { s.obj with erasures := if phase = 0 ∨ 5 < phase then rest else putBy (fun x => x.tenant == num) e s.obj.erasures } }
  else if kind = 3 then matePhaseSan phase statement s
  else s

/-! ## Ceremonies (02 R42) -/

/-- A ceremony that the partner began: this module keeps it, and forwards signatures to the partner. -/
def mateCeremony (id : Digest) (act : QAct) (stamp : CStamp) (expiry : Nat) (nonce : Digest) (s : State) : State :=
  let m : Ceremony := { id := id, opcode := actOp act, act := act, bodyDig := actDigest s act, nonce := nonce, target := actTarget act,
                        stamp := stamp, expiry := expiry, signers := [], remote := true, ticked := none }
  { s with auth := { s.auth with ceremonies := putBy (fun x => x.id == id) m s.auth.ceremonies } }

/-- A signature that the partner has counted, or one that it forwards to this module, which holds the ceremony and answers it (R42). -/
def mateSigner (id key : Digest) (s : State) : State :=
  match ceremonyAt s id with
  | none => answerMate id key eQuorum [] s
  | some m =>
    if !m.remote then takeSignature (mateCall matePlace) m key s
    else if m.signers.contains key then s
    else { s with auth := { s.auth with ceremonies := mapIf (fun x => x.id == id) (fun x => { x with signers := x.signers ++ [key] }) s.auth.ceremonies } }

/-- A ceremony that the partner closed. -/
def mateClosed (id : Digest) (s : State) : State :=
  { s with auth := { s.auth with ceremonies := dropIf (fun m => m.id == id) s.auth.ceremonies } }

/-! ## Configuration (20 R488) -/

/-- An overlay of the partner: this module checks it and applies it; its entry is the accepting module's. -/
def mateOverlay (r : OvlRec) (s : State) : State :=
  if (applyRefusal s r).isSome then s
  else if withdraws r then (overlayIn s 7 (recordTenant r)).elim s (fun o => paramEffects s (liftOverlay o s))
  else placeOverlay r s

/-- An overlay that leaves force at the partner leaves it here (20 R488, R489; 22 Table 22.3). -/
def mateLift (cls tenant : Nat) (s : State) : State :=
  match overlayIn s cls tenant with
  | none => s
  | some o =>
    let s1 := paramEffects s (liftOverlay o s)
    let s2 := { s1 with layers := { s1.layers with removing := if cls = 6 then none else s1.layers.removing } }
    if cls = 5 then powerDrives (wake 7 s2) else s2

/-! ## Slot channels (21 R502, R506, R507) -/

/-- The partner's channel of a slot: its state, whether its power good stands, its latch. A kind 1 latch of one channel latches the other,
as kind 3; a member all of whose channels are latched fails (21 R502, R506). -/
def mateChannel (slot : Fin 24) (code kind : Nat) (pg : Bool) (s : State) : State :=
  let f := feedAt s (.slot slot)
  let s1 := putFeed (.slot slot) { f with mateGood := code == 5, matePg := pg, mateLatched := code == 8 } s
  let s2 := if code = 8 ∧ kind = 1 ∧ f.state ≠ .latched then latchChannel (.slot slot) 3 s1 else s1
  let s3 := if slotLatchedOff s2 (feedAt s2 (.slot slot)) then failMember slot s2 else s2
  if slotPg f then darkSlot slot s3 else s3

/-- The slot of a number in a message, where it names one. -/
def onSlot (n : Nat) (f : Fin 24 → State → State) (s : State) : State := if h : n < 24 then f ⟨n, h⟩ s else s

/-! ## The message -/

/-- What a state-class message says is applied. -/
def applyPairState (p : PairState) (s : State) : State :=
  match p with
  | .memberState slot code => onSlot slot (fun n => mateMember n code) s
  | .context x => mateCtx x s
  | .segmentGrant first count => takeGrant first count s
  | .segmentAsk => giveGrant s
  | .bank gen held recs => mateBank gen held recs s
  | .rootTable shard part root gen time seq =>
    putPart { partAt s shard part with root := root, gen := gen, covered := { time := time, seq := seq } } s
  | .phase kind num phase statement body signers => matePhase kind num phase statement body signers s
  | .ceremonyOpen id act stampTime stampSeq expiry nonce => mateCeremony id act { time := stampTime, seq := stampSeq } expiry nonce s
  | .ceremonySigner id key => mateSigner id key s
  | .ceremonyAnswer id key status body => mateAnswer id key status body s
  | .ceremonyClosed id => mateClosed id s
  | .overlay r => mateOverlay r s
  | .overlayGone cls tenant => mateLift cls tenant s
  | .baseImage b => if (imageRefusal_ s b).isSome then s else placeImage b s
  | .yield => { s with pair := { s.pair with yielded := true } }
  | .slotEnable slot on => onSlot slot (fun n => if on then enableSlot n else disableSlot n) s
  | .channel slot code kind pg => onSlot slot (fun n => mateChannel n code kind pg) s
  | .latchClear slot => onSlot slot clearOwnLatch s
  | .hitch v => mateHitch v s
  | .hitchSeq id sent received => mateSeq id sent received s
  | .hitchNotice id coll mac lock time seq => mateNotice id coll mac lock { time := time, seq := seq } s
  | .drivesQuiet on => advanceDown { s with pst := { s.pst with mateDown := on } }

/-- PAIR_STATE_MESSAGE (R443): the message is applied, while the pair link carries it; a message of the partner wakes the module (22 Table
22.3). -/
def execPairStateMessage (state : PairState) (s : State) : Host.Outcome State Fault Refusal :=
  .next (if !s.pair.pairShelf || s.pair.lanes = 0 then s else applyPairState state (wake 3 s))

/-! ## Time (03 R72) -/

/-- The Shelf Time state a message of the pair carries (03 Table 3.7). -/
def tsModeOf (n : Fin 4) : TsMode :=
  match n with
  | 0 => .freerun
  | 1 => .acquiring
  | 2 => .locked
  | 3 => .holdover

/-- PAIR_TIME_MESSAGE: the follower disciplines its Shelf Time to the leader, by a step before it serves and by slewing after, and takes the
leader's state to report; the leader only notes the offset. Beyond 50 ns TS_STATUS bit 5 is set (R67, R72, R90, R447). `offset` is this
module's time less the partner's, in ns; `mode` the partner's Shelf Time state. -/
def execPairTimeMessage (offset : Int) (mode : Fin 4) (s : State) : Host.Outcome State Fault Refusal :=
  if s.pair.lanes = 0 then .next s
  else
    let d := offset * (nsU : Int)
    let s1 :=
      if !s.time.follower then { s with time := { s.time with pairOffset := offset } }
      else if s.boot.open_ then { s with time := { s.time with pairOffset := offset, leadMode := tsModeOf mode, slewLeft := -d } }
      else { s with time := { s.time with pairOffset := 0, leadMode := tsModeOf mode, aligned := true,
                                          shelf := (((s.time.shelf : Nat) : Int) - d).toNat } }
    .next (tryOpen (if 50 < s1.time.pairOffset.natAbs then raise stTS 5 noInst s1 else s1))

end Machine
end Sys2Proof
end

