-- ==== Sys2Proof/Machine/ParamSet.lean ====
section
/-!
DEFINITION. The commands that read and write parameters: PARAM_GET, PARAM_SET, and the writes that the table lists by themselves, each a
PARAM_SET of the words its field takes (19 R473, R474).
-/
namespace Sys2Proof
namespace Machine

/-! ## PARAM_GET (19 R473) -/

/-- The multi-word time fields: first address and words (03 Table 3.7, R90). -/
def timeFields : List (Nat × Nat) := [(0x01000004, 3), (0x01000010, 4), (0x01000054, 2)]

/-- The latched words after a read of `n` words from `a`: a field whose lowest word is read is latched whole (03 R90). -/
def latchTime (s : State) (a n : Nat) : List (Nat × Nat) :=
  timeFields.foldl (fun l f =>
    if a ≤ f.1 ∧ f.1 < a + 4 * n then
      (List.range f.2).foldl (fun l k => putBy (fun x => x.1 == f.1 + 4 * k) (f.1 + 4 * k, readWord s (f.1 + 4 * k)) l) l
    else l) s.time.latch

/-- A word as a read returns it: a word of a multi-word time field is the latched one, where its lowest word has been read. -/
def getWord (s : State) (latch : List (Nat × Nat)) (a : Nat) : Nat :=
  match latch.lookup a with
  | some v => v
  | none => readWord s a

/-- PARAM_GET: words of one block's map, all read at one instant (19 R473; 02 R53). -/
def execParamGet (c : Call) (addr : Word32) (count : Word16) (s : State) : Host.Outcome State Fault Refusal :=
  .next (mailboxCmd c 0x0102 .nothing isCustOper (fun _ s =>
    let a := addr.toNat
    let n := count.toNat
    let last := a + 4 * (n - 1)
    if n = 0 ∨ 1024 < n ∨ !addrOk a ∨ !addrOk last ∨ a / 2 ^ 24 ≠ last / 2 ^ 24 then reply c 0x0102 eRange [] s
    else
      let latch := latchTime s a n
      let words := (List.range n).map (fun k => (4, getWord s latch (a + 4 * k)))
      let s1 := { s with time := { s.time with latch := latch } }
      reply c 0x0102 sOk words (if a / 2 ^ 24 = 0x0B then (free s1).2 else s1)) s)

/-! ## PARAM_SET (19 R474) -/

/-- PARAM_SET: a set of 1 to 64 entries. -/
def execParamSet (c : Call) (count : Word16) (entries : List ParamWrite) (s : State) : Host.Outcome State Fault Refusal :=
  .next (paramSetCmd c count.toNat entries s)

/-- One entry of a set. -/
def entry (addr mask value : Nat) : ParamWrite :=
  { addr := BitVec.ofNat 32 addr, mask := BitVec.ofNat 32 mask, value := BitVec.ofNat 32 value }

/-- The address of a field of a unit of which there are `n`; there is none beyond them. -/
def unitAddr (base stride n k : Nat) : Nat := if k < n then base + stride * k else 0xFFFFFFFC

/-- TS_STATUS_CLEAR: TS_STATUS bit 0 is cleared, and Shelf Time may return to PTP (03 R70). -/
def execTsStatusClear (c : Call) (s : State) : Host.Outcome State Fault Refusal := .next (paramSetCmd c 1 [entry stTS 1 1] s)

/-- SCRUB_START: STR_SCRUB_CTRL; ignored while a pass runs (08 R234). -/
def execScrubStart (c : Call) (s : State) : Host.Outcome State Fault Refusal := .next (paramSetCmd c 1 [entry 0x1000015C 1 1] s)

/-- MAC_PORT_MODE_WRITE (14 R357). -/
def execMacPortModeWrite (c : Call) (port mode : Nat) (s : State) : Host.Outcome State Fault Refusal :=
  .next (paramSetCmd c 1 [entry (unitAddr 0x02000100 0x40 4 port) 3 mode] s)

/-- MAC_PORT_RESTART (14 R370). -/
def execMacPortRestart (c : Call) (port : Nat) (s : State) : Host.Outcome State Fault Refusal :=
  .next (paramSetCmd c 1 [entry (unitAddr 0x02000108 0x40 4 port) 1 1] s)

/-- MOV_ABORT: the channels of a mask of 64 (16 R414). -/
def execMovAbort (c : Call) (channels : Word64) (s : State) : Host.Outcome State Fault Refusal :=
  .next (paramSetCmd c 2 [entry 0x05000018 0xFFFFFFFF (channels.toNat % 2 ^ 32), entry 0x0500001C 0xFFFFFFFF (channels.toNat / 2 ^ 32)] s)

/-- SLOT_RESET: DRV_PORT_CTRL bit 0 (17 R432). -/
def execSlotReset (c : Call) (slot : Nat) (s : State) : Host.Outcome State Fault Refusal :=
  .next (paramSetCmd c 1 [entry (unitAddr 0x06000104 0x20 24 slot) 1 1] s)

/-- SEP_CTRL_WRITE: the endpoint trains only while bit 0 is set (17 R433). -/
def execSepCtrlWrite (c : Call) (enable : Bool) (s : State) : Host.Outcome State Fault Refusal :=
  .next (paramSetCmd c 1 [entry 0x07000004 1 enable.toNat] s)

/-- SEP_MBX_MAP_WRITE (17 R434). -/
def execSepMbxMapWrite (c : Call) (map : Word64) (s : State) : Host.Outcome State Fault Refusal :=
  .next (paramSetCmd c 2 [entry 0x07000008 0xFFFFFFFF (map.toNat % 2 ^ 32), entry 0x0700000C 0xFFFFFFFF (map.toNat / 2 ^ 32)] s)

/-- PAIR_HOME_WRITE (18 R442). -/
def execPairHomeWrite (c : Call) (low high : Word32) (s : State) : Host.Outcome State Fault Refusal :=
  .next (paramSetCmd c 2 [entry 0x08000010 0xFFFFFFFF low.toNat, entry 0x08000014 0xFFFFFFFF high.toNat] s)

/-- PAIR_CTRL_HANDOVER: a write of 1 to PAIR_CTRL bit 1 (18 R456). -/
def execPairCtrlHandover (c : Call) (s : State) : Host.Outcome State Fault Refusal := .next (paramSetCmd c 1 [entry 0x08000028 2 2] s)

/-- REEVE_START: a write of 1 to TET_CTRL bit 0 (18 R459). -/
def execReeveStart (c : Call) (s : State) : Host.Outcome State Fault Refusal := .next (paramSetCmd c 1 [entry 0x09000010 1 1] s)

/-- SLOT_CH_CTRL: a write of 1 clears a slot channel's latch (21 R507). -/
def execSlotChCtrl (c : Call) (slot : Nat) (value : Word32) (s : State) : Host.Outcome State Fault Refusal :=
  .next (paramSetCmd c 1 [entry (unitAddr 0x0B00010C 0x20 24 slot) 1 value.toNat] s)

end Machine
end Sys2Proof
end

