-- ==== Sys2Proof/Machine/Regions.lean ====
section
/-!
DEFINITION. Timers and ends of landing regions, and the trigger engine's work requests and exceptions (13 R342 to R353).
-/
namespace Sys2Proof
namespace Machine

/-! ## Refusals and drains (R342 to R345) -/

/-- REGION_REFUSAL_TIMEOUT: W after a refusal its session closes, although a message of lower sequence is still not whole (R344). -/
def execRegionRefusalTimeout (ctx seq : Nat) (s : State) : Host.Outcome State Fault Refusal :=
  .next (
    match (ctxAt s ctx).filter (fun c => !c.closing && !packetHeld s ctx) with
    | none => s
    | some c =>
      if c.inMsgs.any (fun m => m.refused && m.seq == seq && confirmed s m.first (freshW c)) then closeCtx eRegion ctx s else s)

/-- PUSH_ABANDON_TIMEOUT: the dead time after r the RoCE v2 pushes of a region are abandoned (R345). -/
def execPushAbandonTimeout (owner : Nat) (s : State) : Host.Outcome State Fault Refusal :=
  .next (
    match regionAt s owner, ctxAt s owner with
    | some r, some c =>
      if r.phase == .revoking && !packetHeld s owner && confirmed s r.revoked (deadW c) then
        putRegion { r with pushes := dropIf (fun p => (ctxAt s p.1).any isQp) r.pushes } s
      else s
    | _, _ => s)

/-- A region is DRAINED: it is zeroed and returned, its entries are freed, and the context of an owner that has closed is freed (R342,
R345, R352). -/
def drainRegion (r : Region) (c : Ctx) (s : State) : State :=
  let ms := ceilDiv (mono s - r.revoked) msU
  let s1 := { s with reg := { s.reg with regions := dropIf (fun x => x.owner == r.owner) s.reg.regions,
                                         mem := memZero r.base r.size s.reg.mem,
                                         triggers := dropIf (fun t => t.ctx == r.owner) s.reg.triggers } }
  let s2 := setFigure 0x1200011C (max ms (figure s1 0x1200011C)) s1
  let s3 := if deadW c < mono s - r.revoked then raise stRG 4 noInst s2 else s2
  if c.closing then freeCtx r.owner s3 else s3

/-- REGION_DRAINED: every push admitted against the region is delivered or abandoned, and no packet stamped at or before r can still
come to be decided (R342, R343). -/
def execRegionDrained (owner : Nat) (s : State) : Host.Outcome State Fault Refusal :=
  .next (
    match regionAt s owner, ctxAt s owner with
    | some r, some c =>
      if r.phase == .revoking && r.pushes.isEmpty && confirmed s r.revoked 0 &&
          !s.reg.triggers.any (fun t => t.ctx == owner && t.state == .firing) then drainRegion r c s
      else s
    | _, _ => s)

/-! ## Work requests (R349, R350, R353) -/

/-- The hitch whose session a context is. -/
def hitchOn (s : State) (ctx : Nat) : Option Hitch := s.hitch.list.find? (fun h => h.ctx == some ctx)

/-- The stream an entry serves. -/
def trigStream (t : TrigEntry) : Nat := t.matchVal.toNat / 256 + 1

/-- A target's slot that landed first on a stream is freed (Table 13.4). -/
def freeSlot (id : BitVec 128) (stream : Nat) (s : State) : State :=
  let upd (h : Hitch) : Hitch :=
    match h.landed.find? (fun x => x.1 == stream) with
    | some x => { h with landed := h.landed.erase x, credits := h.credits ++ [x] }
    | none => h
  mapHitch id upd s

/-- CREDIT with the freed slots of a stream, at most 16 (Tables 11.6, 13.4). -/
def postCredit (id : BitVec 128) (stream : Nat) (s : State) : State :=
  match hitchAt s id with
  | none => s
  | some h =>
    let slots := (h.credits.filter (fun x => x.1 == stream)).take 16
    let bits := (slots.map (fun x => 2 ^ x.2)).sum
    sendMyavo id 0x20 [(2, stream), (6, 0), (32, bits)] (putHitch { h with credits := dropIf (fun x => slots.contains x) h.credits } s)

/-- What a work request does when it completes: a POST sends, a FREE returns a slot; MOVE, CRYPT, FIX and APPEND have worked on bytes the
model handles where they are sent or land (Tables 11.6, 13.3). -/
def requestDone (t : TrigEntry) (w : WorkReq) (s : State) : State :=
  match hitchOn s t.ctx with
  | none => s
  | some h =>
    let id := h.record.id
    if w.kind = 5 then if h.source then endPass id (pumpHitch id (postChunks id (trigStream t) s)) else postCredit id (trigStream t) s
    else if w.kind = 6 then freeSlot id (trigStream t) s
    else s

/-- The end of an entry's list: its count falls, its chain is notified, it is armed or disarmed again, and fires again when it is due; in
a revoked region it is disarmed (R349, R352). -/
def endFiring (t : TrigEntry) (s : State) : State :=
  let revoked := (regionAt s t.ctx).any (fun r => r.phase != .active)
  let last := decide (t.remaining = 1)
  let upd (x : TrigEntry) : TrigEntry :=
    { x with remaining := x.remaining - 1, at_ := 0, state := if last || revoked then .disarmed else .armed }
  let s1 := ((t.chain.bind (fun n => s.reg.triggers.find? (fun x => x.num == n))).filter (fun _ => !revoked)).elim s (fun x => chainNote x s)
  fireIfDue t.num (mapTrig t.num upd s1)

/-- A request on a context that has closed fails when it is a POST (R350). -/
def postFails (s : State) (t : TrigEntry) (w : WorkReq) : Bool := w.kind == 5 && !((ctxAt s t.ctx).any (fun c => !c.closing && c.gen == t.gen))

/-- WORK_REQUEST_COMPLETE: the next request of the list starts, or the list ends; a failure halts the entry (R349, R350). -/
def execWorkRequestComplete (entry : Nat) (status : Status) (s : State) : Host.Outcome State Fault Refusal :=
  .next (
    match s.reg.triggers.find? (fun t => t.num == entry && t.state == .firing) with
    | none => s
    | some t =>
      match t.work[t.at_]? with
      | none => endFiring t s
      | some w =>
        if status.toNat ≠ sOk then haltTrig entry (some t.at_) status.toNat s
        else if postFails s t w then haltTrig entry (some t.at_) eSession s
        else
          let s1 := requestDone t w s
          if t.at_ + 1 < t.work.length then mapTrig entry (fun x => { x with at_ := x.at_ + 1 }) s1 else endFiring t s1)

/-! ## The exception ring (R351) -/

/-- A fault is cleared from an entry. -/
def clearFault (t : TrigEntry) : TrigEntry := { t with faultReq := none, faultCode := 0 }

/-- The cores resolve a fault: 0 re-arm the entry, 1 finish its work themselves, 2 close the context. -/
def serviceFault (t : TrigEntry) (action : Nat) (s : State) : State :=
  match action with
  | 0 => fireIfDue t.num (mapTrig t.num (fun x => { clearFault x with state := .armed, at_ := 0 }) s)
  | 1 =>
    endFiring t ((t.work.drop t.at_).foldl (fun acc w => requestDone t w acc) (mapTrig t.num clearFault s))
  | _ => closeCtx eSession t.ctx s

/-- A record that the cores can serve: a fault, or a notification whose context has no halted entry (R351). -/
def servable (s : State) (e : ExcRec) : Bool :=
  match e with
  | .fault _ => true
  | .notification _ _ _ _ _ | .chained _ _ => !(recCtx s e).any (haltedOn s)

/-- The cores serve a record: a fault is resolved, a notification is matched as it would have been (R351). -/
def serveRec (action : Nat) (e : ExcRec) (s : State) : State :=
  match e with
  | .fault n => (s.reg.triggers.find? (fun t => t.num == n && t.state == .halted)).elim s (fun t => serviceFault t action s)
  | .notification _ _ _ _ _ | .chained _ _ => matchNote e s

/-- EXCEPTION_SERVICE: the cores take the oldest record of the ring that they can serve, so the notifications of a context keep their
order (R351). -/
def execExceptionService (action : Nat) (s : State) : Host.Outcome State Fault Refusal :=
  .next ((s.reg.ring.find? (servable s)).elim s (fun e => serveRec action e { s with reg := { s.reg with ring := s.reg.ring.erase e } }))

end Machine
end Sys2Proof
end

