-- ==== Sys2Proof/Machine/Sched.lean ====
section
/-!
DEFINITION. The scheduler's own events, the QUIET schedule, and a tenant's weights and figures (15).
-/
namespace Sys2Proof
namespace Machine

/-- TOKEN_REFILL: every bucket rises by its rate, never above its burst, and the schedulers serve what may go now (R373). -/
def execTokenRefill (s : State) : Host.Outcome State Fault Refusal :=
  if refillsNow s ≤ s.sch.refills then .next s
  else .next (pumpDrives ((List.range 32).foldl (fun acc n => pumpMac n acc) (refill s)))

/-- SHARE_WINDOW_END: SCH_SHARE_WINDOW has passed on a member; its shares are measured anew and its scheduler serves (R385). -/
def execShareWindowEnd (slot : Fin 24) (s : State) : Host.Outcome State Fault Refusal :=
  let w := windowAt s slot
  if !confirmed s w.since (pSchShareWindow s * usU) then .next s
  else .next (pumpPort slot (putWindow { slot := slot, since := mono s, rebuild := 0, reloc := 0, host := 0, hitch := 0, scrub := 0,
                                         cut := false } s))

/-! ## The QUIET schedule (R387 to R390; 02 R57) -/

/-- Log units that hold data of a tenant. -/
def tenantUnits (s : State) (t : Nat) : Nat :=
  let own (r : LogRec) : Bool := match r.kind with
    | .extent c _ _ => (collAt s c).any (fun x => x.tenant == t)
    | .object c _ => (collAt s c).any (fun x => x.tenant == t)
    | .tombstone c _ => (collAt s c).any (fun x => x.tenant == t)
    | .block n _ _ => s.block.nss.any (fun x => x.num == n && x.tenant == t)
    | _ => false
  ((s.log.recs.filter own).map (fun r => r.units)).sum

/-- At most `n` waiting commands of a tenant are admitted, while its log writes are within the period's bytes (R390; log entry 27). -/
def quietAdmit (t limit : Nat) : Nat → State → Nat × State
  | 0, s => (0, s)
  | n + 1, s =>
    if limit ≤ tenantUnits s t * 4096 then (0, s)
    else
      match admitPick s (fun u => u == t) with
      | none => (0, s)
      | some x => let r := quietAdmit t limit n (runWaiting x.1 (admServe x s)); (r.1 + 1, r.2)

/-- The first LBA of a read of `n` LBAs that begins at `lba`, moved so that it stays in its strip (R390). -/
def withinStrip (s : State) (lba n : Nat) : Nat :=
  let at_ := (lba - s.log.segBase) % 16
  lba - (at_ - min at_ (16 - n))

/-- The places where a member holds a strip of a stripe with live data of a tenant (02 R57). -/
def tenantPlaces (s : State) (t : Nat) (slot : Fin 24) : List Nat :=
  let own (r : LogRec) : Bool := r.live && (match r.kind with
    | .extent c _ _ => (collAt s c).any (fun x => x.tenant == t)
    | .object c _ => (collAt s c).any (fun x => x.tenant == t)
    | .block n _ _ => s.block.nss.any (fun x => x.num == n && x.tenant == t)
    | _ => false)
  let recs := s.log.recs.filter own
  let holds (w : Row) : Bool :=
    (List.range (w.d + geomParity w.d)).any (fun j => homeMember w.seg w.row j == slot) &&
    recs.any (fun r => addrSeg r.addr == w.seg && decide (addrUnit r.addr / rowUnits w.d ≤ w.row) &&
      decide (w.row ≤ (addrUnit r.addr + r.units - 1) / rowUnits w.d))
  (s.log.rows.filter holds).map (fun w => rowLba s w.seg w.row)

/-- The one read of a period on a member: the oldest waiting real read, lengthened to the size or split, else a dummy of a random stripe
of the tenant's own, discarded (R390; 02 R57; log entry 27); where the tenant has no stripe on the member, of the first LBA of the segment
area (log entry 132). -/
def quietRead (q : Quiet) (s : State) (slot : Fin 24) : State :=
  let t := q.item.tenant.toNat
  let n := q.item.sizeD.toNat / 4096
  let p := portAt s slot
  let mine (c : DriveCmd) : Bool := c.queued && (match c.flow with
    | .host u _ _ => u == t
    | _ => false)
  match p.cmds.find? mine with
  | some c =>
    if n < c.count then
      let upd (d : DriveCmd) : DriveCmd := { d with lba := d.lba + n, count := d.count - n }
      (issueFlow slot .quiet .discard 2 c.lba n
        (putPort slot { p with cmds := mapIf (fun d => d.tag == c.tag) upd p.cmds } s)).2
    else
      let upd (d : DriveCmd) : DriveCmd := { d with flow := .quiet, lba := withinStrip s c.lba n, count := n }
      pumpPort slot (putPort slot { p with cmds := mapIf (fun d => d.tag == c.tag) upd p.cmds } s)
  | none =>
    let places := tenantPlaces s t slot
    let (r, s1) := draw s
    let lba := (places[r.toNat % max 1 places.length]?).getD s.log.segBase
    (issueFlow slot .quiet .discard 2 lba n s1).2

/-- The shard and the data strips that a tenant's fill is written with: those of its first collection or namespace. -/
def fillPlace (s : State) (t : Nat) : Nat × Nat :=
  match s.obj.colls.find? (fun c => c.tenant == t), s.block.nss.find? (fun n => n.tenant == t) with
  | some c, _ => (c.shard, geomData c.geometry)
  | none, some n => (n.shard, geomData n.geometry)
  | none, none => (((s.log.shards.find? (fun x => x.owned)).map (fun x => x.num)).getD 0, 18)

/-- Fill units of a tenant: stale from the outset (R390). -/
def quietFill (t units : Nat) (s : State) : State :=
  if units = 0 then s
  else
    let p := fillPlace s t
    let r := writeUnits p.1 p.2 false 1 .fill noStamp (units + 4) units (fillBytes p.1 units) s
    killRecs (r.1.map (fun x => x.1)) r.2

/-- `n` bytes of the DRBG. -/
def drbgBytes : Nat → Nat → State → Bytes × State
  | 0, _, s => ([], s)
  | fuel + 1, n, s =>
    if n = 0 then ([], s)
    else
      let (r, s1) := draw s
      let k := min n 64
      let x := drbgBytes fuel (n - k) s1
      (leBytes k r.toNat ++ x.1, x.2)

/-- The frame of a period on a MAC: the next frame of the tenant that waits for it, padded, else a datagram of DRBG bytes to the sink
(R389). Its cost is S_e either way. -/
def quietSend (q : Quiet) (s : State) (mac : Nat) : State :=
  let t := q.item.tenant.toNat
  let cost := q.item.sizeE.toNat
  match ((quietOf s t).getD q).frames.find? (fun f => f.1 == mac) with
  | some f =>
    let q1 := (quietOf s t).getD q
    let s1 := putQuiet { q1 with frames := q1.frames.erase f } s
    if (macAt s1 mac).isNone then send f.2 s1 else enqueue mac .quiet (.tenant t) (classOf s1 mac) cost f.2 s1
  | none =>
    let v6 := q.item.ipVer == 6
    let size := cost - (if v6 then 66 else 46)
    let (data, s1) := drbgBytes (size / 64 + 1) size s
    let m : Msg := { port := .mac mac, kind := .frame, op := 17, tag := 0, status := 0,
                     body := [(1, q.item.ipVer.toNat), (16, q.item.sink.toNat), (2, q.item.udpPort.toNat)], data := data }
    if (macAt s1 mac).isNone then send m s1 else enqueue mac .quiet (.tenant t) (classOf s1 mac) cost m s1

/-- Decoy walks for the walks of a period that had no real work, each to a drawn MAC in the tenant's first collection (R390; 02 R50; log entry
133). -/
def quietWalks (t : Nat) : Nat → State → State
  | 0, s => s
  | n + 1, s =>
    let (mac, s1) := drawDigest s
    let coll := ((s.obj.colls.find? (fun c => c.tenant == t)).map (fun c => c.num)).getD 0
    quietWalks t n (decoyWalk t coll mac s1)

/-- QUIET_PERIOD_START: at a multiple of T of Shelf Time the module admits at most A commands, issues one read of S_d to each member, appends
S_w bytes of the tenant's log units with fill for what is short, closes the tenant's receipt batch, and sends one frame of S_e on each
named MAC; N walks are made, decoys included (R389, R390; 09 R246). -/
def execQuietPeriodStart (tenant : Nat) (s : State) : Host.Outcome State Fault Refusal :=
  match quietOf s tenant with
  | none => .next s
  | some q =>
    let period := now s / (max 1 q.item.period.toNat * nsU)
    if period ≤ q.period ∨ !serving s then .next s
    else
      let before := tenantUnits s tenant * 4096
      let room := q.item.sizeW.toNat - q.logBytes
      let (admitted, s0) := quietAdmit tenant (before + max 1 room) (min q.item.countA.toNat q.item.countN.toNat) (putQuiet { q with walks := 0 } s)
      let made := ((quietOf s0 tenant).map (fun y => y.walks)).getD 0
      let s1 := quietWalks tenant (q.item.countN.toNat - made) s0
      let wrote := tenantUnits s1 tenant * 4096 - before
      let s2 := quietFill tenant ((room - wrote) / 4096) s1
      let s3 := allSlots.foldl (quietRead q) s2
      let shut (b : Batch) : Bool := b.tenant == tenant && !b.closed
      let s4 := { s3 with fix := { s3.fix with batches := mapIf shut (shutBatch s3) s3.fix.batches } }
      let q1 := (quietOf s4 tenant).getD q
      let s5 := putQuiet { q1 with period := period, admitted := admitted, walks := q.item.countN.toNat,
                                   logBytes := q.logBytes + wrote - q.item.sizeW.toNat } s4
      .next (((List.range 32).filter (fun k => q.item.macs.getLsbD k)).foldl (quietSend q) s5)

/-! ## A tenant's weights and figures (R382; 02 R53) -/

/-- A tenant owns what an entry names: a collection of kind 1, a namespace of kind 2 (R382). -/
def ownsEntry (s : State) (t : Nat) (e : Byte × Word16 × Byte) : Bool :=
  if e.1.toNat = 1 then (collAt s e.2.1.toNat).any (fun c => c.tenant == t)
  else s.block.nss.any (fun n => n.num == e.2.1.toNat && n.tenant == t)

/-- FLOW_WEIGHT_SET: the tenant's default weight and up to 15 subflows in the order listed (R382). -/
def execFlowWeightSet (c : Call) (dflt : Byte) (entries : List (Byte × Word16 × Byte)) (s : State) : Host.Outcome State Fault Refusal :=
  .next (mailboxCmd c 0x0306 .nothing isTenant (fun x s =>
    let t := (x.who.tenant?).getD 0xFFFF
    if entries.any (fun e => e.1.toNat != 1 && e.1.toNat != 2) then reply c 0x0306 eFormat [] s
    else if dflt = 0 ∨ entries.any (fun e => e.2.2 == 0) then reply c 0x0306 eRange [] s
    else if entries.any (fun e => !ownsEntry s t e) then replyNotVisible c 0x0306 nvCDelay s
    else if 15 < entries.length then reply c 0x0306 eLimit [] s
    else
      let w : Weights := { tenant := t, dflt := dflt.toNat, entries := entries.map (fun e => (e.1.toNat, e.2.1.toNat, e.2.2.toNat)) }
      reply c 0x0306 sOk [] { s with sch := { s.sch with weights := putBy (fun y => y.tenant == t) w s.sch.weights } }) s)

/-- A signed figure of a bucket in whole bytes, as 64 bits. -/
def bucketWord (v : Int) : Nat := ((v / (byteU : Int)) % (2 ^ 64 : Int)).toNat

/-- The figures of a tenant that TENANT_STATS answers, 104 bytes; `b` are its buckets and `lat` its latency figure (15 R387; 19 R472). -/
def tenantFigures (s : State) (t : Nat) (y : Tenant) (b : Buckets) (lat : Nat) : Flds :=
  let objs := s.obj.objs.filter (fun o => o.whip.isSome && (collAt s o.coll).any (fun k => k.tenant == t))
  [(8, bytesOf s t), (8, objs.length), (8, openOf s t), (4, (s.obj.colls.filter (fun k => k.tenant == t)).length),
   (4, (s.block.nss.filter (fun n => n.tenant == t)).length), (8, bucketWord b.c), (8, bucketWord b.e), (8, bucketWord b.drive),
   (8, bucketWord b.egress), (4, opsOf s t), (4, y.red), (8, y.probes), (8, y.hits), (8, y.drops), (8, lat % 2 ^ 64)]

/-- TENANT_STATS: the tenant's own figures: bytes counted against its quota, objects, open objects, collections, namespaces, its policer and
shaper buckets, operations in flight, commands refused red, its hint probes and hits, its drops under QUIET, and its mean latency, which
the spec does not define further (02 R53, Table 2.8; 15 R374, R388; log entry 28). -/
def execTenantStats (c : Call) (s : State) : Host.Outcome State Fault Refusal :=
  .next (mailboxCmd c 0x0307 .nothing isTenant (fun x s =>
    let t := (x.who.tenant?).getD 0xFFFF
    match tenantAt s t with
    | none => reply c 0x0307 eDenied [] s
    | some y =>
      let s1 := refill s
      let (lat, s2) := free s1
      reply c 0x0307 sOk (tenantFigures s t y (bucketsAt s1 t) lat) s2) s)

end Machine
end Sys2Proof
end

