-- ==== Sys2Proof/Machine/StartUp.lean ====
section
/-!
DEFINITION. Start-up: POWER_ON, the end of each phase, its budget, and the wait for time (24 R534 to R544).
-/
namespace Sys2Proof
namespace Machine

/-- POWER_ON: the input lies in its window: its channel and the start-up phases begin (R534; 21 R498). -/
def execPowerOn (mv : Nat) (s : State) : Host.Outcome State Fault Refusal :=
  if s.pwr.socOn || !insideWindow s .input mv then .next s
  else
    let s0 : State := { s with pwr := { s.pwr with sensed := mv } }
    .next (startChannel .input (putFeed .input { s0.pwr.input with inside := true } s0))

/-- The image staged whole in the inactive slot, unless the boot ROM refuses its SVN (02 R63, R64). -/
def stagedImage (s : State) : Option FwStaging :=
  s.auth.staging.filter (fun g => g.digest.isSome && decide (s.auth.fusedSvn ≤ g.svn))

/-- The staged image runs: its SVN and release are in force, the vendor keys it revokes are refused from here on, and the image before it
stands in the other slot until a commit (02 R64; 01 R30). -/
def runStaged (g : FwStaging) (s : State) : State :=
  { s with auth := { s.auth with runningSvn := g.svn, release := g.release, previous := some (s.auth.runningSvn, s.auth.release),
                                 revoked := s.auth.revoked ++ g.revokes.filter (fun k => !s.auth.revoked.contains k), staging := none } }

/-- P2 ends: the staged image runs, or without one the image in force at its SVN. An image that fails its self-test before its commit gives way
to the one of the other slot; with none that the boot ROM takes the module halts (Table 24.1; 02 R63, R64). -/
def bootDone (ok : Bool) (svn : Nat) (s : State) : State :=
  let run (x : State) : State := startPhase 3 (setPhase 2 .done x)
  match stagedImage s with
  | some g =>
    if ok then run (runStaged g s)
    else if s.auth.fusedSvn ≤ s.auth.runningSvn then run { s with auth := { s.auth with staging := none } }
    else haltAs .noImage (setPhase 2 .failed s)
  | none =>
    if ok && decide (s.auth.fusedSvn ≤ svn) then run { s with auth := { s.auth with runningSvn := svn } }
    else
      match s.auth.previous with
      | some (v, rel) =>
        if s.auth.fusedSvn ≤ v then run { s with auth := { s.auth with runningSvn := v, release := rel, previous := none } }
        else haltAs .noImage (setPhase 2 .failed s)
      | none => haltAs .noImage (setPhase 2 .failed s)

/-- P3 ends: DRAM is trained and its inline key drawn (Table 24.1; 02 R44). -/
def dramDone (s : State) : State :=
  let s1 := (draw s).2
  startPhase 4 { s1 with auth := { s1.auth with dramKey := s.auth.drawn } }

/-- P4 ends: the vault's time, the hold-up capacity and the belay image are known (Table 24.1; 03 R67, R74; 07 R206; 21 R495). An image that
was written and is not valid sets STR_STATUS bit 4. -/
def vaultDone (r : PhaseIn) (s : State) : State :=
  let t := { s.time with shelf := s.time.vault, openedAt := 0, slewed := 0, mode := .freerun, everLocked := false, slewLeft := 0, gm := none,
                         distrusted := none, foreign := [], goodSince := none, delayReq := none, holdSince := none, follower := false,
                         aligned := false, leadMode := .freerun,
                         ptpOffset := 0, pathDelay := 0, onStandby := false, ppsQual := false, ppsRun := 0, refQual := false, refPpb := 0,
                         pairOffset := 0, lastBeacon := 0,
                         custody := s.time.vault, custOffset := 0, anchor := .unanchored, challenge := none, latch := [] }
  let s := { s with auth := { s.auth with ceremonies := s.auth.ceremonies.map (fun (m : Ceremony) => { m with ticked := none }) } }
  let s1 := { s with time := t, pwr := { s.pwr with capacity := r.capacity }, pair := { s.pair with isB := r.posB },
                     log := { s.log with image := s.log.image && r.image } }
  let s2 := setPhase 4 .done (if s.log.image && !r.image then raise stSTR 4 noInst s1 else s1)
  let s3 := judgeKeepSafe s2
  startPhase 5 (if r.capacity < pPwrHoldupMin (unitView s3) then powerBit stPWR 7 noInst s3 else s3)

/-- The words that a start-up latches take their values of the layers (12 Table 12.7; 13 Table 13.5; 16 R399). -/
def latchWords (s : State) : State :=
  { s with layers := { s.layers with latched := ((layeredAddrs s).eraseDups.mergeSort (fun a b => decide (a ≤ b))).map (fun a => (a, rwWord s a)) } }

/-- The drives whose presence pin is asserted (21 R497). -/
def sensePresence (mask : Word32) (s : State) : State :=
  allSlots.foldl (fun acc (n : Fin 24) => putFeed (.slot n) { feedAt acc (.slot n) with present := mask.getLsbD n } acc) s

/-- P5 ends: the configuration is applied and what follows begins, or start-up stops there (Table 24.1; R535, R539). -/
def configDone (r : PhaseIn) (s : State) : State :=
  let s1 := sensePresence r.present (latchWords s)
  if !r.ok then { s1 with boot := { s1.boot with configStop := true } }
  else afterConfig s1

/-- A member of the shelf is through D8 (17 R420). -/
def discovered (s : State) (n : Fin 24) : Bool := (portAt s n).linkUp && (portAt s n).step.isNone

/-- P6 ends: a member not through D8 is FAILED and its slot is left unpowered (Table 24.1). -/
def drivesDone (s : State) : State :=
  let late (n : Fin 24) : Bool := bootSlot s n && !discovered s n
  let s1 := (allSlots.filter late).foldl (fun acc n =>
    let a := disableSlot n acc
    if (memberAt a n).state == .absent then a else failMember n a) s
  afterDrivesAndPair (setPhase 6 .done s1)

/-- Shards as start-up finds them: all of a single-controller shelf's and none but its homes of a module that starts with its partner; a module
that joins a partner already serving owns none; the custody shard is always its own (R538; 18 R441). -/
def ownShards (s : State) : State :=
  let own (n : Nat) : Bool :=
    if n = 0xFFF0 ∨ n = 0xFFF1 then (n == 0xFFF1) == s.pair.isB
    else match s.pair.mode with
      | .rejoining => false
      | .paired => homedHere s n
      | _ => !s.pair.pairShelf
  { s with log := { s.log with shards := s.log.shards.map (fun x => { x with owned := own x.num, ready := false, moving := false }) } }

/-- The module fences its partner and will own every shard: A at once, B after PAIR_FENCE_DEFER (R538; 18 R451). -/
def fenceAtStart (s : State) : State :=
  let s1 := { s with pair := { s.pair with detected := some (mono s), won := [], lost := [],
                                           deferTo := if s.pair.isB then some (mono s + 2000 * usU) else none } }
  if s.pair.isB then s1 else fenceNext s1

/-- P7 ends. In the first-use state the drive ports run at x2 after a handshake and at x4 without one, and P6 begins (R535; 17 R417).
Otherwise: the handshake is complete; or it was refused, and the module serves nothing; or there was none, and the module fences its partner
and serves alone (R538). -/
def pairDone (s : State) : State :=
  if s.boot.firstUse then
    startDrives (setPhase 7 .done { s with drv := { s.drv with up := true, x2 := s.pair.pairShelf } })
  else if s.pair.mode == .paired || s.pair.mode == .rejoining then afterDrivesAndPair (setPhase 7 .done s)
  else if s.pair.mode == .handshake && 0 < s.pair.lanes then haltAs .pairRefused (setPhase 7 .failed s)
  else if s.pair.mode == .handshake then afterDrivesAndPair (setPhase 7 .failed (fenceAtStart s))
  else afterDrivesAndPair (setPhase 7 .done s)

/-! ## Recovery (P10; 07 R203; 06 R169) -/

/-- An entry can be gathered: from the belay image, the partner's DRAM or a member's ring (07 R203). -/
def gathered (s : State) (e : SpliceEntry) : Bool := e.retired || s.log.image || !e.copies.isEmpty || (mirrors s && e.mirrored)

/-- The last sequence of a shard's entries before the first gap, from one known (07 R203). -/
def unbroken (s : State) (shard : Nat) : Nat → Nat → Nat
  | 0, k => k
  | fuel + 1, k => if s.log.splice.any (fun e => e.shard == shard && e.seq == k + 1 && gathered s e) then unbroken s shard fuel (k + 1) else k

/-- A shard's entries above the first gap are discarded, with the objects that only they hold: STR_STATUS bit 5; sequencing resumes there (07 R203;
log entry 139). -/
def discardGaps (shard : Nat) (s : State) : State :=
  let x := shardAt s shard
  let k := unbroken s shard (s.log.splice.length + 1) x.retired
  let past (e : SpliceEntry) : Bool := e.shard == shard && decide (k < e.seq)
  let lost := s.log.splice.filter past
  if lost.isEmpty then putShard { x with splice := k } s
  else
    let kept (o : Obj) : Bool := (s.idx.parts.any (fun p => p.shard == shard && !isMap p.num && p.leaves.any (fun l => l.items.any (fun i => itemKey i == indexKey o.coll o.mac)))) ||
      !(lost.any (fun e => e.stamp == o.stamp && (collAt s o.coll).any (fun c => c.shard == shard)))
    raise stSTR 5 noInst (putShard { x with splice := k }
      { s with log := { s.log with splice := dropIf past s.log.splice }, obj := { s.obj with objs := s.obj.objs.filter kept } })

/-- The unretired splice log is on the rings again where copies are missing, stripes it still covers are written whole at their own rows, and
row updates are written from their intents (07 R203, R209). -/
def replayLog (s : State) : State :=
  let s := ((s.log.shards.filter (fun x => x.owned)).map (fun x => x.num)).foldl (fun acc n => discardGaps n acc) s
  let s1 := { s with log := { s.log with replaying := true, splice := s.log.splice.map (fun e => { e with pending := [], mirrored := e.mirrored || !mirrors s }),
                                         rmws := s.log.rmws.map (fun m => { m with issued := false, writes := [] }),
                                         rows := s.log.rows.map (fun r => if r.state == .writing then { r with writes := [], failed := [] } else r) } }
  let own (n : Nat) : Bool := (shardAt s1 n).owned
  let s2 := (s1.log.splice.filter (fun e => own e.shard && !e.retired && !e.media)).foldl (fun acc e => ringCopies e acc) s1
  let s3 := (s2.log.rows.filter (fun r => r.state == .writing)).foldl (fun acc r => issueRow r.seg r.row acc) s2
  let s4 := closeHeads s3
  settle (if s4.mem.bankStep = 0 then s4 else (changeBanks { s4 with mem := { s4.mem with bankStep := 0, bankOut := [], bankAgain := false } }).2)

/-- P9 ends: the shelf wrapping key is that of the vault, or the one the partner passed; with it the tenant root keys are unwrapped, without it
tenants' commands find no key (Table 24.1; 02 R62). A custody key disabled by a debug unlock is followed by a new one (09 R244). Recovery
begins. -/
def keysDone (keyHeld : Bool) (s : State) : State :=
  let s1 := if keyHeld then unwrapRoots { s with auth := { s.auth with shelfKey := s.auth.shelfKey.or s.auth.shelfVault } }
    else { s with auth := { s.auth with shelfKey := none } }
  let s2 := if s1.fix.epoch ≤ s1.fix.disabled && 0 < s1.fix.epoch then newCustodyKey s1 else s1
  replayLog (startPhase 10 (setPhase 9 .done (ownShards s2)))

/-- P10 ends: the shards are recovered, receipts whose batches were not signed are formed again, and formats, erasures and sanitises go on (Table
24.1; 04 R115, R118; 05 R146; 09 R558). An image that was replayed is cleared (07 R206). -/
def recoveryDone (s : State) : State :=
  let s1 := { s with log := { s.log with replaying := false, replayed := s.log.image, image := false,
                                         shards := s.log.shards.map (fun x => { x with ready := x.owned, ckptAt := mono s }) } }
  let s2 := reformReceipts (setPhase 10 .done (recoverAll s1))
  let mine := (s2.log.shards.filter (fun x => x.owned)).map (fun x => x.num)
  let s3 := resumeFormats mine s2
  let s4 := s3.obj.erasures.foldl (fun acc e => resumeErasure e acc) s3
  tryOpen (if s4.block.shelfSan.isSome then resumeSanitise s4 else s4)

/-- The end of the phases that the first-use state waits for: a formation that a supply loss stopped goes on from its step (R544). -/
def resumeForming (s : State) : State :=
  match s.boot.formBase with
  | some b => if s.boot.firstUse && s.boot.forming != 0 && phaseEnded s 6 && phaseEnded s 7 && mayForm s then formShelf b s else s
  | none => s

/-- STARTUP_PHASE_END: a phase that runs ends, and the phases that follow it begin (R534, R535, Table 24.1). -/
def execStartupPhaseEnd (phase : Nat) (r : PhaseIn) (s : State) : Host.Outcome State Fault Refusal :=
  if !phaseRuns s phase || s.boot.halted.isSome then .next s
  else if phase = 1 then .next (if s.pwr.input.state == .good then startPhase 2 (setPhase 1 .done s) else s)
  else if phase = 2 then
    .next (bootDone r.ok r.svn s)
  else if phase = 3 then .next (if r.ok then dramDone (setPhase 3 .done s) else haltAs .dram (setPhase 3 .failed s))
  else if phase = 4 then .next (if r.ok then vaultDone r s else haltAs .vault (setPhase 4 .failed s))
  else if phase = 5 then .next (configDone r (setPhase 5 .done s))
  else if phase = 6 then .next (resumeForming (drivesDone s))
  else if phase = 7 then .next (resumeForming (pairDone s))
  else if phase = 8 then .next (setPhase 8 .done s)
  else if phase = 9 then .next (keysDone r.keyHeld s)
  else if phase = 10 then .next (recoveryDone s)
  else .next (if shelfMode s == .locked then tryOpen (setPhase phase .done s) else s)

/-- The budget of a phase in ns (Table 24.1). -/
def phaseBudget (s : State) (phase : Nat) : Nat :=
  match phase with
  | 1 => 180000000
  | 2 => 400000000
  | 3 => 1500000000
  | 4 => 2000000000
  | 5 => 100000000
  | 6 => 35000000000
  | 7 => 10000000000
  | 8 => 1000000000
  | 9 => 200000000
  | 10 => 30000000000
  | _ => pTsLockWait s * 1000000

/-- STARTUP_BUDGET_EXPIRY: a phase has overrun its budget and its failure action applies (R534, Table 24.1). -/
def execStartupBudgetExpiry (phase : Nat) (s : State) : Host.Outcome State Fault Refusal :=
  match phaseAt s phase with
  | .running t =>
    if !ticked s t (phaseBudget s phase) || s.boot.halted.isSome then .next s
    else if phase = 2 then .next (haltAs .noImage (setPhase 2 .failed s))
    else if phase = 3 then .next (haltAs .dram (setPhase 3 .failed s))
    else if phase = 4 then .next (haltAs .vault (setPhase 4 .failed s))
    else if phase = 6 then .next (resumeForming (drivesDone s))
    else if phase = 7 then .next (resumeForming (pairDone s))
    else if phase = 8 then .next (setPhase 8 .failed s)
    else if phase = 9 then .next (keysDone false s)
    else if phase = 10 then .next (raise stIDX 2 noInst s)
    else if phase = 11 then .next (tryOpen (setPhase 11 .failed { s with boot := { s.boot with lockWaited := true } }))
    else .next s
  | _ => .next s

/-- LOCK_WAIT_EXPIRY: TS_LOCK_WAIT has passed since the end of P5; service may open without a lock (R535). -/
def execLockWaitExpiry (s : State) : Host.Outcome State Fault Refusal :=
  match phaseAt s 11 with
  | .running t =>
    .next (if ticked s t (phaseBudget s 11) then tryOpen (setPhase 11 .done { s with boot := { s.boot with lockWaited := true } }) else s)
  | _ => .next s

end Machine
end Sys2Proof
end

