-- ==== Sys2Proof/Machine/Dispatch.lean ====
section
/-!
DEFINITION. One arm for each command: its meaning, or its rejection by name.
-/
namespace Sys2Proof
namespace Machine

def exec (i : Instr) (s : State) : Host.Outcome State Fault Refusal :=
  match i with
  | .connect c => Sys2Proof.Machine.execConnect c s
  | .disconnect c controller => Sys2Proof.Machine.execDisconnect c controller s
  | .propertyGet c ofst => Sys2Proof.Machine.execPropertyGet c ofst s
  | .propertySet c ofst value => Sys2Proof.Machine.execPropertySet c ofst value s
  | .getLogPage c lid => Sys2Proof.Machine.execGetLogPage c lid s
  | .identify c cns csi => Sys2Proof.Machine.execIdentify c cns csi s
  | .abort c sqCtx cid => Sys2Proof.Machine.execAbort c sqCtx cid s
  | .setFeatures c fid save value => Sys2Proof.Machine.execSetFeatures c fid save value s
  | .getFeatures c fid => Sys2Proof.Machine.execGetFeatures c fid s
  | .asynchronousEventRequest c => Sys2Proof.Machine.execAsynchronousEventRequest c s
  | .namespaceCreate c d => Sys2Proof.Machine.execNamespaceCreate c d s
  | .namespaceDelete c => Sys2Proof.Machine.execNamespaceDelete c s
  | .keepAlive c => Sys2Proof.Machine.execKeepAlive c s
  | .keepAliveExpiry controller => Sys2Proof.Machine.execKeepAliveExpiry controller s
  | .formatNvm c f => Sys2Proof.Machine.execFormatNvm c f s
  | .sanitize c action ause => Sys2Proof.Machine.execSanitize c action ause s
  | .flush c => Sys2Proof.Machine.execFlush c s
  | .nvmeWrite c slba nlb fua pr data pi => Sys2Proof.Machine.execNvmeWrite c slba nlb fua pr data pi s
  | .nvmeRead c slba nlb pr => Sys2Proof.Machine.execNvmeRead c slba nlb pr s
  | .prefetchExpiry ctx => Sys2Proof.Machine.execPrefetchExpiry ctx s
  | .compare c slba nlb pr data pi => Sys2Proof.Machine.execCompare c slba nlb pr data pi s
  | .writeZeroes c slba nlb => Sys2Proof.Machine.execWriteZeroes c slba nlb s
  | .datasetManagement c deallocate ranges => Sys2Proof.Machine.execDatasetManagement c deallocate ranges s
  | .nvmeVerify c slba nlb pr => Sys2Proof.Machine.execNvmeVerify c slba nlb pr s
  | .reservationRegister c action ignoreKey cptpl crkey nrkey => Sys2Proof.Machine.execReservationRegister c action ignoreKey cptpl crkey nrkey s
  | .reservationReport c => Sys2Proof.Machine.execReservationReport c s
  | .reservationAcquire c action ignoreKey rtype crkey prkey => Sys2Proof.Machine.execReservationAcquire c action ignoreKey rtype crkey prkey s
  | .reservationRelease c action ignoreKey rtype crkey => Sys2Proof.Machine.execReservationRelease c action ignoreKey rtype crkey s
  | .admitCommand => Sys2Proof.Machine.execAdmitCommand s
  | .notVisibleRelease id => Sys2Proof.Machine.execNotVisibleRelease id s
  | .completionRelease id => Sys2Proof.Machine.execCompletionRelease id s
  | .put q cap b => Sys2Proof.Machine.execPut q cap b s
  | .putPart q cap b => Sys2Proof.Machine.execPutPart q cap b s
  | .putAbort q cap => Sys2Proof.Machine.execPutAbort q cap s
  | .sealObject q cap b => Sys2Proof.Machine.execSeal q cap b s
  | .get q cap b => Sys2Proof.Machine.execGet q cap b s
  | .head q cap => Sys2Proof.Machine.execHead q cap s
  | .list q cap b => Sys2Proof.Machine.execList q cap b s
  | .delete q cap => Sys2Proof.Machine.execDelete q cap s
  | .copy q cap b => Sys2Proof.Machine.execCopy q cap b s
  | .hold q cap b => Sys2Proof.Machine.execHold q cap b s
  | .release q cap b => Sys2Proof.Machine.execRelease q cap b s
  | .stopper q cap b => Sys2Proof.Machine.execStopper q cap b s
  | .verify q cap => Sys2Proof.Machine.execVerify q cap s
  | .collCreate q cap b => Sys2Proof.Machine.execCollCreate q cap b s
  | .collDelete q cap => Sys2Proof.Machine.execCollDelete q cap s
  | .openIdleExpiry handle => Sys2Proof.Machine.execOpenIdleExpiry handle s
  | .lockSweep => Sys2Proof.Machine.execLockSweep s
  | .receiptBatchClose tenant => Sys2Proof.Machine.execReceiptBatchClose tenant s
  | .receiptBatchSigned tenant => Sys2Proof.Machine.execReceiptBatchSigned tenant s
  | .lanyardCheckpoint => Sys2Proof.Machine.execLanyardCheckpoint s
  | .lanyardRead c id chain first count => Sys2Proof.Machine.execLanyardRead c id chain first count s
  | .lanyardProof c id chain number => Sys2Proof.Machine.execLanyardProof c id chain number s
  | .lanyardExport c id cursor => Sys2Proof.Machine.execLanyardExport c id cursor s
  | .receiptRead c id chain pos => Sys2Proof.Machine.execReceiptRead c id chain pos s
  | .fixityDisclose c coll mac => Sys2Proof.Machine.execFixityDisclose c coll mac s
  | .custodyCertify c via cert => Sys2Proof.Machine.execCustodyCertify c via cert s
  | .mailboxDoorbell mbx tag endpoint opcode entries length sequenceOk tail => Sys2Proof.Machine.execMailboxDoorbell mbx tag endpoint opcode entries length sequenceOk tail s
  | .responseHeadWrite mbx head => Sys2Proof.Machine.execResponseHeadWrite mbx head s
  | .mailboxIdleTimeout mbx => Sys2Proof.Machine.execMailboxIdleTimeout mbx s
  | .mbxChallenge mbx tag rsv => Sys2Proof.Machine.execMbxChallenge mbx tag rsv s
  | .mbxOpen mbx tag rsv kind key grant sigOk => Sys2Proof.Machine.execMbxOpen mbx tag rsv kind key grant sigOk s
  | .mbxClose c => Sys2Proof.Machine.execMbxClose c s
  | .identityGet c => Sys2Proof.Machine.execIdentityGet c s
  | .paramGet c addr count => Sys2Proof.Machine.execParamGet c addr count s
  | .paramSet c count entries => Sys2Proof.Machine.execParamSet c count entries s
  | .tsStatusClear c => Sys2Proof.Machine.execTsStatusClear c s
  | .quorumBegin c act => Sys2Proof.Machine.execQuorumBegin c act s
  | .quorumSign c q => Sys2Proof.Machine.execQuorumSign c q s
  | .quorumStatus c => Sys2Proof.Machine.execQuorumStatus c s
  | .ceremonyExpiry statement => Sys2Proof.Machine.execCeremonyExpiry statement s
  | .custodianSetChange c via k n keys escrow => Sys2Proof.Machine.execCustodianSetChange c via k n keys escrow s
  | .timeAuthEnrol c via key => Sys2Proof.Machine.execTimeAuthEnrol c via key s
  | .escrowImport c via escrow wrapKey unwraps => Sys2Proof.Machine.execEscrowImport c via escrow wrapKey unwraps s
  | .tenantCreate c key quota => Sys2Proof.Machine.execTenantCreate c key quota s
  | .tenantQuotaSet c tenant quota => Sys2Proof.Machine.execTenantQuotaSet c tenant quota s
  | .tenantErase c via tenant key => Sys2Proof.Machine.execTenantErase c via tenant key s
  | .grantIssue c g grantSigOk => Sys2Proof.Machine.execGrantIssue c g grantSigOk s
  | .grantRevoke c holder serial => Sys2Proof.Machine.execGrantRevoke c holder serial s
  | .timeChallenge c => Sys2Proof.Machine.execTimeChallenge c s
  | .timeBeacon c b beaconSigOk => Sys2Proof.Machine.execTimeBeacon c b beaconSigOk s
  | .anchorAged => Sys2Proof.Machine.execAnchorAged s
  | .custodyPersist => Sys2Proof.Machine.execCustodyPersist s
  | .fwStage c offset length chunk image => Sys2Proof.Machine.execFwStage c offset length chunk image s
  | .fwCommit c svn => Sys2Proof.Machine.execFwCommit c svn s
  | .debugChallenge c => Sys2Proof.Machine.execDebugChallenge c s
  | .debugUnlock c t => Sys2Proof.Machine.execDebugUnlock c t s
  | .ovlApply c via r => Sys2Proof.Machine.execOvlApply c via r s
  | .ovlRemove c via cls => Sys2Proof.Machine.execOvlRemove c via cls s
  | .baseLoad c via b => Sys2Proof.Machine.execBaseLoad c via b s
  | .rebuildSafeExpiry => Sys2Proof.Machine.execRebuildSafeExpiry s
  | .slotPower c slot action => Sys2Proof.Machine.execSlotPower c slot action s
  | .sanitiseStart c via => Sys2Proof.Machine.execSanitiseStart c via s
  | .sanitiseStatus c => Sys2Proof.Machine.execSanitiseStatus c s
  | .uopRelay c cap b => Sys2Proof.Machine.execUopRelay c cap b s
  | .uopRelease c via cap b => Sys2Proof.Machine.execUopRelease c via cap b s
  | .evtRead c ack maxRec mask => Sys2Proof.Machine.execEvtRead c ack maxRec mask s
  | .pldmEventResponse ok => Sys2Proof.Machine.execPldmEventResponse ok s
  | .pldmEventTimeout => Sys2Proof.Machine.execPldmEventTimeout s
  | .setEventReceiver eid => Sys2Proof.Machine.execSetEventReceiver eid s
  | .getVersion => Sys2Proof.Machine.execGetVersion s
  | .getCapabilities => Sys2Proof.Machine.execGetCapabilities s
  | .negotiateAlgorithms offersP384 offersSha384 => Sys2Proof.Machine.execNegotiateAlgorithms offersP384 offersSha384 s
  | .getDigests => Sys2Proof.Machine.execGetDigests s
  | .getCertificate slot offset length => Sys2Proof.Machine.execGetCertificate slot offset length s
  | .challenge slot nonce => Sys2Proof.Machine.execChallenge slot nonce s
  | .getMeasurements index signed nonce => Sys2Proof.Machine.execGetMeasurements index signed nonce s
  | .ptpAnnounce a => Sys2Proof.Machine.execPtpAnnounce a s
  | .ptpSync mac transport gm offset logSync => Sys2Proof.Machine.execPtpSync mac transport gm offset logSync s
  | .delayResp mac transport gm delay => Sys2Proof.Machine.execDelayResp mac transport gm delay s
  | .delayReqSend => Sys2Proof.Machine.execDelayReqSend s
  | .announceReceiptTimeout => Sys2Proof.Machine.execAnnounceReceiptTimeout s
  | .ptpLockAchieved => Sys2Proof.Machine.execPtpLockAchieved s
  | .holdoverLimit => Sys2Proof.Machine.execHoldoverLimit s
  | .ppsEdge rising offset => Sys2Proof.Machine.execPpsEdge rising offset s
  | .ref10mQualified ppb => Sys2Proof.Machine.execRef10mQualified ppb s
  | .ref10mLoss => Sys2Proof.Machine.execRef10mLoss s
  | .indexWalkComplete id found => Sys2Proof.Machine.execIndexWalkComplete id found s
  | .deltaFlushAge shard part => Sys2Proof.Machine.execDeltaFlushAge shard part s
  | .indexFlushCommit shard part => Sys2Proof.Machine.execIndexFlushCommit shard part s
  | .subtreeRebuildComplete shard part => Sys2Proof.Machine.execSubtreeRebuildComplete shard part s
  | .stripeCloseDelay shard d reloc => Sys2Proof.Machine.execStripeCloseDelay shard d reloc s
  | .driveCompletion slot queue tag sct sc checks => Sys2Proof.Machine.execDriveCompletion slot queue tag sct sc checks s
  | .logCheckpoint shard => Sys2Proof.Machine.execLogCheckpoint shard s
  | .relocationSelect => Sys2Proof.Machine.execRelocationSelect s
  | .segmentFree seg => Sys2Proof.Machine.execSegmentFree seg s
  | .belayDriveAbandon => Sys2Proof.Machine.execBelayDriveAbandon s
  | .belayStop => Sys2Proof.Machine.execBelayStop s
  | .rmwUpdate seg row strip first data => Sys2Proof.Machine.execRmwUpdate seg row strip first data s
  | .rmwRetire seg row => Sys2Proof.Machine.execRmwRetire seg row s
  | .strikeExpiry slot => Sys2Proof.Machine.execStrikeExpiry slot s
  | .driveCriticalWarning slot bits cfs => Sys2Proof.Machine.execDriveCriticalWarning slot bits cfs s
  | .memberFail c slot flags => Sys2Proof.Machine.execMemberFail c slot flags s
  | .hedgeTimeout slot tag => Sys2Proof.Machine.execHedgeTimeout slot tag s
  | .rebuildRow => Sys2Proof.Machine.execRebuildRow s
  | .driveInsert slot lbas dualPort ours checksOk cryptoErase blockErase nguid serial => Sys2Proof.Machine.execDriveInsert slot lbas dualPort ours checksOk cryptoErase blockErase nguid serial s
  | .restoreRow slot => Sys2Proof.Machine.execRestoreRow slot s
  | .scrubRow f => Sys2Proof.Machine.execScrubRow f s
  | .scrubPassEnd => Sys2Proof.Machine.execScrubPassEnd s
  | .scrubStart c => Sys2Proof.Machine.execScrubStart c s
  | .lossReportRead c cursor count => Sys2Proof.Machine.execLossReportRead c cursor count s
  | .hitchOpen c via p => Sys2Proof.Machine.execHitchOpen c via p s
  | .hitchClose c via id => Sys2Proof.Machine.execHitchClose c via id s
  | .hitchAbort c via id => Sys2Proof.Machine.execHitchAbort c via id s
  | .hitchStatus c id => Sys2Proof.Machine.execHitchStatus c id s
  | .hello m h => Sys2Proof.Machine.execHello m h s
  | .scope m entries => Sys2Proof.Machine.execScope m entries s
  | .collMap m entries => Sys2Proof.Machine.execCollMap m entries s
  | .resume m tenants => Sys2Proof.Machine.execResume m tenants s
  | .myavoHeartbeat m stamp => Sys2Proof.Machine.execMyavoHeartbeat m stamp s
  | .myavoHeartbeatSend id => Sys2Proof.Machine.execMyavoHeartbeatSend id s
  | .hitchSilenceTimeout id => Sys2Proof.Machine.execHitchSilenceTimeout id s
  | .hitchSetupRetry id => Sys2Proof.Machine.execHitchSetupRetry id s
  | .hitchNotAfter id => Sys2Proof.Machine.execHitchNotAfter id s
  | .hitchPassStart id => Sys2Proof.Machine.execHitchPassStart id s
  | .objBegin m b => Sys2Proof.Machine.execObjBegin m b s
  | .objData m slot part lastPart lastObj offset data => Sys2Proof.Machine.execObjData m slot part lastPart lastObj offset data s
  | .objAbort m cause => Sys2Proof.Machine.execObjAbort m cause s
  | .excerpt m chain position entry => Sys2Proof.Machine.execExcerpt m chain position entry s
  | .checkpoint m bytes => Sys2Proof.Machine.execCheckpoint m bytes s
  | .credit m stream slots => Sys2Proof.Machine.execCredit m stream slots s
  | .batchClose m tenant number objects => Sys2Proof.Machine.execBatchClose m tenant number objects s
  | .batchReceipt m tenant number lines receiptOk leaf => Sys2Proof.Machine.execBatchReceipt m tenant number lines receiptOk leaf s
  | .batchAck m tenant number => Sys2Proof.Machine.execBatchAck m tenant number s
  | .lockUpdate m srcColl srcMac lock => Sys2Proof.Machine.execLockUpdate m srcColl srcMac lock s
  | .deleteNotice m srcColl srcMac => Sys2Proof.Machine.execDeleteNotice m srcColl srcMac s
  | .passEnd m pass objects => Sys2Proof.Machine.execPassEnd m pass objects s
  | .complete m receipts => Sys2Proof.Machine.execComplete m receipts s
  | .setupInit m => Sys2Proof.Machine.execSetupInit m s
  | .setupResp r => Sys2Proof.Machine.execSetupResp r s
  | .setupAuth m => Sys2Proof.Machine.execSetupAuth m s
  | .setupDone handle status ctx => Sys2Proof.Machine.execSetupDone handle status ctx s
  | .setupChild parent service ictx nonce timestamp depth => Sys2Proof.Machine.execSetupChild parent service ictx nonce timestamp depth s
  | .setupChildDone parent status ctx nonce spiIn spiOut => Sys2Proof.Machine.execSetupChildDone parent status ctx nonce spiIn spiOut s
  | .setupTimeout handle => Sys2Proof.Machine.execSetupTimeout handle s
  | .dataPacket p => Sys2Proof.Machine.execDataPacket p s
  | .send ctx seq => Sys2Proof.Machine.execSend ctx seq s
  | .write ctx seq => Sys2Proof.Machine.execWrite ctx seq s
  | .writeImm ctx seq => Sys2Proof.Machine.execWriteImm ctx seq s
  | .readReq ctx seq => Sys2Proof.Machine.execReadReq ctx seq s
  | .readResp ctx seq => Sys2Proof.Machine.execReadResp ctx seq s
  | .ack p through bitmap ceMarks => Sys2Proof.Machine.execAck p through bitmap ceMarks s
  | .nak p seq ranges => Sys2Proof.Machine.execNak p seq ranges s
  | .statusReq p seq => Sys2Proof.Machine.execStatusReq p seq s
  | .status p through bitmap asked => Sys2Proof.Machine.execStatus p through bitmap asked s
  | .close p code => Sys2Proof.Machine.execClose p code s
  | .contextFetchComplete ctx => Sys2Proof.Machine.execContextFetchComplete ctx s
  | .contextEvict => Sys2Proof.Machine.execContextEvict s
  | .seenEntryExpiry ctx id => Sys2Proof.Machine.execSeenEntryExpiry ctx id s
  | .reassemblyExpiry ctx seq => Sys2Proof.Machine.execReassemblyExpiry ctx seq s
  | .ackDelayTimer ctx => Sys2Proof.Machine.execAckDelayTimer ctx s
  | .nakDelayTimer ctx seq => Sys2Proof.Machine.execNakDelayTimer ctx seq s
  | .retransmitTimeout ctx => Sys2Proof.Machine.execRetransmitTimeout ctx s
  | .messageAgeTimeout ctx seq => Sys2Proof.Machine.execMessageAgeTimeout ctx seq s
  | .deadTimeExpiry ctx => Sys2Proof.Machine.execDeadTimeExpiry ctx s
  | .keyPhaseChange ctx => Sys2Proof.Machine.execKeyPhaseChange ctx s
  | .oldKeyExpiry ctx => Sys2Proof.Machine.execOldKeyExpiry ctx s
  | .saRekey ctx => Sys2Proof.Machine.execSaRekey ctx s
  | .oldSaExpiry ctx => Sys2Proof.Machine.execOldSaExpiry ctx s
  | .rocePacket p => Sys2Proof.Machine.execRocePacket p s
  | .rdmaCm parent uop depth => Sys2Proof.Machine.execRdmaCm parent uop depth s
  | .roceAckTimeout ctx => Sys2Proof.Machine.execRoceAckTimeout ctx s
  | .cnp ctx => Sys2Proof.Machine.execCnp ctx s
  | .ccRecoverTimer ctx => Sys2Proof.Machine.execCcRecoverTimer ctx s
  | .regionRefusalTimeout ctx seq => Sys2Proof.Machine.execRegionRefusalTimeout ctx seq s
  | .pushAbandonTimeout owner => Sys2Proof.Machine.execPushAbandonTimeout owner s
  | .regionDrained owner => Sys2Proof.Machine.execRegionDrained owner s
  | .workRequestComplete entry status => Sys2Proof.Machine.execWorkRequestComplete entry status s
  | .exceptionService action => Sys2Proof.Machine.execExceptionService action s
  | .frameReceive f => Sys2Proof.Machine.execFrameReceive f s
  | .arpRequest mac v6 target from_ => Sys2Proof.Machine.execArpRequest mac v6 target from_ s
  | .icmpEcho mac v6 from_ data => Sys2Proof.Machine.execIcmpEcho mac v6 from_ data s
  | .linkUp mac => Sys2Proof.Machine.execLinkUp mac s
  | .linkDown mac => Sys2Proof.Machine.execLinkDown mac s
  | .pauseFrame mac pfc prios => Sys2Proof.Machine.execPauseFrame mac pfc prios s
  | .pauseExpiry mac prio => Sys2Proof.Machine.execPauseExpiry mac prio s
  | .pauseWatchdogTrip mac prio => Sys2Proof.Machine.execPauseWatchdogTrip mac prio s
  | .pauseIgnoreEnd mac prio => Sys2Proof.Machine.execPauseIgnoreEnd mac prio s
  | .xoffRefresh mac cls => Sys2Proof.Machine.execXoffRefresh mac cls s
  | .opticInsert port media cls => Sys2Proof.Machine.execOpticInsert port media cls s
  | .neighbourRefresh mac tenant => Sys2Proof.Machine.execNeighbourRefresh mac tenant s
  | .frameTransmitComplete mac => Sys2Proof.Machine.execFrameTransmitComplete mac s
  | .macPortModeWrite c port mode => Sys2Proof.Machine.execMacPortModeWrite c port mode s
  | .macPortRestart c port => Sys2Proof.Machine.execMacPortRestart c port s
  | .tokenRefill => Sys2Proof.Machine.execTokenRefill s
  | .shareWindowEnd slot => Sys2Proof.Machine.execShareWindowEnd slot s
  | .quietPeriodStart tenant => Sys2Proof.Machine.execQuietPeriodStart tenant s
  | .flowWeightSet c dflt entries => Sys2Proof.Machine.execFlowWeightSet c dflt entries s
  | .tenantStats c => Sys2Proof.Machine.execTenantStats c s
  | .coilCountVisit cell => Sys2Proof.Machine.execCoilCountVisit cell s
  | .coilPassEnd => Sys2Proof.Machine.execCoilPassEnd s
  | .moverBurstComplete channel => Sys2Proof.Machine.execMoverBurstComplete channel s
  | .movAbort c channels => Sys2Proof.Machine.execMovAbort c channels s
  | .moverFault channel ecc => Sys2Proof.Machine.execMoverFault channel ecc s
  | .discoveryStepTimeout slot => Sys2Proof.Machine.execDiscoveryStepTimeout slot s
  | .driveMemoryRequest slot addr len isWrite relaxed => Sys2Proof.Machine.execDriveMemoryRequest slot addr len isWrite relaxed s
  | .windowCommit slot => Sys2Proof.Machine.execWindowCommit slot s
  | .windowDrainEnd slot => Sys2Proof.Machine.execWindowDrainEnd slot s
  | .driveTimeout slot tag => Sys2Proof.Machine.execDriveTimeout slot tag s
  | .tagQuarantineEnd slot tag => Sys2Proof.Machine.execTagQuarantineEnd slot tag s
  | .configReadTimeout slot num => Sys2Proof.Machine.execConfigReadTimeout slot num s
  | .driveLinkDown slot containment => Sys2Proof.Machine.execDriveLinkDown slot containment s
  | .perstPulseEnd slot => Sys2Proof.Machine.execPerstPulseEnd slot s
  | .driveLinkDownTimeout slot => Sys2Proof.Machine.execDriveLinkDownTimeout slot s
  | .slotReset c slot => Sys2Proof.Machine.execSlotReset c slot s
  | .sepCtrlWrite c enable => Sys2Proof.Machine.execSepCtrlWrite c enable s
  | .sepMbxMapWrite c map => Sys2Proof.Machine.execSepMbxMapWrite c map s
  | .sepReset => Sys2Proof.Machine.execSepReset s
  | .busMasterEnable on => Sys2Proof.Machine.execBusMasterEnable on s
  | .driveLinkUp slot rate width d => Sys2Proof.Machine.execDriveLinkUp slot rate width d s
  | .sepLinkUp rate width => Sys2Proof.Machine.execSepLinkUp rate width s
  | .pairLinkUp peer => Sys2Proof.Machine.execPairLinkUp peer s
  | .pairLinkDown => Sys2Proof.Machine.execPairLinkDown s
  | .pairLaneFail => Sys2Proof.Machine.execPairLaneFail s
  | .mirrorRecord num kind shard seq time sub bytes ctx tag addr data capsule => Sys2Proof.Machine.execMirrorRecord num kind shard seq time sub bytes ctx tag addr data capsule s
  | .mirrorAck num room => Sys2Proof.Machine.execMirrorAck num room s
  | .pairStateMessage m => Sys2Proof.Machine.execPairStateMessage m s
  | .pairTimeMessage offset mode => Sys2Proof.Machine.execPairTimeMessage offset mode s
  | .forwardedCommand num capsule => Sys2Proof.Machine.execForwardedCommand num capsule s
  | .forwardReply num status stampTime stampSeq extents data => Sys2Proof.Machine.execForwardReply num status stampTime stampSeq extents data s
  | .pairHeartbeatSend => Sys2Proof.Machine.execPairHeartbeatSend s
  | .pairHeartbeat tether ack ackStamp power => Sys2Proof.Machine.execPairHeartbeat tether ack ackStamp power s
  | .pairHeartbeatMiss => Sys2Proof.Machine.execPairHeartbeatMiss s
  | .dyingMessage => Sys2Proof.Machine.execDyingMessage s
  | .leaseLapse => Sys2Proof.Machine.execLeaseLapse s
  | .fenceDeferExpiry => Sys2Proof.Machine.execFenceDeferExpiry s
  | .tetherYield => Sys2Proof.Machine.execTetherYield s
  | .takeover => Sys2Proof.Machine.execTakeover s
  | .pairRejoin => Sys2Proof.Machine.execPairRejoin s
  | .shardHandover shard stampTime stampSeq => Sys2Proof.Machine.execShardHandover shard stampTime stampSeq s
  | .pairHomeWrite c low high => Sys2Proof.Machine.execPairHomeWrite c low high s
  | .pairCtrlHandover c => Sys2Proof.Machine.execPairCtrlHandover c s
  | .tetherHopUp down authOk => Sys2Proof.Machine.execTetherHopUp down authOk s
  | .tetherHopDown down cable => Sys2Proof.Machine.execTetherHopDown down cable s
  | .reeve addr => Sys2Proof.Machine.execReeve addr s
  | .reeveDone total => Sys2Proof.Machine.execReeveDone total s
  | .reeveStart c => Sys2Proof.Machine.execReeveStart c s
  | .tetherHeartbeat source seq fromDown addr shelf digest role hops => Sys2Proof.Machine.execTetherHeartbeat source seq fromDown addr shelf digest role hops s
  | .tetherHeartbeatSend => Sys2Proof.Machine.execTetherHeartbeatSend s
  | .tetherMemberTimeout addr => Sys2Proof.Machine.execTetherMemberTimeout addr s
  | .tetherMailbox source dest seq hops fromDown ctx length => Sys2Proof.Machine.execTetherMailbox source dest seq hops fromDown ctx length s
  | .discover source seq hops fromDown ends => Sys2Proof.Machine.execDiscover source seq hops fromDown ends s
  | .supplyBandWindow meanMv meanMa holdupJ => Sys2Proof.Machine.execSupplyBandWindow meanMv meanMa holdupJ s
  | .keepSafeExit => Sys2Proof.Machine.execKeepSafeExit s
  | .channelWindowChange ch mv => Sys2Proof.Machine.execChannelWindowChange ch mv s
  | .slotPresenceChange slot present => Sys2Proof.Machine.execSlotPresenceChange slot present s
  | .insertDelayExpiry ch => Sys2Proof.Machine.execInsertDelayExpiry ch s
  | .staggerTurn slot => Sys2Proof.Machine.execStaggerTurn slot s
  | .prechargeDone ch outMv => Sys2Proof.Machine.execPrechargeDone ch outMv s
  | .prechargeTimeout ch => Sys2Proof.Machine.execPrechargeTimeout ch s
  | .rampDone ch outMv gateFull => Sys2Proof.Machine.execRampDone ch outMv gateFull s
  | .rampFaultTimeout ch => Sys2Proof.Machine.execRampFaultTimeout ch s
  | .currentLimitReached ch ma => Sys2Proof.Machine.execCurrentLimitReached ch ma s
  | .limitRelease ch belowUs => Sys2Proof.Machine.execLimitRelease ch belowUs s
  | .faultTimerExpiry ch => Sys2Proof.Machine.execFaultTimerExpiry ch s
  | .pgQualified ch heldUs => Sys2Proof.Machine.execPgQualified ch heldUs s
  | .pgLoss ch outMv => Sys2Proof.Machine.execPgLoss ch outMv s
  | .retryWaitEnd ch => Sys2Proof.Machine.execRetryWaitEnd ch s
  | .failureCountClear ch => Sys2Proof.Machine.execFailureCountClear ch s
  | .deviceDamage ch test heldUs => Sys2Proof.Machine.execDeviceDamage ch test heldUs s
  | .slotChCtrl c slot value => Sys2Proof.Machine.execSlotChCtrl c slot value s
  | .inputLatchClear belowUs withdrawn => Sys2Proof.Machine.execInputLatchClear belowUs withdrawn s
  | .belayQualification => Sys2Proof.Machine.execBelayQualification s
  | .rideThrough mv => Sys2Proof.Machine.execRideThrough mv s
  | .drowseIdleExpiry => Sys2Proof.Machine.execDrowseIdleExpiry s
  | .dormantIdleExpiry => Sys2Proof.Machine.execDormantIdleExpiry s
  | .entryStepComplete => Sys2Proof.Machine.execEntryStepComplete s
  | .domainWake domain => Sys2Proof.Machine.execDomainWake domain s
  | .domainIdleExpiry domain => Sys2Proof.Machine.execDomainIdleExpiry domain s
  | .driveIdleTimeout => Sys2Proof.Machine.execDriveIdleTimeout s
  | .driveShutdownTimeout slot => Sys2Proof.Machine.execDriveShutdownTimeout slot s
  | .driveShutdownComplete slot => Sys2Proof.Machine.execDriveShutdownComplete slot s
  | .dormantWindowStart => Sys2Proof.Machine.execDormantWindowStart s
  | .dormantWindowEnd => Sys2Proof.Machine.execDormantWindowEnd s
  | .dormantTimerWake => Sys2Proof.Machine.execDormantTimerWake s
  | .powerOn mv => Sys2Proof.Machine.execPowerOn mv s
  | .startupPhaseEnd phase r => Sys2Proof.Machine.execStartupPhaseEnd phase r s
  | .startupBudgetExpiry phase => Sys2Proof.Machine.execStartupBudgetExpiry phase s
  | .lockWaitExpiry => Sys2Proof.Machine.execLockWaitExpiry s

end Machine
end Sys2Proof
end

