-- ==== Sys2Proof/Machine/Step.lean ====
section
/-!
DEFINITION. One step: the command at the front of the queue, or the passing of time on an empty queue (log entry 5).
-/
namespace Sys2Proof
namespace Machine

/-- A step takes the command at the front of the queue and runs it with the queue's rest; on an empty queue the block idles
and time passes (log entry 5). -/
def step (s : State) : Host.Outcome State Fault Refusal :=
  match s.pending with
  | [] => .next (tryOpen (recoverNext (resumePaced (pumpPldm (reportTemps s.layers.windowAt (scheduleDrives (idle s)))))))
  | c :: rest => exec c { s with pending := rest }

/-- `s` with the command that a word spells put at the front of its queue; no word spells one. -/
def State.withFetchWord (s : State) (nbits w : Nat) : State :=
  match decodeTableWord nbits w with
  | some c => { s with pending := c :: s.pending }
  | none => s

end Machine
end Sys2Proof
end

