-- ==== Sys2Proof/Safety.lean ====
section
/-!
DEFINITION. The terms claims are stated in: the parts of the state, what a command may change, what it is for a command to complete,
and what stands in every state a run reaches.
-/
namespace Sys2Proof
namespace Machine

/-- The parts of the state a frame speaks of. -/
inductive Part where
  /-- The vendor key digests fused at manufacture (02 R63). -/
  | vendorKeys
  /-- The fused security version (02 R64). -/
  | fuse
  /-- The custodian keys and k of the quorum (02 R38). -/
  | custodians
  /-- How many values the DRBG and the free values have given (log entry 2). -/
  | draws
  /-- The other authority state: enrolled keys, grants, ceremonies, staging, tokens and the shelf wrapping key (02). -/
  | authority
  /-- The ticks of one idle step (log entry 5). -/
  | idleTicks
  /-- The time challenge outstanding (03 R76). -/
  | challenge
  /-- Shelf Time, Custody Time and what disciplines them (03). -/
  | clocks
  /-- Controllers, namespaces, streams, sanitises and the commands waiting or in flight (04). -/
  | block
  /-- Objects (05). -/
  | objects
  /-- Tenant records (05, 19 R472). -/
  | tenants
  /-- Collections, locks, epochs, erasures (05). -/
  | containers
  /-- The index (06). -/
  | idx
  /-- The log: shards, segments, records, rows, splice journal (07). -/
  | log
  /-- Members, losses, scrub, record banks (08, 10). -/
  | mem
  /-- The lanyards, their chains, receipts and checkpoints, and the custody certificates (09). -/
  | chains
  /-- Receipt batches and the replies that wait for them (09). -/
  | batches
  /-- Hitches (11). -/
  | hitch
  /-- Contexts, set-ups and held packets (12). -/
  | trn
  /-- Landing memory (13). -/
  | landing
  /-- Regions, triggers and the exception ring (13). -/
  | regions
  /-- MACs and cages (14). -/
  | net
  /-- Scheduler queues, buckets, weights and shares (15). -/
  | sch
  /-- The Hold (16). -/
  | hold
  /-- The mover (16). -/
  | mov
  /-- Drive ports (17). -/
  | drv
  /-- The service endpoint (17). -/
  | sep
  /-- The module pair (18). -/
  | pair
  /-- The tether chain (18). -/
  | tet
  /-- Mailbox connections, nonces and rings (19). -/
  | mbx
  /-- The layers a parameter takes its value from (20). -/
  | config
  /-- Status registers, figures and what PARAM_GET latches (19, 20). -/
  | status
  /-- Power entry, slot feeds, hold-up (21). -/
  | pwr
  /-- Power states (22). -/
  | pst
  /-- Event rings (23). -/
  | ev
  /-- Start-up (24). -/
  | boot
  /-- The SPDM responder (02 R65). -/
  | spdm
  /-- What has left the module. -/
  | out
  /-- Completions that wait (03 R86). -/
  | held
  /-- The number the next waiting completion takes. -/
  | nextId
  /-- The command queue. -/
  | pending
deriving DecidableEq, Repr

/-- The index of a part. -/
def Part.bit : Part → Nat
  | .vendorKeys => 0
  | .fuse => 1
  | .custodians => 2
  | .draws => 3
  | .authority => 4
  | .idleTicks => 5
  | .challenge => 6
  | .clocks => 7
  | .block => 8
  | .objects => 9
  | .tenants => 10
  | .containers => 11
  | .idx => 12
  | .log => 13
  | .mem => 14
  | .chains => 15
  | .batches => 16
  | .hitch => 17
  | .trn => 18
  | .landing => 19
  | .regions => 20
  | .net => 21
  | .sch => 22
  | .hold => 23
  | .mov => 24
  | .drv => 25
  | .sep => 26
  | .pair => 27
  | .tet => 28
  | .mbx => 29
  | .config => 30
  | .status => 31
  | .pwr => 32
  | .pst => 33
  | .ev => 34
  | .boot => 35
  | .spdm => 36
  | .out => 37
  | .held => 38
  | .nextId => 39
  | .pending => 40

/-- Two states agree on a part. -/
def Part.agree (p : Part) (t s : State) : Prop :=
  match p with
  | .vendorKeys => t.auth.vendorKeys = s.auth.vendorKeys
  | .fuse => t.auth.fusedSvn = s.auth.fusedSvn
  | .custodians => (t.auth.custKeys, t.auth.quorumK) = (s.auth.custKeys, s.auth.quorumK)
  | .draws => (t.auth.drawn, t.auth.freeUsed) = (s.auth.drawn, s.auth.freeUsed)
  | .authority => (t.auth.keys, t.auth.timeKey, t.auth.escrowKey, t.auth.grants, t.auth.ceremonies, t.auth.targets, t.auth.fwConsent, t.auth.runningSvn, t.auth.release, t.auth.previous, t.auth.revoked, t.auth.asked, t.auth.staging, t.auth.debugNonce, t.auth.unlocked, t.auth.shelfKey, t.auth.shelfVault, t.auth.shelfEscrow, t.auth.escrowAt, t.auth.dramKey) = (s.auth.keys, s.auth.timeKey, s.auth.escrowKey, s.auth.grants, s.auth.ceremonies, s.auth.targets, s.auth.fwConsent, s.auth.runningSvn, s.auth.release, s.auth.previous, s.auth.revoked, s.auth.asked, s.auth.staging, s.auth.debugNonce, s.auth.unlocked, s.auth.shelfKey, s.auth.shelfVault, s.auth.shelfEscrow, s.auth.escrowAt, s.auth.dramKey)
  | .idleTicks => t.time.idleTicks = s.time.idleTicks
  | .challenge => t.time.challenge = s.time.challenge
  | .clocks => (t.time.ticks, t.time.shelf, t.time.mono, t.time.openedAt, t.time.slewed, t.time.mode, t.time.everLocked, t.time.slewLeft, t.time.gm, t.time.distrusted, t.time.foreign, t.time.goodSince, t.time.ptpOffset, t.time.pathDelay, t.time.delayReq, t.time.onStandby, t.time.holdSince, t.time.ppsQual, t.time.ppsRun, t.time.refQual, t.time.refPpb, t.time.follower, t.time.aligned, t.time.leadMode, t.time.pairOffset, t.time.custody, t.time.custOffset, t.time.anchor, t.time.lastBeacon, t.time.beacons, t.time.vault, t.time.latch) = (s.time.ticks, s.time.shelf, s.time.mono, s.time.openedAt, s.time.slewed, s.time.mode, s.time.everLocked, s.time.slewLeft, s.time.gm, s.time.distrusted, s.time.foreign, s.time.goodSince, s.time.ptpOffset, s.time.pathDelay, s.time.delayReq, s.time.onStandby, s.time.holdSince, s.time.ppsQual, s.time.ppsRun, s.time.refQual, s.time.refPpb, s.time.follower, s.time.aligned, s.time.leadMode, s.time.pairOffset, s.time.custody, s.time.custOffset, s.time.anchor, s.time.lastBeacon, s.time.beacons, s.time.vault, s.time.latch)
  | .block => t.block = s.block
  | .objects => t.obj.objs = s.obj.objs
  | .tenants => t.obj.tenants = s.obj.tenants
  | .containers => (t.obj.epochs, t.obj.everTenant, t.obj.colls, t.obj.locks, t.obj.lapsed, t.obj.ingress, t.obj.erasures, t.obj.owed) = (s.obj.epochs, s.obj.everTenant, s.obj.colls, s.obj.locks, s.obj.lapsed, s.obj.ingress, s.obj.erasures, s.obj.owed)
  | .idx => t.idx = s.idx
  | .log => t.log = s.log
  | .mem => t.mem = s.mem
  | .chains => (t.fix.epoch, t.fix.certified, t.fix.certs, t.fix.issued, t.fix.disabled, t.fix.current, t.fix.past) = (s.fix.epoch, s.fix.certified, s.fix.certs, s.fix.issued, s.fix.disabled, s.fix.current, s.fix.past)
  | .batches => (t.fix.batches, t.fix.deferred, t.fix.lastCkpt, t.fix.ckptUnanchored, t.fix.waiting) = (s.fix.batches, s.fix.deferred, s.fix.lastCkpt, s.fix.ckptUnanchored, s.fix.waiting)
  | .hitch => t.hitch = s.hitch
  | .trn => t.trn = s.trn
  | .landing => t.reg.mem = s.reg.mem
  | .regions => (t.reg.regions, t.reg.triggers, t.reg.ring, t.reg.armed) = (s.reg.regions, s.reg.triggers, s.reg.ring, s.reg.armed)
  | .net => t.net = s.net
  | .sch => t.sch = s.sch
  | .hold => t.hold = s.hold
  | .mov => t.mov = s.mov
  | .drv => t.drv = s.drv
  | .sep => t.sep = s.sep
  | .pair => t.pair = s.pair
  | .tet => t.tet = s.tet
  | .mbx => t.mbx = s.mbx
  | .config => (t.layers.base, t.layers.sets, t.layers.generation, t.layers.baseDigest, t.layers.baseClass, t.layers.anchorAge, t.layers.reservePct, t.layers.service, t.layers.overlays, t.layers.removing) = (s.layers.base, s.layers.sets, s.layers.generation, s.layers.baseDigest, s.layers.baseClass, s.layers.anchorAge, s.layers.reservePct, s.layers.service, s.layers.overlays, s.layers.removing)
  | .status => (t.layers.status, t.layers.figures, t.layers.reported, t.layers.windowAt, t.layers.latched) = (s.layers.status, s.layers.figures, s.layers.reported, s.layers.windowAt, s.layers.latched)
  | .pwr => t.pwr = s.pwr
  | .pst => t.pst = s.pst
  | .ev => t.ev = s.ev
  | .boot => t.boot = s.boot
  | .spdm => t.spdm = s.spdm
  | .out => t.out = s.out
  | .held => t.held = s.held
  | .nextId => t.nextId = s.nextId
  | .pending => t.pending = s.pending

/-- Every part but those listed is as it was. -/
def ChangesOnly (ps : List Part) (t s : State) : Prop := ∀ p, p ∉ ps → p.agree t s

/-- The bits of some parts. -/
def maskOf (ps : List Part) : Nat := ps.foldl (fun m p => m ||| 2 ^ p.bit) 0

/-- The parts a command may change; every other part it leaves as it is, in every state. -/
def footprint : Instr → List Part
  | .connect .. | .propertyGet .. | .getLogPage .. | .identify .. | .abort .. | .setFeatures .. | .getFeatures ..
  | .asynchronousEventRequest .. | .formatNvm .. | .sanitize .. | .flush .. | .reservationRegister .. | .reservationReport ..
  | .reservationAcquire .. | .reservationRelease .. =>
    [.draws, .clocks, .block, .tenants, .log, .mem, .trn, .net, .sch, .drv, .sep, .pair, .tet, .mbx, .status, .pwr, .pst, .ev, .out, .held,
     .nextId]
  | .disconnect .. | .propertySet .. | .keepAlive .. =>
    [.draws, .challenge, .clocks, .block, .tenants, .idx, .log, .mem, .batches, .hitch, .trn, .regions, .net, .sch, .drv, .sep, .pair, .tet,
     .mbx, .status, .pwr, .pst, .ev, .out, .held, .nextId]
  | .namespaceCreate .. | .namespaceDelete .. =>
    [.draws, .clocks, .block, .tenants, .log, .mem, .chains, .trn, .net, .sch, .drv, .sep, .pair, .tet, .mbx, .status, .pwr, .pst, .ev,
     .out, .held, .nextId]
  | .keepAliveExpiry .. =>
    [.challenge, .block, .idx, .batches, .hitch, .trn, .regions, .mbx, .ev, .out, .held]
  | .nvmeWrite .. =>
    [.draws, .clocks, .block, .objects, .tenants, .idx, .log, .mem, .trn, .net, .sch, .hold, .drv, .sep, .pair, .tet, .mbx, .status, .pwr,
     .pst, .ev, .out, .held, .nextId]
  | .nvmeRead .. | .compare .. =>
    [.draws, .clocks, .block, .objects, .tenants, .idx, .log, .mem, .chains, .hitch, .trn, .net, .sch, .hold, .drv, .sep, .pair, .tet, .mbx,
     .status, .pwr, .pst, .ev, .out, .held, .nextId]
  | .prefetchExpiry .. =>
    [.block, .hold, .status]
  | .writeZeroes .. | .datasetManagement .. =>
    [.draws, .clocks, .block, .tenants, .idx, .log, .mem, .trn, .net, .sch, .hold, .drv, .sep, .pair, .tet, .mbx, .status, .pwr, .pst, .ev,
     .out, .held, .nextId]
  | .nvmeVerify .. | .verify .. =>
    [.draws, .clocks, .block, .objects, .tenants, .idx, .log, .mem, .chains, .trn, .net, .sch, .drv, .sep, .pair, .tet, .mbx, .status, .pwr,
     .pst, .ev, .out, .held, .nextId]
  | .admitCommand | .quietPeriodStart .. =>
    [.draws, .authority, .challenge, .clocks, .block, .objects, .tenants, .containers, .idx, .log, .mem, .chains, .batches, .hitch, .trn,
     .regions, .net, .sch, .hold, .drv, .sep, .pair, .tet, .mbx, .status, .pwr, .pst, .ev, .out, .held, .nextId]
  | .notVisibleRelease .. =>
    [.clocks, .block, .trn, .net, .sch, .sep, .pair, .tet, .mbx, .status, .ev, .out, .held]
  | .completionRelease .. =>
    [.draws, .authority, .challenge, .clocks, .block, .objects, .tenants, .containers, .idx, .log, .mem, .chains, .batches, .hitch, .trn,
     .landing, .regions, .net, .sch, .hold, .drv, .sep, .pair, .tet, .mbx, .config, .status, .pst, .ev, .boot, .out, .held, .nextId]
  | .put .. | .sealObject .. | .copy .. =>
    [.draws, .clocks, .block, .objects, .tenants, .idx, .log, .mem, .chains, .batches, .trn, .net, .sch, .drv, .sep, .pair, .tet, .mbx,
     .status, .pwr, .pst, .ev, .out, .held, .nextId]
  | .putPart .. =>
    [.draws, .clocks, .block, .objects, .tenants, .idx, .log, .mem, .trn, .net, .sch, .drv, .sep, .pair, .tet, .mbx, .status, .pwr, .pst,
     .ev, .out, .held, .nextId]
  | .putAbort .. =>
    [.draws, .clocks, .block, .objects, .tenants, .containers, .idx, .log, .mem, .chains, .trn, .net, .sch, .drv, .sep, .pair, .tet, .mbx,
     .status, .pwr, .pst, .ev, .out, .held, .nextId]
  | .get .. | .head .. | .list .. | .release .. =>
    [.draws, .clocks, .block, .tenants, .idx, .log, .mem, .trn, .net, .sch, .drv, .sep, .pair, .tet, .mbx, .status, .pwr, .pst, .ev, .out,
     .held, .nextId]
  | .delete .. =>
    [.draws, .clocks, .block, .objects, .tenants, .containers, .idx, .log, .mem, .chains, .hitch, .trn, .net, .sch, .drv, .sep, .pair, .tet,
     .mbx, .status, .pwr, .pst, .ev, .out, .held, .nextId]
  | .hold .. | .stopper .. | .uopRelay .. =>
    [.draws, .clocks, .block, .objects, .tenants, .containers, .idx, .log, .mem, .chains, .batches, .hitch, .trn, .net, .sch, .drv, .sep,
     .pair, .tet, .mbx, .status, .pwr, .pst, .ev, .out, .held, .nextId]
  | .collCreate .. =>
    [.draws, .clocks, .block, .tenants, .containers, .idx, .log, .mem, .chains, .trn, .net, .sch, .drv, .sep, .pair, .tet, .mbx, .status,
     .pwr, .pst, .ev, .out, .held, .nextId]
  | .collDelete .. =>
    [.draws, .authority, .clocks, .block, .tenants, .containers, .idx, .log, .mem, .chains, .trn, .net, .sch, .drv, .sep, .pair, .tet, .mbx,
     .status, .pwr, .pst, .ev, .out, .held, .nextId]
  | .openIdleExpiry .. =>
    [.draws, .objects, .containers, .idx, .log, .mem, .chains, .sch, .drv, .sep, .pair, .status, .ev, .out]
  | .lockSweep =>
    [.draws, .containers, .log, .mem, .chains, .sch, .drv, .sep, .pair, .status, .ev, .out]
  | .receiptBatchClose .. =>
    [.batches]
  | .receiptBatchSigned .. =>
    [.clocks, .chains, .batches, .trn, .net, .sch, .sep, .pair, .tet, .mbx, .status, .ev, .out, .held]
  | .lanyardCheckpoint =>
    [.draws, .log, .mem, .chains, .batches, .sch, .drv, .sep, .pair, .status, .pst, .ev, .out]
  | .lanyardRead .. | .lanyardProof .. | .lanyardExport .. | .identityGet .. | .paramGet .. | .quorumStatus .. | .sanitiseStatus ..
  | .evtRead .. | .lossReportRead .. | .hitchStatus .. | .flowWeightSet .. | .tenantStats .. =>
    [.draws, .clocks, .log, .mem, .trn, .net, .sch, .drv, .sep, .pair, .tet, .mbx, .status, .pwr, .pst, .ev, .out, .held, .nextId]
  | .receiptRead .. =>
    [.draws, .clocks, .log, .mem, .batches, .trn, .net, .sch, .drv, .sep, .pair, .tet, .mbx, .status, .pwr, .pst, .ev, .out, .held, .nextId]
  | .fixityDisclose .. =>
    [.draws, .clocks, .idx, .log, .mem, .trn, .net, .sch, .drv, .sep, .pair, .tet, .mbx, .status, .pwr, .pst, .ev, .out, .held, .nextId]
  | .custodyCertify .. | .timeAuthEnrol .. =>
    [.draws, .authority, .clocks, .log, .mem, .chains, .batches, .trn, .net, .sch, .drv, .sep, .pair, .tet, .mbx, .status, .pwr, .pst, .ev,
     .out, .held, .nextId]
  | .mailboxDoorbell .. =>
    [.draws, .challenge, .clocks, .block, .idx, .batches, .hitch, .trn, .regions, .net, .sch, .sep, .pair, .tet, .mbx, .status, .pst, .ev,
     .out, .held]
  | .responseHeadWrite .. =>
    [.sep, .mbx, .status, .ev, .out]
  | .mailboxIdleTimeout .. =>
    [.challenge, .batches, .mbx, .ev, .held]
  | .mbxChallenge .. =>
    [.draws, .clocks, .trn, .net, .sch, .sep, .pair, .tet, .mbx, .status, .ev, .out]
  | .mbxOpen .. =>
    [.clocks, .trn, .net, .sch, .sep, .pair, .tet, .mbx, .status, .ev, .out]
  | .mbxClose .. =>
    [.draws, .challenge, .clocks, .block, .idx, .log, .mem, .batches, .hitch, .trn, .regions, .net, .sch, .drv, .sep, .pair, .tet, .mbx,
     .status, .pwr, .pst, .ev, .out, .held, .nextId]
  | .paramSet .. | .tsStatusClear .. | .scrubStart .. | .macPortModeWrite .. | .macPortRestart .. | .movAbort .. | .slotReset ..
  | .sepCtrlWrite .. | .sepMbxMapWrite .. | .pairHomeWrite .. | .pairCtrlHandover .. | .reeveStart .. | .slotChCtrl .. =>
    [.draws, .idleTicks, .challenge, .clocks, .block, .objects, .idx, .log, .mem, .chains, .batches, .hitch, .trn, .landing, .regions, .net,
     .sch, .hold, .mov, .drv, .sep, .pair, .tet, .mbx, .config, .status, .pwr, .pst, .ev, .out, .held, .nextId]
  | .quorumBegin .. | .debugChallenge .. =>
    [.draws, .authority, .clocks, .log, .mem, .trn, .net, .sch, .drv, .sep, .pair, .tet, .mbx, .status, .pwr, .pst, .ev, .out, .held,
     .nextId]
  | .quorumSign .. =>
    [.custodians, .draws, .authority, .idleTicks, .challenge, .clocks, .block, .objects, .tenants, .containers, .idx, .log, .mem, .chains,
     .batches, .hitch, .trn, .regions, .net, .sch, .drv, .sep, .pair, .tet, .mbx, .config, .status, .pwr, .pst, .ev, .boot, .out, .held,
     .nextId]
  | .ceremonyExpiry .. =>
    [.authority, .sep, .status, .ev, .out]
  | .custodianSetChange .. =>
    [.custodians, .draws, .authority, .challenge, .clocks, .block, .idx, .log, .mem, .chains, .batches, .hitch, .trn, .regions, .net, .sch,
     .drv, .sep, .pair, .tet, .mbx, .status, .pwr, .pst, .ev, .boot, .out, .held, .nextId]
  | .escrowImport .. =>
    [.draws, .authority, .clocks, .tenants, .log, .mem, .chains, .batches, .trn, .net, .sch, .drv, .sep, .pair, .tet, .mbx, .status, .pwr,
     .pst, .ev, .out, .held, .nextId]
  | .tenantCreate .. =>
    [.draws, .authority, .clocks, .tenants, .containers, .idx, .log, .mem, .chains, .trn, .net, .sch, .drv, .sep, .pair, .tet, .mbx,
     .status, .pwr, .pst, .ev, .out, .held, .nextId]
  | .tenantQuotaSet .. =>
    [.draws, .clocks, .tenants, .idx, .log, .mem, .trn, .net, .sch, .drv, .sep, .pair, .tet, .mbx, .status, .pwr, .pst, .ev, .out, .held,
     .nextId]
  | .tenantErase .. =>
    [.draws, .authority, .clocks, .containers, .log, .mem, .trn, .net, .sch, .drv, .sep, .pair, .tet, .mbx, .status, .pwr, .pst, .ev, .out,
     .held, .nextId]
  | .grantIssue .. =>
    [.draws, .authority, .clocks, .block, .log, .mem, .chains, .trn, .net, .sch, .drv, .sep, .pair, .tet, .mbx, .status, .pwr, .pst, .ev,
     .out, .held, .nextId]
  | .grantRevoke .. =>
    [.draws, .authority, .challenge, .clocks, .block, .idx, .log, .mem, .chains, .batches, .hitch, .trn, .regions, .net, .sch, .drv, .sep,
     .pair, .tet, .mbx, .status, .pwr, .pst, .ev, .out, .held, .nextId]
  | .timeChallenge .. =>
    [.draws, .challenge, .clocks, .log, .mem, .trn, .net, .sch, .drv, .sep, .pair, .tet, .mbx, .status, .pwr, .pst, .ev, .out, .held,
     .nextId]
  | .timeBeacon .. =>
    [.draws, .challenge, .clocks, .block, .containers, .idx, .log, .mem, .chains, .batches, .hitch, .trn, .regions, .net, .sch, .drv, .sep,
     .pair, .tet, .mbx, .status, .pwr, .pst, .ev, .out, .held, .nextId]
  | .anchorAged | .custodyPersist | .delayResp .. | .ptpLockAchieved | .ref10mQualified .. =>
    [.clocks]
  | .fwStage .. =>
    [.draws, .authority, .clocks, .log, .mem, .chains, .trn, .net, .sch, .drv, .sep, .pair, .tet, .mbx, .status, .pwr, .pst, .ev, .out,
     .held, .nextId]
  | .fwCommit .. =>
    [.fuse, .draws, .authority, .clocks, .log, .mem, .chains, .trn, .net, .sch, .drv, .sep, .pair, .tet, .mbx, .status, .pwr, .pst, .ev,
     .out, .held, .nextId]
  | .debugUnlock .. =>
    [.draws, .authority, .challenge, .clocks, .block, .tenants, .idx, .log, .mem, .chains, .batches, .hitch, .trn, .landing, .regions, .net,
     .sch, .drv, .sep, .pair, .tet, .mbx, .status, .pwr, .pst, .ev, .out, .held, .nextId]
  | .ovlApply .. | .ovlRemove .. | .baseLoad .. =>
    [.draws, .authority, .idleTicks, .challenge, .clocks, .block, .idx, .log, .mem, .chains, .batches, .hitch, .trn, .regions, .net, .sch,
     .drv, .sep, .pair, .tet, .mbx, .config, .status, .pwr, .pst, .ev, .boot, .out, .held, .nextId]
  | .rebuildSafeExpiry =>
    [.draws, .idleTicks, .challenge, .clocks, .block, .idx, .log, .mem, .chains, .batches, .hitch, .trn, .regions, .net, .sch, .drv, .sep,
     .pair, .tet, .mbx, .config, .status, .ev, .out, .held]
  | .slotPower .. | .memberFail .. =>
    [.draws, .clocks, .block, .objects, .idx, .log, .mem, .chains, .hitch, .trn, .net, .sch, .hold, .drv, .sep, .pair, .tet, .mbx, .status,
     .pwr, .pst, .ev, .out, .held, .nextId]
  | .sanitiseStart .. =>
    [.draws, .authority, .challenge, .clocks, .block, .tenants, .idx, .log, .mem, .chains, .batches, .hitch, .trn, .regions, .net, .sch,
     .drv, .sep, .pair, .tet, .mbx, .status, .pwr, .pst, .ev, .out, .held, .nextId]
  | .uopRelease .. =>
    [.draws, .authority, .clocks, .objects, .containers, .idx, .log, .mem, .chains, .batches, .hitch, .trn, .net, .sch, .drv, .sep, .pair,
     .tet, .mbx, .status, .pwr, .pst, .ev, .out, .held, .nextId]
  | .pldmEventResponse .. | .setEventReceiver .. =>
    [.draws, .status, .pst, .ev, .out]
  | .pldmEventTimeout | .holdoverLimit | .driveMemoryRequest .. =>
    [.sep, .status, .ev, .out]
  | .getVersion | .getCapabilities | .negotiateAlgorithms .. =>
    [.draws, .status, .pst, .spdm, .out]
  | .getDigests | .getCertificate .. | .challenge .. | .getMeasurements .. =>
    [.draws, .status, .pst, .out]
  | .ptpAnnounce .. | .announceReceiptTimeout =>
    [.idleTicks, .challenge, .clocks]
  | .ptpSync .. =>
    [.idleTicks, .challenge, .clocks, .sep, .status, .ev, .out]
  | .delayReqSend | .setupResp .. | .ackDelayTimer .. | .nakDelayTimer .. | .retransmitTimeout .. | .messageAgeTimeout ..
  | .arpRequest .. | .icmpEcho .. | .neighbourRefresh .. =>
    [.clocks, .trn, .net, .sch, .tet, .status, .out]
  | .ppsEdge .. | .ref10mLoss =>
    [.clocks, .sep, .status, .ev, .out]
  | .indexWalkComplete .. =>
    [.draws, .clocks, .block, .objects, .tenants, .idx, .log, .mem, .chains, .hitch, .trn, .net, .sch, .hold, .drv, .sep, .pair, .tet, .mbx,
     .status, .ev, .out, .held, .nextId]
  | .deltaFlushAge .. | .indexFlushCommit .. | .subtreeRebuildComplete .. =>
    [.draws, .idx, .log, .mem, .sch, .drv, .sep, .pair, .status, .ev, .out]
  | .stripeCloseDelay .. =>
    [.log, .sch, .drv, .sep, .status, .ev, .out]
  | .driveCompletion .. | .driveCriticalWarning .. | .scrubRow .. | .driveTimeout .. | .configReadTimeout .. | .driveLinkDown ..
  | .driveLinkDownTimeout .. =>
    [.draws, .block, .objects, .idx, .log, .mem, .chains, .hitch, .sch, .hold, .drv, .sep, .pair, .status, .ev, .out, .held]
  | .logCheckpoint .. =>
    [.draws, .log, .mem, .sch, .drv, .sep, .pair, .status, .ev, .out]
  | .relocationSelect | .rmwUpdate .. =>
    [.draws, .block, .objects, .idx, .log, .mem, .sch, .drv, .sep, .pair, .status, .ev, .out]
  | .segmentFree .. =>
    [.draws, .block, .log, .mem, .sch, .drv, .sep, .pair, .status, .ev, .out]
  | .belayDriveAbandon =>
    [.hold, .drv, .pwr]
  | .belayStop =>
    [.draws, .authority, .clocks, .block, .objects, .tenants, .idx, .log, .mem, .batches, .hitch, .trn, .landing, .regions, .net, .sch,
     .hold, .mov, .drv, .sep, .pair, .tet, .mbx, .status, .pwr, .pst, .ev, .boot, .spdm, .held]
  | .rmwRetire .. =>
    [.draws, .log, .mem, .chains, .sch, .drv, .sep, .pair, .config, .status, .ev, .out]
  | .strikeExpiry .. | .scrubPassEnd | .pairRejoin =>
    [.draws, .log, .mem, .chains, .sch, .drv, .sep, .pair, .status, .ev, .out]
  | .hedgeTimeout .. =>
    [.sch, .drv, .sep, .status, .ev, .out, .held]
  | .rebuildRow | .restoreRow .. =>
    [.draws, .block, .objects, .idx, .log, .mem, .chains, .sch, .drv, .sep, .pair, .status, .ev, .out]
  | .driveInsert .. =>
    [.draws, .log, .mem, .chains, .sch, .drv, .sep, .pair, .status, .pwr, .ev, .out]
  | .hitchOpen .. =>
    [.draws, .authority, .clocks, .log, .mem, .chains, .batches, .hitch, .trn, .net, .sch, .drv, .sep, .pair, .tet, .mbx, .status, .pwr,
     .pst, .ev, .out, .held, .nextId]
  | .hitchClose .. =>
    [.draws, .authority, .clocks, .containers, .log, .mem, .chains, .batches, .hitch, .trn, .net, .sch, .drv, .sep, .pair, .tet, .mbx,
     .status, .pwr, .pst, .ev, .out, .held, .nextId]
  | .hitchAbort .. =>
    [.draws, .authority, .challenge, .clocks, .block, .objects, .containers, .idx, .log, .mem, .chains, .batches, .hitch, .trn, .regions,
     .net, .sch, .drv, .sep, .pair, .tet, .mbx, .status, .pwr, .pst, .ev, .out, .held, .nextId]
  | .hello .. =>
    [.authority, .challenge, .clocks, .block, .idx, .log, .batches, .hitch, .trn, .regions, .net, .sch, .pair, .tet, .mbx, .status, .ev,
     .out, .held]
  | .scope .. | .collMap .. | .hitchNotAfter .. =>
    [.draws, .authority, .challenge, .clocks, .block, .objects, .containers, .idx, .log, .mem, .chains, .batches, .hitch, .trn, .regions,
     .net, .sch, .drv, .sep, .pair, .tet, .mbx, .status, .ev, .out, .held]
  | .resume .. | .objData .. | .lockUpdate .. | .deleteNotice .. =>
    [.draws, .challenge, .clocks, .block, .objects, .containers, .idx, .log, .mem, .chains, .batches, .hitch, .trn, .regions, .net, .sch,
     .drv, .sep, .pair, .tet, .mbx, .status, .ev, .out, .held]
  | .myavoHeartbeat .. =>
    [.challenge, .clocks, .block, .idx, .batches, .hitch, .trn, .regions, .net, .sch, .sep, .pair, .tet, .mbx, .status, .ev, .out, .held]
  | .myavoHeartbeatSend .. =>
    [.clocks, .hitch, .trn, .net, .sch, .pair, .tet, .status, .out]
  | .hitchSilenceTimeout .. | .excerpt .. | .batchAck .. | .send .. | .readResp .. | .roceAckTimeout .. | .regionRefusalTimeout .. =>
    [.challenge, .clocks, .block, .idx, .batches, .hitch, .trn, .regions, .net, .sch, .tet, .mbx, .status, .ev, .out, .held]
  | .hitchSetupRetry .. =>
    [.draws, .clocks, .hitch, .trn, .net, .sch, .tet, .status, .out]
  | .hitchPassStart .. =>
    [.authority, .clocks, .log, .hitch, .trn, .regions, .net, .sch, .sep, .pair, .tet, .status, .ev, .out]
  | .objBegin .. =>
    [.draws, .challenge, .clocks, .block, .objects, .idx, .log, .mem, .batches, .hitch, .trn, .regions, .net, .sch, .drv, .sep, .pair, .tet,
     .mbx, .status, .ev, .out, .held]
  | .objAbort .. =>
    [.draws, .challenge, .clocks, .block, .objects, .containers, .idx, .log, .mem, .batches, .hitch, .trn, .regions, .net, .sch, .drv, .sep,
     .pair, .tet, .mbx, .status, .ev, .out, .held]
  | .checkpoint .. =>
    [.draws, .challenge, .clocks, .block, .idx, .log, .mem, .chains, .batches, .hitch, .trn, .regions, .net, .sch, .drv, .sep, .pair, .tet,
     .mbx, .status, .ev, .out, .held]
  | .credit .. | .deadTimeExpiry .. | .sepReset =>
    [.challenge, .clocks, .block, .idx, .batches, .hitch, .trn, .regions, .net, .sch, .sep, .tet, .mbx, .status, .ev, .out, .held]
  | .batchClose .. | .passEnd .. =>
    [.draws, .challenge, .clocks, .block, .idx, .log, .mem, .chains, .batches, .hitch, .trn, .regions, .net, .sch, .drv, .sep, .pair, .tet,
     .mbx, .status, .ev, .out, .held, .nextId]
  | .batchReceipt .. | .complete .. =>
    [.draws, .authority, .challenge, .clocks, .block, .idx, .log, .mem, .chains, .batches, .hitch, .trn, .regions, .net, .sch, .drv, .sep,
     .pair, .tet, .mbx, .status, .ev, .out, .held]
  | .setupInit .. =>
    [.draws, .clocks, .trn, .net, .sch, .sep, .tet, .status, .ev, .out]
  | .setupAuth .. =>
    [.clocks, .tenants, .trn, .regions, .net, .sch, .sep, .tet, .mbx, .status, .ev, .out]
  | .setupDone .. =>
    [.clocks, .hitch, .trn, .regions, .net, .sch, .pair, .tet, .mbx, .status, .ev, .out]
  | .setupChild .. =>
    [.draws, .clocks, .trn, .regions, .net, .sch, .sep, .tet, .mbx, .status, .ev, .out]
  | .setupChildDone .. | .keyPhaseChange .. =>
    [.trn, .out]
  | .setupTimeout .. | .contextEvict | .seenEntryExpiry .. | .oldKeyExpiry .. | .oldSaExpiry .. | .cnp .. | .ccRecoverTimer .. =>
    [.trn]
  | .dataPacket .. | .ack .. | .nak .. | .statusReq .. | .status .. | .close .. | .contextFetchComplete .. | .rocePacket .. =>
    [.draws, .challenge, .clocks, .block, .tenants, .idx, .batches, .hitch, .trn, .landing, .regions, .net, .sch, .sep, .pair, .tet, .mbx,
     .status, .pst, .ev, .out, .held]
  | .write .. =>
    [.challenge, .clocks, .block, .idx, .batches, .hitch, .trn, .landing, .regions, .net, .sch, .pair, .tet, .mbx, .status, .ev, .out,
     .held]
  | .writeImm .. =>
    [.challenge, .clocks, .block, .idx, .batches, .hitch, .trn, .landing, .regions, .net, .sch, .sep, .pair, .tet, .mbx, .status, .ev, .out,
     .held]
  | .readReq .. =>
    [.draws, .challenge, .clocks, .block, .idx, .batches, .hitch, .trn, .regions, .net, .sch, .pair, .tet, .mbx, .status, .ev, .out, .held]
  | .reassemblyExpiry .. =>
    [.trn, .regions]
  | .saRekey .. =>
    [.draws, .clocks, .trn, .net, .sch, .tet, .status, .out]
  | .rdmaCm .. =>
    [.clocks, .trn, .regions, .net, .sch, .sep, .tet, .mbx, .status, .ev, .out]
  | .pushAbandonTimeout .. =>
    [.regions]
  | .regionDrained .. =>
    [.trn, .landing, .regions, .sep, .status, .ev, .out]
  | .workRequestComplete .. =>
    [.clocks, .hitch, .trn, .regions, .net, .sch, .drv, .sep, .pair, .tet, .status, .ev, .out]
  | .exceptionService .. =>
    [.challenge, .clocks, .block, .idx, .batches, .hitch, .trn, .regions, .net, .sch, .drv, .sep, .pair, .tet, .mbx, .status, .ev, .out,
     .held]
  | .frameReceive .. =>
    [.draws, .clocks, .trn, .net, .sch, .hold, .sep, .tet, .status, .pst, .ev, .out]
  | .linkUp .. =>
    [.draws, .clocks, .trn, .net, .sch, .sep, .tet, .status, .pst, .ev, .out]
  | .linkDown .. =>
    [.draws, .net, .sep, .status, .pst, .ev, .out]
  | .pauseFrame .. | .pauseExpiry .. =>
    [.clocks, .trn, .net, .sch, .status, .out]
  | .pauseWatchdogTrip .. =>
    [.clocks, .trn, .net, .sch, .sep, .status, .ev, .out]
  | .pauseIgnoreEnd .. =>
    [.net]
  | .xoffRefresh .. =>
    [.clocks, .trn, .net, .sch, .sep, .tet, .status, .ev, .out]
  | .opticInsert .. =>
    [.net, .sep, .status, .ev, .out]
  | .frameTransmitComplete .. =>
    [.clocks, .trn, .net, .sch, .hold, .tet, .status, .out]
  | .tokenRefill =>
    [.clocks, .trn, .net, .sch, .drv, .sep, .status, .ev, .out]
  | .shareWindowEnd .. =>
    [.sch, .drv, .sep, .status, .ev, .out]
  | .coilCountVisit .. | .coilPassEnd =>
    [.hold, .sep, .status, .ev, .out]
  | .moverBurstComplete .. =>
    [.draws, .landing, .mov, .sep, .status, .ev, .out]
  | .moverFault .. =>
    [.landing, .mov, .sep, .status, .ev, .out]
  | .discoveryStepTimeout .. | .driveLinkUp .. | .slotPresenceChange .. | .prechargeTimeout .. | .rampFaultTimeout ..
  | .faultTimerExpiry .. | .deviceDamage .. =>
    [.draws, .block, .objects, .idx, .log, .mem, .chains, .hitch, .sch, .hold, .drv, .sep, .pair, .status, .pwr, .pst, .ev, .out, .held]
  | .windowCommit .. | .windowDrainEnd .. | .tagQuarantineEnd .. =>
    [.drv]
  | .perstPulseEnd .. =>
    [.drv, .out]
  | .busMasterEnable .. =>
    [.sep, .out]
  | .sepLinkUp .. =>
    [.sep]
  | .pairLinkUp .. =>
    [.authority, .clocks, .log, .drv, .sep, .pair, .status, .ev, .out]
  | .pairLinkDown | .fenceDeferExpiry =>
    [.sch, .drv, .sep, .pair, .status, .ev, .out]
  | .pairLaneFail | .leaseLapse =>
    [.sep, .pair, .status, .ev, .out]
  | .mirrorRecord .. =>
    [.log, .chains, .pair, .status, .out]
  | .mirrorAck .. =>
    [.draws, .clocks, .log, .mem, .trn, .net, .sch, .drv, .sep, .pair, .tet, .status, .ev, .out]
  | .pairStateMessage .. =>
    [.custodians, .draws, .authority, .idleTicks, .challenge, .clocks, .block, .objects, .tenants, .containers, .idx, .log, .mem, .chains,
     .batches, .hitch, .trn, .regions, .net, .sch, .hold, .drv, .sep, .pair, .tet, .mbx, .config, .status, .pwr, .pst, .ev, .boot, .out,
     .held, .nextId]
  | .pairTimeMessage .. | .lockWaitExpiry =>
    [.clocks, .idx, .log, .sep, .status, .pst, .ev, .boot, .out]
  | .forwardedCommand .. =>
    [.draws, .authority, .challenge, .clocks, .block, .objects, .tenants, .containers, .idx, .log, .mem, .chains, .batches, .hitch, .trn,
     .regions, .net, .sch, .hold, .drv, .sep, .pair, .tet, .mbx, .status, .pst, .ev, .out, .held, .nextId]
  | .forwardReply .. =>
    [.draws, .block, .objects, .idx, .log, .mem, .chains, .sch, .drv, .sep, .pair, .status, .pst, .ev, .out, .held, .nextId]
  | .pairHeartbeatSend =>
    [.pair, .out]
  | .pairHeartbeat .. =>
    [.draws, .pair, .status, .pst, .out]
  | .pairHeartbeatMiss | .dyingMessage | .tetherYield =>
    [.draws, .sch, .drv, .sep, .pair, .status, .pst, .ev, .out]
  | .takeover =>
    [.custodians, .draws, .authority, .idleTicks, .challenge, .clocks, .block, .objects, .tenants, .containers, .idx, .log, .mem, .chains,
     .batches, .hitch, .trn, .landing, .regions, .net, .sch, .hold, .drv, .sep, .pair, .tet, .mbx, .config, .status, .pwr, .pst, .ev, .boot,
     .out, .held, .nextId]
  | .shardHandover .. =>
    [.draws, .authority, .challenge, .clocks, .block, .objects, .tenants, .containers, .idx, .log, .mem, .chains, .batches, .hitch, .trn,
     .landing, .regions, .net, .sch, .hold, .drv, .sep, .pair, .tet, .mbx, .status, .ev, .out, .held, .nextId]
  | .tetherHopUp .. | .reeve .. | .tetherHeartbeat .. | .tetherMemberTimeout .. =>
    [.sep, .tet, .status, .ev, .out]
  | .tetherHopDown .. =>
    [.tet]
  | .reeveDone .. | .tetherHeartbeatSend =>
    [.tet, .out]
  | .tetherMailbox .. | .discover .. =>
    [.draws, .tet, .status, .pst, .out]
  | .supplyBandWindow .. | .belayQualification | .rideThrough .. =>
    [.draws, .hold, .sep, .status, .pwr, .pst, .ev, .out]
  | .keepSafeExit =>
    [.clocks, .hitch, .trn, .regions, .net, .sch, .sep, .pair, .tet, .status, .pwr, .ev, .out]
  | .channelWindowChange .. =>
    [.draws, .block, .objects, .idx, .log, .mem, .chains, .hitch, .sch, .hold, .drv, .sep, .pair, .status, .pwr, .pst, .ev, .boot, .out,
     .held]
  | .insertDelayExpiry .. | .staggerTurn .. | .prechargeDone .. | .rampDone .. | .retryWaitEnd .. | .failureCountClear ..
  | .inputLatchClear .. =>
    [.pwr]
  | .currentLimitReached .. =>
    [.draws, .sep, .status, .pwr, .pst, .ev, .out]
  | .limitRelease .. =>
    [.pwr, .out]
  | .pgQualified .. =>
    [.drv, .pwr, .out]
  | .pgLoss .. =>
    [.draws, .block, .objects, .idx, .log, .mem, .chains, .hitch, .sch, .hold, .drv, .sep, .pair, .status, .pwr, .ev, .out, .held]
  | .drowseIdleExpiry | .dormantIdleExpiry | .domainWake .. | .domainIdleExpiry .. | .dormantWindowEnd =>
    [.pst]
  | .entryStepComplete =>
    [.net, .drv, .sep, .status, .pst, .ev, .out]
  | .driveIdleTimeout =>
    [.draws, .idx, .log, .mem, .sch, .drv, .sep, .pair, .status, .pwr, .pst, .ev, .out]
  | .driveShutdownTimeout .. | .driveShutdownComplete .. | .dormantWindowStart =>
    [.draws, .log, .mem, .sch, .drv, .sep, .pair, .status, .pwr, .pst, .ev, .out]
  | .dormantTimerWake =>
    [.draws, .log, .mem, .chains, .batches, .sch, .drv, .sep, .pair, .status, .pwr, .pst, .ev, .out]
  | .powerOn .. =>
    [.pwr, .boot]
  | .startupPhaseEnd .. =>
    [.draws, .authority, .idleTicks, .challenge, .clocks, .block, .objects, .tenants, .containers, .idx, .log, .mem, .chains, .batches,
     .hitch, .trn, .regions, .net, .sch, .hold, .drv, .sep, .pair, .tet, .mbx, .config, .status, .pwr, .pst, .ev, .boot, .out, .held,
     .nextId]
  | .startupBudgetExpiry .. =>
    [.draws, .authority, .clocks, .block, .objects, .tenants, .idx, .log, .mem, .chains, .hitch, .sch, .hold, .drv, .sep, .pair, .config,
     .status, .pwr, .pst, .ev, .boot, .out, .held]

/-- A custodian set is empty or one R38 allows: `q` of the keys `k`. -/
def legal (q : Nat) (k : List Digest) : Bool := k.isEmpty || legalSet q k

/-- What stands in every state a run reaches: the custodian set is empty or one R38 allows, and landing memory is canonical (02 R38;
13 R341). -/
def Sound (s : State) : Prop := legal s.auth.quorumK s.auth.custKeys = true ∧ Memory.wf s.reg.mem = true

/-- The command answers a next state, and `P` holds of it. -/
def Completes (i : Instr) (s : State) (P : State → Prop) : Prop := ∃ t, exec i s = .next t ∧ P t

/-- The way to the other end of a mailbox connection stands: of one over a session, the session is open and this module's (19 R463). -/
def pathStands (s : State) (p : MbxPath) : Bool :=
  match p with
  | .mctp | .endpoint => true
  | .bryndle q | .tether q => (ctxAt s q).any (fun y => !y.closing) && !(partnerSpace q && mirrors s)

/-- A command of mailbox `c.mbx` passes every check that stands before its own rules: the management cores serve, the connection is
open, its path stands, the tag is free, the module's state admits the opcode, the reserved fields are zero, the trailer is good and
Table 2.5 allows the principal (19 R463, R466, R467, R469; 02 R37; 24 R536 to R541). -/
abbrev Checked (s : State) (c : Call) (op : Nat) (allow : Principal → Bool) (x : Conn) : Prop :=
  mbxServed s = true ∧ connAt s c.mbx = some x ∧ x.tags.contains c.tag = false ∧ c.tag < 64 ∧ stateAdmits s x.who op = true ∧ c.rsv = 0 ∧
    (hasTrailer x = true → c.sigOk = true ∧ c.counter = x.counter + 1) ∧ allow x.who = true ∧ grantOk s x.who = true ∧
    pathStands s x.path = true

/-- The state a mailbox command's own rules start from: its request has left the ring, and its connection has its instant and counter. -/
def afterChecks (s : State) (c : Call) (x : Conn) : State :=
  putConn { x with lastReq := mono s, counter := if hasTrailer x then x.counter + 1 else x.counter } (takeRequest c.mbx c.tag s)

/-- A quorum act whose ceremony stands with its quorum reached and its target unchanged (02 R39, R41; 19 R470). -/
abbrev QuorumMet (s : State) (act : QAct) (id : Digest) (m : Ceremony) : Prop :=
  ceremonyAt s id = some m ∧ m.act = act ∧ quorumReached s m = true ∧ targetStamp s m.target = m.stamp

/-- The context of a quorum act that a ceremony performs. -/
def quorumCtx (s : State) (c : Call) (rop : Nat) (m : Ceremony) : QCtx :=
  { call := c, rop := rop, op := m.opcode, id := m.id, body := m.bodyDig,
    stmt := statementFlds m.opcode m.bodyDig m.nonce m.stamp m.expiry, signers := countedSigners s m }

/-- A message stands among those that a session's peer has not acknowledged (12 R318). -/
def Stands (m : Nat → Msg) (t : State) : Bool := t.trn.ctxs.any (fun y => y.outMsgs.any (fun o => o.what == m y.num))

/-- The answer to a mailbox command has left or stands in its response ring; over a session, its entries stand among the messages of the
session (19 R463, R465). -/
abbrev Answers (c : Call) (op status : Nat) (body : Flds) (t : State) : Prop :=
  replyMsg c op status body ∈ t.out ∨ Stands (fun q => carried q (replyMsg c op status body)) t = true

/-- The answer has left or waits until the commit stamps before it have passed (03 R86; 19 R465). -/
abbrev AnswersInTime (c : Call) (op status : Nat) (body : Flds) (t : State) : Prop :=
  Answers c op status body t ∨ t.held.any (fun y => y.msg == replyMsg c op status body) = true

/-- A state up to its power state, where a command that asks a drive leaves the instant of the last need (20 R483), and with no command
running any more. -/
abbrev Ran (t z : State) : Prop := t = { z with pst := t.pst, pair := { z.pair with acting := none } }

/-- A state up to its power state, where a mailbox command that asks a drive leaves the instant of the last need (20 R483). -/
abbrev Acted (t z : State) : Prop := t = { z with pst := t.pst }

/-- The state in which a host command has left its submission queue (04 R105); a UOP session has none. -/
def fetched (s : State) (c : HostCmd) : State := if c.uop then s else takeHead c.ctx s

/-- The state after a host command has been seen and metered (04 R105; 15 R372 to R376). -/
def metered (s : State) (c : HostCmd) : State := (meterCmd c (hostWork (fetched s c))).2

/-- The state in which a host command that is admitted at once runs: metered, and with its operation taken (04 R105). -/
def taken (s : State) (i : Instr) (c : HostCmd) : State := takeIn i c (metered s c)

/-- A host command is admitted as it arrives: its queue stands, its tag is free, it is not red, and nothing holds it back (04 R105; 05 R119;
15 R377, R383; 20 R483; 21 R494). -/
abbrev TakenUp (s : State) (i : Instr) (c : HostCmd) : Prop :=
  hostCmd i = some c ∧
  (ctxAt s c.ctx).any (fun x => !x.closing && !x.helloOnly && (if c.uop then isUop x && decide (c.tag < x.depth) else isNvme x)) = true ∧
  (c.uop && uopTagHeld (hostWork (fetched s c)) c.ctx c.tag) = false ∧
  (meterCmd c (hostWork (fetched s c))).1 ≠ .red ∧
  (metered s c).pwr.keepSafe = false ∧
  (metered s c).block.waiting.any (fun w => meterOf (metered s c) ((hostCmd w.cmd).elim 0 (fun x => x.ctx)) == meterOf (metered s c) c.ctx) = false ∧
  quietOf (metered s c) (meterOf (metered s c) c.ctx) = none ∧
  forPartner (metered s c) c = false ∧
  admitsNow (metered s c) ((meterCmd c (hostWork (fetched s c))).1 == .yellow) c = true ∧
  (taken s i c).pst.drivesDown = false

/-- Whom a UOP command that is admitted at once comes from (05 R119). -/
def srcOf (s : State) (i : Instr) (c : HostCmd) : Src := queueSrc (taken s i c) c.ctx (now (metered s c))

/-- A Bryndle packet is taken in its session: the network side takes packets, its header is well formed, its session stands on-die and
holds no packet back, its tag passes and QUIET lets it in (12 R305, R309; 15 R388). -/
abbrev PacketTaken (s : State) (n gen mac : Nat) (headerOk tagOk : Bool) (c : Ctx) : Prop :=
  taking s = true ∧ headerOk = true ∧ ctxFor s n gen = some c ∧ c.place = .onDie ∧ packetHeld s c.num = false ∧ tagOk = true ∧
    quietDrops s c.who.tenant? mac = false

/-- The state in which a packet that is not DATA has its effect: its session is heard (12 R307 to R309). -/
def ctlHeard (p : CtlPkt) (c : Ctx) (s : State) : State := passTag c p.mac (mono s) p.src s

/-- A session as the state holds it. -/
def ctxNow (c : Ctx) (s : State) : Ctx := (ctxAt s c.num).getD c

/-- The state in which a DATA packet's session has followed its key phase and is heard (12 R307 to R309, R327). -/
def dataPhased (p : DataPkt) (c : Ctx) (s : State) : State :=
  passTag (ctxNow c (phaseIn p.phase c s)) p.mac (mono s) p.src (phaseIn p.phase c s)

/-- The session a DATA packet is judged in: its offset lowered by the packet's timestamp, a CE mark counted (12 R313, R318). -/
def dataCtx (p : DataPkt) (c : Ctx) (s : State) : Ctx :=
  let x := lowerOffset (dataPhased p c s) (ctxNow c (dataPhased p c s)) (mono s) (p.id / 65536)
  { x with ceMarks := if p.ce then x.ceMarks + 1 else x.ceMarks }

/-- The state in which a DATA packet is judged. -/
def dataHeard (p : DataPkt) (c : Ctx) (s : State) : State := putCtx (dataCtx p c s) (dataPhased p c s)

/-- The state in which a RoCE packet's sequence number is in its SA's window, and a new SA is confirmed (12 R332, R333). -/
def espTaken (p : RocePkt) (sa : Ctx) (s : State) : State := newSa sa.num p.spi (espAccept sa.num p.spi p.espSeq s)

/-- A RoCE packet is taken in its queue pair: in ESP, under an SA that stands, authentic and new, its queue pair on-die with no packet
held back and not in error, and QUIET lets it in (12 R305, R332; 15 R388). -/
abbrev RoceTaken (s : State) (p : RocePkt) (sa c : Ctx) (uop : Bool) : Prop :=
  taking s = true ∧ p.esp = true ∧ p.icvOk = true ∧ saOf s p.spi = some sa ∧ espFresh (espWindow sa p.spi) p.espSeq = true ∧
    ctxAt (espAccept sa.num p.spi p.espSeq s) p.qp = some c ∧ c.closing = false ∧ c.qpError = false ∧ c.kind = .qp sa.num uop ∧
    c.place = .onDie ∧ packetHeld (espTaken p sa s) c.num = false ∧ quietDrops (espTaken p sa s) c.who.tenant? p.mac = false

/-- The state in which a RoCE packet has its effect: its queue pair is heard, and a CE mark answered (12 R331; Table 12.6). -/
def roceHeard (p : RocePkt) (sa c : Ctx) (s : State) : State :=
  qpMarked p.ce c.num (passTag c p.mac (mono (espTaken p sa s)) c.src (espTaken p sa s))

/-- A whole message of an opcode is at its turn in its session (12 R321). -/
abbrev AtItsTurn (s : State) (n seq op : Nat) (c : Ctx) (m : InMsg) : Prop :=
  ctxAt s n = some c ∧ c.closing = false ∧ isQp c = false ∧ serving s = true ∧ seq = seqNext c.through ∧
    c.inMsgs.find? (fun x => x.seq == seq && x.opcode == op && x.whole.isSome && !x.refused) = some m

/-- The state in which a message has left reassembly and its session has passed its sequence (12 R321). -/
def turnTaken (c : Ctx) (seq : Nat) (s : State) : State := putCtx { c with through := seq, inMsgs := dropIf (fun x => x.seq == seq) c.inMsgs } s

/-- A delivery ends: an ACK is due, and a refused push whose turn it is closes the session (12 R317; 13 R344). -/
def turnDone (n : Nat) (s : State) : State := refusalTurn n (dueAck n s)

/-- The state in which the write-backs in progress have ended; a context with a packet held is fetched again (12 R305, R307). -/
def writtenBack (s : State) : State :=
  let ended (x : Ctx) : Ctx := if x.place == .writeBack then { x with place := if packetHeld s x.num then .fetching else .dram } else x
  { s with trn := { s.trn with ctxs := s.trn.ctxs.map ended } }

/-- A timer of a session runs: the session stands on-die with no packet held (12 R318; 03 R83). -/
abbrev TimerRuns (s : State) (n : Nat) (c : Ctx) : Prop :=
  ctxAt s n = some c ∧ c.closing = false ∧ serving s = true ∧ c.place = .onDie ∧ packetHeld s n = false

/-- A Myavo message is accepted: its session serves, it belongs to the hitch, its header is good and it is new (11 R283). -/
abbrev MessageTaken (s : State) (m : Myavo) (c : Ctx) (h : Hitch) : Prop :=
  peerSession s m = some c ∧ c.helloOnly = false ∧ hitchAt s m.id = some h ∧ h.ctx = some m.ctx ∧ m.known = true ∧ m.rsv = 0 ∧
    h.received < m.seq ∧ hitchLive h = true

/-- The hitch that has heard the message (11 R283). -/
def hearing (s : State) (m : Myavo) (h : Hitch) : Hitch := { h with received := m.seq, heard := mono s }

/-- The state in which the message's own rules run: the hitch has heard it, and the partner knows its sequence (11 R283, R299). -/
def heardOf (s : State) (m : Myavo) (h : Hitch) : State := tellSeq (hearing s m h) (putHitch (hearing s m h) s)

end Machine
end Sys2Proof
end

