-- ==== Sys2Proof/WellFormed.lean ====
section
/-!
DEFINITION. Which commands the module's hardware can raise at all: units, mailboxes, contexts and tags that exist. What a
message's own fields may hold is for its meaning to check (00 R6).
-/
namespace Sys2Proof

/-- MAC 0 to 31 (14 Table 14.1). -/
def macOk (n : Nat) : Bool := n < 32
/-- Mailbox 0 to 63 (19 R463). -/
def mbxOk (n : Nat) : Bool := n < 64
/-- A mailbox command of a mailbox that exists. -/
def callOk (c : Call) : Bool := mbxOk c.mbx
/-- A shard 0 to 63 or a custody shard (18 R440, 09 R251). -/
def shardOk (n : Nat) : Bool := decide (n < 64) || n == 0xFFF0 || n == 0xFFF1
/-- A partition of a shard's index, 0 to 65,535 (06 R149). -/
def partOk (n : Nat) : Bool := n < 65536
/-- A mover channel, 0 to 63 (16 R410). -/
def channelOk (n : Nat) : Bool := n < 64
/-- A hold cell (16 R394). -/
def cellOk (n : Nat) : Bool := n < 393216
/-- A cage of a port, 0 to 3 (14 R356). -/
def cageOk (n : Nat) : Bool := n < 4
/-- A start-up phase, 1 to 11 (24 Table 24.1). -/
def phaseOk (n : Nat) : Bool := decide (1 ≤ n) && decide (n ≤ 11)
/-- A context number of 20 bits (12 R304). -/
def ctxOk (n : Nat) : Bool := n < 1048576
/-- The queue of an NVMe command is a context (04 R92). -/
def nvmeOk (c : NvmeCmd) : Bool := ctxOk c.ctx && decide (c.cid < 65536)
/-- A priority 0 to 7, or 8 for link-level PAUSE (14 R364). -/
def prioOk (n : Nat) : Bool := n < 9
/-- A traffic class, 0 to 7 (14 R361), or a power class of an optical module in watts, which is smaller than 256. -/
def classOk (n : Nat) : Bool := n < 256
/-- A power domain of Table 22.1 (22 R514). -/
def domainOk (n : Nat) : Bool := n < 8
/-- A drive command tag (17 R425). -/
def tagOk (n : Nat) : Bool := n < 16384

/-- The checks of a command, one arm for each constructor. -/
def wellFormed (i : Instr) : Bool :=
  match i with
  | .connect c => ctxOk c.ctx
  | .disconnect c _ => nvmeOk c
  | .propertyGet c _ => nvmeOk c
  | .propertySet c _ _ => nvmeOk c
  | .getLogPage c _ => nvmeOk c
  | .identify c _ _ => nvmeOk c
  | .abort c _ _ => nvmeOk c
  | .setFeatures c _ _ _ => nvmeOk c
  | .getFeatures c _ => nvmeOk c
  | .asynchronousEventRequest c => nvmeOk c
  | .namespaceCreate c _ => nvmeOk c
  | .namespaceDelete c => nvmeOk c
  | .keepAlive c => nvmeOk c
  | .keepAliveExpiry _ => true
  | .formatNvm c _ => nvmeOk c
  | .sanitize c _ _ => nvmeOk c
  | .flush c => nvmeOk c
  | .nvmeWrite c _ _ _ _ _ _ => nvmeOk c
  | .nvmeRead c _ _ _ => nvmeOk c
  | .prefetchExpiry ctx => ctxOk ctx
  | .compare c _ _ _ _ _ => nvmeOk c
  | .writeZeroes c _ _ => nvmeOk c
  | .datasetManagement c _ _ => nvmeOk c
  | .nvmeVerify c _ _ _ => nvmeOk c
  | .reservationRegister c _ _ _ _ _ => nvmeOk c
  | .reservationReport c => nvmeOk c
  | .reservationAcquire c _ _ _ _ _ => nvmeOk c
  | .reservationRelease c _ _ _ _ => nvmeOk c
  | .admitCommand => true
  | .notVisibleRelease _ => true
  | .completionRelease _ => true
  | .put q _ _ => ctxOk q
  | .putPart q _ _ => ctxOk q
  | .putAbort q _ => ctxOk q
  | .sealObject q _ _ => ctxOk q
  | .get q _ _ => ctxOk q
  | .head q _ => ctxOk q
  | .list q _ _ => ctxOk q
  | .delete q _ => ctxOk q
  | .copy q _ _ => ctxOk q
  | .hold q _ _ => ctxOk q
  | .release q _ _ => ctxOk q
  | .stopper q _ _ => ctxOk q
  | .verify q _ => ctxOk q
  | .collCreate q _ _ => ctxOk q
  | .collDelete q _ => ctxOk q
  | .openIdleExpiry _ => true
  | .lockSweep => true
  | .receiptBatchClose _ => true
  | .receiptBatchSigned _ => true
  | .lanyardCheckpoint => true
  | .lanyardRead c _ _ _ _ => callOk c
  | .lanyardProof c _ _ _ => callOk c
  | .lanyardExport c _ _ => callOk c
  | .receiptRead c _ _ _ => callOk c
  | .fixityDisclose c _ _ => callOk c
  | .custodyCertify c _ _ => callOk c
  | .mailboxDoorbell mbx _ _ _ _ _ _ _ => mbxOk mbx
  | .responseHeadWrite mbx _ => mbxOk mbx
  | .mailboxIdleTimeout mbx => mbxOk mbx
  | .mbxChallenge mbx _ _ => mbxOk mbx
  | .mbxOpen mbx _ _ _ _ _ _ => mbxOk mbx
  | .mbxClose c => callOk c
  | .identityGet c => callOk c
  | .paramGet c _ _ => callOk c
  | .paramSet c _ _ => callOk c
  | .tsStatusClear c => callOk c
  | .quorumBegin c _ => callOk c
  | .quorumSign c _ => callOk c
  | .quorumStatus c => callOk c
  | .ceremonyExpiry _ => true
  | .custodianSetChange c _ _ _ _ _ => callOk c
  | .timeAuthEnrol c _ _ => callOk c
  | .escrowImport c _ _ _ _ => callOk c
  | .tenantCreate c _ _ => callOk c
  | .tenantQuotaSet c _ _ => callOk c
  | .tenantErase c _ _ _ => callOk c
  | .grantIssue c _ _ => callOk c
  | .grantRevoke c _ _ => callOk c
  | .timeChallenge c => callOk c
  | .timeBeacon c _ _ => callOk c
  | .anchorAged => true
  | .custodyPersist => true
  | .fwStage c _ _ _ _ => callOk c
  | .fwCommit c _ => callOk c
  | .debugChallenge c => callOk c
  | .debugUnlock c _ => callOk c
  | .ovlApply c _ _ => callOk c
  | .ovlRemove c _ _ => callOk c
  | .baseLoad c _ _ => callOk c
  | .rebuildSafeExpiry => true
  | .slotPower c _ _ => callOk c
  | .sanitiseStart c _ => callOk c
  | .sanitiseStatus c => callOk c
  | .uopRelay c _ _ => callOk c
  | .uopRelease c _ _ _ => callOk c
  | .evtRead c _ _ _ => callOk c
  | .pldmEventResponse _ => true
  | .pldmEventTimeout => true
  | .setEventReceiver _ => true
  | .getVersion => true
  | .getCapabilities => true
  | .negotiateAlgorithms _ _ => true
  | .getDigests => true
  | .getCertificate _ _ _ => true
  | .challenge _ _ => true
  | .getMeasurements _ _ _ => true
  | .ptpAnnounce a => decide (a.transport < 3)
  | .ptpSync mac t _ _ _ => macOk mac && decide (t < 3)
  | .delayResp mac t _ _ => macOk mac && decide (t < 3)
  | .delayReqSend => true
  | .announceReceiptTimeout => true
  | .ptpLockAchieved => true
  | .holdoverLimit => true
  | .ppsEdge _ _ => true
  | .ref10mQualified _ => true
  | .ref10mLoss => true
  | .indexWalkComplete _ _ => true
  | .deltaFlushAge shard part => shardOk shard && partOk part
  | .indexFlushCommit shard part => shardOk shard && partOk part
  | .subtreeRebuildComplete shard part => shardOk shard && partOk part
  | .stripeCloseDelay shard _ _ => shardOk shard
  | .driveCompletion _ _ tag _ _ _ => tagOk tag
  | .logCheckpoint shard => shardOk shard
  | .relocationSelect => true
  | .segmentFree _ => true
  | .belayDriveAbandon => true
  | .belayStop => true
  | .rmwUpdate _ _ _ _ _ => true
  | .rmwRetire _ _ => true
  | .strikeExpiry _ => true
  | .driveCriticalWarning _ _ _ => true
  | .memberFail c _ _ => callOk c
  | .hedgeTimeout _ tag => tagOk tag
  | .rebuildRow => true
  | .driveInsert _ _ _ _ _ _ _ _ _ => true
  | .restoreRow _ => true
  | .scrubRow _ => true
  | .scrubPassEnd => true
  | .scrubStart c => callOk c
  | .lossReportRead c _ _ => callOk c
  | .hitchOpen c _ _ => callOk c
  | .hitchClose c _ _ => callOk c
  | .hitchAbort c _ _ => callOk c
  | .hitchStatus c _ => callOk c
  | .hello m _ => ctxOk m.ctx
  | .scope m _ => ctxOk m.ctx
  | .collMap m _ => ctxOk m.ctx
  | .resume m _ => ctxOk m.ctx
  | .myavoHeartbeat m _ => ctxOk m.ctx
  | .myavoHeartbeatSend _ => true
  | .hitchSilenceTimeout _ => true
  | .hitchSetupRetry _ => true
  | .hitchNotAfter _ => true
  | .hitchPassStart _ => true
  | .objBegin m _ => ctxOk m.ctx
  | .objData m _ _ _ _ _ _ => ctxOk m.ctx
  | .objAbort m _ => ctxOk m.ctx
  | .excerpt m _ _ _ => ctxOk m.ctx
  | .checkpoint m _ => ctxOk m.ctx
  | .credit m _ _ => ctxOk m.ctx
  | .batchClose m _ _ _ => ctxOk m.ctx
  | .batchReceipt m _ _ _ _ _ => ctxOk m.ctx
  | .batchAck m _ _ => ctxOk m.ctx
  | .lockUpdate m _ _ _ => ctxOk m.ctx
  | .deleteNotice m _ _ => ctxOk m.ctx
  | .passEnd m _ _ => ctxOk m.ctx
  | .complete m _ => ctxOk m.ctx
  | .setupInit _ => true
  | .setupResp _ => true
  | .setupAuth _ => true
  | .setupDone _ _ _ => true
  | .setupChild parent _ _ _ _ _ => ctxOk parent
  | .setupChildDone parent _ ctx _ _ _ => ctxOk parent && ctxOk ctx
  | .setupTimeout _ => true
  | .dataPacket p => ctxOk p.ctx
  | .send ctx _ => ctxOk ctx
  | .write ctx _ => ctxOk ctx
  | .writeImm ctx _ => ctxOk ctx
  | .readReq ctx _ => ctxOk ctx
  | .readResp ctx _ => ctxOk ctx
  | .ack p _ _ _ => ctxOk p.ctx
  | .nak p _ _ => ctxOk p.ctx
  | .statusReq p _ => ctxOk p.ctx
  | .status p _ _ _ => ctxOk p.ctx
  | .close p _ => ctxOk p.ctx
  | .contextFetchComplete ctx => ctxOk ctx
  | .contextEvict => true
  | .seenEntryExpiry ctx _ => ctxOk ctx
  | .reassemblyExpiry ctx _ => ctxOk ctx
  | .ackDelayTimer ctx => ctxOk ctx
  | .nakDelayTimer ctx _ => ctxOk ctx
  | .retransmitTimeout ctx => ctxOk ctx
  | .messageAgeTimeout ctx _ => ctxOk ctx
  | .deadTimeExpiry ctx => ctxOk ctx
  | .keyPhaseChange ctx => ctxOk ctx
  | .oldKeyExpiry ctx => ctxOk ctx
  | .saRekey ctx => ctxOk ctx
  | .oldSaExpiry ctx => ctxOk ctx
  | .rocePacket _ => true
  | .rdmaCm parent _ _ => ctxOk parent
  | .roceAckTimeout ctx => ctxOk ctx
  | .cnp ctx => ctxOk ctx
  | .ccRecoverTimer ctx => ctxOk ctx
  | .regionRefusalTimeout ctx _ => ctxOk ctx
  | .pushAbandonTimeout _ => true
  | .regionDrained _ => true
  | .workRequestComplete _ _ => true
  | .exceptionService _ => true
  | .frameReceive f => macOk f.mac
  | .arpRequest mac _ _ _ => macOk mac
  | .icmpEcho mac _ _ _ => macOk mac
  | .linkUp mac => macOk mac
  | .linkDown mac => macOk mac
  | .pauseFrame mac _ _ => macOk mac
  | .pauseExpiry mac prio => macOk mac && prioOk prio
  | .pauseWatchdogTrip mac prio => macOk mac && prioOk prio
  | .pauseIgnoreEnd mac prio => macOk mac && prioOk prio
  | .xoffRefresh mac cls => macOk mac && classOk cls
  | .opticInsert port _ cls => cageOk port && classOk cls
  | .neighbourRefresh mac _ => macOk mac
  | .frameTransmitComplete mac => macOk mac
  | .macPortModeWrite c _ _ => callOk c
  | .macPortRestart c _ => callOk c
  | .tokenRefill => true
  | .shareWindowEnd _ => true
  | .quietPeriodStart _ => true
  | .flowWeightSet c _ _ => callOk c
  | .tenantStats c => callOk c
  | .coilCountVisit cell => cellOk cell
  | .coilPassEnd => true
  | .moverBurstComplete channel => channelOk channel
  | .movAbort c _ => callOk c
  | .moverFault channel _ => channelOk channel
  | .discoveryStepTimeout _ => true
  | .driveMemoryRequest _ _ _ _ _ => true
  | .windowCommit _ => true
  | .windowDrainEnd _ => true
  | .driveTimeout _ tag => tagOk tag
  | .tagQuarantineEnd _ tag => tagOk tag
  | .configReadTimeout _ _ => true
  | .driveLinkDown _ _ => true
  | .perstPulseEnd _ => true
  | .driveLinkDownTimeout _ => true
  | .slotReset c _ => callOk c
  | .sepCtrlWrite c _ => callOk c
  | .sepMbxMapWrite c _ => callOk c
  | .sepReset => true
  | .busMasterEnable _ => true
  | .driveLinkUp _ _ _ _ => true
  | .sepLinkUp _ _ => true
  | .pairLinkUp _ => true
  | .pairLinkDown => true
  | .pairLaneFail => true
  | .mirrorRecord _ _ shard _ _ _ _ ctx _ _ _ _ => shardOk shard && ctxOk ctx
  | .mirrorAck _ _ => true
  | .pairStateMessage _ => true
  | .pairTimeMessage _ _ => true
  | .forwardedCommand _ _ => true
  | .forwardReply _ _ _ _ _ _ => true
  | .pairHeartbeatSend => true
  | .pairHeartbeat _ _ _ _ => true
  | .pairHeartbeatMiss => true
  | .dyingMessage => true
  | .leaseLapse => true
  | .fenceDeferExpiry => true
  | .tetherYield => true
  | .takeover => true
  | .pairRejoin => true
  | .shardHandover shard _ _ => shardOk shard
  | .pairHomeWrite c _ _ => callOk c
  | .pairCtrlHandover c => callOk c
  | .tetherHopUp _ _ => true
  | .tetherHopDown _ _ => true
  | .reeve _ => true
  | .reeveDone _ => true
  | .reeveStart c => callOk c
  | .tetherHeartbeat _ _ _ _ _ _ _ _ => true
  | .tetherHeartbeatSend => true
  | .tetherMemberTimeout _ => true
  | .tetherMailbox _ _ _ _ _ ctx _ => ctxOk ctx
  | .discover _ _ _ _ _ => true
  | .supplyBandWindow _ _ _ => true
  | .keepSafeExit => true
  | .channelWindowChange _ _ => true
  | .slotPresenceChange _ _ => true
  | .insertDelayExpiry _ => true
  | .staggerTurn _ => true
  | .prechargeDone _ _ => true
  | .prechargeTimeout _ => true
  | .rampDone _ _ _ => true
  | .rampFaultTimeout _ => true
  | .currentLimitReached _ _ => true
  | .limitRelease _ _ => true
  | .faultTimerExpiry _ => true
  | .pgQualified _ _ => true
  | .pgLoss _ _ => true
  | .retryWaitEnd _ => true
  | .failureCountClear _ => true
  | .deviceDamage _ _ _ => true
  | .slotChCtrl c _ _ => callOk c
  | .inputLatchClear _ _ => true
  | .belayQualification => true
  | .rideThrough _ => true
  | .drowseIdleExpiry => true
  | .dormantIdleExpiry => true
  | .entryStepComplete => true
  | .domainWake domain => domainOk domain
  | .domainIdleExpiry domain => domainOk domain
  | .driveIdleTimeout => true
  | .driveShutdownTimeout _ => true
  | .driveShutdownComplete _ => true
  | .dormantWindowStart => true
  | .dormantWindowEnd => true
  | .dormantTimerWake => true
  | .powerOn _ => true
  | .startupPhaseEnd phase _ => phaseOk phase
  | .startupBudgetExpiry phase => phaseOk phase
  | .lockWaitExpiry => true

end Sys2Proof
end

