-- ==== Sys2Proof/Certificates/Slice0/Obligations.lean ====
section
/-!
DEFINITION. The statements for the provers, each over every state.
-/
open Sys2Proof Sys2Proof.Machine

/-- Whatever the state, a step takes the command at the front of the queue and runs its meaning with the queue's rest. The queue is the
model's own form for what reaches the module (log entry 5). -/
def Obligations.StepRunsTheFront : Prop :=
  ∀ (c : Instr) (rest : List Instr) (s : State), s.pending = c :: rest → step s = exec c { s with pending := rest }

/-- On an empty queue a step is the passing of one idle step: the clocks advance, the drive schedule runs, a temperature window that has
ended is reported, the PLDM senders run, hitch streams that waited for their pace go on, an interrupted recovery goes on, and service opens
if start-up has ended. That an empty queue stands for the passing of time is the model's choice (log entry 5). -/
def Obligations.EmptyQueueLetsTimePass : Prop :=
  ∀ s : State, s.pending = [] → ∃ t, step s = .next t ∧ t = tryOpen (recoverNext (resumePaced (pumpPldm
    (reportTemps s.layers.windowAt (scheduleDrives (idle s)))))) ∧ t.pending = []

/-- What waits is changed by what takes it and by nothing a command does: whatever a command answers, the commands behind it and the
vendor keys fused at manufacture are as they were. -/
def Obligations.CommandsLeaveTheQueue : Prop :=
  ∀ (i : Instr) (s t : State), exec i s = .next t → t.pending = s.pending ∧ t.auth.vendorKeys = s.auth.vendorKeys

/-- The frame of every command at once. `footprint` names for each command the parts of the state its rules may change; every other part,
from the custodian keys to the landing memory, is as before in every next state. -/
def Obligations.CommandsStayInTheirFootprint : Prop :=
  ∀ (i : Instr) (s t : State), exec i s = .next t → ChangesOnly (footprint i) t s

/-- After reset no custodian set is enrolled and landing memory is canonical. -/
def Obligations.SoundAtReset : Prop :=
  Sound State.reset

/-- The quorum is k of n with n from 3 to 9 and n/2 < k, at most n, in every state a step leads to from one where it is (02 R38); the
landing memory keeps the one form in which equal memories are equal data. Not a statement about runs from reset: from every state that
meets it. -/
def Obligations.SoundKeptByEveryStep : Prop :=
  ∀ s t : State, Sound s → step s = .next t → Sound t

/-- The fused value is a thermometer of fuse bits, which FW_COMMIT burns up to the running image's SVN and nothing ever clears (02 R64).
-/
def Obligations.FusesNeverClear : Prop :=
  ∀ s t : State, step s = .next t → s.auth.fusedSvn ≤ t.auth.fusedSvn

/-- No command of the catalogue stops: each one, in every state and with every operand, has a next state, be it only the refusal the manual
states or no effect at all. -/
def Obligations.WellFormedCommandsAnswer : Prop :=
  ∀ (i : Instr) (s : State), ∃ t, exec i s = .next t

/-- A grandmaster is selected, followed and dropped, one clause for each event (03 R67, R68, R70, R71). An Announce on the active MAC is
selected; an offset within TS_PTP_REJECT is slewed away; one beyond it distrusts the grandmaster, leaves LOCKED for HOLDOVER and sets
TS_STATUS bit 0; a Delay_Req is handed to its MAC, takes its egress stamp as it starts there, and its answer gives the path delay; the receipt timeout of the last
grandmaster leaves LOCKED for HOLDOVER; 60 s of good offsets lock; 4 h of HOLDOVER set TS_STATUS bit 1. -/
def Obligations.PtpEventsComplete : Prop :=
  (∀ (a : AnnounceData) (s : State), s.time.follower = false → a.mac = pTsPtpPort0 s → ptpMac s = a.mac → a.domain = pTsPtpCfg0 s →
    syncOk a.logSync = true → ptpByCfg s a.transport = true → s.time.foreign = [] → s.time.distrusted ≠ some a.gm →
    Completes (.ptpAnnounce a) s (fun t => t.time.gm = some a ∧ t.time.foreign = [{ data := a, heard := mono s }] ∧
      (s.time.mode = .freerun → t.time.mode = .acquiring) ∧ (s.time.mode ≠ .freerun → t.time.mode = s.time.mode))) ∧
  (∀ (mac transport : Nat) (gm : Word64) (offset logSync : Int) (s : State), s.time.follower = false → mac = ptpMac s →
    ptpByCfg s transport = true →
    s.time.gm.map (fun g => g.gm) = some gm → syncOk logSync = true → s.boot.open_ = true → offset.natAbs ≤ pTsPtpReject s * 1000000 →
    Completes (.ptpSync mac transport gm offset logSync) s (fun t => t.time.shelf = s.time.shelf ∧ t.time.slewLeft = -(offset * (nsU : Int)) ∧
      t.time.ptpOffset = offset ∧ t.time.gm = s.time.gm)) ∧
  (∀ (mac transport : Nat) (gm : Word64) (offset logSync : Int) (s : State), s.time.follower = false → mac = ptpMac s →
    ptpByCfg s transport = true →
    s.time.gm.map (fun g => g.gm) = some gm → syncOk logSync = true → s.boot.open_ = true → pTsPtpReject s * 1000000 < offset.natAbs →
    Completes (.ptpSync mac transport gm offset logSync) s (fun t => t.time.distrusted = some gm ∧ t.time.gm = none ∧ (s.time.mode = .locked →
      t.time.mode = .holdover) ∧ (statusWord t stTS).testBit 0 = true)) ∧
  (∀ s : State, s.time.follower = false → s.time.gm.isSome = true →
    exec .delayReqSend s = .next (transmit (ptpMac s) .control .shelf (classOf s (ptpMac s)) (delayReqLen s) (msg (.mac (ptpMac s)) .frame
      (ptpFrame s).1 1 0 ((ptpFrame s).2 ++ [(1, pTsPtpCfg0 s)])) { s with time := { s.time with delayReq := none } })) ∧
  (∀ (m : Mac) (i : SchItem) (s : State), isDelayReq i = true → (startFrame m i s).time.delayReq = some (now s)) ∧
  (∀ (mac transport : Nat) (gm : Word64) (delay : Int) (s : State), s.time.delayReq.isSome = true → mac = ptpMac s →
    ptpByCfg s transport = true → s.time.gm.map (fun g => g.gm) = some gm →
    exec (.delayResp mac transport gm delay) s = .next { s with time := { s.time with pathDelay := delay, delayReq := none } }) ∧
  (∀ (g : AnnounceData) (f : Foreign) (s : State), s.time.follower = false → s.time.gm = some g → s.time.foreign = [f] → f.data = g →
    notHeard s f = true → s.time.mode = .locked →
    Completes .announceReceiptTimeout s (fun t => t.time.mode = .holdover ∧ t.time.gm = none ∧ t.time.foreign = [] ∧
      t.time.holdSince = some (mono s) ∧ t.time.delayReq = none)) ∧
  (∀ (since : Nat) (s : State), s.time.goodSince = some since → s.time.gm.isSome = true → (s.time.mode = .acquiring ∨
    s.time.mode = .holdover) → since + 60 * secU ≤ mono s →
    exec .ptpLockAchieved s = .next { s with time := { s.time with mode := .locked, everLocked := true, holdSince := none } }) ∧
  (∀ (since : Nat) (s : State), s.time.holdSince = some since → s.time.mode = .holdover → confirmed s since (14400 * secU) = true →
    Completes .holdoverLimit s (fun t => (statusWord t stTS).testBit 1 = true ∧ t.time = s.time))

/-- The reference inputs and Custody Time (03 R69, R73, R74). An agreeing edge of a qualified 1PPS input slews the phase of a module that
leads once service is open, and the tenth edge in a row more than 1 µs off disqualifies it and sets TS_STATUS bit 4; ref10m_in qualifies and gives the
servo its frequency, and its loss sets TS_STATUS bit 3; an anchor older than its age limit becomes aged; Custody Time is written to the vault. -/
def Obligations.ReferenceEventsComplete : Prop :=
  (∀ (rising : Bool) (offset : Int) (s : State), pTsRefCtrl0 s ≠ 0 → rising = (pTsRefCtrl1 s == 0) → s.time.ppsQual = true →
    (offset - ppsDelay s).natAbs ≤ 1000 → s.boot.open_ = true → s.time.follower = false →
    exec (.ppsEdge rising offset) s = .next { s with time := { s.time with ppsRun := 0, slewLeft := -((offset - ppsDelay s) * (nsU : Int)) } }) ∧
  (∀ (rising : Bool) (offset : Int) (s : State), pTsRefCtrl0 s ≠ 0 → rising = (pTsRefCtrl1 s == 0) → s.time.ppsQual = true →
    1000 < (offset - ppsDelay s).natAbs → 9 ≤ s.time.ppsRun →
    Completes (.ppsEdge rising offset) s (fun t => t.time.ppsQual = false ∧ (statusWord t stTS).testBit 4 = true ∧
      t.time.slewLeft = s.time.slewLeft)) ∧
  (∀ (ppb : Int) (s : State), pTsRefCtrl2 s ≠ 0 → ppb.natAbs ≤ 2000 →
    exec (.ref10mQualified ppb) s = .next { s with time := { s.time with refQual := true, refPpb := ppb } }) ∧
  (∀ s : State, s.time.refQual = true →
    Completes .ref10mLoss s (fun t => t.time.refQual = false ∧ t.time.refPpb = 0 ∧ (statusWord t stTS).testBit 3 = true)) ∧
  (∀ s : State, s.time.anchor = .anchored → s.time.lastBeacon + s.layers.anchorAge * secU < s.time.custody →
    exec .anchorAged s = .next { s with time := { s.time with anchor := .aged } }) ∧
  (∀ s : State,
    exec .custodyPersist s = .next { s with time := { s.time with vault := s.time.custody } })

/-- The rings and connections of a mailbox (19 R464 to R466). A whole message joins its request ring and marks its connection, and one
whose tag is held or beyond 63 is answered E_TAG; a response
head moves to where software writes it, and no response entry is lost; an idle MCTP or endpoint connection closes; a challenge draws a
nonce, keeps it and answers it; a signed open over the nonce of the last challenge opens the connection of its principal with trailer
counter 0. -/
def Obligations.MailboxRingsComplete : Prop :=
  (∀ (mbx tag : Nat) (endpoint : Bool) (opcode : Word16) (entries length tail : Nat) (s : State), mbx < 64 → endpoint = onEndpoint s mbx →
    s.pst.mode = .run → s.pst.entering = none → mbxServed s = true → wholeMessage entries length true = true → (endpoint = true →
    tail ≤ (ringAt s mbx).reqHead + 256) → (endpoint = false → ringUsed (ringAt s mbx) + entries ≤ 256) →
    catalogue.contains opcode.toNat = true → tag < 64 → tagHeld s mbx tag = false →
    Completes (.mailboxDoorbell mbx tag endpoint opcode entries length
      true tail) s (fun t => ringAt t mbx = { ringAt s mbx with reqTail := (ringAt s mbx).reqTail + entries, ready := (ringAt s mbx).ready ++ [(tag, entries)] } ∧
      connAt t mbx = (connAt s mbx).map (fun x => { x with lastReq := mono s }) ∧ t.out = s.out)) ∧
  (∀ (mbx tag : Nat) (endpoint : Bool) (opcode : Word16) (entries length tail : Nat) (s : State), mbx < 64 → endpoint = onEndpoint s mbx →
    s.pst.mode = .run → s.pst.entering = none → mbxServed s = true → wholeMessage entries length true = true → (endpoint = true →
    tail ≤ (ringAt s mbx).reqHead + 256) → (endpoint = false → ringUsed (ringAt s mbx) + entries ≤ 256) →
    (64 ≤ tag ∨ tagHeld s mbx tag = true) → (pathAt s mbx).all (fun p => p == .mctp || p == .endpoint) = true →
    Completes (.mailboxDoorbell mbx tag endpoint opcode entries length true tail) s
      (fun t => msg (.mbx mbx) .mailbox opcode.toNat tag eTag [] ∈ t.out)) ∧
  (∀ (mbx head : Nat) (s : State), mbx < 64 → onEndpoint s mbx = true → (ringAt s mbx).rspHead ≤ head → head ≤ (ringAt s mbx).rspTail →
    Completes (.responseHeadWrite mbx head) s (fun t => (ringAt t mbx).rspHead = head ∧
      (ringAt t mbx).rspTail + (ringAt t mbx).owed = (ringAt s mbx).rspTail + (ringAt s mbx).owed)) ∧
  (∀ (mbx : Nat) (x : Conn) (s : State), connAt s mbx = some x → (x.path = .mctp ∨ x.path = .endpoint) →
    confirmed s x.lastReq (600 * secU) = true →
    Completes (.mailboxIdleTimeout mbx) s (fun t => connAt t mbx = none ∧ ∀ m, m ≠ mbx → connAt t m = connAt s m)) ∧
  (∀ (mbx tag : Nat) (path : MbxPath) (s : State), mbxServed s = true → barePath s mbx = some path → s.block.shelfSan = none →
    connAt s mbx = none →
    Completes (.mbxChallenge mbx tag 0) s (fun t => t.mbx.nonces.lookup mbx = some (drawDigest s).1 ∧
      msg (.mbx mbx) .mailbox 0x0001 tag sOk [(32, (drawDigest s).1.toNat)] ∈ t.out)) ∧
  (∀ (mbx tag : Nat) (kind : Byte) (key nonce : Digest) (grant : Option GrantRec) (who : Principal) (path : MbxPath) (s : State),
    mbxServed s = true → barePath s mbx = some path → s.block.shelfSan = none → (kind = 4 ∨ kind = 5 ∨ kind = 6) → connAt s mbx = none →
    s.mbx.nonces.lookup mbx = some nonce → openWho s kind.toNat key grant = some who →
    (s.mbx.conns.filter (fun c => samePeer c.who who)).length < 2 →
    Completes (.mbxOpen mbx tag 0 kind key grant true) s (fun t => msg (.mbx mbx) .mailbox 0x0002 tag sOk [] ∈ t.out ∧
      (connAt t mbx).map (fun x => (x.who, x.key, x.nonce, x.path, x.counter, x.lastReq)) = some (who, key, nonce, path, 0, mono s)))

/-- The close of a connection (19 R464). MBX_CLOSE answers S_OK and then closes a connection of MCTP or the endpoint. -/
def Obligations.MbxCloseCompletes : Prop :=
  ∀ (c : Call) (x : Conn) (s : State), Checked s c 0x0003 anyone x → (x.path = .mctp ∨ x.path = .endpoint) →
    Completes (.mbxClose c) s (fun t => Answers c 0x0003 sOk [] t ∧ connAt t c.mbx = none ∧ ∀ m, m ≠ c.mbx → connAt t m = connAt s m)

/-- IDENTITY_GET on any open connection answers the record of Table 19.4, its 128 bytes in all, and its next state is that of the common
checks and the reply alone (19 R471). -/
def Obligations.IdentityGetReturnsItsRecord : Prop :=
  ∀ (c : Call) (x : Conn) (s : State), Checked s c 0x0101 anyone x →
    exec (.identityGet c) s = .next (reply c 0x0101 sOk (identityFlds s) (afterChecks s c x)) ∧
      ((identityFlds s).map (fun f => f.1)).sum = 128

/-- The instant at which E_NOT_VISIBLE leaves (02 R52). A refusal of a UOP command with E_NOT_VISIBLE is held until ingress stamp + m
times the class delay, where m is the smallest whole number, from 1 on, for which the decision is complete by then. -/
def Obligations.NotVisibleLeavesAtItsInstant : Prop :=
  ∀ (x : Src) (h : UopHdr) (body : Flds) (s : State), 0 < uopDelay s h.opcode.toNat →
    ∃ m, 1 ≤ m ∧ now s ≤ x.ingress + m * uopDelay s h.opcode.toNat ∧
      (∀ k, 1 ≤ k → now s ≤ x.ingress + k * uopDelay s h.opcode.toNat → m ≤ k) ∧
      uopRefuse x h (eNotVisible, body) s =
        hold { heldAt (uopMsg x h 0 eNotVisible noStamp body []) (x.ingress + m * uopDelay s h.opcode.toNat) with
               nv := true, nvDelay := uopDelay s h.opcode.toNat } s

/-- The life of a ceremony (02 R39 to R42; 19 R470). QUORUM_BEGIN that nothing refuses puts the new ceremony beside those open and answers
its statement; QUORUM_SIGN short of the quorum counts the key once and answers the count; QUORUM_STATUS answers the open ceremonies and
changes nothing else; a ceremony whose expiry is confirmed closes with its event, unless the partner holds it. -/
def Obligations.QuorumBegunSignedClosed : Prop :=
  (∀ (c : Call) (act : QAct) (x : Conn) (s : State), Checked s c 0x0201 isCustodian x → beginRefusal (afterChecks s c x) x act = none →
    s.pst.drivesDown = false →
    Completes (.quorumBegin c act) s (fun t => t.auth.ceremonies = s.auth.ceremonies ++ [(newCeremony act s).1] ∧
      Answers c 0x0201 sOk (ceremonyStatement (newCeremony act s).1) t)) ∧
  (∀ (c : Call) (q : QSign) (x : Conn) (m : Ceremony) (s : State), Checked s c 0x0202 isCustodian x → ceremonyAt s q.statement = some m →
    ceremonyPast s m = false → m.remote = false → maySign s m q.key = true → q.sigOk = true → m.signers.contains q.key = false →
    quorumReached s { m with signers := m.signers ++ [q.key] } = false →
    Completes (.quorumSign c q) s (fun t => t.auth.ceremonies = mapIf
      (fun y => y.id == m.id) (fun _ => { m with signers := m.signers ++ [q.key] }) s.auth.ceremonies ∧ Answers c 0x0202 sOk [(1,
      (countedSigners s { m with signers := m.signers ++ [q.key] }).length), (7, 0)] t)) ∧
  (∀ (c : Call) (x : Conn) (s : State), Checked s c 0x0203 isCustodian x →
    exec (.quorumStatus c) s = .next (reply c 0x0203 sOk ((s.auth.ceremonies.map (fun m => [(32, m.id.toNat), (2, m.opcode), (1,
      (countedSigners s m).length), (5, 0)] ++ shelfFlds m.expiry)).flatten) (afterChecks s c x))) ∧
  (∀ (statement : Digest) (m : Ceremony) (s : State), ceremonyAt s statement = some m → ceremonyEnds s m = true →
    m.remote = false →
    exec (.ceremonyExpiry statement) s = .next (raiseEvent 0xB82 noInst [(16, 0)] (closeCeremony m.id s)))

/-- Each act as the body of a ceremony whose quorum is reached and whose target is unchanged (19 R470). The custodian set becomes the one
named, with its k (02 R38); the time authority key is replaced (03 R76); the escrowed key becomes the shelf wrapping key (02 R44); an
erasure enters phase X1 (05 R146); a sanitise closes every session and leaves no key in the SoC and no wrap and stands at phase S3
(04 R118), once the regions of the sessions it closed have drained (13 R342). -/
def Obligations.AuthorityQuorumActsComplete : Prop :=
  (∀ (c : Call) (id : Digest) (k n : Byte) (keys : List Digest) (escrow : Option Digest) (x : Conn) (m : Ceremony) (s : State),
    Checked s c 0x0204 isCustodian x → QuorumMet s (.setChange k n keys escrow) id m → setRefusal s k.toNat n.toNat keys escrow = none →
    s.pst.drivesDown = false →
    Completes (.custodianSetChange c (.ceremony id) k n keys escrow) s (fun t => t.auth.custKeys = keys ∧ t.auth.quorumK = k.toNat)) ∧
  (∀ (c : Call) (id key : Digest) (x : Conn) (m : Ceremony) (s : State), Checked s c 0x0205 isCustodian x →
    QuorumMet s (.timeAuth key) id m → roleFree s key .timeAuthority = true → s.pst.drivesDown = false →
    Completes (.timeAuthEnrol c (.ceremony id) key) s (fun t => t.auth.timeKey = some key ∧ AnswersInTime c 0x0205 sOk [] t)) ∧
  (∀ (c : Call) (id escrow : Digest) (wrapKey : BitVec 256) (x : Conn) (m : Ceremony) (s : State), Checked s c 0x0206 isCustodian x →
    QuorumMet s (.escrowImport escrow wrapKey true) id m → s.auth.escrowKey = some escrow → s.pst.drivesDown = false →
    Completes (.escrowImport c (.ceremony id) escrow wrapKey true) s (fun t => t.auth.shelfKey = some (wrapKey.setWidth 512) ∧
      t.auth.shelfVault = t.auth.shelfKey ∧ AnswersInTime c 0x0206 sOk [] t)) ∧
  (∀ (c : Call) (id : Digest) (tenant : Word16) (key : Digest) (x : Conn) (m : Ceremony) (s : State), Checked s c 0x0303 isCustodian x →
    QuorumMet s (.tenantErase tenant key) id m → (tenantAt s tenant.toNat).map (fun y => y.key) = some key →
    s.obj.erasures.any (fun e => e.tenant == tenant.toNat) = false → s.pst.drivesDown = false →
    Completes (.tenantErase c (.ceremony id) tenant key) s (fun t
      => t.obj.erasures = s.obj.erasures ++ [{ tenant := tenant.toNat, phase := 1, q := quorumCtx s c 0x0303 m }])) ∧
  (∀ (c : Call) (id : Digest) (x : Conn) (m : Ceremony) (s : State), Checked s c 0x0803 isCustodian x → QuorumMet s .sanitiseStart id m →
    eraseRefusal s (fun _ => true) = none → s.pst.drivesDown = false → s.reg.regions = [] → s.trn.ctxs.all (fun k => !k.closing) = true →
    Completes (.sanitiseStart c (.ceremony id)) s (fun t => t.auth.shelfKey = none ∧ t.block.shelfSan.map (fun y => (y.phase,
      y.statement)) = some (3, m.id) ∧ t.obj.tenants.all (fun y => y.root.isNone && y.wrap.isNone) = true)) ∧
  (∀ s : State, drainsOf (fun _ => true) (closeAll eSession (fun _ => true) (sanPhase 2 s)) ≠ [] →
    (sanitiseBanks s).auth.shelfKey = (closeAll eSession (fun _ => true) (sanPhase 2 s)).auth.shelfKey ∧
      (sanitiseBanks s).held.any (fun y => y.job == some .sanitiseKeys &&
        y.drains == drainsOf (fun _ => true) (closeAll eSession (fun _ => true) (sanPhase 2 s))) = true)

/-- Tenants and grants come and go (02 R34, R35; 19 R472). TENANT_CREATE enrols the lowest free number under its key and quota, its answer
held until the banks are written; TENANT_QUOTA_SET replaces the whole record; GRANT_ISSUE keeps the grant, in place of one of the same
issuer and serial; GRANT_REVOKE takes the grant out, and one that matches none answers position 0 and changes nothing. -/
def Obligations.TenantsAndGrantsComplete : Prop :=
  (∀ (c : Call) (key : Digest) (q : QuotaRec) (n : Nat) (x : Conn) (s : State), Checked s c 0x0301 isCustodian x → quotaForm s q = none →
    s.auth.keys.any (fun y => y.1 == key) = false → classIn s 8 = false → freeTenant s = some n →
    quotasFit s s.layers.service s.layers.reservePct (q.byteQuota.toNat :: otherQuotas s n) = true →
    ((shareOf s n).map (fun y => y.log2)).getD 0 = q.hintShare.toNat → s.pst.drivesDown = false →
    Completes (.tenantCreate c key (some q)) s (fun t => t.obj.tenants.map (fun y => (y.num, y.key,
      y.quota)) = s.obj.tenants.map (fun y => (y.num, y.key, y.quota)) ++ [(n, key, q)] ∧ (key, KeyRole.tenant n) ∈ t.auth.keys ∧
      t.held.any (fun y => y.msg == replyMsg c 0x0301 sOk [(2, n), (6, 0)]) = true)) ∧
  (∀ (c : Call) (tenant : Word16) (quota : QuotaRec) (x : Conn) (s : State), Checked s c 0x0302 isCustodian x → quotaForm s quota = none →
    (tenantAt s tenant.toNat).isSome = true → quotasFit s s.layers.service s.layers.reservePct (quota.byteQuota.toNat
    :: otherQuotas s tenant.toNat) = true → ((shareOf s tenant.toNat).map (fun y => y.log2)).getD 0 = quota.hintShare.toNat →
    s.pst.drivesDown = false →
    Completes (.tenantQuotaSet c tenant quota) s (fun t => (tenantAt t tenant.toNat).map (fun y => y.quota) = some quota ∧
      AnswersInTime c 0x0302 sOk [] t)) ∧
  (∀ (c : Call) (g : GrantRec) (x : Conn) (s : State), Checked s c 0x0304 issuesGrants x → grantForm g = true → g.issuer = x.key →
    mayIssue x.who g = true → roleFree s g.holder (grantRole g) = true → scopeOwn s g.tenant.toNat g.scope = true →
    s.auth.grants.length < 262144 → s.pst.drivesDown = false →
    Completes (.grantIssue c g true) s (fun t => t.auth.grants = s.auth.grants.filter
      (fun y => !(y.issuer == g.issuer && y.serial == g.serial)) ++ [g] ∧ (g.holder, grantRole g) ∈ t.auth.keys)) ∧
  (∀ (c : Call) (holder : Digest) (serial : Word64) (g : GrantRec) (x : Conn) (s : State), Checked s c 0x0305 issuesGrants x →
    s.auth.grants.find? (fun y => y.issuer == x.key && y.holder == holder && y.serial == serial) = some g → s.pst.drivesDown = false →
    Completes (.grantRevoke c holder serial) s (fun t => t.auth.grants = s.auth.grants.filter (fun y => y != g))) ∧
  (∀ (c : Call) (holder : Digest) (serial : Word64) (x : Conn) (s : State), Checked s c 0x0305 issuesGrants x →
    s.auth.grants.any (fun y => y.issuer == x.key && y.holder == holder && y.serial == serial) = false →
    exec (.grantRevoke c holder serial) s = .next (reply c 0x0305 sOk [(8, 0)] (afterChecks s c x)))

/-- TIME_CHALLENGE keeps and answers a nonce of the connection (03 R76). TIME_BEACON that passes its checks anchors the module and spends
the nonce (03 R77). FW_STAGE keeps a chunk that is not the last; FW_COMMIT burns the fuses up to the version named and no further than
the running image (02 R63, R64). DEBUG_CHALLENGE keeps and answers a nonce; a token for it opens the module, which then holds no key and
no landing memory, once the regions of the sessions it closes have drained (02 R60, R61; 13 R342). SANITISE_STATUS with none running answers phase 0 (04 R118). -/
def Obligations.TimeFirmwareDebugComplete : Prop :=
  (∀ (c : Call) (x : Conn) (s : State), Checked s c 0x0401 isCustodian x →
    Completes (.timeChallenge c) s (fun t => Answers c 0x0401 sOk [(32, (drawDigest s).1.toNat)] t ∧
      t.time.challenge = some { mbx := c.mbx, nonce := (drawDigest s).1, egress := mono s })) ∧
  (∀ (c : Call) (b : Beacon) (x : Conn) (k : Challenge) (s : State), Checked s c 0x0402 isCustodian x → b.version = 1 →
    b.nanos < 1000000000 → s.auth.timeKey = some b.signer → s.time.challenge = some k → k.mbx = c.mbx → k.nonce = b.nonce →
    b.module = Config.moduleDigest → late s k.egress (pTsBeaconWindow s * secU) = false → s.time.custody + secU < beaconTime b →
    s.pst.drivesDown = false →
    Completes (.timeBeacon c b true) s (fun t => t.time.anchor = .anchored ∧ t.time.custody = beaconTime b ∧
      t.time.lastBeacon = beaconTime b ∧ t.time.challenge = none)) ∧
  (∀ (c : Call) (length : Word64) (chunk : Bytes) (image : FwImage) (x : Conn) (s : State), Checked s c 0x0501 isCustodian x →
    chunk ≠ [] → chunk.length < length.toNat →
    Completes (.fwStage c 0 length chunk image) s (fun t => t.auth.staging
      = some { received := chunk.length, length := length.toNat, digest := none, svn := 0, release := 0, revokes := [] } ∧ Answers c 0x0501 sOk [] t)) ∧
  (∀ (c : Call) (svn : Byte) (x : Conn) (s : State), Checked s c 0x0502 isCustodian x → svn.toNat ≤ s.auth.runningSvn →
    s.pst.drivesDown = false →
    Completes (.fwCommit c svn) s (fun t => t.auth.fusedSvn = max s.auth.fusedSvn svn.toNat ∧ t.auth.previous = none ∧ Answers c 0x0502 sOk [] t)) ∧
  (∀ (c : Call) (x : Conn) (s : State), Checked s c 0x0503 isOperator x →
    Completes (.debugChallenge c) s (fun t => Answers c 0x0503 sOk [(32, (drawDigest s).1.toNat)] t ∧
      t.auth.debugNonce = some ((drawDigest s).1, mono s))) ∧
  (∀ (c : Call) (tok : DebugToken) (x : Conn) (s : State), Checked s c 0x0504 isOperator x → tok.expiry.ns.toNat < 1000000000 → tokenOk s tok = true →
    s.pst.drivesDown = false → s.reg.regions = [] → s.trn.ctxs.all (fun k => !k.closing) = true →
    Completes (.debugUnlock c tok) s (fun t => t.auth.unlocked = true ∧ t.auth.shelfKey = none ∧ t.reg.mem = [] ∧
      t.obj.tenants.all (fun y => y.root.isNone) = true ∧ t.fix.certified = false)) ∧
  (∀ (c : Call) (tok : DebugToken) (x : Conn) (s : State), Checked s c 0x0504 isOperator x → tok.expiry.ns.toNat < 1000000000 → tokenOk s tok = true →
    s.pst.drivesDown = false → drainsOf (fun _ => true) (unlockClose tok (afterChecks s c x)) ≠ [] →
    Completes (.debugUnlock c tok) s (fun t => t.auth.unlocked = s.auth.unlocked ∧
      t.held.any (fun y => y.msg == replyMsg c 0x0504 sOk [] && y.job == some .unlock &&
        y.drains == drainsOf (fun _ => true) (unlockClose tok (afterChecks s c x))) = true)) ∧
  (∀ (c : Call) (x : Conn) (s : State), Checked s c 0x0804 isCustOper x → s.block.shelfSan = none →
    exec (.sanitiseStatus c) s = .next (reply c 0x0804 sOk [(1, 0), (7, 0), (24, 0)] (afterChecks s c x)))

/-- A set that PARAM_SET's checks let through takes effect whole, at one instant (19 R474). Each clause is a command that writes fields of
one block: PARAM_SET itself and the thirteen rows that name one write. The next state is the answer S_OK with failing entry 0xFFFF after
`applySet` of exactly those entries, its power state apart, and the base layer holds the entries (20 R476). -/
def Obligations.ParameterWritesComplete : Prop :=
  (∀ (c : Call) (e : ParamWrite) (x : Conn) (s : State), Checked s c 0x0103 isCustOper x → s.boot.firstUse = false →
    checkSet (.param (isOperator x.who)) (afterChecks s c x) (withSets [e] (afterChecks s c x)) (fun a => baseWord (afterChecks s c x)
    a (resetWord a)) [e] = none → s.pst.drivesDown = false →
    Completes (.paramSet c 1 [e]) s (fun t => { t with pst := s.pst }
      = { reply c 0x0103 sOk [(2, 0xFFFF), (6, 0)] (applySet [e] (afterChecks s c x)) with pst := s.pst } ∧
      t.layers.base = (withSets [e] s).layers.base)) ∧
  (∀ (c : Call) (x : Conn) (s : State), Checked s c 0x0103 isCustOper x → s.boot.firstUse = false →
    checkSet (.param (isOperator x.who)) (afterChecks s c x) (withSets
    [entry stTS 1 1] (afterChecks s c x)) (fun a => baseWord (afterChecks s c x) a (resetWord a)) [entry stTS 1 1] = none →
    s.pst.drivesDown = false →
    Completes (.tsStatusClear c) s (fun t => { t with pst := s.pst }
      = { reply c 0x0103 sOk [(2, 0xFFFF), (6, 0)] (applySet [entry stTS 1 1] (afterChecks s c x)) with pst := s.pst } ∧
      t.layers.base = (withSets [entry stTS 1 1] s).layers.base)) ∧
  (∀ (c : Call) (x : Conn) (s : State), Checked s c 0x0103 isCustOper x → s.boot.firstUse = false →
    checkSet (.param (isOperator x.who)) (afterChecks s c x) (withSets [entry 0x1000015C 1 1] (afterChecks s c x)) (fun a => baseWord
    (afterChecks s c x) a (resetWord a)) [entry 0x1000015C 1 1] = none → s.pst.drivesDown = false →
    Completes (.scrubStart c) s (fun t => { t with pst := s.pst }
      = { reply c 0x0103 sOk [(2, 0xFFFF), (6, 0)] (applySet [entry 0x1000015C 1 1] (afterChecks s c x)) with pst := s.pst } ∧
      t.layers.base = (withSets [entry 0x1000015C 1 1] s).layers.base)) ∧
  (∀ (c : Call) (port mode : Nat) (x : Conn) (s : State), Checked s c 0x0103 isCustOper x → s.boot.firstUse = false →
    checkSet (.param (isOperator x.who)) (afterChecks s c x) (withSets [entry (unitAddr 0x02000100 0x40 4 port) 3 mode] (afterChecks
    s c x)) (fun a => baseWord (afterChecks s c x) a (resetWord a)) [entry (unitAddr 0x02000100 0x40 4 port) 3 mode] = none →
    s.pst.drivesDown = false →
    Completes (.macPortModeWrite c port mode) s (fun t => { t with pst := s.pst }
      = { reply c 0x0103 sOk [(2, 0xFFFF), (6, 0)] (applySet [entry (unitAddr 0x02000100 0x40 4 port) 3 mode] (afterChecks s c x)) with pst := s.pst } ∧
      t.layers.base = (withSets [entry (unitAddr 0x02000100 0x40 4 port) 3 mode] s).layers.base)) ∧
  (∀ (c : Call) (port : Nat) (x : Conn) (s : State), Checked s c 0x0103 isCustOper x → s.boot.firstUse = false →
    checkSet (.param (isOperator x.who)) (afterChecks s c x) (withSets [entry (unitAddr 0x02000108 0x40 4 port) 1 1] (afterChecks s c
    x)) (fun a => baseWord (afterChecks s c x) a (resetWord a)) [entry (unitAddr 0x02000108 0x40 4 port) 1 1] = none →
    s.pst.drivesDown = false →
    Completes (.macPortRestart c port) s (fun t => { t with pst := s.pst }
      = { reply c 0x0103 sOk [(2, 0xFFFF), (6, 0)] (applySet [entry (unitAddr 0x02000108 0x40 4 port) 1 1] (afterChecks s c x)) with pst := s.pst } ∧
      t.layers.base = (withSets [entry (unitAddr 0x02000108 0x40 4 port) 1 1] s).layers.base)) ∧
  (∀ (c : Call) (channels : Word64) (x : Conn) (s : State), Checked s c 0x0103 isCustOper x → s.boot.firstUse = false →
    checkSet (.param (isOperator x.who)) (afterChecks s c x) (withSets [entry 0x05000018 0xFFFFFFFF (channels.toNat % 2 ^ 32),
    entry 0x0500001C 0xFFFFFFFF (channels.toNat / 2 ^ 32)] (afterChecks s c x)) (fun a => baseWord (afterChecks s c x) a (resetWord a))
    [entry 0x05000018 0xFFFFFFFF (channels.toNat % 2 ^ 32), entry 0x0500001C 0xFFFFFFFF (channels.toNat / 2 ^ 32)] = none →
    s.pst.drivesDown = false →
    Completes (.movAbort c channels) s (fun t => { t with pst := s.pst }
      = { reply c 0x0103 sOk [(2, 0xFFFF), (6, 0)] (applySet [entry 0x05000018 0xFFFFFFFF (channels.toNat % 2 ^ 32), entry 0x0500001C 0xFFFFFFFF (channels.toNat / 2 ^ 32)] (afterChecks s c x)) with pst := s.pst } ∧
      t.layers.base = (withSets [entry 0x05000018 0xFFFFFFFF (channels.toNat % 2 ^ 32),
      entry 0x0500001C 0xFFFFFFFF (channels.toNat / 2 ^ 32)] s).layers.base)) ∧
  (∀ (c : Call) (slot : Nat) (x : Conn) (s : State), Checked s c 0x0103 isCustOper x → s.boot.firstUse = false →
    checkSet (.param (isOperator x.who)) (afterChecks s c x) (withSets [entry (unitAddr 0x06000104 0x20 24 slot) 1 1] (afterChecks s
    c x)) (fun a => baseWord (afterChecks s c x) a (resetWord a)) [entry (unitAddr 0x06000104 0x20 24 slot) 1 1] = none →
    s.pst.drivesDown = false →
    Completes (.slotReset c slot) s (fun t => { t with pst := s.pst }
      = { reply c 0x0103 sOk [(2, 0xFFFF), (6, 0)] (applySet [entry (unitAddr 0x06000104 0x20 24 slot) 1 1] (afterChecks s c x)) with pst := s.pst } ∧
      t.layers.base = (withSets [entry (unitAddr 0x06000104 0x20 24 slot) 1 1] s).layers.base)) ∧
  (∀ (c : Call) (enable : Bool) (x : Conn) (s : State), Checked s c 0x0103 isCustOper x → s.boot.firstUse = false →
    checkSet (.param (isOperator x.who)) (afterChecks s c x) (withSets [entry 0x07000004 1 enable.toNat] (afterChecks s c x)) (fun a
    => baseWord (afterChecks s c x) a (resetWord a)) [entry 0x07000004 1 enable.toNat] = none → s.pst.drivesDown = false →
    Completes (.sepCtrlWrite c enable) s (fun t => { t with pst := s.pst }
      = { reply c 0x0103 sOk [(2, 0xFFFF), (6, 0)] (applySet [entry 0x07000004 1 enable.toNat] (afterChecks s c x)) with pst := s.pst } ∧
      t.layers.base = (withSets [entry 0x07000004 1 enable.toNat] s).layers.base)) ∧
  (∀ (c : Call) (map : Word64) (x : Conn) (s : State), Checked s c 0x0103 isCustOper x → s.boot.firstUse = false →
    checkSet (.param (isOperator x.who)) (afterChecks s c x) (withSets [entry 0x07000008 0xFFFFFFFF (map.toNat % 2 ^ 32),
    entry 0x0700000C 0xFFFFFFFF (map.toNat / 2 ^ 32)] (afterChecks s c x)) (fun a => baseWord (afterChecks s c x) a (resetWord a))
    [entry 0x07000008 0xFFFFFFFF (map.toNat % 2 ^ 32), entry 0x0700000C 0xFFFFFFFF (map.toNat / 2 ^ 32)] = none →
    s.pst.drivesDown = false →
    Completes (.sepMbxMapWrite c map) s (fun t => { t with pst := s.pst }
      = { reply c 0x0103 sOk [(2, 0xFFFF), (6, 0)] (applySet [entry 0x07000008 0xFFFFFFFF (map.toNat % 2 ^ 32), entry 0x0700000C 0xFFFFFFFF (map.toNat / 2 ^ 32)] (afterChecks s c x)) with pst := s.pst } ∧
      t.layers.base = (withSets [entry 0x07000008 0xFFFFFFFF (map.toNat % 2 ^ 32),
      entry 0x0700000C 0xFFFFFFFF (map.toNat / 2 ^ 32)] s).layers.base)) ∧
  (∀ (c : Call) (low high : Word32) (x : Conn) (s : State), Checked s c 0x0103 isCustOper x → s.boot.firstUse = false →
    checkSet (.param (isOperator x.who)) (afterChecks s c x) (withSets [entry 0x08000010 0xFFFFFFFF low.toNat,
    entry 0x08000014 0xFFFFFFFF high.toNat] (afterChecks s c x)) (fun a => baseWord (afterChecks s c x) a (resetWord a)) [entry 0x08000010
    0xFFFFFFFF low.toNat, entry 0x08000014 0xFFFFFFFF high.toNat] = none → s.pst.drivesDown = false →
    Completes (.pairHomeWrite c low high) s (fun t => { t with pst := s.pst }
      = { reply c 0x0103 sOk [(2, 0xFFFF), (6, 0)] (applySet [entry 0x08000010 0xFFFFFFFF low.toNat, entry 0x08000014 0xFFFFFFFF high.toNat] (afterChecks s c x)) with pst := s.pst } ∧
      t.layers.base = (withSets [entry 0x08000010 0xFFFFFFFF low.toNat, entry 0x08000014 0xFFFFFFFF high.toNat] s).layers.base)) ∧
  (∀ (c : Call) (x : Conn) (s : State), Checked s c 0x0103 isCustOper x → s.boot.firstUse = false →
    checkSet (.param (isOperator x.who)) (afterChecks s c x) (withSets [entry 0x08000028 2 2] (afterChecks s c x)) (fun a => baseWord
    (afterChecks s c x) a (resetWord a)) [entry 0x08000028 2 2] = none → s.pst.drivesDown = false →
    Completes (.pairCtrlHandover c) s (fun t => { t with pst := s.pst }
      = { reply c 0x0103 sOk [(2, 0xFFFF), (6, 0)] (applySet [entry 0x08000028 2 2] (afterChecks s c x)) with pst := s.pst } ∧
      t.layers.base = (withSets [entry 0x08000028 2 2] s).layers.base)) ∧
  (∀ (c : Call) (x : Conn) (s : State), Checked s c 0x0103 isCustOper x → s.boot.firstUse = false →
    checkSet (.param (isOperator x.who)) (afterChecks s c x) (withSets [entry 0x09000010 1 1] (afterChecks s c x)) (fun a => baseWord
    (afterChecks s c x) a (resetWord a)) [entry 0x09000010 1 1] = none → s.pst.drivesDown = false →
    Completes (.reeveStart c) s (fun t => { t with pst := s.pst }
      = { reply c 0x0103 sOk [(2, 0xFFFF), (6, 0)] (applySet [entry 0x09000010 1 1] (afterChecks s c x)) with pst := s.pst } ∧
      t.layers.base = (withSets [entry 0x09000010 1 1] s).layers.base)) ∧
  (∀ (c : Call) (slot : Nat) (value : Word32) (x : Conn) (s : State), Checked s c 0x0103 isCustOper x → s.boot.firstUse = false →
    checkSet (.param (isOperator x.who)) (afterChecks s c x) (withSets
    [entry (unitAddr 0x0B00010C 0x20 24 slot) 1 value.toNat] (afterChecks s c x)) (fun a => baseWord (afterChecks s c x) a (resetWord a))
    [entry (unitAddr 0x0B00010C 0x20 24 slot) 1 value.toNat] = none → s.pst.drivesDown = false →
    Completes (.slotChCtrl c slot value) s (fun t => { t with pst := s.pst }
      = { reply c 0x0103 sOk [(2, 0xFFFF), (6, 0)] (applySet [entry (unitAddr 0x0B00010C 0x20 24 slot) 1 value.toNat] (afterChecks s c x)) with pst := s.pst } ∧
      t.layers.base = (withSets [entry (unitAddr 0x0B00010C 0x20 24 slot) 1 value.toNat] s).layers.base))

/-- PARAM_GET answers the words of one block, read at one instant, and latches the time fields it reads (19 R473; 03 R90). An overlay
record that nothing refuses takes force in place of the one it replaces; a class removed leaves force; REBUILD-SAFE leaves force when
its EXPIRY is confirmed and no row update is open (20 R477, R486, R489). BASE_LOAD at its quorum takes the image's generation and digest
(20 R478). -/
def Obligations.ParamGetOverlaysBaseComplete : Prop :=
  (∀ (c : Call) (addr : Word32) (count : Word16) (x : Conn) (s : State), Checked s c 0x0102 isCustOper x → 1 ≤ count.toNat →
    count.toNat ≤ 1024 → addrOk addr.toNat = true → addrOk (addr.toNat + 4 * (count.toNat - 1)) = true →
    addr.toNat / 2 ^ 24 = (addr.toNat + 4 * (count.toNat - 1)) / 2 ^ 24 → addr.toNat / 2 ^ 24 ≠ 0x0B →
    exec (.paramGet c addr count) s = .next (reply c 0x0102 sOk ((List.range count.toNat).map (fun k => (4,
      getWord (afterChecks s c x) (latchTime (afterChecks s c x) addr.toNat
      count.toNat) (addr.toNat + 4 * k)))) { (afterChecks s c x) with time := { s.time with latch := latchTime (afterChecks s c x) addr.toNat count.toNat } }))
      ∧
  (∀ (c : Call) (via : Via) (r : OvlRec) (x : Conn) (s : State), Checked s c 0x0601 (mayApply r.cls.toNat) x → r.cls ≠ 4 →
    withdraws r = false → applyRefusal (afterChecks s c x) r = none → s.pst.drivesDown = false →
    Completes (.ovlApply c via r) s (fun t => Answers c 0x0601 sOk [] t ∧ t.layers.overlays = (withOverlay r s).layers.overlays ∧
      (r.cls.toNat ≤ 3 → t.layers.service = r.cls.toNat))) ∧
  (∀ (c : Call) (via : Via) (o : OvlInForce) (x : Conn) (s : State), Checked s c 0x0602 (mayApply 5) x → overlayIn s 5 0 = some o →
    s.pst.drivesDown = false →
    Completes (.ovlRemove c via 5) s (fun t => Answers c 0x0602 sOk [] t ∧
      t.layers.overlays = dropIf (fun y => y.cls == 5) s.layers.overlays)) ∧
  (∀ (o : OvlInForce) (n : Word32) (s : State), overlayIn s 6 0 = some o → o.items = [.expiry n] → s.layers.removing = none →
    confirmedShelf s (o.since + n.toNat * secU) = true → s.log.rmws = [] →
    Completes .rebuildSafeExpiry s (fun t => t.layers.overlays = dropIf (fun y => y.cls == 6) s.layers.overlays ∧
      t.layers.removing = none)) ∧
  (∀ (c : Call) (id : Digest) (b : BaseImage) (x : Conn) (m : Ceremony) (s : State), Checked s c 0x0603 isCustodian x →
    QuorumMet s (.baseLoad b) id m → imageRefusal_ (closeCeremony m.id (afterChecks s c x)) b = none → s.boot.firstUse = false →
    s.pst.drivesDown = false →
    Completes (.baseLoad c (.ceremony id) b) s (fun t => t.layers.generation = b.generation ∧ t.layers.baseDigest = b.digest ∧
      t.layers.baseClass = b.svcClass.toNat ∧ AnswersInTime c 0x0603 sOk [] t))

/-- The schedulers' events and tables (15). TOKEN_REFILL past a refill instant refills every bucket and serves what may go;
SHARE_WINDOW_END starts the member's next window; QUIET_PERIOD_START serves the period that Shelf Time has reached; FLOW_WEIGHT_SET
replaces the tenant's table of weights; TENANT_STATS answers the tenant's own figures; ADMIT_COMMAND runs the command that the fair
queue picks and takes it out of the buffer. -/
def Obligations.SchedulingCommandsComplete : Prop :=
  (∀ s : State, s.sch.refills < refillsNow s →
    exec .tokenRefill s = .next (pumpDrives ((List.range 32).foldl (fun acc n => pumpMac n acc) (refill s)))) ∧
  (∀ (slot : Fin 24) (s : State), confirmed s (windowAt s slot).since (pSchShareWindow s * usU) = true →
    exec (.shareWindowEnd slot) s = .next (pumpPort slot (putWindow
      { slot := slot, since := mono s, rebuild := 0, reloc := 0, host := 0, hitch := 0, scrub := 0, cut := false } s))) ∧
  (∀ (tenant : Nat) (q : Quiet) (s : State), quietOf s tenant = some q → q.period < now s / (max 1 q.item.period.toNat * nsU) →
    serving s = true →
    Completes (.quietPeriodStart tenant) s (fun t => (quietOf t tenant).map (fun y => y.period) = some (now s / (max 1 q.item.period.toNat
      * nsU)))) ∧
  (∀ (c : Call) (dflt : Byte) (entries : List (Byte × Word16 × Byte)) (n : Nat) (x : Conn) (s : State), Checked s c 0x0306 isTenant x →
    x.who.tenant? = some n → dflt ≠ 0 → entries.length ≤ 15 → entries.all (fun e => (e.1.toNat == 1 || e.1.toNat == 2) && e.2.2
    != 0 && ownsEntry s n e) = true →
    Completes (.flowWeightSet c dflt entries) s (fun t => t.sch.weights
      = putBy (fun y => y.tenant == n) { tenant := n, dflt := dflt.toNat, entries := entries.map (fun e => (e.1.toNat, e.2.1.toNat, e.2.2.toNat)) }
      s.sch.weights ∧ Answers c 0x0306 sOk [] t)) ∧
  (∀ (c : Call) (n : Nat) (y : Tenant) (x : Conn) (s : State), Checked s c 0x0307 isTenant x → x.who.tenant? = some n →
    tenantAt s n = some y →
    exec (.tenantStats c) s = .next (reply c 0x0307 sOk (tenantFigures (afterChecks s c x) n y (bucketsAt (refill (afterChecks s c x)) n)
      (free (refill (afterChecks s c x))).1) (free (refill (afterChecks s c x))).2) ∧
      ((tenantFigures s n y (bucketsAt s n) 0).map (fun f => f.1)).sum = 104 ∧ (tenantFigures s n y (bucketsAt s n) 0).head? = some (8,
      bytesOf s n)) ∧
  (∀ (p : Waiting × Nat × List Flow) (s : State), admitPick s (fun n => (quietOf s n).isNone) = some p →
    exec .admitCommand s = .next (runWaiting p.1 (admServe p s)))

/-- The two events that let an answer go (02 R51, R52; 03 R86; 04 R110; 07 R201; 09 R246). A not-visible answer leaves at its instant and
no sooner; a completion leaves once the instant, the media, the mirror and the batch it waits for have come; until then neither event
changes anything. -/
def Obligations.HeldAnswersLeave : Prop :=
  (∀ (id : Nat) (y : Held) (s : State), s.held.find? (fun k => k.id == id) = some y → y.nv = true → y.notBefore ≤ now s →
    mayComplete s y = true →
    exec (.notVisibleRelease id) s = .next (leave y.msg y.remote { s with held := dropIf (fun k => k.id == id) s.held })) ∧
  (∀ (id : Nat) (y : Held) (s : State), s.held.find? (fun k => k.id == id) = some y → now s < y.notBefore →
    exec (.notVisibleRelease id) s = .next s) ∧
  (∀ (id : Nat) (y : Held) (s : State), s.held.find? (fun k => k.id == id) = some y → releasable s y = true →
    exec (.completionRelease id) s = .next (releaseHeld y { s with held := dropIf (fun k => k.id == id) s.held })) ∧
  (∀ (id : Nat) (y : Held) (s : State), s.held.find? (fun k => k.id == id) = some y → now s < y.notBefore →
    exec (.completionRelease id) s = .next s)

/-- Timers and ends of landing regions, and the trigger engine (13). W after a refusal the session closes; the dead time after revocation
the RoCE pushes are abandoned; a region with nothing left to land is DRAINED: it goes, every byte of it reads as zero and no byte
outside it changes; a request that completes starts the next one of its list; the oldest record of the exception ring that may be served
is taken. -/
def Obligations.RegionsAndTriggersComplete : Prop :=
  (∀ (ctx seq : Nat) (k : Ctx) (s : State), ctxAt s ctx = some k → k.closing = false → packetHeld s ctx = false →
    k.inMsgs.any (fun m => m.refused && m.seq == seq && confirmed s m.first (freshW k)) = true →
    exec (.regionRefusalTimeout ctx seq) s = .next (closeCtx eRegion ctx s)) ∧
  (∀ (owner : Nat) (r : Region) (k : Ctx) (s : State), regionAt s owner = some r → ctxAt s owner = some k → r.phase = .revoking →
    packetHeld s owner = false → confirmed s r.revoked (deadW k) = true →
    exec (.pushAbandonTimeout owner) s = .next (putRegion { r with pushes := dropIf (fun p => (ctxAt s p.1).any isQp) r.pushes } s)) ∧
  (∀ (owner : Nat) (r : Region) (k : Ctx) (s : State), regionAt s owner = some r → ctxAt s owner = some k → r.phase = .revoking →
    r.pushes = [] → confirmed s r.revoked 0 = true → s.reg.triggers.any (fun y => y.ctx == owner && y.state == .firing) = false →
    Completes (.regionDrained owner) s (fun t => t.reg.regions = dropIf (fun y => y.owner == r.owner) s.reg.regions ∧ ∀ a,
      memByte t.reg.mem a = if r.base ≤ a ∧ a < r.base + r.size then 0 else memByte s.reg.mem a)) ∧
  (∀ (n : Nat) (status : Status) (e : TrigEntry) (r : WorkReq) (s : State),
    s.reg.triggers.find? (fun y => y.num == n && y.state == .firing) = some e → e.work[e.at_]? = some r → status.toNat = sOk →
    postFails s e r = false → e.at_ + 1 < e.work.length →
    exec (.workRequestComplete n status) s = .next (mapTrig n (fun y => { y with at_ := y.at_ + 1 }) (requestDone e r s))) ∧
  (∀ (action : Nat) (e : ExcRec) (s : State), s.reg.ring.find? (servable s) = some e →
    exec (.exceptionService action) s = .next (serveRec action e { s with reg := { s.reg with ring := s.reg.ring.erase e } }))

/-- The index engine's own events (06). A walk of a partition that is not being rebuilt ends, its pages go and the quarantine is swept; a
leaf page that fails its tag starts the rebuilding of its partition and the walk waits; an inline record that fails its tag is lost; the delta's
oldest mutation at IDX_DELTA_AGE starts a flush; the commit record on media ends it; a rebuilt partition is written anew with IDX_STATUS
bit 1. -/
def Obligations.IndexEventsComplete : Prop :=
  (∀ (id : Nat) (y : Walk) (s : State), s.idx.walks.find? (fun k => k.id == id) = some y →
    (partAt (recoverPart (walkShard s y) (macPart y.mac) s) (walkShard s y) (macPart y.mac)).rebuilding = false →
    exec (.indexWalkComplete id .whole) s = .next (closeWalk y (recoverPart (walkShard s y) (macPart y.mac) s))) ∧
  (∀ (id : Nat) (y : Walk) (s : State), s.idx.walks.find? (fun k => k.id == id) = some y → (partAt s (walkShard s y) (macPart y.mac)).stale
    = false → (partAt s (walkShard s y) (macPart y.mac)).rebuilding = false → y.leaf ≠ 0 →
    (partAt (leafFailed y s) (walkShard (leafFailed y s) y) (macPart y.mac)).rebuilding = true →
    exec (.indexWalkComplete id .page) s = .next (leafFailed y s)) ∧
  (∀ (id : Nat) (y : Walk) (o : Obj) (s : State), s.idx.walks.find? (fun k => k.id == id) = some y → (partAt s (walkShard s y)
    (macPart y.mac)).stale = false → (partAt s (walkShard s y) (macPart y.mac)).rebuilding = false → y.target = some o → leafKind o = 2 →
    exec (.indexWalkComplete id .inline_) s = .next (closeWalk { y with target := some { o with lost := true } } (loseInline y o s))) ∧
  (∀ (shard part : Nat) (m : DeltaMut) (rest : List DeltaMut) (s : State), (partAt s shard part).delta = m :: rest →
    confirmed s m.at_ (pIdxDeltaAge s * msU) = true →
    exec (.deltaFlushAge shard part) s = .next (startFlush shard part s)) ∧
  (∀ (shard part : Nat) (f : FlushState) (s : State), (partAt s shard part).flushing = some f → (partAt s shard part).stale = false →
    recOnMedia s f.commit = true →
    exec (.indexFlushCommit shard part) s = .next (endFlush shard part f s)) ∧
  (∀ (shard part : Nat) (s : State), (partAt s shard part).rebuilding = true →
    Completes (.subtreeRebuildComplete shard part) s (fun t => (statusWord t stIDX).testBit 1 = true))

/-- The events of the log (07). A stripe whose close delay has passed is filled and written; a completion of an outstanding command ends
it, one stamped after its timeout first times the command out, and any other counts as late; a shard's checkpoint falls due; the segment picked is RELOCATING; a segment with nothing live goes with
its records and rows; a row update starts, and retires once its writes have completed, with STR_STATUS bit 6. -/
def Obligations.LogCommandsComplete : Prop :=
  (∀ (shard d : Nat) (reloc : Bool) (y : Head) (n : Nat) (s : State), headOf s shard d reloc = some y → y.since = some n →
    confirmed s n (pStrCloseDelay s * usU) = true →
    exec (.stripeCloseDelay shard d reloc) s = .next (closeRow y s)) ∧
  (∀ (slot : Fin 24) (queue tag sct sc : Nat) (checks : ReadChecks) (k : DriveCmd) (s : State),
    cmdAt (portAt s slot) queue (tag % 16384) (tag / 16384) = some k → late s k.issued k.timeout = false →
    exec (.driveCompletion slot queue tag sct sc checks) s = .next (completeCmd slot k sct sc checks s)) ∧
  (∀ (slot : Fin 24) (queue tag sct sc : Nat) (checks : ReadChecks) (k : DriveCmd) (s : State),
    cmdAt (portAt s slot) queue (tag % 16384) (tag / 16384) = some k → late s k.issued k.timeout = true →
    exec (.driveCompletion slot queue tag sct sc checks) s = .next (lateCompletion slot (timeoutCmd slot k s))) ∧
  (∀ (slot : Fin 24) (queue tag sct sc : Nat) (checks : ReadChecks) (s : State), cmdAt (portAt s slot) queue (tag % 16384) (tag / 16384) = none →
    Completes (.driveCompletion slot queue tag sct sc checks) s (fun t => (statusWord t stDRV).testBit 0 = true ∧
      figure t 0x0600001C = min 0xFFFFFFFF (figure s 0x0600001C + 1))) ∧
  (∀ (shard : Nat) (s : State), (shardAt s shard).owned = true → (shardAt s shard).ready = true → s.pst.drivesDown = false →
    confirmed s (shardAt s shard).ckptAt (pStrCkptInterval s * secU) = true →
    exec (.logCheckpoint shard) s = .next (shardCheckpoint shard s)) ∧
  (∀ (g : Segment) (s : State), relocPick s = some g →
    exec .relocationSelect s = .next (moveAll g.shard g.d true (segMovable (startReloc g s) g.num) ((segMovable (startReloc g s)
      g.num).foldl (fun acc r => relocReads r g.d acc) (startReloc g s))).2) ∧
  (∀ (g : Segment) (s : State), relocPick s = some g → s.log.recs.any (fun r => addrSeg r.addr == g.num) = false →
    Completes .relocationSelect s (fun t => (segAt t g.num).map (fun y => y.state) = some .relocating)) ∧
  (∀ (seg : Nat) (g : Segment) (s : State), segAt s seg = some g → freeable s g = true →
    Completes (.segmentFree seg) s (fun t => (segAt t seg).isNone = true ∧ t.log.recs.any (fun r => addrSeg r.addr == seg) = false ∧
      t.log.rows.any (fun r => r.seg == seg) = false)) ∧
  (∀ (seg row strip first : Nat) (data : Bytes) (s : State),
    exec (.rmwUpdate seg row strip first data) s = .next (settle (startRmw seg row strip first data s))) ∧
  (∀ (seg row : Nat) (m : Rmw) (s : State), s.log.rmws.find? (fun y => y.seg == seg && y.row == row) = some m → m.issued = true →
    m.writes = [] →
    Completes (.rmwRetire seg row) s (fun t => t.log.rmws = dropIf (fun y => y.seg == seg && y.row == row) s.log.rmws ∧
      (statusWord t stSTR).testBit 6 = true))

/-- The lanyard's events and its readers (09). A batch closes at its age, and the batch that the fair queue picks is signed; the checkpoint falls due each
IDX_CKPT_INTERVAL; the reading commands answer entries, proofs, frames and signed receipts of a lanyard the reader may read, and change
nothing else; the disclosure of a sealed object goes to its tenant; a certificate that matches the custody key is kept. -/
def Obligations.LanyardCommandsComplete : Prop :=
  (∀ (tenant : Nat) (s : State), quietOf s tenant = none →
    exec (.receiptBatchClose tenant) s = .next { s with fix := { s.fix with batches := mapIf (fun b => b.tenant == tenant && !b.closed && confirmed s b.first (pIdxReceiptBatch s * usU)) (fun b => { b with closed := true, first := mono s }) s.fix.batches } })
      ∧
  (∀ (tenant : Nat) (p : Batch × Nat × List Flow) (s : State), signPick s = some p → p.1.tenant = tenant → custodyReady s = true →
    exec (.receiptBatchSigned tenant) s = .next (signBatch p.1 { s with sch := { s.sch with signV := p.2.1, signFlows := p.2.2 } })) ∧
  (∀ s : State, confirmed s s.fix.lastCkpt (pIdxCkptInterval s * secU) = true →
    exec .lanyardCheckpoint s = .next (signCheckpoint s)) ∧
  (∀ (c : Call) (id : Digest) (chain : Word16) (first : Word64) (count : Word32) (l : Lanyard) (x : Conn) (s : State),
    Checked s c 0x0701 readsLanyard x → mayReadChain x.who chain.toNat = true → lanyardAt s id = some l → first ≠ 0 →
    first.toNat ≤ (chainEntries l chain.toNat (readEpoch s x.who l chain.toNat)).length →
    exec (.lanyardRead c id chain first count) s = .next (reply c 0x0701 sOk (fitting maxResponse ((((chainEntries l chain.toNat
      (readEpoch s x.who l chain.toNat)).drop (first.toNat - 1)).take count.toNat).map entryFull)).flatten (afterChecks s c x))) ∧
  (∀ (c : Call) (id : Digest) (chain : Word16) (number : Word64) (k : Checkpoint) (x : Conn) (s : State),
    Checked s c 0x0702 readsLanyard x → mayReadChain x.who chain.toNat = true → chain.toNat ≤ 4096 →
    (lanyardAt s id).bind (fun l => l.checkpoints.find? (fun y => y.number == number.toNat)) = some k →
    (x.who.tenant?.isSome && k.heads.any (fun h => h.1 == chain.toNat && h.2.1 != chainEpoch s chain.toNat)) = false →
    exec (.lanyardProof c id chain number) s = .next (reply c 0x0702 sOk (checkpointFlds k ++ leafFlds k chain.toNat ++ hashPath (headLeaf
      k.heads) chain.toNat 13) (afterChecks s c x))) ∧
  (∀ (c : Call) (id : Digest) (cursor : Word64) (l : Lanyard) (x : Conn) (s : State), Checked s c 0x0703 readsLanyard x →
    lanyardAt s id = some l →
    exec (.lanyardExport c id cursor) s = .next (reply c 0x0703 sOk
      ((fitting (maxResponse - 8) ((exportFrames s x.who l).drop cursor.toNat)).flatten ++ [(8,
      cursor.toNat + (fitting (maxResponse - 8) ((exportFrames s x.who l).drop cursor.toNat)).length)]) (afterChecks s c x))) ∧
  (∀ (c : Call) (id : Digest) (chain : Word16) (pos : Word64) (l : Lanyard) (r : Receipt) (x : Conn) (s : State),
    Checked s c 0x0704 readsLanyard x → mayReadChain x.who chain.toNat = true → lanyardAt s id = some l → pos ≠ 0 →
    pos.toNat ≤ (chainEntries l chain.toNat (readEpoch s x.who l chain.toNat)).length →
    receiptAt l chain.toNat (readEpoch s x.who l chain.toNat) pos.toNat = some r → r.signed = true →
    exec (.receiptRead c id chain pos) s = .next (reply c 0x0704 sOk (receiptFlds l r) (afterChecks s c x))) ∧
  (∀ (c : Call) (coll : Word16) (mac : Digest) (k : Coll) (o : Obj) (y : Whip) (x : Conn) (s : State), Checked s c 0x0706 isTenant x →
    collAt s coll.toNat = some k → x.who.tenant? = some k.tenant → k.state = .active → keyHeld s k.tenant = true →
    objAt s coll.toNat mac = some o → o.whip = some y → s.pst.drivesDown = false →
    Completes (.fixityDisclose c coll mac) s (fun t => Answers c 0x0706 sOk [(32, y.salt.toNat), (8, y.size), (32, y.sha2.toNat), (32,
      y.sha3.toNat)] t)) ∧
  (∀ (c : Call) (id : Digest) (cert : CertBody) (x : Conn) (m : Ceremony) (s : State), Checked s c 0x0207 isCustodian x →
    QuorumMet s (.custodyCertify cert) id m → cert.version = 1 → s.fix.epoch ≠ 0 → cert.epoch.toNat = s.fix.epoch →
    cert.module = Config.moduleDigest → cert.previous = previousKey s → cert.key = custodyKeyNow s → s.fix.certified = false →
    s.pst.drivesDown = false →
    Completes (.custodyCertify c (.ceremony id) cert) s (fun t => t.fix.certified = true))

/-- The lives of members (08). Strikes expire and a SUSPECT member without one is HEALTHY; a critical warning fails a member in use;
MEMBER_FAIL fails it unless a row would be exposed; a slow read of a SUSPECT member is hedged; the next row is rebuilt or restored; a
restored member with no row left is HEALTHY with RB_STATUS bit 6; a pass ends with its entry; the loss report answers the losses the
reader may see. -/
def Obligations.MembersComplete : Prop :=
  (∀ (slot : Fin 24) (s : State), (memberAt s slot).state = .suspect → strikesNow s slot = [] →
    exec (.strikeExpiry slot) s = .next (setMemberState slot .healthy (putMember slot { memberAt s slot with strikes := [] } s))) ∧
  (∀ (slot : Fin 24) (bits : Byte) (cfs : Bool) (s : State), (cfs || bits.getLsbD 2 || bits.getLsbD 3) = true →
    inUseState (memberAt s slot).state = true →
    exec (.driveCriticalWarning slot bits cfs) s = .next (failMember slot s)) ∧
  (∀ (c : Call) (slot flags : Byte) (k : Fin 24) (x : Conn) (s : State), Checked s c 0x0801 isCustOper x → slot.toNat = k → flags = 0 →
    inUseState (memberAt s k).state = true → wouldExpose k s = false → s.pst.drivesDown = false →
    Completes (.memberFail c slot flags) s (fun t => (memberAt t k).state = .failed ∧ Answers c 0x0801 sOk [] t)) ∧
  (∀ (slot : Fin 24) (tag id seg row role : Nat) (k : DriveCmd) (y : Row) (s : State),
    (portAt s slot).cmds.find? (fun d => d.tag == tag && !d.queued && !d.hedged) = some k → (memberAt s slot).state = .suspect →
    confirmed s k.issued (pStrHedge s * usU) = true → k.purpose = .hostRead id seg row role → rowAt s seg row = some y →
    y.d ≤ (survivors s y role).length →
    exec (.hedgeTimeout slot tag) s = .next ((survivors s y role).foldl (fun acc j => (stripMember acc y j).elim acc (fun m => readAt
      id seg row j k.lba k.count 0 [] m acc)) (putPort slot { portAt s slot with cmds := mapIf (fun d => d.tag == tag) (fun d => { d with hedged := true }) (portAt s slot).cmds }
      s))) ∧
  (∀ (seg : Nat) (y : Row) (s : State), rebuildPick s = some seg → s.pwr.keepSafe = false →
    lowestRow (s.log.rows.filter (fun r => r.seg == seg && rebuildWaits { s with mem := { s.mem with rebuildSeg := some seg } } r)) =
    some y → unreadable { s with mem := { s.mem with rebuildSeg := some seg } } y = true →
    exec .rebuildRow s = .next (declareLost y.seg y.row { s with mem := { s.mem with rebuildSeg := some seg } })) ∧
  (∀ (slot : Fin 24) (lbas : Nat) (dualPort ours cryptoErase blockErase : Bool) (nguid : BitVec 128) (serial : BitVec 160) (s : State),
    (feedAt s (.slot slot)).enabled = true →
    ((memberAt s slot).state = .absent ∨ (memberAt s slot).state = .failed) → s.log.segBase + 2048 * s.log.segCount ≤ lbas →
    s.boot.firstUse = false →
    Completes (.driveInsert slot lbas dualPort ours true cryptoErase blockErase nguid serial) s (fun t => (memberAt t slot).state = .restoring ∧
      (memberAt t slot).lbas = lbas ∧ (memberAt t slot).owes = [] ∧ (memberAt t slot).ours = true ∧
      (memberAt t slot).nguid = nguid ∧ (memberAt t slot).serial = serial)) ∧
  (∀ (slot : Fin 24) (lbas : Nat) (dualPort ours cryptoErase blockErase : Bool) (nguid : BitVec 128) (serial : BitVec 160) (s : State),
    (feedAt s (.slot slot)).enabled = true → ((memberAt s slot).state = .absent ∨ (memberAt s slot).state = .failed) →
    exec (.driveInsert slot lbas dualPort ours false cryptoErase blockErase nguid serial) s = .next (disableSlot slot (raise stDRV 5 slot
      s))) ∧
  (∀ (slot : Fin 24) (s : State), (memberAt s slot).state = .restoring → s.pwr.keepSafe = false →
    s.log.rows.filter (restoreWaits slot) = [] → restoreBusy s slot = false →
    exec (.restoreRow slot) s = .next (raise stRB 6 slot (setMemberState slot .healthy s))) ∧
  (∀ (y : Row) (s : State), scrubMay s = true → s.mem.scrubbing = true → lowestRow (scrubRest s) = some y → s.pst.drivesDown = false →
    Completes (.scrubRow (.row [] [] true)) s (fun t => t.mem.scrubRows = s.mem.scrubRows + 1 ∧
      t.mem.scrubNext = 128 * y.seg + y.row + 1)) ∧
  (∀ s : State, s.mem.scrubbing = true → scrubRest s = [] → scrubLeft s = false →
    Completes .scrubPassEnd s (fun t => t.mem.scrubbing = false ∧ t.mem.scrubPasses = s.mem.scrubPasses + 1 ∧
      t.mem.scrubRepairs = s.mem.scrubBad)) ∧
  (∀ (c : Call) (cursor : Word64) (count : Word32) (x : Conn) (s : State), Checked s c 0x0705 readsLanyard x → s.mem.losses = [] →
    exec (.lossReportRead c cursor count) s = .next (reply c 0x0705 sOk [(8, cursor.toNat)] (afterChecks s c x)))

/-- The states of a power channel (21 R498 to R507). Each event of the power entry unit, under the conditions on the channel's state and
times that its rule names, takes the channel where the rule says: INSERT, PRECHARGE, RAMP, QUALIFY, GOOD, LIMIT, RETRY, OFF, and from
latched to OFF. The input channel and the 24 slot channels share the rules; what follows a slot's change (the partner told, a dark
slot's port) is in slotFollows and tellMate. -/
def Obligations.PowerChannelsComplete : Prop :=
  (∀ (s : State), s.pwr.input.state = .insert → ticked s s.pwr.input.since (insertDelay s .input) = true → mayStart s.pwr.input = true →
    exec (.insertDelayExpiry .input) s = .next (putFeed .input { s.pwr.input with state := .precharge, since := s.time.ticks, attempt := s.time.ticks, waits := false }
      s)) ∧
  (∀ (k : Fin 24) (s : State), (feedAt s (.slot k)).state = .insert → ticked s (feedAt s (.slot k)).since (insertDelay s (.slot k))
    = true → mayStart (feedAt s (.slot k)) = true →
    exec (.insertDelayExpiry (.slot k)) s = .next (toPrecharge (.slot k) s)) ∧
  (∀ (k : Fin 24) (s : State), (feedAt s (.slot k)).state = .insert ∨ (feedAt s (.slot k)).state = .retry →
    (feedAt s (.slot k)).waits = true → mayStart (feedAt s (.slot k)) = true → turnComes s k = true →
    Completes (.staggerTurn k) s (fun t => (feedAt t (.slot k)).state = .precharge ∧ (feedAt t (.slot k)).attempt = s.time.ticks ∧
      (feedAt t (.slot k)).waits = false ∧ t.pwr.lastTurn = some s.time.ticks ∧ t.pwr.input = s.pwr.input)) ∧
  (∀ (ch : ChanId) (mv : Nat) (s : State), (feedAt s ch).state = .precharge → s.pwr.sensed ≤ 2 * mv →
    Completes (.prechargeDone ch mv) s (fun t => (feedAt t ch).state = .ramp ∧ (feedAt t ch).since = s.time.ticks ∧
      (feedAt t ch).attempt = (feedAt s ch).attempt ∧ (feedAt t ch).fails = (feedAt s ch).fails ∧ t.pwr.belay = s.pwr.belay)) ∧
  (∀ (ch : ChanId) (s : State), (feedAt s ch).state = .precharge → ticked s (feedAt s ch).since (prechargeTime s ch) = true →
    exec (.prechargeTimeout ch) s = .next (failAttempt ch false s)) ∧
  (∀ (ch : ChanId) (mv : Nat) (s : State), (feedAt s ch).state = .ramp → 9 * s.pwr.sensed ≤ 10 * mv →
    Completes (.rampDone ch mv true) s (fun t => (feedAt t ch).state = .qualify ∧ (feedAt t ch).since = s.time.ticks ∧
      (feedAt t ch).attempt = s.time.ticks ∧ (feedAt t ch).pg = (feedAt s ch).pg)) ∧
  (∀ (ch : ChanId) (s : State), (feedAt s ch).state = .ramp → ticked s (feedAt s ch).since (rampFaultTime s ch) = true →
    exec (.rampFaultTimeout ch) s = .next (failAttempt ch false s)) ∧
  (∀ (ch : ChanId) (ma : Nat) (s : State), (feedAt s ch).state = .qualify ∨ (feedAt s ch).state = .good → currentLimit s ch ≤ ma →
    Completes (.currentLimitReached ch ma) s (fun t => (feedAt t ch).state = .limit ∧ (feedAt t ch).since = s.time.ticks ∧
      (feedAt t ch).fromGood = ((feedAt s ch).state == .good) ∧ (feedAt t ch).pg = (feedAt s ch).pg)) ∧
  (∀ (ch : ChanId) (us : Nat) (s : State), (feedAt s ch).state = .limit → 10 ≤ us →
    Completes (.limitRelease ch us) s (fun t => (feedAt t ch).state = (if (feedAt s ch).fromGood then .good else .qualify) ∧
      (feedAt t ch).since = s.time.ticks)) ∧
  (∀ (ch : ChanId) (s : State), (feedAt s ch).state = .limit → ticked s (feedAt s ch).since (faultTime s ch) = true →
    exec (.faultTimerExpiry ch) s = .next (failAttempt ch true s)) ∧
  (∀ (k : Fin 24) (us : Nat) (s : State), (feedAt s (.slot k)).state = .qualify → qualTime s (.slot k) ≤ us →
    ticked s (feedAt s (.slot k)).since (qualTime s (.slot k) * 1000) = true →
    Completes (.pgQualified (.slot k) us) s (fun t => (feedAt t (.slot k)).state = .good ∧ (feedAt t (.slot k)).pg = true ∧
      (feedAt t (.slot k)).since = s.time.ticks)) ∧
  (∀ (us : Nat) (s : State), s.pwr.input.state = .qualify → qualTime s .input ≤ us →
    ticked s s.pwr.input.since (qualTime s .input * 1000) = true →
    exec (.pgQualified .input us) s = .next (inputGood (putFeed .input
      { s.pwr.input with state := .good, since := s.time.ticks, pg := true } s))) ∧
  (∀ (ch : ChanId) (mv : Nat) (s : State), (feedAt s ch).state = .good → 100 * mv < pPwrPgLow (unitView s) * s.pwr.sensed →
    Completes (.pgLoss ch mv) s (fun t => (feedAt t ch).state = .qualify ∧ (feedAt t ch).pg = false ∧
      (feedAt t ch).attempt = s.time.ticks ∧ (feedAt t ch).fails = (feedAt s ch).fails)) ∧
  (∀ (ch : ChanId) (s : State), (feedAt s ch).state = .retry → (feedAt s ch).retryEnd ≤ s.time.ticks → s.pwr.belay.isSome = false →
    mayStart (feedAt s ch) = true →
    exec (.retryWaitEnd ch) s = .next (toPrecharge ch s)) ∧
  (∀ (ch : ChanId) (s : State), (feedAt s ch).state = .good → ticked s (feedAt s ch).since 1000000000 = true →
    exec (.failureCountClear ch) s = .next (putFeed ch { feedAt s ch with fails := 0 } s)) ∧
  (∀ (ch : ChanId) (test : DamageTest) (us : Nat) (s : State), (damageTest test (feedAt s ch)).1 = true →
    (damageTest test (feedAt s ch)).2 ≤ us → ¬ (ch = .input ∧ test = .conductsWhenOff) →
    exec (.deviceDamage ch test us) s = .next (latchChannel ch 2 s)) ∧
  (∀ (us : Nat) (s : State), (damageTest .conductsWhenOff s.pwr.input).1 = true → (damageTest .conductsWhenOff s.pwr.input).2 ≤ us →
    Completes (.deviceDamage .input .conductsWhenOff us) s (fun t => t.pwr.damaged = true ∧ t.pwr.keepSafe = true ∧
      t.pwr.input.state = s.pwr.input.state)) ∧
  (∀ (us : Nat) (s : State), s.pwr.input.state = .latched →
    Completes (.inputLatchClear us true) s (fun t => t.pwr.input.state = .off ∧ t.pwr.input.fails = 0 ∧ t.pwr.input.kind = 0 ∧
      t.pwr.input.inside = false ∧ t.pwr.slots = s.pwr.slots)) ∧
  (∀ (k : Fin 24) (s : State),
    exec (.slotPresenceChange k true) s = .next (startInsert (.slot k) (putFeed (.slot k) { feedAt s (.slot k) with present := true }
      s))) ∧
  (∀ (k : Fin 24) (s : State), (feedAt s (.slot k)).state = .off → inUseState (memberAt s k).state = false →
    exec (.slotPresenceChange k false) s = .next (putFeed (.slot k) { feedAt s (.slot k) with present := false, fails := 0 } s))

/-- The module's supply and its belay (21 R492 to R495, R505, R508, R509). The mean over 1 ms sets the readings, the band and the
governor's cap; a second without a cause ends Keep-safe service; a slot whose input crosses its window stops or starts; an excursion of
the input that returns in time is ridden through, and one that lasts raises the belay; ten milliseconds into a belay the drive writes
are abandoned, and its stop powers the module down. -/
def Obligations.SupplyAndBelayComplete : Prop :=
  (∀ (mv ma j : Nat) (s : State),
    Completes (.supplyBandWindow mv ma j) s (fun t => t.pwr.vin = mv ∧ t.pwr.iin = ma ∧ t.pwr.holdup = j ∧
      t.pwr.band = nextBand s.pwr.band mv ∧ t.pwr.cap = governorCap s mv)) ∧
  (∀ (n : Nat) (s : State), s.pwr.keepSafe = true → s.pwr.clearSince = some n → keepSafeCause s = false → ticked s n 1000000000 = true →
    exec .keepSafeExit s = .next (s.hitch.list.foldl (fun acc h =>
      pumpHitch h.record.id acc) { s with pwr := { s.pwr with keepSafe := false } })) ∧
  (∀ (k : Fin 24) (mv : Nat) (s : State), (feedAt s (.slot k)).inside = true → insideWindow s (.slot k) mv = false →
    exec (.channelWindowChange (.slot k) mv) s = .next (slotLeaves k (putFeed (.slot k) { feedAt s (.slot k) with inside := false }
      { s with pwr := { s.pwr with sensed := mv } }))) ∧
  (∀ (k : Fin 24) (mv : Nat) (s : State), (feedAt s (.slot k)).inside = false → insideWindow s (.slot k) mv = true →
    exec (.channelWindowChange (.slot k) mv) s = .next (startChannel
      (.slot k) (putFeed (.slot k) { feedAt s (.slot k) with inside := true } { s with pwr := { s.pwr with sensed := mv } }))) ∧
  (∀ (mv : Nat) (s : State), s.pwr.input.inside = true → insideWindow s .input mv = false →
    exec (.channelWindowChange .input mv) s = .next (inputLeaves mv
      (putFeed .input { s.pwr.input with inside := false } { s with pwr := { s.pwr with sensed := mv } }))) ∧
  (∀ (n : Nat) (s : State), s.pwr.outSince = some n → withinQual s n = false → s.pwr.socOn = true → s.pwr.belay = none →
    Completes .belayQualification s (fun t => t.pwr.belay = some (if s.pwr.outAbove then .aboveWindow else .belowWindow, s.time.ticks) ∧
      t.pwr.belayTen = false ∧ t.pwr.onHoldup = true ∧ t.pwr.outSince = none)) ∧
  (∀ (mv n : Nat) (s : State), s.pwr.outSince = some n → insideWindow s .input mv = true → withinQual s n = true →
    Completes (.rideThrough mv) s (fun t => t.pwr.outSince = none ∧ t.pwr.onHoldup = false ∧ t.pwr.sensed = mv ∧
      t.pwr.input.state = (if s.pwr.input.state == .off then .ramp else s.pwr.input.state) ∧ t.pwr.belay = s.pwr.belay)) ∧
  (∀ (cause : BelayCause) (n : Nat) (s : State), s.pwr.belay = some (cause, n) → s.pwr.belayTen = false → ticked s n 10000000 = true →
    Completes .belayDriveAbandon s (fun t => t.hold.frames = [] ∧ t.pwr.belayTen = true ∧
      allSlots.all (fun k => (portAt t k).cmds.isEmpty && !(portAt t k).linkUp) = true)) ∧
  (∀ (cause : BelayCause) (n : Nat) (s : State), s.pwr.belay = some (cause, n) → s.pwr.belayTen = true →
    Completes .belayStop s (fun t => t.pwr.socOn = false ∧ t.pwr.belay = none ∧ t.pwr.lastStop = stopCode cause))

/-- The power states (22 R513 to R521; 20 R483, R485). Each timed event, once its instant has come and the rule's conditions hold, starts,
advances or completes an entry, wakes or gates a domain, begins or finishes the drives' power-down, or opens or closes an awake window.
-/
def Obligations.PowerStatesComplete : Prop :=
  (∀ (s : State), s.pst.mode = .run → s.pst.entering = none → drowseMay s = true →
    confirmed s s.pst.lastWork (pPstDrowseIdle s * msU) = true →
    Completes .drowseIdleExpiry s (fun t => t.pst.entering = some .drowse ∧ t.pst.point = 1 ∧ t.pst.abandon = false ∧
      t.pst.mode = .run)) ∧
  (∀ (s : State), s.pst.mode ≠ .dormant → s.pst.entering = none → dormantMay s = true →
    confirmed s s.pst.lastPkt (pPstDormantIdle s * secU) = true →
    Completes .dormantIdleExpiry s (fun t => t.pst.entering = some .dormant ∧ t.pst.point = 1 ∧ t.pst.abandon = false ∧
      t.pst.mode = s.pst.mode)) ∧
  (∀ (m : PMode) (s : State), s.pst.entering = some m → s.pst.point < 5 → s.pst.abandon = false →
    exec .entryStepComplete s = .next { s with pst := { s.pst with point := if m = .drowse ∧ s.pst.point = 3 then 6 else s.pst.point + 1 } })
      ∧
  (∀ (s : State), s.pst.entering = some .dormant → s.pst.point = 5 → s.pst.abandon = false →
    Completes .entryStepComplete s (fun t => t.pst.point = 6 ∧ t.pst.entering = some .dormant ∧ t.net = (linksDown s).net ∧
      t.drv = (linksDown s).drv)) ∧
  (∀ (m : PMode) (s : State), s.pst.entering = some m → s.pst.point < 5 → s.pst.abandon = true →
    Completes .entryStepComplete s (fun t => t.pst.entering = none ∧ t.pst.mode = .run ∧ t.pst.point = 0 ∧ t.pst.abandon = false)) ∧
  (∀ (m : PMode) (s : State), s.pst.entering = some m → 6 ≤ s.pst.point → s.pst.heldWake = false →
    Completes .entryStepComplete s (fun t => t.pst.entering = none ∧ t.pst.mode = m ∧ t.pst.point = 7 ∧ t.pst.woken = [])) ∧
  (∀ (domain : Nat) (s : State), s.pst.mode = .drowse →
    Completes (.domainWake domain) s (fun t => t.pst.woken.getLast? = some (domain, mono s) ∧
      (t.pst.woken.filter (fun y => y.1 == domain)).length = 1 ∧ t.pst.mode = .drowse)) ∧
  (∀ (domain n : Nat) (s : State), s.pst.woken.lookup domain = some n → confirmed s n (pPstDomainIdle s * usU) = true →
    Completes (.domainIdleExpiry domain) s (fun t => (t.pst.woken.any (fun y => y.1 == domain)) = false ∧ t.pst.mode = s.pst.mode)) ∧
  (∀ (d : DormantItem) (s : State), dormantItem s = some d → s.pst.drivesDown = false → s.pst.downStep = 0 → mayPowerDown s = true →
    hostBusy s = false → confirmed s s.pst.lastDrive (d.idle.toNat * secU) = true →
    exec .driveIdleTimeout s = .next (advanceDown (closeHeads { (s.idx.parts.filter (fun y => (shardAt s y.shard).owned)).foldl (fun acc y => startFlush y.shard y.num acc) s with pst := { ((s.idx.parts.filter (fun y => (shardAt s y.shard).owned)).foldl (fun acc y => startFlush y.shard y.num acc) s).pst with downStep := 1 } })))
      ∧
  (∀ (slot : Fin 24) (s : State), s.pst.downStep = 4 → s.pst.shutting.contains (slot : Nat) = true →
    exec (.driveShutdownComplete slot) s = .next (shutOver slot s)) ∧
  (∀ (slot : Fin 24) (s : State), s.pst.downStep = 4 → s.pst.shutting.contains (slot : Nat) = true →
    confirmed s s.pst.shutAt (pPstShutdownMax s * msU) = true →
    exec (.driveShutdownTimeout slot) s = .next (shutOver slot (raise stPST 2 slot s))) ∧
  (∀ (d : DormantItem) (s : State), dormantItem s = some d → inAwakeWindow s d = true → s.pst.window = false →
    exec .dormantWindowStart s = .next (powerDrives (wake 5 { s with pst := { s.pst with window := true } }))) ∧
  (∀ (d : DormantItem) (s : State), dormantItem s = some d → inAwakeWindow s d = false → s.pst.window = true →
    exec .dormantWindowEnd s = .next { s with pst := { s.pst with window := false } }) ∧
  (∀ (s : State), s.pst.drivesDown = true → s.obj.locks.any (fun l => l.locks.any (lockPast s)) = true →
    confirmed s s.fix.lastCkpt (pIdxCkptInterval s * secU) = false → (dormantItem s).any (fun d => inAwakeWindow s d && !s.pst.window)
    = false →
    exec .dormantTimerWake s = .next (powerDrives (wake 4 s))) ∧
  (∀ (s : State), s.pst.drivesDown = true → s.obj.locks.any (fun l => l.locks.any (lockPast s)) = false →
    confirmed s s.fix.lastCkpt (pIdxCkptInterval s * secU) = true → (dormantItem s).any (fun d => inAwakeWindow s d && !s.pst.window)
    = false →
    exec .dormantTimerWake s = .next (signCheckpoint (wake 4 s)))

/-- What observers read and what the management controller asks (23 R528 to R532; 02 R65, Table 2.9, Table 2.10). EVT_READ acknowledges
and returns the connection's own ring; a platform event's answer or last timeout drops its record and the next goes out; the identity
exchange steps through its stages and answers digests, a certificate's portion, a challenge and measurements. The bodies that the source
does not give are free values of Config (log entry 35). -/
def Obligations.EventAndIdentityRequestsComplete : Prop :=
  (∀ (c : Call) (ack : Word32) (maxRec mask : Word16) (x : Conn) (r : EvRing) (s : State), Checked s c 0x0A02 readsRing x →
    s.ev.rings.find? (fun y => y.mbx == some c.mbx) = some r → 0 < maxRec.toNat ∧ maxRec.toNat ≤ 1024 → ack.toNat ≤ r.returned →
    Completes (.evtRead c ack maxRec mask) s (fun t => Answers c 0x0A02
      sOk ((ringReturned r ack.toNat mask.toNat maxRec.toNat).map eventFlds).flatten t ∧
      t.ev.rings = mapIf (fun y => y.mbx == some c.mbx) (fun _ => ringRead r ack.toNat mask.toNat maxRec.toNat) s.ev.rings)) ∧
  (∀ (ok : Bool) (seq n k : Nat) (s : State), s.ev.pldm = some (seq, n, k) → s.pst.mode = .run → s.pst.entering = none →
    exec (.pldmEventResponse ok) s = .next (pumpPldm (dropMcRecord seq { s with ev := { s.ev with pldm := none } }))) ∧
  (∀ (seq n k : Nat) (y : EvRecord) (s : State), s.ev.pldm = some (seq, n, k) → confirmed s k (100 * msU) = true →
    (s.ev.rings.find? (fun r => r.mbx.isNone)).bind (fun r => r.records.find? (fun z => z.seq == seq)) = some y → n < 3 →
    s.pwr.belay = none →
    Completes .pldmEventTimeout s (fun t => t.ev.pldm = some (seq, n + 1, mono s) ∧ msg .pldm .plevent 0x0A y.seq 0 ((1,
      0xF0) :: eventFlds y) ∈ t.out)) ∧
  (∀ (eid : Option Nat) (s : State), mbxServed s = true → s.pst.mode = .run → s.pst.entering = none →
    Completes (.setEventReceiver eid) s (fun t => t.ev.receiver = eid ∧ msg .pldm .plevent 0x04 0 0 [] ∈ t.out)) ∧
  (∀ (s : State), spdmServed s = true →
    Completes .getVersion s (fun t => t.spdm.stage = 1 ∧ msg .spdm .spdm 0x04 0 0 [(1, 0), (1, 1), (2, 0x1300)] ∈ t.out)) ∧
  (∀ (s : State), spdmServed s = true → 1 ≤ s.spdm.stage →
    Completes .getCapabilities s (fun t => t.spdm.stage = 2 ∧ msg .spdm .spdm 0x61 0 0 [(4, Config.spdmField 0x61 0)] ∈ t.out)) ∧
  (∀ (s : State), spdmServed s = true → 2 ≤ s.spdm.stage →
    Completes (.negotiateAlgorithms true true) s (fun t => t.spdm.stage = 3 ∧ msg .spdm .spdm 0x63 0 0 [(4, 0x80), (4, 0x02)] ∈ t.out)) ∧
  (∀ (s : State), spdmServed s = true → 3 ≤ s.spdm.stage →
    Completes .getDigests s (fun t => t.spdm.stage = s.spdm.stage ∧ msg .spdm .spdm 0x01 1 0 [(48, Config.spdmField 0x01 0)] ∈ t.out)) ∧
  (∀ (off len : Word16) (s : State), spdmServed s = true → 3 ≤ s.spdm.stage →
    Completes (.getCertificate 0 off len) s (fun t => t.spdm.stage = s.spdm.stage ∧ msg .spdm .spdm 0x02 0 0 [(2, off.toNat), (2,
      len.toNat), (len.toNat, Config.spdmField 0x02 (off.toNat * 65536 + len.toNat))] ∈ t.out)) ∧
  (∀ (nonce : Digest) (s : State), spdmServed s = true → 3 ≤ s.spdm.stage → s.pst.mode = .run → s.pst.entering = none →
    Completes (.challenge 0 nonce) s (fun t => t.spdm.stage = s.spdm.stage ∧ t.auth.drawn = s.auth.drawn + 1 ∧
      t.out.any (fun m => m.port == .spdm && m.op == 0x03 && m.body.take 2 == [(48, Config.spdmField 0x01 0), (32,
      (drawDigest s).1.toNat)]) = true)) ∧
  (∀ (nonce : Digest) (s : State), spdmServed s = true → 3 ≤ s.spdm.stage → s.pst.mode = .run → s.pst.entering = none →
    Completes (.getMeasurements 0 false nonce) s (fun t => t.spdm.stage = s.spdm.stage ∧ msg .spdm .spdm 0x60 8 0 [(1, 0), (32,
      (drawDigest s).1.toNat)] ∈ t.out))

/-- The tether (18 R457 to R460). A hop comes up when each side has verified the other; the head's reeving gives each module its address
and comes back as the total; a module that starts while its neighbour runs takes the address after that of the neighbour's heartbeat; heartbeats keep the membership table; a frame with a new sequence is noted, kept where it is for this
module, and passed on away from the port it came by. -/
def Obligations.TetherCommandsComplete : Prop :=
  (∀ (s : State), (phaseRuns s 8 && s.tet.valid && !s.tet.waiting) = false →
    exec (.tetherHopUp true true) s = .next { s with tet := { s.tet with downCable := true, downHop := true } }) ∧
  (∀ (s : State), phaseRuns s 8 = true → s.tet.valid = true → s.tet.waiting = false →
    exec (.tetherHopUp true true) s = .next (hopSend true 1 0xFF [(1, s.tet.addr + 1)]
      { s with tet := { s.tet with downCable := true, downHop := true } })) ∧
  (∀ (s : State),
    exec (.tetherHopUp false true) s = .next { s with tet := { s.tet with upCable := true, upHop := true, waiting := s.tet.waiting || phaseRuns s 8 } }) ∧
  (∀ (cable : Bool) (s : State),
    exec (.tetherHopDown true cable) s = .next { s with tet := { s.tet with downHop := false, downCable := cable } }) ∧
  (∀ (cable : Bool) (s : State),
    exec (.tetherHopDown false cable) s = .next { s with tet := { s.tet with upHop := false, upCable := cable, waiting := cable } }) ∧
  (∀ (addr : Nat) (s : State), s.tet.upCable = true → addr < 16 →
    Completes (.reeve addr) s (fun t => t.tet.addr = addr ∧ t.tet.valid = true ∧ t.tet.waiting = false ∧ t.tet.members = s.tet.members)) ∧
  (∀ (total : Nat) (s : State), s.tet.upCable = false →
    exec (.reeveDone total) s = .next { s with tet := { s.tet with done := true, total := total } }) ∧
  (∀ (source seq addr role hops : Nat) (fromDown : Bool) (shelf : Word64) (digest : Digest) (s : State), freshSeq s source seq = true →
    addr < 16 → fromDown = true ∨ hops ≠ 15 →
    Completes (.tetherHeartbeat source seq fromDown addr shelf digest role hops) s (fun t => t.tet.members = putBy (fun y => y.addr
      == addr) { addr := addr, shelf := shelf, digest := digest, role := role % 4, heard := mono s } s.tet.members ∧
      t.tet.seqs = putKey source seq 0 s.tet.seqs ∧ t.tet.addr = s.tet.addr)) ∧
  (∀ (source seq addr role : Nat) (shelf : Word64) (digest : Digest) (s : State), freshSeq s source seq = true → addr < 15 →
    s.tet.waiting = true → phaseRuns s 8 = true →
    Completes (.tetherHeartbeat source seq false addr shelf digest role 15) s (fun t => t.tet.addr = addr + 1 ∧ t.tet.valid = true ∧
      t.tet.waiting = false)) ∧
  (∀ (s : State), s.tet.valid = true → s.tet.beatAt + pTetHbInterval s * msU ≤ mono s → pTetCtrl s ≠ 1 →
    Completes .tetherHeartbeatSend s (fun t => t.tet.beatAt = mono s ∧ t.tet.sent = s.tet.sent + 1)) ∧
  (∀ (addr : Nat) (m : TetMember) (s : State), s.tet.members.find? (fun y => y.addr == addr) = some m →
    confirmed s m.heard (pTetHbMiss s * pTetHbInterval s * msU) = true →
    Completes (.tetherMemberTimeout addr) s (fun t => t.tet.members.any (fun y => y.addr == addr) = false ∧
      (statusWord t stTET).testBit 0 = true ∧
      t.tet.waiting = (s.tet.waiting || (s.tet.upCable && s.tet.valid && addr + 1 == s.tet.addr)))) ∧
  (∀ (source dest seq hops ctx length : Nat) (fromDown : Bool) (s : State), freshSeq s source seq = true →
    Completes (.tetherMailbox source dest seq hops fromDown ctx length) s (fun t => t.tet.seqs = putKey source seq 0 s.tet.seqs ∧
      t.tet.members = s.tet.members)) ∧
  (∀ (source seq hops : Nat) (e : BitVec 128 × BitVec 128 × Nat) (fromDown : Bool) (s : State), freshSeq s source seq = true →
    Completes (.discover source seq hops fromDown [e]) s (fun t => t.tet.seqs = putKey source seq 0 s.tet.seqs ∧
      t.tet.found = putBy (fun y => y.1 == e.1) e s.tet.found))

/-- The pair's changes of ownership (18 R446 to R456; 03 R89). A won fence lets the survivor take all; a pair that was REJOINING becomes
PAIRED again; a shard handed over is this module's from a stamp not below what its owner gave; a forwarded command runs here, and its
reply goes out from the module that received it. -/
def Obligations.TakeoverAndForwardingComplete : Prop :=
  (∀ (n : Nat) (s : State), s.pair.detected = some n → s.pair.mode = .paired ∨ s.pair.mode = .handshake → fenceDone s = true →
    exec .takeover s = .next (takeAll n s)) ∧
  (∀ (s : State), s.pair.mode = .rejoining → 0 < s.pair.lanes → s.pair.survivor = true →
    Completes .pairRejoin s (fun t => t.pair.mode = .paired ∧ t.pair.leaseHeld = true ∧ t.pair.survivor = false ∧
      t.log.bothPools = false ∧ t.log.shards = s.log.shards)) ∧
  (∀ (s : State), s.pair.mode = .rejoining → 0 < s.pair.lanes → s.pair.survivor = false →
    Completes .pairRejoin s (fun t => t.pair.mode = .paired ∧ t.pair.leaseHeld = true ∧
      t.log.shards.all (fun y => decide (64 ≤ y.num) || !y.owned) = true)) ∧
  (∀ (shard time seq : Nat) (s : State), s.pair.mode = .paired → shard < 64 → nextMove s ≠ some shard → (shardAt s shard).owned = false →
    homedHere s shard = true →
    Completes (.shardHandover shard time seq) s (fun t => (shardAt t shard).owned = true ∧ (shardAt t shard).ready = true ∧
      (shardAt t shard).last = (if (shardAt s shard).last.lt { time := time, seq := seq }
      then { time := time, seq := seq } else (shardAt s shard).last) ∧ t.pair = s.pair)) ∧
  (∀ (num : Nat) (capsule : Instr) (c : HostCmd) (s : State), hostCmd (shiftCtx capsule) = some c → s.pair.mode = .paired →
    (ctxAt s c.ctx).isSome = true → s.pst.mode = .run → s.pst.entering = none → admitsNow s false c = true →
    exec (.forwardedCommand num capsule) s = .next (takeAndPerform (shiftCtx capsule) (now s) s)) ∧
  (∀ (num time seq : Nat) (status : Status) (extents : List (Nat × Nat)) (data : Bytes) (f : Forwarded) (c : HostCmd) (s : State),
    s.pair.forwarded.find? (fun y => y.num == num) = some f → hostCmd f.cmd = some c → s.pst.mode = .run → s.pst.entering = none →
    Completes (.forwardReply num status time seq extents data) s (fun t => t.pair.forwarded.any (fun y => y.num == num) = false))

/-- The hold's count and the block mover (16 R405 to R414). A visit marks an ownerless cell, frees it the second time, and moves on; a
pass with no cell left recomputes the counters; a burst in hand is written and its descriptor ends with the last; a fault marks the
channel's descriptor, which takes it at a burst boundary. -/
def Obligations.CoilAndMoverComplete : Prop :=
  (∀ (cell : Nat) (y : Cell) (s : State), cell < holdCells → s.hold.next ≤ cell →
    s.hold.cells.any (fun z => decide (s.hold.next ≤ z.num) && decide (z.num < cell)) = false →
    s.hold.cells.find? (fun z => z.num == cell) = some y → ownerLive s y.owner = true ∨ y.orphaned = false →
    exec (.coilCountVisit cell) s = .next { s with hold := { s.hold with passing := true, next := cell + 1, cells := mapIf (fun z => z.num == cell) (fun z => { z with orphaned := !ownerLive s y.owner }) s.hold.cells } })
      ∧
  (∀ (cell : Nat) (y : Cell) (s : State), cell < holdCells → s.hold.next ≤ cell →
    s.hold.cells.any (fun z => decide (s.hold.next ≤ z.num) && decide (z.num < cell)) = false →
    s.hold.cells.find? (fun z => z.num == cell) = some y → ownerLive s y.owner = false → y.orphaned = true →
    exec (.coilCountVisit cell) s = .next (retryHold (raise stHOLD
      0 y.input (bumpFigure 0x04000028 1 { s with hold := { s.hold with passing := true, next := cell + 1, cells := dropIf (fun z => z.num == cell) s.hold.cells } }))))
      ∧
  (∀ (s : State), s.hold.passing = true → s.hold.cells.any (fun z => decide (s.hold.next ≤ z.num)) = false → wrongUses s = [] →
    exec .coilPassEnd s = .next (setFigure 0x04000024 ((figure s 0x04000024
      + 1) % 2 ^ 32) { s with hold := { s.hold with suspect := [], passing := false, next := 0 } })) ∧
  (∀ (ch : Nat) (d : MoveDesc) (s : State), ch < 64 → (channelAt s ch).ring.head? = some d → (channelAt s ch).running = true →
    (channelAt s ch).pipe.isSome = true → (channelAt s ch).aborting = false → (channelAt s ch).fault = none →
    (channelAt s ch).done + burstLen d (channelAt s ch).done < sideTotal d.srcLen d.srcCount →
    exec (.moverBurstComplete ch) s = .next (sharePipes (putChannel
      { channelAt s ch with done := (channelAt s ch).done + burstLen d (channelAt s ch).done, beats := 0, pipe := none }
      (moveBurst d (channelAt s ch).done (burstLen d (channelAt s ch).done) s)))) ∧
  (∀ (ch : Nat) (s : State), ch < 64 → (channelAt s ch).running = true →
    exec (.moverFault ch true) s = .next (sharePipes (takeAbort ch (putChannel { channelAt s ch with fault := some eEcc } s)))) ∧
  (∀ (ch : Nat) (s : State), ch < 64 → (channelAt s ch).running = true →
    exec (.moverFault ch false) s = .next (sharePipes (takeAbort ch (putChannel { channelAt s ch with fault := some eHoldFault } (raise
      stHOLD 4 noInst s)))))

/-- The last mailbox commands (19; 21 R505, R506; 05 R127, R141, R143). SLOT_POWER switches a slot on, or off where its drive is absent or
failed; UOP_RELAY runs a custodian's HOLD, STOPPER or VERIFY; UOP_RELEASE is the act of a reached quorum. -/
def Obligations.SlotPowerAndRelayComplete : Prop :=
  (∀ (c : Call) (slot : Byte) (k : Fin 24) (x : Conn) (s : State), Checked s c 0x0802 isCustOper x → slot.toNat = (k : Nat) →
    (feedAt s (.slot k)).state ≠ .latched → s.pst.drivesDown = false →
    Completes (.slotPower c slot 1) s (fun t => (feedAt t (.slot k)).enabled = true ∧ Answers c 0x0802 sOk [] t)) ∧
  (∀ (c : Call) (slot : Byte) (k : Fin 24) (x : Conn) (s : State), Checked s c 0x0802 isCustOper x → slot.toNat = (k : Nat) →
    (feedAt s (.slot k)).state ≠ .latched → s.pst.drivesDown = false → (memberAt s k).state = .absent ∨ (memberAt s k).state = .failed →
    Completes (.slotPower c slot 0) s (fun t => (feedAt t (.slot k)).enabled = false ∧ (feedAt t (.slot k)).pg = false ∧
      Answers c 0x0802 sOk [] t)) ∧
  (∀ (c : Call) (cap : Capsule) (b : RelayBody) (x : Conn) (s : State), Checked s c 0x0A01 isCustodian x → s.pst.drivesDown = false →
    (hostCmd (.uopRelay c cap b)).any (fun k => mutationWaits (holdTag c (afterChecks s c x)) k || walkWaits (holdTag c (afterChecks s c
    x)) k) = false →
    Completes (.uopRelay c cap b) s (fun t => t = { runRelay x c cap b (now s) (holdTag c (afterChecks s c x)) with pst := t.pst })) ∧
  (∀ (c : Call) (cap : Capsule) (x : Conn) (s : State), Checked s c 0x0A01 isCustodian x → cap.hdr.opcode = 0x40 →
    s.pst.drivesDown = false → (hostCmd (.uopRelay c cap .verify)).any (fun k => mutationWaits (holdTag c (afterChecks s c x)) k ||
    walkWaits (holdTag c (afterChecks s c x)) k) = false →
    checkVerify (relaySrc x c.tag (now s)) cap (holdTag c (afterChecks s c x)) = none →
    Completes (.uopRelay c cap .verify) s (fun t => t = { actVerify (relaySrc x c.tag (now s)) cap (holdTag c (afterChecks s c x)) with pst := t.pst }))
      ∧
  (∀ (c : Call) (id : Digest) (cap : Capsule) (b : RelBody) (x : Conn) (m : Ceremony) (s : State), Checked s c 0x0A03 isCustodian x →
    QuorumMet s (.uopRelease cap b) id m → s.pst.drivesDown = false →
    Completes (.uopRelease c (.ceremony id) cap b) s (fun t => t =
      { actRelease cap b (quorumCtx (afterChecks s c x) c 0x0A03 m) (closeCeremony m.id (afterChecks s c x)) with pst := t.pst }))

/-- The start-up sequence (24 R534 to R539, Table 24.1). The input in its window begins it; a phase that runs and ends lets the next
begin; a phase past its budget takes its failure action; and service opens without a lock once TS_LOCK_WAIT is over and everything else
is ready. -/
def Obligations.StartUpPhasesComplete : Prop :=
  (∀ (mv : Nat) (s : State), s.pwr.socOn = false → insideWindow s .input mv = true → s.pwr.belay = none → s.pwr.input.state = .off →
    s.pwr.input.present = true → s.pwr.input.enabled = true →
    Completes (.powerOn mv) s (fun t => t.pwr.input.state = .insert ∧ t.pwr.sensed = mv ∧ phaseAt t 1 = .running s.time.ticks ∧
      t.boot.open_ = false ∧ t.boot.halted = none)) ∧
  (∀ (r : PhaseIn) (s : State), phaseRuns s 1 = true → s.boot.halted = none → s.pwr.input.state = .good →
    exec (.startupPhaseEnd 1 r) s = .next (startPhase 2 (setPhase 1 .done s))) ∧
  (∀ (r : PhaseIn) (s : State), phaseRuns s 2 = true → s.boot.halted = none → stagedImage s = none → r.ok = true → s.auth.fusedSvn ≤ r.svn →
    Completes (.startupPhaseEnd 2 r) s (fun t => t.auth.runningSvn = r.svn ∧
      t.boot.phases = (s.boot.phases.set 1 .done).set 2 (.running s.time.ticks) ∧ t.boot.halted = none)) ∧
  (∀ (r : PhaseIn) (s : State), phaseRuns s 3 = true → s.boot.halted = none → r.ok = true →
    Completes (.startupPhaseEnd 3 r) s (fun t => t.auth.dramKey = s.auth.drawn ∧ t.auth.drawn = s.auth.drawn + 1 ∧
      t.boot.phases = (s.boot.phases.set 2 .done).set 3 (.running s.time.ticks))) ∧
  (∀ (r : PhaseIn) (s : State), phaseRuns s 4 = true → s.boot.halted = none → r.ok = true →
    Completes (.startupPhaseEnd 4 r) s (fun t => t.time.shelf = s.time.vault ∧ t.time.mono = s.time.mono ∧
      t.time.custody = s.time.vault ∧ t.time.mode = .freerun ∧ t.time.anchor = .unanchored ∧ t.pwr.capacity = r.capacity ∧
      t.log.image = (s.log.image && r.image) ∧ t.pair.isB = r.posB)) ∧
  (∀ (r : PhaseIn) (s : State), phaseRuns s 5 = true → s.boot.halted = none →
    exec (.startupPhaseEnd 5 r) s = .next (configDone r (setPhase 5 .done s))) ∧
  (∀ (r : PhaseIn) (s : State), phaseRuns s 6 = true → s.boot.halted = none →
    exec (.startupPhaseEnd 6 r) s = .next (resumeForming (drivesDone s))) ∧
  (∀ (r : PhaseIn) (s : State), phaseRuns s 7 = true → s.boot.halted = none →
    exec (.startupPhaseEnd 7 r) s = .next (resumeForming (pairDone s))) ∧
  (∀ (r : PhaseIn) (s : State), phaseRuns s 9 = true → s.boot.halted = none →
    exec (.startupPhaseEnd 9 r) s = .next (keysDone r.keyHeld s)) ∧
  (∀ (r : PhaseIn) (s : State), phaseRuns s 10 = true → s.boot.halted = none →
    exec (.startupPhaseEnd 10 r) s = .next (recoveryDone s)) ∧
  (∀ (r : PhaseIn) (s : State), phaseRuns s 8 = true → s.boot.halted = none →
    exec (.startupPhaseEnd 8 r) s = .next (setPhase 8 .done s)) ∧
  (∀ (r : PhaseIn) (s : State), phaseRuns s 11 = true → s.boot.halted = none → shelfMode s = .locked →
    exec (.startupPhaseEnd 11 r) s = .next (tryOpen (setPhase 11 .done s))) ∧
  (∀ (p n : Nat) (s : State), phaseAt s p = .running n → ticked s n (phaseBudget s p) = true → s.boot.halted = none → p = 2 ∨ p = 3 ∨
    p = 4 →
    exec (.startupBudgetExpiry p) s = .next (haltAs (if p = 2 then .noImage else if p = 3 then .dram else .vault) (setPhase p .failed
      s))) ∧
  (∀ (n : Nat) (s : State), phaseAt s 6 = .running n → ticked s n 35000000000 = true → s.boot.halted = none →
    exec (.startupBudgetExpiry 6) s = .next (resumeForming (drivesDone s))) ∧
  (∀ (n : Nat) (s : State), phaseAt s 7 = .running n → ticked s n 10000000000 = true → s.boot.halted = none →
    exec (.startupBudgetExpiry 7) s = .next (resumeForming (pairDone s))) ∧
  (∀ (n : Nat) (s : State), phaseAt s 9 = .running n → ticked s n 200000000 = true → s.boot.halted = none →
    exec (.startupBudgetExpiry 9) s = .next (keysDone false s)) ∧
  (∀ (n : Nat) (s : State), phaseAt s 10 = .running n → ticked s n 30000000000 = true → s.boot.halted = none →
    exec (.startupBudgetExpiry 10) s = .next (raise stIDX 2 noInst s)) ∧
  (∀ (n : Nat) (s : State), phaseAt s 11 = .running n → ticked s n (pTsLockWait s * 1000000) = true → s.boot.halted = none →
    exec (.startupBudgetExpiry 11) s = .next (tryOpen (setPhase 11 .failed { s with boot := { s.boot with lockWaited := true } }))) ∧
  (∀ (n : Nat) (s : State), phaseAt s 8 = .running n → ticked s n 1000000000 = true → s.boot.halted = none →
    exec (.startupBudgetExpiry 8) s = .next (setPhase 8 .failed s)) ∧
  (∀ (n : Nat) (s : State), phaseAt s 11 = .running n → ticked s n (pTsLockWait s * 1000000) = true →
    exec .lockWaitExpiry s = .next (tryOpen (setPhase 11 .done { s with boot := { s.boot with lockWaited := true } })))

/-- The module pair's link and its watch over the partner (18 R441 to R451; 03 R72). A good handshake brings the link up in the state that
R444 gives; heartbeats are sent and heard; the lease lapses without acknowledgements; silence or a dying message detects a failure; B's
deferred fence begins at its instant; a follower steps to the leader's time before service and slews to it after, and an offset
above 50 ns sets TS_STATUS bit 5; a state message is applied. -/
def Obligations.PairLinkAndHeartbeatsComplete : Prop :=
  (∀ (peer : PeerIn) (s : State), s.pair.pairShelf = true → s.pair.lanes = 0 → handshakeOk s peer = true →
    exec (.pairLinkUp peer) s = .next (shake peer s)) ∧
  (∀ (peer : PeerIn) (s : State), s.pair.pairShelf = true → s.pair.lanes = 0 → handshakeOk s peer = false →
    Completes (.pairLinkUp peer) s (fun t => t.pair.lanes = 8 ∧ t.pair.mode = (if s.pair.mode = .alone then .alone else .handshake) ∧
      (statusWord t stPAIR).testBit 2 = true ∧ t.auth = s.auth)) ∧
  (∀ (s : State), 0 < s.pair.lanes → s.pair.isB = false → s.pair.yielded = false →
    exec .pairLinkDown s = .next { s with pair := { s.pair with lanes := 0, linkKey := none, downs := min 255 (s.pair.downs + 1) } }) ∧
  (∀ (s : State), s.pair.lanes = 8 →
    Completes .pairLaneFail s (fun t => t.pair.lanes = 4 ∧ t.pair.mode = s.pair.mode ∧ (statusWord t stPAIR).testBit 3 = true)) ∧
  (∀ (s : State), s.pair.pairShelf = true → s.pair.beatAt + pPairHbInterval s * usU ≤ mono s → 0 < s.pair.lanes → s.pwr.belay = none →
    Completes .pairHeartbeatSend s (fun t => t.pair.beatAt = mono s ∧ msg .pair .heartbeat 6 0 0 (beatFlds s) ∈ t.out ∧
      t.pair.heard = s.pair.heard)) ∧
  (∀ (tether ack : Bool) (stamp power : Nat) (s : State), s.pair.pairShelf = true →
    Completes (.pairHeartbeat tether ack stamp power) s (fun t => t.pair.heard = mono s ∧
      t.pair.heardTether = (if tether then mono s else s.pair.heardTether) ∧ t.pst.partner = powerOf power)) ∧
  (∀ (s : State), confirmed s s.pair.heard (hbMiss s) = true → s.pair.mode = .paired → s.pst.mode = .run →
    s.pst.entering = none →
    exec .pairHeartbeatMiss s = .next (detectFailure s)) ∧
  (∀ (s : State), s.pair.mode = .paired → s.pst.mode = .run → s.pst.entering = none → s.pair.detected = none → s.pair.isB = true →
    Completes .dyingMessage s (fun t => t.pair.detected = some (mono s) ∧ t.pair.deferTo = some (mono s + 2000 * usU) ∧ t.pair.won = [] ∧
      t.pair.lost = [])) ∧
  (∀ (s : State), s.pair.mode = .paired → s.pair.leaseHeld = true → s.pair.leaseAck.all (fun a => decide (a + (pPairHbMiss s - 2)
    * msU ≤ now s)) = true →
    Completes .leaseLapse s (fun t => t.pair.leaseHeld = false ∧ t.pair.mode = .paired ∧ (statusWord t stPAIR).testBit 4 = true)) ∧
  (∀ (n : Nat) (s : State), s.pair.deferTo = some n → confirmed s n 0 = true →
    exec .fenceDeferExpiry s = .next (fenceNext { s with pair := { s.pair with deferTo := none } })) ∧
  (∀ (s : State), s.pair.mode = .paired → 0 < s.pair.lanes →
    exec .tetherYield s = .next { s with pair := { s.pair with yielded := true } }) ∧
  (∀ (offset : Int) (mode : Fin 4) (s : State), s.time.follower = true → 0 < s.pair.lanes → s.boot.open_ = true → offset.natAbs ≤ 50 →
    exec (.pairTimeMessage offset mode) s = .next { s with time := { s.time with pairOffset := offset, leadMode := tsModeOf mode, slewLeft := -(offset * (nsU : Int)) } })
      ∧
  (∀ (offset : Int) (mode : Fin 4) (s : State), s.time.follower = true → 0 < s.pair.lanes → s.boot.open_ = false →
    exec (.pairTimeMessage offset mode) s = .next (tryOpen { s with time := { s.time with pairOffset := 0, leadMode := tsModeOf mode, aligned := true, shelf := ((s.time.shelf : Int) - offset * (nsU : Int)).toNat } }))
      ∧
  (∀ (offset : Int) (mode : Fin 4) (s : State), s.time.follower = false → 0 < s.pair.lanes → s.boot.open_ = true → 50 < offset.natAbs →
    Completes (.pairTimeMessage offset mode) s (fun t => t.time = { s.time with pairOffset := offset } ∧
      (statusWord t stTS).testBit 5 = true)) ∧
  (∀ (state : PairState) (s : State), s.pair.pairShelf = true → 0 < s.pair.lanes → s.pst.mode = .run → s.pst.entering = none →
    exec (.pairStateMessage state) s = .next (applyPairState state s))

/-- The mirror stream of a pair (18 R445, R446; 07 R201). The record that follows the last received is stored and its number acknowledged
with the room left; an acknowledgement takes the covered records from those outstanding and gives the partner's room. -/
def Obligations.MirrorStreamComplete : Prop :=
  (∀ (num kind shard seq time sub bytes ctx tag addr : Nat) (data : Bytes) (capsule : Instr) (s : State), 0 < s.pair.lanes →
    s.pair.mode = .paired ∨ s.pair.mode = .rejoining → num = s.pair.recvNum + 1 → kind ≠ 5 →
    Completes (.mirrorRecord num kind shard seq time sub bytes ctx tag addr data capsule) s (fun t => t.pair.recvNum = num ∧
      t.pair.mirror = s.pair.mirror ++ [{ num := num, kind := kind, shard := shard, seq := seq, stamp := { time := time, seq := sub }, bytes := bytes, ctx := ctx, tag := tag, addr := addr, data := data, cmd := if kind = 1 then some capsule else none }]))
      ∧
  (∀ (num room : Nat) (s : State),
    exec (.mirrorAck num room) s = .next (let a : State := { s with pair := { s.pair with unacked := s.pair.unacked.filter (fun r => decide (num < r.num)), room := room }, log := { s.log with splice := mapIf (fun e => (s.pair.unacked.filter (fun r => decide (r.num ≤ num))).any (fun r => r.kind == 2 && r.shard == e.shard && r.seq == e.seq)) (fun e => { e with mirrored := true }) s.log.splice } };
      settle (releaseAcks (((a.trn.ctxs.filter (fun c => c.outMsgs.any (fun o => o.queued))).map (fun c => c.num)).foldl (fun acc k =>
      pumpOut k acc) a))))

/-- The network ports (14 R356 to R370; 15 R384; 16 R397, R402). Each event on a MAC that exists, with its link and settings as the rule
asks, has the effect its rule gives; a MAC number above 31 names no unit of the module. -/
def Obligations.MacCommandsComplete : Prop :=
  (∀ (mac cls : Nat) (y : Xoff) (s : State), mac < 32 → (xoffAt s mac cls).filter (fun z => z.active) = some y →
    confirmed s y.since (pMacPauseWdog s mac * msU) = false → y.last + quantaNs s mac xoffQuanta * nsU / 2 ≤ mono s →
    exec (.xoffRefresh mac cls) s = .next (putXoff mac { y with last := mono s } (sendPause mac cls xoffQuanta s))) ∧
  (∀ (mac cls : Nat) (y : Xoff) (s : State), mac < 32 → (xoffAt s mac cls).filter (fun z => z.active) = some y →
    confirmed s y.since (pMacPauseWdog s mac * msU) = true →
    exec (.xoffRefresh mac cls) s = .next (raise stMAC 0 mac (putXoff
      mac { y with active := false, barred := some (mono s + pMacPauseIgnore s mac * msU) } s))) ∧
  (∀ (f : FrameIn) (m : Mac) (s : State), f.mac < 32 → macAt s f.mac = some m → m.linkUp = true → pMacCtrl0 s f.mac = 1 →
    s.pwr.socOn = true → s.pwr.belay = none → s.pst.mode ≠ .dormant →
    exec (.frameReceive f) s = .next (takeFrame f s)) ∧
  (∀ (mac who : Nat) (v6 : Bool) (target : BitVec 128) (s : State), mac < 32 → macAnswers s mac = true →
    answersFor s mac v6 target.toNat = true →
    exec (.arpRequest mac v6 target who) s = .next (transmit mac .control
      .shelf (classOf s mac) 86 (msg (.mac mac) .frame (if v6 then 0x86DD else 0x0806) 2 0 [(6, who), (6, stationOf s mac), (16,
      target.toNat)]) s)) ∧
  (∀ (mac who : Nat) (v6 : Bool) (data : Bytes) (m : Mac) (s : State), mac < 32 → macAt s mac = some m → macAnswers s mac = true →
    mono s < m.echoAt + secU → m.echoes < 100 → data.length + 70 ≤ pMacFrameMax s mac →
    exec (.icmpEcho mac v6 who data) s = .next (transmit mac .fair
      .shelf (classOf s mac) (data.length + 70) { port := .mac mac, kind := .frame, op := if v6 then 129 else 0, tag := 0, status := 0, body := [(6, who), (6, stationOf s mac)], data := data }
      (putMac { m with echoes := m.echoes + 1 } s))) ∧
  (∀ (mac tenant : Nat) (q : Quiet) (m : Mac) (s : State), mac < 32 → quietOf s tenant = some q → q.item.macs.getLsbD mac = true →
    macAnswers s mac = true → macAt s mac = some m → q.item.ipVer = 6 →
    exec (.neighbourRefresh mac tenant) s = .next (sendNeighbour mac 1 true (2 ^ 48 - 1) (if q.item.sink.toNat / 2 ^ (128 - pMacIpv6Prefix
      s mac) = ownAddress s mac true / 2 ^ (128 - pMacIpv6Prefix s mac) then q.item.sink.toNat else wide128 s (0x02001050 + 256 * mac))
      (putMac { m with sinkAt := some (mono s) } s))) ∧
  (∀ (mac tenant : Nat) (q : Quiet) (m : Mac) (s : State), mac < 32 → quietOf s tenant = some q → q.item.macs.getLsbD mac = true →
    macAnswers s mac = true → macAt s mac = some m → q.item.ipVer ≠ 6 →
    exec (.neighbourRefresh mac tenant) s = .next (sendNeighbour mac 1 false (2 ^ 48 - 1) (if q.item.sink.toNat / 2 ^ (32 - pMacIpv4Prefix
      s mac) = ownAddress s mac false / 2 ^ (32 - pMacIpv4Prefix s mac) then q.item.sink.toNat else pMacIpv4Gw s mac)
      (putMac { m with sinkAt := some (mono s) } s))) ∧
  (∀ (mac : Nat) (m : Mac) (s : State), mac < 32 → macAt s mac = some m → m.linkUp = false → cageCarries s (mac / 8) = true →
    pMacCtrl0 s mac = 1 → s.pwr.socOn = true → s.pst.mode ≠ .dormant →
    exec (.linkUp mac) s = .next (pumpMac mac (sendNeighbour mac 2 true (2 ^ 48 - 1) (ownAddress s mac true) (sendNeighbour mac 2
      false (2 ^ 48 - 1) (ownAddress s mac false) (putMac { m with linkUp := true } s))))) ∧
  (∀ (mac : Nat) (m : Mac) (s : State), mac < 32 → macAt s mac = some m → m.linkUp = true → s.pst.mode ≠ .dormant →
    Completes (.linkDown mac) s (fun t => macAt t mac = some { m with linkUp := false, sending := none, pauses := [], xoffs := [] } ∧
      figure t (0x02001004 + 256 * mac) = min 255 (figure s (0x02001004 + 256 * mac) + 1))) ∧
  (∀ (port media cls : Nat) (s : State), port < 4 → media = 1 ∨ media = 2 ∨ (media = 3 ∧ cls ≤ 16) →
    exec (.opticInsert port media cls) s = .next { s with net := { s.net with cages := s.net.cages.set port { media := media, present := true, powered := true, cls := cls } } })
      ∧
  (∀ (port cls : Nat) (s : State), port < 4 → 16 < cls →
    exec (.opticInsert port 3 cls) s = .next (raise stMAC 1 (8 * port) (restartPort port { s with net := { s.net with cages := s.net.cages.set port { media := 3, present := true, powered := false, cls := cls } } })))
      ∧
  (∀ (port cls : Nat) (s : State), port < 4 →
    exec (.opticInsert port 0 cls) s = .next (restartPort port { s with net := { s.net with cages := s.net.cages.set port { media := 0, present := false, powered := false, cls := cls } } }))
      ∧
  (∀ (mac : Nat) (pfc : Bool) (prios : List (Nat × Nat)) (m : Mac) (s : State), mac < 32 → macAt s mac = some m → m.linkUp = true →
    pMacCtrl4 s mac ≠ (if pfc then 2 else 1) →
    exec (.pauseFrame mac pfc prios) s = .next (bumpFigure (0x020010F8 + 256 * mac) 1 s)) ∧
  (∀ (mac : Nat) (prios : List (Nat × Nat)) (m : Mac) (s : State), mac < 32 → macAt s mac = some m → m.linkUp = true →
    pMacCtrl4 s mac = 2 →
    exec (.pauseFrame mac true prios) s = .next (pumpMac mac ((prios.filter (fun y => decide (y.1 < 8))).foldl (fun acc y => takePause mac
      y.1 y.2 acc) (bumpFigure (0x020010F8 + 256 * mac) 1 s)))) ∧
  (∀ (mac prio n : Nat) (m : Mac) (s : State), mac < 32 → macAt s mac = some m → (pauseAt m prio).until_ = some n → n ≤ mono s →
    exec (.pauseExpiry mac prio) s = .next (pumpMac mac (putPause mac { pauseAt m prio with until_ := none, heldAt := none } s))) ∧
  (∀ (mac prio n k : Nat) (m : Mac) (s : State), mac < 32 → macAt s mac = some m → (pauseAt m prio).until_ = some n →
    (pauseAt m prio).heldAt = some k → confirmed s k (pMacPauseWdog s mac * msU) = true → k + pMacPauseWdog s mac * msU < n →
    exec (.pauseWatchdogTrip mac prio) s = .next (pumpMac mac (raise
      stMAC 0 mac (putPause mac { pauseAt m prio with until_ := none, heldAt := none, ignore := some (mono s + pMacPauseIgnore s mac * msU) }
      s)))) ∧
  (∀ (mac prio n : Nat) (m : Mac) (s : State), mac < 32 → macAt s mac = some m → (pauseAt m prio).ignore = some n → n ≤ mono s →
    exec (.pauseIgnoreEnd mac prio) s = .next (putPause mac { pauseAt m prio with ignore := none } s)) ∧
  (∀ (mac cls n : Nat) (m : Mac) (s : State), mac < 32 → macAt s mac = some m → m.sending = some (cls, n) →
    exec (.frameTransmitComplete mac) s = .next (pumpMac mac (endXoffs (readOut (fun f => (s.hold.frames.find? (fun g => g.output ==
      mac && g.cls == cls)).any (fun y => y.id == f.id)) (putMac { m with sending := none } s)))))

/-- The drive ports and the service endpoint (17 R417 to R437; 08 R213). Discovery follows a link that trains while a step is in hand; a
commit makes the shadow windows take effect; timeouts, quarantines and resets act on what is outstanding; the endpoint's link comes up
while it is enabled, a reset clears it and bus mastering sends what was held. -/
def Obligations.DrivePortEventsComplete : Prop :=
  (∀ (slot : Fin 24) (rate width n : Nat) (d : DriveFound) (s : State), (portAt s slot).step = some n → (portAt s slot).perstAt = none →
    d.nvme = true → d.ready = false →
    Completes (.driveLinkUp slot rate width d) s (fun t => (portAt t slot).linkUp = true ∧ (portAt t slot).rate = rate % 8 ∧
      (portAt t slot).step = some 3 ∧ (portAt t slot).stepAt = s.time.ticks ∧ (portAt t slot).cfgReads = [(3, mono s)] ∧
      (memberAt t slot).downSince = none)) ∧
  (∀ (slot : Fin 24) (k : Nat) (s : State), (portAt s slot).step = some k →
    (portAt s slot).stepAt + stepBudget (portAt s slot) k ≤ s.time.ticks →
    exec (.discoveryStepTimeout slot) s = .next (failDiscovery slot k s)) ∧
  (∀ (slot : Fin 24) (addr len : Nat) (relaxed : Bool) (y : Window) (s : State), (portAt s slot).linkUp = true →
    windowOf (portAt s slot) addr len = some y → y.canRead = true → apertureOpen (portAt s slot) y addr = true →
    exec (.driveMemoryRequest slot addr len false relaxed) s = .next (send (msg (.drive slot) .remoteRead 0 0 0 [(8, addr), (4, len), (1,
      if relaxed then 1 else 0)]) s)) ∧
  (∀ (slot : Fin 24) (addr len : Nat) (relaxed : Bool) (s : State), (portAt s slot).linkUp = true →
    windowOf (portAt s slot) addr len = none →
    exec (.driveMemoryRequest slot addr len true relaxed) s = .next (raise stDRV 3 slot (bumpFigure 0x06000020 1 s))) ∧
  (∀ (slot : Fin 24) (s : State),
    exec (.windowCommit slot) s = .next (putPort slot { portAt s slot with windows := (portAt s slot).shadow, commits := ((portAt s slot).commits + 1) % 65536, draining := (portAt s slot).draining || decide (0 < issuedCount (portAt s slot)) }
      s)) ∧
  (∀ (slot : Fin 24) (s : State),
    exec (.windowDrainEnd slot) s = .next (putPort slot { portAt s slot with draining := false } s)) ∧
  (∀ (slot : Fin 24) (tag : Nat) (c : DriveCmd) (s : State), (portAt s slot).cmds.find? (fun y => y.tag == tag && !y.queued) = some c →
    confirmed s c.issued c.timeout = true →
    exec (.driveTimeout slot tag) s = .next (timeoutCmd slot c s)) ∧
  (∀ (slot : Fin 24) (tag : Nat) (s : State),
    exec (.tagQuarantineEnd slot tag) s = .next (putPort slot { portAt s slot with quar := (portAt s slot).quar.filter (fun q => !(q.1 == tag && decide (q.2 ≤ mono s))) }
      s)) ∧
  (∀ (slot : Fin 24) (num : Nat) (r : Nat × Nat) (s : State), (portAt s slot).cfgReads.find? (fun y => y.1 == num) = some r →
    confirmed s r.2 (pDrvCplTimeout s * usU) = true →
    exec (.configReadTimeout slot num) s = .next (timeoutStrike slot
      (putPort slot { portAt s slot with cfgReads := (portAt s slot).cfgReads.erase r } s))) ∧
  (∀ (slot : Fin 24) (s : State), (portAt s slot).linkUp = true → (feedAt s (.slot slot)).present = true →
    exec (.driveLinkDown slot false) s = .next (resetPort slot (putMember
      slot { memberAt s slot with downSince := (memberAt s slot).downSince.or (some (mono s)) }
      (putPort slot { portAt s slot with downs := min 255 ((portAt s slot).downs + 1) } s)))) ∧
  (∀ (slot : Fin 24) (n : Nat) (s : State), (portAt s slot).perstAt = some n → confirmed s n (pDrvPerstTime s * usU) = true →
    exec (.perstPulseEnd slot) s = .next (startDiscovery slot 0 s)) ∧
  (∀ (slot : Fin 24) (n : Nat) (s : State), (memberAt s slot).downSince = some n → (portAt s slot).linkUp = false →
    confirmed s n secU = true →
    exec (.driveLinkDownTimeout slot) s = .next (failMember slot s)) ∧
  (∀ (rate width : Nat) (s : State), pSepCtrl s = 1 → s.pwr.socOn = true →
    exec (.sepLinkUp rate width) s = .next { s with sep := { s.sep with linkUp := true, rate := rate % 8, width := width % 8 } }) ∧
  (∀ (s : State),
    Completes .sepReset s (fun t => t.sep.linkUp = false ∧ t.sep.master = false ∧ t.sep.msixOn = false ∧ t.sep.masked = [] ∧
      figure t 0x07000010 = min 0xFFFFFFFF (figure s 0x07000010 + 1))) ∧
  (∀ (s : State), s.sep.linkUp = true →
    exec (.busMasterEnable true) s = .next (s.sep.pending.foldl (fun
      acc v => msix v acc) { s with sep := { s.sep with master := true, msixOn := true, pending := [] } })) ∧
  (∀ (s : State), s.sep.linkUp = true →
    exec (.busMasterEnable false) s = .next { s with sep := { s.sep with master := false } })

/-- The object commands that change what is stored (05 R131 to R135, R140, R144). A capsule on an open queue that is metered and admitted
as it arrives, and that passes its checks in the order of R120 and R123, has its command's effect from the state in which it took its
operation; what a drive's use leaves in the power state is its own instant. -/
def Obligations.ObjectWritesComplete : Prop :=
  (∀ (q : Nat) (cap : Capsule) (b : PutBody) (c : HostCmd) (s : State), TakenUp s (.put q cap b) c →
    checkPut (srcOf s (.put q cap b) c) cap b (taken s (.put q cap b) c) = none →
    Completes (.put q cap b) s (fun t => Ran t (actPut (srcOf s (.put q cap b) c) cap b (taken s (.put q cap b) c)))) ∧
  (∀ (q : Nat) (cap : Capsule) (b : PartBody) (c : HostCmd) (s : State), TakenUp s (.putPart q cap b) c →
    checkPutPart (srcOf s (.putPart q cap b) c) cap b (restartIdle (srcOf s (.putPart q cap b) c) cap (taken s (.putPart q cap b)
    c)) = none →
    Completes (.putPart q cap b) s (fun t => Ran t (actPutPart (srcOf s (.putPart q cap b) c) cap b (restartIdle (srcOf s (.putPart
      q cap b) c) cap (taken s (.putPart q cap b) c))))) ∧
  (∀ (q : Nat) (cap : Capsule) (c : HostCmd) (s : State), TakenUp s (.putAbort q cap) c →
    checkPutAbort (srcOf s (.putAbort q cap) c) cap (taken s (.putAbort q cap) c) = none →
    Completes (.putAbort q cap) s (fun t => Ran t (actPutAbort (srcOf s (.putAbort q cap) c) cap (taken s (.putAbort q cap) c)))) ∧
  (∀ (q : Nat) (cap : Capsule) (b : SealBody) (c : HostCmd) (s : State), TakenUp s (.sealObject q cap b) c →
    checkSeal (srcOf s (.sealObject q cap b) c) cap b (restartIdle (srcOf s (.sealObject q cap b) c) cap (taken s (.sealObject q
    cap b) c)) = none →
    Completes (.sealObject q cap b) s (fun t => Ran t (actSeal (srcOf s (.sealObject q cap b) c) cap b (restartIdle (srcOf s (.sealObject
      q cap b) c) cap (taken s (.sealObject q cap b) c))))) ∧
  (∀ (q : Nat) (cap : Capsule) (c : HostCmd) (s : State), TakenUp s (.delete q cap) c →
    checkDelete (srcOf s (.delete q cap) c) cap (meetLocks (srcOf s (.delete q cap) c) cap (checkDelete (srcOf s (.delete q cap)
    c) cap) (taken s (.delete q cap) c)) = none →
    Completes (.delete q cap) s (fun t => Ran t (actDelete (srcOf s (.delete q cap) c) cap (meetLocks (srcOf s (.delete q cap) c)
      cap (checkDelete (srcOf s (.delete q cap) c) cap) (taken s (.delete q cap) c))))) ∧
  (∀ (q : Nat) (cap : Capsule) (b : CopyBody) (c : HostCmd) (s : State), TakenUp s (.copy q cap b) c →
    checkCopy (srcOf s (.copy q cap b) c) cap b (taken s (.copy q cap b) c) = none →
    Completes (.copy q cap b) s (fun t => Ran t (actCopy (srcOf s (.copy q cap b) c) cap b (taken s (.copy q cap b) c))))

/-- The object commands that read, verify and lock (05 R127, R136 to R143). A capsule that is admitted as it arrives and passes its checks
has its command's effect; RELEASE on a queue is issued only as a quorum act, and a well-formed one is answered E_NOT_VISIBLE like an
object that is not there. -/
def Obligations.ObjectReadsComplete : Prop :=
  (∀ (q : Nat) (cap : Capsule) (b : GetBody) (c : HostCmd) (s : State), TakenUp s (.get q cap b) c →
    checkGetHead (srcOf s (.get q cap b) c) cap b (taken s (.get q cap b) c) = none →
    Completes (.get q cap b) s (fun t => Ran t (actGet (srcOf s (.get q cap b) c) q cap b (taken s (.get q cap b) c)))) ∧
  (∀ (q : Nat) (cap : Capsule) (c : HostCmd) (s : State), TakenUp s (.head q cap) c →
    checkHead (srcOf s (.head q cap) c) cap (taken s (.head q cap) c) = none →
    Completes (.head q cap) s (fun t => Ran t (actHead (srcOf s (.head q cap) c) cap (taken s (.head q cap) c)))) ∧
  (∀ (q : Nat) (cap : Capsule) (b : ListBody) (c : HostCmd) (s : State), TakenUp s (.list q cap b) c →
    checkList (srcOf s (.list q cap b) c) cap b (taken s (.list q cap b) c) = none →
    Completes (.list q cap b) s (fun t => Ran t (actList (srcOf s (.list q cap b) c) cap b (taken s (.list q cap b) c)))) ∧
  (∀ (q : Nat) (cap : Capsule) (c : HostCmd) (s : State), TakenUp s (.verify q cap) c →
    checkVerify (srcOf s (.verify q cap) c) cap (taken s (.verify q cap) c) = none →
    Completes (.verify q cap) s (fun t => Ran t (actVerify (srcOf s (.verify q cap) c) cap (taken s (.verify q cap) c)))) ∧
  (∀ (q : Nat) (cap : Capsule) (b : LockBody) (c : HostCmd) (s : State), TakenUp s (.hold q cap b) c →
    checkHold (srcOf s (.hold q cap b) c) cap b (meetLocks (srcOf s (.hold q cap b) c) cap (checkHold (srcOf s (.hold q cap b) c)
    cap b) (taken s (.hold q cap b) c)) = none →
    Completes (.hold q cap b) s (fun t => Ran t (actHold (srcOf s (.hold q cap b) c) cap b (meetLocks (srcOf s (.hold q cap b) c)
      cap (checkHold (srcOf s (.hold q cap b) c) cap b) (taken s (.hold q cap b) c))))) ∧
  (∀ (q : Nat) (cap : Capsule) (b : LockBody) (c : HostCmd) (s : State), TakenUp s (.stopper q cap b) c →
    checkStopper (srcOf s (.stopper q cap b) c) cap b (meetLocks (srcOf s (.stopper q cap b) c) cap (checkStopper (srcOf s (.stopper q
    cap b) c) cap b) (taken s (.stopper q cap b) c)) = none →
    Completes (.stopper q cap b) s (fun t => Ran t (actStopper (srcOf s (.stopper q cap b) c) cap b (meetLocks (srcOf s (.stopper q
      cap b) c) cap (checkStopper (srcOf s (.stopper q cap b) c) cap b) (taken s (.stopper q cap b) c))))) ∧
  (∀ (q : Nat) (cap : Capsule) (b : RelBody) (c : HostCmd) (s : State), TakenUp s (.release q cap b) c → checkReleaseForm cap b = none →
    Completes (.release q cap b) s (fun t => Ran t (refuseUop (srcOf s (.release q cap b) c) cap (eNotVisible,
      []) (taken s (.release q cap b) c))))

/-- The commands that make and end collections (05 R129, R130), and the expiry of an open object and the sweep of locks (05 R135, R142).
-/
def Obligations.CollectionCommandsComplete : Prop :=
  (∀ (q : Nat) (cap : Capsule) (b : CollBody) (c : HostCmd) (s : State), TakenUp s (.collCreate q cap b) c →
    checkCollCreate (srcOf s (.collCreate q cap b) c) cap b (taken s (.collCreate q cap b) c) = none →
    Completes (.collCreate q cap b) s (fun t => Ran t (actCollCreate (srcOf s (.collCreate q cap b) c) cap b (taken s (.collCreate
      q cap b) c)))) ∧
  (∀ (q : Nat) (cap : Capsule) (c : HostCmd) (s : State), TakenUp s (.collDelete q cap) c →
    checkCollDelete (srcOf s (.collDelete q cap) c) cap (meetLocks (srcOf s (.collDelete q cap) c) cap (checkCollDelete (srcOf s
    (.collDelete q cap) c) cap) (taken s (.collDelete q cap) c)) = none →
    Completes (.collDelete q cap) s (fun t => Ran t (actCollDelete (srcOf s (.collDelete q cap) c) cap (meetLocks (srcOf s (.collDelete
      q cap) c) cap (checkCollDelete (srcOf s (.collDelete q cap) c) cap) (taken s (.collDelete q cap) c))))) ∧
  (∀ (handle : Word64) (o : Obj) (k : Coll) (s : State), s.obj.objs.find? (fun y => y.whip.isNone && y.handle == handle) = some o →
    collAt s o.coll = some k → idleWaits s o = false → confirmedShelf s (o.lastUse + pIdxOpenIdle s * secU) = true →
    exec (.openIdleExpiry handle) s = .next ((abortObj k o 2 s).2)) ∧
  (∀ s : State,
    exec .lockSweep s = .next (expireAll s))

/-- The Myavo link (11 R282 to R285, R298; 12 R323). A message that its session, its header and its sequence let in acts on the hitch that
has heard it: a HELLO that passes takes the session; SCOPE on the target creates the collections and answers; COLL_MAP and RESUME let
the hitch stream; a heartbeat whose stamp disagrees suspends it. The source end without a session begins a setup, proves itself and
sends HELLO. -/
def Obligations.HitchLinkCommandsComplete : Prop :=
  (∀ (m : Myavo) (a : HelloIn) (c : Ctx) (h : Hitch) (s : State), peerSession s m = some c → hitchAt s m.id = some h → m.known = true →
    m.rsv = 0 → h.received < m.seq → hitchLive h = true → helloOk h a = true →
    exec (.hello m a) s = .next (takeHello m a c h s)) ∧
  (∀ (m : Myavo) (entries : List ScopeIn) (c : Ctx) (h : Hitch) (s : State), MessageTaken s m c h → h.source = false → h.collMap = [] →
    (geomUnder s.layers.service h.record.geometry.toNat).isSome = true → membersFull (heardOf s m h) = true →
    quotaHolds (heardOf s m h) (hearing s m h) entries = true →
    exec (.scope m entries) s = .next (streamOrWait h.record.id (hitchVault
      h.record.id (sendMyavo h.record.id 0x03 (collMapFlds entries (((hitchAt
      (entries.foldl (fun acc y => createScoped (hearing s m h) y acc)
      (heardOf s m h)) h.record.id).map (fun y => y.collMap)).getD
      []) sOk) (entries.foldl (fun acc y => createScoped (hearing s m h) y acc) (heardOf s m h)))))) ∧
  (∀ (m : Myavo) (entries : List (Nat × Nat × Word16)) (c : Ctx) (h : Hitch) (s : State), MessageTaken s m c h → h.source = true →
    entries.any (fun e => e.2.2.toNat == eGeometry) = false → entries.any (fun e => e.2.2.toNat != sOk) = false →
    exec (.collMap m entries) s = .next (streamOrWait h.record.id
      (hitchVault h.record.id (mapHitch h.record.id (fun y => { y with collMap := entries.map (fun e => (e.1, e.2.1)) })
      (heardOf s m h))))) ∧
  (∀ (m : Myavo) (entries : List (Nat × Nat × Word16)) (c : Ctx) (h : Hitch) (s : State), MessageTaken s m c h → h.source = true →
    entries.any (fun e => e.2.2.toNat == eGeometry) = true →
    exec (.collMap m entries) s = .next (abortHitch h.record.id (heardOf s m h))) ∧
  (∀ (m : Myavo) (tenants : List (Nat × Nat)) (c : Ctx) (h : Hitch) (s : State), MessageTaken s m c h → h.source = true →
    exec (.resume m tenants) s = .next (pumpHitch h.record.id (streamOrWait
      h.record.id (putHitch (resumeSource tenants (hearing s m h)) (heardOf s m h))))) ∧
  (∀ (m : Myavo) (tenants : List (Nat × Nat)) (c : Ctx) (h : Hitch) (s : State), MessageTaken s m c h → h.source = false →
    exec (.resume m tenants) s = .next (streamOrWait h.record.id ((h.batches.filter
      (fun b => b.receipted && !b.acked)).foldl (fun acc b => sendReceipt h.record.id b.tenant b.number acc) (mapHitch h.record.id (fun
      y => { y with batches := dropIf (fun b => !b.closed) y.batches }) (dropArrivals h.record.id (heardOf s m h)))))) ∧
  (∀ (m : Myavo) (stamp : StampIn) (c : Ctx) (h : Hitch) (s : State), MessageTaken s m c h →
    stampsAgree (heardOf s m h) stamp = true → h.state ≠ .suspended →
    exec (.myavoHeartbeat m stamp) s = .next (mapHitch h.record.id (fun y => { y with timeBad := false }) (heardOf s m h))) ∧
  (∀ (m : Myavo) (stamp : StampIn) (c : Ctx) (h : Hitch) (s : State), MessageTaken s m c h →
    stampsAgree (heardOf s m h) stamp = false →
    exec (.myavoHeartbeat m stamp) s = .next (waitSuspended h.record.id
      (mapHitch h.record.id (fun y => { y with timeBad := true }) (heardOf s m h)))) ∧
  (∀ (id : BitVec 128) (h : Hitch) (s : State), hitchAt s id = some h → h.ctx.isSome = true → h.hello = true →
    confirmed s h.beat secU = true →
    exec (.myavoHeartbeatSend id) s = .next (sendMyavo id 0x05 (kstampFlds (kstamp s)) (putHitch { h with beat := mono s } s))) ∧
  (∀ (id : BitVec 128) (h : Hitch) (n : Nat) (s : State), hitchAt s id = some h → h.ctx = some n →
    confirmed s h.heard (10 * secU) = true →
    exec (.hitchSilenceTimeout id) s = .next (closeCtx eSession n s)) ∧
  (∀ (id : BitVec 128) (h : Hitch) (a : BitVec 128 × Nat) (s : State), hitchAt s id = some h → h.source = true → hitchLive h = true →
    h.away = false → h.ctx = none → taking s = true → custodySec s < h.record.notAfter → s.trn.setups.any (fun y => y.hitch == some id) = false →
    h.tried = 0 ∨ confirmed s h.tried (10 * secU) = true → peerAddress s h = some a →
    exec (.hitchSetupRetry id) s = .next (sendSetup (setupMac s) 0x10 (freeHandle s) sOk (initFlds (hitchInit id h a s).1)
      ((setupPackets 0x10 0 1 true none (encodeFlds (initFlds (hitchInit id h a s).1))).map (fun p => ((hitchInit id h a s).1.src, p)))
      { (hitchInit id h a s).2.2 with trn := { (hitchInit id h a s).2.2.trn with setups := s.trn.setups ++ [(hitchInit id h a s).2.1] } })) ∧
  (∀ (r : RespMsg) (x : Setup) (s : State), ownSetup s r.handle = some x → taking s = true → r.status = sOk → r.sigOk = true →
    exec (.setupResp r) s = .next (sendSetup x.mac 0x12 r.handle sOk (hitchAuth r x).1
      ((setupPackets 0x12 r.setup (max 2 (stamp48 s * 65536)) true (some (hitchAuth r x).2.1) (encodeFlds (hitchAuth r x).1)).map
        (fun p => (x.src, p)))
      { s with trn := { s.trn with setups := mapIf (fun z => z.handle == r.handle && z.initiator) (fun _ => (hitchAuth r x).2.2) s.trn.setups } })) ∧
  (∀ (handle ctx : Nat) (id : BitVec 128) (x : Setup) (h : Hitch) (s : State), ownSetup s handle = some x → taking s = true →
    x.hitch = some id → hitchAt s id = some h → h.ctx = none → hitchLive h = true →
    setupLimit (dropSetup handle s) (.bryndle 3) (.peer h.record.id) = none →
    exec (.setupDone handle sOk ctx) s = .next (sendHello h.record.id (mapHitch h.record.id
      (fun y => { y with ctx := some (hitchSession h.record.id ctx x (dropSetup handle s)).1, heard := mono (hitchSession h.record.id ctx x (dropSetup handle s)).2 })
      (hitchSession h.record.id ctx x (dropSetup handle s)).2)))

/-- The messages that move objects (11 R287 to R292, R295). On the target OBJ_BEGIN within its limits opens the object under the tenant's
own name key; OBJ_DATA joins the part in hand and the last byte of the object whips it; OBJ_ABORT ends the arrival; a lock crosses
unchanged; a deletion takes the copy unless a lock is in force. On the source CREDIT grants the slots of its bitmap. -/
def Obligations.HitchObjectMessagesComplete : Prop :=
  (∀ (m : Myavo) (b : ObjBegin) (k : Coll) (v : Tenant) (root : BitVec 512) (c : Ctx) (h : Hitch) (s : State), MessageTaken s m c h →
    h.source = false → h.state = .streaming → b.locks.length ≤ 17 → b.excerpts ≤ 64 → h.collMap.any (fun y => y == (b.srcColl,
    b.dstColl)) = true → b.stream ≠ 0 → b.stream ≤ h.record.streams.toNat → collAt s b.dstColl = some k → tenantAt s k.tenant = some v →
    v.root = some root → objAt s b.dstColl (nameMac root b.name) = none →
    exec (.objBegin m b) s = .next (recordObj k (arrivalOpen b (nameMac
      root b.name) (mapHitch h.record.id (fun y => { y with arrivals := dropIf (fun z => z.stream == b.stream) y.arrivals ++ [{ stream := b.stream, begin_ := b, mac := (nameMac root b.name), part := [], fate := 0, excerpts := [], rows := [] }] })
      (heardOf s m h))).1 (sequence k.shard (arrivalOpen b (nameMac root b.name) (mapHitch h.record.id (fun y =>
      { y with arrivals := dropIf (fun z => z.stream == b.stream) y.arrivals ++ [{ stream := b.stream, begin_ := b, mac := (nameMac root b.name), part := [], fate := 0, excerpts := [], rows := [] }] })
      (heardOf s m h))).2).1 (sequence k.shard (arrivalOpen b (nameMac root b.name) (mapHitch h.record.id (fun y =>
      { y with arrivals := dropIf (fun z => z.stream == b.stream) y.arrivals ++ [{ stream := b.stream, begin_ := b, mac := (nameMac root b.name), part := [], fate := 0, excerpts := [], rows := [] }] })
      (heardOf s m h))).2).2)) ∧
  (∀ (m : Myavo) (slot part offset : Nat) (data : Bytes) (a : Arrival) (c : Ctx) (h : Hitch) (s : State), MessageTaken s m c h →
    h.source = false → h.state = .streaming → m.stream ≠ 0 → slot < 256 → arrivalOn h m.stream = some a → a.fate = 0 →
    exec (.objData m slot part false false offset data) s = .next (putArrival h.record.id { a with part := a.part ++ data } (mapHitch
      h.record.id (fun y => { y with landed := y.landed ++ [(m.stream, slot)] }) (heardOf s m h)))) ∧
  (∀ (m : Myavo) (slot part offset : Nat) (data : Bytes) (a : Arrival) (c : Ctx) (h : Hitch) (s : State), MessageTaken s m c h →
    h.source = false → h.state = .streaming → m.stream ≠ 0 → slot < 256 → arrivalOn h m.stream = some a → a.fate = 0 →
    exec (.objData m slot part true true offset data) s = .next (whipArrival
      h.record.id (arrivalPart { a with part := a.part ++ data } part
      (mapHitch h.record.id (fun y => { y with landed := y.landed ++ [(m.stream, slot)] })
      (heardOf s m h))).1 (putArrival h.record.id (arrivalPart
      { a with part := a.part ++ data } part (mapHitch h.record.id (fun
      y => { y with landed := y.landed ++ [(m.stream, slot)] }) (heardOf s m h))).1 (arrivalPart { a with part := a.part ++ data }
      part (mapHitch h.record.id (fun y => { y with landed := y.landed ++ [(m.stream, slot)] }) (heardOf s m h))).2))) ∧
  (∀ (m : Myavo) (cause : Nat) (a : Arrival) (c : Ctx) (h : Hitch) (s : State), MessageTaken s m c h → h.source = false →
    arrivalOn h m.stream = some a →
    exec (.objAbort m cause) s = .next (endArrival h.record.id a (arrivalLine
      a (if cause = 1 then 3 else 6)) (undoArrival a (heardOf s m h)))) ∧
  (∀ (m : Myavo) (chain position : Nat) (entry : Bytes) (a : Arrival) (c : Ctx) (h : Hitch) (s : State), MessageTaken s m c h →
    (h.arrivals.filter (fun y => decide (y.excerpts.length < y.begin_.excerpts))).getLast? = some a →
    exec (.excerpt m chain position entry) s = .next (putArrival h.record.id
      { a with excerpts := a.excerpts ++ [(chain, position, entry)] } (heardOf s m h))) ∧
  (∀ (m : Myavo) (bytes : Bytes) (c : Ctx) (h : Hitch) (s : State), MessageTaken s m c h → h.source = false →
    exec (.checkpoint m bytes) s = .next (enter shelfChain 0x0063 noStamp [(16, h.record.id.toNat), (bytes.length,
      leValue bytes)] (heardOf s m h))) ∧
  (∀ (m : Myavo) (stream slots : Nat) (c : Ctx) (h : Hitch) (s : State), MessageTaken s m c h → h.source = true →
    exec (.credit m stream slots) s = .next (kickStream h.record.id
      stream (mapHitch h.record.id (fun y => { y with credits := y.credits ++ (((List.range 256).filter (fun k => slots.testBit k)).map (fun k => (stream, k))).filter (fun g => !y.credits.contains g) })
      (heardOf s m h)))) ∧
  (∀ (m : Myavo) (srcColl : Nat) (lock : LockIn) (d : Coll) (c : Ctx) (h : Hitch) (s : State), MessageTaken s m c h → h.source = false →
    (h.collMap.lookup srcColl).bind (collAt s) = some d →
    exec (.lockUpdate m srcColl none lock) s = .next (setCrossed d 0 none lock (heardOf s m h))) ∧
  (∀ (m : Myavo) (srcColl : Nat) (srcMac : Digest) (d : Coll) (o : Obj) (c : Ctx) (h : Hitch) (s : State), MessageTaken s m c h →
    h.source = false → crossedCopy (heardOf s m h) (hearing s m h) srcColl srcMac = some (d, o) →
    lockRefusal (meetExpiries d.num (some o.mac) (meetExpiries d.num none (heardOf s m h))) (bindingLocks (meetExpiries
    d.num (some o.mac) (meetExpiries d.num none (heardOf s m h))) d.num o.mac) = none →
    exec (.deleteNotice m srcColl srcMac) s = .next (enter d.tenant 0x0066 noStamp [(1, 1), (7, 0), (32, srcMac.toNat), (32,
      o.mac.toNat)] (mapHitch h.record.id (fun y => { y with delivered := dropIf (fun e => e.1 == d.num && e.2.1 == o.mac) y.delivered })
      (deleteObj d o (sequence d.shard (meetExpiries d.num (some o.mac)
      (meetExpiries d.num none (heardOf s m h)))).1 (sequence
      d.shard (meetExpiries d.num (some o.mac) (meetExpiries d.num none (heardOf s m h)))).2).2))) ∧
  (∀ (m : Myavo) (srcColl : Nat) (srcMac : Digest) (d : Coll) (o : Obj) (c : Ctx) (h : Hitch) (s : State), MessageTaken s m c h →
    h.source = false → crossedCopy (heardOf s m h) (hearing s m h) srcColl srcMac = some (d, o) →
    (lockRefusal (meetExpiries d.num (some o.mac) (meetExpiries d.num none (heardOf s m h))) (bindingLocks (meetExpiries
    d.num (some o.mac) (meetExpiries d.num none (heardOf s m h))) d.num o.mac)).isSome = true →
    exec (.deleteNotice m srcColl srcMac) s = .next (enter d.tenant 0x0066 noStamp [(1, 2), (7, 0), (32, srcMac.toNat), (32,
      o.mac.toNat)] (meetExpiries d.num (some o.mac) (meetExpiries d.num none (heardOf s m h)))))

/-- The quorum acts of a hitch, its passes and its end (11 R280, R281, R286, R293, R294, R300; 19 R470). HITCH_OPEN whose record passes
every check stands in OPENING; HITCH_CLOSE closes the scope collections to writes; HITCH_ABORT ends it; batches close, are receipted and
acknowledged; PASS_END and COMPLETE end the hitch with its Close entries. -/
def Obligations.HitchActsAndBatchesComplete : Prop :=
  (∀ (c : Call) (cid : Digest) (p : PairingRec) (x : Conn) (m : Ceremony) (s : State), Checked s c 0x0901 isCustodian x →
    QuorumMet s (.hitchOpen p) cid m → openRefusal s p = none → s.pst.drivesDown = false →
    Completes (.hitchOpen c (.ceremony cid) p) s (fun t => Acted t (qReply (quorumCtx (afterChecks s c x) c 0x0901 m) sOk [] (quorumDone
      (quorumCtx (afterChecks s c x) c 0x0901 m) shelfChain noStamp (hitchVault p.id (putHitch (newHitch p (isSource s p) (quorumCtx
      (afterChecks s c x) c 0x0901 m)) (enter shelfChain 0x0060 noStamp [(16, p.id.toNat), (1, if isSource s p then 1 else 2), (7, 0),
      (32, (Config.sha3 (encodeFlds (pairingFlds p))).toNat)] (closeCeremony m.id (afterChecks s c x))))))))) ∧
  (∀ (c : Call) (cid : Digest) (id : BitVec 128) (h : Hitch) (x : Conn) (m : Ceremony) (s : State), Checked s c 0x0902 isCustodian x →
    QuorumMet s (.hitchClose id) cid m → hitchAt s id = some h → h.source = true → h.state = .streaming → s.pst.drivesDown = false →
    Completes (.hitchClose c (.ceremony cid) id) s (fun t => Acted t (qReply (quorumCtx (afterChecks s c x) c 0x0902 m) sOk [] (quorumDone
      (quorumCtx (afterChecks s c x) c 0x0902 m) shelfChain noStamp
      (hitchVault id (mapHitch id (fun y => { y with state := .closing, closing := true })
      (changeBanks (h.record.scope.foldl (fun acc e => closeToWrites e.coll.toNat acc) (closeCeremony m.id (afterChecks s c x)))).2))))))
      ∧
  (∀ (c : Call) (cid : Digest) (id : BitVec 128) (h : Hitch) (x : Conn) (m : Ceremony) (s : State), Checked s c 0x0903 isCustodian x →
    QuorumMet s (.hitchAbort id) cid m → hitchAt s id = some h → hitchLive h = true → s.pst.drivesDown = false →
    Completes (.hitchAbort c (.ceremony cid) id) s (fun t => Acted t (qReply (quorumCtx (afterChecks s c x) c 0x0903 m) sOk [] (quorumDone
      (quorumCtx (afterChecks s c x) c 0x0903 m) shelfChain noStamp (hitchVault id (abortHitch id (closeCeremony m.id (afterChecks
      s c x)))))))) ∧
  (∀ (c : Call) (id : BitVec 128) (h : Hitch) (x : Conn) (s : State), Checked s c 0x0904 isCustodian x → hitchAt s id = some h →
    Completes (.hitchStatus c id) s (fun t => Answers c 0x0904 sOk [(1, hitchCode h.state), (7, 0), (4, h.pass), (8,
      (h.batches.filter (fun b => b.acked)).length), (8, (doneFigures h none).1), (8, (doneFigures h none).2)] t)) ∧
  (∀ (id : BitVec 128) (h : Hitch) (s : State), hitchAt s id = some h → hitchLive h = true → h.away = false → h.record.notAfter ≤ custodySec s →
    exec (.hitchNotAfter id) s = .next (hitchVault id (abortHitch id s))) ∧
  (∀ (id : BitVec 128) (h : Hitch) (s : State), hitchAt s id = some h → h.source = true → h.away = false → h.todo = [] → h.flight = [] →
    s.pwr.keepSafe = false → h.state = .streaming →
    exec (.hitchPassStart id) s = .next (endPass id (pumpHitch id (startPass h s)))) ∧
  (∀ (m : Myavo) (tenant number objects : Nat) (c : Ctx) (h : Hitch) (s : State), MessageTaken s m c h → h.source = false →
    (openBatch h tenant).number = number → (openBatch h tenant).lines.length = objects →
    exec (.batchClose m tenant number objects) s = .next (closeArrived h.record.id (openBatch h tenant) (heardOf s m h))) ∧
  (∀ (m : Myavo) (tenant number : Nat) (lines : List LineIn) (leaf : Digest) (b b1 : HBatch) (c : Ctx) (h : Hitch) (s : State),
    MessageTaken s m c h → h.batches.find? (fun y => y.tenant == tenant && y.number == number && y.closed) = some b → b.acked = false →
    lines.length = b.lines.length → (List.zip b.lines lines).all (fun p => lineAgrees p.1 p.2) = true →
    b1 = { b with lines := (List.zip b.lines lines).map (fun p => lineFilled p.1 p.2), receipted := true, acked := true } →
    exec (.batchReceipt m tenant number lines true leaf) s = .next (endPass h.record.id (pumpHitch h.record.id (sendMyavo h.record.id
      0x23 [(2, tenant), (6, 0), (8, number)] (hitchVault h.record.id (mapHitch h.record.id (fun y
      => putBatch b1 { y with chains := (tenant, chainDigest y b1) :: dropIf (fun e => e.1 == tenant) y.chains, retry := y.retry ++ (((b1.lines.filter (fun l => l.result == 2)).map (fun l => (l.srcColl, l.srcMac))).filter (fun y => !h.retried.contains y)).filter (fun e => !y.retry.contains e) })
      (enter (localTenant (heardOf s m h) (hearing s m h) tenant) 0x0064 noStamp [(16, h.record.id.toNat), (8, number), (4,
      b1.lines.length), (4, 0), (32, (manifestDigest b1).toNat), (32, leaf.toNat), (32,
      h.peerLanyard.toNat)] (heardOf s m h)))))))) ∧
  (∀ (m : Myavo) (tenant number : Nat) (c : Ctx) (h : Hitch) (s : State), MessageTaken s m c h → h.source = false →
    exec (.batchAck m tenant number) s = .next (tellHitch h.record.id (mapHitch h.record.id
      (fun y => { y with batches := mapIf (fun b => b.tenant == tenant && b.number == number && b.receipted) (fun b => { b with acked := true }) y.batches })
      (heardOf s m h)))) ∧
  (∀ (m : Myavo) (pass objects : Nat) (c : Ctx) (h : Hitch) (s : State), MessageTaken s m c h → h.source = false → h.closing = false →
    h.batches.all (fun b => b.acked) = true →
    exec (.passEnd m pass objects) s = .next ((scopeTenants h).foldl (fun acc y => completeTenant (hearing s m h) y acc) (closeEntry
      (hearing s m h) shelfChain 1 (doneFigures h none) 0 (tellHitch h.record.id (mapHitch h.record.id (fun y => { y with closing := true }) (heardOf s m
      h)))).2)) ∧
  (∀ (m : Myavo) (receipts : List (Nat × Bool × Digest)) (c : Ctx) (h : Hitch) (s : State), MessageTaken s m c h → h.source = true →
    h.state = .closing → (scopeTenants h).all (fun y => receipts.any (fun r => r.1 == y && r.2.1)) = true →
    receipts.any (fun r => !r.2.1) = false →
    exec (.complete m receipts) s = .next (hitchVault h.record.id
      (mapHitch h.record.id (fun y => { y with state := .closed }) ((scopeTenants
      h).foldl (fun acc y => (closeEntry (hearing s m h) y 1 (doneFigures h (some y)) (((receipts.find? (fun r => r.1 == y)).map (fun r
      => r.2.2.toNat)).getD 0) acc).2) (closeEntry (hearing s m h) shelfChain 1 (doneFigures h none) 0 (heardOf s m h)).2))))

/-- The commands that make and keep a controller (04 R92 to R95, R103, R104). A command on an open queue that is metered and admitted as
it arrives runs from the state in which it took its operation: Connect on queue 0 makes the controller with the lowest free CNTLID and
answers it; Connect on another queue adds it; clearing CC.EN ends the I/O queues; keep-alive starts the deadline anew, and a deadline
that is over deletes the controller. -/
def Obligations.NvmeControllerCommandsComplete : Prop :=
  (∀ (c : ConnectIn) (id : Nat) (d : HostCmd) (s : State),
    TakenUp s (.connect c) d →
    checkConnect c (taken s (.connect c) d) = none → c.qid = 0 → freeCntlid (taken s (.connect c) d) = some id →
    Completes (.connect c)
      s (fun t => Ran t (nvDone c.ctx c.cid 0x7F 0 id [] (putCtrl (newCtrl c id (taken s (.connect c) d))
      (taken s (.connect c) d))))) ∧
  (∀ (c : ConnectIn) (k : Ctrl) (d : HostCmd) (s : State),
    TakenUp s (.connect c) d →
    checkConnect c (taken s (.connect c) d) = none → c.qid ≠ 0 → connectTo (taken s (.connect c) d) c = some k →
    Completes (.connect c)
      s (fun t => Ran t (nvDone c.ctx c.cid 0x7F 0 k.cntlid [] (putCtrl { k with queues := k.queues ++ [connectQueue c] }
      (taken s (.connect c) d))))) ∧
  (∀ (c : NvmeCmd) (controller : Bool) (v : NvQueue) (d : HostCmd) (s : State), TakenUp s (.disconnect c controller) d → opcodeCheck 0x7F c = none →
    queueAt (taken s (.disconnect c controller) d) c.ctx = some v → controller = (v.qid == 0) →
    Completes (.disconnect c controller) s (fun t => Ran t (endCtx c.ctx (nvDone c.ctx c.cid 0x7F 0 0 [] (taken s (.disconnect c
      controller) d))))) ∧
  (∀ (c : NvmeCmd) (ofst : Word32) (v : Nat × Nat) (d : HostCmd) (s : State), TakenUp s (.propertyGet c ofst) d → opcodeCheck 0x7F c = none →
    queueCheck (taken s (.propertyGet c ofst) d) c.ctx true true = none → (ctrlAt (taken s (.propertyGet c ofst) d) c.ctx).bind (fun k =>
    propertyOf k ofst.toNat) = some v →
    Completes (.propertyGet c ofst) s (fun t => Ran t (nvDone c.ctx c.cid 0x7F 0 v.2 [] (taken s (.propertyGet c ofst) d)))) ∧
  (∀ (c : NvmeCmd) (value : Word64) (k : Ctrl) (d : HostCmd) (s : State), TakenUp s (.propertySet c 0x14 value) d → opcodeCheck 0x7F c = none →
    queueCheck (taken s (.propertySet c 0x14 value) d) c.ctx true true = none →
    ctrlAt (taken s (.propertySet c 0x14 value) d) c.ctx = some k →
    Completes (.propertySet c 0x14 value) s (fun t => Ran t (nvDone c.ctx c.cid 0x7F 0 0 [] (setCc k (value.toNat % 2 ^ 32) (taken
      s (.propertySet c 0x14 value) d))))) ∧
  (∀ (c : NvmeCmd) (sqCtx cid : Nat) (d : HostCmd) (s : State), TakenUp s (.abort c sqCtx cid) d → opcodeCheck 0x08 c = none →
    queueCheck (taken s (.abort c sqCtx cid) d) c.ctx true false = none → abortable (taken s (.abort c sqCtx cid) d) c sqCtx cid = none →
    Completes (.abort c sqCtx cid) s (fun t => Ran t (nvDone c.ctx c.cid 0x08 0 1 [] (taken s (.abort c sqCtx cid) d)))) ∧
  (∀ (c : NvmeCmd) (sqCtx cid : Nat) (v : Waiting) (d : HostCmd) (s : State), TakenUp s (.abort c sqCtx cid) d → opcodeCheck 0x08 c = none →
    queueCheck (taken s (.abort c sqCtx cid) d) c.ctx true false = none → abortable (taken s (.abort c sqCtx cid) d) c sqCtx cid = some
    v →
    Completes (.abort c sqCtx cid) s (fun t => Ran t (nvDone c.ctx
      c.cid 0x08 0 0 [] (nvDone sqCtx cid 0 nvAborted 0 [] { (taken s (.abort c sqCtx cid) d) with block := { (taken s (.abort c sqCtx cid) d).block with waiting := (taken s (.abort c sqCtx cid) d).block.waiting.erase v } }))))
      ∧
  (∀ (c : NvmeCmd) (k : Ctrl) (d : HostCmd) (s : State), TakenUp s (.asynchronousEventRequest c) d → opcodeCheck 0x0C c = none →
    checkAer c (taken s (.asynchronousEventRequest c) d) = none → ctrlAt (taken s (.asynchronousEventRequest c) d) c.ctx = some k →
    k.aens = [] →
    Completes (.asynchronousEventRequest c) s (fun t => Ran t (putCtrl
      { k with aers := k.aers ++ [c.cid] } (taken s (.asynchronousEventRequest c) d)))) ∧
  (∀ (c : NvmeCmd) (k : Ctrl) (e : Nat) (r : List Nat) (d : HostCmd) (s : State), TakenUp s (.asynchronousEventRequest c) d → opcodeCheck 0x0C c = none →
    checkAer c (taken s (.asynchronousEventRequest c) d) = none → ctrlAt (taken s (.asynchronousEventRequest c) d) c.ctx = some k →
    k.aens = e :: r →
    Completes (.asynchronousEventRequest c) s (fun t => Ran t (nvDone c.ctx c.cid 0x0C 0 e [] (putCtrl { k with aens := r } (taken s
      (.asynchronousEventRequest c) d))))) ∧
  (∀ (c : NvmeCmd) (k : Ctrl) (d : HostCmd) (s : State), TakenUp s (.keepAlive c) d → opcodeCheck 0x18 c = none →
    queueCheck (taken s (.keepAlive c) d) c.ctx true true = none → ctrlAt (taken s (.keepAlive c) d) c.ctx = some k →
    now (metered s d) ≤ k.deadline →
    Completes (.keepAlive c) s (fun t => Ran t (nvDone c.ctx c.cid
      0x18 0 0 [] (putCtrl { k with deadline := max k.deadline (now (metered s d) + k.kato * msU) } (taken s (.keepAlive c) d))))) ∧
  (∀ (c : NvmeCmd) (k : Ctrl) (d : HostCmd) (s : State), TakenUp s (.keepAlive c) d → opcodeCheck 0x18 c = none →
    queueCheck (taken s (.keepAlive c) d) c.ctx true true = none → ctrlAt (taken s (.keepAlive c) d) c.ctx = some k →
    k.deadline < now (metered s d) →
    Completes (.keepAlive c) s (fun t => Ran t (dropCtrl k (taken s (.keepAlive c) d)))) ∧
  (∀ (controller : Nat) (k : Ctrl) (s : State), s.block.ctrls.find? (fun y => y.cntlid == controller) = some k →
    confirmed s k.deadline 0 = true →
    aliveWaits s k = false → k.queues.any (fun y => packetHeld s y.ctx) = false →
    exec (.keepAliveExpiry controller) s = .next (dropCtrl k s))

/-- The admin commands (04 R95 to R100, R114 to R116). Admitted as it arrives and with its checks passed, each answers the page, the
structure or the feature, or makes, deletes, formats or sanitises namespaces by its own rules from the state in which it took its
operation. -/
def Obligations.NvmeAdminCommandsComplete : Prop :=
  (∀ (c : NvmeCmd) (lid : Byte) (k : Ctrl) (p : Flds) (d : HostCmd) (s : State), TakenUp s (.getLogPage c lid) d → opcodeCheck 0x02 c = none →
    queueCheck (taken s (.getLogPage c lid) d) c.ctx true true = none → ctrlAt (taken s (.getLogPage c lid) d) c.ctx = some k →
    logPage (taken s (.getLogPage c lid) d) k c.ctx lid.toNat = some p →
    Completes (.getLogPage c lid) s (fun t => Ran t (nvDone c.ctx c.cid 0x02 0 0 p (putCtrl (logTaken k lid.toNat) (taken s (.getLogPage
      c lid) d))))) ∧
  (∀ (c : NvmeCmd) (cns csi : Byte) (k : Ctrl) (p : Flds) (d : HostCmd) (s : State), TakenUp s (.identify c cns csi) d → opcodeCheck 0x06 c = none →
    queueCheck (taken s (.identify c cns csi) d) c.ctx true true = none → ctrlAt (taken s (.identify c cns csi) d) c.ctx = some k →
    identifyData (taken s (.identify c cns csi) d) k c.nsid.toNat cns.toNat csi.toNat = some (.ok p) →
    Completes (.identify c cns csi) s (fun t => Ran t (nvDone c.ctx c.cid 0x06 0 0 p (taken s (.identify c cns csi) d)))) ∧
  (∀ (c : NvmeCmd) (fid : Byte) (save : Bool) (value : Word32) (k : Ctrl) (d : HostCmd) (s : State),
    TakenUp s (.setFeatures c fid save value) d → opcodeCheck 0x09 c = none → checkSetFeatures c fid save value (taken s (.setFeatures c fid save value) d) = none →
    ctrlAt (taken s (.setFeatures c fid save value) d) c.ctx = some k →
    Completes (.setFeatures c fid save value) s (fun t => Ran t (nvDone
      c.ctx c.cid 0x09 0 (setFeature k c.nsid.toNat fid.toNat value.toNat (taken s (.setFeatures c fid save value) d)).1 [] (setFeature
      k c.nsid.toNat fid.toNat value.toNat (taken s (.setFeatures c fid save value) d)).2))) ∧
  (∀ (c : NvmeCmd) (fid : Byte) (k : Ctrl) (v : Nat × Flds) (d : HostCmd) (s : State), TakenUp s (.getFeatures c fid) d → opcodeCheck 0x0A c = none →
    queueCheck (taken s (.getFeatures c fid) d) c.ctx true false = none → ctrlAt (taken s (.getFeatures c fid) d) c.ctx = some k →
    featureOf (taken s (.getFeatures c fid) d) k c.nsid.toNat fid.toNat = .ok v →
    Completes (.getFeatures c fid) s (fun t => Ran t (nvDone c.ctx c.cid 0x0A 0 v.1 v.2 (taken s (.getFeatures c fid) d)))) ∧
  (∀ (c : NvmeCmd) (p : NsCreate) (d : HostCmd) (s : State), TakenUp s (.namespaceCreate c p) d → opcodeCheck 0x0D c = none →
    checkNsCreate c p (taken s (.namespaceCreate c p) d) = none →
    Completes (.namespaceCreate c p) s (fun t => Ran t (actNsCreate c p (taken s (.namespaceCreate c p) d)))) ∧
  (∀ (c : NvmeCmd) (d : HostCmd) (s : State), TakenUp s (.namespaceDelete c) d → opcodeCheck 0x0D c = none → checkOwnNss c (taken s (.namespaceDelete c) d) = none →
    Completes (.namespaceDelete c) s (fun t => Ran t (actNsDelete c (taken s (.namespaceDelete c) d)))) ∧
  (∀ (c : NvmeCmd) (f : FormatParm) (d : HostCmd) (s : State), TakenUp s (.formatNvm c f) d → opcodeCheck 0x80 c = none →
    checkFormat c f (taken s (.formatNvm c f) d) = none →
    Completes (.formatNvm c f) s (fun t => Ran t (actFormat c f (taken s (.formatNvm c f) d)))) ∧
  (∀ (c : NvmeCmd) (action : BitVec 3) (ause : Bool) (d : HostCmd) (s : State), TakenUp s (.sanitize c action ause) d → opcodeCheck 0x84 c = none →
    checkSanitize c action (taken s (.sanitize c action ause) d) = none →
    Completes (.sanitize c action ause) s (fun t => Ran t (actSanitize c ause (taken s (.sanitize c action ause) d))))

/-- The I/O commands (04 R99 to R112). Admitted as it arrives and with its checks passed, in the order of R112, each runs its own rules
from the state in which it took its operation. Prefetched data that arrived 10 ms ago is discarded. -/
def Obligations.NvmeIoCommandsComplete : Prop :=
  (∀ (c : NvmeCmd) (d : HostCmd) (s : State), TakenUp s (.flush c) d → opcodeCheck 0x00 c = none →
    checkFlush c (taken s (.flush c) d) = none →
    Completes (.flush c) s (fun t => Ran t (actFlush c (taken s (.flush c) d)))) ∧
  (∀ (c : NvmeCmd) (slba : Word64) (nlb : Word16) (fua : Bool) (pr : PrInfo) (data : Bytes) (pi : List PiData) (d : HostCmd) (s : State),
    TakenUp s (.nvmeWrite c slba nlb fua pr data pi) d → opcodeCheck 0x01 c = none →
    checkWrite c slba nlb pr data pi (taken s (.nvmeWrite c slba nlb fua pr data pi) d) = none →
    Completes (.nvmeWrite c slba nlb fua pr data pi) s (fun t =>
      Ran t (actWrite c slba nlb fua pr data pi (taken s (.nvmeWrite c slba nlb fua pr data pi) d)))) ∧
  (∀ (c : NvmeCmd) (slba : Word64) (nlb : Word16) (pr : PrInfo) (d : HostCmd) (s : State), TakenUp s (.nvmeRead c slba nlb pr) d →
    opcodeCheck 0x02 c = none → checkRead c slba nlb pr (taken s (.nvmeRead c slba nlb pr) d) = none →
    Completes (.nvmeRead c slba nlb pr) s (fun t => Ran t (actRead c slba nlb pr (taken s (.nvmeRead c slba nlb pr) d)))) ∧
  (∀ (ctx : Nat) (s : State),
    exec (.prefetchExpiry ctx) s = .next (sweepQuarantine { s with block := { s.block with streams := mapIf (fun y => y.ctx == ctx) (fun y => { y with ahead := y.ahead.filter (fun a => !(a.arrived.any (fun n => confirmed s n (10 * msU)))) }) s.block.streams } }))
      ∧
  (∀ (c : NvmeCmd) (slba : Word64) (nlb : Word16) (pr : PrInfo) (data : Bytes) (pi : List PiData) (d : HostCmd) (s : State),
    TakenUp s (.compare c slba nlb pr data pi) d → opcodeCheck 0x05 c = none →
    checkCompare c slba nlb pr data pi (taken s (.compare c slba nlb pr data pi) d) = none →
    Completes (.compare c slba nlb pr data pi) s (fun t =>
      Ran t (actCompare c slba nlb pr data pi (taken s (.compare c slba nlb pr data pi) d)))) ∧
  (∀ (c : NvmeCmd) (slba : Word64) (nlb : Word16) (d : HostCmd) (s : State), TakenUp s (.writeZeroes c slba nlb) d →
    opcodeCheck 0x08 c = none → checkWriteZeroes c slba nlb (taken s (.writeZeroes c slba nlb) d) = none →
    Completes (.writeZeroes c slba nlb) s (fun t => Ran t (actWriteZeroes c slba nlb (taken s (.writeZeroes c slba nlb) d)))) ∧
  (∀ (c : NvmeCmd) (dealloc : Bool) (ranges : List (Word64 × Word32)) (d : HostCmd) (s : State),
    TakenUp s (.datasetManagement c dealloc ranges) d → opcodeCheck 0x09 c = none →
    checkDsm c ranges (taken s (.datasetManagement c dealloc ranges) d) = none →
    Completes (.datasetManagement c dealloc ranges) s (fun t =>
      Ran t (actDsm c dealloc ranges (taken s (.datasetManagement c dealloc ranges) d)))) ∧
  (∀ (c : NvmeCmd) (slba : Word64) (nlb : Word16) (pr : PrInfo) (d : HostCmd) (s : State), TakenUp s (.nvmeVerify c slba nlb pr) d →
    opcodeCheck 0x0C c = none → checkNvVerify c slba nlb pr (taken s (.nvmeVerify c slba nlb pr) d) = none →
    Completes (.nvmeVerify c slba nlb pr) s (fun t => Ran t (actNvVerify c slba nlb (taken s (.nvmeVerify c slba nlb pr) d))))

/-- The reservation commands (04 R107, R108). Admitted as it arrives and with its checks passed, each registers, reports, acquires or
releases by its action, from the state in which it took its operation; an Acquire that preempts and aborts also aborts what waits of the
hosts it preempts. -/
def Obligations.NvmeReservationCommandsComplete : Prop :=
  (∀ (c : NvmeCmd) (action : BitVec 3) (ignoreKey : Bool) (cptpl : BitVec 2) (crkey nrkey : Word64) (d : HostCmd) (s : State),
    TakenUp s (.reservationRegister c action ignoreKey cptpl crkey nrkey) d → opcodeCheck 0x0D c = none →
    checkRes c (fun n h => registerEffect n h action ignoreKey cptpl crkey nrkey)
      (taken s (.reservationRegister c action ignoreKey cptpl crkey nrkey) d) = none →
    Completes (.reservationRegister c action ignoreKey cptpl crkey nrkey) s (fun t =>
      Ran t (actRes 0x0D c (fun n h => registerEffect n h action ignoreKey cptpl crkey nrkey)
        (taken s (.reservationRegister c action ignoreKey cptpl crkey nrkey) d)))) ∧
  (∀ (c : NvmeCmd) (n : Ns) (d : HostCmd) (s : State), TakenUp s (.reservationReport c) d → opcodeCheck 0x0E c = none →
    resNs c (taken s (.reservationReport c) d) = .ok n →
    Completes (.reservationReport c) s (fun t =>
      Ran t (nvDone c.ctx c.cid 0x0E 0 0 (resReport (taken s (.reservationReport c) d) n) (taken s (.reservationReport c) d)))) ∧
  (∀ (c : NvmeCmd) (action : BitVec 3) (ignoreKey : Bool) (rtype : Byte) (crkey prkey : Word64) (d : HostCmd) (s : State),
    TakenUp s (.reservationAcquire c action ignoreKey rtype crkey prkey) d → opcodeCheck 0x11 c = none →
    checkRes c (fun n h => acquireEffect n h action ignoreKey rtype crkey prkey)
      (taken s (.reservationAcquire c action ignoreKey rtype crkey prkey) d) = none →
    Completes (.reservationAcquire c action ignoreKey rtype crkey prkey) s (fun t =>
      Ran t (actAcquire c action (fun n h => acquireEffect n h action ignoreKey rtype crkey prkey)
        (taken s (.reservationAcquire c action ignoreKey rtype crkey prkey) d)))) ∧
  (∀ (c : NvmeCmd) (action : BitVec 3) (ignoreKey : Bool) (rtype : Byte) (crkey : Word64) (d : HostCmd) (s : State),
    TakenUp s (.reservationRelease c action ignoreKey rtype crkey) d → opcodeCheck 0x15 c = none →
    checkRes c (fun n h => releaseEffect n h action ignoreKey rtype crkey)
      (taken s (.reservationRelease c action ignoreKey rtype crkey) d) = none →
    Completes (.reservationRelease c action ignoreKey rtype crkey) s (fun t =>
      Ran t (actRes 0x15 c (fun n h => releaseEffect n h action ignoreKey rtype crkey)
        (taken s (.reservationRelease c action ignoreKey rtype crkey) d))))

/-- Setups (12 R323 to R326, R332, R333). A SETUP_INIT of this version and suite, offering a payload size the MAC carries, is answered
SETUP_RESP and its setup kept; beyond the limit it is answered E_SETUP_BUSY and with nothing supported E_CIPHER. A SETUP_AUTH whose
signatures are good and whose principal R325 admits opens its session and is answered SETUP_DONE; a signature or a principal that fails
is answered by name. SETUP_CHILD opens a session of the parent's principal, RDMA_CM a queue pair; SETUP_CHILD_DONE brings a new SA pair
into use; a setup older than TRN_SETUP_TIMEOUT is dropped. That a new context takes the lowest free number and a child its parent's child
secret are the model's choices (log entries 16 and 140). -/
def Obligations.SetupsComplete : Prop :=
  (∀ (m : InitMsg) (p : Nat) (s : State), taking s = true → (if onTether m.mac then m.service = 4 else m.udp.toNat = pTrnUdpPort s) → m.rsv = 0 →
    s.trn.setups.length < pTrnSetupMax s → m.version = 1 → m.suite = 1 → choosePayload s m.mac m.sizes = some p →
    exec (.setupInit m) s = .next (sendSetup m.mac 0x11 m.ictx sOk (setupAnswer m p s).1
      ((setupPackets 0x11 m.ictx 1 false none (setupAnswer m p s).2.1).map (fun b => (m.src, b)))
      { (setupAnswer m p s).2.2.2 with
        trn := { (setupAnswer m p s).2.2.2.trn with setups := s.trn.setups ++ [(setupAnswer m p s).2.2.1] } })) ∧
  (∀ (m : InitMsg) (s : State), taking s = true → (if onTether m.mac then m.service = 4 else m.udp.toNat = pTrnUdpPort s) → m.rsv = 0 →
    pTrnSetupMax s ≤ s.trn.setups.length →
    exec (.setupInit m) s = .next (refuseInit m eSetupBusy (raise stTRN 3 noInst s))) ∧
  (∀ (m : InitMsg) (s : State), taking s = true → (if onTether m.mac then m.service = 4 else m.udp.toNat = pTrnUdpPort s) → m.rsv = 0 →
    s.trn.setups.length < pTrnSetupMax s → ¬(m.version = 1 ∧ m.suite = 1) ∨ choosePayload s m.mac m.sizes = none →
    exec (.setupInit m) s = .next (refuseInit m eCipher s)) ∧
  (∀ (m : AuthMsg) (x : Setup) (who : Principal) (s z : State), taking s = true →
    s.trn.setups.find? (fun y => y.handle == m.handle && !y.initiator) = some x →
    z = { s with trn := { s.trn with setups := dropIf (fun y => y.handle == m.handle && !y.initiator) s.trn.setups } } →
    m.sigOk = true → (m.kind = 2 → m.grantOk = true) → credential z m.kind m.key m.grant = some who →
    quietDrops z who.tenant? x.mac = false → setupRefusal z x.service x.payload who = none →
    exec (.setupAuth m) s = .next (sendDone x sOk (doneFlds (authSession m x who z).2 (authSession m x who z).1) (authSession m x who z).2)) ∧
  (∀ (m : AuthMsg) (x : Setup) (s : State), taking s = true →
    s.trn.setups.find? (fun y => y.handle == m.handle && !y.initiator) = some x →
    m.sigOk = false ∨ (m.kind = 2 ∧ m.grantOk = false) →
    exec (.setupAuth m) s = .next (sendDone x eSignature [(2, 0), (4, 0)]
      { s with trn := { s.trn with setups := dropIf (fun y => y.handle == m.handle && !y.initiator) s.trn.setups } })) ∧
  (∀ (m : AuthMsg) (x : Setup) (s z : State), taking s = true →
    s.trn.setups.find? (fun y => y.handle == m.handle && !y.initiator) = some x →
    z = { s with trn := { s.trn with setups := dropIf (fun y => y.handle == m.handle && !y.initiator) s.trn.setups } } →
    m.sigOk = true → (m.kind = 2 → m.grantOk = true) → credential z m.kind m.key m.grant = none →
    exec (.setupAuth m) s = .next (sendDone x eDenied [(2, 0), (4, 0)] z)) ∧
  (∀ (parent service ictx : Nat) (nonce : Digest) (timestamp depth : Nat) (c : Ctx) (o : Nat × State) (s : State),
    ctxAt s parent = some c → c.closing = false → isQp c = false → c.helloOnly = false → taking s = true →
    setupRefusal s service c.payload c.who = none →
    o = childSession c service ictx nonce (drawDigest s).1 timestamp depth (drawDigest s).2 →
    exec (.setupChild parent service ictx nonce timestamp depth) s = .next (sendCtl parent 0x15
      ([(2, sOk)] ++ (doneFlds o.2 o.1).take 2 ++ [(32, (drawDigest s).1.toNat)] ++ (doneFlds o.2 o.1).drop 2) o.2)) ∧
  (∀ (parent service ictx : Nat) (nonce : Digest) (timestamp depth code : Nat) (c : Ctx) (s : State),
    ctxAt s parent = some c → c.closing = false → isQp c = false → c.helloOnly = false → taking s = true →
    setupRefusal s service c.payload c.who = some code →
    exec (.setupChild parent service ictx nonce timestamp depth) s = .next (sendCtl parent 0x15 [(2, code), (2, 0), (4, 0), (32, 0)]
      (landingFlag code s))) ∧
  (∀ (parent ctx : Nat) (nonce : Digest) (spiIn spiOut : Nat) (c : Ctx) (s : State), TimerRuns s parent c → c.kind = .bryndle 5 →
    exec (.setupChildDone parent sOk ctx nonce spiIn spiOut) s = .next (mirrorCtx parent c.gen (putCtx
      { c with oldSpi := some (c.spiIn, 0), spiIn := spiIn, spiOut := spiOut, spiSince := mono s,
               keys := { c.keys with espTx := (childKeys c.keys.child c.saNonce nonce true).espTx,
                                     espRx := (childKeys c.keys.child c.saNonce nonce true).espRx, prevEspRx := some c.keys.espRx },
               espOld := c.espIn, espIn := { top := 0, seen := [] }, espOut := 0 } s))) ∧
  (∀ (handle : Nat) (s : State),
    exec (.setupTimeout handle) s = .next { s with
      trn := { s.trn with
        setups := dropIf (fun x => x.handle == handle && confirmed s x.since (pTrnSetupTimeout s * msU)) s.trn.setups } }) ∧
  (∀ (parent : Nat) (uop : Bool) (depth : Nat) (c : Ctx) (o : Nat × State) (s : State), ctxAt s parent = some c → c.kind = .bryndle 5 →
    c.closing = false → taking s = true → grantOk s c.who = true → setupLimit s (.qp parent uop) c.who = none →
    o = openSession (.qp parent uop) c.who c.mac (choosePmtu s c.mac) (depthOf depth) 0 0 { peer := 0, src := c.src, keys := noKeys } s →
    exec (.rdmaCm parent uop depth) s = .next (sendRoce parent 12 0 [(3, o.1)] [] o.2)) ∧
  (∀ (parent : Nat) (uop : Bool) (depth code : Nat) (c : Ctx) (s : State), ctxAt s parent = some c → c.kind = .bryndle 5 →
    c.closing = false → taking s = true → grantOk s c.who = true → setupLimit s (.qp parent uop) c.who = some code →
    exec (.rdmaCm parent uop depth) s = .next (sendRoce parent 11 code [] [] (landingFlag code s)))

/-- Packets that are taken in their session (12 R308 to R320, R327, R331, R332; 15 R379). A DATA packet of a message delivered is acknowledged
at the pace of duplicates and one beyond the window is dropped; one of a message that is older than W is counted and dropped; else it
opens its message or joins it. ACK and STATUS acknowledge what they cover; NAK sends again what it names; STATUS_REQ discards the message
asked about and answers; CLOSE ends the session at its ingress stamp. A RoCE packet is an acknowledgement, a NAK, a request in order, one
out of order, or a duplicate. -/
def Obligations.PacketsComplete : Prop :=
  (∀ (p : DataPkt) (c : Ctx) (s : State), PacketTaken s p.ctx p.gen p.mac (dataHeaderOk p) p.tagOk c →
    seqAfter (dataCtx p c s).through p.seq = false →
    exec (.dataPacket p) s = .next (paceAck (dataCtx p c s).num (dataHeard p c s))) ∧
  (∀ (p : DataPkt) (c : Ctx) (s : State), PacketTaken s p.ctx p.gen p.mac (dataHeaderOk p) p.tagOk c →
    seqAfter (dataCtx p c s).through p.seq = true → 256 < seqDist (dataCtx p c s).through p.seq →
    exec (.dataPacket p) s = .next (dataHeard p c s)) ∧
  (∀ (p : DataPkt) (c : Ctx) (m : InMsg) (s : State), PacketTaken s p.ctx p.gen p.mac (dataHeaderOk p) p.tagOk c →
    seqAfter (dataCtx p c s).through p.seq = true → seqDist (dataCtx p c s).through p.seq ≤ 256 →
    (dataCtx p c s).inMsgs.find? (fun x => x.seq == p.seq) = some m → m.refused = false → m.id = p.id → m.whole = none →
    m.got.lookup p.index = none →
    exec (.dataPacket p) s = .next (ackIf p.ackNow (dataCtx p c s).num (joinMsg (dataCtx p c s).num p (mono s) (dataHeard p c s)))) ∧
  (∀ (p : DataPkt) (c : Ctx) (s : State), PacketTaken s p.ctx p.gen p.mac (dataHeaderOk p) p.tagOk c →
    seqAfter (dataCtx p c s).through p.seq = true → seqDist (dataCtx p c s).through p.seq ≤ 256 →
    (dataCtx p c s).inMsgs.find? (fun x => x.seq == p.seq) = none →
    ((freshW (dataCtx p c s) / nsU : Nat) : Int) < ageOf (dataHeard p c s) (dataCtx p c s) (mono s) (p.id / 65536) →
    exec (.dataPacket p) s = .next (bumpFigure 0x12000054 1 (dataHeard p c s))) ∧
  (∀ (p : DataPkt) (c : Ctx) (s : State), PacketTaken s p.ctx p.gen p.mac (dataHeaderOk p) p.tagOk c →
    seqAfter (dataCtx p c s).through p.seq = true → seqDist (dataCtx p c s).through p.seq ≤ 256 →
    (dataCtx p c s).inMsgs.find? (fun x => x.seq == p.seq) = none →
    ageOf (dataHeard p c s) (dataCtx p c s) (mono s) (p.id / 65536) ≤ ((freshW (dataCtx p c s) / nsU : Nat) : Int) →
    (dataHeard p c s).trn.seen.length < 4194304 → p.count = 1 ∨ p.index + 1 ≠ p.count →
    exec (.dataPacket p) s = .next (ackIf p.ackNow (dataCtx p c s).num
      (joinMsg (dataCtx p c s).num p (mono s) (startMsg (dataCtx p c s) p (mono s) (dataHeard p c s))))) ∧
  (∀ (p : CtlPkt) (through : Nat) (bitmap : BitVec 256) (ceMarks : Nat) (c : Ctx) (s : State),
    PacketTaken s p.ctx p.gen p.mac p.headerOk p.tagOk c →
    exec (.ack p through bitmap ceMarks) s = .next (if 0 < ceMarks then
      ccSignal (ctxNow c (ctlHeard p c s)).num (takeAcks (ctxNow c (ctlHeard p c s)).num through bitmap (ctlHeard p c s))
      else takeAcks (ctxNow c (ctlHeard p c s)).num through bitmap (ctlHeard p c s))) ∧
  (∀ (p : CtlPkt) (seq : Nat) (ranges : List (Nat × Nat)) (c : Ctx) (o : OutMsg) (s : State),
    PacketTaken s p.ctx p.gen p.mac p.headerOk p.tagOk c →
    (ctxNow c (ctlHeard p c s)).outMsgs.find? (fun x => x.seq == seq && !x.queued) = some o →
    exec (.nak p seq ranges) s = .next (resend (ctxNow c (ctlHeard p c s)).num o ranges (ctlHeard p c s))) ∧
  (∀ (p : CtlPkt) (seq : Nat) (c c1 : Ctx) (s : State), PacketTaken s p.ctx p.gen p.mac p.headerOk p.tagOk c →
    ctxAt (discardIn (ctxNow c (ctlHeard p c s)).num seq (ctlHeard p c s)) (ctxNow c (ctlHeard p c s)).num = some c1 →
    exec (.statusReq p seq) s = .next (sendCtl (ctxNow c (ctlHeard p c s)).num 5 (ackFlds c1)
      (discardIn (ctxNow c (ctlHeard p c s)).num seq (ctlHeard p c s)))) ∧
  (∀ (p : CtlPkt) (through : Nat) (bitmap : BitVec 256) (asked : Nat) (c c1 : Ctx) (s : State),
    PacketTaken s p.ctx p.gen p.mac p.headerOk p.tagOk c →
    ctxAt (takeAcks (ctxNow c (ctlHeard p c s)).num through bitmap (ctlHeard p c s)) (ctxNow c (ctlHeard p c s)).num = some c1 →
    c1.outMsgs.any (fun o => o.seq == asked && o.statusAsked) = false →
    exec (.status p through bitmap asked) s = .next (takeAcks (ctxNow c (ctlHeard p c s)).num through bitmap (ctlHeard p c s))) ∧
  (∀ (p : CtlPkt) (through : Nat) (bitmap : BitVec 256) (asked : Nat) (c c1 : Ctx) (o : OutMsg) (s : State),
    PacketTaken s p.ctx p.gen p.mac p.headerOk p.tagOk c →
    ctxAt (takeAcks (ctxNow c (ctlHeard p c s)).num through bitmap (ctlHeard p c s)) (ctxNow c (ctlHeard p c s)).num = some c1 →
    c1.outMsgs.find? (fun x => x.seq == asked && x.statusAsked) = some o →
    exec (.status p through bitmap asked) s = .next (launch (ctxNow c (ctlHeard p c s)).num o
      (takeAcks (ctxNow c (ctlHeard p c s)).num through bitmap (ctlHeard p c s)))) ∧
  (∀ (p : CtlPkt) (code : Word16) (c : Ctx) (s : State), PacketTaken s p.ctx p.gen p.mac p.headerOk p.tagOk c →
    exec (.close p code) s = .next (endCtxAt (mono s) (ctxNow c (ctlHeard p c s)).num (ctlHeard p c s))) ∧
  (∀ (p : RocePkt) (sa c : Ctx) (uop : Bool) (s : State), RoceTaken s p sa c uop → p.opcode = 6 →
    exec (.rocePacket p) s = .next (qpAcked p.imm.toNat (ctxNow c (roceHeard p sa c s)) (roceHeard p sa c s))) ∧
  (∀ (p : RocePkt) (sa c : Ctx) (uop : Bool) (s : State), RoceTaken s p sa c uop → p.opcode = 8 → p.imm.toNat = 0x60 →
    exec (.rocePacket p) s = .next (qpRetry c.num (roceHeard p sa c s))) ∧
  (∀ (p : RocePkt) (sa c : Ctx) (uop : Bool) (s : State), RoceTaken s p sa c uop → 1 ≤ p.opcode → p.opcode ≤ 4 →
    (p.psn + 16777216 - (ctxNow c (roceHeard p sa c s)).psn) % 16777216 = 0 →
    exec (.rocePacket p) s = .next (qpRequest p (mono (espTaken p sa s)) (ctxNow c (roceHeard p sa c s)) (roceHeard p sa c s))) ∧
  (∀ (p : RocePkt) (sa c : Ctx) (uop : Bool) (s : State), RoceTaken s p sa c uop → 1 ≤ p.opcode → p.opcode ≤ 4 →
    0 < (p.psn + 16777216 - (ctxNow c (roceHeard p sa c s)).psn) % 16777216 →
    (p.psn + 16777216 - (ctxNow c (roceHeard p sa c s)).psn) % 16777216 < 8388608 →
    exec (.rocePacket p) s = .next (sendRoce c.num 8 0x60 [] [] (roceHeard p sa c s))) ∧
  (∀ (p : RocePkt) (sa c : Ctx) (uop : Bool) (s : State), RoceTaken s p sa c uop → 1 ≤ p.opcode → p.opcode ≤ 4 →
    8388608 ≤ (p.psn + 16777216 - (ctxNow c (roceHeard p sa c s)).psn) % 16777216 →
    exec (.rocePacket p) s = .next (sendRoce c.num 6 0 [(3, (ctxNow c (roceHeard p sa c s)).through % 16777216)] [] (roceHeard p sa c s))) ∧
  (∀ (p : RocePkt) (s : State), taking s = true → p.esp = false ∨ p.icvOk = false ∨ saOf s p.spi = none →
    exec (.rocePacket p) s = .next (authFail s))

/-- Delivery and the context store (12 R305 to R307, R314, R315, R321; 13 R343, R346). A whole message at its turn passes on, places its
bytes, notifies or answers, by its opcode, and its session passes its sequence; a READ_REQ above the largest message is not answered. A
fetch that completes processes the held packets in order and sends the RNR NAKs recorded. The least recently used context that may be
replaced is written back. A seen entry past its time is forgotten; a message that outlives W before it is whole is discarded. What a
READ_REQ returns is a free value (log entry 17). -/
def Obligations.DeliveriesComplete : Prop :=
  (∀ (n seq : Nat) (c : Ctx) (m : InMsg) (s : State), AtItsTurn s n seq 1 c m →
    exec (.send n seq) s = .next (turnDone n (turnTaken c seq s))) ∧
  (∀ (n seq : Nat) (c : Ctx) (m : InMsg) (s : State), AtItsTurn s n seq 2 c m →
    exec (.write n seq) s = .next (turnDone n (placeWrite c m (turnTaken c seq s)))) ∧
  (∀ (n seq o : Nat) (c : Ctx) (m : InMsg) (z s : State), AtItsTurn s n seq 3 c m → m.region = some o → z = turnTaken c seq s →
    exec (.writeImm n seq) s = .next (turnDone n (notify o m.imm m.addr.toNat m.length (now z - (mono z - m.whole.getD (mono z)))
      (placeWrite c m z)))) ∧
  (∀ (n seq : Nat) (c : Ctx) (m : InMsg) (s : State), AtItsTurn s n seq 4 c m → leValue ((msgBytes m).take 4) ≤ 67108864 →
    exec (.readReq n seq) s = .next (turnDone n (sendOn c.num 5
      { port := .ctx c.num, kind := .remoteRead, op := 5, tag := 0, status := 0,
        body := [(4, leValue (((msgBytes m).drop 8).take 4)), (8, leValue (((msgBytes m).drop 16).take 8))],
        data := (freeRun (leValue ((msgBytes m).take 4)) (turnTaken c seq s)).1 }
      (freeRun (leValue ((msgBytes m).take 4)) (turnTaken c seq s)).2))) ∧
  (∀ (n seq : Nat) (c : Ctx) (m : InMsg) (s : State), AtItsTurn s n seq 4 c m → 67108864 < leValue ((msgBytes m).take 4) →
    exec (.readReq n seq) s = .next (turnDone n (turnTaken c seq s))) ∧
  (∀ (n seq : Nat) (c : Ctx) (m : InMsg) (s : State), AtItsTurn s n seq 5 c m →
    exec (.readResp n seq) s = .next (turnDone n (turnTaken c seq s))) ∧
  (∀ (n : Nat) (c : Ctx) (s : State), ctxAt s n = some c →
    c.place = .fetching ∨ (c.place = .writeBack ∧ packetHeld s n = true) →
    exec (.contextFetchComplete n) s = .next ((s.trn.nakQ.filter (fun k => k.2.1 == n)).foldl
      (fun acc k => sendRoce n 7 0 [(3, k.2.2), (4, c.set.rnrTimer)] [] acc)
      ((s.trn.holding.filter (fun h => h.ctx == n)).foldl (fun acc h =>
        match (ctxAt acc n).filter (fun x => !x.closing) with
        | some x => handlePacket h.cmd h.ingress x acc
        | none => authFail acc)
        (bringIn c { s with trn := { s.trn with holding := dropIf (fun h => h.ctx == n) s.trn.holding,
                                                nakQ := dropIf (fun k => k.2.1 == n) s.trn.nakQ } })))) ∧
  (∀ (s z : State), serving s = true → z = writtenBack s →
    exec .contextEvict s = .next ((evictee z).elim z (fun c => putCtx { c with place := .writeBack } z))) ∧
  (∀ (n id : Nat) (s : State), packetHeld s n = false →
    exec (.seenEntryExpiry n id) s = .next { s with
      trn := { s.trn with seen := dropIf (fun e => e.1 % 1048576 == n && e.2.1 == id && decide (e.2.2 ≤ mono s)) s.trn.seen } }) ∧
  (∀ (n seq : Nat) (c : Ctx) (s : State), TimerRuns s n c →
    c.inMsgs.any (fun m => m.seq == seq && m.whole.isNone && !m.refused &&
      decide (((freshW c / nsU : Nat) : Int) < ageOf s c (mono s) (m.id / 65536))) = true →
    exec (.reassemblyExpiry n seq) s = .next (discardIn n seq s))

/-- The timers of a session, each at its instant (12 R317 to R319, R327, R333, Table 12.6; 15 R379): the ACK and the NAK that are due; the
last packet of every unacknowledged message again, under twice the timeout; STATUS_REQ for a message of age W; the close of a session
that has answered nothing for TRN_DEAD_TIME; the next key phase and the end of the previous key; a new SA pair asked for and the end of
the old one; the retry of a queue pair; the fall of the rate at a CNP and its recovery. The smoothed round trip is a free value (log entry
43). -/
def Obligations.TransportTimersComplete : Prop :=
  (∀ (n : Nat) (c : Ctx) (s : State), TimerRuns s n c → c.ackDue.isSome = true →
    exec (.ackDelayTimer n) s = .next (sendAck n s)) ∧
  (∀ (n seq : Nat) (c : Ctx) (m : InMsg) (s : State), TimerRuns s n c →
    c.inMsgs.find? (fun x => x.seq == seq && x.whole.isNone && x.nakAt.any (fun y => decide (y + ackW c ≤ mono s))) = some m →
    exec (.nakDelayTimer n seq) s = .next (mapIn n seq (fun x => { x with nakAt := none }) (sendNak n m s))) ∧
  (∀ (n : Nat) (c : Ctx) (r : Nat) (s : State), TimerRuns s n c → isQp c = false → c.rtoAt.any (fun x => confirmed s x 0) = true →
    r = min (c.set.rtoMax * usU) (2 * c.rto) →
    exec (.retransmitTimeout n) s = .next ((c.outMsgs.filter (fun o => !o.queued)).foldl
      (fun acc o => resend n o [(o.packets - 1, 1)] acc) (putCtx { c with rto := r, rtoAt := some (mono s + r) } s))) ∧
  (∀ (n seq : Nat) (c : Ctx) (s : State), TimerRuns s n c → isQp c = false →
    c.outMsgs.any (fun o => o.seq == seq && !o.queued && !o.statusAsked && confirmed s o.sentAt (freshW c)) = true →
    exec (.messageAgeTimeout n seq) s = .next (sendCtl n 4 [(4, seq), (4, 0)]
      (putCtx { c with outMsgs := mapIf (fun o => o.seq == seq) (fun o => { o with statusAsked := true }) c.outMsgs } s))) ∧
  (∀ (n : Nat) (c : Ctx) (s : State), TimerRuns s n c → isQp c = false → c.outMsgs.any (fun o => !o.queued) = true →
    confirmed s c.heard (deadW c) = true →
    exec (.deadTimeExpiry n) s = .next (closeCtx eSession n (raise stTRN 4 noInst s))) ∧
  (∀ (n : Nat) (c : Ctx) (s : State), TimerRuns s n c → isQp c = false → c.txPhase = 0 ∨ c.txSince + 2 * freshW c ≤ mono s →
    exec (.keyPhaseChange n) s = .next (mirrorCtx n c.gen (putCtx (advancePhase s c) s))) ∧
  (∀ (n : Nat) (c : Ctx) (s : State), TimerRuns s n c → c.oldKey.any (fun x => confirmed s x 0) = true →
    exec (.oldKeyExpiry n) s = .next (putCtx { c with oldKey := none, keys := { c.keys with prevRx := none } } s)) ∧
  (∀ (n : Nat) (c : Ctx) (s : State), TimerRuns s n c → c.kind = .bryndle 5 →
    exec (.saRekey n) s = .next (sendCtl n 0x14 [(1, 5), (3, 0), (4, sessionField c), (32, (drawDigest s).1.toNat)]
      (putCtx { c with saNonce := (drawDigest s).1 } (drawDigest s).2))) ∧
  (∀ (n o at_ : Nat) (c : Ctx) (s : State), TimerRuns s n c → c.oldSpi = some (o, at_) → 0 < at_ → confirmed s at_ 0 = true →
    exec (.oldSaExpiry n) s = .next (putCtx { c with oldSpi := none, keys := { c.keys with prevEspRx := none },
                                                     espOld := { top := 0, seen := [] } } s)) ∧
  (∀ (n : Nat) (c : Ctx) (s : State), TimerRuns s n c → isQp c = true → c.qpAckAt.any (fun x => confirmed s x 0) = true →
    exec (.roceAckTimeout n) s = .next (qpRetry n s)) ∧
  (∀ (n : Nat) (c : Ctx) (s : State), taking s = true → ctxAt s n = some c → isQp c = true → c.closing = false →
    exec (.cnp n) s = .next (ccSignal n s)) ∧
  (∀ (n : Nat) (c : Ctx) (s : State), ctxAt s n = some c → c.closing = false → serving s = true → packetHeld s n = false →
    confirmed s c.rateAt (pSchCcRecover s * usU) = true →
    exec (.ccRecoverTimer n) s = .next (putCtx { c with cc := ccNow s c, ccAt := refillsNow s,
                                                        rate := min (macRate s c.mac) (c.rate + pSchCcStep s), rateAt := mono s } s))
end

