-- ==== Sys2Proof/Laws/FrameForms.lean ====
section
/-!
SUPPORT. What an operation leaves unchanged, part by part, as one relation between two states, and how it passes through the forms
operations are written in.
-/
namespace Sys2Proof
namespace Machine

/-- `t` and `s` agree on every part of the state whose bit of `w` is clear; bit `n` is the part of index `n` (Part.bit). -/
structure Frame (w : Nat) (t s : State) : Prop where
  vendorKeys : w.testBit 0 = false → t.auth.vendorKeys = s.auth.vendorKeys
  fuse : w.testBit 1 = false → t.auth.fusedSvn = s.auth.fusedSvn
  custodians : w.testBit 2 = false → (t.auth.custKeys, t.auth.quorumK) = (s.auth.custKeys, s.auth.quorumK)
  draws : w.testBit 3 = false → (t.auth.drawn, t.auth.freeUsed) = (s.auth.drawn, s.auth.freeUsed)
  authority : w.testBit 4 = false → (t.auth.keys, t.auth.timeKey, t.auth.escrowKey, t.auth.grants, t.auth.ceremonies, t.auth.targets, t.auth.fwConsent, t.auth.runningSvn, t.auth.release, t.auth.previous, t.auth.revoked, t.auth.asked, t.auth.staging, t.auth.debugNonce, t.auth.unlocked, t.auth.shelfKey, t.auth.shelfVault, t.auth.shelfEscrow, t.auth.escrowAt, t.auth.dramKey) = (s.auth.keys, s.auth.timeKey, s.auth.escrowKey, s.auth.grants, s.auth.ceremonies, s.auth.targets, s.auth.fwConsent, s.auth.runningSvn, s.auth.release, s.auth.previous, s.auth.revoked, s.auth.asked, s.auth.staging, s.auth.debugNonce, s.auth.unlocked, s.auth.shelfKey, s.auth.shelfVault, s.auth.shelfEscrow, s.auth.escrowAt, s.auth.dramKey)
  idleTicks : w.testBit 5 = false → t.time.idleTicks = s.time.idleTicks
  challenge : w.testBit 6 = false → t.time.challenge = s.time.challenge
  clocks : w.testBit 7 = false → (t.time.ticks, t.time.shelf, t.time.mono, t.time.openedAt, t.time.slewed, t.time.mode, t.time.everLocked, t.time.slewLeft, t.time.gm, t.time.distrusted, t.time.foreign, t.time.goodSince, t.time.ptpOffset, t.time.pathDelay, t.time.delayReq, t.time.onStandby, t.time.holdSince, t.time.ppsQual, t.time.ppsRun, t.time.refQual, t.time.refPpb, t.time.follower, t.time.aligned, t.time.leadMode, t.time.pairOffset, t.time.custody, t.time.custOffset, t.time.anchor, t.time.lastBeacon, t.time.beacons, t.time.vault, t.time.latch) = (s.time.ticks, s.time.shelf, s.time.mono, s.time.openedAt, s.time.slewed, s.time.mode, s.time.everLocked, s.time.slewLeft, s.time.gm, s.time.distrusted, s.time.foreign, s.time.goodSince, s.time.ptpOffset, s.time.pathDelay, s.time.delayReq, s.time.onStandby, s.time.holdSince, s.time.ppsQual, s.time.ppsRun, s.time.refQual, s.time.refPpb, s.time.follower, s.time.aligned, s.time.leadMode, s.time.pairOffset, s.time.custody, s.time.custOffset, s.time.anchor, s.time.lastBeacon, s.time.beacons, s.time.vault, s.time.latch)
  block : w.testBit 8 = false → t.block = s.block
  objects : w.testBit 9 = false → t.obj.objs = s.obj.objs
  tenants : w.testBit 10 = false → t.obj.tenants = s.obj.tenants
  containers : w.testBit 11 = false → (t.obj.epochs, t.obj.everTenant, t.obj.colls, t.obj.locks, t.obj.lapsed, t.obj.ingress, t.obj.erasures, t.obj.owed) = (s.obj.epochs, s.obj.everTenant, s.obj.colls, s.obj.locks, s.obj.lapsed, s.obj.ingress, s.obj.erasures, s.obj.owed)
  idx : w.testBit 12 = false → t.idx = s.idx
  log : w.testBit 13 = false → t.log = s.log
  mem : w.testBit 14 = false → t.mem = s.mem
  chains : w.testBit 15 = false → (t.fix.epoch, t.fix.certified, t.fix.certs, t.fix.issued, t.fix.disabled, t.fix.current, t.fix.past) = (s.fix.epoch, s.fix.certified, s.fix.certs, s.fix.issued, s.fix.disabled, s.fix.current, s.fix.past)
  batches : w.testBit 16 = false → (t.fix.batches, t.fix.deferred, t.fix.lastCkpt, t.fix.ckptUnanchored, t.fix.waiting) = (s.fix.batches, s.fix.deferred, s.fix.lastCkpt, s.fix.ckptUnanchored, s.fix.waiting)
  hitch : w.testBit 17 = false → t.hitch = s.hitch
  trn : w.testBit 18 = false → t.trn = s.trn
  landing : w.testBit 19 = false → t.reg.mem = s.reg.mem
  regions : w.testBit 20 = false → (t.reg.regions, t.reg.triggers, t.reg.ring, t.reg.armed) = (s.reg.regions, s.reg.triggers, s.reg.ring, s.reg.armed)
  net : w.testBit 21 = false → t.net = s.net
  sch : w.testBit 22 = false → t.sch = s.sch
  hold : w.testBit 23 = false → t.hold = s.hold
  mov : w.testBit 24 = false → t.mov = s.mov
  drv : w.testBit 25 = false → t.drv = s.drv
  sep : w.testBit 26 = false → t.sep = s.sep
  pair : w.testBit 27 = false → t.pair = s.pair
  tet : w.testBit 28 = false → t.tet = s.tet
  mbx : w.testBit 29 = false → t.mbx = s.mbx
  config : w.testBit 30 = false → (t.layers.base, t.layers.sets, t.layers.generation, t.layers.baseDigest, t.layers.baseClass, t.layers.anchorAge, t.layers.reservePct, t.layers.service, t.layers.overlays, t.layers.removing) = (s.layers.base, s.layers.sets, s.layers.generation, s.layers.baseDigest, s.layers.baseClass, s.layers.anchorAge, s.layers.reservePct, s.layers.service, s.layers.overlays, s.layers.removing)
  status : w.testBit 31 = false → (t.layers.status, t.layers.figures, t.layers.reported, t.layers.windowAt, t.layers.latched) = (s.layers.status, s.layers.figures, s.layers.reported, s.layers.windowAt, s.layers.latched)
  pwr : w.testBit 32 = false → t.pwr = s.pwr
  pst : w.testBit 33 = false → t.pst = s.pst
  ev : w.testBit 34 = false → t.ev = s.ev
  boot : w.testBit 35 = false → t.boot = s.boot
  spdm : w.testBit 36 = false → t.spdm = s.spdm
  out : w.testBit 37 = false → t.out = s.out
  held : w.testBit 38 = false → t.held = s.held
  nextId : w.testBit 39 = false → t.nextId = s.nextId
  pending : w.testBit 40 = false → t.pending = s.pending
/-- A next state of the outcome differs from `s` in the parts of `w` only. -/
def OutFrame (w : Nat) (o : Host.Outcome State Fault Refusal) (s : State) : Prop := ∀ t, o = .next t → Frame w t s
theorem Frame.refl {w : Nat} {s : State} : Frame w s s := by constructor <;> exact fun _ => rfl
theorem Frame.trans {w : Nat} {a b c : State} (h : Frame w a b) (k : Frame w b c) : Frame w a c := by
  constructor
  · exact fun e => (h.vendorKeys e).trans (k.vendorKeys e)
  · exact fun e => (h.fuse e).trans (k.fuse e)
  · exact fun e => (h.custodians e).trans (k.custodians e)
  · exact fun e => (h.draws e).trans (k.draws e)
  · exact fun e => (h.authority e).trans (k.authority e)
  · exact fun e => (h.idleTicks e).trans (k.idleTicks e)
  · exact fun e => (h.challenge e).trans (k.challenge e)
  · exact fun e => (h.clocks e).trans (k.clocks e)
  · exact fun e => (h.block e).trans (k.block e)
  · exact fun e => (h.objects e).trans (k.objects e)
  · exact fun e => (h.tenants e).trans (k.tenants e)
  · exact fun e => (h.containers e).trans (k.containers e)
  · exact fun e => (h.idx e).trans (k.idx e)
  · exact fun e => (h.log e).trans (k.log e)
  · exact fun e => (h.mem e).trans (k.mem e)
  · exact fun e => (h.chains e).trans (k.chains e)
  · exact fun e => (h.batches e).trans (k.batches e)
  · exact fun e => (h.hitch e).trans (k.hitch e)
  · exact fun e => (h.trn e).trans (k.trn e)
  · exact fun e => (h.landing e).trans (k.landing e)
  · exact fun e => (h.regions e).trans (k.regions e)
  · exact fun e => (h.net e).trans (k.net e)
  · exact fun e => (h.sch e).trans (k.sch e)
  · exact fun e => (h.hold e).trans (k.hold e)
  · exact fun e => (h.mov e).trans (k.mov e)
  · exact fun e => (h.drv e).trans (k.drv e)
  · exact fun e => (h.sep e).trans (k.sep e)
  · exact fun e => (h.pair e).trans (k.pair e)
  · exact fun e => (h.tet e).trans (k.tet e)
  · exact fun e => (h.mbx e).trans (k.mbx e)
  · exact fun e => (h.config e).trans (k.config e)
  · exact fun e => (h.status e).trans (k.status e)
  · exact fun e => (h.pwr e).trans (k.pwr e)
  · exact fun e => (h.pst e).trans (k.pst e)
  · exact fun e => (h.ev e).trans (k.ev e)
  · exact fun e => (h.boot e).trans (k.boot e)
  · exact fun e => (h.spdm e).trans (k.spdm e)
  · exact fun e => (h.out e).trans (k.out e)
  · exact fun e => (h.held e).trans (k.held e)
  · exact fun e => (h.nextId e).trans (k.nextId e)
  · exact fun e => (h.pending e).trans (k.pending e)
theorem Frame.symm {w : Nat} {a b : State} (h : Frame w a b) : Frame w b a := by
  constructor
  · exact fun e => (h.vendorKeys e).symm
  · exact fun e => (h.fuse e).symm
  · exact fun e => (h.custodians e).symm
  · exact fun e => (h.draws e).symm
  · exact fun e => (h.authority e).symm
  · exact fun e => (h.idleTicks e).symm
  · exact fun e => (h.challenge e).symm
  · exact fun e => (h.clocks e).symm
  · exact fun e => (h.block e).symm
  · exact fun e => (h.objects e).symm
  · exact fun e => (h.tenants e).symm
  · exact fun e => (h.containers e).symm
  · exact fun e => (h.idx e).symm
  · exact fun e => (h.log e).symm
  · exact fun e => (h.mem e).symm
  · exact fun e => (h.chains e).symm
  · exact fun e => (h.batches e).symm
  · exact fun e => (h.hitch e).symm
  · exact fun e => (h.trn e).symm
  · exact fun e => (h.landing e).symm
  · exact fun e => (h.regions e).symm
  · exact fun e => (h.net e).symm
  · exact fun e => (h.sch e).symm
  · exact fun e => (h.hold e).symm
  · exact fun e => (h.mov e).symm
  · exact fun e => (h.drv e).symm
  · exact fun e => (h.sep e).symm
  · exact fun e => (h.pair e).symm
  · exact fun e => (h.tet e).symm
  · exact fun e => (h.mbx e).symm
  · exact fun e => (h.config e).symm
  · exact fun e => (h.status e).symm
  · exact fun e => (h.pwr e).symm
  · exact fun e => (h.pst e).symm
  · exact fun e => (h.ev e).symm
  · exact fun e => (h.boot e).symm
  · exact fun e => (h.spdm e).symm
  · exact fun e => (h.out e).symm
  · exact fun e => (h.held e).symm
  · exact fun e => (h.nextId e).symm
  · exact fun e => (h.pending e).symm
theorem bit_sub {w v i : Nat} (h : w ||| v = v) (k : v.testBit i = false) : w.testBit i = false := by
  rw [← h, Nat.testBit_or, Bool.or_eq_false_iff] at k; exact k.1
theorem Frame.mono {w v : Nat} {t s : State} (h : Frame w t s) (k : w ||| v = v) : Frame v t s := by
  constructor
  · exact fun e => h.vendorKeys (bit_sub k e)
  · exact fun e => h.fuse (bit_sub k e)
  · exact fun e => h.custodians (bit_sub k e)
  · exact fun e => h.draws (bit_sub k e)
  · exact fun e => h.authority (bit_sub k e)
  · exact fun e => h.idleTicks (bit_sub k e)
  · exact fun e => h.challenge (bit_sub k e)
  · exact fun e => h.clocks (bit_sub k e)
  · exact fun e => h.block (bit_sub k e)
  · exact fun e => h.objects (bit_sub k e)
  · exact fun e => h.tenants (bit_sub k e)
  · exact fun e => h.containers (bit_sub k e)
  · exact fun e => h.idx (bit_sub k e)
  · exact fun e => h.log (bit_sub k e)
  · exact fun e => h.mem (bit_sub k e)
  · exact fun e => h.chains (bit_sub k e)
  · exact fun e => h.batches (bit_sub k e)
  · exact fun e => h.hitch (bit_sub k e)
  · exact fun e => h.trn (bit_sub k e)
  · exact fun e => h.landing (bit_sub k e)
  · exact fun e => h.regions (bit_sub k e)
  · exact fun e => h.net (bit_sub k e)
  · exact fun e => h.sch (bit_sub k e)
  · exact fun e => h.hold (bit_sub k e)
  · exact fun e => h.mov (bit_sub k e)
  · exact fun e => h.drv (bit_sub k e)
  · exact fun e => h.sep (bit_sub k e)
  · exact fun e => h.pair (bit_sub k e)
  · exact fun e => h.tet (bit_sub k e)
  · exact fun e => h.mbx (bit_sub k e)
  · exact fun e => h.config (bit_sub k e)
  · exact fun e => h.status (bit_sub k e)
  · exact fun e => h.pwr (bit_sub k e)
  · exact fun e => h.pst (bit_sub k e)
  · exact fun e => h.ev (bit_sub k e)
  · exact fun e => h.boot (bit_sub k e)
  · exact fun e => h.spdm (bit_sub k e)
  · exact fun e => h.out (bit_sub k e)
  · exact fun e => h.held (bit_sub k e)
  · exact fun e => h.nextId (bit_sub k e)
  · exact fun e => h.pending (bit_sub k e)
/-- `Frame` of a state given by its fields, the form a record update rewrites to. -/
def FrameM (w : Nat) (x_auth : Auth) (x_time : Time) (x_block : Block) (x_obj : Objects) (x_idx : Index) (x_log : Log) (x_mem : Members) (x_fix : Fixity) (x_hitch : Hitches) (x_trn : Transports) (x_reg : Regions) (x_net : Network) (x_sch : Sched) (x_hold : HoldSt) (x_mov : Mover) (x_drv : Drives) (x_sep : Endpoint) (x_pair : Pair) (x_tet : Tether) (x_mbx : Mailboxes) (x_layers : Layers) (x_pwr : Power) (x_pst : PowerStates) (x_ev : Events) (x_boot : StartUp) (x_spdm : Spdm) (x_out : List Msg) (x_held : List Held) (x_nextId : Nat) (x_pending : List Instr) (c : State) : Prop := Frame w (State.mk x_auth x_time x_block x_obj x_idx x_log x_mem x_fix x_hitch x_trn x_reg x_net x_sch x_hold x_mov x_drv x_sep x_pair x_tet x_mbx x_layers x_pwr x_pst x_ev x_boot x_spdm x_out x_held x_nextId x_pending) c
theorem frame_mkM (w : Nat) (c : State) x_auth x_time x_block x_obj x_idx x_log x_mem x_fix x_hitch x_trn x_reg x_net x_sch x_hold x_mov x_drv x_sep x_pair x_tet x_mbx x_layers x_pwr x_pst x_ev x_boot x_spdm x_out x_held x_nextId x_pending : Frame w (State.mk x_auth x_time x_block x_obj x_idx x_log x_mem x_fix x_hitch x_trn x_reg x_net x_sch x_hold x_mov x_drv x_sep x_pair x_tet x_mbx x_layers x_pwr x_pst x_ev x_boot x_spdm x_out x_held x_nextId x_pending) c = FrameM w x_auth x_time x_block x_obj x_idx x_log x_mem x_fix x_hitch x_trn x_reg x_net x_sch x_hold x_mov x_drv x_sep x_pair x_tet x_mbx x_layers x_pwr x_pst x_ev x_boot x_spdm x_out x_held x_nextId x_pending c := rfl
theorem frame_mk {w : Nat} {x c : State} {x_auth x_time x_block x_obj x_idx x_log x_mem x_fix x_hitch x_trn x_reg x_net x_sch x_hold x_mov x_drv x_sep x_pair x_tet x_mbx x_layers x_pwr x_pst x_ev x_boot x_spdm x_out x_held x_nextId x_pending}
    (h0 : w.testBit 0 = true ∨ (x_auth : Auth).vendorKeys = x.auth.vendorKeys)
    (h1 : w.testBit 1 = true ∨ (x_auth : Auth).fusedSvn = x.auth.fusedSvn)
    (h2 : w.testBit 2 = true ∨ ((x_auth : Auth).custKeys, (x_auth : Auth).quorumK) = (x.auth.custKeys, x.auth.quorumK))
    (h3 : w.testBit 3 = true ∨ ((x_auth : Auth).drawn, (x_auth : Auth).freeUsed) = (x.auth.drawn, x.auth.freeUsed))
    (h4 : w.testBit 4 = true ∨ ((x_auth : Auth).keys, (x_auth : Auth).timeKey, (x_auth : Auth).escrowKey, (x_auth : Auth).grants, (x_auth : Auth).ceremonies, (x_auth : Auth).targets, (x_auth : Auth).fwConsent, (x_auth : Auth).runningSvn, (x_auth : Auth).release, (x_auth : Auth).previous, (x_auth : Auth).revoked, (x_auth : Auth).asked, (x_auth : Auth).staging, (x_auth : Auth).debugNonce, (x_auth : Auth).unlocked, (x_auth : Auth).shelfKey, (x_auth : Auth).shelfVault, (x_auth : Auth).shelfEscrow, (x_auth : Auth).escrowAt, (x_auth : Auth).dramKey) = (x.auth.keys, x.auth.timeKey, x.auth.escrowKey, x.auth.grants, x.auth.ceremonies, x.auth.targets, x.auth.fwConsent, x.auth.runningSvn, x.auth.release, x.auth.previous, x.auth.revoked, x.auth.asked, x.auth.staging, x.auth.debugNonce, x.auth.unlocked, x.auth.shelfKey, x.auth.shelfVault, x.auth.shelfEscrow, x.auth.escrowAt, x.auth.dramKey))
    (h5 : w.testBit 5 = true ∨ (x_time : Time).idleTicks = x.time.idleTicks)
    (h6 : w.testBit 6 = true ∨ (x_time : Time).challenge = x.time.challenge)
    (h7 : w.testBit 7 = true ∨ ((x_time : Time).ticks, (x_time : Time).shelf, (x_time : Time).mono, (x_time : Time).openedAt, (x_time : Time).slewed, (x_time : Time).mode, (x_time : Time).everLocked, (x_time : Time).slewLeft, (x_time : Time).gm, (x_time : Time).distrusted, (x_time : Time).foreign, (x_time : Time).goodSince, (x_time : Time).ptpOffset, (x_time : Time).pathDelay, (x_time : Time).delayReq, (x_time : Time).onStandby, (x_time : Time).holdSince, (x_time : Time).ppsQual, (x_time : Time).ppsRun, (x_time : Time).refQual, (x_time : Time).refPpb, (x_time : Time).follower, (x_time : Time).aligned, (x_time : Time).leadMode, (x_time : Time).pairOffset, (x_time : Time).custody, (x_time : Time).custOffset, (x_time : Time).anchor, (x_time : Time).lastBeacon, (x_time : Time).beacons, (x_time : Time).vault, (x_time : Time).latch) = (x.time.ticks, x.time.shelf, x.time.mono, x.time.openedAt, x.time.slewed, x.time.mode, x.time.everLocked, x.time.slewLeft, x.time.gm, x.time.distrusted, x.time.foreign, x.time.goodSince, x.time.ptpOffset, x.time.pathDelay, x.time.delayReq, x.time.onStandby, x.time.holdSince, x.time.ppsQual, x.time.ppsRun, x.time.refQual, x.time.refPpb, x.time.follower, x.time.aligned, x.time.leadMode, x.time.pairOffset, x.time.custody, x.time.custOffset, x.time.anchor, x.time.lastBeacon, x.time.beacons, x.time.vault, x.time.latch))
    (h8 : w.testBit 8 = true ∨ x_block = x.block)
    (h9 : w.testBit 9 = true ∨ (x_obj : Objects).objs = x.obj.objs)
    (h10 : w.testBit 10 = true ∨ (x_obj : Objects).tenants = x.obj.tenants)
    (h11 : w.testBit 11 = true ∨ ((x_obj : Objects).epochs, (x_obj : Objects).everTenant, (x_obj : Objects).colls, (x_obj : Objects).locks, (x_obj : Objects).lapsed, (x_obj : Objects).ingress, (x_obj : Objects).erasures, (x_obj : Objects).owed) = (x.obj.epochs, x.obj.everTenant, x.obj.colls, x.obj.locks, x.obj.lapsed, x.obj.ingress, x.obj.erasures, x.obj.owed))
    (h12 : w.testBit 12 = true ∨ x_idx = x.idx)
    (h13 : w.testBit 13 = true ∨ x_log = x.log)
    (h14 : w.testBit 14 = true ∨ x_mem = x.mem)
    (h15 : w.testBit 15 = true ∨ ((x_fix : Fixity).epoch, (x_fix : Fixity).certified, (x_fix : Fixity).certs, (x_fix : Fixity).issued, (x_fix : Fixity).disabled, (x_fix : Fixity).current, (x_fix : Fixity).past) = (x.fix.epoch, x.fix.certified, x.fix.certs, x.fix.issued, x.fix.disabled, x.fix.current, x.fix.past))
    (h16 : w.testBit 16 = true ∨ ((x_fix : Fixity).batches, (x_fix : Fixity).deferred, (x_fix : Fixity).lastCkpt, (x_fix : Fixity).ckptUnanchored, (x_fix : Fixity).waiting) = (x.fix.batches, x.fix.deferred, x.fix.lastCkpt, x.fix.ckptUnanchored, x.fix.waiting))
    (h17 : w.testBit 17 = true ∨ x_hitch = x.hitch)
    (h18 : w.testBit 18 = true ∨ x_trn = x.trn)
    (h19 : w.testBit 19 = true ∨ (x_reg : Regions).mem = x.reg.mem)
    (h20 : w.testBit 20 = true ∨ ((x_reg : Regions).regions, (x_reg : Regions).triggers, (x_reg : Regions).ring, (x_reg : Regions).armed) = (x.reg.regions, x.reg.triggers, x.reg.ring, x.reg.armed))
    (h21 : w.testBit 21 = true ∨ x_net = x.net)
    (h22 : w.testBit 22 = true ∨ x_sch = x.sch)
    (h23 : w.testBit 23 = true ∨ x_hold = x.hold)
    (h24 : w.testBit 24 = true ∨ x_mov = x.mov)
    (h25 : w.testBit 25 = true ∨ x_drv = x.drv)
    (h26 : w.testBit 26 = true ∨ x_sep = x.sep)
    (h27 : w.testBit 27 = true ∨ x_pair = x.pair)
    (h28 : w.testBit 28 = true ∨ x_tet = x.tet)
    (h29 : w.testBit 29 = true ∨ x_mbx = x.mbx)
    (h30 : w.testBit 30 = true ∨ ((x_layers : Layers).base, (x_layers : Layers).sets, (x_layers : Layers).generation, (x_layers : Layers).baseDigest, (x_layers : Layers).baseClass, (x_layers : Layers).anchorAge, (x_layers : Layers).reservePct, (x_layers : Layers).service, (x_layers : Layers).overlays, (x_layers : Layers).removing) = (x.layers.base, x.layers.sets, x.layers.generation, x.layers.baseDigest, x.layers.baseClass, x.layers.anchorAge, x.layers.reservePct, x.layers.service, x.layers.overlays, x.layers.removing))
    (h31 : w.testBit 31 = true ∨ ((x_layers : Layers).status, (x_layers : Layers).figures, (x_layers : Layers).reported, (x_layers : Layers).windowAt, (x_layers : Layers).latched) = (x.layers.status, x.layers.figures, x.layers.reported, x.layers.windowAt, x.layers.latched))
    (h32 : w.testBit 32 = true ∨ x_pwr = x.pwr)
    (h33 : w.testBit 33 = true ∨ x_pst = x.pst)
    (h34 : w.testBit 34 = true ∨ x_ev = x.ev)
    (h35 : w.testBit 35 = true ∨ x_boot = x.boot)
    (h36 : w.testBit 36 = true ∨ x_spdm = x.spdm)
    (h37 : w.testBit 37 = true ∨ x_out = x.out)
    (h38 : w.testBit 38 = true ∨ x_held = x.held)
    (h39 : w.testBit 39 = true ∨ x_nextId = x.nextId)
    (h40 : w.testBit 40 = true ∨ x_pending = x.pending)
    (h : Frame w x c) : FrameM w x_auth x_time x_block x_obj x_idx x_log x_mem x_fix x_hitch x_trn x_reg x_net x_sch x_hold x_mov x_drv x_sep x_pair x_tet x_mbx x_layers x_pwr x_pst x_ev x_boot x_spdm x_out x_held x_nextId x_pending c := by
  unfold FrameM
  refine Frame.trans ?_ h
  constructor
  · exact fun e => h0.elim (fun k => absurd (k.symm.trans e) (by decide)) id
  · exact fun e => h1.elim (fun k => absurd (k.symm.trans e) (by decide)) id
  · exact fun e => h2.elim (fun k => absurd (k.symm.trans e) (by decide)) id
  · exact fun e => h3.elim (fun k => absurd (k.symm.trans e) (by decide)) id
  · exact fun e => h4.elim (fun k => absurd (k.symm.trans e) (by decide)) id
  · exact fun e => h5.elim (fun k => absurd (k.symm.trans e) (by decide)) id
  · exact fun e => h6.elim (fun k => absurd (k.symm.trans e) (by decide)) id
  · exact fun e => h7.elim (fun k => absurd (k.symm.trans e) (by decide)) id
  · exact fun e => h8.elim (fun k => absurd (k.symm.trans e) (by decide)) id
  · exact fun e => h9.elim (fun k => absurd (k.symm.trans e) (by decide)) id
  · exact fun e => h10.elim (fun k => absurd (k.symm.trans e) (by decide)) id
  · exact fun e => h11.elim (fun k => absurd (k.symm.trans e) (by decide)) id
  · exact fun e => h12.elim (fun k => absurd (k.symm.trans e) (by decide)) id
  · exact fun e => h13.elim (fun k => absurd (k.symm.trans e) (by decide)) id
  · exact fun e => h14.elim (fun k => absurd (k.symm.trans e) (by decide)) id
  · exact fun e => h15.elim (fun k => absurd (k.symm.trans e) (by decide)) id
  · exact fun e => h16.elim (fun k => absurd (k.symm.trans e) (by decide)) id
  · exact fun e => h17.elim (fun k => absurd (k.symm.trans e) (by decide)) id
  · exact fun e => h18.elim (fun k => absurd (k.symm.trans e) (by decide)) id
  · exact fun e => h19.elim (fun k => absurd (k.symm.trans e) (by decide)) id
  · exact fun e => h20.elim (fun k => absurd (k.symm.trans e) (by decide)) id
  · exact fun e => h21.elim (fun k => absurd (k.symm.trans e) (by decide)) id
  · exact fun e => h22.elim (fun k => absurd (k.symm.trans e) (by decide)) id
  · exact fun e => h23.elim (fun k => absurd (k.symm.trans e) (by decide)) id
  · exact fun e => h24.elim (fun k => absurd (k.symm.trans e) (by decide)) id
  · exact fun e => h25.elim (fun k => absurd (k.symm.trans e) (by decide)) id
  · exact fun e => h26.elim (fun k => absurd (k.symm.trans e) (by decide)) id
  · exact fun e => h27.elim (fun k => absurd (k.symm.trans e) (by decide)) id
  · exact fun e => h28.elim (fun k => absurd (k.symm.trans e) (by decide)) id
  · exact fun e => h29.elim (fun k => absurd (k.symm.trans e) (by decide)) id
  · exact fun e => h30.elim (fun k => absurd (k.symm.trans e) (by decide)) id
  · exact fun e => h31.elim (fun k => absurd (k.symm.trans e) (by decide)) id
  · exact fun e => h32.elim (fun k => absurd (k.symm.trans e) (by decide)) id
  · exact fun e => h33.elim (fun k => absurd (k.symm.trans e) (by decide)) id
  · exact fun e => h34.elim (fun k => absurd (k.symm.trans e) (by decide)) id
  · exact fun e => h35.elim (fun k => absurd (k.symm.trans e) (by decide)) id
  · exact fun e => h36.elim (fun k => absurd (k.symm.trans e) (by decide)) id
  · exact fun e => h37.elim (fun k => absurd (k.symm.trans e) (by decide)) id
  · exact fun e => h38.elim (fun k => absurd (k.symm.trans e) (by decide)) id
  · exact fun e => h39.elim (fun k => absurd (k.symm.trans e) (by decide)) id
  · exact fun e => h40.elim (fun k => absurd (k.symm.trans e) (by decide)) id
theorem frame_next {w : Nat} {t s : State} (h : Frame w t s) : OutFrame w (.next t) s := fun _ e => by cases e; exact h
theorem frame_fault {w : Nat} {r : Fault} {s : State} : OutFrame w (.fault r) s := fun _ e => by cases e
theorem frame_ite {w : Nat} {c : Prop} [Decidable c] {a b s : State} (h : Frame w a s) (k : Frame w b s) : Frame w (if c then a else b) s := by
  split <;> assumption
theorem frame_dite {w : Nat} {c : Prop} [Decidable c] {a : c → State} {b : ¬c → State} {s : State} (h : ∀ x, Frame w (a x) s) (k : ∀ x, Frame w (b x) s) :
    Frame w (if x : c then a x else b x) s := by
  split
  · exact h _
  · exact k _
theorem frame_oite {w : Nat} {c : Prop} [Decidable c] {a b : Host.Outcome State Fault Refusal} {s : State} (h : OutFrame w a s) (k : OutFrame w b s) :
    OutFrame w (if c then a else b) s := by
  split <;> assumption
theorem frame_foldl {w : Nat} {α : Type} {g : State → α → State} {l : List α} {s c : State} (h : ∀ a x, Frame w (g a x) a) (k : Frame w s c) : Frame w (l.foldl g s) c := by
  induction l generalizing s with
  | nil => exact k
  | cons x l ih => exact ih ((h s x).trans k)
theorem frame_foldl_snd {w : Nat} {α β : Type} {g : β × State → α → β × State} {l : List α} {p : β × State} {c : State} (h : ∀ p x, Frame w (g p x).2 p.2) (k : Frame w p.2 c) :
    Frame w (l.foldl g p).2 c := by
  induction l generalizing p with
  | nil => exact k
  | cons x l ih => exact ih ((h p x).trans k)
theorem frame_elim {w : Nat} {α : Type} {o : Option α} {a s : State} {f : α → State} (h : Frame w a s) (k : ∀ x, Frame w (f x) s) :
    Frame w (o.elim a f) s := by cases o with
  | none => exact h
  | some x => exact k x
theorem frame_mapD {w : Nat} {α : Type} {o : Option α} {f : α → State} {d c : State} (h : ∀ x, Frame w (f x) c) (k : Frame w d c) :
    Frame w ((o.map f).getD d) c := by cases o with
  | none => exact k
  | some x => exact h x
theorem frame_snd {w : Nat} {α : Type} {p : α × State} {a : α} {t c : State} (h : p = (a, t)) (k : Frame w p.2 c) : Frame w t c := by subst h; exact k
theorem frame_snd2 {w : Nat} {α β : Type} {p : α × β × State} {a : α} {b : β} {t c : State} (h : p = (a, b, t)) (k : Frame w p.2.2 c) : Frame w t c := by subst h; exact k
theorem frame_step {w v : Nat} {t s c : State} (h : Frame w t s) (k : w ||| v = v) : Frame v t c = Frame v s c :=
  propext ⟨fun j => (h.mono k).symm.trans j, fun j => (h.mono k).trans j⟩
theorem frame_rfl {w : Nat} (s : State) : Frame w s s = True := eq_true Frame.refl
theorem outFrame_next {w : Nat} (t s : State) : OutFrame w (.next t) s = Frame w t s := propext ⟨fun h => h t rfl, frame_next⟩
theorem outFrame_fault {w : Nat} (r : Fault) (s : State) : OutFrame w (.fault r) s = True := eq_true frame_fault
theorem sub_trans {w v x : Nat} (h : w ||| v = v) (k : v ||| x = x) : w ||| x = x := by
  rw [← k, ← Nat.or_assoc, h]
theorem bit_sup {w v i : Nat} (h : w ||| v = v) (k : w.testBit i = true) : v.testBit i = true := by
  rw [← h, Nat.testBit_or, k, Bool.true_or]
theorem frame_stepH {w v x : Nat} {t s c : State} (hw : v ||| x = x) (h : Frame w t s) (k : w ||| v = v) : Frame x t c = Frame x s c :=
  frame_step h (sub_trans k hw)
theorem Frame.agree {w : Nat} {t s : State} (h : Frame w t s) (p : Part) (k : w.testBit p.bit = false) : p.agree t s := by
  cases p
  · exact h.vendorKeys k
  · exact h.fuse k
  · exact h.custodians k
  · exact h.draws k
  · exact h.authority k
  · exact h.idleTicks k
  · exact h.challenge k
  · exact h.clocks k
  · exact h.block k
  · exact h.objects k
  · exact h.tenants k
  · exact h.containers k
  · exact h.idx k
  · exact h.log k
  · exact h.mem k
  · exact h.chains k
  · exact h.batches k
  · exact h.hitch k
  · exact h.trn k
  · exact h.landing k
  · exact h.regions k
  · exact h.net k
  · exact h.sch k
  · exact h.hold k
  · exact h.mov k
  · exact h.drv k
  · exact h.sep k
  · exact h.pair k
  · exact h.tet k
  · exact h.mbx k
  · exact h.config k
  · exact h.status k
  · exact h.pwr k
  · exact h.pst k
  · exact h.ev k
  · exact h.boot k
  · exact h.spdm k
  · exact h.out k
  · exact h.held k
  · exact h.nextId k
  · exact h.pending k
/-- Every part, in the order of its index. -/
def parts : List Part := [.vendorKeys, .fuse, .custodians, .draws, .authority, .idleTicks, .challenge, .clocks, .block, .objects, .tenants, .containers, .idx, .log, .mem, .chains, .batches, .hitch, .trn, .landing, .regions, .net, .sch, .hold, .mov, .drv, .sep, .pair, .tet, .mbx, .config, .status, .pwr, .pst, .ev, .boot, .spdm, .out, .held, .nextId, .pending]
theorem parts_bit (p : Part) : parts[p.bit]? = some p := by cases p <;> rfl
theorem Part.bit_inj {p q : Part} (h : p.bit = q.bit) : p = q := by
  have := parts_bit p
  rw [h, parts_bit q] at this
  exact (Option.some.inj this).symm
theorem maskOf_clear {ps : List Part} {p : Part} (h : p ∉ ps) : (maskOf ps).testBit p.bit = false := by
  have key : ∀ (l : List Part) (m : Nat), p ∉ l → m.testBit p.bit = false → (l.foldl (fun m q => m ||| 2 ^ q.bit) m).testBit p.bit = false := by
    intro l
    induction l with
    | nil => exact fun _ _ k => k
    | cons q r ih =>
      intro m hl hm
      rw [List.mem_cons, not_or] at hl
      refine ih _ hl.2 ?_
      rw [Nat.testBit_or, hm, Bool.false_or, Nat.testBit_two_pow]
      exact decide_eq_false (fun e => hl.1 (Part.bit_inj e.symm))
  exact key ps 0 h (Nat.zero_testBit _)
theorem Frame.changesOnly {w : Nat} {t s : State} {ps : List Part} (h : Frame w t s) (k : maskOf ps = w) : ChangesOnly ps t s :=
  fun p hp => h.agree p (k ▸ maskOf_clear hp)
theorem bit_and {w v i : Nat} (h : w &&& v = 0) (k : v.testBit i = true) : w.testBit i = false := by
  have := congrArg (fun x => x.testBit i) h
  simpa [Nat.testBit_and, k] using this
/-! Whole groups of the state, where every part of them is kept. -/
theorem Frame.auth {w : Nat} {t s : State} (h : Frame w t s) (k : w &&& 31 = 0) : t.auth = s.auth := by
  have h0 := h.vendorKeys (bit_and k rfl)
  have h1 := h.fuse (bit_and k rfl)
  have h2 := h.custodians (bit_and k rfl)
  have h3 := h.draws (bit_and k rfl)
  have h4 := h.authority (bit_and k rfl)
  generalize t.auth = x at *
  generalize s.auth = y at *
  cases x; cases y
  simp only [Prod.mk.injEq] at *
  simp_all only
theorem Frame.time {w : Nat} {t s : State} (h : Frame w t s) (k : w &&& 224 = 0) : t.time = s.time := by
  have h5 := h.idleTicks (bit_and k rfl)
  have h6 := h.challenge (bit_and k rfl)
  have h7 := h.clocks (bit_and k rfl)
  generalize t.time = x at *
  generalize s.time = y at *
  cases x; cases y
  simp only [Prod.mk.injEq] at *
  simp_all only
theorem Frame.obj {w : Nat} {t s : State} (h : Frame w t s) (k : w &&& 3584 = 0) : t.obj = s.obj := by
  have h9 := h.objects (bit_and k rfl)
  have h10 := h.tenants (bit_and k rfl)
  have h11 := h.containers (bit_and k rfl)
  generalize t.obj = x at *
  generalize s.obj = y at *
  cases x; cases y
  simp only [Prod.mk.injEq] at *
  simp_all only
theorem Frame.fix {w : Nat} {t s : State} (h : Frame w t s) (k : w &&& 98304 = 0) : t.fix = s.fix := by
  have h15 := h.chains (bit_and k rfl)
  have h16 := h.batches (bit_and k rfl)
  generalize t.fix = x at *
  generalize s.fix = y at *
  cases x; cases y
  simp only [Prod.mk.injEq] at *
  simp_all only
theorem Frame.reg {w : Nat} {t s : State} (h : Frame w t s) (k : w &&& 1572864 = 0) : t.reg = s.reg := by
  have h19 := h.landing (bit_and k rfl)
  have h20 := h.regions (bit_and k rfl)
  generalize t.reg = x at *
  generalize s.reg = y at *
  cases x; cases y
  simp only [Prod.mk.injEq] at *
  simp_all only
theorem Frame.layers {w : Nat} {t s : State} (h : Frame w t s) (k : w &&& 3221225472 = 0) : t.layers = s.layers := by
  have h30 := h.config (bit_and k rfl)
  have h31 := h.status (bit_and k rfl)
  generalize t.layers = x at *
  generalize s.layers = y at *
  cases x; cases y
  simp only [Prod.mk.injEq] at *
  simp_all only

end Machine
end Sys2Proof
end

