-- ==== Sys2Proof/Laws/FairFrame.lean ====
section
/-!
SUPPORT. What the definitions of Machine/Fair.lean leave unchanged.
-/
namespace Sys2Proof
namespace Machine
set_option maxRecDepth 100000
set_option linter.unusedSimpArgs false

theorem putBuckets_frame {a1 s} : Frame 4194304 (putBuckets a1 s) s := by
  unfold putBuckets
  repeat' first
    | simp only [↓frame_mkM, ↓frame_rfl]
    | with_reducible apply frame_mk <;> first | exact .inl rfl | exact .inr rfl | skip
theorem refill_frame {s} : Frame 4194304 (refill s) s := by
  unfold refill
  repeat' first
    | with_reducible refine frame_ite ?_ ?_
    | simp only [↓frame_mkM, ↓frame_rfl]
    | with_reducible apply frame_mk <;> first | exact .inl rfl | exact .inr rfl | skip

end Machine
end Sys2Proof
end

