-- ==== Sys2Proof/Laws/FlagsFrame.lean ====
section
/-!
SUPPORT. What the definitions of Machine/Flags.lean leave unchanged.
-/
namespace Sys2Proof
namespace Machine
set_option maxRecDepth 100000
set_option linter.unusedSimpArgs false

theorem setFigure_frame {a1 a2 s} : Frame 2147483648 (setFigure a1 a2 s) s := by
  unfold setFigure
  repeat' first
    | simp only [↓frame_mkM, ↓frame_rfl]
    | with_reducible apply frame_mk <;> first | exact .inl rfl | exact .inr rfl | skip
theorem bumpFigure_frame {a1 a2 s} : Frame 2147483648 (bumpFigure a1 a2 s) s := by
  unfold bumpFigure
  simp only [↓frame_rfl, Nat.reduceOr, ↓frame_step setFigure_frame]
theorem orStatus_frame {a1 a2 s} : Frame 2147483648 (orStatus a1 a2 s) s := by
  unfold orStatus
  repeat' first
    | simp only [↓frame_mkM, ↓frame_rfl]
    | with_reducible apply frame_mk <;> first | exact .inl rfl | exact .inr rfl | skip
theorem clearStatus_frame {a1 a2 s} : Frame 2147483648 (clearStatus a1 a2 s) s := by
  unfold clearStatus
  repeat' first
    | simp only [↓frame_mkM, ↓frame_rfl]
    | with_reducible apply frame_mk <;> first | exact .inl rfl | exact .inr rfl | skip
theorem placeAll_frame {s a2 a3 a4} : Frame 17179869184 (placeAll s a2 a3 a4).1 s := by
  unfold placeAll
  repeat' first
    | simp only [↓frame_mkM, ↓frame_rfl]
    | with_reducible apply frame_mk <;> first | exact .inl rfl | exact .inr rfl | skip
theorem msix_frame {a1 s} : Frame 137506062336 (msix a1 s) s := by
  unfold msix
  repeat' first
    | with_reducible refine frame_ite ?_ ?_
    | simp only [↓frame_mkM, ↓frame_rfl]
    | with_reducible apply frame_mk <;> first | exact .inl rfl | exact .inr rfl | skip
theorem placeEvent_frame {a1 a2 a3 s} : Frame 156833415168 (placeEvent a1 a2 a3 s) s := by
  unfold placeEvent
  repeat' first
    | with_reducible refine frame_ite ?_ ?_
    | simp only [↓frame_rfl, Nat.reduceOr, ↓frame_step orStatus_frame, ↓frame_step msix_frame, ↓frame_step placeAll_frame,
        ↓frame_step bumpFigure_frame]
    | split
theorem raiseEvent_frame {a1 a2 a3 s} : Frame 156833415168 (raiseEvent a1 a2 a3 s) s := by
  unfold raiseEvent
  simp only [↓frame_rfl, Nat.reduceOr, ↓frame_step placeEvent_frame]
theorem raise_frame {a1 a2 a3 s} : Frame 156833415168 (raise a1 a2 a3 s) s := by
  unfold raise
  simp only [↓frame_rfl, Nat.reduceOr, ↓frame_step raiseEvent_frame, ↓frame_step orStatus_frame]
theorem raiseLost_frame {a1 s} : Frame 156833415168 (raiseLost a1 s) s := by
  unfold raiseLost
  simp only [↓frame_rfl, Nat.reduceOr, ↓frame_step placeEvent_frame, ↓frame_step orStatus_frame]

end Machine
end Sys2Proof
end

