-- ==== Sys2Proof/Laws/OpsFrame.lean ====
section
/-!
SUPPORT. What the definitions of Machine/Ops.lean leave unchanged.
-/
namespace Sys2Proof
namespace Machine
set_option maxRecDepth 100000
set_option linter.unusedSimpArgs false

theorem tick_frame {s} : Frame 128 (tick s) s := by
  unfold tick
  repeat' first
    | simp only [↓frame_mkM, ↓frame_rfl]
    | with_reducible apply frame_mk <;> first | exact .inl rfl | exact .inr rfl | skip
theorem draw_frame {s} : Frame 8 (draw s).2 s := by
  unfold draw
  repeat' first
    | simp only [↓frame_mkM, ↓frame_rfl]
    | with_reducible apply frame_mk <;> first | exact .inl rfl | exact .inr rfl | skip
theorem drawDigest_frame {s} : Frame 8 (drawDigest s).2 s := by
  unfold drawDigest
  simp only [↓frame_rfl, Nat.reduceOr, ↓frame_step draw_frame]
theorem free_frame {s} : Frame 8 (free s).2 s := by
  unfold free
  repeat' first
    | simp only [↓frame_mkM, ↓frame_rfl]
    | with_reducible apply frame_mk <;> first | exact .inl rfl | exact .inr rfl | skip
theorem putShard_frame {a1 s} : Frame 8192 (putShard a1 s) s := by
  unfold putShard
  repeat' first
    | simp only [↓frame_mkM, ↓frame_rfl]
    | with_reducible apply frame_mk <;> first | exact .inl rfl | exact .inr rfl | skip
theorem sequence_frame {a1 s} : Frame 8192 (sequence a1 s).2 s := by
  unfold sequence
  simp only [↓frame_rfl, Nat.reduceOr, ↓frame_step putShard_frame]
theorem putCtx_frame {a1 s} : Frame 262144 (putCtx a1 s) s := by
  unfold putCtx
  repeat' first
    | simp only [↓frame_mkM, ↓frame_rfl]
    | with_reducible apply frame_mk <;> first | exact .inl rfl | exact .inr rfl | skip
theorem send_frame {a1 s} : Frame 137438953472 (send a1 s) s := by
  unfold send
  repeat' first
    | with_reducible refine frame_ite ?_ ?_
    | simp only [↓frame_mkM, ↓frame_rfl]
    | with_reducible apply frame_mk <;> first | exact .inl rfl | exact .inr rfl | skip
theorem hold_frame {a1 s} : Frame 824633720832 (hold a1 s) s := by
  unfold hold
  repeat' first
    | simp only [↓frame_mkM, ↓frame_rfl]
    | with_reducible apply frame_mk <;> first | exact .inl rfl | exact .inr rfl | skip
theorem holdNotVisible_frame {a1 a2 s} : Frame 824633720832 (holdNotVisible a1 a2 s) s := by
  unfold holdNotVisible
  simp only [↓frame_rfl, Nat.reduceOr, ↓frame_step hold_frame]
theorem wake_frame {a1 s} : Frame 10737418248 (wake a1 s) s := by
  unfold wake
  repeat' first
    | with_reducible refine frame_ite ?_ ?_
    | simp only [↓frame_mkM, ↓frame_rfl, Nat.reduceOr, ↓frame_step orStatus_frame, ↓frame_step setFigure_frame, ↓frame_step free_frame]
    | with_reducible apply frame_mk <;> first | exact .inl rfl | exact .inr rfl | skip
    | split
theorem hostWork_frame {s} : Frame 8589934592 (hostWork s) s := by
  unfold hostWork
  repeat' first
    | with_reducible refine frame_ite ?_ ?_
    | simp only [↓frame_mkM, ↓frame_rfl]
    | with_reducible apply frame_mk <;> first | exact .inl rfl | exact .inr rfl | skip

end Machine
end Sys2Proof
end

