-- ==== Sys2Proof/Laws/RowsFrame.lean ====
section
/-!
SUPPORT. What the definitions of Machine/Rows.lean leave unchanged.
-/
namespace Sys2Proof
namespace Machine
set_option maxRecDepth 100000
set_option linter.unusedSimpArgs false

theorem putPort_frame {a1 a2 s} : Frame 33554432 (putPort a1 a2 s) s := by
  unfold putPort
  repeat' first
    | simp only [↓frame_mkM, ↓frame_rfl]
    | with_reducible apply frame_mk <;> first | exact .inl rfl | exact .inr rfl | skip
theorem putMember_frame {a1 a2 s} : Frame 16384 (putMember a1 a2 s) s := by
  unfold putMember
  repeat' first
    | simp only [↓frame_mkM, ↓frame_rfl]
    | with_reducible apply frame_mk <;> first | exact .inl rfl | exact .inr rfl | skip
theorem pairState_frame {a1 a2 s} : Frame 137438953472 (pairState a1 a2 s) s := by
  unfold pairState
  repeat' first
    | with_reducible refine frame_ite ?_ ?_
    | simp only [↓frame_rfl, Nat.reduceOr, ↓frame_step send_frame]

end Machine
end Sys2Proof
end

