-- ==== Sys2Proof/Laws/DriveOpsFrame.lean ====
section
/-!
SUPPORT. What the definitions of Machine/DriveOps.lean leave unchanged.
-/
namespace Sys2Proof
namespace Machine
set_option maxRecDepth 100000
set_option linter.unusedSimpArgs false

theorem putWindow_frame {a1 s} : Frame 4194304 (putWindow a1 s) s := by
  unfold putWindow
  repeat' first
    | simp only [↓frame_mkM, ↓frame_rfl]
    | with_reducible apply frame_mk <;> first | exact .inl rfl | exact .inr rfl | skip
theorem startDrive_frame {a1 a2 s} : Frame 156871163904 (startDrive a1 a2 s) s := by
  unfold startDrive
  repeat' first
    | with_reducible refine frame_ite ?_ ?_
    | simp only [↓frame_rfl, Nat.reduceOr, ↓frame_step send_frame, ↓frame_step raise_frame, ↓frame_step putWindow_frame,
        ↓frame_step putPort_frame]
theorem pumpSlots_frame {a1 a2 s} : Frame 156871163904 (pumpSlots a1 a2 s) s := by
  fun_induction pumpSlots a1 a2 s <;> (try rename_i ih)
  repeat' first
    | with_reducible refine frame_ite ?_ ?_
    | simp only [↓frame_rfl, Nat.reduceOr, ↓frame_step startDrive_frame, ↓frame_step ih]
    | simp only [↓frame_rfl, Nat.reduceOr, ↓frame_step startDrive_frame]
theorem pumpPort_frame {a1 s} : Frame 156871163904 (pumpPort a1 s) s := by
  unfold pumpPort
  repeat' first
    | with_reducible refine frame_ite ?_ ?_
    | simp only [↓frame_rfl, Nat.reduceOr, ↓frame_step pumpSlots_frame, ↓frame_step refill_frame]
theorem pumpDrives_frame {s} : Frame 156871163904 (pumpDrives s) s := by
  unfold pumpDrives
  repeat' first
    | simp only [↓frame_rfl, Nat.reduceOr, ↓frame_step pumpPort_frame]
    | with_reducible refine frame_foldl (fun _ _ => ?_) ?_
theorem issueCmd_frame {a1 a2 s} : Frame 156871163904 (issueCmd a1 a2 s).2 s := by
  unfold issueCmd
  simp only [↓frame_rfl, Nat.reduceOr, ↓frame_step pumpPort_frame, ↓frame_step putPort_frame]
theorem issueRetry_frame {a1 a2 a3 a4 a5 a6 a7 a8 s} : Frame 156871163904 (issueRetry a1 a2 a3 a4 a5 a6 a7 a8 s).2 s := by
  unfold issueRetry
  simp only [↓frame_rfl, Nat.reduceOr, ↓frame_step issueCmd_frame]
theorem issueFlow_frame {a1 a2 a3 a4 a5 a6 s} : Frame 156871163904 (issueFlow a1 a2 a3 a4 a5 a6 s).2 s := by
  unfold issueFlow
  simp only [↓frame_rfl, Nat.reduceOr, ↓frame_step issueCmd_frame]
theorem issueDrive_frame {a1 a2 a3 a4 a5 s} : Frame 156871163904 (issueDrive a1 a2 a3 a4 a5 s).2 s := by
  unfold issueDrive
  simp only [↓frame_rfl, Nat.reduceOr, ↓frame_step issueFlow_frame]
theorem issueWrite_frame {a1 a2 a3 a4 a5 a6 s} : Frame 156871163904 (issueWrite a1 a2 a3 a4 a5 a6 s).2 s := by
  unfold issueWrite
  simp only [↓frame_rfl, Nat.reduceOr, ↓frame_step issueCmd_frame]
theorem dropCmd_frame {a1 a2 s} : Frame 156871163904 (dropCmd a1 a2 s) s := by
  unfold dropCmd
  simp only [↓frame_rfl, Nat.reduceOr, ↓frame_step pumpPort_frame, ↓frame_step putPort_frame]
theorem nextPiece_frame {a1 a2 s} : Frame 156871163904 (nextPiece a1 a2 s) s := by
  unfold nextPiece
  simp only [↓frame_rfl, Nat.reduceOr, ↓frame_step pumpPort_frame, ↓frame_step putPort_frame]
theorem quarantineTag_frame {a1 a2 s} : Frame 33554432 (quarantineTag a1 a2 s) s := by
  unfold quarantineTag
  simp only [↓frame_rfl, Nat.reduceOr, ↓frame_step putPort_frame]
theorem lateCompletion_frame {a1 s} : Frame 156833415168 (lateCompletion a1 s) s := by
  unfold lateCompletion
  simp only [↓frame_rfl, Nat.reduceOr, ↓frame_step raise_frame, ↓frame_step bumpFigure_frame]

end Machine
end Sys2Proof
end

