-- ==== Sys2Proof/Laws/LogOpsFrame.lean ====
section
/-!
SUPPORT. What the definitions of Machine/LogOps.lean leave unchanged.
-/
namespace Sys2Proof
namespace Machine
set_option maxRecDepth 100000
set_option linter.unusedSimpArgs false

theorem askSegments_frame {s} : Frame 137438953472 (askSegments s) s := by
  unfold askSegments
  repeat' first
    | with_reducible refine frame_ite ?_ ?_
    | simp only [↓frame_rfl, Nat.reduceOr, ↓frame_step pairState_frame]
theorem mapSeg_frame {a1 a2 s} : Frame 8192 (mapSeg a1 a2 s) s := by
  unfold mapSeg
  repeat' first
    | simp only [↓frame_mkM, ↓frame_rfl]
    | with_reducible apply frame_mk <;> first | exact .inl rfl | exact .inr rfl | skip
theorem mapRow_frame {a1 a2 a3 s} : Frame 8192 (mapRow a1 a2 a3 s) s := by
  unfold mapRow
  repeat' first
    | simp only [↓frame_mkM, ↓frame_rfl]
    | with_reducible apply frame_mk <;> first | exact .inl rfl | exact .inr rfl | skip
theorem ringWrite_frame {a1 a2 s} : Frame 156871180296 (ringWrite a1 a2 s) s := by
  unfold ringWrite
  repeat' first
    | simp only [↓frame_rfl, Nat.reduceOr, ↓frame_step issueWrite_frame, ↓frame_step putMember_frame, ↓frame_step draw_frame]
    | with_reducible refine frame_snd (by assumption) ?_
    | split
theorem ringCopies_frame {a1 s} : Frame 156871188488 (ringCopies a1 s) s := by
  unfold ringCopies
  repeat' first
    | with_reducible refine frame_ite ?_ ?_
    | simp only [↓frame_mkM, ↓frame_rfl, Nat.reduceOr, ↓frame_step raise_frame, ↓frame_step ringWrite_frame]
    | with_reducible apply frame_mk <;> first | exact .inl rfl | exact .inr rfl | skip
    | with_reducible refine frame_foldl (fun _ _ => ?_) ?_
theorem mirrorSend_frame {a1 s} : Frame 137573171200 (mirrorSend a1 s) s := by
  unfold mirrorSend
  repeat' first
    | with_reducible refine frame_ite ?_ ?_
    | simp only [↓frame_mkM, ↓frame_rfl, Nat.reduceOr, ↓frame_step send_frame]
    | with_reducible apply frame_mk <;> first | exact .inl rfl | exact .inr rfl | skip
theorem noteJournal_frame {s} : Frame 2147483648 (noteJournal s) s := by
  unfold noteJournal
  simp only [↓frame_rfl, Nat.reduceOr, ↓frame_step setFigure_frame]
theorem splice_frame {a1 a2 a3 a4 a5 a6 s} : Frame 157005406216 (splice a1 a2 a3 a4 a5 a6 s).2 s := by
  unfold splice
  repeat' first
    | simp only [↓frame_mkM, ↓frame_rfl, Nat.reduceOr, ↓frame_step mirrorSend_frame, ↓frame_step ringCopies_frame,
        ↓frame_step noteJournal_frame, ↓frame_step putShard_frame, ↓frame_step draw_frame]
    | with_reducible apply frame_mk <;> first | exact .inl rfl | exact .inr rfl | skip
    | with_reducible refine frame_snd (by assumption) ?_
    | split
theorem retireShard_frame {a1 s} : Frame 157005406216 (retireShard a1 s) s := by
  unfold retireShard
  repeat' first
    | with_reducible refine frame_ite ?_ ?_
    | simp only [↓frame_mkM, ↓frame_rfl, Nat.reduceOr, ↓frame_step mirrorSend_frame, ↓frame_step splice_frame, ↓frame_step putShard_frame]
    | with_reducible apply frame_mk <;> first | exact .inl rfl | exact .inr rfl | skip
    | with_reducible refine frame_snd (by assumption) ?_
    | split
theorem retireRow_frame {a1 a2 s} : Frame 157005406216 (retireRow a1 a2 s) s := by
  unfold retireRow
  repeat' first
    | simp only [↓frame_mkM, ↓frame_rfl, Nat.reduceOr, ↓frame_step retireShard_frame]
    | with_reducible apply frame_mk <;> first | exact .inl rfl | exact .inr rfl | skip
    | with_reducible refine frame_foldl (fun _ _ => ?_) ?_
theorem ringDone_frame {a1 a2 a3 a4 s} : Frame 156871188488 (ringDone a1 a2 a3 a4 s) s := by
  unfold ringDone
  repeat' first
    | with_reducible refine frame_ite ?_ ?_
    | simp only [↓frame_mkM, ↓frame_rfl, Nat.reduceOr, ↓frame_step ringCopies_frame]
    | with_reducible apply frame_mk <;> first | exact .inl rfl | exact .inr rfl | skip
    | split
theorem issueRow_frame {a1 a2 s} : Frame 156871172096 (issueRow a1 a2 s) s := by
  unfold issueRow
  repeat' first
    | with_reducible refine frame_ite ?_ ?_
    | simp only [↓frame_rfl, Nat.reduceOr, ↓frame_step issueWrite_frame, ↓frame_step mapRow_frame]
    | with_reducible refine frame_foldl (fun _ _ => ?_) ?_
    | split
theorem closeRow_frame {a1 s} : Frame 156871172096 (closeRow a1 s) s := by
  unfold closeRow
  repeat' first
    | simp only [↓frame_mkM, ↓frame_rfl, Nat.reduceOr, ↓frame_step issueRow_frame, ↓frame_step putShard_frame]
    | with_reducible apply frame_mk <;> first | exact .inl rfl | exact .inr rfl | skip
theorem segEntry_frame {a1 a2 a3 s} : Frame 157005406216 (segEntry a1 a2 a3 s) s := by
  unfold segEntry
  simp only [↓frame_rfl, Nat.reduceOr, ↓frame_step splice_frame]
theorem openHead_frame {a1 a2 a3 s} : Frame 157005406216 (openHead a1 a2 a3 s).2 s := by
  unfold openHead
  repeat' first
    | with_reducible refine frame_ite ?_ ?_
    | simp only [↓frame_mkM, ↓frame_rfl, Nat.reduceOr, ↓frame_step raise_frame, ↓frame_step askSegments_frame, ↓frame_step segEntry_frame]
    | with_reducible apply frame_mk <;> first | exact .inl rfl | exact .inr rfl | skip
    | split
theorem fillUnits_frame {a1 a2 a3 a4 a5 s} : Frame 156871172096 (fillUnits a1 a2 a3 a4 a5 s) s := by
  fun_induction fillUnits a1 a2 a3 a4 a5 s <;> (try rename_i ih)
  repeat' first
    | with_reducible refine frame_ite ?_ ?_
    | simp only [↓frame_mkM, ↓frame_rfl, Nat.reduceOr, ↓frame_step closeRow_frame, ↓frame_step ih]
    | simp only [↓frame_mkM, ↓frame_rfl, Nat.reduceOr, ↓frame_step closeRow_frame]
    | with_reducible apply frame_mk <;> first | exact .inl rfl | exact .inr rfl | skip
theorem fillSegment_frame {a1 a2 a3 a4 s} : Frame 156871172096 (fillSegment a1 a2 a3 a4 s) s := by
  fun_induction fillSegment a1 a2 a3 a4 s <;> (try rename_i ih)
  repeat' first
    | simp only [↓frame_rfl, Nat.reduceOr, ↓frame_step closeRow_frame, ↓frame_step ih]
    | simp only [↓frame_rfl, Nat.reduceOr, ↓frame_step closeRow_frame]
theorem layRecord_frame {a1 a2 a3 a4 a5 s} : Frame 156871172096 (layRecord a1 a2 a3 a4 a5 s).2 s := by
  unfold layRecord
  repeat' first
    | simp only [↓frame_mkM, ↓frame_rfl, Nat.reduceOr, ↓frame_step fillUnits_frame]
    | with_reducible apply frame_mk <;> first | exact .inl rfl | exact .inr rfl | skip
theorem writeUnits_frame {a1 a2 a3 a4 a5 a6 a7 a8 a9 s} : Frame 157005406216 (writeUnits a1 a2 a3 a4 a5 a6 a7 a8 a9 s).2 s := by
  induction a7 generalizing a8 a9 s with
  | zero => exact Frame.refl
  | succ n ih =>
    unfold writeUnits
    repeat' first
      | simp only [↓frame_rfl, Nat.reduceOr, ↓frame_step ih, ↓frame_step layRecord_frame, ↓frame_step fillSegment_frame, ↓frame_step openHead_frame]
      | with_reducible refine frame_snd (by assumption) ?_
      | split
theorem spliceRecord_frame {a1 a2 a3 a4 a5 a6 a7 s} : Frame 157005406216 (spliceRecord a1 a2 a3 a4 a5 a6 a7 s) s := by
  unfold spliceRecord
  repeat' first
    | simp only [↓frame_rfl, Nat.reduceOr, ↓frame_step splice_frame]
    | with_reducible refine frame_foldl (fun _ _ => ?_) ?_
theorem spliceExtents_frame {a1 a2 a3 a4 a5 a6 s} : Frame 157005406216 (spliceExtents a1 a2 a3 a4 a5 a6 s) s := by
  fun_induction spliceExtents a1 a2 a3 a4 a5 a6 s <;> (try rename_i ih)
  repeat' first
    | simp only [↓frame_rfl, Nat.reduceOr, ↓frame_step spliceRecord_frame, ↓frame_step ih]
    | simp only [↓frame_rfl, Nat.reduceOr, ↓frame_step spliceRecord_frame]
theorem writeSmallUnits_frame {a1 a2 a3 a4 a5 a6 a7 s} : Frame 157005406216 (writeSmallUnits a1 a2 a3 a4 a5 a6 a7 s).2.2 s := by
  unfold writeSmallUnits
  simp only [↓frame_rfl, Nat.reduceOr, ↓frame_step spliceExtents_frame, ↓frame_step writeUnits_frame]
theorem writeLarge_frame {a1 a2 a3 a4 a5 a6 a7 s} : Frame 157005406216 (writeLarge a1 a2 a3 a4 a5 a6 a7 s).2.2.2 s := by
  unfold writeLarge
  simp only [↓frame_rfl, Nat.reduceOr, ↓frame_step spliceExtents_frame, ↓frame_step writeUnits_frame]
theorem writeSealed_frame {a1 a2 a3 a4 a5 a6 a7 a8 s} : Frame 157005406216 (writeSealed a1 a2 a3 a4 a5 a6 a7 a8 s).2 s := by
  unfold writeSealed
  repeat' first
    | simp only [↓frame_rfl, Nat.reduceOr, ↓frame_step writeSmallUnits_frame, ↓frame_step draw_frame]
    | with_reducible refine frame_snd (by assumption) ?_
    | split
theorem killRecs_frame {a1 s} : Frame 8192 (killRecs a1 s) s := by
  unfold killRecs
  repeat' first
    | simp only [↓frame_mkM, ↓frame_rfl, Nat.reduceOr, ↓frame_step mapSeg_frame]
    | with_reducible apply frame_mk <;> first | exact .inl rfl | exact .inr rfl | skip
    | with_reducible refine frame_foldl (fun _ _ => ?_) ?_
theorem killUnit_frame {a1 s} : Frame 8192 (killUnit a1 s) s := by
  unfold killUnit
  repeat' first
    | with_reducible refine frame_ite ?_ ?_
    | simp only [↓frame_mkM, ↓frame_rfl, Nat.reduceOr, ↓frame_step mapSeg_frame]
    | with_reducible apply frame_mk <;> first | exact .inl rfl | exact .inr rfl | skip
theorem killKind_frame {a1 s} : Frame 8192 (killKind a1 s) s := by
  unfold killKind
  simp only [↓frame_rfl, Nat.reduceOr, ↓frame_step killRecs_frame]

end Machine
end Sys2Proof
end

