-- ==== Sys2Proof/Laws/BanksFrame.lean ====
section
/-!
SUPPORT. What the definitions of Machine/Banks.lean leave unchanged.
-/
namespace Sys2Proof
namespace Machine
set_option maxRecDepth 100000
set_option linter.unusedSimpArgs false

theorem writeText_frame {a1 a2 s} : Frame 156871163904 (writeText a1 a2 s) s := by
  unfold writeText
  simp only [↓frame_rfl, Nat.reduceOr, ↓frame_step issueWrite_frame]
theorem bankWrite_frame {s} : Frame 156871180288 (bankWrite s) s := by
  unfold bankWrite
  repeat' first
    | with_reducible refine frame_ite ?_ ?_
    | simp only [↓frame_mkM, ↓frame_rfl, Nat.reduceOr, ↓frame_step issueWrite_frame, ↓frame_step writeText_frame]
    | with_reducible apply frame_mk <;> first | exact .inl rfl | exact .inr rfl | skip
    | with_reducible refine frame_foldl (fun _ _ => ?_) ?_
theorem writeRegion_frame {a1 s} : Frame 156871180288 (writeRegion a1 s) s := by
  unfold writeRegion
  simp only [↓frame_rfl, Nat.reduceOr, ↓frame_step writeText_frame, ↓frame_step putMember_frame, ↓frame_step issueWrite_frame]
theorem tellBanks_frame {a1 s} : Frame 137438953472 (tellBanks a1 s) s := by
  unfold tellBanks
  simp only [↓frame_rfl, Nat.reduceOr, ↓frame_step pairState_frame]
theorem changeBanks_frame {s} : Frame 156871180288 (changeBanks s).2 s := by
  unfold changeBanks
  repeat' first
    | with_reducible refine frame_ite ?_ ?_
    | simp only [↓frame_mkM, ↓frame_rfl, Nat.reduceOr, ↓frame_step tellBanks_frame, ↓frame_step bankWrite_frame]
    | with_reducible apply frame_mk <;> first | exact .inl rfl | exact .inr rfl | skip
    | split
theorem bankDone_frame {a1 a2 a3 s} : Frame 156871180288 (bankDone a1 a2 a3 s) s := by
  unfold bankDone
  repeat' first
    | with_reducible refine frame_ite ?_ ?_
    | simp only [↓frame_mkM, ↓frame_rfl, Nat.reduceOr, ↓frame_step putMember_frame, ↓frame_step bankWrite_frame,
        ↓frame_step changeBanks_frame, ↓frame_step pairState_frame]
    | with_reducible apply frame_mk <;> first | exact .inl rfl | exact .inr rfl | skip
theorem shardCheckpoint_frame {a1 s} : Frame 157005406216 (shardCheckpoint a1 s) s := by
  unfold shardCheckpoint
  simp only [↓frame_rfl, Nat.reduceOr, ↓frame_step putShard_frame, ↓frame_step writeSealed_frame]

end Machine
end Sys2Proof
end

