-- ==== Sys2Proof/Laws/HoldOpsFrame.lean ====
section
/-!
SUPPORT. What the definitions of Machine/HoldOps.lean leave unchanged.
-/
namespace Sys2Proof
namespace Machine
set_option maxRecDepth 100000
set_option linter.unusedSimpArgs false

theorem takeCells_frame {a1 a2 a3 a4 a5 s} : Frame 8388608 (takeCells a1 a2 a3 a4 a5 s) s := by
  unfold takeCells
  repeat' first
    | simp only [↓frame_mkM, ↓frame_rfl]
    | with_reducible apply frame_mk <;> first | exact .inl rfl | exact .inr rfl | skip
theorem uncharge_frame {s a2} : Frame 8388608 (uncharge s a2) s := by
  unfold uncharge
  repeat' first
    | simp only [↓frame_mkM, ↓frame_rfl]
    | with_reducible apply frame_mk <;> first | exact .inl rfl | exact .inr rfl | skip
theorem freeCells_frame {a1 s} : Frame 8388608 (freeCells a1 s) s := by
  unfold freeCells
  repeat' first
    | simp only [↓frame_mkM, ↓frame_rfl, Nat.reduceOr, ↓frame_step uncharge_frame]
    | with_reducible apply frame_mk <;> first | exact .inl rfl | exact .inr rfl | skip
    | with_reducible refine frame_foldl (fun _ _ => ?_) ?_
theorem notePeak_frame {s} : Frame 2147483648 (notePeak s) s := by
  unfold notePeak
  simp only [↓frame_rfl, Nat.reduceOr, ↓frame_step setFigure_frame]
theorem noteConfirmed_frame {a1 a2 s} : Frame 2147483648 (noteConfirmed a1 a2 s) s := by
  unfold noteConfirmed
  repeat' first
    | with_reducible refine frame_ite ?_ ?_
    | simp only [↓frame_rfl, Nat.reduceOr, ↓frame_step setFigure_frame]
theorem placeFrame_frame {a1 s} : Frame 2155872256 (placeFrame a1 s) s := by
  unfold placeFrame
  repeat' first
    | with_reducible refine frame_ite ?_ ?_
    | simp only [↓frame_mkM, ↓frame_rfl, Nat.reduceOr, ↓frame_step notePeak_frame, ↓frame_step takeCells_frame]
    | with_reducible apply frame_mk <;> first | exact .inl rfl | exact .inr rfl | skip
theorem refusalFlags_frame {a1 a2 s} : Frame 156833415168 (refusalFlags a1 a2 s) s := by
  unfold refusalFlags
  repeat' first
    | with_reducible refine frame_ite ?_ ?_
    | simp only [↓frame_rfl, Nat.reduceOr, ↓frame_step raise_frame]
theorem admitInternal_frame {a1 s} : Frame 156841803776 (admitInternal a1 s) s := by
  unfold admitInternal
  repeat' first
    | with_reducible refine frame_ite ?_ ?_
    | simp only [↓frame_mkM, ↓frame_rfl, Nat.reduceOr, ↓frame_step refusalFlags_frame, ↓frame_step placeFrame_frame]
    | with_reducible apply frame_mk <;> first | exact .inl rfl | exact .inr rfl | skip
theorem admitMac_frame {a1 s} : Frame 156841803776 (admitMac a1 s) s := by
  unfold admitMac
  repeat' first
    | with_reducible refine frame_ite ?_ ?_
    | simp only [↓frame_rfl, Nat.reduceOr, ↓frame_step placeFrame_frame, ↓frame_step refusalFlags_frame, ↓frame_step bumpFigure_frame]
theorem retryHold_frame {s} : Frame 2155872256 (retryHold s) s := by
  unfold retryHold
  repeat' first
    | with_reducible refine frame_ite ?_ ?_
    | simp only [↓frame_mkM, ↓frame_rfl, Nat.reduceOr, ↓frame_step placeFrame_frame]
    | with_reducible apply frame_mk <;> first | exact .inl rfl | exact .inr rfl | skip
    | with_reducible refine frame_foldl (fun _ _ => ?_) ?_
theorem landQuarantine_frame {a1 a2 a3 s} : Frame 156841803776 (landQuarantine a1 a2 a3 s) s := by
  unfold landQuarantine
  repeat' first
    | with_reducible refine frame_ite ?_ ?_
    | simp only [↓frame_rfl, Nat.reduceOr, ↓frame_step admitInternal_frame]
theorem sweepQuarantine_frame {s} : Frame 2155872256 (sweepQuarantine s) s := by
  unfold sweepQuarantine
  repeat' first
    | with_reducible refine frame_ite ?_ ?_
    | simp only [↓frame_rfl, Nat.reduceOr, ↓frame_step retryHold_frame, ↓frame_step freeCells_frame]
theorem readOut_frame {a1 s} : Frame 2155872256 (readOut a1 s) s := by
  unfold readOut
  repeat' first
    | with_reducible refine frame_ite ?_ ?_
    | simp only [↓frame_mkM, ↓frame_rfl, Nat.reduceOr, ↓frame_step retryHold_frame, ↓frame_step freeCells_frame]
    | with_reducible apply frame_mk <;> first | exact .inl rfl | exact .inr rfl | skip

end Machine
end Sys2Proof
end

