-- ==== Sys2Proof/Laws/FeedOpsFrame.lean ====
section
/-!
SUPPORT. What the definitions of Machine/FeedOps.lean leave unchanged.
-/
namespace Sys2Proof
namespace Machine
set_option maxRecDepth 100000
set_option linter.unusedSimpArgs false

theorem putFeed_frame {a1 a2 s} : Frame 4294967296 (putFeed a1 a2 s) s := by
  unfold putFeed
  repeat' first
    | simp only [↓frame_mkM, ↓frame_rfl]
    | with_reducible apply frame_mk <;> first | exact .inl rfl | exact .inr rfl | skip
    | split
theorem startInsert_frame {a1 s} : Frame 4294967296 (startInsert a1 s) s := by
  unfold startInsert
  repeat' first
    | with_reducible refine frame_ite ?_ ?_
    | simp only [↓frame_rfl, Nat.reduceOr, ↓frame_step putFeed_frame]
theorem feedOff_frame {a1 s} : Frame 4294967296 (feedOff a1 s) s := by
  unfold feedOff
  repeat' first
    | with_reducible refine frame_ite ?_ ?_
    | simp only [↓frame_rfl, Nat.reduceOr, ↓frame_step putFeed_frame]
theorem enableSlot_frame {a1 s} : Frame 4294967296 (enableSlot a1 s) s := by
  unfold enableSlot
  simp only [↓frame_rfl, Nat.reduceOr, ↓frame_step startInsert_frame, ↓frame_step putFeed_frame]
theorem disableSlot_frame {a1 s} : Frame 4294967296 (disableSlot a1 s) s := by
  unfold disableSlot
  simp only [↓frame_rfl, Nat.reduceOr, ↓frame_step putFeed_frame, ↓frame_step feedOff_frame]

end Machine
end Sys2Proof
end

