-- ==== Sys2Proof/Laws/LanyardOpsFrame.lean ====
section
/-!
SUPPORT. What the definitions of Machine/LanyardOps.lean leave unchanged.
-/
namespace Sys2Proof
namespace Machine
set_option maxRecDepth 100000
set_option linter.unusedSimpArgs false

theorem lanyardRecord_frame {a1 a2 s} : Frame 157005406216 (lanyardRecord a1 a2 s) s := by
  unfold lanyardRecord
  repeat' first
    | with_reducible refine frame_ite ?_ ?_
    | simp only [↓frame_rfl, Nat.reduceOr, ↓frame_step writeSealed_frame]
theorem appendEntry_frame {a1 a2 a3 a4 s} : Frame 157005438984 (appendEntry a1 a2 a3 a4 s).2 s := by
  unfold appendEntry
  repeat' first
    | simp only [↓frame_mkM, ↓frame_rfl, Nat.reduceOr, ↓frame_step lanyardRecord_frame]
    | with_reducible apply frame_mk <;> first | exact .inl rfl | exact .inr rfl | skip
    | split
theorem enter_frame {a1 a2 a3 a4 s} : Frame 157005438984 (enter a1 a2 a3 a4 s) s := by
  unfold enter
  simp only [↓frame_rfl, Nat.reduceOr, ↓frame_step appendEntry_frame]
theorem addReceipt_frame {a1 a2 a3 a4 a5 a6 s} : Frame 98304 (addReceipt a1 a2 a3 a4 a5 a6 s).2 s := by
  unfold addReceipt
  repeat' first
    | simp only [↓frame_mkM, ↓frame_rfl]
    | with_reducible apply frame_mk <;> first | exact .inl rfl | exact .inr rfl | skip
    | split
theorem signReceipts_frame {a1 s} : Frame 274878005248 (signReceipts a1 s) s := by
  unfold signReceipts
  repeat' first
    | simp only [↓frame_mkM, ↓frame_rfl]
    | with_reducible apply frame_mk <;> first | exact .inl rfl | exact .inr rfl | skip
    | split
theorem signAll_frame {s} : Frame 274878005248 (signAll s) s := by
  unfold signAll
  repeat' first
    | with_reducible refine frame_ite ?_ ?_
    | simp only [↓frame_rfl, Nat.reduceOr, ↓frame_step signReceipts_frame]
    | with_reducible refine frame_foldl (fun _ _ => ?_) ?_
theorem signCheckpoint_frame {s} : Frame 165595439112 (signCheckpoint s) s := by
  unfold signCheckpoint
  repeat' first
    | with_reducible refine frame_ite ?_ ?_
    | simp only [↓frame_mkM, ↓frame_rfl, Nat.reduceOr, ↓frame_step raise_frame, ↓frame_step lanyardRecord_frame]
    | with_reducible apply frame_mk <;> first | exact .inl rfl | exact .inr rfl | skip
    | split
theorem openLanyard_frame {s} : Frame 157005438984 (openLanyard s) s := by
  unfold openLanyard
  repeat' first
    | simp only [↓frame_mkM, ↓frame_rfl, Nat.reduceOr, ↓frame_step lanyardRecord_frame]
    | with_reducible apply frame_mk <;> first | exact .inl rfl | exact .inr rfl | skip
theorem endOwed_frame {s} : Frame 32768 (endOwed s) s := by
  unfold endOwed
  repeat' first
    | simp only [↓frame_mkM, ↓frame_rfl]
    | with_reducible apply frame_mk <;> first | exact .inl rfl | exact .inr rfl | skip
theorem takeLanyard_frame {a1 s} : Frame 134250496 (takeLanyard a1 s) s := by
  unfold takeLanyard
  repeat' first
    | with_reducible refine frame_ite ?_ ?_
    | simp only [↓frame_mkM, ↓frame_rfl]
    | with_reducible apply frame_mk <;> first | exact .inl rfl | exact .inr rfl | skip
    | split
theorem takeLyRecord_frame {a1 a2 s} : Frame 134250496 (takeLyRecord a1 a2 s) s := by
  unfold takeLyRecord
  repeat' first
    | with_reducible refine frame_ite ?_ ?_
    | simp only [↓frame_mkM, ↓frame_rfl, Nat.reduceOr, ↓frame_step takeLanyard_frame]
    | with_reducible apply frame_mk <;> first | exact .inl rfl | exact .inr rfl | skip
theorem closeLanyard_frame {a1 s} : Frame 440473346056 (closeLanyard a1 s) s := by
  unfold closeLanyard
  repeat' first
    | simp only [↓frame_mkM, ↓frame_rfl, Nat.reduceOr, ↓frame_step signAll_frame, ↓frame_step signCheckpoint_frame, ↓frame_step raise_frame]
    | with_reducible apply frame_mk <;> first | exact .inl rfl | exact .inr rfl | skip
    | split

end Machine
end Sys2Proof
end

