-- ==== Sys2Proof/Laws/DrivePowerFrame.lean ====
section
/-!
SUPPORT. What the definitions of Machine/DrivePower.lean leave unchanged.
-/
namespace Sys2Proof
namespace Machine
set_option maxRecDepth 100000
set_option linter.unusedSimpArgs false

theorem writeHeldCkpts_frame {s} : Frame 165595340808 (writeHeldCkpts s) s := by
  unfold writeHeldCkpts
  repeat' first
    | simp only [↓frame_mkM, ↓frame_rfl, Nat.reduceOr, ↓frame_step lanyardRecord_frame]
    | with_reducible apply frame_mk <;> first | exact .inl rfl | exact .inr rfl | skip
    | with_reducible refine frame_foldl (fun _ _ => ?_) ?_
theorem drivesBack_frame {s} : Frame 165595340808 (drivesBack s) s := by
  unfold drivesBack
  repeat' first
    | with_reducible refine frame_ite ?_ ?_
    | simp only [↓frame_rfl, Nat.reduceOr, ↓frame_step pumpDrives_frame, ↓frame_step writeHeldCkpts_frame]
theorem slotBack_frame {a1 s} : Frame 165595340808 (slotBack a1 s) s := by
  unfold slotBack
  repeat' first
    | with_reducible refine frame_ite ?_ ?_
    | simp only [↓frame_mkM, ↓frame_rfl, Nat.reduceOr, ↓frame_step drivesBack_frame]
    | with_reducible apply frame_mk <;> first | exact .inl rfl | exact .inr rfl | skip
theorem powerDrives_frame {s} : Frame 169890308104 (powerDrives s) s := by
  unfold powerDrives
  repeat' first
    | with_reducible refine frame_ite ?_ ?_
    | simp only [↓frame_mkM, ↓frame_rfl, Nat.reduceOr, ↓frame_step drivesBack_frame, ↓frame_step enableSlot_frame]
    | with_reducible apply frame_mk <;> first | exact .inl rfl | exact .inr rfl | skip
    | with_reducible refine frame_foldl (fun _ _ => ?_) ?_
theorem needsDrives_frame {w f1 f2 s} (hw : 169890308104 ||| w = w) (h : ∀ s, Frame w (f1 s) s) (k : ∀ s, Frame w (f2 s) s) : Frame w (needsDrives f1 f2 s) s := by
  unfold needsDrives
  repeat' first
    | with_reducible refine frame_ite ?_ ?_
    | simp only [↓frame_mkM, ↓frame_rfl, Nat.reduceOr, ↓frame_stepH hw powerDrives_frame]
    | with_reducible refine Frame.trans (h _) ?_
    | with_reducible refine Frame.trans (k _) ?_
    | with_reducible apply frame_mk <;> first | exact .inl (bit_sup hw rfl) | exact .inr rfl | skip

end Machine
end Sys2Proof
end

