-- ==== Sys2Proof/Laws/MemoryOpsFrame.lean ====
section
/-!
SUPPORT. What the definitions of Machine/MemoryOps.lean leave unchanged.
-/
namespace Sys2Proof
namespace Machine
set_option maxRecDepth 100000
set_option linter.unusedSimpArgs false

theorem putRegion_frame {a1 s} : Frame 1048576 (putRegion a1 s) s := by
  unfold putRegion
  repeat' first
    | simp only [↓frame_mkM, ↓frame_rfl]
    | with_reducible apply frame_mk <;> first | exact .inl rfl | exact .inr rfl | skip
theorem landWrite_frame {a1 a2 a3 s} : Frame 524288 (landWrite a1 a2 a3 s) s := by
  unfold landWrite
  repeat' first
    | simp only [↓frame_mkM, ↓frame_rfl]
    | with_reducible apply frame_mk <;> first | exact .inl rfl | exact .inr rfl | skip

end Machine
end Sys2Proof
end

