-- ==== Sys2Proof/Laws/TetherOpsFrame.lean ====
section
/-!
SUPPORT. What the definitions of Machine/TetherOps.lean leave unchanged.
-/
namespace Sys2Proof
namespace Machine
set_option maxRecDepth 100000
set_option linter.unusedSimpArgs false

theorem hopBytes_frame {a1 a2 a3 a4 a5 s} : Frame 137438953472 (hopBytes a1 a2 a3 a4 a5 s) s := by
  unfold hopBytes
  repeat' first
    | with_reducible refine frame_ite ?_ ?_
    | simp only [↓frame_rfl, Nat.reduceOr, ↓frame_step send_frame]
theorem hopSend_frame {a1 a2 a3 a4 s} : Frame 137438953472 (hopSend a1 a2 a3 a4 s) s := by
  unfold hopSend
  simp only [↓frame_rfl, Nat.reduceOr, ↓frame_step hopBytes_frame]
theorem floodBytes_frame {a1 a2 a3 a4 s} : Frame 137707388928 (floodBytes a1 a2 a3 a4 s) s := by
  unfold floodBytes
  repeat' first
    | simp only [↓frame_mkM, ↓frame_rfl, Nat.reduceOr, ↓frame_step hopBytes_frame]
    | with_reducible apply frame_mk <;> first | exact .inl rfl | exact .inr rfl | skip
theorem flood_frame {a1 a2 a3 s} : Frame 137707388928 (flood a1 a2 a3 s) s := by
  unfold flood
  simp only [↓frame_rfl, Nat.reduceOr, ↓frame_step floodBytes_frame]
theorem mailboxFrames_frame {a1 a2 s} : Frame 137707388928 (mailboxFrames a1 a2 s) s := by
  unfold mailboxFrames
  repeat' first
    | simp only [↓frame_rfl, Nat.reduceOr, ↓frame_step floodBytes_frame]
    | with_reducible refine frame_foldl (fun _ _ => ?_) ?_
theorem reeveOn_frame {s} : Frame 137707388928 (reeveOn s) s := by
  unfold reeveOn
  repeat' first
    | with_reducible refine frame_ite ?_ ?_
    | simp only [↓frame_mkM, ↓frame_rfl, Nat.reduceOr, ↓frame_step hopSend_frame]
    | with_reducible apply frame_mk <;> first | exact .inl rfl | exact .inr rfl | skip
theorem takeAddress_frame {a1 s} : Frame 157101850624 (takeAddress a1 s) s := by
  unfold takeAddress
  repeat' first
    | simp only [↓frame_mkM, ↓frame_rfl, Nat.reduceOr, ↓frame_step raise_frame]
    | with_reducible apply frame_mk <;> first | exact .inl rfl | exact .inr rfl | skip
theorem startReeving_frame {s} : Frame 157101850624 (startReeving s) s := by
  unfold startReeving
  simp only [↓frame_rfl, Nat.reduceOr, ↓frame_step reeveOn_frame, ↓frame_step takeAddress_frame]
theorem beginReeving_frame {s} : Frame 157101850624 (beginReeving s) s := by
  unfold beginReeving
  repeat' first
    | with_reducible refine frame_ite ?_ ?_
    | simp only [↓frame_mkM, ↓frame_rfl, Nat.reduceOr, ↓frame_step startReeving_frame]
    | with_reducible apply frame_mk <;> first | exact .inl rfl | exact .inr rfl | skip

end Machine
end Sys2Proof
end

