-- ==== Sys2Proof/Laws/SchedOpsFrame.lean ====
section
/-!
SUPPORT. What the definitions of Machine/SchedOps.lean leave unchanged.
-/
namespace Sys2Proof
namespace Machine
set_option maxRecDepth 100000
set_option linter.unusedSimpArgs false

theorem meterTenant_frame {a1 a2 a3 s} : Frame 4194304 (meterTenant a1 a2 a3 s).2 s := by
  unfold meterTenant
  repeat' first
    | simp only [↓frame_rfl, Nat.reduceOr, ↓frame_step refill_frame, ↓frame_step putBuckets_frame]
    | split
theorem meterShelf_frame {a1 s} : Frame 4194304 (meterShelf a1 s).2 s := by
  unfold meterShelf
  repeat' first
    | with_reducible refine frame_ite ?_ ?_
    | simp only [↓frame_mkM, ↓frame_rfl, Nat.reduceOr, ↓frame_step refill_frame]
    | with_reducible apply frame_mk <;> first | exact .inl rfl | exact .inr rfl | skip
    | split
theorem chargeDrive_frame {a1 a2 s} : Frame 4194304 (chargeDrive a1 a2 s) s := by
  unfold chargeDrive
  repeat' first
    | with_reducible refine frame_ite ?_ ?_
    | simp only [↓frame_rfl, Nat.reduceOr, ↓frame_step putBuckets_frame]
theorem chargeMutation_frame {a1 a2 a3 s} : Frame 4194304 (chargeMutation a1 a2 a3 s) s := by
  unfold chargeMutation
  simp only [↓frame_rfl, Nat.reduceOr, ↓frame_step chargeDrive_frame]
theorem putMac_frame {a1 s} : Frame 2097152 (putMac a1 s) s := by
  unfold putMac
  repeat' first
    | simp only [↓frame_mkM, ↓frame_rfl]
    | with_reducible apply frame_mk <;> first | exact .inl rfl | exact .inr rfl | skip
theorem putEgress_frame {a1 s} : Frame 4194304 (putEgress a1 s) s := by
  unfold putEgress
  repeat' first
    | simp only [↓frame_mkM, ↓frame_rfl]
    | with_reducible apply frame_mk <;> first | exact .inl rfl | exact .inr rfl | skip
theorem chargeCc_frame {a1 s} : Frame 262144 (chargeCc a1 s) s := by
  unfold chargeCc
  repeat' first
    | simp only [↓frame_rfl, Nat.reduceOr, ↓frame_step putCtx_frame]
    | split
theorem bumpWide_frame {a1 a2 s} : Frame 2147483648 (bumpWide a1 a2 s) s := by
  unfold bumpWide
  simp only [↓frame_rfl, Nat.reduceOr, ↓frame_step setFigure_frame]
theorem startFrame_frame {a1 a2 s} : Frame 139588534400 (startFrame a1 a2 s) s := by
  unfold startFrame
  repeat' first
    | with_reducible refine frame_ite ?_ ?_
    | simp only [↓frame_mkM, ↓frame_rfl, Nat.reduceOr, ↓frame_step send_frame, ↓frame_step putMac_frame, ↓frame_step bumpWide_frame]
    | with_reducible apply frame_mk <;> first | exact .inl rfl | exact .inr rfl | skip
theorem pumpIdle_frame {a1 s} : Frame 139592990848 (pumpIdle a1 s) s := by
  unfold pumpIdle
  repeat' first
    | with_reducible refine frame_ite ?_ ?_
    | simp only [↓frame_rfl, Nat.reduceOr, ↓frame_step startFrame_frame, ↓frame_step putEgress_frame, ↓frame_step chargeCc_frame,
        ↓frame_step putBuckets_frame]
    | split
theorem pumpMac_frame {a1 s} : Frame 139592990848 (pumpMac a1 s) s := by
  unfold pumpMac
  repeat' first
    | with_reducible refine frame_ite ?_ ?_
    | simp only [↓frame_rfl, Nat.reduceOr, ↓frame_step pumpIdle_frame, ↓frame_step putEgress_frame, ↓frame_step putMac_frame]
    | split
theorem putQuiet_frame {a1 s} : Frame 4194304 (putQuiet a1 s) s := by
  unfold putQuiet
  repeat' first
    | simp only [↓frame_mkM, ↓frame_rfl]
    | with_reducible apply frame_mk <;> first | exact .inl rfl | exact .inr rfl | skip
theorem enqueue_frame {a1 a2 a3 a4 a5 a6 s} : Frame 139592990848 (enqueue a1 a2 a3 a4 a5 a6 s) s := by
  unfold enqueue
  repeat' first
    | simp only [↓frame_rfl, Nat.reduceOr, ↓frame_step pumpMac_frame, ↓frame_step putEgress_frame]
    | split
theorem transmit_frame {a1 a2 a3 a4 a5 a6 s} : Frame 139861426304 (transmit a1 a2 a3 a4 a5 a6 s) s := by
  unfold transmit
  repeat' first
    | with_reducible refine frame_ite ?_ ?_
    | simp only [↓frame_rfl, Nat.reduceOr, ↓frame_step mailboxFrames_frame, ↓frame_step putQuiet_frame, ↓frame_step send_frame,
        ↓frame_step enqueue_frame]
    | split

end Machine
end Sys2Proof
end

