-- ==== Sys2Proof/Laws/TransportOpsFrame.lean ====
section
/-!
SUPPORT. What the definitions of Machine/TransportOps.lean leave unchanged.
-/
namespace Sys2Proof
namespace Machine
set_option maxRecDepth 100000
set_option linter.unusedSimpArgs false

theorem sendCtl_frame {a1 a2 a3 s} : Frame 139861426304 (sendCtl a1 a2 a3 s) s := by
  unfold sendCtl
  repeat' first
    | with_reducible refine frame_ite ?_ ?_
    | simp only [↓frame_rfl, Nat.reduceOr, ↓frame_step transmit_frame, ↓frame_step putCtx_frame]
    | split
theorem espSend_frame {a1 a2 s} : Frame 262144 (espSend a1 a2 s).2 s := by
  unfold espSend
  repeat' first
    | simp only [↓frame_rfl, Nat.reduceOr, ↓frame_step putCtx_frame]
    | split
theorem launch_frame {a1 a2 s} : Frame 139861426304 (launch a1 a2 s) s := by
  unfold launch
  repeat' first
    | with_reducible refine frame_ite ?_ ?_
    | simp only [↓frame_rfl, Nat.reduceOr, ↓frame_step transmit_frame, ↓frame_step putCtx_frame, ↓frame_step espSend_frame]
    | with_reducible refine frame_snd (by assumption) ?_
    | split
theorem sendOn_frame {a1 a2 a3 s} : Frame 139995644032 (sendOn a1 a2 a3 s) s := by
  unfold sendOn
  repeat' first
    | with_reducible refine frame_ite ?_ ?_
    | simp only [↓frame_rfl, Nat.reduceOr, ↓frame_step send_frame, ↓frame_step putCtx_frame, ↓frame_step mirrorSend_frame,
        ↓frame_step launch_frame]
    | split
theorem pumpOut_frame {a1 s} : Frame 139861426304 (pumpOut a1 s) s := by
  unfold pumpOut
  repeat' first
    | simp only [↓frame_rfl, Nat.reduceOr, ↓frame_step launch_frame]
    | with_reducible refine frame_foldl (fun _ _ => ?_) ?_
    | split
theorem mirrorRetire_frame {a1 a2 s} : Frame 137573171200 (mirrorRetire a1 a2 s) s := by
  unfold mirrorRetire
  repeat' first
    | simp only [↓frame_rfl, Nat.reduceOr, ↓frame_step mirrorSend_frame]
    | with_reducible refine frame_foldl (fun _ _ => ?_) ?_
theorem takeAcks_frame {a1 a2 a3 s} : Frame 139995644040 (takeAcks a1 a2 a3 s) s := by
  unfold takeAcks
  repeat' first
    | simp only [↓frame_rfl, Nat.reduceOr, ↓frame_step pumpOut_frame, ↓frame_step mirrorRetire_frame, ↓frame_step putCtx_frame,
        ↓frame_step free_frame]
    | with_reducible refine frame_snd (by assumption) ?_
    | split
theorem mirrorCtx_frame {a1 a2 s} : Frame 137438953472 (mirrorCtx a1 a2 s) s := by
  unfold mirrorCtx
  simp only [↓frame_rfl, Nat.reduceOr, ↓frame_step pairState_frame]
theorem allocCtx_frame {a1 s} : Frame 137440264192 (allocCtx a1 s) s := by
  unfold allocCtx
  repeat' first
    | with_reducible refine frame_ite ?_ ?_
    | simp only [↓frame_mkM, ↓frame_rfl, Nat.reduceOr, ↓frame_step mirrorCtx_frame, ↓frame_step putCtx_frame, ↓frame_step putRegion_frame]
    | with_reducible apply frame_mk <;> first | exact .inl rfl | exact .inr rfl | skip
    | split
theorem freeCtx_frame {a1 s} : Frame 137440264192 (freeCtx a1 s) s := by
  unfold freeCtx
  repeat' first
    | simp only [↓frame_mkM, ↓frame_rfl, Nat.reduceOr, ↓frame_step mirrorCtx_frame]
    | with_reducible apply frame_mk <;> first | exact .inl rfl | exact .inr rfl | skip
    | split
theorem revokeRegion_frame {a1 a2 s} : Frame 1048576 (revokeRegion a1 a2 s) s := by
  unfold revokeRegion
  repeat' first
    | simp only [↓frame_mkM, ↓frame_rfl]
    | with_reducible apply frame_mk <;> first | exact .inl rfl | exact .inr rfl | skip
theorem closeConn_frame {a1 s} : Frame 292594712640 (closeConn a1 s) s := by
  unfold closeConn
  repeat' first
    | simp only [↓frame_mkM, ↓frame_rfl]
    | with_reducible apply frame_mk <;> first | exact .inl rfl | exact .inr rfl | skip
theorem unhook_frame {a1 s} : Frame 274879090944 (unhook a1 s) s := by
  unfold unhook
  repeat' first
    | simp only [↓frame_mkM, ↓frame_rfl]
    | with_reducible apply frame_mk <;> first | exact .inl rfl | exact .inr rfl | skip
theorem endOne_frame {a1 a2 s} : Frame 430035112256 (endOne a1 a2 s) s := by
  unfold endOne
  repeat' first
    | with_reducible refine frame_ite ?_ ?_
    | simp only [↓frame_rfl, Nat.reduceOr, ↓frame_step revokeRegion_frame, ↓frame_step putCtx_frame, ↓frame_step closeConn_frame,
        ↓frame_step unhook_frame, ↓frame_step freeCtx_frame]
    | with_reducible refine frame_foldl (fun _ _ => ?_) ?_
    | split
theorem endCtxAt_frame {a1 a2 s} : Frame 430035112256 (endCtxAt a1 a2 s) s := by
  unfold endCtxAt
  repeat' first
    | simp only [↓frame_rfl, Nat.reduceOr, ↓frame_step endOne_frame]
    | with_reducible refine frame_foldl (fun _ _ => ?_) ?_
theorem endCtx_frame {a1 s} : Frame 430035112256 (endCtx a1 s) s := by
  unfold endCtx
  simp only [↓frame_rfl, Nat.reduceOr, ↓frame_step endCtxAt_frame]
theorem closeCtx_frame {a1 a2 s} : Frame 432457322944 (closeCtx a1 a2 s) s := by
  unfold closeCtx
  repeat' first
    | with_reducible refine frame_ite ?_ ?_
    | simp only [↓frame_rfl, Nat.reduceOr, ↓frame_step endCtx_frame, ↓frame_step sendCtl_frame]
theorem closeAll_frame {a1 a2 s} : Frame 432457322944 (closeAll a1 a2 s) s := by
  unfold closeAll
  repeat' first
    | simp only [↓frame_rfl, Nat.reduceOr, ↓frame_step closeCtx_frame]
    | with_reducible refine frame_foldl (fun _ _ => ?_) ?_
theorem closeConns_frame {a1 s} : Frame 432457322944 (closeConns a1 s) s := by
  unfold closeConns
  repeat' first
    | simp only [↓frame_rfl, Nat.reduceOr, ↓frame_step closeCtx_frame, ↓frame_step closeConn_frame]
    | with_reducible refine frame_foldl (fun _ _ => ?_) ?_
    | split
theorem except_frame {a1 s} : Frame 156834463744 (except a1 s) s := by
  unfold except
  repeat' first
    | with_reducible refine frame_ite ?_ ?_
    | simp only [↓frame_mkM, ↓frame_rfl, Nat.reduceOr, ↓frame_step raise_frame]
    | with_reducible apply frame_mk <;> first | exact .inl rfl | exact .inr rfl | skip
theorem mapTrig_frame {a1 a2 s} : Frame 1048576 (mapTrig a1 a2 s) s := by
  unfold mapTrig
  repeat' first
    | simp only [↓frame_mkM, ↓frame_rfl]
    | with_reducible apply frame_mk <;> first | exact .inl rfl | exact .inr rfl | skip
theorem haltTrig_frame {a1 a2 a3 s} : Frame 156834463744 (haltTrig a1 a2 a3 s) s := by
  unfold haltTrig
  simp only [↓frame_rfl, Nat.reduceOr, ↓frame_step raise_frame, ↓frame_step except_frame, ↓frame_step mapTrig_frame]
theorem fireIfDue_frame {a1 s} : Frame 1048576 (fireIfDue a1 s) s := by
  unfold fireIfDue
  simp only [↓frame_rfl, Nat.reduceOr, ↓frame_step mapTrig_frame]
theorem noteEntry_frame {a1 a2 a3 s} : Frame 156834463744 (noteEntry a1 a2 a3 s) s := by
  unfold noteEntry
  repeat' first
    | with_reducible refine frame_ite ?_ ?_
    | simp only [↓frame_rfl, Nat.reduceOr, ↓frame_step except_frame, ↓frame_step haltTrig_frame, ↓frame_step fireIfDue_frame,
        ↓frame_step mapTrig_frame]
theorem matchNote_frame {a1 s} : Frame 156834463744 (matchNote a1 s) s := by
  unfold matchNote
  repeat' first
    | simp only [↓frame_rfl, Nat.reduceOr, ↓frame_step noteEntry_frame, ↓frame_step bumpFigure_frame]
    | split
theorem raiseNote_frame {a1 a2 s} : Frame 156834463744 (raiseNote a1 a2 s) s := by
  unfold raiseNote
  repeat' first
    | with_reducible refine frame_ite ?_ ?_
    | simp only [↓frame_rfl, Nat.reduceOr, ↓frame_step except_frame, ↓frame_step matchNote_frame]
theorem notify_frame {a1 a2 a3 a4 a5 s} : Frame 156834463744 (notify a1 a2 a3 a4 a5 s) s := by
  unfold notify
  repeat' first
    | with_reducible refine frame_ite ?_ ?_
    | simp only [↓frame_rfl, Nat.reduceOr, ↓frame_step raiseNote_frame]
theorem chainNote_frame {a1 s} : Frame 156834463744 (chainNote a1 s) s := by
  unfold chainNote
  simp only [↓frame_rfl, Nat.reduceOr, ↓frame_step raiseNote_frame]

end Machine
end Sys2Proof
end

