-- ==== Sys2Proof/Laws/MailboxOpsFrame.lean ====
section
/-!
SUPPORT. What the definitions of Machine/MailboxOps.lean leave unchanged.
-/
namespace Sys2Proof
namespace Machine
set_option maxRecDepth 100000
set_option linter.unusedSimpArgs false

theorem putConn_frame {a1 s} : Frame 536870912 (putConn a1 s) s := by
  unfold putConn
  repeat' first
    | simp only [↓frame_mkM, ↓frame_rfl]
    | with_reducible apply frame_mk <;> first | exact .inl rfl | exact .inr rfl | skip
theorem putRing_frame {a1 s} : Frame 536870912 (putRing a1 s) s := by
  unfold putRing
  repeat' first
    | simp only [↓frame_mkM, ↓frame_rfl]
    | with_reducible apply frame_mk <;> first | exact .inl rfl | exact .inr rfl | skip
theorem takeRequest_frame {a1 a2 s} : Frame 536870912 (takeRequest a1 a2 s) s := by
  unfold takeRequest
  repeat' first
    | simp only [↓frame_rfl, Nat.reduceOr, ↓frame_step putRing_frame]
    | split
theorem signalVector_frame {a1 s} : Frame 156833415168 (signalVector a1 s) s := by
  unfold signalVector
  repeat' first
    | with_reducible refine frame_ite ?_ ?_
    | simp only [↓frame_rfl, Nat.reduceOr, ↓frame_step msix_frame, ↓frame_step raise_frame]
theorem fillRing_frame {a1 s} : Frame 157370286080 (fillRing a1 s) s := by
  unfold fillRing
  repeat' first
    | with_reducible refine frame_ite ?_ ?_
    | simp only [↓frame_rfl, Nat.reduceOr, ↓frame_step signalVector_frame, ↓frame_step putRing_frame]
theorem sendMbx_frame {a1 a2 s} : Frame 157779492992 (sendMbx a1 a2 s) s := by
  unfold sendMbx
  repeat' first
    | with_reducible refine frame_ite ?_ ?_
    | simp only [↓frame_rfl, Nat.reduceOr, ↓frame_step sendOn_frame, ↓frame_step fillRing_frame, ↓frame_step putRing_frame,
        ↓frame_step send_frame]
    | split
theorem reply_frame {a1 a2 a3 a4 s} : Frame 157779492992 (reply a1 a2 a3 a4 s) s := by
  unfold reply
  simp only [↓frame_rfl, Nat.reduceOr, ↓frame_step sendMbx_frame]
theorem holdTag_frame {a1 s} : Frame 536870912 (holdTag a1 s) s := by
  unfold holdTag
  repeat' first
    | simp only [↓frame_rfl, Nat.reduceOr, ↓frame_step putConn_frame]
    | split
theorem freeTag_frame {a1 a2 s} : Frame 536870912 (freeTag a1 a2 s) s := by
  unfold freeTag
  repeat' first
    | simp only [↓frame_rfl, Nat.reduceOr, ↓frame_step putConn_frame]
    | split
theorem replyHeld_frame {a1 a2 s} : Frame 825170591744 (replyHeld a1 a2 s) s := by
  unfold replyHeld
  simp only [↓frame_rfl, Nat.reduceOr, ↓frame_step hold_frame, ↓frame_step holdTag_frame]
theorem replyAfter_frame {a1 a2 a3 a4 a5 s} : Frame 982413213824 (replyAfter a1 a2 a3 a4 a5 s) s := by
  unfold replyAfter
  repeat' first
    | with_reducible refine frame_ite ?_ ?_
    | simp only [↓frame_rfl, Nat.reduceOr, ↓frame_step replyHeld_frame, ↓frame_step reply_frame]
theorem replyStamped_frame {a1 a2 a3 a4 s} : Frame 982413213824 (replyStamped a1 a2 a3 a4 s) s := by
  unfold replyStamped
  simp only [↓frame_rfl, Nat.reduceOr, ↓frame_step replyAfter_frame]
theorem replyNotVisible_frame {a1 a2 a3 s} : Frame 825170591744 (replyNotVisible a1 a2 a3 s) s := by
  unfold replyNotVisible
  simp only [↓frame_rfl, Nat.reduceOr, ↓frame_step holdNotVisible_frame, ↓frame_step holdTag_frame]
theorem refuse_frame {a1 a2 a3 s} : Frame 982413213824 (refuse a1 a2 a3 s) s := by
  unfold refuse
  repeat' first
    | simp only [↓frame_rfl, Nat.reduceOr, ↓frame_step reply_frame, ↓frame_step replyNotVisible_frame]
    | split
theorem mailboxCmd_frame {w a1 a2 a3 a4 f5 s} (hw : 995331694728 ||| w = w) (h : ∀ n s, Frame w (f5 n s) s) : Frame w (mailboxCmd a1 a2 a3 a4 f5 s) s := by
  unfold mailboxCmd
  repeat' first
    | with_reducible refine frame_ite ?_ ?_
    | simp only [↓frame_rfl, Nat.reduceOr, ↓frame_stepH hw reply_frame, ↓frame_stepH hw takeRequest_frame, ↓frame_stepH hw putConn_frame,
        ↓frame_stepH hw refuse_frame]
    | with_reducible refine Frame.trans (h _ _) ?_
    | with_reducible refine Frame.trans (needsDrives_frame (sub_trans rfl hw) (fun _ => ?_) (fun _ => ?_)) ?_
    | split

end Machine
end Sys2Proof
end

