-- ==== Sys2Proof/Laws/HostOpsFrame.lean ====
section
/-!
SUPPORT. What the definitions of Machine/HostOps.lean leave unchanged.
-/
namespace Sys2Proof
namespace Machine
set_option maxRecDepth 100000
set_option linter.unusedSimpArgs false

theorem finishOp_frame {a1 a2 s} : Frame 256 (finishOp a1 a2 s) s := by
  unfold finishOp
  repeat' first
    | simp only [↓frame_mkM, ↓frame_rfl]
    | with_reducible apply frame_mk <;> first | exact .inl rfl | exact .inr rfl | skip
theorem takeHead_frame {a1 s} : Frame 256 (takeHead a1 s) s := by
  unfold takeHead
  repeat' first
    | simp only [↓frame_mkM, ↓frame_rfl]
    | with_reducible apply frame_mk <;> first | exact .inl rfl | exact .inr rfl | skip
theorem leave_frame {a1 a2 s} : Frame 157779493248 (leave a1 a2 s) s := by
  unfold leave
  repeat' first
    | with_reducible refine frame_ite ?_ ?_
    | simp only [↓frame_rfl, Nat.reduceOr, ↓frame_step freeTag_frame, ↓frame_step sendMbx_frame, ↓frame_step sendOn_frame,
        ↓frame_step finishOp_frame, ↓frame_step send_frame]
    | split
theorem uopRefuse_frame {a1 a2 a3 s} : Frame 982413214080 (uopRefuse a1 a2 a3 s) s := by
  unfold uopRefuse
  repeat' first
    | with_reducible refine frame_ite ?_ ?_
    | simp only [↓frame_rfl, Nat.reduceOr, ↓frame_step hold_frame, ↓frame_step leave_frame]
theorem uopDone_frame {a1 a2 a3 a4 s} : Frame 157779493248 (uopDone a1 a2 a3 a4 s) s := by
  unfold uopDone
  simp only [↓frame_rfl, Nat.reduceOr, ↓frame_step leave_frame]
theorem nvDone_frame {a1 a2 a3 a4 a5 a6 s} : Frame 157779493248 (nvDone a1 a2 a3 a4 a5 a6 s) s := by
  unfold nvDone
  simp only [↓frame_rfl, Nat.reduceOr, ↓frame_step leave_frame]
theorem nvRefuse_frame {a1 a2 a3 a4 a5 s} : Frame 982413214080 (nvRefuse a1 a2 a3 a4 a5 s) s := by
  unfold nvRefuse
  repeat' first
    | with_reducible refine frame_ite ?_ ?_
    | simp only [↓frame_rfl, Nat.reduceOr, ↓frame_step hold_frame, ↓frame_step leave_frame]
theorem takeOp_frame {a1 s} : Frame 256 (takeOp a1 s) s := by
  unfold takeOp
  repeat' first
    | simp only [↓frame_mkM, ↓frame_rfl]
    | with_reducible apply frame_mk <;> first | exact .inl rfl | exact .inr rfl | skip
theorem pullData_frame {a1 s} : Frame 139995644032 (pullData a1 s) s := by
  unfold pullData
  repeat' first
    | simp only [↓frame_rfl, Nat.reduceOr, ↓frame_step sendOn_frame]
    | split
theorem takeIn_frame {a1 a2 s} : Frame 139995644288 (takeIn a1 a2 s) s := by
  unfold takeIn
  repeat' first
    | simp only [↓frame_mkM, ↓frame_rfl, Nat.reduceOr, ↓frame_step mirrorSend_frame, ↓frame_step pullData_frame, ↓frame_step takeOp_frame]
    | with_reducible apply frame_mk <;> first | exact .inl rfl | exact .inr rfl | skip
theorem actEnds_frame {s} : Frame 134217728 (actEnds s) s := by
  unfold actEnds
  repeat' first
    | simp only [↓frame_mkM, ↓frame_rfl]
    | with_reducible apply frame_mk <;> first | exact .inl rfl | exact .inr rfl | skip
theorem forwardCmd_frame {a1 a2 s} : Frame 139995644288 (forwardCmd a1 a2 s) s := by
  unfold forwardCmd
  repeat' first
    | simp only [↓frame_mkM, ↓frame_rfl, Nat.reduceOr, ↓frame_step send_frame, ↓frame_step bumpFigure_frame, ↓frame_step takeIn_frame]
    | with_reducible apply frame_mk <;> first | exact .inl rfl | exact .inr rfl | skip
theorem keepSafeAnswer_frame {a1 a2 s} : Frame 157779493248 (keepSafeAnswer a1 a2 s) s := by
  unfold keepSafeAnswer
  repeat' first
    | with_reducible refine frame_ite ?_ ?_
    | simp only [↓frame_rfl, Nat.reduceOr, ↓frame_step leave_frame, ↓frame_step nvDone_frame]
theorem downAnswer_frame {a1 a2 s} : Frame 157779493248 (downAnswer a1 a2 s) s := by
  unfold downAnswer
  repeat' first
    | with_reducible refine frame_ite ?_ ?_
    | simp only [↓frame_rfl, Nat.reduceOr, ↓frame_step leave_frame, ↓frame_step nvDone_frame]
theorem admitNow_frame {w a1 a2 a3 a4 f5 s} (hw : 170697974152 ||| w = w) (h : ∀ n s, Frame w (f5 n s) s) : Frame w (admitNow a1 a2 a3 a4 f5 s) s := by
  unfold admitNow
  repeat' first
    | with_reducible refine frame_ite ?_ ?_
    | simp only [↓frame_mkM, ↓frame_rfl, Nat.reduceOr, ↓frame_stepH hw keepSafeAnswer_frame, ↓frame_stepH hw forwardCmd_frame,
        ↓frame_stepH hw actEnds_frame, ↓frame_stepH hw downAnswer_frame, ↓frame_stepH hw takeIn_frame, ↓frame_stepH hw raise_frame]
    | with_reducible refine Frame.trans (h _ _) ?_
    | with_reducible refine Frame.trans (needsDrives_frame (sub_trans rfl hw) (fun _ => ?_) (fun _ => ?_)) ?_
    | with_reducible apply frame_mk <;> first | exact .inl (bit_sup hw rfl) | exact .inr rfl | skip
theorem meterCmd_frame {a1 s} : Frame 4194304 (meterCmd a1 s).2 s := by
  unfold meterCmd
  repeat' first
    | with_reducible refine frame_ite ?_ ?_
    | simp only [↓frame_rfl, Nat.reduceOr, ↓frame_step meterShelf_frame, ↓frame_step meterTenant_frame]
    | split
theorem countRed_frame {a1 s} : Frame 2147484672 (countRed a1 s) s := by
  unfold countRed
  repeat' first
    | with_reducible refine frame_ite ?_ ?_
    | simp only [↓frame_mkM, ↓frame_rfl, Nat.reduceOr, ↓frame_step bumpFigure_frame]
    | with_reducible apply frame_mk <;> first | exact .inl rfl | exact .inr rfl | skip
theorem arrive_frame {w a1 a2 f3 f4 s} (hw : 170697975176 ||| w = w) (h : ∀ n a s, Frame w (f3 n a s) s) (k : ∀ n s, Frame w (f4 n s) s) : Frame w (arrive a1 a2 f3 f4 s) s := by
  unfold arrive
  repeat' first
    | with_reducible refine frame_ite ?_ ?_
    | simp only [↓frame_rfl, Nat.reduceOr, ↓frame_stepH hw sendOn_frame, ↓frame_stepH hw hostWork_frame, ↓frame_stepH hw countRed_frame,
        ↓frame_stepH hw meterCmd_frame]
    | with_reducible refine Frame.trans (h _ _ _) ?_
    | with_reducible refine Frame.trans (k _ _) ?_
    | with_reducible refine Frame.trans (admitNow_frame (sub_trans rfl hw) (fun _ _ => ?_)) ?_
    | with_reducible refine frame_snd (by assumption) ?_
    | split
theorem admServe_frame {a1 s} : Frame 4194560 (admServe a1 s) s := by
  unfold admServe
  repeat' first
    | simp only [↓frame_mkM, ↓frame_rfl]
    | with_reducible apply frame_mk <;> first | exact .inl rfl | exact .inr rfl | skip

end Machine
end Sys2Proof
end

