-- ==== Sys2Proof/Laws/FenceFrame.lean ====
section
/-!
SUPPORT. What the definitions of Machine/Fence.lean leave unchanged.
-/
namespace Sys2Proof
namespace Machine
set_option maxRecDepth 100000
set_option linter.unusedSimpArgs false

theorem reservationCmd_frame {a1 a2 s} : Frame 156871163904 (reservationCmd a1 a2 s) s := by
  unfold reservationCmd
  simp only [↓frame_rfl, Nat.reduceOr, ↓frame_step issueDrive_frame]
theorem enterFenced_frame {s} : Frame 156967632896 (enterFenced s) s := by
  unfold enterFenced
  repeat' first
    | simp only [↓frame_mkM, ↓frame_rfl, Nat.reduceOr, ↓frame_step raise_frame]
    | with_reducible apply frame_mk <;> first | exact .inl rfl | exact .inr rfl | skip
theorem fenceNext_frame {s} : Frame 157005381632 (fenceNext s) s := by
  unfold fenceNext
  repeat' first
    | with_reducible refine frame_ite ?_ ?_
    | simp only [↓frame_rfl, Nat.reduceOr, ↓frame_step reservationCmd_frame, ↓frame_step enterFenced_frame]
    | split
theorem detectFailure_frame {s} : Frame 157005381632 (detectFailure s) s := by
  unfold detectFailure
  repeat' first
    | with_reducible refine frame_ite ?_ ?_
    | simp only [↓frame_mkM, ↓frame_rfl, Nat.reduceOr, ↓frame_step fenceNext_frame]
    | with_reducible apply frame_mk <;> first | exact .inl rfl | exact .inr rfl | skip
theorem reservationDone_frame {a1 a2 a3 a4 s} : Frame 157005381632 (reservationDone a1 a2 a3 a4 s) s := by
  unfold reservationDone
  repeat' first
    | with_reducible refine frame_ite ?_ ?_
    | simp only [↓frame_mkM, ↓frame_rfl, Nat.reduceOr, ↓frame_step reservationCmd_frame, ↓frame_step fenceNext_frame,
        ↓frame_step enterFenced_frame]
    | with_reducible apply frame_mk <;> first | exact .inl rfl | exact .inr rfl | skip
    | with_reducible refine frame_foldl (fun _ _ => ?_) ?_
theorem overTether_frame {a1 a2 a3 s} : Frame 137438953472 (overTether a1 a2 a3 s) s := by
  unfold overTether
  repeat' first
    | with_reducible refine frame_ite ?_ ?_
    | simp only [↓frame_rfl, Nat.reduceOr, ↓frame_step send_frame]
theorem sayDying_frame {s} : Frame 137438953472 (sayDying s) s := by
  unfold sayDying
  repeat' first
    | with_reducible refine frame_ite ?_ ?_
    | simp only [↓frame_rfl, Nat.reduceOr, ↓frame_step overTether_frame, ↓frame_step send_frame]

end Machine
end Sys2Proof
end

