-- ==== Sys2Proof/Laws/PageOpsFrame.lean ====
section
/-!
SUPPORT. What the definitions of Machine/PageOps.lean leave unchanged.
-/
namespace Sys2Proof
namespace Machine
set_option maxRecDepth 100000
set_option linter.unusedSimpArgs false

theorem putPart_frame {a1 s} : Frame 4096 (putPart a1 s) s := by
  unfold putPart
  repeat' first
    | simp only [↓frame_mkM, ↓frame_rfl]
    | with_reducible apply frame_mk <;> first | exact .inl rfl | exact .inr rfl | skip
theorem writePage_frame {a1 a2 a3 a4 s} : Frame 157005406216 (writePage a1 a2 a3 a4 s).2.2 s := by
  unfold writePage
  repeat' first
    | simp only [↓frame_rfl, Nat.reduceOr, ↓frame_step writeSmallUnits_frame, ↓frame_step draw_frame]
    | with_reducible refine frame_snd (by assumption) ?_
    | split
theorem writeLeaves_frame {a1 a2 a3 a4 a5 s} : Frame 157005406216 (writeLeaves a1 a2 a3 a4 a5 s).2.2 s := by
  induction a4 generalizing a5 s with
  | nil => exact Frame.refl
  | cons x l ih =>
    unfold writeLeaves
    repeat' first
      | simp only [↓frame_rfl, Nat.reduceOr, ↓frame_step ih, ↓frame_step writePage_frame]
      | with_reducible refine frame_snd (by assumption) ?_
      | split
theorem writeInner_frame {a1 a2 a3 a4 a5 a6 a7 s} : Frame 157005406216 (writeInner a1 a2 a3 a4 a5 a6 a7 s).2.2 s := by
  induction a6 generalizing a7 s with
  | nil => exact Frame.refl
  | cons x l ih =>
    unfold writeInner
    repeat' first
      | simp only [↓frame_rfl, Nat.reduceOr, ↓frame_step ih, ↓frame_step writePage_frame]
      | with_reducible refine frame_snd (by assumption) ?_
      | split
theorem writeLevels_frame {a1 a2 a3 a4 a5 a6 a7 s} : Frame 157005406216 (writeLevels a1 a2 a3 a4 a5 a6 a7 s).2.2.2 s := by
  induction a4 generalizing a5 a6 a7 s with
  | zero => exact Frame.refl
  | succ n ih =>
    unfold writeLevels
    repeat' first
      | simp only [↓frame_rfl, Nat.reduceOr, ↓frame_step ih, ↓frame_step writeInner_frame]
      | with_reducible refine frame_snd (by assumption) ?_
      | split
theorem flushNow_frame {a1 a2 s} : Frame 157005410312 (flushNow a1 a2 s) s := by
  unfold flushNow
  simp only [↓frame_rfl, Nat.reduceOr, ↓frame_step putPart_frame, ↓frame_step writeSealed_frame, ↓frame_step writeLevels_frame,
        ↓frame_step writeLeaves_frame, ↓frame_step killRecs_frame]
theorem startFlush_frame {a1 a2 s} : Frame 157005410312 (startFlush a1 a2 s) s := by
  unfold startFlush
  repeat' first
    | with_reducible refine frame_ite ?_ ?_
    | simp only [↓frame_rfl, Nat.reduceOr, ↓frame_step flushNow_frame]
theorem enterDelta_frame {a1 a2 a3 a4 a5 a6 s} : Frame 157005410312 (enterDelta a1 a2 a3 a4 a5 a6 s) s := by
  unfold enterDelta
  repeat' first
    | with_reducible refine frame_ite ?_ ?_
    | simp only [↓frame_rfl, Nat.reduceOr, ↓frame_step startFlush_frame, ↓frame_step putPart_frame]
theorem indexPut_frame {a1 a2 a3 a4 s} : Frame 157005410312 (indexPut a1 a2 a3 a4 s) s := by
  unfold indexPut
  simp only [↓frame_rfl, Nat.reduceOr, ↓frame_step enterDelta_frame, ↓frame_step splice_frame]
theorem indexRemove_frame {a1 a2 a3 a4 a5 s} : Frame 157005410312 (indexRemove a1 a2 a3 a4 a5 s) s := by
  unfold indexRemove
  simp only [↓frame_rfl, Nat.reduceOr, ↓frame_step enterDelta_frame, ↓frame_step splice_frame]
theorem mapMut_frame {a1 a2 a3 a4 a5 a6 a7 a8 s} : Frame 157005410312 (mapMut a1 a2 a3 a4 a5 a6 a7 a8 s) s := by
  unfold mapMut
  simp only [↓frame_rfl, Nat.reduceOr, ↓frame_step enterDelta_frame, ↓frame_step splice_frame]
theorem releasePages_frame {s} : Frame 12288 (releasePages s) s := by
  unfold releasePages
  repeat' first
    | with_reducible refine frame_ite ?_ ?_
    | simp only [↓frame_rfl, Nat.reduceOr, ↓frame_step killRecs_frame, ↓frame_step putPart_frame]
    | with_reducible refine frame_foldl (fun _ _ => ?_) ?_
theorem roleMut_frame {a1 a2 s} : Frame 157005410312 (roleMut a1 a2 s) s := by
  unfold roleMut
  repeat' first
    | with_reducible refine frame_ite ?_ ?_
    | simp only [↓frame_rfl, Nat.reduceOr, ↓frame_step startFlush_frame, ↓frame_step putPart_frame]
    | split

end Machine
end Sys2Proof
end

