-- ==== Sys2Proof/Laws/MoveOpsFrame.lean ====
section
/-!
SUPPORT. What the definitions of Machine/MoveOps.lean leave unchanged.
-/
namespace Sys2Proof
namespace Machine
set_option maxRecDepth 100000
set_option linter.unusedSimpArgs false

theorem putObj_frame {a1 s} : Frame 512 (putObj a1 s) s := by
  unfold putObj
  repeat' first
    | simp only [↓frame_mkM, ↓frame_rfl]
    | with_reducible apply frame_mk <;> first | exact .inl rfl | exact .inr rfl | skip
theorem writeObjRecord_frame {a1 a2 a3 s} : Frame 157005406216 (writeObjRecord a1 a2 a3 s).2 s := by
  unfold writeObjRecord
  simp only [↓frame_rfl, Nat.reduceOr, ↓frame_step writeSmallUnits_frame, ↓frame_step killKind_frame]
theorem reindexObj_frame {a1 a2 a3 s} : Frame 157005410824 (reindexObj a1 a2 a3 s) s := by
  unfold reindexObj
  simp only [↓frame_rfl, Nat.reduceOr, ↓frame_step indexPut_frame, ↓frame_step writeObjRecord_frame, ↓frame_step putObj_frame]
theorem recordObj_frame {a1 a2 a3 s} : Frame 157005410824 (recordObj a1 a2 a3 s) s := by
  unfold recordObj
  simp only [↓frame_rfl, Nat.reduceOr, ↓frame_step reindexObj_frame]
theorem reenterObj_frame {a1 a2 a3 s} : Frame 157005410312 (reenterObj a1 a2 a3 s) s := by
  unfold reenterObj
  simp only [↓frame_rfl, Nat.reduceOr, ↓frame_step indexPut_frame]
theorem writePointers_frame {s} : Frame 156871180288 (writePointers s) s := by
  unfold writePointers
  repeat' first
    | simp only [↓frame_mkM, ↓frame_rfl, Nat.reduceOr, ↓frame_step issueWrite_frame, ↓frame_step putMember_frame]
    | with_reducible apply frame_mk <;> first | exact .inl rfl | exact .inr rfl | skip
    | with_reducible refine frame_foldl (fun _ _ => ?_) ?_
theorem moveBlocks_frame {a1 a2 a3 a4 a5 a6 s} : Frame 157005410568 (moveBlocks a1 a2 a3 a4 a5 a6 s) s := by
  unfold moveBlocks
  repeat' first
    | simp only [↓frame_mkM, ↓frame_rfl, Nat.reduceOr, ↓frame_step mapMut_frame]
    | with_reducible apply frame_mk <;> first | exact .inl rfl | exact .inr rfl | skip
    | with_reducible refine frame_foldl (fun _ _ => ?_) ?_
    | split
theorem referMoved_frame {a1 a2 a3 a4 s} : Frame 157005411080 (referMoved a1 a2 a3 a4 s) s := by
  unfold referMoved
  repeat' first
    | with_reducible refine frame_ite ?_ ?_
    | simp only [↓frame_rfl, Nat.reduceOr, ↓frame_step reindexObj_frame, ↓frame_step indexPut_frame, ↓frame_step moveBlocks_frame,
        ↓frame_step putPart_frame, ↓frame_step writePointers_frame, ↓frame_step putShard_frame]
    | split
theorem layAgain_frame {a1 a2 a3 a4 a5 s} : Frame 157005406216 (layAgain a1 a2 a3 a4 a5 s).2.2 s := by
  unfold layAgain
  repeat' first
    | simp only [↓frame_mkM, ↓frame_rfl, Nat.reduceOr, ↓frame_step writeUnits_frame, ↓frame_step killRecs_frame, ↓frame_step mapSeg_frame,
        ↓frame_step spliceExtents_frame]
    | with_reducible apply frame_mk <;> first | exact .inl rfl | exact .inr rfl | skip
    | split
theorem movePage_frame {a1 a2 a3 a4 a5 a6 s} : Frame 157005410312 (movePage a1 a2 a3 a4 a5 a6 s) s := by
  unfold movePage
  repeat' first
    | with_reducible refine frame_ite ?_ ?_
    | simp only [↓frame_rfl, Nat.reduceOr, ↓frame_step layAgain_frame, ↓frame_step flushNow_frame, ↓frame_step putPart_frame]
    | split
theorem moveRecord_frame {a1 a2 a3 a4 s} : Frame 157005411080 (moveRecord a1 a2 a3 a4 s).2 s := by
  unfold moveRecord
  repeat' first
    | with_reducible refine frame_ite ?_ ?_
    | simp only [↓frame_rfl, Nat.reduceOr, ↓frame_step movePage_frame, ↓frame_step sequence_frame, ↓frame_step layAgain_frame,
        ↓frame_step referMoved_frame]
    | with_reducible refine frame_snd (by assumption) ?_
    | split
theorem moveAll_frame {a1 a2 a3 a4 s} : Frame 157005411080 (moveAll a1 a2 a3 a4 s).2 s := by
  unfold moveAll
  repeat' first
    | simp only [↓frame_rfl, Nat.reduceOr, ↓frame_step moveRecord_frame]
    | with_reducible refine frame_foldl_snd (fun _ _ => ?_) ?_
theorem rowEnded_frame {a1 s} : Frame 157005406216 (rowEnded a1 s) s := by
  unfold rowEnded
  repeat' first
    | with_reducible refine frame_ite ?_ ?_
    | simp only [↓frame_mkM, ↓frame_rfl, Nat.reduceOr, ↓frame_step segEntry_frame, ↓frame_step mapSeg_frame]
    | with_reducible apply frame_mk <;> first | exact .inl rfl | exact .inr rfl | skip
    | split
theorem retargetRows_frame {a1 a2 a3 a4 s} : Frame 274878038016 (retargetRows a1 a2 a3 a4 s) s := by
  unfold retargetRows
  repeat' first
    | simp only [↓frame_mkM, ↓frame_rfl]
    | with_reducible apply frame_mk <;> first | exact .inl rfl | exact .inr rfl | skip
theorem voidRow_frame {a1 s} : Frame 431883449096 (voidRow a1 s) s := by
  unfold voidRow
  simp only [↓frame_rfl, Nat.reduceOr, ↓frame_step retireRow_frame, ↓frame_step rowEnded_frame, ↓frame_step retargetRows_frame,
        ↓frame_step moveAll_frame, ↓frame_step raise_frame, ↓frame_step splice_frame, ↓frame_step mapRow_frame]
theorem rowOnMedia_frame {a1 s} : Frame 157005410312 (rowOnMedia a1 s) s := by
  unfold rowOnMedia
  repeat' first
    | simp only [↓frame_rfl, Nat.reduceOr, ↓frame_step rowEnded_frame, ↓frame_step retireRow_frame, ↓frame_step roleMut_frame,
        ↓frame_step mapRow_frame]
    | with_reducible refine frame_foldl (fun _ _ => ?_) ?_
theorem stripDone_frame {a1 a2 a3 a4 s} : Frame 431883449096 (stripDone a1 a2 a3 a4 s) s := by
  unfold stripDone
  repeat' first
    | with_reducible refine frame_ite ?_ ?_
    | simp only [↓frame_rfl, Nat.reduceOr, ↓frame_step mapRow_frame, ↓frame_step voidRow_frame, ↓frame_step rowOnMedia_frame]
    | split

end Machine
end Sys2Proof
end

