-- ==== Sys2Proof/Laws/MemberOpsFrame.lean ====
section
/-!
SUPPORT. What the definitions of Machine/MemberOps.lean leave unchanged.
-/
namespace Sys2Proof
namespace Machine
set_option maxRecDepth 100000
set_option linter.unusedSimpArgs false

theorem loseLbas_frame {a1 a2 a3 s} : Frame 157005410568 (loseLbas a1 a2 a3 s) s := by
  unfold loseLbas
  repeat' first
    | simp only [↓frame_mkM, ↓frame_rfl, Nat.reduceOr, ↓frame_step mapMut_frame]
    | with_reducible apply frame_mk <;> first | exact .inl rfl | exact .inr rfl | skip
    | with_reducible refine frame_foldl (fun _ _ => ?_) ?_
theorem loseRecord.moveAgain_frame {a1 s} : Frame 157005411080 (loseRecord.moveAgain a1 s) s := by
  unfold loseRecord.moveAgain
  simp only [↓frame_rfl, Nat.reduceOr, ↓frame_step moveRecord_frame]
theorem loseRecord_frame {a1 a2 a3 s} : Frame 157005411080 (loseRecord a1 a2 a3 s) s := by
  unfold loseRecord
  repeat' first
    | with_reducible refine frame_ite ?_ ?_
    | simp only [↓frame_rfl, Nat.reduceOr, ↓frame_step reenterObj_frame, ↓frame_step putObj_frame, ↓frame_step killRecs_frame,
        ↓frame_step loseLbas_frame, ↓frame_step putPart_frame, ↓frame_step flushNow_frame, ↓frame_step shardCheckpoint_frame,
        ↓frame_step loseRecord.moveAgain_frame]
    | split
theorem fileLosses_frame {a1 a2 a3 s} : Frame 157005406216 (fileLosses a1 a2 a3 s) s := by
  unfold fileLosses
  repeat' first
    | simp only [↓frame_mkM, ↓frame_rfl, Nat.reduceOr, ↓frame_step writeSealed_frame]
    | with_reducible apply frame_mk <;> first | exact .inl rfl | exact .inr rfl | skip
    | with_reducible refine frame_foldl (fun _ _ => ?_) ?_
theorem loseRecords_frame {a1 a2 a3 a4 a5 a6 s} : Frame 157005443848 (loseRecords a1 a2 a3 a4 a5 a6 s) s := by
  unfold loseRecords
  repeat' first
    | with_reducible refine frame_ite ?_ ?_
    | simp only [↓frame_rfl, Nat.reduceOr, ↓frame_step raiseLost_frame, ↓frame_step fileLosses_frame, ↓frame_step enter_frame,
        ↓frame_step appendEntry_frame, ↓frame_step loseRecord_frame, ↓frame_step sequence_frame]
    | with_reducible refine frame_foldl (fun _ _ => ?_) ?_
    | with_reducible refine frame_foldl_snd (fun _ _ => ?_) ?_
    | with_reducible refine frame_snd (by assumption) ?_
    | split
theorem salvageBlocks_frame {a1 a2 a3 a4 s} : Frame 157005410568 (salvageBlocks a1 a2 a3 a4 s) s := by
  unfold salvageBlocks
  repeat' first
    | with_reducible refine frame_ite ?_ ?_
    | simp only [↓frame_mkM, ↓frame_rfl, Nat.reduceOr, ↓frame_step mapMut_frame, ↓frame_step mapSeg_frame, ↓frame_step spliceRecord_frame,
        ↓frame_step writeUnits_frame, ↓frame_step sequence_frame]
    | with_reducible apply frame_mk <;> first | exact .inl rfl | exact .inr rfl | skip
    | with_reducible refine frame_foldl (fun _ _ => ?_) ?_
    | with_reducible refine frame_snd (by assumption) ?_
    | split
theorem declareLost_frame {a1 a2 s} : Frame 157005443848 (declareLost a1 a2 s) s := by
  unfold declareLost
  repeat' first
    | with_reducible refine frame_ite ?_ ?_
    | simp only [↓frame_mkM, ↓frame_rfl, Nat.reduceOr, ↓frame_step retireRow_frame, ↓frame_step loseRecords_frame, ↓frame_step mapRow_frame,
        ↓frame_step salvageBlocks_frame, ↓frame_step moveAll_frame]
    | with_reducible apply frame_mk <;> first | exact .inl rfl | exact .inr rfl | skip
    | with_reducible refine frame_foldl (fun _ _ => ?_) ?_
    | split
theorem loseRange_frame {a1 a2 a3 a4 a5 s} : Frame 157005443848 (loseRange a1 a2 a3 a4 a5 s) s := by
  unfold loseRange
  repeat' first
    | simp only [↓frame_rfl, Nat.reduceOr, ↓frame_step loseRecords_frame]
    | split
theorem mapHeld_frame {a1 a2 s} : Frame 274877906944 (mapHeld a1 a2 s) s := by
  unfold mapHeld
  repeat' first
    | simp only [↓frame_mkM, ↓frame_rfl]
    | with_reducible apply frame_mk <;> first | exact .inl rfl | exact .inr rfl | skip
theorem loseHeld_frame {a1 s} : Frame 274877906944 (loseHeld a1 s) s := by
  unfold loseHeld
  simp only [↓frame_rfl, Nat.reduceOr, ↓frame_step mapHeld_frame]
theorem readAt_frame {a1 a2 a3 a4 a5 a6 a7 a8 a9 s} : Frame 431749070848 (readAt a1 a2 a3 a4 a5 a6 a7 a8 a9 s) s := by
  unfold readAt
  simp only [↓frame_rfl, Nat.reduceOr, ↓frame_step mapHeld_frame, ↓frame_step issueRetry_frame]
theorem readAround_frame {a1 a2 a3 a4 a5 a6 s} : Frame 431883350792 (readAround a1 a2 a3 a4 a5 a6 s) s := by
  unfold readAround
  repeat' first
    | with_reducible refine frame_ite ?_ ?_
    | simp only [↓frame_rfl, Nat.reduceOr, ↓frame_step readAt_frame, ↓frame_step loseHeld_frame, ↓frame_step declareLost_frame]
    | with_reducible refine frame_foldl (fun _ _ => ?_) ?_
    | split
theorem readStrip_frame {a1 a2 a3 a4 s} : Frame 431883350792 (readStrip a1 a2 a3 a4 s) s := by
  unfold readStrip
  repeat' first
    | simp only [↓frame_rfl, Nat.reduceOr, ↓frame_step loseHeld_frame, ↓frame_step readAt_frame, ↓frame_step readAround_frame]
    | split
theorem readExtents_frame {a1 a2 s} : Frame 431883350792 (readExtents a1 a2 s) s := by
  unfold readExtents
  repeat' first
    | simp only [↓frame_rfl, Nat.reduceOr, ↓frame_step readStrip_frame]
    | with_reducible refine frame_foldl (fun _ _ => ?_) ?_
theorem discardCmds_frame {a1 s} : Frame 33554432 (discardCmds a1 s) s := by
  unfold discardCmds
  repeat' first
    | simp only [↓frame_rfl, Nat.reduceOr, ↓frame_step putPort_frame]
    | with_reducible refine frame_foldl (fun _ _ => ?_) ?_
theorem readBack_frame {a1 a2 a3 a4 a5 s} : Frame 274911461376 (readBack a1 a2 a3 a4 a5 s) s := by
  unfold readBack
  repeat' first
    | with_reducible refine frame_ite ?_ ?_
    | simp only [↓frame_rfl, Nat.reduceOr, ↓frame_step mapHeld_frame, ↓frame_step discardCmds_frame]
theorem writeSpare_frame {a1 a2 a3 a4 s} : Frame 156871172096 (writeSpare a1 a2 a3 a4 s) s := by
  unfold writeSpare
  repeat' first
    | simp only [↓frame_rfl, Nat.reduceOr, ↓frame_step issueWrite_frame, ↓frame_step mapRow_frame, ↓frame_step raise_frame]
    | split
theorem spareDone_frame {a1 a2 a3 a4 a5 s} : Frame 157005410312 (spareDone a1 a2 a3 a4 a5 s) s := by
  unfold spareDone
  repeat' first
    | with_reducible refine frame_ite ?_ ?_
    | simp only [↓frame_rfl, Nat.reduceOr, ↓frame_step roleMut_frame, ↓frame_step mapRow_frame, ↓frame_step writeSpare_frame]
theorem restoreDone_frame {a1 a2 a3 a4 a5 s} : Frame 157005410312 (restoreDone a1 a2 a3 a4 a5 s) s := by
  unfold restoreDone
  repeat' first
    | with_reducible refine frame_ite ?_ ?_
    | simp only [↓frame_mkM, ↓frame_rfl, Nat.reduceOr, ↓frame_step roleMut_frame, ↓frame_step mapRow_frame]
    | with_reducible apply frame_mk <;> first | exact .inl rfl | exact .inr rfl | skip
theorem markBad_frame {a1 a2 a3 s} : Frame 8192 (markBad a1 a2 a3 s) s := by
  unfold markBad
  repeat' first
    | simp only [↓frame_mkM, ↓frame_rfl, Nat.reduceOr, ↓frame_step mapRow_frame]
    | with_reducible apply frame_mk <;> first | exact .inl rfl | exact .inr rfl | skip
theorem pageAround_frame {a1 a2 a3 s} : Frame 156871163904 (pageAround a1 a2 a3 s) s := by
  unfold pageAround
  repeat' first
    | with_reducible refine frame_ite ?_ ?_
    | simp only [↓frame_rfl, Nat.reduceOr, ↓frame_step issueFlow_frame, ↓frame_step raise_frame]
    | with_reducible refine frame_foldl (fun _ _ => ?_) ?_
    | split
theorem noteLanyard_frame {a1 s} : Frame 156833415168 (noteLanyard a1 s) s := by
  unfold noteLanyard
  repeat' first
    | with_reducible refine frame_ite ?_ ?_
    | simp only [↓frame_rfl, Nat.reduceOr, ↓frame_step raise_frame]
theorem rowReadFailed_frame {a1 a2 a3 a4 a5 a6 s} : Frame 157005443848 (rowReadFailed a1 a2 a3 a4 a5 a6 s) s := by
  unfold rowReadFailed
  repeat' first
    | with_reducible refine frame_ite ?_ ?_
    | simp only [↓frame_rfl, Nat.reduceOr, ↓frame_step markBad_frame, ↓frame_step declareLost_frame, ↓frame_step pageAround_frame,
        ↓frame_step noteLanyard_frame]
    | split
theorem aheadCame_frame {a1 s} : Frame 256 (aheadCame a1 s) s := by
  unfold aheadCame
  repeat' first
    | with_reducible refine frame_ite ?_ ?_
    | simp only [↓frame_mkM, ↓frame_rfl]
    | with_reducible apply frame_mk <;> first | exact .inl rfl | exact .inr rfl | skip
theorem swapDrive_frame {a1 a2 a3 s} : Frame 274877906944 (swapDrive a1 a2 a3 s) s := by
  unfold swapDrive
  repeat' first
    | simp only [↓frame_mkM, ↓frame_rfl]
    | with_reducible apply frame_mk <;> first | exact .inl rfl | exact .inr rfl | skip
theorem noteSanitise_frame {a1 a2 s} : Frame 256 (noteSanitise a1 a2 s) s := by
  unfold noteSanitise
  repeat' first
    | simp only [↓frame_mkM, ↓frame_rfl]
    | with_reducible apply frame_mk <;> first | exact .inl rfl | exact .inr rfl | skip
theorem pollSanitise_frame {a1 a2 s} : Frame 431749070848 (pollSanitise a1 a2 s) s := by
  unfold pollSanitise
  simp only [↓frame_rfl, Nat.reduceOr, ↓frame_step swapDrive_frame, ↓frame_step issueDrive_frame]
theorem sanitiseEnds_frame {a1 a2 a3 s} : Frame 274877923584 (sanitiseEnds a1 a2 a3 s) s := by
  unfold sanitiseEnds
  repeat' first
    | with_reducible refine frame_ite ?_ ?_
    | simp only [↓frame_rfl, Nat.reduceOr, ↓frame_step noteSanitise_frame, ↓frame_step swapDrive_frame, ↓frame_step putMember_frame]
theorem sanitisePolled_frame {a1 a2 a3 s} : Frame 431749087488 (sanitisePolled a1 a2 a3 s) s := by
  unfold sanitisePolled
  repeat' first
    | with_reducible refine frame_ite ?_ ?_
    | simp only [↓frame_rfl, Nat.reduceOr, ↓frame_step pollSanitise_frame, ↓frame_step noteSanitise_frame, ↓frame_step sanitiseEnds_frame]
    | split
theorem ownerDone_frame {a1 a2 a3 a4 a5 s} : Frame 431891870472 (ownerDone a1 a2 a3 a4 a5 s) s := by
  unfold ownerDone
  repeat' first
    | with_reducible refine frame_ite ?_ ?_
    | simp only [↓frame_mkM, ↓frame_rfl, Nat.reduceOr, ↓frame_step readBack_frame, ↓frame_step mapHeld_frame, ↓frame_step readAround_frame,
        ↓frame_step markBad_frame, ↓frame_step stripDone_frame, ↓frame_step spareDone_frame, ↓frame_step restoreDone_frame,
        ↓frame_step bankDone_frame, ↓frame_step ringDone_frame, ↓frame_step landQuarantine_frame, ↓frame_step aheadCame_frame,
        ↓frame_step pollSanitise_frame, ↓frame_step sanitiseEnds_frame, ↓frame_step reservationDone_frame, ↓frame_step rowReadFailed_frame]
    | with_reducible apply frame_mk <;> first | exact .inl rfl | exact .inr rfl | skip
    | split
theorem setMemberState_frame {a1 a2 s} : Frame 157005438984 (setMemberState a1 a2 s) s := by
  unfold setMemberState
  repeat' first
    | with_reducible refine frame_ite ?_ ?_
    | simp only [↓frame_mkM, ↓frame_rfl, Nat.reduceOr, ↓frame_step changeBanks_frame, ↓frame_step pairState_frame, ↓frame_step raise_frame,
        ↓frame_step enter_frame, ↓frame_step raiseEvent_frame, ↓frame_step putMember_frame]
    | with_reducible apply frame_mk <;> first | exact .inl rfl | exact .inr rfl | skip
    | split
theorem recopy_frame {a1 a2 s} : Frame 156871188488 (recopy a1 a2 s) s := by
  unfold recopy
  repeat' first
    | simp only [↓frame_mkM, ↓frame_rfl, Nat.reduceOr, ↓frame_step ringCopies_frame]
    | with_reducible apply frame_mk <;> first | exact .inl rfl | exact .inr rfl | skip
    | with_reducible refine frame_foldl (fun _ _ => ?_) ?_
    | split
theorem loseStrips_frame {a1 s} : Frame 8192 (loseStrips a1 s) s := by
  unfold loseStrips
  repeat' first
    | simp only [↓frame_mkM, ↓frame_rfl]
    | with_reducible apply frame_mk <;> first | exact .inl rfl | exact .inr rfl | skip
theorem failSanitises_frame {s} : Frame 256 (failSanitises s) s := by
  unfold failSanitises
  repeat' first
    | simp only [↓frame_mkM, ↓frame_rfl]
    | with_reducible apply frame_mk <;> first | exact .inl rfl | exact .inr rfl | skip
theorem failMember_frame {a1 s} : Frame 431891870472 (failMember a1 s) s := by
  unfold failMember
  repeat' first
    | with_reducible refine frame_ite ?_ ?_
    | simp only [↓frame_rfl, Nat.reduceOr, ↓frame_step raise_frame, ↓frame_step failSanitises_frame, ↓frame_step ownerDone_frame,
        ↓frame_step recopy_frame, ↓frame_step loseStrips_frame, ↓frame_step putPort_frame, ↓frame_step putMember_frame,
        ↓frame_step setMemberState_frame]
    | with_reducible refine frame_foldl (fun _ _ => ?_) ?_
theorem strike_frame {a1 a2 s} : Frame 431891870472 (strike a1 a2 s) s := by
  unfold strike
  repeat' first
    | with_reducible refine frame_ite ?_ ?_
    | simp only [↓frame_rfl, Nat.reduceOr, ↓frame_step failMember_frame, ↓frame_step putMember_frame, ↓frame_step recopy_frame,
        ↓frame_step setMemberState_frame]
    | split
theorem timeoutStrike_frame {a1 s} : Frame 431891870472 (timeoutStrike a1 s) s := by
  unfold timeoutStrike
  repeat' first
    | with_reducible refine frame_ite ?_ ?_
    | simp only [↓frame_rfl, Nat.reduceOr, ↓frame_step failMember_frame, ↓frame_step putMember_frame, ↓frame_step strike_frame]
theorem putUnit_frame {a1 a2 s} : Frame 8192 (putUnit a1 a2 s) s := by
  unfold putUnit
  repeat' first
    | simp only [↓frame_mkM, ↓frame_rfl]
    | with_reducible apply frame_mk <;> first | exact .inl rfl | exact .inr rfl | skip
theorem putUnits_frame {a1 a2 a3 a4 a5 a6 a7 s} : Frame 8192 (putUnits a1 a2 a3 a4 a5 a6 a7 s) s := by
  fun_induction putUnits a1 a2 a3 a4 a5 a6 a7 s <;> (try rename_i ih)
  repeat' first
    | with_reducible refine frame_ite ?_ ?_
    | simp only [↓frame_rfl, Nat.reduceOr, ↓frame_step putUnit_frame, ↓frame_step ih]
    | simp only [↓frame_rfl, Nat.reduceOr, ↓frame_step putUnit_frame]
theorem rmwReads_frame {a1 a2 a3 s} : Frame 156871163904 (rmwReads a1 a2 a3 s) s := by
  unfold rmwReads
  repeat' first
    | simp only [↓frame_rfl, Nat.reduceOr, ↓frame_step issueDrive_frame]
    | with_reducible refine frame_foldl (fun _ _ => ?_) ?_
theorem startRmw_frame {a1 a2 a3 a4 a5 s} : Frame 157005411080 (startRmw a1 a2 a3 a4 a5 s) s := by
  unfold startRmw
  repeat' first
    | with_reducible refine frame_ite ?_ ?_
    | simp only [↓frame_mkM, ↓frame_rfl, Nat.reduceOr, ↓frame_step moveAll_frame, ↓frame_step putUnits_frame, ↓frame_step splice_frame,
        ↓frame_step rmwReads_frame, ↓frame_step mapRow_frame]
    | with_reducible apply frame_mk <;> first | exact .inl rfl | exact .inr rfl | skip
    | split
theorem issueRmws_frame {s} : Frame 156871172096 (issueRmws s) s := by
  unfold issueRmws
  repeat' first
    | simp only [↓frame_mkM, ↓frame_rfl, Nat.reduceOr, ↓frame_step issueWrite_frame]
    | with_reducible apply frame_mk <;> first | exact .inl rfl | exact .inr rfl | skip
    | with_reducible refine frame_foldl (fun _ _ => ?_) ?_
    | split
theorem retireStates_frame {a1 a2 s} : Frame 157005406216 (retireStates a1 a2 s) s := by
  unfold retireStates
  repeat' first
    | simp only [↓frame_mkM, ↓frame_rfl, Nat.reduceOr, ↓frame_step retireShard_frame]
    | with_reducible apply frame_mk <;> first | exact .inl rfl | exact .inr rfl | skip
theorem promoteCkpts_frame {s} : Frame 157005406216 (promoteCkpts s) s := by
  unfold promoteCkpts
  repeat' first
    | with_reducible refine frame_ite ?_ ?_
    | simp only [↓frame_rfl, Nat.reduceOr, ↓frame_step retireStates_frame, ↓frame_step writePointers_frame, ↓frame_step killRecs_frame,
        ↓frame_step putShard_frame]
    | with_reducible refine frame_foldl (fun _ _ => ?_) ?_
    | split
theorem settle_frame {s} : Frame 157005406216 (settle s) s := by
  unfold settle
  simp only [↓frame_rfl, Nat.reduceOr, ↓frame_step issueRmws_frame, ↓frame_step promoteCkpts_frame]
theorem countTimeout_frame {a1 s} : Frame 431891870472 (countTimeout a1 s) s := by
  unfold countTimeout
  simp only [↓frame_rfl, Nat.reduceOr, ↓frame_step timeoutStrike_frame, ↓frame_step bumpFigure_frame, ↓frame_step putPort_frame]
theorem timeoutCmd_frame {a1 a2 s} : Frame 431891870472 (timeoutCmd a1 a2 s) s := by
  unfold timeoutCmd
  repeat' first
    | with_reducible refine frame_ite ?_ ?_
    | simp only [↓frame_rfl, Nat.reduceOr, ↓frame_step settle_frame, ↓frame_step pumpPort_frame, ↓frame_step failMember_frame,
        ↓frame_step ownerDone_frame, ↓frame_step quarantineTag_frame, ↓frame_step countTimeout_frame]
theorem judgeStrip_frame {a1 a2 a3 a4 s} : Frame 431891870472 (judgeStrip a1 a2 a3 a4 s) s := by
  unfold judgeStrip
  repeat' first
    | simp only [↓frame_rfl, Nat.reduceOr, ↓frame_step strike_frame, ↓frame_step markBad_frame]
    | split
theorem runChecks_frame {a1 a2 s} : Frame 431891870472 (runChecks a1 a2 s) s := by
  unfold runChecks
  repeat' first
    | with_reducible refine frame_ite ?_ ?_
    | simp only [↓frame_rfl, Nat.reduceOr, ↓frame_step judgeStrip_frame, ↓frame_step readAround_frame, ↓frame_step mapHeld_frame,
        ↓frame_step pageAround_frame, ↓frame_step declareLost_frame, ↓frame_step issueFlow_frame, ↓frame_step loseRange_frame,
        ↓frame_step loseHeld_frame]
    | with_reducible refine frame_foldl (fun _ _ => ?_) ?_
    | with_reducible refine frame_mapD (fun _ => ?_) ?_
    | split
theorem endTransfer_frame {a1 a2 a3 a4 a5 s} : Frame 431891870472 (endTransfer a1 a2 a3 a4 a5 s) s := by
  unfold endTransfer
  repeat' first
    | with_reducible refine frame_ite ?_ ?_
    | simp only [↓frame_rfl, Nat.reduceOr, ↓frame_step settle_frame, ↓frame_step pumpPort_frame, ↓frame_step runChecks_frame,
        ↓frame_step sanitisePolled_frame, ↓frame_step ownerDone_frame, ↓frame_step putPort_frame, ↓frame_step putMember_frame,
        ↓frame_step strike_frame]
    | split
theorem completeCmd_frame {a1 a2 a3 a4 a5 s} : Frame 431891870472 (completeCmd a1 a2 a3 a4 a5 s) s := by
  unfold completeCmd
  repeat' first
    | with_reducible refine frame_ite ?_ ?_
    | simp only [↓frame_rfl, Nat.reduceOr, ↓frame_step nextPiece_frame, ↓frame_step endTransfer_frame]

end Machine
end Sys2Proof
end

