-- ==== Sys2Proof/Laws/IndexOpsFrame.lean ====
section
/-!
SUPPORT. What the definitions of Machine/IndexOps.lean leave unchanged.
-/
namespace Sys2Proof
namespace Machine
set_option maxRecDepth 100000
set_option linter.unusedSimpArgs false

theorem touchCache_frame {a1 a2 a3 s} : Frame 4096 (touchCache a1 a2 a3 s) s := by
  unfold touchCache
  repeat' first
    | simp only [↓frame_mkM, ↓frame_rfl]
    | with_reducible apply frame_mk <;> first | exact .inl rfl | exact .inr rfl | skip
theorem retireDelta_frame {a1 a2 a3 s} : Frame 157005406216 (retireDelta a1 a2 a3 s) s := by
  unfold retireDelta
  repeat' first
    | simp only [↓frame_mkM, ↓frame_rfl, Nat.reduceOr, ↓frame_step retireShard_frame]
    | with_reducible apply frame_mk <;> first | exact .inl rfl | exact .inr rfl | skip
theorem freeInline_frame {a1 a2 a3 s} : Frame 8192 (freeInline a1 a2 a3 s) s := by
  unfold freeInline
  simp only [↓frame_rfl, Nat.reduceOr, ↓frame_step killKind_frame]
theorem tellRoot_frame {a1 a2 a3 a4 a5 s} : Frame 137438953472 (tellRoot a1 a2 a3 a4 a5 s) s := by
  unfold tellRoot
  simp only [↓frame_rfl, Nat.reduceOr, ↓frame_step pairState_frame]
theorem endFlush_frame {a1 a2 a3 s} : Frame 157005410312 (endFlush a1 a2 a3 s) s := by
  unfold endFlush
  repeat' first
    | with_reducible refine frame_ite ?_ ?_
    | simp only [↓frame_rfl, Nat.reduceOr, ↓frame_step startFlush_frame, ↓frame_step tellRoot_frame, ↓frame_step retireDelta_frame,
        ↓frame_step releasePages_frame, ↓frame_step freeInline_frame, ↓frame_step killRecs_frame, ↓frame_step putPart_frame]
theorem dropFlush_frame {a1 a2 s} : Frame 12288 (dropFlush a1 a2 s) s := by
  unfold dropFlush
  simp only [↓frame_rfl, Nat.reduceOr, ↓frame_step killRecs_frame, ↓frame_step putPart_frame]
theorem recoverPart_frame {a1 a2 s} : Frame 157005410312 (recoverPart a1 a2 s) s := by
  unfold recoverPart
  repeat' first
    | with_reducible refine frame_ite ?_ ?_
    | simp only [↓frame_rfl, Nat.reduceOr, ↓frame_step endFlush_frame, ↓frame_step putPart_frame, ↓frame_step dropFlush_frame]
    | split
theorem idleFromStamp_frame {a1 s} : Frame 512 (idleFromStamp a1 s) s := by
  unfold idleFromStamp
  repeat' first
    | simp only [↓frame_mkM, ↓frame_rfl]
    | with_reducible apply frame_mk <;> first | exact .inl rfl | exact .inr rfl | skip
theorem recoverAll_frame {s} : Frame 157005410824 (recoverAll s) s := by
  unfold recoverAll
  repeat' first
    | simp only [↓frame_rfl, Nat.reduceOr, ↓frame_step idleFromStamp_frame, ↓frame_step recoverPart_frame]
    | with_reducible refine frame_foldl (fun _ _ => ?_) ?_
theorem recoverNext_frame {s} : Frame 157005410312 (recoverNext s) s := by
  unfold recoverNext
  repeat' first
    | with_reducible refine frame_ite ?_ ?_
    | simp only [↓frame_rfl, Nat.reduceOr, ↓frame_step recoverPart_frame]
    | with_reducible refine frame_elim ?_ (fun _ => ?_)
theorem readPage_frame {a1 a2 a3 a4 s} : Frame 156871163904 (readPage a1 a2 a3 a4 s) s := by
  unfold readPage
  repeat' first
    | with_reducible refine frame_ite ?_ ?_
    | simp only [↓frame_rfl, Nat.reduceOr, ↓frame_step issueFlow_frame, ↓frame_step pageAround_frame]
    | with_reducible refine frame_foldl (fun _ _ => ?_) ?_
    | split
theorem takePage_frame {a1 a2 a3 a4 a5 s} : Frame 156871168000 (takePage a1 a2 a3 a4 a5 s) s := by
  unfold takePage
  repeat' first
    | with_reducible refine frame_ite ?_ ?_
    | simp only [↓frame_rfl, Nat.reduceOr, ↓frame_step touchCache_frame, ↓frame_step readPage_frame, ↓frame_step chargeDrive_frame]
theorem noteWalk_frame {a1 s} : Frame 4194304 (noteWalk a1 s) s := by
  unfold noteWalk
  repeat' first
    | simp only [↓frame_rfl, Nat.reduceOr, ↓frame_step putQuiet_frame]
    | split
theorem walkPast_frame {a1 a2 a3 a4 a5 a6 s} : Frame 157005410312 (walkPast a1 a2 a3 a4 a5 a6 s) s := by
  unfold walkPast
  repeat' first
    | simp only [↓frame_rfl, Nat.reduceOr, ↓frame_step noteWalk_frame, ↓frame_step recoverPart_frame, ↓frame_step takePage_frame]
    | with_reducible refine frame_foldl (fun _ _ => ?_) ?_
    | split
theorem walkTo_frame {a1 a2 a3 a4 a5 s} : Frame 157005410312 (walkTo a1 a2 a3 a4 a5 s) s := by
  unfold walkTo
  simp only [↓frame_rfl, Nat.reduceOr, ↓frame_step walkPast_frame]
theorem setHint_frame {a1 a2 a3 a4 a5 a6 s} : Frame 4096 (setHint a1 a2 a3 a4 a5 a6 s) s := by
  unfold setHint
  repeat' first
    | simp only [↓frame_mkM, ↓frame_rfl]
    | with_reducible apply frame_mk <;> first | exact .inl rfl | exact .inr rfl | skip
    | split
theorem clearHint_frame {a1 a2 a3 s} : Frame 4096 (clearHint a1 a2 a3 s) s := by
  unfold clearHint
  repeat' first
    | simp only [↓frame_mkM, ↓frame_rfl]
    | with_reducible apply frame_mk <;> first | exact .inl rfl | exact .inr rfl | skip
    | split
theorem walkEnd_frame {a1 a2 a3 a4 a5 s} : Frame 4096 (walkEnd a1 a2 a3 a4 a5 s) s := by
  unfold walkEnd
  repeat' first
    | simp only [↓frame_rfl, Nat.reduceOr, ↓frame_step clearHint_frame, ↓frame_step setHint_frame]
    | split
theorem walkEnded_frame {a1 a2 a3 s} : Frame 4096 (walkEnded a1 a2 a3 s) s := by
  unfold walkEnded
  simp only [↓frame_rfl, Nat.reduceOr, ↓frame_step walkEnd_frame]
theorem clearHints_frame {a1 s} : Frame 4096 (clearHints a1 s) s := by
  unfold clearHints
  repeat' first
    | simp only [↓frame_mkM, ↓frame_rfl]
    | with_reducible apply frame_mk <;> first | exact .inl rfl | exact .inr rfl | skip
theorem countProbe_frame {a1 s} : Frame 1024 (countProbe a1 s) s := by
  unfold countProbe
  repeat' first
    | with_reducible refine frame_ite ?_ ?_
    | simp only [↓frame_mkM, ↓frame_rfl]
    | with_reducible apply frame_mk <;> first | exact .inl rfl | exact .inr rfl | skip
theorem decoyWalk_frame {a1 a2 a3 s} : Frame 157005410312 (decoyWalk a1 a2 a3 s) s := by
  unfold decoyWalk
  simp only [↓frame_rfl, Nat.reduceOr, ↓frame_step clearHint_frame, ↓frame_step walkTo_frame]
theorem changeShare_some {a1 a2 s x} (h : changeShare a1 a2 s = some x) : Frame 4096 x s := by
  unfold changeShare at h
  dsimp only at h
  split at h
  · cases h
    rw [frame_mkM]; apply frame_mk <;> first | exact .inl rfl | exact .inr rfl | skip
    exact Frame.refl
  · simp only [Option.map_eq_some_iff] at h
    obtain ⟨b, -, rfl⟩ := h
    rw [frame_mkM]; apply frame_mk <;> first | exact .inl rfl | exact .inr rfl | skip
    exact Frame.refl

end Machine
end Sys2Proof
end

