-- ==== Sys2Proof/Laws/HitchOpsFrame.lean ====
section
/-!
SUPPORT. What the definitions of Machine/HitchOps.lean leave unchanged.
-/
namespace Sys2Proof
namespace Machine
set_option maxRecDepth 100000
set_option linter.unusedSimpArgs false

theorem putHitch_frame {a1 s} : Frame 131072 (putHitch a1 s) s := by
  unfold putHitch
  repeat' first
    | simp only [↓frame_mkM, ↓frame_rfl]
    | with_reducible apply frame_mk <;> first | exact .inl rfl | exact .inr rfl | skip
theorem mapHitch_frame {a1 a2 s} : Frame 131072 (mapHitch a1 a2 s) s := by
  unfold mapHitch
  repeat' first
    | simp only [↓frame_mkM, ↓frame_rfl]
    | with_reducible apply frame_mk <;> first | exact .inl rfl | exact .inr rfl | skip
theorem tellHitch_frame {a1 s} : Frame 137438953472 (tellHitch a1 s) s := by
  unfold tellHitch
  repeat' first
    | simp only [↓frame_rfl, Nat.reduceOr, ↓frame_step pairState_frame]
    | with_reducible refine frame_elim ?_ (fun _ => ?_)
theorem tellSeq_frame {a1 s} : Frame 137438953472 (tellSeq a1 s) s := by
  unfold tellSeq
  simp only [↓frame_rfl, Nat.reduceOr, ↓frame_step pairState_frame]
theorem sendMyavoOn_frame {a1 a2 a3 a4 a5 a6 a7 s} : Frame 139995775104 (sendMyavoOn a1 a2 a3 a4 a5 a6 a7 s) s := by
  unfold sendMyavoOn
  repeat' first
    | simp only [↓frame_rfl, Nat.reduceOr, ↓frame_step sendOn_frame, ↓frame_step tellSeq_frame, ↓frame_step putHitch_frame]
    | split
theorem sendMyavo_frame {a1 a2 a3 s} : Frame 139995775104 (sendMyavo a1 a2 a3 s) s := by
  unfold sendMyavo
  simp only [↓frame_rfl, Nat.reduceOr, ↓frame_step sendMyavoOn_frame]
theorem sendNotice_frame {a1 a2 a3 s} : Frame 139995775104 (sendNotice a1 a2 a3 s) s := by
  unfold sendNotice
  repeat' first
    | with_reducible refine frame_ite ?_ ?_
    | simp only [↓frame_rfl, Nat.reduceOr, ↓frame_step sendMyavo_frame, ↓frame_step tellHitch_frame, ↓frame_step mapHitch_frame]
theorem tellEnd_frame {a1 a2 a3 a4 a5 s} : Frame 137438953472 (tellEnd a1 a2 a3 a4 a5 s) s := by
  unfold tellEnd
  simp only [↓frame_rfl, Nat.reduceOr, ↓frame_step pairState_frame]
theorem noticeLock_frame {a1 a2 a3 a4 s} : Frame 139995775104 (noticeLock a1 a2 a3 a4 s) s := by
  unfold noticeLock
  repeat' first
    | with_reducible refine frame_ite ?_ ?_
    | simp only [↓frame_rfl, Nat.reduceOr, ↓frame_step tellEnd_frame, ↓frame_step sendNotice_frame]
theorem hitchLock_frame {a1 a2 a3 s} : Frame 139995775104 (hitchLock a1 a2 a3 s) s := by
  unfold hitchLock
  repeat' first
    | simp only [↓frame_rfl, Nat.reduceOr, ↓frame_step noticeLock_frame]
    | with_reducible refine frame_foldl (fun _ _ => ?_) ?_
theorem abortFlight_frame {a1 a2 a3 s} : Frame 139995775104 (abortFlight a1 a2 a3 s) s := by
  unfold abortFlight
  simp only [↓frame_rfl, Nat.reduceOr, ↓frame_step mapHitch_frame, ↓frame_step sendMyavo_frame]
theorem noticeDelete_frame {a1 a2 a3 a4 s} : Frame 139995775104 (noticeDelete a1 a2 a3 a4 s) s := by
  unfold noticeDelete
  repeat' first
    | with_reducible refine frame_ite ?_ ?_
    | simp only [↓frame_rfl, Nat.reduceOr, ↓frame_step tellEnd_frame, ↓frame_step mapHitch_frame, ↓frame_step abortFlight_frame,
        ↓frame_step sendNotice_frame]
    | split
theorem hitchDelete_frame {a1 a2 a3 s} : Frame 139995775104 (hitchDelete a1 a2 a3 s) s := by
  unfold hitchDelete
  repeat' first
    | simp only [↓frame_rfl, Nat.reduceOr, ↓frame_step noticeDelete_frame]
    | with_reducible refine frame_foldl (fun _ _ => ?_) ?_

end Machine
end Sys2Proof
end

