-- ==== Sys2Proof/Laws/ObjectOpsFrame.lean ====
section
/-!
SUPPORT. What the definitions of Machine/ObjectOps.lean leave unchanged.
-/
namespace Sys2Proof
namespace Machine
set_option maxRecDepth 100000
set_option linter.unusedSimpArgs false

theorem readRemote_frame {a1 a2 s} : Frame 139995644032 (readRemote a1 a2 s) s := by
  unfold readRemote
  repeat' first
    | with_reducible refine frame_ite ?_ ?_
    | simp only [↓frame_rfl, Nat.reduceOr, ↓frame_step sendOn_frame]
    | split
theorem putLocks_frame {a1 a2 a3 a4 s} : Frame 2048 (putLocks a1 a2 a3 a4 s) s := by
  unfold putLocks
  repeat' first
    | simp only [↓frame_mkM, ↓frame_rfl]
    | with_reducible apply frame_mk <;> first | exact .inl rfl | exact .inr rfl | skip
theorem noteLapsed_frame {a1 a2 a3 s} : Frame 2048 (noteLapsed a1 a2 a3 s) s := by
  unfold noteLapsed
  repeat' first
    | with_reducible refine frame_ite ?_ ?_
    | simp only [↓frame_mkM, ↓frame_rfl]
    | with_reducible apply frame_mk <;> first | exact .inl rfl | exact .inr rfl | skip
theorem expireTarget_frame {a1 a2 s} : Frame 157005441032 (expireTarget a1 a2 s) s := by
  unfold expireTarget
  repeat' first
    | simp only [↓frame_rfl, Nat.reduceOr, ↓frame_step enter_frame, ↓frame_step noteLapsed_frame, ↓frame_step putLocks_frame,
        ↓frame_step sequence_frame]
    | with_reducible refine frame_foldl (fun _ _ => ?_) ?_
    | with_reducible refine frame_snd (by assumption) ?_
    | split
theorem meetExpiries_frame {a1 a2 s} : Frame 157005441032 (meetExpiries a1 a2 s) s := by
  unfold meetExpiries
  repeat' first
    | simp only [↓frame_rfl, Nat.reduceOr, ↓frame_step expireTarget_frame]
    | split
theorem expireAll_frame {s} : Frame 157005441032 (expireAll s) s := by
  unfold expireAll
  repeat' first
    | simp only [↓frame_rfl, Nat.reduceOr, ↓frame_step expireTarget_frame]
    | with_reducible refine frame_foldl (fun _ _ => ?_) ?_
theorem chargeUnits_frame {a1 a2 a3 a4 s} : Frame 4194304 (chargeUnits a1 a2 a3 a4 s) s := by
  unfold chargeUnits
  repeat' first
    | with_reducible refine frame_ite ?_ ?_
    | simp only [↓frame_rfl, Nat.reduceOr, ↓frame_step chargeDrive_frame, ↓frame_step chargeMutation_frame]
theorem chargeReads_frame {a1 a2 s} : Frame 4194304 (chargeReads a1 a2 s) s := by
  unfold chargeReads
  simp only [↓frame_rfl, Nat.reduceOr, ↓frame_step chargeDrive_frame]
theorem readFor_frame {a1 a2 a3 a4 a5 s} : Frame 431883350792 (readFor a1 a2 a3 a4 a5 s) s := by
  unfold readFor
  simp only [↓frame_rfl, Nat.reduceOr, ↓frame_step readExtents_frame, ↓frame_step mapHeld_frame, ↓frame_step chargeReads_frame]
theorem readAway_frame {a1 a2 a3 s} : Frame 156871163904 (readAway a1 a2 a3 s) s := by
  unfold readAway
  repeat' first
    | simp only [↓frame_rfl, Nat.reduceOr, ↓frame_step issueFlow_frame, ↓frame_step chargeReads_frame]
    | with_reducible refine frame_foldl (fun _ _ => ?_) ?_
    | split
theorem commitPart_frame {a1 a2 a3 a4 a5 s} : Frame 157005406216 (commitPart a1 a2 a3 a4 a5 s).2.2 s := by
  unfold commitPart
  repeat' first
    | with_reducible refine frame_ite ?_ ?_
    | simp only [↓frame_rfl, Nat.reduceOr, ↓frame_step writeLarge_frame, ↓frame_step writeSmallUnits_frame]
    | with_reducible refine frame_snd2 (by assumption) ?_
    | split
theorem sealObj_frame {a1 a2 a3 s} : Frame 157005509128 (sealObj a1 a2 a3 s).2.2 s := by
  unfold sealObj
  repeat' first
    | simp only [↓frame_rfl, Nat.reduceOr, ↓frame_step walkEnded_frame, ↓frame_step addReceipt_frame, ↓frame_step appendEntry_frame,
        ↓frame_step recordObj_frame, ↓frame_step drawDigest_frame]
    | with_reducible refine frame_snd (by assumption) ?_
    | split
theorem staleObj_frame {a1 s} : Frame 8192 (staleObj a1 s) s := by
  unfold staleObj
  simp only [↓frame_rfl, Nat.reduceOr, ↓frame_step killKind_frame]
theorem dropObj_frame {a1 a2 a3 s} : Frame 157005412872 (dropObj a1 a2 a3 s) s := by
  unfold dropObj
  repeat' first
    | simp only [↓frame_mkM, ↓frame_rfl, Nat.reduceOr, ↓frame_step clearHint_frame, ↓frame_step indexRemove_frame,
        ↓frame_step staleObj_frame]
    | with_reducible apply frame_mk <;> first | exact .inl rfl | exact .inr rfl | skip
theorem abortObj_frame {a1 a2 a3 s} : Frame 157005445640 (abortObj a1 a2 a3 s).2 s := by
  unfold abortObj
  repeat' first
    | simp only [↓frame_rfl, Nat.reduceOr, ↓frame_step enter_frame, ↓frame_step dropObj_frame, ↓frame_step sequence_frame]
    | with_reducible refine frame_snd (by assumption) ?_
    | split
theorem deleteObj_frame {a1 a2 a3 s} : Frame 157276371592 (deleteObj a1 a2 a3 s).2 s := by
  unfold deleteObj
  repeat' first
    | simp only [↓frame_rfl, Nat.reduceOr, ↓frame_step chargeUnits_frame, ↓frame_step hitchDelete_frame, ↓frame_step appendEntry_frame,
        ↓frame_step writeSealed_frame, ↓frame_step dropObj_frame]
    | with_reducible refine frame_snd (by assumption) ?_
    | split
theorem placeLock_frame {a1 a2 a3 s} : Frame 157005445640 (placeLock a1 a2 a3 s).2.2.2 s := by
  unfold placeLock
  repeat' first
    | simp only [↓frame_rfl, Nat.reduceOr, ↓frame_step appendEntry_frame, ↓frame_step recordObj_frame, ↓frame_step putLocks_frame,
        ↓frame_step sequence_frame, ↓frame_step changeBanks_frame]
    | with_reducible refine frame_snd (by assumption) ?_
    | split
theorem carryLock_frame {a1 a2 a3 s} : Frame 157276371592 (carryLock a1 a2 a3 s) s := by
  unfold carryLock
  simp only [↓frame_rfl, Nat.reduceOr, ↓frame_step hitchLock_frame, ↓frame_step placeLock_frame]
theorem setLock_frame {a1 a2 a3 s} : Frame 157276437128 (setLock a1 a2 a3 s).2.2.2.2 s := by
  unfold setLock
  repeat' first
    | simp only [↓frame_rfl, Nat.reduceOr, ↓frame_step hitchLock_frame, ↓frame_step addReceipt_frame, ↓frame_step placeLock_frame]
    | with_reducible refine frame_snd (by assumption) ?_
    | split

end Machine
end Sys2Proof
end

