-- ==== Sys2Proof/Laws/KeysFrame.lean ====
section
/-!
SUPPORT. What the definitions of Machine/Keys.lean leave unchanged.
-/
namespace Sys2Proof
namespace Machine
set_option maxRecDepth 100000
set_option linter.unusedSimpArgs false

theorem drawKey_frame {s} : Frame 8 (drawKey s).2 s := by
  unfold drawKey
  simp only [↓frame_rfl, Nat.reduceOr, ↓frame_step draw_frame]
theorem escrowWrap_frame {a1 s} : Frame 8 (escrowWrap a1 s).2 s := by
  unfold escrowWrap
  repeat' first
    | simp only [↓frame_rfl, Nat.reduceOr, ↓frame_step draw_frame]
    | with_reducible refine frame_snd (by assumption) ?_
    | split

end Machine
end Sys2Proof
end

