-- ==== Sys2Proof/Laws/ObjectsFrame.lean ====
section
/-!
SUPPORT. What the definitions of Machine/Objects.lean leave unchanged.
-/
namespace Sys2Proof
namespace Machine
set_option maxRecDepth 100000
set_option linter.unusedSimpArgs false

theorem decoy_frame {a1 a2 s} : Frame 157005411336 (decoy a1 a2 s) s := by
  unfold decoy
  repeat' first
    | with_reducible refine frame_ite ?_ ?_
    | simp only [↓frame_rfl, Nat.reduceOr, ↓frame_step decoyWalk_frame, ↓frame_step countProbe_frame]
    | split
theorem walkObj_frame {a1 a2 s} : Frame 157005410312 (walkObj a1 a2 s) s := by
  unfold walkObj
  simp only [↓frame_rfl, Nat.reduceOr, ↓frame_step walkEnded_frame, ↓frame_step walkTo_frame]
theorem refuseUop_frame {a1 a2 a3 s} : Frame 982446798216 (refuseUop a1 a2 a3 s) s := by
  unfold refuseUop
  repeat' first
    | with_reducible refine frame_ite ?_ ?_
    | simp only [↓frame_rfl, Nat.reduceOr, ↓frame_step uopRefuse_frame, ↓frame_step decoy_frame]
theorem runUop_frame {w a1 a2 a3 f4 s} (hw : 982446798216 ||| w = w) (h : ∀ s, Frame w (f4 s) s) : Frame w (runUop a1 a2 a3 f4 s) s := by
  unfold runUop
  repeat' first
    | simp only [↓frame_rfl, Nat.reduceOr, ↓frame_stepH hw refuseUop_frame]
    | with_reducible refine Frame.trans (h _) ?_
    | split
theorem uopArrive_frame {w a1 a2 a3 a4 f5 s} (hw : 995331700104 ||| w = w) (h : ∀ n s, Frame w (f5 n s) s) : Frame w (uopArrive a1 a2 a3 a4 f5 s) s := by
  unfold uopArrive
  repeat' first
    | simp only [↓frame_rfl, Nat.reduceOr, ↓frame_stepH hw refuseUop_frame]
    | with_reducible refine Frame.trans (h _ _) ?_
    | with_reducible refine Frame.trans (arrive_frame (sub_trans rfl hw) (fun _ _ _ => ?_) (fun _ _ => ?_)) ?_
theorem finishUop_frame {a1 a2 a3 a4 a5 a6 a7 a8 s} : Frame 824633720832 (finishUop a1 a2 a3 a4 a5 a6 a7 a8 s) s := by
  unfold finishUop
  simp only [↓frame_rfl, Nat.reduceOr, ↓frame_step hold_frame]
theorem newObj_frame {a1 a2 a3 a4 a5 a6 s} : Frame 8 (newObj a1 a2 a3 a4 a5 a6 s).2 s := by
  unfold newObj
  repeat' first
    | simp only [↓frame_rfl, Nat.reduceOr, ↓frame_step draw_frame, ↓frame_step drawKey_frame]
    | with_reducible refine frame_snd (by assumption) ?_
    | split
theorem finishSeal_frame {a1 a2 a3 a4 a5 a6 s} : Frame 981639229960 (finishSeal a1 a2 a3 a4 a5 a6 s) s := by
  unfold finishSeal
  repeat' first
    | simp only [↓frame_rfl, Nat.reduceOr, ↓frame_step hold_frame, ↓frame_step chargeUnits_frame, ↓frame_step sealObj_frame]
    | with_reducible refine frame_snd2 (by assumption) ?_
    | split
theorem actPut_frame {a1 a2 a3 s} : Frame 981910024840 (actPut a1 a2 a3 s) s := by
  unfold actPut
  repeat' first
    | with_reducible refine frame_ite ?_ ?_
    | simp only [↓frame_rfl, Nat.reduceOr, ↓frame_step finishSeal_frame, ↓frame_step chargeUnits_frame, ↓frame_step sequence_frame,
        ↓frame_step newObj_frame, ↓frame_step readRemote_frame, ↓frame_step commitPart_frame, ↓frame_step finishUop_frame,
        ↓frame_step walkEnded_frame, ↓frame_step recordObj_frame]
    | with_reducible refine frame_snd (by assumption) ?_
    | with_reducible refine frame_snd2 (by assumption) ?_
    | split
theorem runPut_frame {a1 a2 a3 s} : Frame 982446897032 (runPut a1 a2 a3 s) s := by
  unfold runPut
  repeat' first
    | simp only [↓frame_rfl, Nat.reduceOr, ↓frame_step actPut_frame]
    | with_reducible refine Frame.trans (runUop_frame rfl (fun _ => ?_)) ?_
theorem execPut_frame {a1 a2 a3 s} : OutFrame 995331798920 (execPut a1 a2 a3 s) s := by
  unfold execPut
  repeat' first
    | simp only [↓outFrame_next, ↓frame_rfl, Nat.reduceOr, ↓frame_step runPut_frame]
    | with_reducible refine Frame.trans (uopArrive_frame rfl (fun _ _ => ?_)) ?_
theorem restartIdle_frame {a1 a2 s} : Frame 512 (restartIdle a1 a2 s) s := by
  unfold restartIdle
  repeat' first
    | simp only [↓frame_rfl, Nat.reduceOr, ↓frame_step putObj_frame]
    | split
theorem actPutPart_frame {a1 a2 a3 s} : Frame 982446797704 (actPutPart a1 a2 a3 s) s := by
  unfold actPutPart
  repeat' first
    | simp only [↓frame_rfl, Nat.reduceOr, ↓frame_step uopDone_frame, ↓frame_step finishUop_frame, ↓frame_step walkEnded_frame,
        ↓frame_step recordObj_frame, ↓frame_step chargeUnits_frame, ↓frame_step commitPart_frame, ↓frame_step sequence_frame,
        ↓frame_step readRemote_frame]
    | with_reducible refine frame_snd (by assumption) ?_
    | with_reducible refine frame_snd2 (by assumption) ?_
    | split
theorem runPutPart_frame {a1 a2 a3 s} : Frame 982446798728 (runPutPart a1 a2 a3 s) s := by
  unfold runPutPart
  repeat' first
    | with_reducible refine frame_ite ?_ ?_
    | simp only [↓frame_rfl, Nat.reduceOr, ↓frame_step actPutPart_frame, ↓frame_step restartIdle_frame]
    | with_reducible refine Frame.trans (runUop_frame rfl (fun _ => ?_)) ?_
theorem execPutPart_frame {a1 a2 a3 s} : OutFrame 995331700616 (execPutPart a1 a2 a3 s) s := by
  unfold execPutPart
  repeat' first
    | simp only [↓outFrame_next, ↓frame_rfl, Nat.reduceOr, ↓frame_step runPutPart_frame]
    | with_reducible refine Frame.trans (uopArrive_frame rfl (fun _ _ => ?_)) ?_
theorem actPutAbort_frame {a1 a2 s} : Frame 981639166472 (actPutAbort a1 a2 s) s := by
  unfold actPutAbort
  repeat' first
    | simp only [↓frame_rfl, Nat.reduceOr, ↓frame_step finishUop_frame, ↓frame_step abortObj_frame]
    | with_reducible refine frame_snd (by assumption) ?_
    | split
theorem runPutAbort_frame {a1 a2 s} : Frame 982446833544 (runPutAbort a1 a2 s) s := by
  unfold runPutAbort
  repeat' first
    | simp only [↓frame_rfl, Nat.reduceOr, ↓frame_step actPutAbort_frame]
    | with_reducible refine Frame.trans (runUop_frame rfl (fun _ => ?_)) ?_
theorem execPutAbort_frame {a1 a2 s} : OutFrame 995331735432 (execPutAbort a1 a2 s) s := by
  unfold execPutAbort
  repeat' first
    | simp only [↓outFrame_next, ↓frame_rfl, Nat.reduceOr, ↓frame_step runPutAbort_frame]
    | with_reducible refine Frame.trans (uopArrive_frame rfl (fun _ _ => ?_)) ?_
theorem digestBack_frame {a1 a2 a3 a4 a5 s} : Frame 981639164680 (digestBack a1 a2 a3 a4 a5 s) s := by
  unfold digestBack
  simp only [↓frame_rfl, Nat.reduceOr, ↓frame_step readFor_frame, ↓frame_step hold_frame]
theorem actSeal_frame {a1 a2 a3 s} : Frame 981639230216 (actSeal a1 a2 a3 s) s := by
  unfold actSeal
  repeat' first
    | with_reducible refine frame_ite ?_ ?_
    | simp only [↓frame_rfl, Nat.reduceOr, ↓frame_step finishSeal_frame, ↓frame_step sequence_frame, ↓frame_step digestBack_frame]
    | with_reducible refine frame_snd (by assumption) ?_
    | split
theorem runSeal_frame {a1 a2 a3 s} : Frame 982446897032 (runSeal a1 a2 a3 s) s := by
  unfold runSeal
  repeat' first
    | with_reducible refine frame_ite ?_ ?_
    | simp only [↓frame_rfl, Nat.reduceOr, ↓frame_step actSeal_frame, ↓frame_step restartIdle_frame]
    | with_reducible refine Frame.trans (runUop_frame rfl (fun _ => ?_)) ?_
theorem execSeal_frame {a1 a2 a3 s} : OutFrame 995331798920 (execSeal a1 a2 a3 s) s := by
  unfold execSeal
  repeat' first
    | simp only [↓outFrame_next, ↓frame_rfl, Nat.reduceOr, ↓frame_step runSeal_frame]
    | with_reducible refine Frame.trans (uopArrive_frame rfl (fun _ _ => ?_)) ?_
theorem runAhead_frame {a1 a2 a3 a4 a5 s} : Frame 156871163904 (runAhead a1 a2 a3 a4 a5 s).2 s := by
  unfold runAhead
  repeat' first
    | with_reducible refine frame_ite ?_ ?_
    | simp only [↓frame_rfl, Nat.reduceOr, ↓frame_step readPage_frame, ↓frame_step chargeDrive_frame, ↓frame_step issueFlow_frame]
    | with_reducible refine frame_foldl (fun _ _ => ?_) ?_
    | split
theorem actGet_frame {a1 a2 a3 a4 s} : Frame 982446798216 (actGet a1 a2 a3 a4 s) s := by
  unfold actGet
  repeat' first
    | simp only [↓frame_mkM, ↓frame_rfl, Nat.reduceOr, ↓frame_step walkPast_frame, ↓frame_step runAhead_frame, ↓frame_step countProbe_frame,
        ↓frame_step refuseUop_frame]
    | with_reducible apply frame_mk <;> first | exact .inl rfl | exact .inr rfl | skip
    | with_reducible refine frame_snd (by assumption) ?_
    | split
theorem runGet_frame {a1 a2 a3 a4 s} : Frame 982446798216 (runGet a1 a2 a3 a4 s) s := by
  unfold runGet
  repeat' first
    | simp only [↓frame_rfl, Nat.reduceOr, ↓frame_step actGet_frame]
    | with_reducible refine Frame.trans (runUop_frame rfl (fun _ => ?_)) ?_
theorem execGet_frame {a1 a2 a3 s} : OutFrame 995331700104 (execGet a1 a2 a3 s) s := by
  unfold execGet
  repeat' first
    | simp only [↓outFrame_next, ↓frame_rfl, Nat.reduceOr, ↓frame_step runGet_frame]
    | with_reducible refine Frame.trans (uopArrive_frame rfl (fun _ _ => ?_)) ?_
theorem actHead_frame {a1 a2 s} : Frame 157813076360 (actHead a1 a2 s) s := by
  unfold actHead
  repeat' first
    | simp only [↓frame_rfl, Nat.reduceOr, ↓frame_step uopDone_frame, ↓frame_step walkObj_frame]
    | split
theorem runHead_frame {a1 a2 s} : Frame 982446798216 (runHead a1 a2 s) s := by
  unfold runHead
  repeat' first
    | simp only [↓frame_rfl, Nat.reduceOr, ↓frame_step actHead_frame]
    | with_reducible refine Frame.trans (runUop_frame rfl (fun _ => ?_)) ?_
theorem execHead_frame {a1 a2 s} : OutFrame 995331700104 (execHead a1 a2 s) s := by
  unfold execHead
  repeat' first
    | simp only [↓outFrame_next, ↓frame_rfl, Nat.reduceOr, ↓frame_step runHead_frame]
    | with_reducible refine Frame.trans (uopArrive_frame rfl (fun _ _ => ?_)) ?_
theorem actList_frame {a1 a2 a3 s} : Frame 157813076360 (actList a1 a2 a3 s) s := by
  unfold actList
  repeat' first
    | with_reducible refine frame_ite ?_ ?_
    | simp only [↓frame_rfl, Nat.reduceOr, ↓frame_step leave_frame, ↓frame_step walkTo_frame]
    | with_reducible refine frame_foldl (fun _ _ => ?_) ?_
    | split
theorem runList_frame {a1 a2 a3 s} : Frame 982446798216 (runList a1 a2 a3 s) s := by
  unfold runList
  repeat' first
    | simp only [↓frame_rfl, Nat.reduceOr, ↓frame_step actList_frame]
    | with_reducible refine Frame.trans (runUop_frame rfl (fun _ => ?_)) ?_
theorem execList_frame {a1 a2 a3 s} : OutFrame 995331700104 (execList a1 a2 a3 s) s := by
  unfold execList
  repeat' first
    | simp only [↓outFrame_next, ↓frame_rfl, Nat.reduceOr, ↓frame_step runList_frame]
    | with_reducible refine Frame.trans (uopArrive_frame rfl (fun _ _ => ?_)) ?_
theorem actDelete_frame {a1 a2 s} : Frame 981910092424 (actDelete a1 a2 s) s := by
  unfold actDelete
  repeat' first
    | simp only [↓frame_rfl, Nat.reduceOr, ↓frame_step finishUop_frame, ↓frame_step deleteObj_frame, ↓frame_step sequence_frame,
        ↓frame_step walkTo_frame]
    | with_reducible refine frame_snd (by assumption) ?_
    | split
theorem meetLocks_frame {a1 a2 a3 s} : Frame 157005441032 (meetLocks a1 a2 a3 s) s := by
  unfold meetLocks
  repeat' first
    | with_reducible refine frame_ite ?_ ?_
    | simp only [↓frame_rfl, Nat.reduceOr, ↓frame_step meetExpiries_frame]
theorem runDelete_frame {a1 a2 s} : Frame 982446964616 (runDelete a1 a2 s) s := by
  unfold runDelete
  repeat' first
    | simp only [↓frame_rfl, Nat.reduceOr, ↓frame_step actDelete_frame, ↓frame_step meetLocks_frame]
    | with_reducible refine Frame.trans (runUop_frame rfl (fun _ => ?_)) ?_
theorem execDelete_frame {a1 a2 s} : OutFrame 995331866504 (execDelete a1 a2 s) s := by
  unfold execDelete
  repeat' first
    | simp only [↓outFrame_next, ↓frame_rfl, Nat.reduceOr, ↓frame_step runDelete_frame]
    | with_reducible refine Frame.trans (uopArrive_frame rfl (fun _ _ => ?_)) ?_
theorem copyParts_frame {a1 a2 a3 a4 a5 s} : Frame 157005406216 (copyParts a1 a2 a3 a4 a5 s).2.2 s := by
  fun_induction copyParts a1 a2 a3 a4 a5 s <;> (try rename_i ih)
  repeat' first
    | simp only [↓frame_rfl, Nat.reduceOr, ↓frame_step chargeUnits_frame, ↓frame_step commitPart_frame, ↓frame_step ih]
    | simp only [↓frame_rfl, Nat.reduceOr, ↓frame_step chargeUnits_frame, ↓frame_step commitPart_frame]
    | with_reducible refine frame_snd2 (by assumption) ?_
theorem actCopy_frame {a1 a2 a3 s} : Frame 981639229960 (actCopy a1 a2 a3 s) s := by
  unfold actCopy
  repeat' first
    | simp only [↓frame_rfl, Nat.reduceOr, ↓frame_step finishSeal_frame, ↓frame_step copyParts_frame, ↓frame_step sequence_frame,
        ↓frame_step newObj_frame, ↓frame_step readAway_frame, ↓frame_step walkObj_frame]
    | with_reducible refine frame_elim ?_ (fun _ => ?_)
    | with_reducible refine frame_snd (by assumption) ?_
    | with_reducible refine frame_snd2 (by assumption) ?_
    | split
theorem runCopy_frame {a1 a2 a3 s} : Frame 982446897032 (runCopy a1 a2 a3 s) s := by
  unfold runCopy
  repeat' first
    | simp only [↓frame_rfl, Nat.reduceOr, ↓frame_step actCopy_frame]
    | with_reducible refine Frame.trans (runUop_frame rfl (fun _ => ?_)) ?_
theorem execCopy_frame {a1 a2 a3 s} : OutFrame 995331798920 (execCopy a1 a2 a3 s) s := by
  unfold execCopy
  repeat' first
    | simp only [↓outFrame_next, ↓frame_rfl, Nat.reduceOr, ↓frame_step runCopy_frame]
    | with_reducible refine Frame.trans (uopArrive_frame rfl (fun _ _ => ?_)) ?_
theorem actLock_frame {a1 a2 a3 a4 a5 s} : Frame 981910157960 (actLock a1 a2 a3 a4 a5 s) s := by
  unfold actLock
  repeat' first
    | simp only [↓frame_rfl, Nat.reduceOr, ↓frame_step hold_frame, ↓frame_step chargeUnits_frame, ↓frame_step setLock_frame,
        ↓frame_step walkObj_frame]
    | with_reducible refine frame_elim ?_ (fun _ => ?_)
    | split
theorem actHold_frame {a1 a2 a3 s} : Frame 981910157960 (actHold a1 a2 a3 s) s := by
  unfold actHold
  repeat' first
    | simp only [↓frame_rfl, Nat.reduceOr, ↓frame_step actLock_frame]
    | split
theorem runHold_frame {a1 a2 a3 s} : Frame 982447030152 (runHold a1 a2 a3 s) s := by
  unfold runHold
  repeat' first
    | simp only [↓frame_rfl, Nat.reduceOr, ↓frame_step actHold_frame, ↓frame_step meetLocks_frame]
    | with_reducible refine Frame.trans (runUop_frame rfl (fun _ => ?_)) ?_
theorem execHold_frame {a1 a2 a3 s} : OutFrame 995331932040 (execHold a1 a2 a3 s) s := by
  unfold execHold
  repeat' first
    | simp only [↓outFrame_next, ↓frame_rfl, Nat.reduceOr, ↓frame_step runHold_frame]
    | with_reducible refine Frame.trans (uopArrive_frame rfl (fun _ _ => ?_)) ?_
theorem actStopper_frame {a1 a2 a3 s} : Frame 981910157960 (actStopper a1 a2 a3 s) s := by
  unfold actStopper
  simp only [↓frame_rfl, Nat.reduceOr, ↓frame_step actLock_frame]
theorem runStopper_frame {a1 a2 a3 s} : Frame 982447030152 (runStopper a1 a2 a3 s) s := by
  unfold runStopper
  repeat' first
    | simp only [↓frame_rfl, Nat.reduceOr, ↓frame_step actStopper_frame, ↓frame_step meetLocks_frame]
    | with_reducible refine Frame.trans (runUop_frame rfl (fun _ => ?_)) ?_
theorem execStopper_frame {a1 a2 a3 s} : OutFrame 995331932040 (execStopper a1 a2 a3 s) s := by
  unfold execStopper
  repeat' first
    | simp only [↓outFrame_next, ↓frame_rfl, Nat.reduceOr, ↓frame_step runStopper_frame]
    | with_reducible refine Frame.trans (uopArrive_frame rfl (fun _ _ => ?_)) ?_
theorem runRelease_frame {a1 a2 a3 s} : Frame 982446798216 (runRelease a1 a2 a3 s) s := by
  unfold runRelease
  repeat' first
    | simp only [id_eq, ↓frame_rfl]
    | with_reducible refine Frame.trans (runUop_frame rfl (fun _ => ?_)) ?_
theorem execRelease_frame {a1 a2 a3 s} : OutFrame 995331700104 (execRelease a1 a2 a3 s) s := by
  unfold execRelease
  repeat' first
    | simp only [↓outFrame_next, ↓frame_rfl, Nat.reduceOr, ↓frame_step runRelease_frame]
    | with_reducible refine Frame.trans (uopArrive_frame rfl (fun _ _ => ?_)) ?_
theorem actVerify_frame {a1 a2 s} : Frame 981639164680 (actVerify a1 a2 s) s := by
  unfold actVerify
  repeat' first
    | simp only [↓frame_rfl, Nat.reduceOr, ↓frame_step readFor_frame, ↓frame_step hold_frame, ↓frame_step walkObj_frame]
    | split
theorem runVerify_frame {a1 a2 s} : Frame 982446831496 (runVerify a1 a2 s) s := by
  unfold runVerify
  repeat' first
    | simp only [↓frame_rfl, Nat.reduceOr, ↓frame_step actVerify_frame]
    | with_reducible refine Frame.trans (runUop_frame rfl (fun _ => ?_)) ?_
theorem execVerify_frame {a1 a2 s} : OutFrame 995331733384 (execVerify a1 a2 s) s := by
  unfold execVerify
  repeat' first
    | simp only [↓outFrame_next, ↓frame_rfl, Nat.reduceOr, ↓frame_step runVerify_frame]
    | with_reducible refine Frame.trans (uopArrive_frame rfl (fun _ _ => ?_)) ?_
theorem drawColl_frame {s} : Frame 8 (drawColl s).2 s := by
  unfold drawColl
  repeat' first
    | simp only [↓frame_rfl, Nat.reduceOr, ↓frame_step draw_frame]
    | with_reducible refine frame_snd (by assumption) ?_
    | split
theorem containerEntry_frame {a1 a2 a3 a4 a5 a6 s} : Frame 157005438984 (containerEntry a1 a2 a3 a4 a5 a6 s) s := by
  unfold containerEntry
  simp only [↓frame_rfl, Nat.reduceOr, ↓frame_step enter_frame]
theorem actCollCreate_frame {a1 a2 a3 s} : Frame 981639161864 (actCollCreate a1 a2 a3 s) s := by
  unfold actCollCreate
  repeat' first
    | simp only [↓frame_mkM, ↓frame_rfl, Nat.reduceOr, ↓frame_step hold_frame, ↓frame_step containerEntry_frame,
        ↓frame_step changeBanks_frame, ↓frame_step sequence_frame, ↓frame_step drawColl_frame]
    | with_reducible apply frame_mk <;> first | exact .inl rfl | exact .inr rfl | skip
    | with_reducible refine frame_snd (by assumption) ?_
    | split
theorem runCollCreate_frame {a1 a2 a3 s} : Frame 982446833032 (runCollCreate a1 a2 a3 s) s := by
  unfold runCollCreate
  repeat' first
    | simp only [↓frame_rfl, Nat.reduceOr, ↓frame_step actCollCreate_frame]
    | with_reducible refine Frame.trans (runUop_frame rfl (fun _ => ?_)) ?_
theorem execCollCreate_frame {a1 a2 a3 s} : OutFrame 995331734920 (execCollCreate a1 a2 a3 s) s := by
  unfold execCollCreate
  repeat' first
    | simp only [↓outFrame_next, ↓frame_rfl, Nat.reduceOr, ↓frame_step runCollCreate_frame]
    | with_reducible refine Frame.trans (uopArrive_frame rfl (fun _ _ => ?_)) ?_
theorem stripGrants_frame {a1 s} : Frame 16 (stripGrants a1 s) s := by
  unfold stripGrants
  repeat' first
    | simp only [↓frame_mkM, ↓frame_rfl]
    | with_reducible apply frame_mk <;> first | exact .inl rfl | exact .inr rfl | skip
theorem dropColl_frame {a1 s} : Frame 2064 (dropColl a1 s) s := by
  unfold dropColl
  repeat' first
    | simp only [↓frame_mkM, ↓frame_rfl, Nat.reduceOr, ↓frame_step stripGrants_frame]
    | with_reducible apply frame_mk <;> first | exact .inl rfl | exact .inr rfl | skip
theorem actCollDelete_frame {a1 a2 s} : Frame 981639161880 (actCollDelete a1 a2 s) s := by
  unfold actCollDelete
  repeat' first
    | simp only [↓frame_rfl, Nat.reduceOr, ↓frame_step hold_frame, ↓frame_step containerEntry_frame, ↓frame_step changeBanks_frame,
        ↓frame_step dropColl_frame, ↓frame_step sequence_frame]
    | with_reducible refine frame_snd (by assumption) ?_
    | split
theorem runCollDelete_frame {a1 a2 s} : Frame 982446833048 (runCollDelete a1 a2 s) s := by
  unfold runCollDelete
  repeat' first
    | simp only [↓frame_rfl, Nat.reduceOr, ↓frame_step actCollDelete_frame, ↓frame_step meetLocks_frame]
    | with_reducible refine Frame.trans (runUop_frame rfl (fun _ => ?_)) ?_
theorem execCollDelete_frame {a1 a2 s} : OutFrame 995331734936 (execCollDelete a1 a2 s) s := by
  unfold execCollDelete
  repeat' first
    | simp only [↓outFrame_next, ↓frame_rfl, Nat.reduceOr, ↓frame_step runCollDelete_frame]
    | with_reducible refine Frame.trans (uopArrive_frame rfl (fun _ _ => ?_)) ?_
theorem execOpenIdleExpiry_frame {a1 s} : OutFrame 157005445640 (execOpenIdleExpiry a1 s) s := by
  unfold execOpenIdleExpiry
  repeat' first
    | with_reducible refine frame_oite ?_ ?_
    | simp only [↓outFrame_next, ↓frame_rfl, Nat.reduceOr, ↓frame_step abortObj_frame]
    | split
theorem execLockSweep_frame {s} : OutFrame 157005441032 (execLockSweep s) s := by
  unfold execLockSweep
  simp only [↓outFrame_next, ↓frame_rfl, Nat.reduceOr, ↓frame_step expireAll_frame]
theorem runRelay_frame {a1 a2 a3 a4 a5 s} : Frame 982447030152 (runRelay a1 a2 a3 a4 a5 s) s := by
  unfold runRelay
  repeat' first
    | simp only [↓frame_rfl, Nat.reduceOr, ↓frame_step runHold_frame, ↓frame_step runStopper_frame, ↓frame_step runVerify_frame,
        ↓frame_step uopRefuse_frame]
    | split

end Machine
end Sys2Proof
end

