-- ==== Sys2Proof/Laws/BlockOpsFrame.lean ====
section
/-!
SUPPORT. What the definitions of Machine/BlockOps.lean leave unchanged.
-/
namespace Sys2Proof
namespace Machine
set_option maxRecDepth 100000
set_option linter.unusedSimpArgs false

theorem putCtrl_frame {a1 s} : Frame 256 (putCtrl a1 s) s := by
  unfold putCtrl
  repeat' first
    | simp only [↓frame_mkM, ↓frame_rfl]
    | with_reducible apply frame_mk <;> first | exact .inl rfl | exact .inr rfl | skip
theorem mapCtrls_frame {a1 a2 s} : Frame 256 (mapCtrls a1 a2 s) s := by
  unfold mapCtrls
  repeat' first
    | simp only [↓frame_mkM, ↓frame_rfl]
    | with_reducible apply frame_mk <;> first | exact .inl rfl | exact .inr rfl | skip
theorem asyncEvent_frame {a1 a2 s} : Frame 157779493248 (asyncEvent a1 a2 s) s := by
  unfold asyncEvent
  repeat' first
    | with_reducible refine frame_ite ?_ ?_
    | simp only [↓frame_rfl, Nat.reduceOr, ↓frame_step nvDone_frame, ↓frame_step putCtrl_frame]
    | split
theorem putNs_frame {a1 s} : Frame 256 (putNs a1 s) s := by
  unfold putNs
  repeat' first
    | simp only [↓frame_mkM, ↓frame_rfl]
    | with_reducible apply frame_mk <;> first | exact .inl rfl | exact .inr rfl | skip
theorem noticeNs_frame {a1 a2 s} : Frame 157779493248 (noticeNs a1 a2 s) s := by
  unfold noticeNs
  repeat' first
    | simp only [↓frame_rfl, Nat.reduceOr, ↓frame_step asyncEvent_frame, ↓frame_step mapCtrls_frame]
    | with_reducible refine frame_foldl (fun _ _ => ?_) ?_
theorem logError_frame {a1 a2 a3 s} : Frame 256 (logError a1 a2 a3 s) s := by
  unfold logError
  simp only [↓frame_rfl, Nat.reduceOr, ↓frame_step mapCtrls_frame]
theorem runNvAt_frame {w a1 a2 a3 a4 a5 f6 s} (hw : 982413214080 ||| w = w) (h : ∀ s, Frame w (f6 s) s) : Frame w (runNvAt a1 a2 a3 a4 a5 f6 s) s := by
  unfold runNvAt
  repeat' first
    | simp only [↓frame_rfl, Nat.reduceOr, ↓frame_stepH hw nvRefuse_frame, ↓frame_stepH hw logError_frame]
    | with_reducible refine Frame.trans (h _) ?_
    | split
theorem runNv_frame {w a1 a2 a3 a4 f5 s} (hw : 982413214080 ||| w = w) (h : ∀ s, Frame w (f5 s) s) : Frame w (runNv a1 a2 a3 a4 f5 s) s := by
  unfold runNv
  repeat' first
    | simp only [↓frame_rfl]
    | with_reducible refine Frame.trans (h _) ?_
    | with_reducible refine Frame.trans (runNvAt_frame (sub_trans rfl hw) (fun _ => ?_)) ?_
theorem nvArrive_frame {w a1 a2 a3 a4 f5 s} (hw : 995331696008 ||| w = w) (h : ∀ n s, Frame w (f5 n s) s) : Frame w (nvArrive a1 a2 a3 a4 f5 s) s := by
  unfold nvArrive
  repeat' first
    | simp only [↓frame_rfl, Nat.reduceOr, ↓frame_stepH hw nvRefuse_frame, ↓frame_stepH hw takeHead_frame]
    | with_reducible refine Frame.trans (h _ _) ?_
    | with_reducible refine Frame.trans (arrive_frame (sub_trans rfl hw) (fun _ _ _ => ?_) (fun _ _ => ?_)) ?_
theorem finishNv_frame {a1 a2 a3 a4 a5 a6 a7 s} : Frame 824633720832 (finishNv a1 a2 a3 a4 a5 a6 a7 s) s := by
  unfold finishNv
  simp only [↓frame_rfl, Nat.reduceOr, ↓frame_step hold_frame]
theorem layRuns_frame {a1 a2 a3 a4 a5 s} : Frame 157005406216 (layRuns a1 a2 a3 a4 a5 s).2 s := by
  induction a3 generalizing a4 a5 s with
  | zero => exact Frame.refl
  | succ n ih =>
    unfold layRuns
    repeat' first
      | simp only [↓frame_rfl, Nat.reduceOr, ↓frame_step ih, ↓frame_step layRecord_frame, ↓frame_step fillSegment_frame, ↓frame_step openHead_frame]
      | with_reducible refine frame_snd (by assumption) ?_
      | split
theorem spliceRun_frame {a1 a2 a3 a4 s} : Frame 157005406216 (spliceRun a1 a2 a3 a4 s) s := by
  unfold spliceRun
  repeat' first
    | with_reducible refine frame_ite ?_ ?_
    | simp only [↓frame_rfl, Nat.reduceOr, ↓frame_step splice_frame, ↓frame_step spliceRecord_frame]
    | with_reducible refine frame_foldl (fun _ _ => ?_) ?_
theorem killBlocks_frame {a1 s} : Frame 8192 (killBlocks a1 s) s := by
  unfold killBlocks
  simp only [↓frame_rfl, Nat.reduceOr, ↓frame_step killRecs_frame]
theorem staleLbas_frame {a1 a2 s} : Frame 8192 (staleLbas a1 a2 s) s := by
  unfold staleLbas
  repeat' first
    | simp only [↓frame_rfl, Nat.reduceOr, ↓frame_step killBlocks_frame, ↓frame_step killUnit_frame]
    | with_reducible refine frame_foldl (fun _ _ => ?_) ?_
theorem mapWalks_frame {a1 a2 a3 s} : Frame 157005410312 (mapWalks a1 a2 a3 s) s := by
  unfold mapWalks
  repeat' first
    | simp only [↓frame_rfl, Nat.reduceOr, ↓frame_step walkTo_frame]
    | with_reducible refine frame_foldl (fun _ _ => ?_) ?_
theorem dropAhead_frame {a1 a2 a3 s} : Frame 2155872512 (dropAhead a1 a2 a3 s) s := by
  unfold dropAhead
  repeat' first
    | simp only [↓frame_mkM, ↓frame_rfl, Nat.reduceOr, ↓frame_step sweepQuarantine_frame]
    | with_reducible apply frame_mk <;> first | exact .inl rfl | exact .inr rfl | skip
theorem deallocate_frame {a1 a2 a3 a4 s} : Frame 157013799176 (deallocate a1 a2 a3 a4 s) s := by
  unfold deallocate
  repeat' first
    | simp only [↓frame_rfl, Nat.reduceOr, ↓frame_step staleLbas_frame, ↓frame_step dropAhead_frame, ↓frame_step mapMut_frame,
        ↓frame_step putNs_frame]
    | split
theorem writeLbas_frame {a1 a2 a3 a4 s} : Frame 157013799176 (writeLbas a1 a2 a3 a4 s).2 s := by
  unfold writeLbas
  repeat' first
    | simp only [↓frame_rfl, Nat.reduceOr, ↓frame_step spliceRun_frame, ↓frame_step layRuns_frame, ↓frame_step chargeUnits_frame,
        ↓frame_step staleLbas_frame, ↓frame_step dropAhead_frame, ↓frame_step mapMut_frame, ↓frame_step putNs_frame]
    | with_reducible refine frame_foldl (fun _ _ => ?_) ?_
    | split
theorem overwriteLbas_frame {a1 a2 a3 a4 s} : Frame 157013799688 (overwriteLbas a1 a2 a3 a4 s) s := by
  unfold overwriteLbas
  repeat' first
    | simp only [↓frame_mkM, ↓frame_rfl, Nat.reduceOr, ↓frame_step settle_frame, ↓frame_step chargeUnits_frame, ↓frame_step dropAhead_frame,
        ↓frame_step startRmw_frame]
    | with_reducible apply frame_mk <;> first | exact .inl rfl | exact .inr rfl | skip
    | with_reducible refine frame_foldl_snd (fun _ _ => ?_) ?_
    | split
theorem trackRead_frame {a1 a2 a3 a4 s} : Frame 256 (trackRead a1 a2 a3 a4 s).2 s := by
  unfold trackRead
  repeat' first
    | simp only [↓frame_mkM, ↓frame_rfl]
    | with_reducible apply frame_mk <;> first | exact .inl rfl | exact .inr rfl | skip
    | split
theorem prefetch_frame {a1 a2 s} : Frame 706626978048 (prefetch a1 a2 s) s := by
  unfold prefetch
  repeat' first
    | with_reducible refine frame_ite ?_ ?_
    | simp only [↓frame_mkM, ↓frame_rfl, Nat.reduceOr, ↓frame_step issueFlow_frame, ↓frame_step chargeDrive_frame]
    | with_reducible apply frame_mk <;> first | exact .inl rfl | exact .inr rfl | skip
    | with_reducible refine frame_foldl (fun _ _ => ?_) ?_
    | split
theorem adoptReads_frame {a1 a2 a3 a4 s} : Frame 277058945024 (adoptReads a1 a2 a3 a4 s) s := by
  unfold adoptReads
  repeat' first
    | simp only [↓frame_rfl, Nat.reduceOr, ↓frame_step mapHeld_frame, ↓frame_step putPort_frame, ↓frame_step noteConfirmed_frame]
    | with_reducible refine frame_foldl (fun _ _ => ?_) ?_
theorem adoptFaults_frame {a1 a2 a3 a4 s} : Frame 431891870472 (adoptFaults a1 a2 a3 a4 s) s := by
  unfold adoptFaults
  repeat' first
    | with_reducible refine frame_ite ?_ ?_
    | simp only [↓frame_rfl, Nat.reduceOr, ↓frame_step pageAround_frame, ↓frame_step countTimeout_frame, ↓frame_step strike_frame,
        ↓frame_step markBad_frame, ↓frame_step readAround_frame]
    | with_reducible refine frame_foldl (fun _ _ => ?_) ?_
    | with_reducible refine frame_mapD (fun _ => ?_) ?_
    | split
theorem oweAll_frame {a1 s} : Frame 16384 (oweAll a1 s) s := by
  unfold oweAll
  repeat' first
    | with_reducible refine frame_ite ?_ ?_
    | simp only [↓frame_rfl, Nat.reduceOr, ↓frame_step putMember_frame]
    | with_reducible refine frame_foldl (fun _ _ => ?_) ?_
theorem formatPhase_frame {a1 a2 s} : Frame 137438953728 (formatPhase a1 a2 s) s := by
  unfold formatPhase
  repeat' first
    | simp only [↓frame_rfl, Nat.reduceOr, ↓frame_step pairState_frame, ↓frame_step putNs_frame]
    | split
theorem formatF1_frame {a1 a2 a3 s} : Frame 137438953736 (formatF1 a1 a2 a3 s) s := by
  unfold formatF1
  repeat' first
    | simp only [↓frame_rfl, Nat.reduceOr, ↓frame_step putNs_frame, ↓frame_step drawDigest_frame, ↓frame_step formatPhase_frame]
    | with_reducible refine frame_snd (by assumption) ?_
    | split
theorem endFormat_frame {a1 a2 s} : Frame 157821497736 (endFormat a1 a2 s) s := by
  unfold endFormat
  repeat' first
    | with_reducible refine frame_ite ?_ ?_
    | simp only [↓frame_rfl, Nat.reduceOr, ↓frame_step noticeNs_frame, ↓frame_step formatPhase_frame, ↓frame_step containerEntry_frame,
        ↓frame_step staleLbas_frame, ↓frame_step dropAhead_frame, ↓frame_step putNs_frame, ↓frame_step sequence_frame,
        ↓frame_step mapMut_frame]
    | with_reducible refine frame_snd (by assumption) ?_
    | split
theorem startPurge_frame {a1 s} : Frame 8448 (startPurge a1 s) s := by
  unfold startPurge
  repeat' first
    | simp only [↓frame_mkM, ↓frame_rfl]
    | with_reducible apply frame_mk <;> first | exact .inl rfl | exact .inr rfl | skip
theorem formatWait_frame {a1 a2 a3 s} : Frame 824633720832 (formatWait a1 a2 a3 s) s := by
  unfold formatWait
  simp only [↓frame_rfl, Nat.reduceOr, ↓frame_step hold_frame]
theorem formatF2_frame {a1 a2 s} : Frame 981504901376 (formatF2 a1 a2 s) s := by
  unfold formatF2
  repeat' first
    | simp only [↓frame_rfl, Nat.reduceOr, ↓frame_step formatWait_frame, ↓frame_step changeBanks_frame, ↓frame_step formatPhase_frame]
    | with_reducible refine frame_foldl (fun _ _ => ?_) ?_
    | with_reducible refine frame_snd (by assumption) ?_
    | split
theorem formatF3_frame {a1 a2 s} : Frame 962072690944 (formatF3 a1 a2 s) s := by
  unfold formatF3
  repeat' first
    | simp only [↓frame_rfl, Nat.reduceOr, ↓frame_step formatWait_frame, ↓frame_step oweAll_frame, ↓frame_step formatPhase_frame]
    | with_reducible refine frame_foldl (fun _ _ => ?_) ?_
theorem formatF4_frame {a1 s} : Frame 157821497736 (formatF4 a1 s) s := by
  unfold formatF4
  repeat' first
    | with_reducible refine frame_ite ?_ ?_
    | simp only [↓frame_rfl, Nat.reduceOr, ↓frame_step startPurge_frame, ↓frame_step endFormat_frame, ↓frame_step formatPhase_frame]
    | with_reducible refine frame_foldl (fun _ _ => ?_) ?_
theorem formatStep_frame {w a1 f2 a3 s} (hw : 982455218568 ||| w = w) (h : ∀ s, Frame w (f2 s) s) : Frame w (formatStep a1 f2 a3 s) s := by
  unfold formatStep
  repeat' first
    | simp only [↓frame_rfl, Nat.reduceOr, ↓frame_stepH hw formatF2_frame, ↓frame_stepH hw formatF1_frame, ↓frame_stepH hw formatF3_frame,
        ↓frame_stepH hw formatF4_frame]
    | with_reducible refine Frame.trans (h _) ?_
    | with_reducible refine frame_foldl (fun _ _ => ?_) ?_
    | split
theorem beginFormat_frame {a1 a2 a3 a4 s} : Frame 824633729280 (beginFormat a1 a2 a3 a4 s) s := by
  unfold beginFormat
  repeat' first
    | simp only [↓frame_rfl, Nat.reduceOr, ↓frame_step hold_frame, ↓frame_step putNs_frame, ↓frame_step sequence_frame]
    | with_reducible refine frame_foldl_snd (fun _ _ => ?_) ?_
    | with_reducible refine frame_snd (by assumption) ?_
    | split

end Machine
end Sys2Proof
end

