-- ==== Sys2Proof/Laws/BlockFrame.lean ====
section
/-!
SUPPORT. What the definitions of Machine/Block.lean leave unchanged.
-/
namespace Sys2Proof
namespace Machine
set_option maxRecDepth 100000
set_option linter.unusedSimpArgs false

theorem connectRefuse_frame {a1 a2 a3 a4 s} : Frame 982413214080 (connectRefuse a1 a2 a3 a4 s) s := by
  unfold connectRefuse
  repeat' first
    | with_reducible refine frame_ite ?_ ?_
    | simp only [↓frame_rfl, Nat.reduceOr, ↓frame_step hold_frame, ↓frame_step leave_frame]
theorem actConnect_frame {a1 s} : Frame 157779493248 (actConnect a1 s) s := by
  unfold actConnect
  repeat' first
    | with_reducible refine frame_ite ?_ ?_
    | simp only [↓frame_rfl, Nat.reduceOr, ↓frame_step nvDone_frame, ↓frame_step putCtrl_frame]
    | split
theorem runConnect_frame {a1 a2 s} : Frame 982413214080 (runConnect a1 a2 s) s := by
  unfold runConnect
  repeat' first
    | simp only [↓frame_rfl, Nat.reduceOr, ↓frame_step connectRefuse_frame, ↓frame_step nvDone_frame, ↓frame_step actConnect_frame]
    | split
theorem execConnect_frame {a1 s} : OutFrame 995331696008 (execConnect a1 s) s := by
  unfold execConnect
  repeat' first
    | with_reducible refine frame_ite ?_ ?_
    | simp only [↓outFrame_next, ↓frame_rfl, Nat.reduceOr, ↓frame_step runConnect_frame, ↓frame_step nvDone_frame]
    | with_reducible refine Frame.trans (arrive_frame rfl (fun _ _ _ => ?_) (fun _ _ => ?_)) ?_
theorem runDisconnect_frame {a1 a2 a3 s} : Frame 982414463424 (runDisconnect a1 a2 a3 s) s := by
  unfold runDisconnect
  repeat' first
    | simp only [↓frame_rfl, Nat.reduceOr, ↓frame_step endCtx_frame, ↓frame_step nvDone_frame]
    | with_reducible refine Frame.trans (runNv_frame rfl (fun _ => ?_)) ?_
theorem execDisconnect_frame {a1 a2 s} : OutFrame 995332945352 (execDisconnect a1 a2 s) s := by
  unfold execDisconnect
  repeat' first
    | simp only [↓outFrame_next, ↓frame_rfl, Nat.reduceOr, ↓frame_step runDisconnect_frame]
    | with_reducible refine Frame.trans (nvArrive_frame rfl (fun _ _ => ?_)) ?_
theorem runPropertyGet_frame {a1 a2 a3 s} : Frame 982413214080 (runPropertyGet a1 a2 a3 s) s := by
  unfold runPropertyGet
  repeat' first
    | simp only [↓frame_rfl, Nat.reduceOr, ↓frame_step nvDone_frame]
    | with_reducible refine Frame.trans (runNv_frame rfl (fun _ => ?_)) ?_
theorem execPropertyGet_frame {a1 a2 s} : OutFrame 995331696008 (execPropertyGet a1 a2 s) s := by
  unfold execPropertyGet
  repeat' first
    | simp only [↓outFrame_next, ↓frame_rfl, Nat.reduceOr, ↓frame_step runPropertyGet_frame]
    | with_reducible refine Frame.trans (nvArrive_frame rfl (fun _ _ => ?_)) ?_
theorem setCc_frame {a1 a2 s} : Frame 430035112256 (setCc a1 a2 s) s := by
  unfold setCc
  repeat' first
    | with_reducible refine frame_ite ?_ ?_
    | simp only [↓frame_rfl, Nat.reduceOr, ↓frame_step endCtx_frame, ↓frame_step putCtrl_frame]
    | with_reducible refine frame_foldl (fun _ _ => ?_) ?_
theorem runPropertySet_frame {a1 a2 a3 a4 s} : Frame 982414463424 (runPropertySet a1 a2 a3 a4 s) s := by
  unfold runPropertySet
  repeat' first
    | simp only [↓frame_rfl, Nat.reduceOr, ↓frame_step nvDone_frame, ↓frame_step setCc_frame]
    | with_reducible refine Frame.trans (runNv_frame rfl (fun _ => ?_)) ?_
    | with_reducible refine frame_elim ?_ (fun _ => ?_)
theorem execPropertySet_frame {a1 a2 a3 s} : OutFrame 995332945352 (execPropertySet a1 a2 a3 s) s := by
  unfold execPropertySet
  repeat' first
    | simp only [↓outFrame_next, ↓frame_rfl, Nat.reduceOr, ↓frame_step runPropertySet_frame]
    | with_reducible refine Frame.trans (nvArrive_frame rfl (fun _ _ => ?_)) ?_
theorem runGetLogPage_frame {a1 a2 a3 s} : Frame 982413214080 (runGetLogPage a1 a2 a3 s) s := by
  unfold runGetLogPage
  repeat' first
    | simp only [↓frame_rfl, Nat.reduceOr, ↓frame_step nvDone_frame, ↓frame_step putCtrl_frame]
    | with_reducible refine Frame.trans (runNv_frame rfl (fun _ => ?_)) ?_
    | split
theorem execGetLogPage_frame {a1 a2 s} : OutFrame 995331696008 (execGetLogPage a1 a2 s) s := by
  unfold execGetLogPage
  repeat' first
    | simp only [↓outFrame_next, ↓frame_rfl, Nat.reduceOr, ↓frame_step runGetLogPage_frame]
    | with_reducible refine Frame.trans (nvArrive_frame rfl (fun _ _ => ?_)) ?_
theorem runIdentify_frame {a1 a2 a3 a4 s} : Frame 982413214080 (runIdentify a1 a2 a3 a4 s) s := by
  unfold runIdentify
  repeat' first
    | simp only [↓frame_rfl, Nat.reduceOr, ↓frame_step nvDone_frame]
    | with_reducible refine Frame.trans (runNv_frame rfl (fun _ => ?_)) ?_
    | split
theorem execIdentify_frame {a1 a2 a3 s} : OutFrame 995331696008 (execIdentify a1 a2 a3 s) s := by
  unfold execIdentify
  repeat' first
    | simp only [↓outFrame_next, ↓frame_rfl, Nat.reduceOr, ↓frame_step runIdentify_frame]
    | with_reducible refine Frame.trans (nvArrive_frame rfl (fun _ _ => ?_)) ?_
theorem runAbort_frame {a1 a2 a3 a4 s} : Frame 982413214080 (runAbort a1 a2 a3 a4 s) s := by
  unfold runAbort
  repeat' first
    | simp only [↓frame_mkM, ↓frame_rfl, Nat.reduceOr, ↓frame_step nvDone_frame]
    | with_reducible refine Frame.trans (runNv_frame rfl (fun _ => ?_)) ?_
    | with_reducible apply frame_mk <;> first | exact .inl rfl | exact .inr rfl | skip
    | split
theorem execAbort_frame {a1 a2 a3 s} : OutFrame 995331696008 (execAbort a1 a2 a3 s) s := by
  unfold execAbort
  repeat' first
    | simp only [↓outFrame_next, ↓frame_rfl, Nat.reduceOr, ↓frame_step runAbort_frame]
    | with_reducible refine Frame.trans (nvArrive_frame rfl (fun _ _ => ?_)) ?_
theorem setFeature_frame {a1 a2 a3 a4 s} : Frame 256 (setFeature a1 a2 a3 a4 s).2 s := by
  unfold setFeature
  repeat' first
    | simp only [↓frame_rfl, Nat.reduceOr, ↓frame_step putCtrl_frame, ↓frame_step putNs_frame]
    | with_reducible refine frame_elim ?_ (fun _ => ?_)
    | split
theorem runSetFeatures_frame {a1 a2 a3 a4 a5 s} : Frame 982413214080 (runSetFeatures a1 a2 a3 a4 a5 s) s := by
  unfold runSetFeatures
  repeat' first
    | simp only [↓frame_rfl, Nat.reduceOr, ↓frame_step nvDone_frame, ↓frame_step setFeature_frame]
    | with_reducible refine Frame.trans (runNv_frame rfl (fun _ => ?_)) ?_
    | split
theorem execSetFeatures_frame {a1 a2 a3 a4 s} : OutFrame 995331696008 (execSetFeatures a1 a2 a3 a4 s) s := by
  unfold execSetFeatures
  repeat' first
    | simp only [↓outFrame_next, ↓frame_rfl, Nat.reduceOr, ↓frame_step runSetFeatures_frame]
    | with_reducible refine Frame.trans (nvArrive_frame rfl (fun _ _ => ?_)) ?_
theorem runGetFeatures_frame {a1 a2 a3 s} : Frame 982413214080 (runGetFeatures a1 a2 a3 s) s := by
  unfold runGetFeatures
  repeat' first
    | simp only [↓frame_rfl, Nat.reduceOr, ↓frame_step nvDone_frame]
    | with_reducible refine Frame.trans (runNv_frame rfl (fun _ => ?_)) ?_
    | split
theorem execGetFeatures_frame {a1 a2 s} : OutFrame 995331696008 (execGetFeatures a1 a2 s) s := by
  unfold execGetFeatures
  repeat' first
    | simp only [↓outFrame_next, ↓frame_rfl, Nat.reduceOr, ↓frame_step runGetFeatures_frame]
    | with_reducible refine Frame.trans (nvArrive_frame rfl (fun _ _ => ?_)) ?_
theorem runAer_frame {a1 a2 s} : Frame 982413214080 (runAer a1 a2 s) s := by
  unfold runAer
  repeat' first
    | simp only [↓frame_rfl, Nat.reduceOr, ↓frame_step nvDone_frame, ↓frame_step putCtrl_frame]
    | with_reducible refine Frame.trans (runNv_frame rfl (fun _ => ?_)) ?_
    | split
theorem execAsynchronousEventRequest_frame {a1 s} : OutFrame 995331696008 (execAsynchronousEventRequest a1 s) s := by
  unfold execAsynchronousEventRequest
  repeat' first
    | simp only [↓outFrame_next, ↓frame_rfl, Nat.reduceOr, ↓frame_step runAer_frame]
    | with_reducible refine Frame.trans (nvArrive_frame rfl (fun _ _ => ?_)) ?_
theorem dropCtrl_frame {a1 s} : Frame 430035112256 (dropCtrl a1 s) s := by
  unfold dropCtrl
  repeat' first
    | simp only [↓frame_mkM, ↓frame_rfl, Nat.reduceOr, ↓frame_step endCtx_frame]
    | with_reducible apply frame_mk <;> first | exact .inl rfl | exact .inr rfl | skip
    | with_reducible refine frame_foldl (fun _ _ => ?_) ?_
theorem runKeepAlive_frame {a1 a2 s} : Frame 982414463424 (runKeepAlive a1 a2 s) s := by
  unfold runKeepAlive
  repeat' first
    | with_reducible refine frame_ite ?_ ?_
    | simp only [↓frame_rfl, Nat.reduceOr, ↓frame_step dropCtrl_frame, ↓frame_step nvDone_frame, ↓frame_step putCtrl_frame]
    | with_reducible refine Frame.trans (runNv_frame rfl (fun _ => ?_)) ?_
    | split
theorem execKeepAlive_frame {a1 s} : OutFrame 995332945352 (execKeepAlive a1 s) s := by
  unfold execKeepAlive
  repeat' first
    | simp only [↓outFrame_next, ↓frame_rfl, Nat.reduceOr, ↓frame_step runKeepAlive_frame]
    | with_reducible refine Frame.trans (nvArrive_frame rfl (fun _ _ => ?_)) ?_
theorem execKeepAliveExpiry_frame {a1 s} : OutFrame 430035112256 (execKeepAliveExpiry a1 s) s := by
  unfold execKeepAliveExpiry
  repeat' first
    | with_reducible refine frame_oite ?_ ?_
    | simp only [↓outFrame_next, ↓frame_rfl, Nat.reduceOr, ↓frame_step dropCtrl_frame]
    | split
theorem actNsCreate_frame {a1 a2 s} : Frame 982446825864 (actNsCreate a1 a2 s) s := by
  unfold actNsCreate
  repeat' first
    | simp only [↓frame_rfl, Nat.reduceOr, ↓frame_step hold_frame, ↓frame_step noticeNs_frame, ↓frame_step containerEntry_frame,
        ↓frame_step changeBanks_frame, ↓frame_step putNs_frame, ↓frame_step sequence_frame, ↓frame_step drawDigest_frame]
    | with_reducible refine frame_snd (by assumption) ?_
    | split
theorem runNsCreate_frame {a1 a2 a3 s} : Frame 982446825864 (runNsCreate a1 a2 a3 s) s := by
  unfold runNsCreate
  repeat' first
    | simp only [↓frame_rfl, Nat.reduceOr, ↓frame_step actNsCreate_frame]
    | with_reducible refine Frame.trans (runNv_frame rfl (fun _ => ?_)) ?_
theorem execNamespaceCreate_frame {a1 a2 s} : OutFrame 995331728776 (execNamespaceCreate a1 a2 s) s := by
  unfold execNamespaceCreate
  repeat' first
    | simp only [↓outFrame_next, ↓frame_rfl, Nat.reduceOr, ↓frame_step runNsCreate_frame]
    | with_reducible refine Frame.trans (nvArrive_frame rfl (fun _ _ => ?_)) ?_
theorem forgetNs_frame {a1 s} : Frame 2155884800 (forgetNs a1 s) s := by
  unfold forgetNs
  repeat' first
    | simp only [↓frame_mkM, ↓frame_rfl, Nat.reduceOr, ↓frame_step dropAhead_frame, ↓frame_step killKind_frame]
    | with_reducible apply frame_mk <;> first | exact .inl rfl | exact .inr rfl | skip
theorem dropNs_frame {a1 a2 s} : Frame 157005439240 (dropNs a1 a2 s) s := by
  unfold dropNs
  simp only [↓frame_rfl, Nat.reduceOr, ↓frame_step putNs_frame, ↓frame_step oweAll_frame, ↓frame_step containerEntry_frame]
theorem actNsDelete_frame {a1 s} : Frame 982446825864 (actNsDelete a1 s) s := by
  unfold actNsDelete
  repeat' first
    | simp only [↓frame_rfl, Nat.reduceOr, ↓frame_step hold_frame, ↓frame_step changeBanks_frame, ↓frame_step noticeNs_frame,
        ↓frame_step dropNs_frame, ↓frame_step sequence_frame]
    | with_reducible refine frame_foldl (fun _ _ => ?_) ?_
    | with_reducible refine frame_snd (by assumption) ?_
    | split
theorem runNsDelete_frame {a1 a2 s} : Frame 982446825864 (runNsDelete a1 a2 s) s := by
  unfold runNsDelete
  repeat' first
    | simp only [↓frame_rfl, Nat.reduceOr, ↓frame_step actNsDelete_frame]
    | with_reducible refine Frame.trans (runNv_frame rfl (fun _ => ?_)) ?_
theorem execNamespaceDelete_frame {a1 s} : OutFrame 995331728776 (execNamespaceDelete a1 s) s := by
  unfold execNamespaceDelete
  repeat' first
    | simp only [↓outFrame_next, ↓frame_rfl, Nat.reduceOr, ↓frame_step runNsDelete_frame]
    | with_reducible refine Frame.trans (nvArrive_frame rfl (fun _ _ => ?_)) ?_
theorem actFormat_frame {a1 a2 s} : Frame 824633729280 (actFormat a1 a2 s) s := by
  unfold actFormat
  simp only [↓frame_rfl, Nat.reduceOr, ↓frame_step beginFormat_frame]
theorem runFormat_frame {a1 a2 a3 s} : Frame 982413222272 (runFormat a1 a2 a3 s) s := by
  unfold runFormat
  repeat' first
    | simp only [↓frame_rfl, Nat.reduceOr, ↓frame_step actFormat_frame]
    | with_reducible refine Frame.trans (runNv_frame rfl (fun _ => ?_)) ?_
theorem execFormatNvm_frame {a1 a2 s} : OutFrame 995331696008 (execFormatNvm a1 a2 s) s := by
  unfold execFormatNvm
  repeat' first
    | simp only [↓outFrame_next, ↓frame_rfl, Nat.reduceOr, ↓frame_step runFormat_frame]
    | with_reducible refine Frame.trans (nvArrive_frame rfl (fun _ _ => ?_)) ?_
theorem actSanitize_frame {a1 a2 s} : Frame 982413222272 (actSanitize a1 a2 s) s := by
  unfold actSanitize
  repeat' first
    | simp only [↓frame_mkM, ↓frame_rfl, Nat.reduceOr, ↓frame_step failSanitises_frame, ↓frame_step beginFormat_frame,
        ↓frame_step nvDone_frame]
    | with_reducible apply frame_mk <;> first | exact .inl rfl | exact .inr rfl | skip
theorem runSanitize_frame {a1 a2 a3 a4 s} : Frame 982413222272 (runSanitize a1 a2 a3 a4 s) s := by
  unfold runSanitize
  repeat' first
    | simp only [↓frame_rfl, Nat.reduceOr, ↓frame_step actSanitize_frame]
    | with_reducible refine Frame.trans (runNv_frame rfl (fun _ => ?_)) ?_
theorem execSanitize_frame {a1 a2 a3 s} : OutFrame 995331696008 (execSanitize a1 a2 a3 s) s := by
  unfold execSanitize
  repeat' first
    | simp only [↓outFrame_next, ↓frame_rfl, Nat.reduceOr, ↓frame_step runSanitize_frame]
    | with_reducible refine Frame.trans (nvArrive_frame rfl (fun _ _ => ?_)) ?_
theorem actFlush_frame {a1 s} : Frame 824633720832 (actFlush a1 s) s := by
  unfold actFlush
  simp only [↓frame_rfl, Nat.reduceOr, ↓frame_step hold_frame]
theorem runFlush_frame {a1 a2 s} : Frame 982413214080 (runFlush a1 a2 s) s := by
  unfold runFlush
  repeat' first
    | simp only [↓frame_rfl, Nat.reduceOr, ↓frame_step actFlush_frame]
    | with_reducible refine Frame.trans (runNv_frame rfl (fun _ => ?_)) ?_
theorem execFlush_frame {a1 s} : OutFrame 995331696008 (execFlush a1 s) s := by
  unfold execFlush
  repeat' first
    | simp only [↓outFrame_next, ↓frame_rfl, Nat.reduceOr, ↓frame_step runFlush_frame]
    | with_reducible refine Frame.trans (nvArrive_frame rfl (fun _ _ => ?_)) ?_
theorem actWrite_frame {a1 a2 a3 a4 a5 a6 a7 s} : Frame 981647520520 (actWrite a1 a2 a3 a4 a5 a6 a7 s) s := by
  unfold actWrite
  repeat' first
    | with_reducible refine frame_ite ?_ ?_
    | simp only [↓frame_rfl, Nat.reduceOr, ↓frame_step finishNv_frame, ↓frame_step overwriteLbas_frame, ↓frame_step sequence_frame,
        ↓frame_step putNs_frame, ↓frame_step writeLbas_frame]
    | with_reducible refine frame_snd (by assumption) ?_
    | split
theorem runWrite_frame {a1 a2 a3 a4 a5 a6 a7 a8 s} : Frame 982455186312 (runWrite a1 a2 a3 a4 a5 a6 a7 a8 s) s := by
  unfold runWrite
  repeat' first
    | simp only [↓frame_rfl, Nat.reduceOr, ↓frame_step actWrite_frame]
    | with_reducible refine Frame.trans (runNvAt_frame rfl (fun _ => ?_)) ?_
theorem execNvmeWrite_frame {a1 a2 a3 a4 a5 a6 a7 s} : OutFrame 995340089224 (execNvmeWrite a1 a2 a3 a4 a5 a6 a7 s) s := by
  unfold execNvmeWrite
  repeat' first
    | simp only [↓outFrame_next, ↓frame_rfl, Nat.reduceOr, ↓frame_step runWrite_frame]
    | with_reducible refine Frame.trans (nvArrive_frame rfl (fun _ _ => ?_)) ?_
theorem countMedia_frame {a1 a2 s} : Frame 256 (countMedia a1 a2 s) s := by
  unfold countMedia
  repeat' first
    | with_reducible refine frame_ite ?_ ?_
    | simp only [↓frame_rfl, Nat.reduceOr, ↓frame_step putNs_frame]
    | with_reducible refine frame_elim ?_ (fun _ => ?_)
theorem countRead_frame {a1 a2 a3 s} : Frame 256 (countRead a1 a2 a3 s) s := by
  unfold countRead
  simp only [↓frame_rfl, Nat.reduceOr, ↓frame_step putNs_frame]
theorem readLbas_frame {a1 a2 a3 a4 a5 s} : Frame 431891870472 (readLbas a1 a2 a3 a4 a5 s) s := by
  unfold readLbas
  repeat' first
    | simp only [↓frame_mkM, ↓frame_rfl, Nat.reduceOr, ↓frame_step adoptFaults_frame, ↓frame_step adoptReads_frame,
        ↓frame_step mapWalks_frame, ↓frame_step readFor_frame]
    | with_reducible apply frame_mk <;> first | exact .inl rfl | exact .inr rfl | skip
    | with_reducible refine frame_foldl (fun _ _ => ?_) ?_
    | split
theorem actRead_frame {a1 a2 a3 a4 s} : Frame 981647684360 (actRead a1 a2 a3 a4 s) s := by
  unfold actRead
  repeat' first
    | simp only [↓frame_rfl, Nat.reduceOr, ↓frame_step prefetch_frame, ↓frame_step readLbas_frame, ↓frame_step hold_frame,
        ↓frame_step trackRead_frame, ↓frame_step countRead_frame]
    | with_reducible refine frame_snd (by assumption) ?_
    | split
theorem runRead_frame {a1 a2 a3 a4 a5 s} : Frame 982455350152 (runRead a1 a2 a3 a4 a5 s) s := by
  unfold runRead
  repeat' first
    | simp only [↓frame_rfl, Nat.reduceOr, ↓frame_step actRead_frame, ↓frame_step countMedia_frame]
    | with_reducible refine Frame.trans (runNvAt_frame rfl (fun _ => ?_)) ?_
theorem execNvmeRead_frame {a1 a2 a3 a4 s} : OutFrame 995340253064 (execNvmeRead a1 a2 a3 a4 s) s := by
  unfold execNvmeRead
  repeat' first
    | simp only [↓outFrame_next, ↓frame_rfl, Nat.reduceOr, ↓frame_step runRead_frame]
    | with_reducible refine Frame.trans (nvArrive_frame rfl (fun _ _ => ?_)) ?_
theorem execPrefetchExpiry_frame {a1 s} : OutFrame 2155872512 (execPrefetchExpiry a1 s) s := by
  unfold execPrefetchExpiry
  repeat' first
    | simp only [↓outFrame_next, ↓frame_mkM, ↓frame_rfl, Nat.reduceOr, ↓frame_step sweepQuarantine_frame]
    | with_reducible apply frame_mk <;> first | exact .inl rfl | exact .inr rfl | skip
theorem actCompare_frame {a1 a2 a3 a4 a5 a6 s} : Frame 981647684360 (actCompare a1 a2 a3 a4 a5 a6 s) s := by
  unfold actCompare
  repeat' first
    | simp only [↓frame_rfl, Nat.reduceOr, ↓frame_step readLbas_frame, ↓frame_step hold_frame, ↓frame_step countRead_frame]
    | split
theorem runCompare_frame {a1 a2 a3 a4 a5 a6 a7 s} : Frame 982455350152 (runCompare a1 a2 a3 a4 a5 a6 a7 s) s := by
  unfold runCompare
  repeat' first
    | simp only [↓frame_rfl, Nat.reduceOr, ↓frame_step actCompare_frame, ↓frame_step countMedia_frame]
    | with_reducible refine Frame.trans (runNvAt_frame rfl (fun _ => ?_)) ?_
theorem execCompare_frame {a1 a2 a3 a4 a5 a6 s} : OutFrame 995340253064 (execCompare a1 a2 a3 a4 a5 a6 s) s := by
  unfold execCompare
  repeat' first
    | simp only [↓outFrame_next, ↓frame_rfl, Nat.reduceOr, ↓frame_step runCompare_frame]
    | with_reducible refine Frame.trans (nvArrive_frame rfl (fun _ _ => ?_)) ?_
theorem actWriteZeroes_frame {a1 a2 a3 s} : Frame 981647520008 (actWriteZeroes a1 a2 a3 s) s := by
  unfold actWriteZeroes
  repeat' first
    | simp only [↓frame_rfl, Nat.reduceOr, ↓frame_step finishNv_frame, ↓frame_step chargeUnits_frame, ↓frame_step deallocate_frame,
        ↓frame_step sequence_frame]
    | with_reducible refine frame_snd (by assumption) ?_
    | split
theorem runWriteZeroes_frame {a1 a2 a3 a4 s} : Frame 982455185800 (runWriteZeroes a1 a2 a3 a4 s) s := by
  unfold runWriteZeroes
  repeat' first
    | simp only [↓frame_rfl, Nat.reduceOr, ↓frame_step actWriteZeroes_frame]
    | with_reducible refine Frame.trans (runNvAt_frame rfl (fun _ => ?_)) ?_
theorem execWriteZeroes_frame {a1 a2 a3 s} : OutFrame 995340088712 (execWriteZeroes a1 a2 a3 s) s := by
  unfold execWriteZeroes
  repeat' first
    | simp only [↓outFrame_next, ↓frame_rfl, Nat.reduceOr, ↓frame_step runWriteZeroes_frame]
    | with_reducible refine Frame.trans (nvArrive_frame rfl (fun _ _ => ?_)) ?_
theorem actDsm_frame {a1 a2 a3 s} : Frame 982455185800 (actDsm a1 a2 a3 s) s := by
  unfold actDsm
  repeat' first
    | with_reducible refine frame_ite ?_ ?_
    | simp only [↓frame_rfl, Nat.reduceOr, ↓frame_step nvDone_frame, ↓frame_step finishNv_frame, ↓frame_step chargeUnits_frame,
        ↓frame_step deallocate_frame, ↓frame_step sequence_frame]
    | with_reducible refine frame_foldl (fun _ _ => ?_) ?_
    | with_reducible refine frame_snd (by assumption) ?_
    | split
theorem runDsm_frame {a1 a2 a3 a4 s} : Frame 982455185800 (runDsm a1 a2 a3 a4 s) s := by
  unfold runDsm
  repeat' first
    | simp only [↓frame_rfl, Nat.reduceOr, ↓frame_step actDsm_frame]
    | with_reducible refine Frame.trans (runNv_frame rfl (fun _ => ?_)) ?_
theorem execDatasetManagement_frame {a1 a2 a3 s} : OutFrame 995340088712 (execDatasetManagement a1 a2 a3 s) s := by
  unfold execDatasetManagement
  repeat' first
    | simp only [↓outFrame_next, ↓frame_rfl, Nat.reduceOr, ↓frame_step runDsm_frame]
    | with_reducible refine Frame.trans (nvArrive_frame rfl (fun _ _ => ?_)) ?_
theorem actNvVerify_frame {a1 a2 a3 s} : Frame 981639164680 (actNvVerify a1 a2 a3 s) s := by
  unfold actNvVerify
  repeat' first
    | simp only [↓frame_rfl, Nat.reduceOr, ↓frame_step readFor_frame, ↓frame_step mapWalks_frame, ↓frame_step hold_frame,
        ↓frame_step countRead_frame]
    | split
theorem runNvVerify_frame {a1 a2 a3 a4 a5 s} : Frame 982446830472 (runNvVerify a1 a2 a3 a4 a5 s) s := by
  unfold runNvVerify
  repeat' first
    | simp only [↓frame_rfl, Nat.reduceOr, ↓frame_step actNvVerify_frame, ↓frame_step countMedia_frame]
    | with_reducible refine Frame.trans (runNvAt_frame rfl (fun _ => ?_)) ?_
theorem execNvmeVerify_frame {a1 a2 a3 a4 s} : OutFrame 995331733384 (execNvmeVerify a1 a2 a3 a4 s) s := by
  unfold execNvmeVerify
  repeat' first
    | simp only [↓outFrame_next, ↓frame_rfl, Nat.reduceOr, ↓frame_step runNvVerify_frame]
    | with_reducible refine Frame.trans (nvArrive_frame rfl (fun _ _ => ?_)) ?_
theorem noticeRes_frame {a1 a2 a3 s} : Frame 157779493248 (noticeRes a1 a2 a3 s) s := by
  unfold noticeRes
  repeat' first
    | with_reducible refine frame_ite ?_ ?_
    | simp only [↓frame_rfl, Nat.reduceOr, ↓frame_step asyncEvent_frame, ↓frame_step mapCtrls_frame]
    | with_reducible refine frame_foldl (fun _ _ => ?_) ?_
theorem actRes_frame {a1 a2 a3 s} : Frame 982413222272 (actRes a1 a2 a3 s) s := by
  unfold actRes
  repeat' first
    | simp only [↓frame_rfl, Nat.reduceOr, ↓frame_step finishNv_frame, ↓frame_step chargeUnits_frame, ↓frame_step noticeRes_frame,
        ↓frame_step sequence_frame, ↓frame_step putNs_frame]
    | with_reducible refine frame_foldl (fun _ _ => ?_) ?_
    | with_reducible refine frame_snd (by assumption) ?_
    | split
theorem runResRegister_frame {a1 a2 a3 a4 a5 a6 a7 s} : Frame 982413222272 (runResRegister a1 a2 a3 a4 a5 a6 a7 s) s := by
  unfold runResRegister
  repeat' first
    | simp only [↓frame_rfl, Nat.reduceOr, ↓frame_step actRes_frame]
    | with_reducible refine Frame.trans (runNv_frame rfl (fun _ => ?_)) ?_
theorem execReservationRegister_frame {a1 a2 a3 a4 a5 a6 s} : OutFrame 995331696008 (execReservationRegister a1 a2 a3 a4 a5 a6 s) s := by
  unfold execReservationRegister
  repeat' first
    | simp only [↓outFrame_next, ↓frame_rfl, Nat.reduceOr, ↓frame_step runResRegister_frame]
    | with_reducible refine Frame.trans (nvArrive_frame rfl (fun _ _ => ?_)) ?_
theorem runResReport_frame {a1 a2 s} : Frame 982413214080 (runResReport a1 a2 s) s := by
  unfold runResReport
  repeat' first
    | simp only [↓frame_rfl, Nat.reduceOr, ↓frame_step nvDone_frame]
    | with_reducible refine Frame.trans (runNv_frame rfl (fun _ => ?_)) ?_
    | split
theorem execReservationReport_frame {a1 s} : OutFrame 995331696008 (execReservationReport a1 s) s := by
  unfold execReservationReport
  repeat' first
    | simp only [↓outFrame_next, ↓frame_rfl, Nat.reduceOr, ↓frame_step runResReport_frame]
    | with_reducible refine Frame.trans (nvArrive_frame rfl (fun _ _ => ?_)) ?_
theorem abortHosts_frame {a1 a2 s} : Frame 157779493248 (abortHosts a1 a2 s) s := by
  unfold abortHosts
  repeat' first
    | simp only [↓frame_mkM, ↓frame_rfl, Nat.reduceOr, ↓frame_step nvDone_frame]
    | with_reducible apply frame_mk <;> first | exact .inl rfl | exact .inr rfl | skip
    | with_reducible refine frame_foldl (fun _ _ => ?_) ?_
    | with_reducible refine frame_elim ?_ (fun _ => ?_)
theorem actAcquire_frame {a1 a2 a3 s} : Frame 982413222272 (actAcquire a1 a2 a3 s) s := by
  unfold actAcquire
  repeat' first
    | simp only [↓frame_rfl, Nat.reduceOr, ↓frame_step abortHosts_frame, ↓frame_step actRes_frame]
    | split
theorem runResAcquire_frame {a1 a2 a3 a4 a5 a6 a7 s} : Frame 982413222272 (runResAcquire a1 a2 a3 a4 a5 a6 a7 s) s := by
  unfold runResAcquire
  repeat' first
    | simp only [↓frame_rfl, Nat.reduceOr, ↓frame_step actAcquire_frame]
    | with_reducible refine Frame.trans (runNv_frame rfl (fun _ => ?_)) ?_
theorem execReservationAcquire_frame {a1 a2 a3 a4 a5 a6 s} : OutFrame 995331696008 (execReservationAcquire a1 a2 a3 a4 a5 a6 s) s := by
  unfold execReservationAcquire
  repeat' first
    | simp only [↓outFrame_next, ↓frame_rfl, Nat.reduceOr, ↓frame_step runResAcquire_frame]
    | with_reducible refine Frame.trans (nvArrive_frame rfl (fun _ _ => ?_)) ?_
theorem runResRelease_frame {a1 a2 a3 a4 a5 a6 s} : Frame 982413222272 (runResRelease a1 a2 a3 a4 a5 a6 s) s := by
  unfold runResRelease
  repeat' first
    | simp only [↓frame_rfl, Nat.reduceOr, ↓frame_step actRes_frame]
    | with_reducible refine Frame.trans (runNv_frame rfl (fun _ => ?_)) ?_
theorem execReservationRelease_frame {a1 a2 a3 a4 a5 s} : OutFrame 995331696008 (execReservationRelease a1 a2 a3 a4 a5 s) s := by
  unfold execReservationRelease
  repeat' first
    | simp only [↓outFrame_next, ↓frame_rfl, Nat.reduceOr, ↓frame_step runResRelease_frame]
    | with_reducible refine Frame.trans (nvArrive_frame rfl (fun _ _ => ?_)) ?_

end Machine
end Sys2Proof
end

