-- ==== Sys2Proof/Laws/CeremonyOpsFrame.lean ====
section
/-!
SUPPORT. What the definitions of Machine/CeremonyOps.lean leave unchanged.
-/
namespace Sys2Proof
namespace Machine
set_option maxRecDepth 100000
set_option linter.unusedSimpArgs false

theorem tellCeremony_frame {a1 s} : Frame 137438953472 (tellCeremony a1 s) s := by
  unfold tellCeremony
  simp only [↓frame_rfl, Nat.reduceOr, ↓frame_step pairState_frame]
theorem touch_frame {a1 s} : Frame 8208 (touch a1 s) s := by
  unfold touch
  repeat' first
    | simp only [↓frame_mkM, ↓frame_rfl, Nat.reduceOr, ↓frame_step sequence_frame]
    | with_reducible apply frame_mk <;> first | exact .inl rfl | exact .inr rfl | skip
    | with_reducible refine frame_snd (by assumption) ?_
    | split
theorem closeCeremony_frame {a1 s} : Frame 137438953488 (closeCeremony a1 s) s := by
  unfold closeCeremony
  repeat' first
    | simp only [↓frame_mkM, ↓frame_rfl, Nat.reduceOr, ↓frame_step pairState_frame]
    | with_reducible apply frame_mk <;> first | exact .inl rfl | exact .inr rfl | skip
theorem answerMate_frame {a1 a2 a3 a4 s} : Frame 137438953472 (answerMate a1 a2 a3 a4 s) s := by
  unfold answerMate
  simp only [↓frame_rfl, Nat.reduceOr, ↓frame_step pairState_frame]
theorem qHeld_frame {a1 a2 s} : Frame 825170591744 (qHeld a1 a2 s) s := by
  unfold qHeld
  repeat' first
    | with_reducible refine frame_ite ?_ ?_
    | simp only [↓frame_rfl, Nat.reduceOr, ↓frame_step hold_frame, ↓frame_step replyHeld_frame]
theorem qReply_frame {a1 a2 a3 s} : Frame 982413213824 (qReply a1 a2 a3 s) s := by
  unfold qReply
  repeat' first
    | with_reducible refine frame_ite ?_ ?_
    | simp only [↓frame_rfl, Nat.reduceOr, ↓frame_step qHeld_frame, ↓frame_step answerMate_frame, ↓frame_step reply_frame]
theorem quorumDone_frame {a1 a2 a3 s} : Frame 165595439112 (quorumDone a1 a2 a3 s) s := by
  unfold quorumDone
  simp only [↓frame_rfl, Nat.reduceOr, ↓frame_step raiseEvent_frame, ↓frame_step signCheckpoint_frame, ↓frame_step enter_frame]
theorem endCeremony_frame {w a1 a2 a3 f4 s} (hw : 982413213840 ||| w = w) (h : ∀ n s, Frame w (f4 n s) s) : Frame w (endCeremony a1 a2 a3 f4 s) s := by
  unfold endCeremony
  repeat' first
    | with_reducible refine frame_ite ?_ ?_
    | simp only [↓frame_rfl, Nat.reduceOr, ↓frame_stepH hw qReply_frame, ↓frame_stepH hw closeCeremony_frame]
    | with_reducible refine Frame.trans (h _ _) ?_
theorem quorumCmd_frame {w a1 a2 a3 f4 s} (hw : 995331694744 ||| w = w) (h : ∀ n s, Frame w (f4 n s) s) : Frame w (quorumCmd a1 a2 a3 f4 s) s := by
  unfold quorumCmd
  repeat' first
    | with_reducible refine frame_ite ?_ ?_
    | simp only [↓frame_rfl, Nat.reduceOr, ↓frame_stepH hw reply_frame]
    | with_reducible refine Frame.trans (h _ _) ?_
    | with_reducible refine Frame.trans (mailboxCmd_frame (sub_trans rfl hw) (fun _ _ => ?_)) ?_
    | with_reducible refine Frame.trans (endCeremony_frame (sub_trans rfl hw) (fun _ _ => ?_)) ?_
    | split

end Machine
end Sys2Proof
end

