-- ==== Sys2Proof/Laws/HitchRunFrame.lean ====
section
/-!
SUPPORT. What the definitions of Machine/HitchRun.lean leave unchanged.
-/
namespace Sys2Proof
namespace Machine
set_option maxRecDepth 100000
set_option linter.unusedSimpArgs false

theorem addTrigs_frame {a1 s} : Frame 1048576 (addTrigs a1 s) s := by
  unfold addTrigs
  repeat' first
    | simp only [↓frame_mkM, ↓frame_rfl]
    | with_reducible apply frame_mk <;> first | exact .inl rfl | exact .inr rfl | skip
theorem armTarget_frame {a1 a2 s} : Frame 1048576 (armTarget a1 a2 s) s := by
  unfold armTarget
  repeat' first
    | simp only [↓frame_rfl, Nat.reduceOr, ↓frame_step addTrigs_frame]
    | split
theorem armSource_frame {a1 a2 s} : Frame 1048576 (armSource a1 a2 s) s := by
  unfold armSource
  repeat' first
    | simp only [↓frame_rfl, Nat.reduceOr, ↓frame_step addTrigs_frame]
    | split
theorem noteStream_frame {a1 a2 s} : Frame 156834463744 (noteStream a1 a2 s) s := by
  unfold noteStream
  repeat' first
    | simp only [↓frame_rfl, Nat.reduceOr, ↓frame_step chainNote_frame]
    | split
theorem suspendHitch_frame {a1 s} : Frame 1179648 (suspendHitch a1 s) s := by
  unfold suspendHitch
  repeat' first
    | with_reducible refine frame_ite ?_ ?_
    | simp only [↓frame_mkM, ↓frame_rfl, Nat.reduceOr, ↓frame_step mapHitch_frame, ↓frame_step revokeRegion_frame]
    | with_reducible apply frame_mk <;> first | exact .inl rfl | exact .inr rfl | skip
    | split
theorem kickStream_frame {a1 a2 s} : Frame 156834463744 (kickStream a1 a2 s) s := by
  unfold kickStream
  repeat' first
    | with_reducible refine frame_ite ?_ ?_
    | simp only [↓frame_rfl, Nat.reduceOr, ↓frame_step noteStream_frame]
    | split
theorem flushOwed_frame {a1 s} : Frame 139995775104 (flushOwed a1 s) s := by
  unfold flushOwed
  repeat' first
    | simp only [↓frame_rfl, Nat.reduceOr, ↓frame_step sendMyavo_frame, ↓frame_step putHitch_frame]
    | with_reducible refine frame_foldl (fun _ _ => ?_) ?_
    | split
theorem startStreaming_frame {a1 s} : Frame 157243801728 (startStreaming a1 s) s := by
  unfold startStreaming
  repeat' first
    | with_reducible refine frame_ite ?_ ?_
    | simp only [↓frame_rfl, Nat.reduceOr, ↓frame_step flushOwed_frame, ↓frame_step armSource_frame, ↓frame_step putHitch_frame,
        ↓frame_step raise_frame, ↓frame_step sendMyavo_frame, ↓frame_step armTarget_frame, ↓frame_step putRegion_frame]
    | with_reducible refine frame_foldl (fun _ _ => ?_) ?_
    | split
theorem sendCover_frame {a1 s} : Frame 139995775104 (sendCover a1 s) s := by
  unfold sendCover
  repeat' first
    | with_reducible refine frame_ite ?_ ?_
    | simp only [↓frame_rfl, Nat.reduceOr, ↓frame_step sendMyavo_frame, ↓frame_step putHitch_frame]
    | split
theorem closeBatches_frame {a1 s} : Frame 139995775104 (closeBatches a1 s) s := by
  unfold closeBatches
  repeat' first
    | simp only [↓frame_rfl, Nat.reduceOr, ↓frame_step sendMyavo_frame, ↓frame_step tellHitch_frame, ↓frame_step mapHitch_frame,
        ↓frame_step sendCover_frame]
    | with_reducible refine frame_foldl (fun _ _ => ?_) ?_
    | split
theorem startObj_frame {a1 a2 a3 a4 s} : Frame 157243801728 (startObj a1 a2 a3 a4 s) s := by
  unfold startObj
  repeat' first
    | with_reducible refine frame_ite ?_ ?_
    | simp only [↓frame_rfl, Nat.reduceOr, ↓frame_step abortFlight_frame, ↓frame_step sendMyavoOn_frame, ↓frame_step sendMyavo_frame,
        ↓frame_step tellHitch_frame, ↓frame_step putHitch_frame, ↓frame_step kickStream_frame]
    | with_reducible refine frame_foldl (fun _ _ => ?_) ?_
    | split
theorem startNext_frame {a1 s} : Frame 157243801728 (startNext a1 s) s := by
  unfold startNext
  repeat' first
    | with_reducible refine frame_ite ?_ ?_
    | simp only [↓frame_rfl, Nat.reduceOr, ↓frame_step startObj_frame, ↓frame_step putHitch_frame]
    | split
theorem pumpHitch_frame {a1 s} : Frame 157243801728 (pumpHitch a1 s) s := by
  unfold pumpHitch
  repeat' first
    | simp only [↓frame_rfl, Nat.reduceOr, ↓frame_step closeBatches_frame, ↓frame_step startNext_frame]
    | with_reducible refine frame_foldl (fun _ _ => ?_) ?_
theorem sendChunk_frame {a1 a2 s} : Frame 157277356160 (sendChunk a1 a2 s) s := by
  unfold sendChunk
  repeat' first
    | with_reducible refine frame_ite ?_ ?_
    | simp only [↓frame_rfl, Nat.reduceOr, ↓frame_step pumpHitch_frame, ↓frame_step sendMyavoOn_frame, ↓frame_step issueFlow_frame,
        ↓frame_step putHitch_frame]
    | with_reducible refine frame_foldl (fun _ _ => ?_) ?_
    | split
theorem postChunks_frame {a1 a2 s} : Frame 157277356160 (postChunks a1 a2 s) s := by
  unfold postChunks
  repeat' first
    | simp only [↓frame_rfl, Nat.reduceOr, ↓frame_step mapHitch_frame, ↓frame_step sendChunk_frame]
    | with_reducible refine frame_foldl (fun _ _ => ?_) ?_
theorem endPass_frame {a1 s} : Frame 139995775104 (endPass a1 s) s := by
  unfold endPass
  repeat' first
    | with_reducible refine frame_ite ?_ ?_
    | simp only [↓frame_rfl, Nat.reduceOr, ↓frame_step sendMyavo_frame]
    | split
theorem resumeStream_frame {a1 a2 s} : Frame 157277356160 (resumeStream a1 a2 s) s := by
  unfold resumeStream
  repeat' first
    | simp only [↓frame_rfl, Nat.reduceOr, ↓frame_step endPass_frame, ↓frame_step pumpHitch_frame, ↓frame_step postChunks_frame]
    | split
theorem resumePaced_frame {s} : Frame 157277356160 (resumePaced s) s := by
  unfold resumePaced
  repeat' first
    | simp only [↓frame_rfl, Nat.reduceOr, ↓frame_step resumeStream_frame]
    | with_reducible refine frame_foldl (fun _ _ => ?_) ?_
theorem closeEntry_frame {a1 a2 a3 a4 a5 s} : Frame 157005438984 (closeEntry a1 a2 a3 a4 a5 s).2 s := by
  unfold closeEntry
  simp only [↓frame_rfl, Nat.reduceOr, ↓frame_step appendEntry_frame]
theorem dropArrivals_frame {a1 s} : Frame 157005576712 (dropArrivals a1 s) s := by
  unfold dropArrivals
  repeat' first
    | simp only [↓frame_rfl, Nat.reduceOr, ↓frame_step abortObj_frame, ↓frame_step putHitch_frame]
    | with_reducible refine frame_foldl (fun _ _ => ?_) ?_
    | with_reducible refine frame_elim ?_ (fun _ => ?_)
    | split
theorem abortHitch_frame {a1 s} : Frame 432692263880 (abortHitch a1 s) s := by
  unfold abortHitch
  repeat' first
    | simp only [↓frame_rfl, Nat.reduceOr, ↓frame_step closeCtx_frame, ↓frame_step dropArrivals_frame, ↓frame_step mapHitch_frame,
        ↓frame_step closeEntry_frame]
    | with_reducible refine frame_foldl (fun _ _ => ?_) ?_
    | split
theorem setCrossed_frame {a1 a2 a3 a4 s} : Frame 157276371592 (setCrossed a1 a2 a3 a4 s) s := by
  unfold setCrossed
  repeat' first
    | with_reducible refine frame_ite ?_ ?_
    | simp only [↓frame_rfl, Nat.reduceOr, ↓frame_step carryLock_frame, ↓frame_step enter_frame]
    | split
theorem endArrival_frame {a1 a2 a3 s} : Frame 137439084544 (endArrival a1 a2 a3 s) s := by
  unfold endArrival
  simp only [↓frame_rfl, Nat.reduceOr, ↓frame_step tellHitch_frame, ↓frame_step mapHitch_frame]
theorem undoArrival_frame {a1 s} : Frame 157005412872 (undoArrival a1 s) s := by
  unfold undoArrival
  repeat' first
    | simp only [↓frame_rfl, Nat.reduceOr, ↓frame_step dropObj_frame, ↓frame_step sequence_frame]
    | split
theorem whipArrival_frame {a1 a2 s} : Frame 157276437128 (whipArrival a1 a2 s) s := by
  unfold whipArrival
  repeat' first
    | with_reducible refine frame_ite ?_ ?_
    | simp only [↓frame_rfl, Nat.reduceOr, ↓frame_step endArrival_frame, ↓frame_step undoArrival_frame, ↓frame_step sealObj_frame,
        ↓frame_step sequence_frame, ↓frame_step mapHitch_frame, ↓frame_step setCrossed_frame, ↓frame_step enter_frame]
    | with_reducible refine frame_foldl (fun _ _ => ?_) ?_
    | split
theorem endHeld_frame {a1 a2 s} : Frame 137439084544 (endHeld a1 a2 s) s := by
  unfold endHeld
  repeat' first
    | simp only [↓frame_rfl, Nat.reduceOr, ↓frame_step endArrival_frame]
    | split
theorem closeArrived_frame {a1 a2 s} : Frame 981639356424 (closeArrived a1 a2 s) s := by
  unfold closeArrived
  repeat' first
    | simp only [↓frame_rfl, Nat.reduceOr, ↓frame_step hold_frame, ↓frame_step addReceipt_frame, ↓frame_step appendEntry_frame,
        ↓frame_step tellHitch_frame, ↓frame_step putHitch_frame]
    | with_reducible refine frame_snd (by assumption) ?_
    | split
theorem sendReceipt_frame {a1 a2 a3 s} : Frame 139995775104 (sendReceipt a1 a2 a3 s) s := by
  unfold sendReceipt
  repeat' first
    | simp only [↓frame_rfl, Nat.reduceOr, ↓frame_step sendMyavo_frame, ↓frame_step putHitch_frame]
    | split
theorem sendComplete_frame {a1 s} : Frame 139995775104 (sendComplete a1 s) s := by
  unfold sendComplete
  repeat' first
    | with_reducible refine frame_ite ?_ ?_
    | simp only [↓frame_rfl, Nat.reduceOr, ↓frame_step tellHitch_frame, ↓frame_step mapHitch_frame, ↓frame_step sendMyavo_frame]
    | split

end Machine
end Sys2Proof
end

