-- ==== Sys2Proof/Laws/LayerOpsFrame.lean ====
section
/-!
SUPPORT. What the definitions of Machine/LayerOps.lean leave unchanged.
-/
namespace Sys2Proof
namespace Machine
set_option maxRecDepth 100000
set_option linter.unusedSimpArgs false

theorem configEntry_frame {a1 a2 a3 s} : Frame 157005438984 (configEntry a1 a2 a3 s) s := by
  unfold configEntry
  simp only [↓frame_rfl, Nat.reduceOr, ↓frame_step raiseEvent_frame, ↓frame_step enter_frame]
theorem liftOverlay_frame {a1 s} : Frame 1077936128 (liftOverlay a1 s) s := by
  unfold liftOverlay
  repeat' first
    | with_reducible refine frame_ite ?_ ?_
    | simp only [↓frame_mkM, ↓frame_rfl]
    | with_reducible apply frame_mk <;> first | exact .inl rfl | exact .inr rfl | skip
theorem dropOverlay_frame {a1 s} : Frame 158079180808 (dropOverlay a1 s) s := by
  unfold dropOverlay
  simp only [↓frame_rfl, Nat.reduceOr, ↓frame_step configEntry_frame, ↓frame_step liftOverlay_frame]
theorem finishRemoval_frame {s} : Frame 158079180808 (finishRemoval s) s := by
  unfold finishRemoval
  repeat' first
    | with_reducible refine frame_ite ?_ ?_
    | simp only [↓frame_mkM, ↓frame_rfl, Nat.reduceOr, ↓frame_step dropOverlay_frame]
    | with_reducible apply frame_mk <;> first | exact .inl rfl | exact .inr rfl | skip
    | split
theorem removeRebuildSafe_frame {s} : Frame 158079180808 (removeRebuildSafe s) s := by
  unfold removeRebuildSafe
  repeat' first
    | simp only [↓frame_mkM, ↓frame_rfl, Nat.reduceOr, ↓frame_step finishRemoval_frame]
    | with_reducible apply frame_mk <;> first | exact .inl rfl | exact .inr rfl | skip
    | split

end Machine
end Sys2Proof
end

