-- ==== Sys2Proof/Laws/AdmissionFrame.lean ====
section
/-!
SUPPORT. What the definitions of Machine/Admission.lean leave unchanged.
-/
namespace Sys2Proof
namespace Machine
set_option maxRecDepth 100000
set_option linter.unusedSimpArgs false

theorem perform_frame {a1 a2 s} : Frame 982456467416 (perform a1 a2 s) s := by
  unfold perform
  repeat' first
    | simp only [↓frame_rfl, Nat.reduceOr, ↓frame_step runConnect_frame, ↓frame_step runDisconnect_frame, ↓frame_step runPropertyGet_frame,
        ↓frame_step runPropertySet_frame, ↓frame_step runGetLogPage_frame, ↓frame_step runIdentify_frame, ↓frame_step runAbort_frame,
        ↓frame_step runSetFeatures_frame, ↓frame_step runGetFeatures_frame, ↓frame_step runAer_frame, ↓frame_step runNsCreate_frame,
        ↓frame_step runNsDelete_frame, ↓frame_step runKeepAlive_frame, ↓frame_step runFormat_frame, ↓frame_step runSanitize_frame,
        ↓frame_step runFlush_frame, ↓frame_step runWrite_frame, ↓frame_step runRead_frame, ↓frame_step runCompare_frame,
        ↓frame_step runWriteZeroes_frame, ↓frame_step runDsm_frame, ↓frame_step runNvVerify_frame, ↓frame_step runResRegister_frame,
        ↓frame_step runResReport_frame, ↓frame_step runResAcquire_frame, ↓frame_step runResRelease_frame, ↓frame_step runPut_frame,
        ↓frame_step runPutPart_frame, ↓frame_step runPutAbort_frame, ↓frame_step runSeal_frame, ↓frame_step runGet_frame,
        ↓frame_step runHead_frame, ↓frame_step runList_frame, ↓frame_step runDelete_frame, ↓frame_step runCopy_frame,
        ↓frame_step runHold_frame, ↓frame_step runRelease_frame, ↓frame_step runStopper_frame, ↓frame_step runVerify_frame,
        ↓frame_step runCollCreate_frame, ↓frame_step runCollDelete_frame]
    | split
theorem runWaiter_frame {a1 s} : Frame 995341369304 (runWaiter a1 s) s := by
  unfold runWaiter
  repeat' first
    | with_reducible refine frame_ite ?_ ?_
    | simp only [↓frame_rfl, Nat.reduceOr, ↓frame_step runRelay_frame, ↓frame_step keepSafeAnswer_frame, ↓frame_step forwardCmd_frame,
        ↓frame_step actEnds_frame, ↓frame_step downAnswer_frame, ↓frame_step perform_frame, ↓frame_step takeIn_frame]
    | with_reducible refine Frame.trans (needsDrives_frame rfl (fun _ => ?_) (fun _ => ?_)) ?_
    | with_reducible refine frame_elim ?_ (fun _ => ?_)
    | split
theorem runWaiting_frame {a1 s} : Frame 995341369304 (runWaiting a1 s) s := by
  unfold runWaiting
  repeat' first
    | simp only [↓frame_mkM, ↓frame_rfl, Nat.reduceOr, ↓frame_step runWaiter_frame]
    | with_reducible apply frame_mk <;> first | exact .inl rfl | exact .inr rfl | skip
theorem execAdmitCommand_frame {s} : OutFrame 995341369304 (execAdmitCommand s) s := by
  unfold execAdmitCommand
  repeat' first
    | simp only [↓outFrame_next, ↓frame_rfl, Nat.reduceOr, ↓frame_step runWaiting_frame, ↓frame_step admServe_frame]
    | split
theorem execNotVisibleRelease_frame {a1 s} : OutFrame 432657400192 (execNotVisibleRelease a1 s) s := by
  unfold execNotVisibleRelease
  repeat' first
    | with_reducible refine frame_ite ?_ ?_
    | simp only [↓outFrame_next, ↓frame_mkM, ↓frame_rfl, Nat.reduceOr, ↓frame_step leave_frame]
    | with_reducible apply frame_mk <;> first | exact .inl rfl | exact .inr rfl | skip
    | split
theorem endVerify_frame {a1 a2 a3 a4 a5 a6 s} : Frame 157813105032 (endVerify a1 a2 a3 a4 a5 a6 s) s := by
  unfold endVerify
  repeat' first
    | simp only [↓frame_rfl, Nat.reduceOr, ↓frame_step leave_frame, ↓frame_step appendEntry_frame]
    | with_reducible refine frame_snd (by assumption) ?_
    | split
theorem readBackDone_frame {a1 a2 s} : Frame 512 (readBackDone a1 a2 s) s := by
  unfold readBackDone
  repeat' first
    | simp only [↓frame_rfl, Nat.reduceOr, ↓frame_step putObj_frame]
    | split
theorem noteRead_frame {a1 a2 s} : Frame 512 (noteRead a1 a2 s) s := by
  unfold noteRead
  repeat' first
    | simp only [↓frame_mkM, ↓frame_rfl]
    | with_reducible apply frame_mk <;> first | exact .inl rfl | exact .inr rfl | skip
theorem closeTenant_frame {a1 s} : Frame 432457322944 (closeTenant a1 s) s := by
  unfold closeTenant
  simp only [↓frame_rfl, Nat.reduceOr, ↓frame_step closeConns_frame, ↓frame_step closeAll_frame]
theorem refuseWaiting_frame {a1 s} : Frame 982413214080 (refuseWaiting a1 s) s := by
  unfold refuseWaiting
  repeat' first
    | with_reducible refine frame_ite ?_ ?_
    | simp only [↓frame_rfl, Nat.reduceOr, ↓frame_step hold_frame, ↓frame_step nvRefuse_frame]
    | split
theorem tellErasure_frame {a1 a2 a3 s} : Frame 137438953472 (tellErasure a1 a2 a3 s) s := by
  unfold tellErasure
  simp only [↓frame_rfl, Nat.reduceOr, ↓frame_step pairState_frame]
theorem erasePhase_frame {a1 a2 a3 s} : Frame 137438955520 (erasePhase a1 a2 a3 s) s := by
  unfold erasePhase
  repeat' first
    | simp only [↓frame_mkM, ↓frame_rfl, Nat.reduceOr, ↓frame_step tellErasure_frame]
    | with_reducible apply frame_mk <;> first | exact .inl rfl | exact .inr rfl | skip
theorem eraseWraps_frame {a1 a2 s} : Frame 981504904448 (eraseWraps a1 a2 s) s := by
  unfold eraseWraps
  repeat' first
    | simp only [↓frame_mkM, ↓frame_rfl, Nat.reduceOr, ↓frame_step hold_frame, ↓frame_step changeBanks_frame, ↓frame_step oweAll_frame,
        ↓frame_step erasePhase_frame]
    | with_reducible apply frame_mk <;> first | exact .inl rfl | exact .inr rfl | skip
    | with_reducible refine frame_snd (by assumption) ?_
    | split
theorem afterDrain_frame {w a1 a2 f3 s} (hw : 824633720832 ||| w = w) (h : ∀ s, Frame w (f3 s) s) : Frame w (afterDrain a1 a2 f3 s) s := by
  unfold afterDrain
  repeat' first
    | with_reducible refine frame_ite ?_ ?_
    | simp only [↓frame_rfl, Nat.reduceOr, ↓frame_stepH hw hold_frame]
    | with_reducible refine Frame.trans (h _) ?_
theorem eraseKeys_frame {a1 a2 s} : Frame 982448037840 (eraseKeys a1 a2 s) s := by
  unfold eraseKeys
  repeat' first
    | simp only [↓frame_mkM, ↓frame_rfl, Nat.reduceOr, ↓frame_step eraseWraps_frame, ↓frame_step closeTenant_frame,
        ↓frame_step refuseWaiting_frame, ↓frame_step erasePhase_frame]
    | with_reducible refine Frame.trans (afterDrain_frame rfl (fun _ => ?_)) ?_
    | with_reducible apply frame_mk <;> first | exact .inl rfl | exact .inr rfl | skip
    | with_reducible refine frame_foldl (fun _ _ => ?_) ?_
theorem eraseCheck_frame {a1 a2 s} : Frame 982448037840 (eraseCheck a1 a2 s) s := by
  unfold eraseCheck
  repeat' first
    | simp only [↓frame_mkM, ↓frame_rfl, Nat.reduceOr, ↓frame_step qReply_frame, ↓frame_step erasePhase_frame, ↓frame_step eraseKeys_frame]
    | with_reducible apply frame_mk <;> first | exact .inl rfl | exact .inr rfl | skip
    | split
theorem forgetTenant_frame {a1 s} : Frame 4210432 (forgetTenant a1 s) s := by
  unfold forgetTenant
  repeat' first
    | simp only [↓frame_mkM, ↓frame_rfl, Nat.reduceOr, ↓frame_step killKind_frame]
    | with_reducible apply frame_mk <;> first | exact .inl rfl | exact .inr rfl | skip
theorem eraseEnd_frame {a1 a2 s} : Frame 992110575496 (eraseEnd a1 a2 s) s := by
  unfold eraseEnd
  repeat' first
    | simp only [↓frame_mkM, ↓frame_rfl, Nat.reduceOr, ↓frame_step qReply_frame, ↓frame_step quorumDone_frame,
        ↓frame_step changeBanks_frame, ↓frame_step forgetTenant_frame, ↓frame_step addReceipt_frame, ↓frame_step appendEntry_frame,
        ↓frame_step enter_frame, ↓frame_step sequence_frame, ↓frame_step erasePhase_frame, ↓frame_step dropOverlay_frame]
    | with_reducible apply frame_mk <;> first | exact .inl rfl | exact .inr rfl | skip
    | with_reducible refine frame_elim ?_ (fun _ => ?_)
    | with_reducible refine frame_snd (by assumption) ?_
    | split
theorem sanPhase_frame {a1 s} : Frame 137438953728 (sanPhase a1 s) s := by
  unfold sanPhase
  repeat' first
    | simp only [↓frame_mkM, ↓frame_rfl, Nat.reduceOr, ↓frame_step pairState_frame]
    | with_reducible apply frame_mk <;> first | exact .inl rfl | exact .inr rfl | skip
theorem sanSign_frame {a1 a2 s} : Frame 440473346056 (sanSign a1 a2 s) s := by
  unfold sanSign
  repeat' first
    | simp only [↓frame_rfl, Nat.reduceOr, ↓frame_step closeLanyard_frame, ↓frame_step addReceipt_frame, ↓frame_step appendEntry_frame]
    | with_reducible refine frame_snd (by assumption) ?_
    | split
theorem sanKeys_frame {s} : Frame 1040 (sanKeys s) s := by
  unfold sanKeys
  repeat' first
    | simp only [↓frame_mkM, ↓frame_rfl]
    | with_reducible apply frame_mk <;> first | exact .inl rfl | exact .inr rfl | skip
theorem sanWraps_frame {s} : Frame 17680 (sanWraps s) s := by
  unfold sanWraps
  repeat' first
    | simp only [↓frame_mkM, ↓frame_rfl, Nat.reduceOr, ↓frame_step oweAll_frame]
    | with_reducible apply frame_mk <;> first | exact .inl rfl | exact .inr rfl | skip
theorem sanitiseKeys_frame {s} : Frame 981504902416 (sanitiseKeys s) s := by
  unfold sanitiseKeys
  repeat' first
    | simp only [↓frame_rfl, Nat.reduceOr, ↓frame_step hold_frame, ↓frame_step changeBanks_frame, ↓frame_step sanWraps_frame,
        ↓frame_step sanPhase_frame, ↓frame_step sanKeys_frame]
    | with_reducible refine frame_snd (by assumption) ?_
    | split
theorem sanitiseBanks_frame {s} : Frame 982313817552 (sanitiseBanks s) s := by
  unfold sanitiseBanks
  repeat' first
    | simp only [↓frame_rfl, Nat.reduceOr, ↓frame_step sanitiseKeys_frame, ↓frame_step closeAll_frame, ↓frame_step sanPhase_frame]
    | with_reducible refine Frame.trans (afterDrain_frame rfl (fun _ => ?_)) ?_
theorem sanitiseDrives_frame {s} : Frame 981504884992 (sanitiseDrives s) s := by
  unfold sanitiseDrives
  repeat' first
    | simp only [↓frame_rfl, Nat.reduceOr, ↓frame_step hold_frame, ↓frame_step issueDrive_frame, ↓frame_step sanPhase_frame]
    | with_reducible refine frame_foldl_snd (fun _ _ => ?_) ?_
    | with_reducible refine frame_snd (by assumption) ?_
    | split
theorem blankShelf_frame {s} : Frame 34359983888 (blankShelf s) s := by
  unfold blankShelf
  repeat' first
    | simp only [↓frame_mkM, ↓frame_rfl]
    | with_reducible apply frame_mk <;> first | exact .inl rfl | exact .inr rfl | skip
theorem blankRegion_frame {a1 s} : Frame 156871163904 (blankRegion a1 s) s := by
  unfold blankRegion
  simp only [↓frame_rfl, Nat.reduceOr, ↓frame_step issueWrite_frame]
theorem sanitiseEnd_frame {s} : Frame 191231164176 (sanitiseEnd s) s := by
  unfold sanitiseEnd
  repeat' first
    | simp only [↓frame_rfl, Nat.reduceOr, ↓frame_step blankShelf_frame, ↓frame_step blankRegion_frame, ↓frame_step putMember_frame,
        ↓frame_step sanPhase_frame]
    | with_reducible refine frame_foldl (fun _ _ => ?_) ?_
theorem voidDram_frame {s} : Frame 134754304 (voidDram s) s := by
  unfold voidDram
  repeat' first
    | simp only [↓frame_mkM, ↓frame_rfl]
    | with_reducible apply frame_mk <;> first | exact .inl rfl | exact .inr rfl | skip
theorem unlockModule_frame {s} : Frame 137573741592 (unlockModule s) s := by
  unfold unlockModule
  repeat' first
    | simp only [↓frame_mkM, ↓frame_rfl, Nat.reduceOr, ↓frame_step sayDying_frame, ↓frame_step voidDram_frame, ↓frame_step draw_frame]
    | with_reducible apply frame_mk <;> first | exact .inl rfl | exact .inr rfl | skip
    | with_reducible refine frame_snd (by assumption) ?_
    | split
theorem releaseHeld_frame {a1 s} : Frame 1026480406488 (releaseHeld a1 s) s := by
  unfold releaseHeld
  repeat' first
    | with_reducible refine frame_ite ?_ ?_
    | simp only [↓frame_rfl, Nat.reduceOr, ↓frame_step leave_frame, ↓frame_step endVerify_frame, ↓frame_step noteRead_frame,
        ↓frame_step perform_frame, ↓frame_step readBackDone_frame, ↓frame_step forgetNs_frame, ↓frame_step eraseCheck_frame,
        ↓frame_step eraseWraps_frame, ↓frame_step eraseEnd_frame, ↓frame_step sanitiseKeys_frame, ↓frame_step unlockModule_frame,
        ↓frame_step sanitiseDrives_frame, ↓frame_step sanitiseEnd_frame, ↓frame_step sendReceipt_frame, ↓frame_step sendComplete_frame]
    | with_reducible refine Frame.trans (formatStep_frame rfl (fun _ => ?_)) ?_
    | with_reducible refine frame_foldl (fun _ _ => ?_) ?_
    | with_reducible refine frame_elim ?_ (fun _ => ?_)
    | split
theorem execCompletionRelease_frame {a1 s} : OutFrame 1026480406488 (execCompletionRelease a1 s) s := by
  unfold execCompletionRelease
  repeat' first
    | with_reducible refine frame_ite ?_ ?_
    | simp only [↓outFrame_next, ↓frame_mkM, ↓frame_rfl, Nat.reduceOr, ↓frame_step releaseHeld_frame]
    | with_reducible apply frame_mk <;> first | exact .inl rfl | exact .inr rfl | skip
    | split

end Machine
end Sys2Proof
end

