-- ==== Sys2Proof/Laws/DrivesFrame.lean ====
section
/-!
SUPPORT. What the definitions of Machine/Drives.lean leave unchanged.
-/
namespace Sys2Proof
namespace Machine
set_option maxRecDepth 100000
set_option linter.unusedSimpArgs false

theorem perst_frame {a1 a2 s} : Frame 137438953472 (perst a1 a2 s) s := by
  unfold perst
  simp only [↓frame_rfl, Nat.reduceOr, ↓frame_step send_frame]
theorem startDiscovery_frame {a1 a2 s} : Frame 137472507904 (startDiscovery a1 a2 s) s := by
  unfold startDiscovery
  simp only [↓frame_rfl, Nat.reduceOr, ↓frame_step perst_frame, ↓frame_step putPort_frame]
theorem failDiscovery_frame {a1 a2 s} : Frame 444776772360 (failDiscovery a1 a2 s) s := by
  unfold failDiscovery
  repeat' first
    | with_reducible refine frame_ite ?_ ?_
    | simp only [↓frame_rfl, Nat.reduceOr, ↓frame_step slotBack_frame, ↓frame_step failMember_frame, ↓frame_step disableSlot_frame,
        ↓frame_step raise_frame, ↓frame_step putPort_frame]
theorem programWindows_frame {a1 s} : Frame 33554440 (programWindows a1 s) s := by
  unfold programWindows
  repeat' first
    | with_reducible refine frame_ite ?_ ?_
    | simp only [↓frame_rfl, Nat.reduceOr, ↓frame_step putPort_frame, ↓frame_step free_frame]
    | with_reducible refine frame_snd (by assumption) ?_
    | split
theorem lbaFormat_frame {a1 s} : Frame 137472507904 (lbaFormat a1 s) s := by
  unfold lbaFormat
  simp only [↓frame_rfl, Nat.reduceOr, ↓frame_step send_frame, ↓frame_step putPort_frame]
theorem execDriveLinkUp_frame {a1 a2 a3 a4 s} : OutFrame 444776772360 (execDriveLinkUp a1 a2 a3 a4 s) s := by
  unfold execDriveLinkUp
  repeat' first
    | with_reducible refine frame_ite ?_ ?_
    | with_reducible refine frame_oite ?_ ?_
    | simp only [↓outFrame_next, ↓frame_rfl, Nat.reduceOr, ↓frame_step failDiscovery_frame, ↓frame_step putMember_frame,
        ↓frame_step putPort_frame, ↓frame_step raise_frame, ↓frame_step programWindows_frame, ↓frame_step lbaFormat_frame,
        ↓frame_step slotBack_frame, ↓frame_step pumpPort_frame]
    | split
theorem execDiscoveryStepTimeout_frame {a1 s} : OutFrame 444776772360 (execDiscoveryStepTimeout a1 s) s := by
  unfold execDiscoveryStepTimeout
  repeat' first
    | with_reducible refine frame_ite ?_ ?_
    | simp only [↓outFrame_next, ↓frame_rfl, Nat.reduceOr, ↓frame_step failDiscovery_frame]
    | split
theorem execDriveMemoryRequest_frame {a1 a2 a3 a4 a5 s} : OutFrame 156833415168 (execDriveMemoryRequest a1 a2 a3 a4 a5 s) s := by
  unfold execDriveMemoryRequest
  repeat' first
    | with_reducible refine frame_ite ?_ ?_
    | with_reducible refine frame_oite ?_ ?_
    | simp only [↓outFrame_next, ↓frame_rfl, Nat.reduceOr, ↓frame_step send_frame, ↓frame_step raise_frame, ↓frame_step bumpFigure_frame]
    | split
theorem execWindowCommit_frame {a1 s} : OutFrame 33554432 (execWindowCommit a1 s) s := by
  unfold execWindowCommit
  simp only [↓outFrame_next, ↓frame_rfl, Nat.reduceOr, ↓frame_step putPort_frame]
theorem execWindowDrainEnd_frame {a1 s} : OutFrame 33554432 (execWindowDrainEnd a1 s) s := by
  unfold execWindowDrainEnd
  simp only [↓outFrame_next, ↓frame_rfl, Nat.reduceOr, ↓frame_step putPort_frame]
theorem execDriveTimeout_frame {a1 a2 s} : OutFrame 431891870472 (execDriveTimeout a1 a2 s) s := by
  unfold execDriveTimeout
  repeat' first
    | with_reducible refine frame_ite ?_ ?_
    | simp only [↓outFrame_next, ↓frame_rfl, Nat.reduceOr, ↓frame_step timeoutCmd_frame]
    | split
theorem execTagQuarantineEnd_frame {a1 a2 s} : OutFrame 33554432 (execTagQuarantineEnd a1 a2 s) s := by
  unfold execTagQuarantineEnd
  simp only [↓outFrame_next, ↓frame_rfl, Nat.reduceOr, ↓frame_step putPort_frame]
theorem execConfigReadTimeout_frame {a1 a2 s} : OutFrame 431891870472 (execConfigReadTimeout a1 a2 s) s := by
  unfold execConfigReadTimeout
  repeat' first
    | with_reducible refine frame_oite ?_ ?_
    | simp only [↓outFrame_next, ↓frame_rfl, Nat.reduceOr, ↓frame_step timeoutStrike_frame, ↓frame_step putPort_frame]
    | split
theorem endIssued_frame {a1 s a3} : Frame 431891870472 (endIssued a1 s a3) s := by
  unfold endIssued
  repeat' first
    | with_reducible refine frame_ite ?_ ?_
    | simp only [↓frame_rfl, Nat.reduceOr, ↓frame_step ownerDone_frame, ↓frame_step bumpFigure_frame, ↓frame_step putPort_frame,
        ↓frame_step quarantineTag_frame]
theorem endWaiting_frame {a1 s a3} : Frame 431891870472 (endWaiting a1 s a3) s := by
  unfold endWaiting
  repeat' first
    | with_reducible refine frame_ite ?_ ?_
    | simp only [↓frame_rfl, Nat.reduceOr, ↓frame_step ownerDone_frame, ↓frame_step putPort_frame]
    | split
theorem resetPort_frame {a1 s} : Frame 431891870472 (resetPort a1 s) s := by
  unfold resetPort
  repeat' first
    | with_reducible refine frame_ite ?_ ?_
    | simp only [↓frame_rfl, Nat.reduceOr, ↓frame_step settle_frame, ↓frame_step perst_frame, ↓frame_step raise_frame,
        ↓frame_step timeoutStrike_frame, ↓frame_step endWaiting_frame, ↓frame_step endIssued_frame, ↓frame_step putPort_frame]
    | with_reducible refine frame_foldl (fun _ _ => ?_) ?_
theorem darkSlot_frame {a1 s} : Frame 431891870472 (darkSlot a1 s) s := by
  unfold darkSlot
  repeat' first
    | with_reducible refine frame_ite ?_ ?_
    | simp only [↓frame_rfl, Nat.reduceOr, ↓frame_step settle_frame, ↓frame_step endWaiting_frame, ↓frame_step endIssued_frame,
        ↓frame_step putMember_frame, ↓frame_step putPort_frame]
    | with_reducible refine frame_foldl (fun _ _ => ?_) ?_
theorem execDriveLinkDown_frame {a1 a2 s} : OutFrame 431891870472 (execDriveLinkDown a1 a2 s) s := by
  unfold execDriveLinkDown
  repeat' first
    | with_reducible refine frame_ite ?_ ?_
    | with_reducible refine frame_oite ?_ ?_
    | simp only [↓outFrame_next, ↓frame_rfl, Nat.reduceOr, ↓frame_step resetPort_frame, ↓frame_step putMember_frame,
        ↓frame_step putPort_frame, ↓frame_step raise_frame]
theorem execPerstPulseEnd_frame {a1 s} : OutFrame 137472507904 (execPerstPulseEnd a1 s) s := by
  unfold execPerstPulseEnd
  repeat' first
    | with_reducible refine frame_ite ?_ ?_
    | simp only [↓outFrame_next, ↓frame_rfl, Nat.reduceOr, ↓frame_step startDiscovery_frame]
    | split
theorem execDriveLinkDownTimeout_frame {a1 s} : OutFrame 431891870472 (execDriveLinkDownTimeout a1 s) s := by
  unfold execDriveLinkDownTimeout
  repeat' first
    | with_reducible refine frame_ite ?_ ?_
    | simp only [↓outFrame_next, ↓frame_rfl, Nat.reduceOr, ↓frame_step failMember_frame]
    | split
theorem execSepLinkUp_frame {a1 a2 s} : OutFrame 67108864 (execSepLinkUp a1 a2 s) s := by
  unfold execSepLinkUp
  repeat' first
    | with_reducible refine frame_ite ?_ ?_
    | simp only [↓outFrame_next, ↓frame_mkM, ↓frame_rfl]
    | with_reducible apply frame_mk <;> first | exact .inl rfl | exact .inr rfl | skip
theorem resetEndpoint_frame {s} : Frame 432524431808 (resetEndpoint s) s := by
  unfold resetEndpoint
  repeat' first
    | with_reducible refine frame_ite ?_ ?_
    | simp only [↓frame_mkM, ↓frame_rfl, Nat.reduceOr, ↓frame_step raise_frame, ↓frame_step bumpFigure_frame, ↓frame_step closeConns_frame]
    | with_reducible apply frame_mk <;> first | exact .inl rfl | exact .inr rfl | skip
theorem execSepReset_frame {s} : OutFrame 432524431808 (execSepReset s) s := by
  unfold execSepReset
  simp only [↓outFrame_next, ↓frame_rfl, Nat.reduceOr, ↓frame_step resetEndpoint_frame]
theorem execBusMasterEnable_frame {a1 s} : OutFrame 137506062336 (execBusMasterEnable a1 s) s := by
  unfold execBusMasterEnable
  repeat' first
    | with_reducible refine frame_ite ?_ ?_
    | with_reducible refine frame_oite ?_ ?_
    | simp only [↓outFrame_next, ↓frame_mkM, ↓frame_rfl, Nat.reduceOr, ↓frame_step msix_frame]
    | with_reducible apply frame_mk <;> first | exact .inl rfl | exact .inr rfl | skip
    | with_reducible refine frame_foldl (fun _ _ => ?_) ?_

end Machine
end Sys2Proof
end

