-- ==== Sys2Proof/Laws/AuthorityFrame.lean ====
section
/-!
SUPPORT. What the definitions of Machine/Authority.lean leave unchanged.
-/
namespace Sys2Proof
namespace Machine
set_option maxRecDepth 100000
set_option linter.unusedSimpArgs false

theorem takeRole_frame {a1 a2 s} : Frame 16 (takeRole a1 a2 s) s := by
  unfold takeRole
  repeat' first
    | simp only [↓frame_mkM, ↓frame_rfl]
    | with_reducible apply frame_mk <;> first | exact .inl rfl | exact .inr rfl | skip
theorem keyEntry_frame {a1 a2 a3 a4 s} : Frame 157005438984 (keyEntry a1 a2 a3 a4 s) s := by
  unfold keyEntry
  simp only [↓frame_rfl, Nat.reduceOr, ↓frame_step enter_frame]
theorem actSetChange_frame {a1 a2 a3 a4 a5 s} : Frame 1025397748188 (actSetChange a1 a2 a3 a4 a5 s) s := by
  unfold actSetChange
  repeat' first
    | simp only [↓frame_mkM, ↓frame_rfl, Nat.reduceOr, ↓frame_step qReply_frame, ↓frame_step closeConns_frame, ↓frame_step closeAll_frame,
        ↓frame_step quorumDone_frame, ↓frame_step keyEntry_frame, ↓frame_step changeBanks_frame, ↓frame_step touch_frame,
        ↓frame_step takeRole_frame]
    | with_reducible apply frame_mk <;> first | exact .inl rfl | exact .inr rfl | skip
    | with_reducible refine frame_foldl (fun _ _ => ?_) ?_
    | split
theorem execCustodianSetChange_frame {a1 a2 a3 a4 a5 a6 s} : OutFrame 1029692715484 (execCustodianSetChange a1 a2 a3 a4 a5 a6 s) s := by
  unfold execCustodianSetChange
  repeat' first
    | simp only [↓outFrame_next, ↓frame_rfl, Nat.reduceOr, ↓frame_step actSetChange_frame]
    | with_reducible refine Frame.trans (quorumCmd_frame rfl (fun _ _ => ?_)) ?_
theorem actTimeAuth_frame {a1 a2 s} : Frame 991036825752 (actTimeAuth a1 a2 s) s := by
  unfold actTimeAuth
  repeat' first
    | with_reducible refine frame_ite ?_ ?_
    | simp only [↓frame_mkM, ↓frame_rfl, Nat.reduceOr, ↓frame_step qReply_frame, ↓frame_step quorumDone_frame, ↓frame_step keyEntry_frame,
        ↓frame_step touch_frame, ↓frame_step takeRole_frame]
    | with_reducible apply frame_mk <;> first | exact .inl rfl | exact .inr rfl | skip
theorem execTimeAuthEnrol_frame {a1 a2 a3 s} : OutFrame 995331793048 (execTimeAuthEnrol a1 a2 a3 s) s := by
  unfold execTimeAuthEnrol
  repeat' first
    | simp only [↓outFrame_next, ↓frame_rfl, Nat.reduceOr, ↓frame_step actTimeAuth_frame]
    | with_reducible refine Frame.trans (quorumCmd_frame rfl (fun _ _ => ?_)) ?_
theorem unwrapRoots_frame {s} : Frame 1024 (unwrapRoots s) s := by
  unfold unwrapRoots
  repeat' first
    | with_reducible refine frame_ite ?_ ?_
    | simp only [↓frame_mkM, ↓frame_rfl]
    | with_reducible apply frame_mk <;> first | exact .inl rfl | exact .inr rfl | skip
theorem actEscrowImport_frame {a1 a2 a3 a4 s} : Frame 991036826776 (actEscrowImport a1 a2 a3 a4 s) s := by
  unfold actEscrowImport
  repeat' first
    | with_reducible refine frame_ite ?_ ?_
    | simp only [↓frame_mkM, ↓frame_rfl, Nat.reduceOr, ↓frame_step qReply_frame, ↓frame_step quorumDone_frame, ↓frame_step touch_frame,
        ↓frame_step unwrapRoots_frame]
    | with_reducible apply frame_mk <;> first | exact .inl rfl | exact .inr rfl | skip
theorem execEscrowImport_frame {a1 a2 a3 a4 a5 s} : OutFrame 995331794072 (execEscrowImport a1 a2 a3 a4 a5 s) s := by
  unfold execEscrowImport
  repeat' first
    | simp only [↓outFrame_next, ↓frame_rfl, Nat.reduceOr, ↓frame_step actEscrowImport_frame]
    | with_reducible refine Frame.trans (quorumCmd_frame rfl (fun _ _ => ?_)) ?_
theorem takeShare_some {a1 a2 s x} (h : takeShare a1 a2 s = some x) : Frame 4096 x s := by
  unfold takeShare at h
  split at h
  · cases h; exact Frame.refl
  · exact changeShare_some h
theorem enrolTenant_frame {a1 a2 a3 a4 s} : Frame 982176033816 (enrolTenant a1 a2 a3 a4 s) s := by
  unfold enrolTenant
  repeat' first
    | simp only [↓frame_mkM, ↓frame_rfl, Nat.reduceOr, ↓frame_step replyHeld_frame, ↓frame_step changeBanks_frame,
        ↓frame_step keyEntry_frame, ↓frame_step enter_frame, ↓frame_step takeRole_frame, ↓frame_step putBuckets_frame,
        ↓frame_step sequence_frame, ↓frame_step escrowWrap_frame, ↓frame_step drawKey_frame, ↓frame_step refill_frame]
    | with_reducible apply frame_mk <;> first | exact .inl rfl | exact .inr rfl | skip
    | with_reducible refine frame_snd (by assumption) ?_
    | split
theorem execTenantCreate_frame {a1 a2 a3 s} : OutFrame 995331734680 (execTenantCreate a1 a2 a3 s) s := by
  unfold execTenantCreate
  simp only [↓outFrame_next]
  refine mailboxCmd_frame rfl (fun _ s => ?_)
  repeat' first
    | exact reply_frame.mono rfl
    | exact (enrolTenant_frame.mono rfl).trans ((takeShare_some (by assumption)).mono rfl)
    | split
theorem execTenantQuotaSet_frame {a1 a2 a3 s} : OutFrame 995331699848 (execTenantQuotaSet a1 a2 a3 s) s := by
  unfold execTenantQuotaSet
  simp only [↓outFrame_next]
  refine mailboxCmd_frame rfl (fun _ s => ?_)
  repeat' first
    | with_reducible refine frame_ite ?_ ?_
    | exact reply_frame.mono rfl
    | (refine (replyStamped_frame.mono rfl).trans ((changeBanks_frame.mono rfl).trans ?_)
       rw [frame_mkM]
       apply frame_mk <;> first | exact .inl rfl | exact .inr rfl | skip
       exact (sequence_frame.mono rfl).trans ((refill_frame.mono rfl).trans ((takeShare_some (by assumption)).mono rfl)))
    | split
theorem actTenantErase_frame {a1 a2 a3 s} : Frame 982413215872 (actTenantErase a1 a2 a3 s) s := by
  unfold actTenantErase
  repeat' first
    | with_reducible refine frame_ite ?_ ?_
    | simp only [↓frame_rfl, Nat.reduceOr, ↓frame_step qReply_frame, ↓frame_step hold_frame, ↓frame_step erasePhase_frame]
theorem execTenantErase_frame {a1 a2 a3 a4 s} : OutFrame 995331696792 (execTenantErase a1 a2 a3 a4 s) s := by
  unfold execTenantErase
  repeat' first
    | simp only [↓outFrame_next, ↓frame_rfl, Nat.reduceOr, ↓frame_step actTenantErase_frame]
    | with_reducible refine Frame.trans (quorumCmd_frame rfl (fun _ _ => ?_)) ?_
theorem noticeScope_frame {a1 s} : Frame 157779493248 (noticeScope a1 s) s := by
  unfold noticeScope
  repeat' first
    | simp only [↓frame_rfl, Nat.reduceOr, ↓frame_step noticeNs_frame]
    | with_reducible refine frame_foldl (fun _ _ => ?_) ?_
theorem grantEntry_frame {a1 a2 a3 s} : Frame 157005438984 (grantEntry a1 a2 a3 s).2 s := by
  unfold grantEntry
  simp only [↓frame_rfl, Nat.reduceOr, ↓frame_step appendEntry_frame]
theorem execGrantIssue_frame {a1 a2 a3 s} : OutFrame 995331727768 (execGrantIssue a1 a2 a3 s) s := by
  unfold execGrantIssue
  repeat' first
    | with_reducible refine frame_ite ?_ ?_
    | simp only [↓outFrame_next, ↓frame_mkM, ↓frame_rfl, Nat.reduceOr, ↓frame_step reply_frame, ↓frame_step replyNotVisible_frame,
        ↓frame_step grantEntry_frame, ↓frame_step noticeScope_frame, ↓frame_step takeRole_frame]
    | with_reducible refine Frame.trans (mailboxCmd_frame rfl (fun _ _ => ?_)) ?_
    | with_reducible apply frame_mk <;> first | exact .inl rfl | exact .inr rfl | skip
    | with_reducible refine frame_snd (by assumption) ?_
    | split
theorem revokeGrant_frame {a1 s} : Frame 432692261336 (revokeGrant a1 s).2 s := by
  unfold revokeGrant
  repeat' first
    | simp only [↓frame_mkM, ↓frame_rfl, Nat.reduceOr, ↓frame_step closeConns_frame, ↓frame_step closeAll_frame,
        ↓frame_step grantEntry_frame, ↓frame_step noticeScope_frame, ↓frame_step sequence_frame]
    | with_reducible apply frame_mk <;> first | exact .inl rfl | exact .inr rfl | skip
    | with_reducible refine frame_foldl_snd (fun _ _ => ?_) ?_
    | with_reducible refine frame_snd (by assumption) ?_
    | split
theorem execGrantRevoke_frame {a1 a2 a3 s} : OutFrame 995332977112 (execGrantRevoke a1 a2 a3 s) s := by
  unfold execGrantRevoke
  repeat' first
    | simp only [↓outFrame_next, ↓frame_rfl, Nat.reduceOr, ↓frame_step reply_frame, ↓frame_step replyAfter_frame,
        ↓frame_step revokeGrant_frame]
    | with_reducible refine Frame.trans (mailboxCmd_frame rfl (fun _ _ => ?_)) ?_
    | with_reducible refine frame_snd (by assumption) ?_
    | split
theorem rejectBeacon_frame {a1 a2 s} : Frame 157779493056 (rejectBeacon a1 a2 s) s := by
  unfold rejectBeacon
  repeat' first
    | simp only [↓frame_mkM, ↓frame_rfl, Nat.reduceOr, ↓frame_step reply_frame, ↓frame_step raise_frame]
    | with_reducible apply frame_mk <;> first | exact .inl rfl | exact .inr rfl | skip
theorem recheckGrants_frame {s} : Frame 432457322944 (recheckGrants s) s := by
  unfold recheckGrants
  repeat' first
    | simp only [↓frame_mkM, ↓frame_rfl, Nat.reduceOr, ↓frame_step closeConns_frame, ↓frame_step closeAll_frame]
    | with_reducible apply frame_mk <;> first | exact .inl rfl | exact .inr rfl | skip
theorem acceptBeacon_frame {a1 a2 s} : Frame 991038011848 (acceptBeacon a1 a2 s) s := by
  unfold acceptBeacon
  repeat' first
    | simp only [↓frame_mkM, ↓frame_rfl, Nat.reduceOr, ↓frame_step replyAfter_frame, ↓frame_step signCheckpoint_frame,
        ↓frame_step recheckGrants_frame, ↓frame_step expireAll_frame, ↓frame_step enter_frame]
    | with_reducible apply frame_mk <;> first | exact .inl rfl | exact .inr rfl | skip
theorem execTimeBeacon_frame {a1 a2 a3 s} : OutFrame 995332979144 (execTimeBeacon a1 a2 a3 s) s := by
  unfold execTimeBeacon
  repeat' first
    | with_reducible refine frame_ite ?_ ?_
    | simp only [↓outFrame_next, ↓frame_rfl, Nat.reduceOr, ↓frame_step rejectBeacon_frame, ↓frame_step acceptBeacon_frame]
    | with_reducible refine Frame.trans (mailboxCmd_frame rfl (fun _ _ => ?_)) ?_
    | split
theorem execFwStage_frame {a1 a2 a3 a4 a5 s} : OutFrame 995331727512 (execFwStage a1 a2 a3 a4 a5 s) s := by
  unfold execFwStage
  repeat' first
    | with_reducible refine frame_ite ?_ ?_
    | simp only [↓outFrame_next, ↓frame_mkM, ↓frame_rfl, Nat.reduceOr, ↓frame_step reply_frame, ↓frame_step enter_frame]
    | with_reducible refine Frame.trans (mailboxCmd_frame rfl (fun _ _ => ?_)) ?_
    | with_reducible apply frame_mk <;> first | exact .inl rfl | exact .inr rfl | skip
    | split
theorem execFwCommit_frame {a1 a2 s} : OutFrame 995331727514 (execFwCommit a1 a2 s) s := by
  unfold execFwCommit
  repeat' first
    | with_reducible refine frame_ite ?_ ?_
    | simp only [↓outFrame_next, ↓frame_mkM, ↓frame_rfl, Nat.reduceOr, ↓frame_step reply_frame, ↓frame_step enter_frame,
        ↓frame_step send_frame]
    | with_reducible refine Frame.trans (mailboxCmd_frame rfl (fun _ _ => ?_)) ?_
    | with_reducible apply frame_mk <;> first | exact .inl rfl | exact .inr rfl | skip
theorem execDebugChallenge_frame {a1 s} : OutFrame 995331694744 (execDebugChallenge a1 s) s := by
  unfold execDebugChallenge
  repeat' first
    | simp only [↓outFrame_next, ↓frame_mkM, ↓frame_rfl, Nat.reduceOr, ↓frame_step reply_frame, ↓frame_step drawDigest_frame]
    | with_reducible refine Frame.trans (mailboxCmd_frame rfl (fun _ _ => ?_)) ?_
    | with_reducible apply frame_mk <;> first | exact .inl rfl | exact .inr rfl | skip
    | with_reducible refine frame_snd (by assumption) ?_
    | split
theorem unlockClose_frame {a1 s} : Frame 441282195912 (unlockClose a1 s) s := by
  unfold unlockClose
  simp only [↓frame_rfl, Nat.reduceOr, ↓frame_step closeAll_frame, ↓frame_step closeLanyard_frame, ↓frame_step signCheckpoint_frame,
        ↓frame_step enter_frame]
theorem execDebugUnlock_frame {a1 a2 s} : OutFrame 995333502424 (execDebugUnlock a1 a2 s) s := by
  unfold execDebugUnlock
  repeat' first
    | with_reducible refine frame_ite ?_ ?_
    | simp only [↓outFrame_next, ↓frame_rfl, Nat.reduceOr, ↓frame_step reply_frame, ↓frame_step unlockModule_frame,
        ↓frame_step unlockClose_frame, ↓frame_step replyHeld_frame]
    | with_reducible refine Frame.trans (mailboxCmd_frame rfl (fun _ _ => ?_)) ?_
theorem tellSlot_frame {a1 a2 s} : Frame 137438953472 (tellSlot a1 a2 s) s := by
  unfold tellSlot
  simp only [↓frame_rfl, Nat.reduceOr, ↓frame_step pairState_frame]
theorem execSlotPower_frame {a1 a2 a3 s} : OutFrame 995340252040 (execSlotPower a1 a2 a3 s) s := by
  unfold execSlotPower
  repeat' first
    | with_reducible refine frame_ite ?_ ?_
    | simp only [↓outFrame_next, ↓frame_rfl, Nat.reduceOr, ↓frame_step reply_frame, ↓frame_step tellSlot_frame,
        ↓frame_step enableSlot_frame, ↓frame_step darkSlot_frame, ↓frame_step disableSlot_frame]
    | with_reducible refine Frame.trans (mailboxCmd_frame rfl (fun _ _ => ?_)) ?_
    | with_reducible refine frame_dite (fun _ => ?_) (fun _ => ?_)
theorem actSanitise_frame {a1 s} : Frame 991038010840 (actSanitise a1 s) s := by
  unfold actSanitise
  repeat' first
    | simp only [↓frame_mkM, ↓frame_rfl, Nat.reduceOr, ↓frame_step qReply_frame, ↓frame_step sanitiseBanks_frame, ↓frame_step sanSign_frame,
        ↓frame_step quorumDone_frame, ↓frame_step touch_frame, ↓frame_step sanPhase_frame]
    | with_reducible apply frame_mk <;> first | exact .inl rfl | exact .inr rfl | skip
    | split
theorem execSanitiseStart_frame {a1 a2 s} : OutFrame 995332978136 (execSanitiseStart a1 a2 s) s := by
  unfold execSanitiseStart
  repeat' first
    | simp only [↓outFrame_next, ↓frame_rfl, Nat.reduceOr, ↓frame_step actSanitise_frame]
    | with_reducible refine Frame.trans (quorumCmd_frame rfl (fun _ _ => ?_)) ?_
theorem execSanitiseStatus_frame {a1 s} : OutFrame 995331694728 (execSanitiseStatus a1 s) s := by
  unfold execSanitiseStatus
  repeat' first
    | simp only [↓outFrame_next, ↓frame_rfl, Nat.reduceOr, ↓frame_step reply_frame]
    | with_reducible refine Frame.trans (mailboxCmd_frame rfl (fun _ _ => ?_)) ?_
    | split
theorem execUopRelay_frame {a1 a2 a3 s} : OutFrame 995331932040 (execUopRelay a1 a2 a3 s) s := by
  unfold execUopRelay
  repeat' first
    | with_reducible refine frame_ite ?_ ?_
    | simp only [↓outFrame_next, ↓frame_mkM, ↓frame_rfl, Nat.reduceOr, ↓frame_step holdTag_frame, ↓frame_step runRelay_frame]
    | with_reducible refine Frame.trans (mailboxCmd_frame rfl (fun _ _ => ?_)) ?_
    | with_reducible apply frame_mk <;> first | exact .inl rfl | exact .inr rfl | skip
theorem relDone_frame {a1 a2 a3 s} : Frame 982413213824 (relDone a1 a2 a3 s) s := by
  unfold relDone
  repeat' first
    | with_reducible refine frame_ite ?_ ?_
    | simp only [↓frame_rfl, Nat.reduceOr, ↓frame_step qHeld_frame, ↓frame_step qReply_frame]
theorem actRelease_frame {a1 a2 a3 s} : Frame 991036963464 (actRelease a1 a2 a3 s) s := by
  unfold actRelease
  repeat' first
    | simp only [↓frame_rfl, Nat.reduceOr, ↓frame_step relDone_frame, ↓frame_step qHeld_frame, ↓frame_step quorumDone_frame,
        ↓frame_step addReceipt_frame, ↓frame_step appendEntry_frame, ↓frame_step recordObj_frame, ↓frame_step putLocks_frame,
        ↓frame_step sequence_frame, ↓frame_step changeBanks_frame, ↓frame_step hitchLock_frame]
    | with_reducible refine frame_elim ?_ (fun _ => ?_)
    | with_reducible refine frame_snd (by assumption) ?_
    | split
theorem execUopRelease_frame {a1 a2 a3 a4 s} : OutFrame 995331930776 (execUopRelease a1 a2 a3 a4 s) s := by
  unfold execUopRelease
  repeat' first
    | simp only [↓outFrame_next, ↓frame_rfl, Nat.reduceOr, ↓frame_step actRelease_frame]
    | with_reducible refine Frame.trans (quorumCmd_frame rfl (fun _ _ => ?_)) ?_

end Machine
end Sys2Proof
end

