-- ==== Sys2Proof/Laws/TimeFrame.lean ====
section
/-!
SUPPORT. What the definitions of Machine/Time.lean leave unchanged.
-/
namespace Sys2Proof
namespace Machine
set_option maxRecDepth 100000
set_option linter.unusedSimpArgs false

theorem selectGm_frame {s} : Frame 224 (selectGm s) s := by
  unfold selectGm
  repeat' first
    | with_reducible refine frame_ite ?_ ?_
    | simp only [↓frame_mkM, ↓frame_rfl]
    | with_reducible apply frame_mk <;> first | exact .inl rfl | exact .inr rfl | skip
    | split
theorem loseGm_frame {s} : Frame 128 (loseGm s) s := by
  unfold loseGm
  repeat' first
    | simp only [↓frame_mkM, ↓frame_rfl]
    | with_reducible apply frame_mk <;> first | exact .inl rfl | exact .inr rfl | skip
    | split
theorem trustAgain_frame {s} : Frame 224 (trustAgain s) s := by
  unfold trustAgain
  repeat' first
    | simp only [↓frame_mkM, ↓frame_rfl, Nat.reduceOr, ↓frame_step selectGm_frame]
    | with_reducible apply frame_mk <;> first | exact .inl rfl | exact .inr rfl | skip
theorem execPtpAnnounce_frame {a1 s} : OutFrame 224 (execPtpAnnounce a1 s) s := by
  unfold execPtpAnnounce
  repeat' first
    | with_reducible refine frame_oite ?_ ?_
    | simp only [↓outFrame_next, ↓frame_mkM, ↓frame_rfl, Nat.reduceOr, ↓frame_step selectGm_frame]
    | with_reducible apply frame_mk <;> first | exact .inl rfl | exact .inr rfl | skip
theorem disqualify_frame {a1 a2 s} : Frame 224 (disqualify a1 a2 s) s := by
  unfold disqualify
  repeat' first
    | with_reducible refine frame_ite ?_ ?_
    | simp only [↓frame_mkM, ↓frame_rfl, Nat.reduceOr, ↓frame_step selectGm_frame, ↓frame_step loseGm_frame]
    | with_reducible apply frame_mk <;> first | exact .inl rfl | exact .inr rfl | skip
    | split
theorem followPtp_frame {a1 a2 s} : Frame 156833415296 (followPtp a1 a2 s) s := by
  unfold followPtp
  repeat' first
    | with_reducible refine frame_ite ?_ ?_
    | simp only [↓frame_mkM, ↓frame_rfl, Nat.reduceOr, ↓frame_step raise_frame, ↓frame_step loseGm_frame]
    | with_reducible apply frame_mk <;> first | exact .inl rfl | exact .inr rfl | skip
theorem openTime_frame {s} : Frame 156833415296 (openTime s) s := by
  unfold openTime
  repeat' first
    | with_reducible refine frame_ite ?_ ?_
    | simp only [↓frame_mkM, ↓frame_rfl, Nat.reduceOr, ↓frame_step followPtp_frame]
    | with_reducible apply frame_mk <;> first | exact .inl rfl | exact .inr rfl | skip
    | split
theorem execPtpSync_frame {a1 a2 a3 a4 a5 s} : OutFrame 156833415392 (execPtpSync a1 a2 a3 a4 a5 s) s := by
  unfold execPtpSync
  repeat' first
    | with_reducible refine frame_oite ?_ ?_
    | simp only [↓outFrame_next, ↓frame_mkM, ↓frame_rfl, Nat.reduceOr, ↓frame_step disqualify_frame, ↓frame_step followPtp_frame]
    | with_reducible apply frame_mk <;> first | exact .inl rfl | exact .inr rfl | skip
theorem execDelayReqSend_frame {s} : OutFrame 139861426304 (execDelayReqSend s) s := by
  unfold execDelayReqSend
  repeat' first
    | with_reducible refine frame_oite ?_ ?_
    | simp only [↓outFrame_next, ↓frame_mkM, ↓frame_rfl, Nat.reduceOr, ↓frame_step transmit_frame]
    | with_reducible apply frame_mk <;> first | exact .inl rfl | exact .inr rfl | skip
theorem execDelayResp_frame {a1 a2 a3 a4 s} : OutFrame 128 (execDelayResp a1 a2 a3 a4 s) s := by
  unfold execDelayResp
  repeat' first
    | with_reducible refine frame_oite ?_ ?_
    | simp only [↓outFrame_next, ↓frame_mkM, ↓frame_rfl]
    | with_reducible apply frame_mk <;> first | exact .inl rfl | exact .inr rfl | skip
theorem execAnnounceReceiptTimeout_frame {s} : OutFrame 224 (execAnnounceReceiptTimeout s) s := by
  unfold execAnnounceReceiptTimeout
  repeat' first
    | with_reducible refine frame_oite ?_ ?_
    | simp only [↓outFrame_next, ↓frame_mkM, ↓frame_rfl, Nat.reduceOr, ↓frame_step selectGm_frame, ↓frame_step loseGm_frame]
    | with_reducible apply frame_mk <;> first | exact .inl rfl | exact .inr rfl | skip
    | split
theorem execPtpLockAchieved_frame {s} : OutFrame 128 (execPtpLockAchieved s) s := by
  unfold execPtpLockAchieved
  repeat' first
    | with_reducible refine frame_oite ?_ ?_
    | simp only [↓outFrame_next, ↓frame_mkM, ↓frame_rfl]
    | with_reducible apply frame_mk <;> first | exact .inl rfl | exact .inr rfl | skip
    | split
theorem execHoldoverLimit_frame {s} : OutFrame 156833415168 (execHoldoverLimit s) s := by
  unfold execHoldoverLimit
  repeat' first
    | with_reducible refine frame_oite ?_ ?_
    | simp only [↓outFrame_next, ↓frame_rfl, Nat.reduceOr, ↓frame_step raise_frame]
    | split
theorem execPpsEdge_frame {a1 a2 s} : OutFrame 156833415296 (execPpsEdge a1 a2 s) s := by
  unfold execPpsEdge
  repeat' first
    | with_reducible refine frame_oite ?_ ?_
    | simp only [↓outFrame_next, ↓frame_mkM, ↓frame_rfl, Nat.reduceOr, ↓frame_step raise_frame]
    | with_reducible apply frame_mk <;> first | exact .inl rfl | exact .inr rfl | skip
theorem execRef10mQualified_frame {a1 s} : OutFrame 128 (execRef10mQualified a1 s) s := by
  unfold execRef10mQualified
  repeat' first
    | with_reducible refine frame_oite ?_ ?_
    | simp only [↓outFrame_next, ↓frame_mkM, ↓frame_rfl]
    | with_reducible apply frame_mk <;> first | exact .inl rfl | exact .inr rfl | skip
theorem execRef10mLoss_frame {s} : OutFrame 156833415296 (execRef10mLoss s) s := by
  unfold execRef10mLoss
  repeat' first
    | with_reducible refine frame_oite ?_ ?_
    | simp only [↓outFrame_next, ↓frame_mkM, ↓frame_rfl, Nat.reduceOr, ↓frame_step raise_frame]
    | with_reducible apply frame_mk <;> first | exact .inl rfl | exact .inr rfl | skip
theorem execTimeChallenge_frame {a1 s} : OutFrame 995331694792 (execTimeChallenge a1 s) s := by
  unfold execTimeChallenge
  repeat' first
    | simp only [↓outFrame_next, ↓frame_mkM, ↓frame_rfl, Nat.reduceOr, ↓frame_step reply_frame, ↓frame_step drawDigest_frame]
    | with_reducible refine Frame.trans (mailboxCmd_frame rfl (fun _ _ => ?_)) ?_
    | with_reducible apply frame_mk <;> first | exact .inl rfl | exact .inr rfl | skip
    | with_reducible refine frame_snd (by assumption) ?_
    | split
theorem execAnchorAged_frame {s} : OutFrame 128 (execAnchorAged s) s := by
  unfold execAnchorAged
  repeat' first
    | with_reducible refine frame_oite ?_ ?_
    | simp only [↓outFrame_next, ↓frame_mkM, ↓frame_rfl]
    | with_reducible apply frame_mk <;> first | exact .inl rfl | exact .inr rfl | skip
theorem execCustodyPersist_frame {s} : OutFrame 128 (execCustodyPersist s) s := by
  unfold execCustodyPersist
  repeat' first
    | simp only [↓outFrame_next, ↓frame_mkM, ↓frame_rfl]
    | with_reducible apply frame_mk <;> first | exact .inl rfl | exact .inr rfl | skip

end Machine
end Sys2Proof
end

