-- ==== Sys2Proof/Laws/BootOpsFrame.lean ====
section
/-!
SUPPORT. What the definitions of Machine/BootOps.lean leave unchanged.
-/
namespace Sys2Proof
namespace Machine
set_option maxRecDepth 100000
set_option linter.unusedSimpArgs false

theorem setPhase_frame {a1 a2 s} : Frame 34359738368 (setPhase a1 a2 s) s := by
  unfold setPhase
  repeat' first
    | simp only [↓frame_mkM, ↓frame_rfl]
    | with_reducible apply frame_mk <;> first | exact .inl rfl | exact .inr rfl | skip
theorem startPhase_frame {a1 s} : Frame 34359738368 (startPhase a1 s) s := by
  unfold startPhase
  simp only [↓frame_rfl, Nat.reduceOr, ↓frame_step setPhase_frame]
theorem haltAs_frame {a1 s} : Frame 34359738368 (haltAs a1 s) s := by
  unfold haltAs
  repeat' first
    | simp only [↓frame_mkM, ↓frame_rfl]
    | with_reducible apply frame_mk <;> first | exact .inl rfl | exact .inr rfl | skip
theorem startDrives_frame {s} : Frame 38688260096 (startDrives s) s := by
  unfold startDrives
  repeat' first
    | simp only [↓frame_mkM, ↓frame_rfl, Nat.reduceOr, ↓frame_step enableSlot_frame, ↓frame_step startPhase_frame]
    | with_reducible apply frame_mk <;> first | exact .inl rfl | exact .inr rfl | skip
    | with_reducible refine frame_foldl (fun _ _ => ?_) ?_
theorem startPair_frame {s} : Frame 34493956096 (startPair s) s := by
  unfold startPair
  repeat' first
    | with_reducible refine frame_ite ?_ ?_
    | simp only [↓frame_mkM, ↓frame_rfl, Nat.reduceOr, ↓frame_step startPhase_frame, ↓frame_step setPhase_frame]
    | with_reducible apply frame_mk <;> first | exact .inl rfl | exact .inr rfl | skip
theorem afterConfig_frame {s} : Frame 195924328448 (afterConfig s) s := by
  unfold afterConfig
  repeat' first
    | with_reducible refine frame_ite ?_ ?_
    | simp only [↓frame_rfl, Nat.reduceOr, ↓frame_step startPhase_frame, ↓frame_step beginReeving_frame, ↓frame_step startPair_frame,
        ↓frame_step startDrives_frame]
theorem resumeConfig_frame {s} : Frame 195924328448 (resumeConfig s) s := by
  unfold resumeConfig
  repeat' first
    | with_reducible refine frame_ite ?_ ?_
    | simp only [↓frame_mkM, ↓frame_rfl, Nat.reduceOr, ↓frame_step afterConfig_frame]
    | with_reducible apply frame_mk <;> first | exact .inl rfl | exact .inr rfl | skip
theorem tryOpen_frame {s} : Frame 199783100544 (tryOpen s) s := by
  unfold tryOpen
  repeat' first
    | with_reducible refine frame_ite ?_ ?_
    | simp only [↓frame_mkM, ↓frame_rfl, Nat.reduceOr, ↓frame_step openTime_frame]
    | with_reducible apply frame_mk <;> first | exact .inl rfl | exact .inr rfl | skip
theorem afterDrivesAndPair_frame {s} : Frame 199783100544 (afterDrivesAndPair s) s := by
  unfold afterDrivesAndPair
  repeat' first
    | with_reducible refine frame_ite ?_ ?_
    | simp only [↓frame_rfl, Nat.reduceOr, ↓frame_step tryOpen_frame, ↓frame_step startPhase_frame]
theorem beginStart_frame {s} : Frame 34359738368 (beginStart s) s := by
  unfold beginStart
  repeat' first
    | simp only [↓frame_mkM, ↓frame_rfl]
    | with_reducible apply frame_mk <;> first | exact .inl rfl | exact .inr rfl | skip
theorem newCustodyKey_frame {s} : Frame 32768 (newCustodyKey s) s := by
  unfold newCustodyKey
  repeat' first
    | simp only [↓frame_mkM, ↓frame_rfl]
    | with_reducible apply frame_mk <;> first | exact .inl rfl | exact .inr rfl | skip

end Machine
end Sys2Proof
end

