-- ==== Sys2Proof/Laws/TransportInFrame.lean ====
section
/-!
SUPPORT. What the definitions of Machine/TransportIn.lean leave unchanged.
-/
namespace Sys2Proof
namespace Machine
set_option maxRecDepth 100000
set_option linter.unusedSimpArgs false

theorem authFail_frame {s} : Frame 2147483648 (authFail s) s := by
  unfold authFail
  simp only [↓frame_rfl, Nat.reduceOr, ↓frame_step bumpFigure_frame]
theorem countDrop_frame {a1 s} : Frame 1024 (countDrop a1 s) s := by
  unfold countDrop
  repeat' first
    | simp only [↓frame_mkM, ↓frame_rfl]
    | with_reducible apply frame_mk <;> first | exact .inl rfl | exact .inr rfl | skip
theorem bringIn_frame {a1 s} : Frame 262144 (bringIn a1 s) s := by
  unfold bringIn
  repeat' first
    | simp only [↓frame_rfl, Nat.reduceOr, ↓frame_step putCtx_frame]
    | split
theorem startFetch_frame {a1 s} : Frame 262144 (startFetch a1 s) s := by
  unfold startFetch
  repeat' first
    | with_reducible refine frame_ite ?_ ?_
    | simp only [↓frame_rfl, Nat.reduceOr, ↓frame_step putCtx_frame]
theorem holdPacket_some {a1 a2 a3 a4 s x} (h : holdPacket a1 a2 a3 a4 s = some x) : Frame 262144 x s := by
  unfold holdPacket at h
  dsimp only at h
  split at h
  · cases h
  · cases h
    refine (startFetch_frame.mono rfl).trans ?_
    rw [frame_mkM]; apply frame_mk <;> first | exact .inl rfl | exact .inr rfl | skip
    exact Frame.refl
theorem missDrop_frame {s} : Frame 156833415168 (missDrop s) s := by
  unfold missDrop
  simp only [↓frame_rfl, Nat.reduceOr, ↓frame_step raise_frame, ↓frame_step bumpFigure_frame]
theorem onDieOr_frame {w a1 a2 a3 a4 f5 s} (hw : 156833677312 ||| w = w) (h : ∀ n c s, Frame w (f5 n c s) s) : Frame w (onDieOr a1 a2 a3 a4 f5 s) s := by
  unfold onDieOr
  split
  · exact h _ _ _
  · cases e : holdPacket a1 a2 a3 a4 s with
    | none => exact missDrop_frame.mono (sub_trans rfl hw)
    | some x => exact (holdPacket_some e).mono (sub_trans rfl hw)
theorem passTag_frame {a1 a2 a3 a4 s} : Frame 8590196736 (passTag a1 a2 a3 a4 s) s := by
  unfold passTag
  repeat' first
    | simp only [↓frame_mkM, ↓frame_rfl, Nat.reduceOr, ↓frame_step putCtx_frame]
    | with_reducible apply frame_mk <;> first | exact .inl rfl | exact .inr rfl | skip
theorem sendAck_frame {a1 s} : Frame 139861426304 (sendAck a1 s) s := by
  unfold sendAck
  repeat' first
    | with_reducible refine frame_ite ?_ ?_
    | simp only [↓frame_rfl, Nat.reduceOr, ↓frame_step putCtx_frame, ↓frame_step sendCtl_frame]
    | split
theorem dueAck_frame {a1 s} : Frame 262144 (dueAck a1 s) s := by
  unfold dueAck
  repeat' first
    | simp only [↓frame_rfl, Nat.reduceOr, ↓frame_step putCtx_frame]
    | split
theorem paceAck_frame {a1 s} : Frame 139861426304 (paceAck a1 s) s := by
  unfold paceAck
  repeat' first
    | with_reducible refine frame_ite ?_ ?_
    | simp only [↓frame_rfl, Nat.reduceOr, ↓frame_step dueAck_frame, ↓frame_step sendAck_frame]
    | split
theorem sendNak_frame {a1 a2 s} : Frame 139861426304 (sendNak a1 a2 s) s := by
  unfold sendNak
  repeat' first
    | with_reducible refine frame_ite ?_ ?_
    | simp only [↓frame_rfl, Nat.reduceOr, ↓frame_step sendCtl_frame]
theorem resend_frame {a1 a2 a3 s} : Frame 139861426304 (resend a1 a2 a3 s) s := by
  unfold resend
  repeat' first
    | with_reducible refine frame_ite ?_ ?_
    | simp only [↓frame_rfl, Nat.reduceOr, ↓frame_step transmit_frame, ↓frame_step putCtx_frame, ↓frame_step espSend_frame]
    | with_reducible refine frame_snd (by assumption) ?_
    | split
theorem ccSignal_frame {a1 s} : Frame 262144 (ccSignal a1 s) s := by
  unfold ccSignal
  repeat' first
    | with_reducible refine frame_ite ?_ ?_
    | simp only [↓frame_rfl, Nat.reduceOr, ↓frame_step putCtx_frame]
    | split
theorem freeRun_frame {a1 s} : Frame 8 (freeRun a1 s).2 s := by
  unfold freeRun
  repeat' first
    | simp only [↓frame_mkM, ↓frame_rfl]
    | with_reducible apply frame_mk <;> first | exact .inl rfl | exact .inr rfl | skip
theorem takePush_frame {a1 a2 a3 a4 a5 s} : Frame 1572872 (takePush a1 a2 a3 a4 a5 s) s := by
  unfold takePush
  simp only [↓frame_rfl, Nat.reduceOr, ↓frame_step putRegion_frame, ↓frame_step landWrite_frame, ↓frame_step freeRun_frame]
theorem countRefused_frame {s} : Frame 156833415168 (countRefused s) s := by
  unfold countRefused
  simp only [↓frame_rfl, Nat.reduceOr, ↓frame_step raise_frame, ↓frame_step bumpFigure_frame]
theorem mirrorPush_frame {a1 a2 a3 s} : Frame 137573171200 (mirrorPush a1 a2 a3 s) s := by
  unfold mirrorPush
  repeat' first
    | with_reducible refine frame_ite ?_ ?_
    | simp only [↓frame_rfl, Nat.reduceOr, ↓frame_step mirrorSend_frame]
theorem endPush_frame {a1 a2 s} : Frame 1048576 (endPush a1 a2 s) s := by
  unfold endPush
  repeat' first
    | simp only [↓frame_mkM, ↓frame_rfl]
    | with_reducible apply frame_mk <;> first | exact .inl rfl | exact .inr rfl | skip
theorem refusalTurn_frame {a1 s} : Frame 432457322944 (refusalTurn a1 s) s := by
  unfold refusalTurn
  repeat' first
    | with_reducible refine frame_ite ?_ ?_
    | simp only [↓frame_rfl, Nat.reduceOr, ↓frame_step closeCtx_frame]
    | split
theorem mapIn_frame {a1 a2 a3 s} : Frame 262144 (mapIn a1 a2 a3 s) s := by
  unfold mapIn
  repeat' first
    | simp only [↓frame_rfl, Nat.reduceOr, ↓frame_step putCtx_frame]
    | split
theorem discardIn_frame {a1 a2 s} : Frame 1310720 (discardIn a1 a2 s) s := by
  unfold discardIn
  repeat' first
    | simp only [↓frame_rfl, Nat.reduceOr, ↓frame_step endPush_frame, ↓frame_step putCtx_frame]
    | with_reducible refine frame_foldl (fun _ _ => ?_) ?_
    | split
theorem startMsg_frame {a1 a2 a3 s} : Frame 156835250184 (startMsg a1 a2 a3 s) s := by
  unfold startMsg
  repeat' first
    | with_reducible refine frame_ite ?_ ?_
    | simp only [↓frame_mkM, ↓frame_rfl, Nat.reduceOr, ↓frame_step takePush_frame, ↓frame_step putCtx_frame, ↓frame_step countRefused_frame]
    | with_reducible apply frame_mk <;> first | exact .inl rfl | exact .inr rfl | skip
    | split
theorem joinMsg_frame {a1 a2 a3 s} : Frame 432457322944 (joinMsg a1 a2 a3 s) s := by
  unfold joinMsg
  repeat' first
    | with_reducible refine frame_ite ?_ ?_
    | simp only [↓frame_rfl, Nat.reduceOr, ↓frame_step refusalTurn_frame, ↓frame_step dueAck_frame, ↓frame_step putCtx_frame]
    | split
theorem openConn_frame {a1 a2 a3 s} : Frame 17716740096 (openConn a1 a2 a3 s) s := by
  unfold openConn
  repeat' first
    | simp only [↓frame_mkM, ↓frame_rfl, Nat.reduceOr, ↓frame_step putConn_frame]
    | with_reducible apply frame_mk <;> first | exact .inl rfl | exact .inr rfl | skip
    | split
theorem openSession_frame {a1 a2 a3 a4 a5 a6 a7 a8 s} : Frame 155157004288 (openSession a1 a2 a3 a4 a5 a6 a7 a8 s).2 s := by
  unfold openSession
  repeat' first
    | with_reducible refine frame_ite ?_ ?_
    | simp only [↓frame_rfl, Nat.reduceOr, ↓frame_step openConn_frame, ↓frame_step bringIn_frame, ↓frame_step allocCtx_frame]
    | split

end Machine
end Sys2Proof
end

