-- ==== Sys2Proof/Laws/TransportFrame.lean ====
section
/-!
SUPPORT. What the definitions of Machine/Transport.lean leave unchanged.
-/
namespace Sys2Proof
namespace Machine
set_option maxRecDepth 100000
set_option linter.unusedSimpArgs false

theorem phaseIn_frame {a1 a2 s} : Frame 137439215616 (phaseIn a1 a2 s) s := by
  unfold phaseIn
  repeat' first
    | with_reducible refine frame_ite ?_ ?_
    | simp only [↓frame_rfl, Nat.reduceOr, ↓frame_step mirrorCtx_frame, ↓frame_step putCtx_frame]
theorem ackIf_frame {a1 a2 s} : Frame 139861426304 (ackIf a1 a2 s) s := by
  unfold ackIf
  repeat' first
    | with_reducible refine frame_ite ?_ ?_
    | simp only [↓frame_rfl, Nat.reduceOr, ↓frame_step sendAck_frame]
theorem takeData_frame {a1 a2 a3 s} : Frame 432524956104 (takeData a1 a2 a3 s) s := by
  unfold takeData
  repeat' first
    | with_reducible refine frame_ite ?_ ?_
    | simp only [↓frame_rfl, Nat.reduceOr, ↓frame_step paceAck_frame, ↓frame_step sendNak_frame, ↓frame_step ackIf_frame,
        ↓frame_step joinMsg_frame, ↓frame_step bumpFigure_frame, ↓frame_step raise_frame, ↓frame_step startMsg_frame]
    | split
theorem dataIn_frame {a1 a2 a3 s} : Frame 441114891720 (dataIn a1 a2 a3 s) s := by
  unfold dataIn
  repeat' first
    | with_reducible refine frame_ite ?_ ?_
    | simp only [↓frame_rfl, Nat.reduceOr, ↓frame_step authFail_frame, ↓frame_step countDrop_frame, ↓frame_step takeData_frame,
        ↓frame_step putCtx_frame, ↓frame_step passTag_frame, ↓frame_step phaseIn_frame]
theorem ctlIn_frame {w a1 a2 f3 a4 s} (hw : 10737681408 ||| w = w) (h : ∀ n s, Frame w (f3 n s) s) : Frame w (ctlIn a1 a2 f3 a4 s) s := by
  unfold ctlIn
  repeat' first
    | with_reducible refine frame_ite ?_ ?_
    | simp only [↓frame_rfl, Nat.reduceOr, ↓frame_stepH hw authFail_frame, ↓frame_stepH hw countDrop_frame, ↓frame_stepH hw passTag_frame]
    | with_reducible refine Frame.trans (h _ _) ?_
theorem ackAct_frame {a1 a2 a3 a4 s} : Frame 139995644040 (ackAct a1 a2 a3 a4 s) s := by
  unfold ackAct
  repeat' first
    | with_reducible refine frame_ite ?_ ?_
    | simp only [↓frame_rfl, Nat.reduceOr, ↓frame_step ccSignal_frame, ↓frame_step takeAcks_frame]
theorem nakAct_frame {a1 a2 a3 s} : Frame 139861426304 (nakAct a1 a2 a3 s) s := by
  unfold nakAct
  repeat' first
    | simp only [↓frame_rfl, Nat.reduceOr, ↓frame_step resend_frame]
    | split
theorem statusReqAct_frame {a1 a2 s} : Frame 139862474880 (statusReqAct a1 a2 s) s := by
  unfold statusReqAct
  repeat' first
    | simp only [↓frame_rfl, Nat.reduceOr, ↓frame_step sendCtl_frame, ↓frame_step discardIn_frame]
    | split
theorem statusAct_frame {a1 a2 a3 a4 s} : Frame 139995644040 (statusAct a1 a2 a3 a4 s) s := by
  unfold statusAct
  repeat' first
    | simp only [↓frame_rfl, Nat.reduceOr, ↓frame_step launch_frame, ↓frame_step takeAcks_frame]
    | split
theorem closeAct_frame {a1 a2 s} : Frame 430035112256 (closeAct a1 a2 s) s := by
  unfold closeAct
  simp only [↓frame_rfl, Nat.reduceOr, ↓frame_step endCtxAt_frame]
theorem sendRoce_frame {a1 a2 a3 a4 a5 s} : Frame 139861426304 (sendRoce a1 a2 a3 a4 a5 s) s := by
  unfold sendRoce
  repeat' first
    | simp only [↓frame_rfl, Nat.reduceOr, ↓frame_step transmit_frame, ↓frame_step espSend_frame]
    | with_reducible refine frame_snd (by assumption) ?_
    | split
theorem qpNak_frame {a1 a2 s} : Frame 432457322944 (qpNak a1 a2 s) s := by
  unfold qpNak
  simp only [↓frame_rfl, Nat.reduceOr, ↓frame_step endCtx_frame, ↓frame_step sendRoce_frame]
theorem qpAck_frame {a1 s} : Frame 139861426304 (qpAck a1 s) s := by
  unfold qpAck
  repeat' first
    | with_reducible refine frame_ite ?_ ?_
    | simp only [↓frame_rfl, Nat.reduceOr, ↓frame_step putCtx_frame, ↓frame_step sendRoce_frame]
    | split
theorem qpWhole_frame {a1 a2 s} : Frame 432659173824 (qpWhole a1 a2 s) s := by
  unfold qpWhole
  repeat' first
    | with_reducible refine frame_ite ?_ ?_
    | simp only [↓frame_rfl, Nat.reduceOr, ↓frame_step qpNak_frame, ↓frame_step qpAck_frame, ↓frame_step sendRoce_frame,
        ↓frame_step notify_frame, ↓frame_step mirrorPush_frame, ↓frame_step endPush_frame, ↓frame_step landWrite_frame]
    | split
theorem qpRequest_frame {a1 a2 a3 s} : Frame 432659173832 (qpRequest a1 a2 a3 s) s := by
  unfold qpRequest
  repeat' first
    | with_reducible refine frame_ite ?_ ?_
    | simp only [↓frame_rfl, Nat.reduceOr, ↓frame_step putCtx_frame, ↓frame_step qpWhole_frame, ↓frame_step qpNak_frame,
        ↓frame_step countRefused_frame, ↓frame_step takePush_frame]
    | split
theorem qpAgain_frame {a1 s} : Frame 139861426304 (qpAgain a1 s) s := by
  unfold qpAgain
  repeat' first
    | simp only [↓frame_rfl, Nat.reduceOr, ↓frame_step resend_frame]
    | with_reducible refine frame_foldl (fun _ _ => ?_) ?_
    | split
theorem qpRetry_frame {a1 s} : Frame 432457322944 (qpRetry a1 s) s := by
  unfold qpRetry
  repeat' first
    | with_reducible refine frame_ite ?_ ?_
    | simp only [↓frame_rfl, Nat.reduceOr, ↓frame_step endCtx_frame, ↓frame_step qpAgain_frame, ↓frame_step putCtx_frame]
    | split
theorem qpAcked_frame {a1 a2 s} : Frame 139995644032 (qpAcked a1 a2 s) s := by
  unfold qpAcked
  simp only [↓frame_rfl, Nat.reduceOr, ↓frame_step pumpOut_frame, ↓frame_step mirrorRetire_frame, ↓frame_step putCtx_frame]
theorem qpMarked_frame {a1 a2 s} : Frame 139861426304 (qpMarked a1 a2 s) s := by
  unfold qpMarked
  repeat' first
    | with_reducible refine frame_ite ?_ ?_
    | simp only [↓frame_rfl, Nat.reduceOr, ↓frame_step sendRoce_frame, ↓frame_step putCtx_frame]
    | split
theorem newSa_frame {a1 a2 s} : Frame 262144 (newSa a1 a2 s) s := by
  unfold newSa
  repeat' first
    | with_reducible refine frame_ite ?_ ?_
    | simp only [↓frame_rfl, Nat.reduceOr, ↓frame_step putCtx_frame]
    | split
theorem espAccept_frame {a1 a2 a3 s} : Frame 262144 (espAccept a1 a2 a3 s) s := by
  unfold espAccept
  repeat' first
    | with_reducible refine frame_ite ?_ ?_
    | simp only [↓frame_rfl, Nat.reduceOr, ↓frame_step putCtx_frame]
    | split
theorem roceIn_frame {a1 a2 a3 s} : Frame 441249109448 (roceIn a1 a2 a3 s) s := by
  unfold roceIn
  repeat' first
    | with_reducible refine frame_ite ?_ ?_
    | simp only [↓frame_rfl, Nat.reduceOr, ↓frame_step countDrop_frame, ↓frame_step qpRequest_frame, ↓frame_step qpMarked_frame,
        ↓frame_step passTag_frame, ↓frame_step sendRoce_frame, ↓frame_step qpAcked_frame, ↓frame_step endCtx_frame,
        ↓frame_step qpAgain_frame, ↓frame_step putCtx_frame, ↓frame_step qpRetry_frame]
    | split
theorem handlePacket_frame {a1 a2 a3 s} : Frame 441249109448 (handlePacket a1 a2 a3 s) s := by
  unfold handlePacket
  repeat' first
    | simp only [↓frame_rfl, Nat.reduceOr, ↓frame_step dataIn_frame, ↓frame_step ackAct_frame, ↓frame_step nakAct_frame,
        ↓frame_step statusReqAct_frame, ↓frame_step statusAct_frame, ↓frame_step closeAct_frame, ↓frame_step roceIn_frame]
    | with_reducible refine Frame.trans (ctlIn_frame rfl (fun _ _ => ?_)) ?_
    | split
theorem bryndleIn_frame {a1 a2 a3 a4 a5 a6 s} : Frame 441249109448 (bryndleIn a1 a2 a3 a4 a5 a6 s) s := by
  unfold bryndleIn
  repeat' first
    | with_reducible refine frame_ite ?_ ?_
    | simp only [↓frame_rfl, Nat.reduceOr, ↓frame_step handlePacket_frame, ↓frame_step authFail_frame]
    | with_reducible refine Frame.trans (onDieOr_frame rfl (fun _ _ _ => ?_)) ?_
    | split
theorem ctlArrive_frame {a1 a2 s} : Frame 441249109448 (ctlArrive a1 a2 s) s := by
  unfold ctlArrive
  simp only [↓frame_rfl, Nat.reduceOr, ↓frame_step bryndleIn_frame]
theorem execDataPacket_frame {a1 s} : OutFrame 441249109448 (execDataPacket a1 s) s := by
  unfold execDataPacket
  repeat' first
    | with_reducible refine frame_ite ?_ ?_
    | simp only [↓outFrame_next, ↓frame_rfl, Nat.reduceOr, ↓frame_step dueAck_frame, ↓frame_step bryndleIn_frame]
    | split
theorem execAck_frame {a1 a2 a3 a4 s} : OutFrame 441249109448 (execAck a1 a2 a3 a4 s) s := by
  unfold execAck
  simp only [↓outFrame_next, ↓frame_rfl, Nat.reduceOr, ↓frame_step ctlArrive_frame]
theorem execNak_frame {a1 a2 a3 s} : OutFrame 441249109448 (execNak a1 a2 a3 s) s := by
  unfold execNak
  simp only [↓outFrame_next, ↓frame_rfl, Nat.reduceOr, ↓frame_step ctlArrive_frame]
theorem execStatusReq_frame {a1 a2 s} : OutFrame 441249109448 (execStatusReq a1 a2 s) s := by
  unfold execStatusReq
  simp only [↓outFrame_next, ↓frame_rfl, Nat.reduceOr, ↓frame_step ctlArrive_frame]
theorem execStatus_frame {a1 a2 a3 a4 s} : OutFrame 441249109448 (execStatus a1 a2 a3 a4 s) s := by
  unfold execStatus
  simp only [↓outFrame_next, ↓frame_rfl, Nat.reduceOr, ↓frame_step ctlArrive_frame]
theorem execClose_frame {a1 a2 s} : OutFrame 441249109448 (execClose a1 a2 s) s := by
  unfold execClose
  simp only [↓outFrame_next, ↓frame_rfl, Nat.reduceOr, ↓frame_step ctlArrive_frame]
theorem execRocePacket_frame {a1 s} : OutFrame 441249109448 (execRocePacket a1 s) s := by
  unfold execRocePacket
  simp only [↓outFrame_next]
  repeat' first
    | exact ((holdPacket_some (by assumption)).mono rfl).trans ((newSa_frame.mono rfl).trans (espAccept_frame.mono rfl))
    | simp only [↓frame_mkM, ↓frame_rfl, Nat.reduceOr, ↓frame_step authFail_frame, ↓frame_step newSa_frame, ↓frame_step espAccept_frame, ↓frame_step missDrop_frame,
        ↓frame_step raise_frame, ↓frame_step roceIn_frame]
    | with_reducible apply frame_mk <;> first | exact .inl rfl | exact .inr rfl | skip
    | split
theorem deliver_frame {w a1 a2 a3 f4 s} (hw : 432457322944 ||| w = w) (h : ∀ n a s, Frame w (f4 n a s) s) : Frame w (deliver a1 a2 a3 f4 s) s := by
  unfold deliver
  repeat' first
    | simp only [↓frame_rfl, Nat.reduceOr, ↓frame_stepH hw refusalTurn_frame, ↓frame_stepH hw dueAck_frame, ↓frame_stepH hw putCtx_frame]
    | with_reducible refine Frame.trans (h _ _ _) ?_
    | split
theorem placeWrite_frame {a1 a2 s} : Frame 137574744064 (placeWrite a1 a2 s) s := by
  unfold placeWrite
  repeat' first
    | simp only [↓frame_rfl, Nat.reduceOr, ↓frame_step mirrorPush_frame, ↓frame_step endPush_frame, ↓frame_step landWrite_frame]
    | split
theorem execSend_frame {a1 a2 s} : OutFrame 432457322944 (execSend a1 a2 s) s := by
  unfold execSend
  repeat' first
    | simp only [↓outFrame_next, ↓frame_rfl]
    | with_reducible refine Frame.trans (deliver_frame rfl (fun _ _ _ => ?_)) ?_
theorem execWrite_frame {a1 a2 s} : OutFrame 432592064960 (execWrite a1 a2 s) s := by
  unfold execWrite
  repeat' first
    | simp only [↓outFrame_next, ↓frame_rfl, Nat.reduceOr, ↓frame_step placeWrite_frame]
    | with_reducible refine Frame.trans (deliver_frame rfl (fun _ _ _ => ?_)) ?_
theorem execWriteImm_frame {a1 a2 s} : OutFrame 432659173824 (execWriteImm a1 a2 s) s := by
  unfold execWriteImm
  repeat' first
    | simp only [↓outFrame_next, ↓frame_rfl, Nat.reduceOr, ↓frame_step notify_frame, ↓frame_step placeWrite_frame]
    | with_reducible refine Frame.trans (deliver_frame rfl (fun _ _ _ => ?_)) ?_
    | split
theorem execReadReq_frame {a1 a2 s} : OutFrame 432591540680 (execReadReq a1 a2 s) s := by
  unfold execReadReq
  repeat' first
    | with_reducible refine frame_ite ?_ ?_
    | simp only [↓outFrame_next, ↓frame_rfl, Nat.reduceOr, ↓frame_step sendOn_frame, ↓frame_step freeRun_frame]
    | with_reducible refine Frame.trans (deliver_frame rfl (fun _ _ _ => ?_)) ?_
theorem execReadResp_frame {a1 a2 s} : OutFrame 432457322944 (execReadResp a1 a2 s) s := by
  unfold execReadResp
  repeat' first
    | simp only [↓outFrame_next, ↓frame_rfl]
    | with_reducible refine Frame.trans (deliver_frame rfl (fun _ _ _ => ?_)) ?_
theorem execContextFetchComplete_frame {a1 s} : OutFrame 441249109448 (execContextFetchComplete a1 s) s := by
  unfold execContextFetchComplete
  repeat' first
    | simp only [↓outFrame_next, ↓frame_mkM, ↓frame_rfl, Nat.reduceOr, ↓frame_step sendRoce_frame, ↓frame_step handlePacket_frame,
        ↓frame_step authFail_frame, ↓frame_step bringIn_frame]
    | with_reducible apply frame_mk <;> first | exact .inl rfl | exact .inr rfl | skip
    | with_reducible refine frame_foldl (fun _ _ => ?_) ?_
    | split
theorem execContextEvict_frame {s} : OutFrame 262144 (execContextEvict s) s := by
  unfold execContextEvict
  repeat' first
    | with_reducible refine frame_ite ?_ ?_
    | simp only [↓outFrame_next, ↓frame_mkM, ↓frame_rfl, Nat.reduceOr, ↓frame_step putCtx_frame]
    | with_reducible apply frame_mk <;> first | exact .inl rfl | exact .inr rfl | skip
    | split
theorem ctxTimer_frame {w a1 f2 s} (hw : 262144 ||| w = w) (h : ∀ n s, Frame w (f2 n s) s) : Frame w (ctxTimer a1 f2 s) s := by
  unfold ctxTimer
  repeat' first
    | with_reducible refine frame_ite ?_ ?_
    | simp only [↓frame_rfl, Nat.reduceOr, ↓frame_stepH hw startFetch_frame]
    | with_reducible refine Frame.trans (h _ _) ?_
    | split
theorem execSeenEntryExpiry_frame {a1 a2 s} : OutFrame 262144 (execSeenEntryExpiry a1 a2 s) s := by
  unfold execSeenEntryExpiry
  repeat' first
    | with_reducible refine frame_ite ?_ ?_
    | simp only [↓outFrame_next, ↓frame_mkM, ↓frame_rfl]
    | with_reducible apply frame_mk <;> first | exact .inl rfl | exact .inr rfl | skip
theorem execReassemblyExpiry_frame {a1 a2 s} : OutFrame 1310720 (execReassemblyExpiry a1 a2 s) s := by
  unfold execReassemblyExpiry
  repeat' first
    | with_reducible refine frame_ite ?_ ?_
    | simp only [↓outFrame_next, ↓frame_rfl, Nat.reduceOr, ↓frame_step discardIn_frame]
    | with_reducible refine Frame.trans (ctxTimer_frame rfl (fun _ _ => ?_)) ?_
theorem execAckDelayTimer_frame {a1 s} : OutFrame 139861426304 (execAckDelayTimer a1 s) s := by
  unfold execAckDelayTimer
  repeat' first
    | with_reducible refine frame_ite ?_ ?_
    | simp only [↓outFrame_next, ↓frame_rfl, Nat.reduceOr, ↓frame_step sendAck_frame]
    | with_reducible refine Frame.trans (ctxTimer_frame rfl (fun _ _ => ?_)) ?_
theorem execNakDelayTimer_frame {a1 a2 s} : OutFrame 139861426304 (execNakDelayTimer a1 a2 s) s := by
  unfold execNakDelayTimer
  repeat' first
    | simp only [↓outFrame_next, ↓frame_rfl, Nat.reduceOr, ↓frame_step mapIn_frame, ↓frame_step sendNak_frame]
    | with_reducible refine Frame.trans (ctxTimer_frame rfl (fun _ _ => ?_)) ?_
    | split
theorem execRetransmitTimeout_frame {a1 s} : OutFrame 139861426304 (execRetransmitTimeout a1 s) s := by
  unfold execRetransmitTimeout
  repeat' first
    | with_reducible refine frame_ite ?_ ?_
    | simp only [↓outFrame_next, ↓frame_rfl, Nat.reduceOr, ↓frame_step resend_frame, ↓frame_step putCtx_frame]
    | with_reducible refine Frame.trans (ctxTimer_frame rfl (fun _ _ => ?_)) ?_
    | with_reducible refine frame_foldl (fun _ _ => ?_) ?_
theorem execMessageAgeTimeout_frame {a1 a2 s} : OutFrame 139861426304 (execMessageAgeTimeout a1 a2 s) s := by
  unfold execMessageAgeTimeout
  repeat' first
    | with_reducible refine frame_ite ?_ ?_
    | simp only [↓outFrame_next, ↓frame_rfl, Nat.reduceOr, ↓frame_step sendCtl_frame, ↓frame_step putCtx_frame]
    | with_reducible refine Frame.trans (ctxTimer_frame rfl (fun _ _ => ?_)) ?_
theorem execDeadTimeExpiry_frame {a1 s} : OutFrame 432524431808 (execDeadTimeExpiry a1 s) s := by
  unfold execDeadTimeExpiry
  repeat' first
    | with_reducible refine frame_ite ?_ ?_
    | simp only [↓outFrame_next, ↓frame_rfl, Nat.reduceOr, ↓frame_step closeCtx_frame, ↓frame_step raise_frame]
    | with_reducible refine Frame.trans (ctxTimer_frame rfl (fun _ _ => ?_)) ?_
theorem execKeyPhaseChange_frame {a1 s} : OutFrame 137439215616 (execKeyPhaseChange a1 s) s := by
  unfold execKeyPhaseChange
  repeat' first
    | with_reducible refine frame_ite ?_ ?_
    | simp only [↓outFrame_next, ↓frame_rfl, Nat.reduceOr, ↓frame_step mirrorCtx_frame, ↓frame_step putCtx_frame]
    | with_reducible refine Frame.trans (ctxTimer_frame rfl (fun _ _ => ?_)) ?_
theorem execOldKeyExpiry_frame {a1 s} : OutFrame 262144 (execOldKeyExpiry a1 s) s := by
  unfold execOldKeyExpiry
  repeat' first
    | with_reducible refine frame_ite ?_ ?_
    | simp only [↓outFrame_next, ↓frame_rfl, Nat.reduceOr, ↓frame_step putCtx_frame]
    | with_reducible refine Frame.trans (ctxTimer_frame rfl (fun _ _ => ?_)) ?_
theorem execSaRekey_frame {a1 s} : OutFrame 139861426312 (execSaRekey a1 s) s := by
  unfold execSaRekey
  repeat' first
    | with_reducible refine frame_ite ?_ ?_
    | simp only [↓outFrame_next, ↓frame_rfl, Nat.reduceOr, ↓frame_step sendCtl_frame, ↓frame_step putCtx_frame,
        ↓frame_step drawDigest_frame]
    | with_reducible refine Frame.trans (ctxTimer_frame rfl (fun _ _ => ?_)) ?_
theorem execOldSaExpiry_frame {a1 s} : OutFrame 262144 (execOldSaExpiry a1 s) s := by
  unfold execOldSaExpiry
  repeat' first
    | with_reducible refine frame_ite ?_ ?_
    | simp only [↓outFrame_next, ↓frame_rfl, Nat.reduceOr, ↓frame_step putCtx_frame]
    | with_reducible refine Frame.trans (ctxTimer_frame rfl (fun _ _ => ?_)) ?_
theorem execRoceAckTimeout_frame {a1 s} : OutFrame 432457322944 (execRoceAckTimeout a1 s) s := by
  unfold execRoceAckTimeout
  repeat' first
    | with_reducible refine frame_ite ?_ ?_
    | simp only [↓outFrame_next, ↓frame_rfl, Nat.reduceOr, ↓frame_step qpRetry_frame]
    | with_reducible refine Frame.trans (ctxTimer_frame rfl (fun _ _ => ?_)) ?_
theorem execCnp_frame {a1 s} : OutFrame 262144 (execCnp a1 s) s := by
  unfold execCnp
  repeat' first
    | with_reducible refine frame_ite ?_ ?_
    | simp only [↓outFrame_next, ↓frame_rfl, Nat.reduceOr, ↓frame_step ccSignal_frame]
theorem execCcRecoverTimer_frame {a1 s} : OutFrame 262144 (execCcRecoverTimer a1 s) s := by
  unfold execCcRecoverTimer
  repeat' first
    | simp only [↓outFrame_next, ↓frame_rfl, Nat.reduceOr, ↓frame_step putCtx_frame]
    | split
theorem sendSetup_frame {a1 a2 a3 a4 a5 a6 s} : Frame 139861426304 (sendSetup a1 a2 a3 a4 a5 a6 s) s := by
  unfold sendSetup
  simp only [↓frame_rfl, Nat.reduceOr, ↓frame_step transmit_frame]
theorem refuseInit_frame {a1 a2 s} : Frame 139861426304 (refuseInit a1 a2 s) s := by
  unfold refuseInit
  simp only [↓frame_rfl, Nat.reduceOr, ↓frame_step sendSetup_frame]
theorem setupAnswer_frame {a1 a2 s} : Frame 8 (setupAnswer a1 a2 s).2.2.2 s := by
  unfold setupAnswer
  repeat' first
    | simp only [↓frame_rfl, Nat.reduceOr, ↓frame_step draw_frame, ↓frame_step drawDigest_frame]
    | with_reducible refine frame_snd (by assumption) ?_
    | split
theorem execSetupInit_frame {a1 s} : OutFrame 157108404360 (execSetupInit a1 s) s := by
  unfold execSetupInit
  repeat' first
    | with_reducible refine frame_ite ?_ ?_
    | simp only [↓outFrame_next, ↓frame_mkM, ↓frame_rfl, Nat.reduceOr, ↓frame_step authFail_frame, ↓frame_step refuseInit_frame,
        ↓frame_step raise_frame, ↓frame_step sendSetup_frame, ↓frame_step setupAnswer_frame]
    | with_reducible apply frame_mk <;> first | exact .inl rfl | exact .inr rfl | skip
    | split
theorem landingFlag_frame {a1 s} : Frame 156833415168 (landingFlag a1 s) s := by
  unfold landingFlag
  repeat' first
    | with_reducible refine frame_ite ?_ ?_
    | simp only [↓frame_rfl, Nat.reduceOr, ↓frame_step raise_frame]
theorem sendDone_frame {a1 a2 a3 s} : Frame 139861426304 (sendDone a1 a2 a3 s) s := by
  unfold sendDone
  simp only [↓frame_rfl, Nat.reduceOr, ↓frame_step sendSetup_frame]
theorem authSession_frame {a1 a2 a3 s} : Frame 155157004288 (authSession a1 a2 a3 s).2 s := by
  unfold authSession
  simp only [↓frame_rfl, Nat.reduceOr, ↓frame_step openSession_frame]
theorem execSetupAuth_frame {a1 s} : OutFrame 157646324864 (execSetupAuth a1 s) s := by
  unfold execSetupAuth
  repeat' first
    | with_reducible refine frame_ite ?_ ?_
    | simp only [↓outFrame_next, ↓frame_mkM, ↓frame_rfl, Nat.reduceOr, ↓frame_step authFail_frame, ↓frame_step sendDone_frame,
        ↓frame_step landingFlag_frame, ↓frame_step countDrop_frame, ↓frame_step authSession_frame]
    | with_reducible apply frame_mk <;> first | exact .inl rfl | exact .inr rfl | skip
    | with_reducible refine frame_snd (by assumption) ?_
    | split
theorem childSession_frame {a1 a2 a3 a4 a5 a6 a7 s} : Frame 155157004288 (childSession a1 a2 a3 a4 a5 a6 a7 s).2 s := by
  unfold childSession
  simp only [↓frame_rfl, Nat.reduceOr, ↓frame_step openSession_frame]
theorem execSetupChild_frame {a1 a2 a3 a4 a5 a6 s} : OutFrame 157646323848 (execSetupChild a1 a2 a3 a4 a5 a6 s) s := by
  unfold execSetupChild
  repeat' first
    | simp only [↓outFrame_next, ↓frame_rfl, Nat.reduceOr, ↓frame_step sendCtl_frame, ↓frame_step landingFlag_frame,
        ↓frame_step childSession_frame, ↓frame_step drawDigest_frame]
    | with_reducible refine frame_snd (by assumption) ?_
    | split
theorem execSetupChildDone_frame {a1 a2 a3 a4 a5 a6 s} : OutFrame 137439215616 (execSetupChildDone a1 a2 a3 a4 a5 a6 s) s := by
  unfold execSetupChildDone
  repeat' first
    | with_reducible refine frame_ite ?_ ?_
    | simp only [↓outFrame_next, ↓frame_rfl, Nat.reduceOr, ↓frame_step mirrorCtx_frame, ↓frame_step putCtx_frame]
    | with_reducible refine Frame.trans (ctxTimer_frame rfl (fun _ _ => ?_)) ?_
theorem execSetupTimeout_frame {a1 s} : OutFrame 262144 (execSetupTimeout a1 s) s := by
  unfold execSetupTimeout
  repeat' first
    | simp only [↓outFrame_next, ↓frame_mkM, ↓frame_rfl]
    | with_reducible apply frame_mk <;> first | exact .inl rfl | exact .inr rfl | skip
theorem execRdmaCm_frame {a1 a2 a3 s} : OutFrame 157646323840 (execRdmaCm a1 a2 a3 s) s := by
  unfold execRdmaCm
  repeat' first
    | with_reducible refine frame_ite ?_ ?_
    | simp only [↓outFrame_next, ↓frame_rfl, Nat.reduceOr, ↓frame_step sendRoce_frame, ↓frame_step landingFlag_frame,
        ↓frame_step openSession_frame]
    | with_reducible refine frame_snd (by assumption) ?_
    | split

end Machine
end Sys2Proof
end

