-- ==== Sys2Proof/Laws/HitchFrame.lean ====
section
/-!
SUPPORT. What the definitions of Machine/Hitch.lean leave unchanged.
-/
namespace Sys2Proof
namespace Machine
set_option maxRecDepth 100000
set_option linter.unusedSimpArgs false

theorem hitchVault_frame {a1 s} : Frame 137438961680 (hitchVault a1 s) s := by
  unfold hitchVault
  simp only [↓frame_rfl, Nat.reduceOr, ↓frame_step tellHitch_frame, ↓frame_step touch_frame]
theorem actHitchOpen_frame {a1 a2 s} : Frame 991036956824 (actHitchOpen a1 a2 s) s := by
  unfold actHitchOpen
  repeat' first
    | simp only [↓frame_rfl, Nat.reduceOr, ↓frame_step qReply_frame, ↓frame_step quorumDone_frame, ↓frame_step hitchVault_frame,
        ↓frame_step putHitch_frame, ↓frame_step enter_frame]
    | split
theorem execHitchOpen_frame {a1 a2 a3 s} : OutFrame 995331924120 (execHitchOpen a1 a2 a3 s) s := by
  unfold execHitchOpen
  repeat' first
    | simp only [↓outFrame_next, ↓frame_rfl, Nat.reduceOr, ↓frame_step actHitchOpen_frame]
    | with_reducible refine Frame.trans (quorumCmd_frame rfl (fun _ _ => ?_)) ?_
theorem closeToWrites_frame {a1 s} : Frame 10240 (closeToWrites a1 s) s := by
  unfold closeToWrites
  repeat' first
    | simp only [↓frame_mkM, ↓frame_rfl, Nat.reduceOr, ↓frame_step sequence_frame]
    | with_reducible apply frame_mk <;> first | exact .inl rfl | exact .inr rfl | skip
    | with_reducible refine frame_snd (by assumption) ?_
    | split
theorem actHitchClose_frame {a1 a2 s} : Frame 991036958872 (actHitchClose a1 a2 s) s := by
  unfold actHitchClose
  repeat' first
    | with_reducible refine frame_ite ?_ ?_
    | simp only [↓frame_rfl, Nat.reduceOr, ↓frame_step qReply_frame, ↓frame_step quorumDone_frame, ↓frame_step hitchVault_frame,
        ↓frame_step mapHitch_frame, ↓frame_step changeBanks_frame, ↓frame_step closeToWrites_frame]
    | with_reducible refine frame_foldl (fun _ _ => ?_) ?_
    | split
theorem execHitchClose_frame {a1 a2 a3 s} : OutFrame 995331926168 (execHitchClose a1 a2 a3 s) s := by
  unfold execHitchClose
  repeat' first
    | simp only [↓outFrame_next, ↓frame_rfl, Nat.reduceOr, ↓frame_step actHitchClose_frame]
    | with_reducible refine Frame.trans (quorumCmd_frame rfl (fun _ _ => ?_)) ?_
theorem actHitchAbort_frame {a1 a2 s} : Frame 991038012376 (actHitchAbort a1 a2 s) s := by
  unfold actHitchAbort
  repeat' first
    | with_reducible refine frame_ite ?_ ?_
    | simp only [↓frame_rfl, Nat.reduceOr, ↓frame_step qReply_frame, ↓frame_step quorumDone_frame, ↓frame_step hitchVault_frame,
        ↓frame_step abortHitch_frame]
theorem execHitchAbort_frame {a1 a2 a3 s} : OutFrame 995332979672 (execHitchAbort a1 a2 a3 s) s := by
  unfold execHitchAbort
  repeat' first
    | simp only [↓outFrame_next, ↓frame_rfl, Nat.reduceOr, ↓frame_step actHitchAbort_frame]
    | with_reducible refine Frame.trans (quorumCmd_frame rfl (fun _ _ => ?_)) ?_
theorem execHitchStatus_frame {a1 a2 s} : OutFrame 995331694728 (execHitchStatus a1 a2 s) s := by
  unfold execHitchStatus
  repeat' first
    | simp only [↓outFrame_next, ↓frame_rfl, Nat.reduceOr, ↓frame_step reply_frame]
    | with_reducible refine Frame.trans (mailboxCmd_frame rfl (fun _ _ => ?_)) ?_
    | split
theorem sendHello_frame {a1 s} : Frame 139995775104 (sendHello a1 s) s := by
  unfold sendHello
  repeat' first
    | simp only [↓frame_rfl, Nat.reduceOr, ↓frame_step sendMyavo_frame]
    | split
theorem waitSuspended_frame {a1 s} : Frame 1179648 (waitSuspended a1 s) s := by
  unfold waitSuspended
  simp only [↓frame_rfl, Nat.reduceOr, ↓frame_step mapHitch_frame, ↓frame_step suspendHitch_frame]
theorem afterHello_frame {a1 s} : Frame 139996823680 (afterHello a1 s) s := by
  unfold afterHello
  repeat' first
    | with_reducible refine frame_ite ?_ ?_
    | simp only [↓frame_rfl, Nat.reduceOr, ↓frame_step waitSuspended_frame, ↓frame_step sendMyavo_frame]
    | split
theorem myavoIn_frame {w a1 f2 s} (hw : 432457322944 ||| w = w) (h : ∀ n s, Frame w (f2 n s) s) : Frame w (myavoIn a1 f2 s) s := by
  unfold myavoIn
  repeat' first
    | with_reducible refine frame_ite ?_ ?_
    | simp only [↓frame_rfl, Nat.reduceOr, ↓frame_stepH hw closeCtx_frame, ↓frame_stepH hw tellSeq_frame, ↓frame_stepH hw putHitch_frame]
    | with_reducible refine Frame.trans (h _ _) ?_
    | split
theorem takeHello_frame {a1 a2 a3 a4 s} : Frame 432591548880 (takeHello a1 a2 a3 a4 s) s := by
  unfold takeHello
  repeat' first
    | with_reducible refine frame_ite ?_ ?_
    | simp only [↓frame_rfl, Nat.reduceOr, ↓frame_step hitchVault_frame, ↓frame_step afterHello_frame, ↓frame_step mapHitch_frame,
        ↓frame_step putCtx_frame, ↓frame_step closeCtx_frame, ↓frame_step sendHello_frame]
    | split
theorem execHello_frame {a1 a2 s} : OutFrame 432591548880 (execHello a1 a2 s) s := by
  unfold execHello
  repeat' first
    | with_reducible refine frame_ite ?_ ?_
    | simp only [↓outFrame_next, ↓frame_rfl, Nat.reduceOr, ↓frame_step closeCtx_frame, ↓frame_step takeHello_frame]
    | split
theorem createScoped_frame {a1 a2 s} : Frame 157276371592 (createScoped a1 a2 s) s := by
  unfold createScoped
  repeat' first
    | simp only [↓frame_mkM, ↓frame_rfl, Nat.reduceOr, ↓frame_step mapHitch_frame, ↓frame_step setCrossed_frame,
        ↓frame_step containerEntry_frame, ↓frame_step changeBanks_frame, ↓frame_step sequence_frame, ↓frame_step drawColl_frame]
    | with_reducible apply frame_mk <;> first | exact .inl rfl | exact .inr rfl | skip
    | with_reducible refine frame_foldl (fun _ _ => ?_) ?_
    | split
theorem goOn_frame {a1 s} : Frame 157243801728 (goOn a1 s) s := by
  unfold goOn
  repeat' first
    | with_reducible refine frame_ite ?_ ?_
    | simp only [↓frame_rfl, Nat.reduceOr, ↓frame_step sendComplete_frame, ↓frame_step startStreaming_frame]
    | split
theorem streamOrWait_frame {a1 s} : Frame 157243801728 (streamOrWait a1 s) s := by
  unfold streamOrWait
  repeat' first
    | with_reducible refine frame_ite ?_ ?_
    | simp only [↓frame_rfl, Nat.reduceOr, ↓frame_step waitSuspended_frame, ↓frame_step goOn_frame]
    | split
theorem scopeAct_frame {a1 a2 s} : Frame 432692263896 (scopeAct a1 a2 s) s := by
  unfold scopeAct
  repeat' first
    | with_reducible refine frame_ite ?_ ?_
    | simp only [↓frame_rfl, Nat.reduceOr, ↓frame_step sendMyavo_frame, ↓frame_step abortHitch_frame, ↓frame_step waitSuspended_frame,
        ↓frame_step streamOrWait_frame, ↓frame_step hitchVault_frame, ↓frame_step createScoped_frame]
    | with_reducible refine frame_foldl (fun _ _ => ?_) ?_
theorem execScope_frame {a1 a2 s} : OutFrame 432692263896 (execScope a1 a2 s) s := by
  unfold execScope
  repeat' first
    | simp only [↓outFrame_next, ↓frame_rfl, Nat.reduceOr, ↓frame_step scopeAct_frame]
    | with_reducible refine Frame.trans (myavoIn_frame rfl (fun _ _ => ?_)) ?_
theorem collMapAct_frame {a1 a2 s} : Frame 432692263896 (collMapAct a1 a2 s) s := by
  unfold collMapAct
  repeat' first
    | with_reducible refine frame_ite ?_ ?_
    | simp only [↓frame_rfl, Nat.reduceOr, ↓frame_step abortHitch_frame, ↓frame_step waitSuspended_frame, ↓frame_step streamOrWait_frame,
        ↓frame_step hitchVault_frame, ↓frame_step mapHitch_frame]
theorem execCollMap_frame {a1 a2 s} : OutFrame 432692263896 (execCollMap a1 a2 s) s := by
  unfold execCollMap
  repeat' first
    | simp only [↓outFrame_next, ↓frame_rfl, Nat.reduceOr, ↓frame_step collMapAct_frame]
    | with_reducible refine Frame.trans (myavoIn_frame rfl (fun _ _ => ?_)) ?_
theorem resumeAct_frame {a1 a2 s} : Frame 157277420168 (resumeAct a1 a2 s) s := by
  unfold resumeAct
  repeat' first
    | with_reducible refine frame_ite ?_ ?_
    | simp only [↓frame_rfl, Nat.reduceOr, ↓frame_step pumpHitch_frame, ↓frame_step streamOrWait_frame, ↓frame_step putHitch_frame,
        ↓frame_step sendReceipt_frame, ↓frame_step mapHitch_frame, ↓frame_step dropArrivals_frame]
    | with_reducible refine frame_foldl (fun _ _ => ?_) ?_
theorem execResume_frame {a1 a2 s} : OutFrame 432692263880 (execResume a1 a2 s) s := by
  unfold execResume
  repeat' first
    | simp only [↓outFrame_next, ↓frame_rfl, Nat.reduceOr, ↓frame_step resumeAct_frame]
    | with_reducible refine Frame.trans (myavoIn_frame rfl (fun _ _ => ?_)) ?_
theorem heartbeatAct_frame {a1 a2 s} : Frame 157243801728 (heartbeatAct a1 a2 s) s := by
  unfold heartbeatAct
  repeat' first
    | with_reducible refine frame_ite ?_ ?_
    | simp only [↓frame_rfl, Nat.reduceOr, ↓frame_step waitSuspended_frame, ↓frame_step mapHitch_frame, ↓frame_step sendMyavo_frame,
        ↓frame_step pumpHitch_frame, ↓frame_step goOn_frame]
theorem execMyavoHeartbeat_frame {a1 a2 s} : OutFrame 432658649536 (execMyavoHeartbeat a1 a2 s) s := by
  unfold execMyavoHeartbeat
  repeat' first
    | simp only [↓outFrame_next, ↓frame_rfl, Nat.reduceOr, ↓frame_step heartbeatAct_frame]
    | with_reducible refine Frame.trans (myavoIn_frame rfl (fun _ _ => ?_)) ?_
theorem execMyavoHeartbeatSend_frame {a1 s} : OutFrame 139995775104 (execMyavoHeartbeatSend a1 s) s := by
  unfold execMyavoHeartbeatSend
  repeat' first
    | with_reducible refine frame_ite ?_ ?_
    | simp only [↓outFrame_next, ↓frame_rfl, Nat.reduceOr, ↓frame_step sendMyavo_frame, ↓frame_step putHitch_frame]
    | split
theorem execHitchSilenceTimeout_frame {a1 s} : OutFrame 432457322944 (execHitchSilenceTimeout a1 s) s := by
  unfold execHitchSilenceTimeout
  repeat' first
    | with_reducible refine frame_ite ?_ ?_
    | simp only [↓outFrame_next, ↓frame_rfl, Nat.reduceOr, ↓frame_step closeCtx_frame]
    | split
theorem hitchInit_frame {a1 a2 a3 s} : Frame 131080 (hitchInit a1 a2 a3 s).2.2 s := by
  unfold hitchInit
  repeat' first
    | simp only [↓frame_rfl, Nat.reduceOr, ↓frame_step draw_frame, ↓frame_step drawDigest_frame, ↓frame_step putHitch_frame]
    | with_reducible refine frame_snd (by assumption) ?_
    | split
theorem execHitchSetupRetry_frame {a1 s} : OutFrame 139861557384 (execHitchSetupRetry a1 s) s := by
  unfold execHitchSetupRetry
  repeat' first
    | simp only [↓outFrame_next, ↓frame_mkM, ↓frame_rfl, Nat.reduceOr, ↓frame_step sendSetup_frame, ↓frame_step hitchInit_frame]
    | with_reducible apply frame_mk <;> first | exact .inl rfl | exact .inr rfl | skip
    | with_reducible refine frame_snd2 (by assumption) ?_
    | split
theorem dropSetup_frame {a1 s} : Frame 262144 (dropSetup a1 s) s := by
  unfold dropSetup
  repeat' first
    | simp only [↓frame_mkM, ↓frame_rfl]
    | with_reducible apply frame_mk <;> first | exact .inl rfl | exact .inr rfl | skip
theorem execSetupResp_frame {a1 s} : OutFrame 139861426304 (execSetupResp a1 s) s := by
  unfold execSetupResp
  repeat' first
    | with_reducible refine frame_ite ?_ ?_
    | simp only [↓outFrame_next, ↓frame_mkM, ↓frame_rfl, Nat.reduceOr, ↓frame_step dropSetup_frame, ↓frame_step sendSetup_frame]
    | with_reducible apply frame_mk <;> first | exact .inl rfl | exact .inr rfl | skip
    | split
theorem hitchSession_frame {a1 a2 a3 s} : Frame 155157004288 (hitchSession a1 a2 a3 s).2 s := by
  unfold hitchSession
  simp only [↓frame_rfl, Nat.reduceOr, ↓frame_step openSession_frame]
theorem execSetupDone_frame {a1 a2 a3 s} : OutFrame 157713563776 (execSetupDone a1 a2 a3 s) s := by
  unfold execSetupDone
  repeat' first
    | with_reducible refine frame_ite ?_ ?_
    | simp only [↓outFrame_next, ↓frame_rfl, Nat.reduceOr, ↓frame_step dropSetup_frame, ↓frame_step sendHello_frame,
        ↓frame_step mapHitch_frame, ↓frame_step hitchSession_frame]
    | with_reducible refine frame_snd (by assumption) ?_
    | split
theorem execHitchNotAfter_frame {a1 s} : OutFrame 432692263896 (execHitchNotAfter a1 s) s := by
  unfold execHitchNotAfter
  repeat' first
    | with_reducible refine frame_ite ?_ ?_
    | simp only [↓outFrame_next, ↓frame_rfl, Nat.reduceOr, ↓frame_step hitchVault_frame, ↓frame_step abortHitch_frame]
theorem startPass_frame {a1 s} : Frame 137439092752 (startPass a1 s) s := by
  unfold startPass
  simp only [↓frame_rfl, Nat.reduceOr, ↓frame_step hitchVault_frame, ↓frame_step putHitch_frame]
theorem execHitchPassStart_frame {a1 s} : OutFrame 157243809936 (execHitchPassStart a1 s) s := by
  unfold execHitchPassStart
  repeat' first
    | with_reducible refine frame_ite ?_ ?_
    | simp only [↓outFrame_next, ↓frame_rfl, Nat.reduceOr, ↓frame_step endPass_frame, ↓frame_step pumpHitch_frame,
        ↓frame_step startPass_frame]
    | split
theorem arrivalOpen_frame {a1 a2 s} : Frame 8 (arrivalOpen a1 a2 s).2 s := by
  unfold arrivalOpen
  repeat' first
    | simp only [↓frame_rfl, Nat.reduceOr, ↓frame_step draw_frame, ↓frame_step drawKey_frame]
    | with_reducible refine frame_snd (by assumption) ?_
    | split
theorem objBeginAct_frame {a1 a2 s} : Frame 432692229064 (objBeginAct a1 a2 s) s := by
  unfold objBeginAct
  repeat' first
    | with_reducible refine frame_ite ?_ ?_
    | simp only [↓frame_rfl, Nat.reduceOr, ↓frame_step closeCtx_frame, ↓frame_step recordObj_frame, ↓frame_step sequence_frame,
        ↓frame_step arrivalOpen_frame, ↓frame_step mapHitch_frame]
    | with_reducible refine frame_snd (by assumption) ?_
    | split
theorem execObjBegin_frame {a1 a2 s} : OutFrame 432692229064 (execObjBegin a1 a2 s) s := by
  unfold execObjBegin
  repeat' first
    | simp only [↓outFrame_next, ↓frame_rfl, Nat.reduceOr, ↓frame_step objBeginAct_frame]
    | with_reducible refine Frame.trans (myavoIn_frame rfl (fun _ _ => ?_)) ?_
theorem putArrival_frame {a1 a2 s} : Frame 131072 (putArrival a1 a2 s) s := by
  unfold putArrival
  simp only [↓frame_rfl, Nat.reduceOr, ↓frame_step mapHitch_frame]
theorem arrivalPart_frame {a1 a2 s} : Frame 157005410824 (arrivalPart a1 a2 s).2 s := by
  unfold arrivalPart
  repeat' first
    | simp only [↓frame_rfl, Nat.reduceOr, ↓frame_step recordObj_frame, ↓frame_step commitPart_frame, ↓frame_step sequence_frame]
    | split
theorem objDataAct_frame {a1 a2 a3 a4 a5 a6 a7 s} : Frame 157276437128 (objDataAct a1 a2 a3 a4 a5 a6 a7 s) s := by
  unfold objDataAct
  repeat' first
    | with_reducible refine frame_ite ?_ ?_
    | simp only [↓frame_rfl, Nat.reduceOr, ↓frame_step mapHitch_frame, ↓frame_step putArrival_frame, ↓frame_step arrivalPart_frame,
        ↓frame_step whipArrival_frame, ↓frame_step endHeld_frame]
    | split
theorem execObjData_frame {a1 a2 a3 a4 a5 a6 a7 s} : OutFrame 432692263880 (execObjData a1 a2 a3 a4 a5 a6 a7 s) s := by
  unfold execObjData
  repeat' first
    | simp only [↓outFrame_next, ↓frame_rfl, Nat.reduceOr, ↓frame_step objDataAct_frame]
    | with_reducible refine Frame.trans (myavoIn_frame rfl (fun _ _ => ?_)) ?_
theorem objAbortAct_frame {a1 a2 a3 s} : Frame 157005543944 (objAbortAct a1 a2 a3 s) s := by
  unfold objAbortAct
  repeat' first
    | with_reducible refine frame_ite ?_ ?_
    | simp only [↓frame_rfl, Nat.reduceOr, ↓frame_step endArrival_frame, ↓frame_step undoArrival_frame]
    | split
theorem execObjAbort_frame {a1 a2 s} : OutFrame 432692231112 (execObjAbort a1 a2 s) s := by
  unfold execObjAbort
  repeat' first
    | simp only [↓outFrame_next, ↓frame_rfl, Nat.reduceOr, ↓frame_step objAbortAct_frame]
    | with_reducible refine Frame.trans (myavoIn_frame rfl (fun _ _ => ?_)) ?_
theorem excerptAct_frame {a1 a2 a3 a4 s} : Frame 131072 (excerptAct a1 a2 a3 a4 s) s := by
  unfold excerptAct
  repeat' first
    | simp only [↓frame_rfl, Nat.reduceOr, ↓frame_step putArrival_frame]
    | split
theorem execExcerpt_frame {a1 a2 a3 a4 s} : OutFrame 432457322944 (execExcerpt a1 a2 a3 a4 s) s := by
  unfold execExcerpt
  repeat' first
    | simp only [↓outFrame_next, ↓frame_rfl, Nat.reduceOr, ↓frame_step excerptAct_frame]
    | with_reducible refine Frame.trans (myavoIn_frame rfl (fun _ _ => ?_)) ?_
theorem checkpointAct_frame {a1 a2 s} : Frame 157005438984 (checkpointAct a1 a2 s) s := by
  unfold checkpointAct
  repeat' first
    | with_reducible refine frame_ite ?_ ?_
    | simp only [↓frame_rfl, Nat.reduceOr, ↓frame_step enter_frame]
theorem execCheckpoint_frame {a1 a2 s} : OutFrame 432692261320 (execCheckpoint a1 a2 s) s := by
  unfold execCheckpoint
  repeat' first
    | simp only [↓outFrame_next, ↓frame_rfl, Nat.reduceOr, ↓frame_step checkpointAct_frame]
    | with_reducible refine Frame.trans (myavoIn_frame rfl (fun _ _ => ?_)) ?_
theorem creditAct_frame {a1 a2 a3 s} : Frame 156834594816 (creditAct a1 a2 a3 s) s := by
  unfold creditAct
  repeat' first
    | with_reducible refine frame_ite ?_ ?_
    | simp only [↓frame_rfl, Nat.reduceOr, ↓frame_step kickStream_frame, ↓frame_step mapHitch_frame]
theorem execCredit_frame {a1 a2 a3 s} : OutFrame 432524431808 (execCredit a1 a2 a3 s) s := by
  unfold execCredit
  repeat' first
    | simp only [↓outFrame_next, ↓frame_rfl, Nat.reduceOr, ↓frame_step creditAct_frame]
    | with_reducible refine Frame.trans (myavoIn_frame rfl (fun _ _ => ?_)) ?_
theorem batchCloseAct_frame {a1 a2 a3 a4 s} : Frame 982448075208 (batchCloseAct a1 a2 a3 a4 s) s := by
  unfold batchCloseAct
  repeat' first
    | with_reducible refine frame_ite ?_ ?_
    | simp only [↓frame_rfl, Nat.reduceOr, ↓frame_step closeCtx_frame, ↓frame_step closeArrived_frame]
theorem execBatchClose_frame {a1 a2 a3 a4 s} : OutFrame 982448075208 (execBatchClose a1 a2 a3 a4 s) s := by
  unfold execBatchClose
  repeat' first
    | simp only [↓outFrame_next, ↓frame_rfl, Nat.reduceOr, ↓frame_step batchCloseAct_frame]
    | with_reducible refine Frame.trans (myavoIn_frame rfl (fun _ _ => ?_)) ?_
theorem receiptAct_frame {a1 a2 a3 a4 a5 a6 s} : Frame 432692261336 (receiptAct a1 a2 a3 a4 a5 a6 s) s := by
  unfold receiptAct
  repeat' first
    | with_reducible refine frame_ite ?_ ?_
    | simp only [↓frame_rfl, Nat.reduceOr, ↓frame_step closeCtx_frame, ↓frame_step waitSuspended_frame, ↓frame_step endPass_frame,
        ↓frame_step pumpHitch_frame, ↓frame_step sendMyavo_frame, ↓frame_step hitchVault_frame, ↓frame_step mapHitch_frame,
        ↓frame_step enter_frame]
    | split
theorem execBatchReceipt_frame {a1 a2 a3 a4 a5 a6 s} : OutFrame 432692261336 (execBatchReceipt a1 a2 a3 a4 a5 a6 s) s := by
  unfold execBatchReceipt
  repeat' first
    | simp only [↓outFrame_next, ↓frame_rfl, Nat.reduceOr, ↓frame_step receiptAct_frame]
    | with_reducible refine Frame.trans (myavoIn_frame rfl (fun _ _ => ?_)) ?_
theorem batchAckAct_frame {a1 a2 a3 s} : Frame 137439084544 (batchAckAct a1 a2 a3 s) s := by
  unfold batchAckAct
  repeat' first
    | with_reducible refine frame_ite ?_ ?_
    | simp only [↓frame_rfl, Nat.reduceOr, ↓frame_step tellHitch_frame, ↓frame_step mapHitch_frame]
theorem execBatchAck_frame {a1 a2 a3 s} : OutFrame 432457322944 (execBatchAck a1 a2 a3 s) s := by
  unfold execBatchAck
  repeat' first
    | simp only [↓outFrame_next, ↓frame_rfl, Nat.reduceOr, ↓frame_step batchAckAct_frame]
    | with_reducible refine Frame.trans (myavoIn_frame rfl (fun _ _ => ?_)) ?_
theorem lockUpdateAct_frame {a1 a2 a3 a4 s} : Frame 157276371592 (lockUpdateAct a1 a2 a3 a4 s) s := by
  unfold lockUpdateAct
  repeat' first
    | with_reducible refine frame_ite ?_ ?_
    | simp only [↓frame_rfl, Nat.reduceOr, ↓frame_step setCrossed_frame, ↓frame_step putArrival_frame]
    | split
theorem execLockUpdate_frame {a1 a2 a3 a4 s} : OutFrame 432692263880 (execLockUpdate a1 a2 a3 a4 s) s := by
  unfold execLockUpdate
  repeat' first
    | simp only [↓outFrame_next, ↓frame_rfl, Nat.reduceOr, ↓frame_step lockUpdateAct_frame]
    | with_reducible refine Frame.trans (myavoIn_frame rfl (fun _ _ => ?_)) ?_
theorem deleteNoticeAct_frame {a1 a2 a3 s} : Frame 157276371592 (deleteNoticeAct a1 a2 a3 s) s := by
  unfold deleteNoticeAct
  repeat' first
    | with_reducible refine frame_ite ?_ ?_
    | simp only [↓frame_rfl, Nat.reduceOr, ↓frame_step meetExpiries_frame, ↓frame_step enter_frame, ↓frame_step mapHitch_frame,
        ↓frame_step deleteObj_frame, ↓frame_step sequence_frame]
    | split
theorem execDeleteNotice_frame {a1 a2 a3 s} : OutFrame 432692263880 (execDeleteNotice a1 a2 a3 s) s := by
  unfold execDeleteNotice
  repeat' first
    | simp only [↓outFrame_next, ↓frame_rfl, Nat.reduceOr, ↓frame_step deleteNoticeAct_frame]
    | with_reducible refine Frame.trans (myavoIn_frame rfl (fun _ _ => ?_)) ?_
theorem shutScope_frame {a1 s} : Frame 2048 (shutScope a1 s) s := by
  unfold shutScope
  repeat' first
    | simp only [↓frame_mkM, ↓frame_rfl]
    | with_reducible apply frame_mk <;> first | exact .inl rfl | exact .inr rfl | skip
theorem mateHitch_frame {a1 s} : Frame 432692263880 (mateHitch a1 s) s := by
  unfold mateHitch
  repeat' first
    | with_reducible refine frame_ite ?_ ?_
    | simp only [↓frame_rfl, Nat.reduceOr, ↓frame_step putHitch_frame, ↓frame_step shutScope_frame, ↓frame_step closeCtx_frame,
        ↓frame_step dropArrivals_frame, ↓frame_step mapHitch_frame]
    | with_reducible refine frame_elim ?_ (fun _ => ?_)
    | split
theorem mateSeq_frame {a1 a2 a3 s} : Frame 131072 (mateSeq a1 a2 a3 s) s := by
  unfold mateSeq
  simp only [↓frame_rfl, Nat.reduceOr, ↓frame_step mapHitch_frame]
theorem mateNotice_frame {a1 a2 a3 a4 a5 s} : Frame 139995775104 (mateNotice a1 a2 a3 a4 a5 s) s := by
  unfold mateNotice
  repeat' first
    | simp only [↓frame_rfl, Nat.reduceOr, ↓frame_step noticeLock_frame, ↓frame_step noticeDelete_frame]
    | split
theorem takeHitches_frame {s} : Frame 131072 (takeHitches s) s := by
  unfold takeHitches
  repeat' first
    | simp only [↓frame_mkM, ↓frame_rfl]
    | with_reducible apply frame_mk <;> first | exact .inl rfl | exact .inr rfl | skip
theorem completeTenant_frame {a1 a2 s} : Frame 981639225352 (completeTenant a1 a2 s) s := by
  unfold completeTenant
  repeat' first
    | simp only [↓frame_rfl, Nat.reduceOr, ↓frame_step closeEntry_frame, ↓frame_step free_frame, ↓frame_step hold_frame,
        ↓frame_step addReceipt_frame]
    | with_reducible refine frame_snd (by assumption) ?_
    | split
theorem passEndAct_frame {a1 s} : Frame 981910151304 (passEndAct a1 s) s := by
  unfold passEndAct
  repeat' first
    | with_reducible refine frame_ite ?_ ?_
    | simp only [↓frame_rfl, Nat.reduceOr, ↓frame_step sendComplete_frame, ↓frame_step completeTenant_frame, ↓frame_step closeEntry_frame,
        ↓frame_step tellHitch_frame, ↓frame_step mapHitch_frame]
    | with_reducible refine frame_foldl (fun _ _ => ?_) ?_
theorem execPassEnd_frame {a1 a2 a3 s} : OutFrame 982448075208 (execPassEnd a1 a2 a3 s) s := by
  unfold execPassEnd
  repeat' first
    | simp only [↓outFrame_next, ↓frame_rfl, Nat.reduceOr, ↓frame_step passEndAct_frame]
    | with_reducible refine Frame.trans (myavoIn_frame rfl (fun _ _ => ?_)) ?_
theorem completeAct_frame {a1 a2 s} : Frame 432692261336 (completeAct a1 a2 s) s := by
  unfold completeAct
  repeat' first
    | with_reducible refine frame_ite ?_ ?_
    | simp only [↓frame_rfl, Nat.reduceOr, ↓frame_step closeCtx_frame, ↓frame_step waitSuspended_frame, ↓frame_step hitchVault_frame,
        ↓frame_step mapHitch_frame, ↓frame_step closeEntry_frame]
    | with_reducible refine frame_foldl (fun _ _ => ?_) ?_
theorem execComplete_frame {a1 a2 s} : OutFrame 432692261336 (execComplete a1 a2 s) s := by
  unfold execComplete
  repeat' first
    | simp only [↓outFrame_next, ↓frame_rfl, Nat.reduceOr, ↓frame_step completeAct_frame]
    | with_reducible refine Frame.trans (myavoIn_frame rfl (fun _ _ => ?_)) ?_

end Machine
end Sys2Proof
end

