-- ==== Sys2Proof/Laws/LanyardFrame.lean ====
section
/-!
SUPPORT. What the definitions of Machine/Lanyard.lean leave unchanged.
-/
namespace Sys2Proof
namespace Machine
set_option maxRecDepth 100000
set_option linter.unusedSimpArgs false

theorem execReceiptBatchClose_frame {a1 s} : OutFrame 65536 (execReceiptBatchClose a1 s) s := by
  unfold execReceiptBatchClose
  repeat' first
    | with_reducible refine frame_ite ?_ ?_
    | simp only [↓outFrame_next, ↓frame_mkM, ↓frame_rfl]
    | with_reducible apply frame_mk <;> first | exact .inl rfl | exact .inr rfl | skip
theorem answerWaiting_frame {s} : Frame 157779558528 (answerWaiting s) s := by
  unfold answerWaiting
  repeat' first
    | simp only [↓frame_mkM, ↓frame_rfl, Nat.reduceOr, ↓frame_step freeTag_frame, ↓frame_step sendMbx_frame]
    | with_reducible apply frame_mk <;> first | exact .inl rfl | exact .inr rfl | skip
    | with_reducible refine frame_foldl (fun _ _ => ?_) ?_
    | split
theorem signBatch_frame {a1 s} : Frame 432657498240 (signBatch a1 s) s := by
  unfold signBatch
  repeat' first
    | with_reducible refine frame_ite ?_ ?_
    | simp only [↓frame_rfl, Nat.reduceOr, ↓frame_step answerWaiting_frame, ↓frame_step raise_frame, ↓frame_step signReceipts_frame]
theorem execReceiptBatchSigned_frame {a1 s} : OutFrame 432657498240 (execReceiptBatchSigned a1 s) s := by
  unfold execReceiptBatchSigned
  repeat' first
    | with_reducible refine frame_ite ?_ ?_
    | simp only [↓outFrame_next, ↓frame_mkM, ↓frame_rfl, Nat.reduceOr, ↓frame_step signBatch_frame]
    | with_reducible apply frame_mk <;> first | exact .inl rfl | exact .inr rfl | skip
    | split
theorem reformReceipts_frame {s} : Frame 98304 (reformReceipts s) s := by
  unfold reformReceipts
  repeat' first
    | simp only [↓frame_mkM, ↓frame_rfl]
    | with_reducible apply frame_mk <;> first | exact .inl rfl | exact .inr rfl | skip
    | split
theorem execLanyardCheckpoint_frame {s} : OutFrame 165595439112 (execLanyardCheckpoint s) s := by
  unfold execLanyardCheckpoint
  repeat' first
    | with_reducible refine frame_ite ?_ ?_
    | simp only [↓outFrame_next, ↓frame_rfl, Nat.reduceOr, ↓frame_step signCheckpoint_frame]
theorem execLanyardRead_frame {a1 a2 a3 a4 a5 s} : OutFrame 995331694728 (execLanyardRead a1 a2 a3 a4 a5 s) s := by
  unfold execLanyardRead
  repeat' first
    | with_reducible refine frame_ite ?_ ?_
    | simp only [↓outFrame_next, ↓frame_rfl, Nat.reduceOr, ↓frame_step reply_frame]
    | with_reducible refine Frame.trans (mailboxCmd_frame rfl (fun _ _ => ?_)) ?_
    | split
theorem execLanyardProof_frame {a1 a2 a3 a4 s} : OutFrame 995331694728 (execLanyardProof a1 a2 a3 a4 s) s := by
  unfold execLanyardProof
  repeat' first
    | with_reducible refine frame_ite ?_ ?_
    | simp only [↓outFrame_next, ↓frame_rfl, Nat.reduceOr, ↓frame_step reply_frame]
    | with_reducible refine Frame.trans (mailboxCmd_frame rfl (fun _ _ => ?_)) ?_
    | split
theorem execLanyardExport_frame {a1 a2 a3 s} : OutFrame 995331694728 (execLanyardExport a1 a2 a3 s) s := by
  unfold execLanyardExport
  repeat' first
    | simp only [↓outFrame_next, ↓frame_rfl, Nat.reduceOr, ↓frame_step reply_frame]
    | with_reducible refine Frame.trans (mailboxCmd_frame rfl (fun _ _ => ?_)) ?_
    | split
theorem execReceiptRead_frame {a1 a2 a3 a4 s} : OutFrame 995331760264 (execReceiptRead a1 a2 a3 a4 s) s := by
  unfold execReceiptRead
  repeat' first
    | with_reducible refine frame_ite ?_ ?_
    | simp only [↓outFrame_next, ↓frame_mkM, ↓frame_rfl, Nat.reduceOr, ↓frame_step reply_frame, ↓frame_step holdTag_frame]
    | with_reducible refine Frame.trans (mailboxCmd_frame rfl (fun _ _ => ?_)) ?_
    | with_reducible apply frame_mk <;> first | exact .inl rfl | exact .inr rfl | skip
    | split
theorem execFixityDisclose_frame {a1 a2 a3 s} : OutFrame 995331698824 (execFixityDisclose a1 a2 a3 s) s := by
  unfold execFixityDisclose
  repeat' first
    | with_reducible refine frame_ite ?_ ?_
    | simp only [↓outFrame_next, ↓frame_rfl, Nat.reduceOr, ↓frame_step replyNotVisible_frame, ↓frame_step decoyWalk_frame,
        ↓frame_step reply_frame, ↓frame_step walkEnded_frame, ↓frame_step walkTo_frame]
    | with_reducible refine Frame.trans (mailboxCmd_frame rfl (fun _ _ => ?_)) ?_
    | with_reducible refine frame_elim ?_ (fun _ => ?_)
    | split
theorem actCustodyCertify_frame {a1 a2 s} : Frame 991036825752 (actCustodyCertify a1 a2 s) s := by
  unfold actCustodyCertify
  repeat' first
    | with_reducible refine frame_ite ?_ ?_
    | simp only [↓frame_mkM, ↓frame_rfl, Nat.reduceOr, ↓frame_step qReply_frame, ↓frame_step quorumDone_frame,
        ↓frame_step answerWaiting_frame, ↓frame_step endOwed_frame, ↓frame_step signCheckpoint_frame, ↓frame_step touch_frame,
        ↓frame_step reformReceipts_frame]
    | with_reducible apply frame_mk <;> first | exact .inl rfl | exact .inr rfl | skip
theorem execCustodyCertify_frame {a1 a2 a3 s} : OutFrame 995331793048 (execCustodyCertify a1 a2 a3 s) s := by
  unfold execCustodyCertify
  repeat' first
    | simp only [↓outFrame_next, ↓frame_rfl, Nat.reduceOr, ↓frame_step actCustodyCertify_frame]
    | with_reducible refine Frame.trans (quorumCmd_frame rfl (fun _ _ => ?_)) ?_

end Machine
end Sys2Proof
end

