-- ==== Sys2Proof/Laws/FormationFrame.lean ====
section
/-!
SUPPORT. What the definitions of Machine/Formation.lean leave unchanged.
-/
namespace Sys2Proof
namespace Machine
set_option maxRecDepth 100000
set_option linter.unusedSimpArgs false

theorem formG1_frame {s} : Frame 34359738392 (formG1 s) s := by
  unfold formG1
  repeat' first
    | simp only [↓frame_mkM, ↓frame_rfl, Nat.reduceOr, ↓frame_step escrowWrap_frame, ↓frame_step drawKey_frame, ↓frame_step draw_frame]
    | with_reducible apply frame_mk <;> first | exact .inl rfl | exact .inr rfl | skip
    | with_reducible refine frame_snd (by assumption) ?_
    | split
theorem formG2_frame {s} : Frame 191230910464 (formG2 s) s := by
  unfold formG2
  repeat' first
    | simp only [↓frame_mkM, ↓frame_rfl, Nat.reduceOr, ↓frame_step issueDrive_frame]
    | with_reducible apply frame_mk <;> first | exact .inl rfl | exact .inr rfl | skip
    | with_reducible refine frame_foldl (fun _ _ => ?_) ?_
theorem formG3_frame {s} : Frame 191230918656 (formG3 s) s := by
  unfold formG3
  repeat' first
    | simp only [↓frame_mkM, ↓frame_rfl, Nat.reduceOr, ↓frame_step changeBanks_frame, ↓frame_step pairState_frame,
        ↓frame_step raiseEvent_frame, ↓frame_step putMember_frame]
    | with_reducible apply frame_mk <;> first | exact .inl rfl | exact .inr rfl | skip
    | with_reducible refine frame_foldl (fun _ _ => ?_) ?_
theorem formG4_frame {s} : Frame 35433488384 (formG4 s) s := by
  unfold formG4
  repeat' first
    | simp only [↓frame_mkM, ↓frame_rfl]
    | with_reducible apply frame_mk <;> first | exact .inl rfl | exact .inr rfl | skip
theorem formG56_frame {a1 s} : Frame 192438923272 (formG56 a1 s) s := by
  unfold formG56
  repeat' first
    | simp only [↓frame_mkM, ↓frame_rfl, Nat.reduceOr, ↓frame_step configEntry_frame, ↓frame_step keyEntry_frame,
        ↓frame_step openLanyard_frame, ↓frame_step newCustodyKey_frame]
    | with_reducible apply frame_mk <;> first | exact .inl rfl | exact .inr rfl | skip
theorem formShelf_frame {a1 s} : Frame 192438923288 (formShelf a1 s) s := by
  unfold formShelf
  repeat' first
    | with_reducible refine frame_ite ?_ ?_
    | simp only [↓frame_mkM, ↓frame_rfl, Nat.reduceOr, ↓frame_step formG56_frame, ↓frame_step formG4_frame, ↓frame_step formG3_frame,
        ↓frame_step formG2_frame, ↓frame_step formG1_frame]
    | with_reducible apply frame_mk <;> first | exact .inl rfl | exact .inr rfl | skip

end Machine
end Sys2Proof
end

