-- ==== Sys2Proof/Laws/ChannelsFrame.lean ====
section
/-!
SUPPORT. What the definitions of Machine/Channels.lean leave unchanged.
-/
namespace Sys2Proof
namespace Machine
set_option maxRecDepth 100000
set_option linter.unusedSimpArgs false

theorem tellMate_frame {a1 s} : Frame 137438953472 (tellMate a1 s) s := by
  unfold tellMate
  repeat' first
    | with_reducible refine frame_ite ?_ ?_
    | simp only [↓frame_rfl, Nat.reduceOr, ↓frame_step pairState_frame]
theorem clearOwnLatch_frame {a1 s} : Frame 141733920768 (clearOwnLatch a1 s) s := by
  unfold clearOwnLatch
  repeat' first
    | with_reducible refine frame_ite ?_ ?_
    | simp only [↓frame_rfl, Nat.reduceOr, ↓frame_step tellMate_frame, ↓frame_step startInsert_frame, ↓frame_step putFeed_frame]
theorem clearLatch_frame {a1 s} : Frame 141733920768 (clearLatch a1 s) s := by
  unfold clearLatch
  repeat' first
    | with_reducible refine frame_ite ?_ ?_
    | simp only [↓frame_rfl, Nat.reduceOr, ↓frame_step pairState_frame, ↓frame_step clearOwnLatch_frame]

end Machine
end Sys2Proof
end

