-- ==== Sys2Proof/Laws/HoldMoverFrame.lean ====
section
/-!
SUPPORT. What the definitions of Machine/HoldMover.lean leave unchanged.
-/
namespace Sys2Proof
namespace Machine
set_option maxRecDepth 100000
set_option linter.unusedSimpArgs false

theorem execCoilCountVisit_frame {a1 s} : OutFrame 156841803776 (execCoilCountVisit a1 s) s := by
  unfold execCoilCountVisit
  repeat' first
    | with_reducible refine frame_oite ?_ ?_
    | simp only [↓outFrame_next, ↓frame_mkM, ↓frame_rfl, Nat.reduceOr, ↓frame_step retryHold_frame, ↓frame_step raise_frame,
        ↓frame_step bumpFigure_frame]
    | with_reducible apply frame_mk <;> first | exact .inl rfl | exact .inr rfl | skip
    | split
theorem correctUse_frame {s a2} : Frame 8388608 (correctUse s a2) s := by
  unfold correctUse
  repeat' first
    | with_reducible refine frame_ite ?_ ?_
    | simp only [↓frame_mkM, ↓frame_rfl]
    | with_reducible apply frame_mk <;> first | exact .inl rfl | exact .inr rfl | skip
theorem execCoilPassEnd_frame {s} : OutFrame 156841803776 (execCoilPassEnd s) s := by
  unfold execCoilPassEnd
  repeat' first
    | with_reducible refine frame_ite ?_ ?_
    | with_reducible refine frame_oite ?_ ?_
    | simp only [↓outFrame_next, ↓frame_mkM, ↓frame_rfl, Nat.reduceOr, ↓frame_step setFigure_frame, ↓frame_step correctUse_frame,
        ↓frame_step retryHold_frame, ↓frame_step raise_frame]
    | with_reducible apply frame_mk <;> first | exact .inl rfl | exact .inr rfl | skip
    | with_reducible refine frame_foldl (fun _ _ => ?_) ?_
theorem moveByte_frame {a1 a2 s} : Frame 524296 (moveByte a1 a2 s) s := by
  unfold moveByte
  repeat' first
    | with_reducible refine frame_ite ?_ ?_
    | simp only [↓frame_mkM, ↓frame_rfl, Nat.reduceOr, ↓frame_step free_frame]
    | with_reducible apply frame_mk <;> first | exact .inl rfl | exact .inr rfl | skip
    | with_reducible refine frame_snd (by assumption) ?_
    | split
theorem moveBurst_frame {a1 a2 a3 s} : Frame 524296 (moveBurst a1 a2 a3 s) s := by
  unfold moveBurst
  repeat' first
    | simp only [↓frame_rfl, Nat.reduceOr, ↓frame_step moveByte_frame]
    | with_reducible refine frame_foldl (fun _ _ => ?_) ?_
theorem putChannel_frame {a1 s} : Frame 16777216 (putChannel a1 s) s := by
  unfold putChannel
  repeat' first
    | simp only [↓frame_mkM, ↓frame_rfl]
    | with_reducible apply frame_mk <;> first | exact .inl rfl | exact .inr rfl | skip
theorem moverRecord_frame {a1 a2 a3 a4 a5 s} : Frame 17301504 (moverRecord a1 a2 a3 a4 a5 s) s := by
  unfold moverRecord
  repeat' first
    | simp only [↓frame_mkM, ↓frame_rfl]
    | with_reducible apply frame_mk <;> first | exact .inl rfl | exact .inr rfl | skip
theorem nextDesc_frame {a1 a2 s} : Frame 156850716672 (nextDesc a1 a2 s) s := by
  fun_induction nextDesc a1 a2 s <;> (try rename_i ih)
  repeat' first
    | with_reducible refine frame_ite ?_ ?_
    | simp only [↓frame_rfl, Nat.reduceOr, ↓frame_step putChannel_frame, ↓frame_step raise_frame, ↓frame_step moverRecord_frame,
        ↓frame_step ih]
    | simp only [↓frame_rfl, Nat.reduceOr, ↓frame_step putChannel_frame, ↓frame_step raise_frame, ↓frame_step moverRecord_frame]
theorem endDesc_frame {a1 s} : Frame 156850716672 (endDesc a1 s) s := by
  unfold endDesc
  repeat' first
    | with_reducible refine frame_ite ?_ ?_
    | simp only [↓frame_rfl, Nat.reduceOr, ↓frame_step nextDesc_frame, ↓frame_step putChannel_frame, ↓frame_step raise_frame,
        ↓frame_step bumpFigure_frame, ↓frame_step moverRecord_frame]
    | split
theorem grantPipes_frame {a1 s} : Frame 16777216 (grantPipes a1 s) s := by
  induction a1 generalizing s with
  | zero => exact Frame.refl
  | succ n ih =>
    unfold grantPipes
    repeat' first
      | with_reducible refine frame_ite ?_ ?_
      | simp only [↓frame_mkM, ↓frame_rfl, Nat.reduceOr, ↓frame_step ih, ↓frame_step putChannel_frame]
      | with_reducible apply frame_mk <;> first | exact .inl rfl | exact .inr rfl | skip
      | split
theorem preempt_frame {a1 s} : Frame 2164260864 (preempt a1 s) s := by
  induction a1 generalizing s with
  | zero => exact Frame.refl
  | succ n ih =>
    unfold preempt
    repeat' first
      | with_reducible refine frame_ite ?_ ?_
      | simp only [↓frame_mkM, ↓frame_rfl, Nat.reduceOr, ↓frame_step ih, ↓frame_step putChannel_frame, ↓frame_step bumpFigure_frame]
      | with_reducible apply frame_mk <;> first | exact .inl rfl | exact .inr rfl | skip
      | split
theorem sharePipes_frame {s} : Frame 2164260864 (sharePipes s) s := by
  unfold sharePipes
  simp only [↓frame_rfl, Nat.reduceOr, ↓frame_step preempt_frame, ↓frame_step grantPipes_frame]
theorem execMoverBurstComplete_frame {a1 s} : OutFrame 156850716680 (execMoverBurstComplete a1 s) s := by
  unfold execMoverBurstComplete
  repeat' first
    | with_reducible refine frame_ite ?_ ?_
    | with_reducible refine frame_oite ?_ ?_
    | simp only [↓outFrame_next, ↓frame_rfl, Nat.reduceOr, ↓frame_step sharePipes_frame, ↓frame_step nextDesc_frame,
        ↓frame_step endDesc_frame, ↓frame_step putChannel_frame, ↓frame_step moveBurst_frame]
    | split
theorem takeAbort_frame {a1 s} : Frame 156850716672 (takeAbort a1 s) s := by
  unfold takeAbort
  repeat' first
    | with_reducible refine frame_ite ?_ ?_
    | simp only [↓frame_rfl, Nat.reduceOr, ↓frame_step endDesc_frame]
theorem abortChannels_frame {a1 s} : Frame 156850716672 (abortChannels a1 s) s := by
  unfold abortChannels
  repeat' first
    | simp only [↓frame_rfl, Nat.reduceOr, ↓frame_step takeAbort_frame, ↓frame_step putChannel_frame]
    | with_reducible refine frame_foldl (fun _ _ => ?_) ?_
theorem execMoverFault_frame {a1 a2 s} : OutFrame 156850716672 (execMoverFault a1 a2 s) s := by
  unfold execMoverFault
  repeat' first
    | with_reducible refine frame_ite ?_ ?_
    | with_reducible refine frame_oite ?_ ?_
    | simp only [↓outFrame_next, ↓frame_rfl, Nat.reduceOr, ↓frame_step raise_frame, ↓frame_step sharePipes_frame,
        ↓frame_step takeAbort_frame, ↓frame_step putChannel_frame]

end Machine
end Sys2Proof
end

