-- ==== Sys2Proof/Laws/MembersFrame.lean ====
section
/-!
SUPPORT. What the definitions of Machine/Members.lean leave unchanged.
-/
namespace Sys2Proof
namespace Machine
set_option maxRecDepth 100000
set_option linter.unusedSimpArgs false

theorem execStrikeExpiry_frame {a1 s} : OutFrame 157005438984 (execStrikeExpiry a1 s) s := by
  unfold execStrikeExpiry
  repeat' first
    | with_reducible refine frame_ite ?_ ?_
    | simp only [↓outFrame_next, ↓frame_rfl, Nat.reduceOr, ↓frame_step setMemberState_frame, ↓frame_step putMember_frame]
theorem execDriveCriticalWarning_frame {a1 a2 a3 s} : OutFrame 431891870472 (execDriveCriticalWarning a1 a2 a3 s) s := by
  unfold execDriveCriticalWarning
  repeat' first
    | with_reducible refine frame_oite ?_ ?_
    | simp only [↓outFrame_next, ↓frame_rfl, Nat.reduceOr, ↓frame_step failMember_frame, ↓frame_step recopy_frame,
        ↓frame_step setMemberState_frame]
theorem execMemberFail_frame {a1 a2 a3 s} : OutFrame 995340252040 (execMemberFail a1 a2 a3 s) s := by
  unfold execMemberFail
  repeat' first
    | with_reducible refine frame_ite ?_ ?_
    | simp only [↓outFrame_next, ↓frame_rfl, Nat.reduceOr, ↓frame_step reply_frame, ↓frame_step failMember_frame]
    | with_reducible refine Frame.trans (mailboxCmd_frame rfl (fun _ _ => ?_)) ?_
    | with_reducible refine frame_dite (fun _ => ?_) (fun _ => ?_)
theorem execHedgeTimeout_frame {a1 a2 s} : OutFrame 431749070848 (execHedgeTimeout a1 a2 s) s := by
  unfold execHedgeTimeout
  repeat' first
    | with_reducible refine frame_oite ?_ ?_
    | simp only [↓outFrame_next, ↓frame_rfl, Nat.reduceOr, ↓frame_step readAt_frame, ↓frame_step putPort_frame]
    | with_reducible refine frame_foldl (fun _ _ => ?_) ?_
    | split
theorem rowReads_frame {a1 a2 s} : Frame 156871163904 (rowReads a1 a2 s) s := by
  unfold rowReads
  repeat' first
    | simp only [↓frame_rfl, Nat.reduceOr, ↓frame_step issueFlow_frame]
    | with_reducible refine frame_foldl (fun _ _ => ?_) ?_
    | split
theorem execRebuildRow_frame {s} : OutFrame 157005443848 (execRebuildRow s) s := by
  unfold execRebuildRow
  repeat' first
    | with_reducible refine frame_oite ?_ ?_
    | simp only [↓outFrame_next, ↓frame_mkM, ↓frame_rfl, Nat.reduceOr, ↓frame_step declareLost_frame, ↓frame_step writeSpare_frame,
        ↓frame_step rowReads_frame]
    | with_reducible apply frame_mk <;> first | exact .inl rfl | exact .inr rfl | skip
    | with_reducible refine frame_foldl (fun _ _ => ?_) ?_
    | split
theorem payOwed_frame {a1 a2 s} : Frame 156871163904 (payOwed a1 a2 s) s := by
  unfold payOwed
  repeat' first
    | with_reducible refine frame_ite ?_ ?_
    | simp only [↓frame_rfl, Nat.reduceOr, ↓frame_step issueDrive_frame, ↓frame_step issueWrite_frame]
theorem execDriveInsert_frame {a1 a2 a3 a4 a5 a6 a7 a8 a9 s} : OutFrame 161300406280 (execDriveInsert a1 a2 a3 a4 a5 a6 a7 a8 a9 s) s := by
  unfold execDriveInsert
  repeat' first
    | with_reducible refine frame_oite ?_ ?_
    | simp only [↓outFrame_next, ↓frame_rfl, Nat.reduceOr, ↓frame_step disableSlot_frame, ↓frame_step raise_frame,
        ↓frame_step putMember_frame, ↓frame_step payOwed_frame, ↓frame_step setMemberState_frame, ↓frame_step writeRegion_frame,
        ↓frame_step issueDrive_frame]
    | with_reducible refine frame_foldl (fun _ _ => ?_) ?_
theorem execRestoreRow_frame {a1 s} : OutFrame 157005443848 (execRestoreRow a1 s) s := by
  unfold execRestoreRow
  repeat' first
    | with_reducible refine frame_oite ?_ ?_
    | simp only [↓outFrame_next, ↓frame_mkM, ↓frame_rfl, Nat.reduceOr, ↓frame_step declareLost_frame, ↓frame_step issueWrite_frame,
        ↓frame_step mapRow_frame, ↓frame_step issueFlow_frame, ↓frame_step rowReads_frame, ↓frame_step raise_frame,
        ↓frame_step setMemberState_frame]
    | with_reducible apply frame_mk <;> first | exact .inl rfl | exact .inr rfl | skip
    | split
theorem startScrub_frame {s} : Frame 16384 (startScrub s) s := by
  unfold startScrub
  repeat' first
    | with_reducible refine frame_ite ?_ ?_
    | simp only [↓frame_mkM, ↓frame_rfl]
    | with_reducible apply frame_mk <;> first | exact .inl rfl | exact .inr rfl | skip
theorem judgeBad_frame {a1 a2 a3 a4 s} : Frame 431891870472 (judgeBad a1 a2 a3 a4 s) s := by
  unfold judgeBad
  repeat' first
    | simp only [↓frame_mkM, ↓frame_rfl, Nat.reduceOr, ↓frame_step judgeStrip_frame, ↓frame_step raise_frame]
    | with_reducible apply frame_mk <;> first | exact .inl rfl | exact .inr rfl | skip
    | split
theorem freshTombstones_frame {a1 s} : Frame 157005406216 (freshTombstones a1 s) s := by
  unfold freshTombstones
  repeat' first
    | with_reducible refine frame_ite ?_ ?_
    | simp only [↓frame_rfl, Nat.reduceOr, ↓frame_step writeSealed_frame, ↓frame_step sequence_frame]
    | with_reducible refine frame_foldl (fun _ _ => ?_) ?_
    | with_reducible refine frame_snd (by assumption) ?_
    | split
theorem scrubReads_frame {a1 s} : Frame 156871163904 (scrubReads a1 s) s := by
  unfold scrubReads
  repeat' first
    | simp only [↓frame_rfl, Nat.reduceOr, ↓frame_step issueFlow_frame]
    | with_reducible refine frame_foldl (fun _ _ => ?_) ?_
    | split
theorem execScrubRow_frame {a1 s} : OutFrame 431891870472 (execScrubRow a1 s) s := by
  unfold execScrubRow
  repeat' first
    | with_reducible refine frame_ite ?_ ?_
    | with_reducible refine frame_oite ?_ ?_
    | simp only [↓outFrame_next, ↓frame_mkM, ↓frame_rfl, Nat.reduceOr, ↓frame_step startScrub_frame, ↓frame_step declareLost_frame,
        ↓frame_step judgeBad_frame, ↓frame_step freshTombstones_frame, ↓frame_step scrubReads_frame, ↓frame_step ringCopies_frame,
        ↓frame_step strike_frame, ↓frame_step issueFlow_frame, ↓frame_step writeRegion_frame]
    | with_reducible apply frame_mk <;> first | exact .inl rfl | exact .inr rfl | skip
    | with_reducible refine frame_foldl (fun _ _ => ?_) ?_
    | split
theorem execScrubPassEnd_frame {s} : OutFrame 157005438984 (execScrubPassEnd s) s := by
  unfold execScrubPassEnd
  repeat' first
    | with_reducible refine frame_oite ?_ ?_
    | simp only [↓outFrame_next, ↓frame_mkM, ↓frame_rfl, Nat.reduceOr, ↓frame_step enter_frame]
    | with_reducible apply frame_mk <;> first | exact .inl rfl | exact .inr rfl | skip
theorem execLossReportRead_frame {a1 a2 a3 s} : OutFrame 995331694728 (execLossReportRead a1 a2 a3 s) s := by
  unfold execLossReportRead
  repeat' first
    | simp only [↓outFrame_next, ↓frame_rfl, Nat.reduceOr, ↓frame_step reply_frame]
    | with_reducible refine Frame.trans (mailboxCmd_frame rfl (fun _ _ => ?_)) ?_

end Machine
end Sys2Proof
end

