-- ==== Sys2Proof/Laws/NetworkFrame.lean ====
section
/-!
SUPPORT. What the definitions of Machine/Network.lean leave unchanged.
-/
namespace Sys2Proof
namespace Machine
set_option maxRecDepth 100000
set_option linter.unusedSimpArgs false

theorem onMac_frame {w a1 f2 s} (hw : 0 ||| w = w) (h : ∀ s, Frame w (f2 s) s) : OutFrame w (onMac a1 f2 s) s := by
  unfold onMac
  repeat' first
    | with_reducible refine frame_ite ?_ ?_
    | simp only [↓outFrame_next, ↓frame_rfl]
    | with_reducible refine Frame.trans (h _) ?_
theorem sendPause_frame {a1 a2 a3 s} : Frame 139861426304 (sendPause a1 a2 a3 s) s := by
  unfold sendPause
  simp only [↓frame_rfl, Nat.reduceOr, ↓frame_step transmit_frame, ↓frame_step bumpFigure_frame]
theorem putXoff_frame {a1 a2 s} : Frame 2097152 (putXoff a1 a2 s) s := by
  unfold putXoff
  repeat' first
    | simp only [↓frame_rfl, Nat.reduceOr, ↓frame_step putMac_frame]
    | split
theorem startXoff_frame {a1 a2 s} : Frame 139861426304 (startXoff a1 a2 s) s := by
  unfold startXoff
  repeat' first
    | with_reducible refine frame_ite ?_ ?_
    | simp only [↓frame_rfl, Nat.reduceOr, ↓frame_step putXoff_frame, ↓frame_step sendPause_frame]
theorem endXoffs_frame {s} : Frame 139861426304 (endXoffs s) s := by
  unfold endXoffs
  repeat' first
    | with_reducible refine frame_ite ?_ ?_
    | simp only [↓frame_rfl, Nat.reduceOr, ↓frame_step putXoff_frame, ↓frame_step sendPause_frame]
    | with_reducible refine frame_foldl (fun _ _ => ?_) ?_
theorem execXoffRefresh_frame {a1 a2 s} : OutFrame 157108404352 (execXoffRefresh a1 a2 s) s := by
  unfold execXoffRefresh
  repeat' first
    | with_reducible refine frame_ite ?_ ?_
    | simp only [↓outFrame_next, ↓frame_rfl, Nat.reduceOr, ↓frame_step raise_frame, ↓frame_step putXoff_frame, ↓frame_step sendPause_frame]
    | with_reducible refine onMac_frame rfl (fun _ => ?_)
    | split
theorem dropFrame_frame {a1 a2 s} : Frame 2147483648 (dropFrame a1 a2 s) s := by
  unfold dropFrame
  repeat' first
    | with_reducible refine frame_ite ?_ ?_
    | simp only [↓frame_rfl, Nat.reduceOr, ↓frame_step bumpWide_frame]
theorem wakeMac_frame {a1 a2 s} : Frame 165423349768 (wakeMac a1 a2 s) s := by
  unfold wakeMac
  simp only [↓frame_rfl, Nat.reduceOr, ↓frame_step wake_frame, ↓frame_step raise_frame, ↓frame_step orStatus_frame]
theorem dormantFrame_frame {a1 s} : Frame 165423349768 (dormantFrame a1 s) s := by
  unfold dormantFrame
  repeat' first
    | with_reducible refine frame_ite ?_ ?_
    | simp only [↓frame_rfl, Nat.reduceOr, ↓frame_step wakeMac_frame]
theorem takeFrame_frame {a1 s} : Frame 157116792960 (takeFrame a1 s) s := by
  unfold takeFrame
  repeat' first
    | with_reducible refine frame_ite ?_ ?_
    | simp only [↓frame_mkM, ↓frame_rfl, Nat.reduceOr, ↓frame_step dropFrame_frame, ↓frame_step bumpWide_frame, ↓frame_step startXoff_frame,
        ↓frame_step admitMac_frame]
    | with_reducible apply frame_mk <;> first | exact .inl rfl | exact .inr rfl | skip
theorem execFrameReceive_frame {a1 s} : OutFrame 165706727560 (execFrameReceive a1 s) s := by
  unfold execFrameReceive
  repeat' first
    | with_reducible refine frame_ite ?_ ?_
    | simp only [↓outFrame_next, ↓frame_rfl, Nat.reduceOr, ↓frame_step dormantFrame_frame, ↓frame_step takeFrame_frame]
    | with_reducible refine onMac_frame rfl (fun _ => ?_)
theorem sendNeighbour_frame {a1 a2 a3 a4 a5 s} : Frame 139861426304 (sendNeighbour a1 a2 a3 a4 a5 s) s := by
  unfold sendNeighbour
  simp only [↓frame_rfl, Nat.reduceOr, ↓frame_step transmit_frame]
theorem execArpRequest_frame {a1 a2 a3 a4 s} : OutFrame 139861426304 (execArpRequest a1 a2 a3 a4 s) s := by
  unfold execArpRequest
  repeat' first
    | with_reducible refine frame_ite ?_ ?_
    | simp only [↓outFrame_next, ↓frame_rfl, Nat.reduceOr, ↓frame_step sendNeighbour_frame]
    | with_reducible refine onMac_frame rfl (fun _ => ?_)
theorem execIcmpEcho_frame {a1 a2 a3 a4 s} : OutFrame 139861426304 (execIcmpEcho a1 a2 a3 a4 s) s := by
  unfold execIcmpEcho
  repeat' first
    | with_reducible refine frame_ite ?_ ?_
    | simp only [↓outFrame_next, ↓frame_rfl, Nat.reduceOr, ↓frame_step putMac_frame, ↓frame_step transmit_frame]
    | with_reducible refine onMac_frame rfl (fun _ => ?_)
    | split
theorem execNeighbourRefresh_frame {a1 a2 s} : OutFrame 139861426304 (execNeighbourRefresh a1 a2 s) s := by
  unfold execNeighbourRefresh
  repeat' first
    | simp only [↓outFrame_next, ↓frame_rfl, Nat.reduceOr, ↓frame_step sendNeighbour_frame, ↓frame_step putMac_frame]
    | with_reducible refine onMac_frame rfl (fun _ => ?_)
    | split
theorem execLinkUp_frame {a1 s} : OutFrame 165698338952 (execLinkUp a1 s) s := by
  unfold execLinkUp
  repeat' first
    | with_reducible refine frame_ite ?_ ?_
    | simp only [↓outFrame_next, ↓frame_rfl, Nat.reduceOr, ↓frame_step wakeMac_frame, ↓frame_step putMac_frame, ↓frame_step pumpMac_frame,
        ↓frame_step sendNeighbour_frame]
    | with_reducible refine onMac_frame rfl (fun _ => ?_)
    | split
theorem dropLink_frame {a1 s} : Frame 156835512320 (dropLink a1 s) s := by
  unfold dropLink
  repeat' first
    | simp only [↓frame_rfl, Nat.reduceOr, ↓frame_step raise_frame, ↓frame_step setFigure_frame, ↓frame_step putMac_frame]
    | split
theorem execLinkDown_frame {a1 s} : OutFrame 165425446920 (execLinkDown a1 s) s := by
  unfold execLinkDown
  repeat' first
    | with_reducible refine frame_ite ?_ ?_
    | simp only [↓outFrame_next, ↓frame_rfl, Nat.reduceOr, ↓frame_step wakeMac_frame, ↓frame_step dropLink_frame]
    | with_reducible refine onMac_frame rfl (fun _ => ?_)
theorem restartPort_frame {a1 s} : Frame 156835512320 (restartPort a1 s) s := by
  unfold restartPort
  repeat' first
    | simp only [↓frame_rfl, Nat.reduceOr, ↓frame_step dropLink_frame]
    | with_reducible refine frame_foldl (fun _ _ => ?_) ?_
theorem applyPortMode_frame {a1 s} : Frame 156839706624 (applyPortMode a1 s) s := by
  unfold applyPortMode
  repeat' first
    | simp only [↓frame_mkM, ↓frame_rfl, Nat.reduceOr, ↓frame_step restartPort_frame]
    | with_reducible apply frame_mk <;> first | exact .inl rfl | exact .inr rfl | skip
theorem execOpticInsert_frame {a1 a2 a3 s} : OutFrame 156835512320 (execOpticInsert a1 a2 a3 s) s := by
  unfold execOpticInsert
  repeat' first
    | with_reducible refine frame_ite ?_ ?_
    | with_reducible refine frame_oite ?_ ?_
    | simp only [↓outFrame_next, ↓frame_mkM, ↓frame_rfl, Nat.reduceOr, ↓frame_step raise_frame, ↓frame_step restartPort_frame]
    | with_reducible apply frame_mk <;> first | exact .inl rfl | exact .inr rfl | skip
theorem putPause_frame {a1 a2 s} : Frame 2097152 (putPause a1 a2 s) s := by
  unfold putPause
  repeat' first
    | simp only [↓frame_rfl, Nat.reduceOr, ↓frame_step putMac_frame]
    | split
theorem takePause_frame {a1 a2 a3 s} : Frame 2097152 (takePause a1 a2 a3 s) s := by
  unfold takePause
  repeat' first
    | with_reducible refine frame_ite ?_ ?_
    | simp only [↓frame_rfl, Nat.reduceOr, ↓frame_step putPause_frame]
    | split
theorem execPauseFrame_frame {a1 a2 a3 s} : OutFrame 139592990848 (execPauseFrame a1 a2 a3 s) s := by
  unfold execPauseFrame
  repeat' first
    | with_reducible refine frame_ite ?_ ?_
    | simp only [↓outFrame_next, ↓frame_rfl, Nat.reduceOr, ↓frame_step pumpMac_frame, ↓frame_step takePause_frame,
        ↓frame_step bumpFigure_frame]
    | with_reducible refine onMac_frame rfl (fun _ => ?_)
    | with_reducible refine frame_foldl (fun _ _ => ?_) ?_
theorem execPauseExpiry_frame {a1 a2 s} : OutFrame 139592990848 (execPauseExpiry a1 a2 s) s := by
  unfold execPauseExpiry
  repeat' first
    | with_reducible refine frame_ite ?_ ?_
    | simp only [↓outFrame_next, ↓frame_rfl, Nat.reduceOr, ↓frame_step pumpMac_frame, ↓frame_step putPause_frame]
    | with_reducible refine onMac_frame rfl (fun _ => ?_)
    | split
theorem execPauseWatchdogTrip_frame {a1 a2 s} : OutFrame 156839968896 (execPauseWatchdogTrip a1 a2 s) s := by
  unfold execPauseWatchdogTrip
  repeat' first
    | with_reducible refine frame_ite ?_ ?_
    | simp only [↓outFrame_next, ↓frame_rfl, Nat.reduceOr, ↓frame_step pumpMac_frame, ↓frame_step raise_frame, ↓frame_step putPause_frame]
    | with_reducible refine onMac_frame rfl (fun _ => ?_)
    | split
theorem execPauseIgnoreEnd_frame {a1 a2 s} : OutFrame 2097152 (execPauseIgnoreEnd a1 a2 s) s := by
  unfold execPauseIgnoreEnd
  repeat' first
    | with_reducible refine frame_ite ?_ ?_
    | simp only [↓outFrame_next, ↓frame_rfl, Nat.reduceOr, ↓frame_step putPause_frame]
    | with_reducible refine onMac_frame rfl (fun _ => ?_)
    | split
theorem execFrameTransmitComplete_frame {a1 s} : OutFrame 139869814912 (execFrameTransmitComplete a1 s) s := by
  unfold execFrameTransmitComplete
  repeat' first
    | simp only [↓outFrame_next, ↓frame_rfl, Nat.reduceOr, ↓frame_step pumpMac_frame, ↓frame_step endXoffs_frame, ↓frame_step readOut_frame,
        ↓frame_step putMac_frame]
    | with_reducible refine onMac_frame rfl (fun _ => ?_)
    | split

end Machine
end Sys2Proof
end

