-- ==== Sys2Proof/Laws/ParamOpsFrame.lean ====
section
/-!
SUPPORT. What the definitions of Machine/ParamOps.lean leave unchanged.
-/
namespace Sys2Proof
namespace Machine
set_option maxRecDepth 100000
set_option linter.unusedSimpArgs false

theorem withModes_frame {s} : Frame 2097152 (withModes s) s := by
  unfold withModes
  repeat' first
    | simp only [↓frame_mkM, ↓frame_rfl]
    | with_reducible apply frame_mk <;> first | exact .inl rfl | exact .inr rfl | skip
theorem baseEntry_frame {a1 s} : Frame 1073741824 (baseEntry a1 s) s := by
  unfold baseEntry
  repeat' first
    | simp only [↓frame_mkM, ↓frame_rfl]
    | with_reducible apply frame_mk <;> first | exact .inl rfl | exact .inr rfl | skip
theorem setEntry_frame {a1 s} : Frame 1073741824 (setEntry a1 s) s := by
  unfold setEntry
  repeat' first
    | simp only [↓frame_mkM, ↓frame_rfl, Nat.reduceOr, ↓frame_step baseEntry_frame]
    | with_reducible apply frame_mk <;> first | exact .inl rfl | exact .inr rfl | skip
theorem baseLayer_frame {a1 s} : Frame 1073741824 (baseLayer a1 s) s := by
  unfold baseLayer
  repeat' first
    | simp only [↓frame_mkM, ↓frame_rfl, Nat.reduceOr, ↓frame_step baseEntry_frame]
    | with_reducible apply frame_mk <;> first | exact .inl rfl | exact .inr rfl | skip
    | with_reducible refine frame_foldl (fun _ _ => ?_) ?_
theorem rebindRings_frame {a1 s} : Frame 536870912 (rebindRings a1 s) s := by
  unfold rebindRings
  repeat' first
    | simp only [↓frame_mkM, ↓frame_rfl]
    | with_reducible apply frame_mk <;> first | exact .inl rfl | exact .inr rfl | skip
theorem paramEffects_frame {a1 s} : Frame 432524431840 (paramEffects a1 s) s := by
  unfold paramEffects
  repeat' first
    | with_reducible refine frame_ite ?_ ?_
    | simp only [↓frame_mkM, ↓frame_rfl, Nat.reduceOr, ↓frame_step rebindRings_frame, ↓frame_step resetEndpoint_frame,
        ↓frame_step dropLink_frame, ↓frame_step applyPortMode_frame, ↓frame_step selectGm_frame]
    | with_reducible apply frame_mk <;> first | exact .inl rfl | exact .inr rfl | skip
    | with_reducible refine frame_foldl (fun _ _ => ?_) ?_
theorem entryActs_frame {a1 s} : Frame 436474672104 (entryActs a1 s) s := by
  unfold entryActs
  repeat' first
    | with_reducible refine frame_ite ?_ ?_
    | simp only [↓frame_mkM, ↓frame_rfl, Nat.reduceOr, ↓frame_step trustAgain_frame, ↓frame_step clearStatus_frame,
        ↓frame_step startScrub_frame, ↓frame_step restartPort_frame, ↓frame_step sharePipes_frame, ↓frame_step abortChannels_frame,
        ↓frame_step resetPort_frame, ↓frame_step startReeving_frame, ↓frame_step clearLatch_frame]
    | with_reducible apply frame_mk <;> first | exact .inl rfl | exact .inr rfl | skip
theorem withSets_frame {a1 s} : Frame 1073741824 (withSets a1 s) s := by
  unfold withSets
  repeat' first
    | simp only [↓frame_rfl, Nat.reduceOr, ↓frame_step setEntry_frame]
    | with_reducible refine frame_foldl (fun _ _ => ?_) ?_
theorem applySet_frame {a1 s} : Frame 438086661096 (applySet a1 s) s := by
  unfold applySet
  repeat' first
    | simp only [↓frame_rfl, Nat.reduceOr, ↓frame_step entryActs_frame, ↓frame_step paramEffects_frame, ↓frame_step withSets_frame]
    | with_reducible refine frame_foldl (fun _ _ => ?_) ?_
theorem paramSetCmd_frame {a1 a2 a3 s} : Frame 996432409576 (paramSetCmd a1 a2 a3 s) s := by
  unfold paramSetCmd
  repeat' first
    | with_reducible refine frame_ite ?_ ?_
    | simp only [↓frame_rfl, Nat.reduceOr, ↓frame_step reply_frame, ↓frame_step applySet_frame]
    | with_reducible refine Frame.trans (mailboxCmd_frame rfl (fun _ _ => ?_)) ?_
    | split

end Machine
end Sys2Proof
end

