-- ==== Sys2Proof/Laws/OverlayFrame.lean ====
section
/-!
SUPPORT. What the definitions of Machine/Overlay.lean leave unchanged.
-/
namespace Sys2Proof
namespace Machine
set_option maxRecDepth 100000
set_option linter.unusedSimpArgs false

theorem withOverlay_frame {a1 s} : Frame 1073741824 (withOverlay a1 s) s := by
  unfold withOverlay
  repeat' first
    | simp only [↓frame_mkM, ↓frame_rfl]
    | with_reducible apply frame_mk <;> first | exact .inl rfl | exact .inr rfl | skip
theorem testFinding_frame {a1 a2 a3 s} : Frame 156833415176 (testFinding a1 a2 a3 s) s := by
  unfold testFinding
  repeat' first
    | simp only [↓frame_rfl, Nat.reduceOr, ↓frame_step raiseEvent_frame, ↓frame_step free_frame]
    | with_reducible refine frame_snd (by assumption) ?_
    | split
theorem rmwTest_frame {a1 a2 a3 a4 a5 a6 a7 s} : Frame 156871163912 (rmwTest a1 a2 a3 a4 a5 a6 a7 s) s := by
  unfold rmwTest
  repeat' first
    | simp only [↓frame_rfl, Nat.reduceOr, ↓frame_step testFinding_frame, ↓frame_step issueDrive_frame, ↓frame_step issueWrite_frame]
    | with_reducible refine frame_foldl (fun _ _ => ?_) ?_
theorem windowTest_frame {a1 a2 a3 s} : Frame 156871163912 (windowTest a1 a2 a3 s) s := by
  unfold windowTest
  repeat' first
    | with_reducible refine frame_ite ?_ ?_
    | simp only [↓frame_rfl, Nat.reduceOr, ↓frame_step testFinding_frame, ↓frame_step putPort_frame, ↓frame_step issueWrite_frame,
        ↓frame_step free_frame, ↓frame_step issueDrive_frame]
theorem runTests_frame {a1 s} : Frame 156871163912 (runTests a1 s) s := by
  unfold runTests
  repeat' first
    | simp only [↓frame_rfl, Nat.reduceOr, ↓frame_step rmwTest_frame, ↓frame_step windowTest_frame]
    | with_reducible refine frame_foldl (fun _ _ => ?_) ?_
    | split
theorem startQuiet_frame {a1 s} : Frame 4194304 (startQuiet a1 s) s := by
  unfold startQuiet
  repeat' first
    | simp only [↓frame_rfl, Nat.reduceOr, ↓frame_step putQuiet_frame]
    | split
theorem placeOverlay_frame {a1 s} : Frame 446650872296 (placeOverlay a1 s) s := by
  unfold placeOverlay
  repeat' first
    | with_reducible refine frame_ite ?_ ?_
    | simp only [↓frame_mkM, ↓frame_rfl, Nat.reduceOr, ↓frame_step startQuiet_frame, ↓frame_step paramEffects_frame,
        ↓frame_step withOverlay_frame, ↓frame_step powerDrives_frame, ↓frame_step wake_frame]
    | with_reducible apply frame_mk <;> first | exact .inl rfl | exact .inr rfl | skip
theorem leaveOverlay_frame {a1 s} : Frame 446650905064 (leaveOverlay a1 s) s := by
  unfold leaveOverlay
  repeat' first
    | with_reducible refine frame_ite ?_ ?_
    | simp only [↓frame_rfl, Nat.reduceOr, ↓frame_step removeRebuildSafe_frame, ↓frame_step powerDrives_frame, ↓frame_step wake_frame,
        ↓frame_step paramEffects_frame, ↓frame_step dropOverlay_frame]
theorem tellConfig_frame {a1 a2 a3 a4 s} : Frame 137438953472 (tellConfig a1 a2 a3 a4 s) s := by
  unfold tellConfig
  repeat' first
    | with_reducible refine frame_ite ?_ ?_
    | simp only [↓frame_rfl, Nat.reduceOr, ↓frame_step pairState_frame]
theorem ovlApplied_frame {a1 s} : Frame 481010643432 (ovlApplied a1 s).2 s := by
  unfold ovlApplied
  repeat' first
    | with_reducible refine frame_ite ?_ ?_
    | simp only [↓frame_rfl, Nat.reduceOr, ↓frame_step raise_frame, ↓frame_step leaveOverlay_frame, ↓frame_step tellConfig_frame,
        ↓frame_step resumeConfig_frame, ↓frame_step runTests_frame, ↓frame_step configEntry_frame, ↓frame_step placeOverlay_frame]
    | split
theorem ovlRemoved_frame {a1 s} : Frame 481010643432 (ovlRemoved a1 s).2 s := by
  unfold ovlRemoved
  repeat' first
    | with_reducible refine frame_ite ?_ ?_
    | simp only [↓frame_rfl, Nat.reduceOr, ↓frame_step resumeConfig_frame, ↓frame_step leaveOverlay_frame, ↓frame_step tellConfig_frame]
    | split
theorem actStatus_frame {w a b c s} (hw : 991036825752 ||| w = w) (h : Frame w c.2 s) : Frame w (actStatus a b c) s := by
  unfold actStatus
  repeat' first
    | with_reducible refine frame_ite ?_ ?_
    | simp only [Nat.reduceOr, ↓frame_stepH hw touch_frame, ↓frame_stepH hw quorumDone_frame, ↓frame_stepH hw qReply_frame]
    | exact h
theorem actOvlApply_frame {a1 a2 s} : Frame 1030766457336 (actOvlApply a1 a2 s) s := by
  unfold actOvlApply
  repeat' first
    | simp only [↓frame_rfl, Nat.reduceOr, ↓frame_step ovlApplied_frame]
    | with_reducible refine actStatus_frame rfl ?_
theorem actOvlRemove_frame {a1 a2 s} : Frame 1030766457336 (actOvlRemove a1 a2 s) s := by
  unfold actOvlRemove
  repeat' first
    | simp only [↓frame_rfl, Nat.reduceOr, ↓frame_step ovlRemoved_frame]
    | with_reducible refine actStatus_frame rfl ?_
theorem execOvlApply_frame {a1 a2 a3 s} : OutFrame 1030766457336 (execOvlApply a1 a2 a3 s) s := by
  unfold execOvlApply
  simp only [↓outFrame_next]
  refine frame_ite (quorumCmd_frame rfl (fun _ _ => actOvlApply_frame.mono rfl)) (mailboxCmd_frame rfl (fun _ _ => ?_))
  exact (reply_frame.mono rfl).trans (ovlApplied_frame.mono rfl)
theorem execOvlRemove_frame {a1 a2 a3 s} : OutFrame 1030766457336 (execOvlRemove a1 a2 a3 s) s := by
  unfold execOvlRemove
  simp only [↓outFrame_next]
  refine frame_ite (quorumCmd_frame rfl (fun _ _ => actOvlRemove_frame.mono rfl)) (mailboxCmd_frame rfl (fun _ _ => ?_))
  exact (reply_frame.mono rfl).trans (ovlRemoved_frame.mono rfl)
theorem execRebuildSafeExpiry_frame {s} : OutFrame 433766003176 (execRebuildSafeExpiry s) s := by
  unfold execRebuildSafeExpiry
  repeat' first
    | with_reducible refine frame_ite ?_ ?_
    | simp only [↓outFrame_next, ↓frame_rfl, Nat.reduceOr, ↓frame_step paramEffects_frame, ↓frame_step removeRebuildSafe_frame]
    | split
theorem placeImage_frame {a1 s} : Frame 433598173664 (placeImage a1 s) s := by
  unfold placeImage
  repeat' first
    | simp only [↓frame_mkM, ↓frame_rfl, Nat.reduceOr, ↓frame_step paramEffects_frame, ↓frame_step baseLayer_frame]
    | with_reducible apply frame_mk <;> first | exact .inl rfl | exact .inr rfl | skip
theorem baseLoaded_frame {a1 s} : Frame 472420708856 (baseLoaded a1 s).2 s := by
  unfold baseLoaded
  repeat' first
    | with_reducible refine frame_ite ?_ ?_
    | simp only [↓frame_rfl, Nat.reduceOr, ↓frame_step formShelf_frame, ↓frame_step placeImage_frame, ↓frame_step resumeConfig_frame,
        ↓frame_step configEntry_frame, ↓frame_step tellConfig_frame]
    | split
theorem actBaseLoad_frame {a1 a2 s} : Frame 1030766457336 (actBaseLoad a1 a2 s) s := by
  unfold actBaseLoad
  repeat' first
    | simp only [↓frame_rfl, Nat.reduceOr, ↓frame_step baseLoaded_frame]
    | with_reducible refine actStatus_frame rfl ?_
theorem execBaseLoad_frame {a1 a2 a3 s} : OutFrame 1030766457336 (execBaseLoad a1 a2 a3 s) s := by
  unfold execBaseLoad
  repeat' first
    | simp only [↓outFrame_next, ↓frame_rfl, Nat.reduceOr, ↓frame_step actBaseLoad_frame]
    | with_reducible refine Frame.trans (quorumCmd_frame rfl (fun _ _ => ?_)) ?_

end Machine
end Sys2Proof
end

