-- ==== Sys2Proof/Laws/CeremonyFrame.lean ====
section
/-!
SUPPORT. What the definitions of Machine/Ceremony.lean leave unchanged.
-/
namespace Sys2Proof
namespace Machine
set_option maxRecDepth 100000
set_option linter.unusedSimpArgs false

theorem newCeremony_frame {a1 s} : Frame 8 (newCeremony a1 s).2 s := by
  unfold newCeremony
  repeat' first
    | simp only [↓frame_rfl, Nat.reduceOr, ↓frame_step drawDigest_frame]
    | with_reducible refine frame_snd (by assumption) ?_
    | split
theorem execQuorumBegin_frame {a1 a2 s} : OutFrame 995331694744 (execQuorumBegin a1 a2 s) s := by
  unfold execQuorumBegin
  repeat' first
    | with_reducible refine frame_ite ?_ ?_
    | simp only [↓outFrame_next, ↓frame_mkM, ↓frame_rfl, Nat.reduceOr, ↓frame_step replyNotVisible_frame, ↓frame_step reply_frame,
        ↓frame_step raiseEvent_frame, ↓frame_step tellCeremony_frame, ↓frame_step newCeremony_frame]
    | with_reducible refine Frame.trans (mailboxCmd_frame rfl (fun _ _ => ?_)) ?_
    | with_reducible apply frame_mk <;> first | exact .inl rfl | exact .inr rfl | skip
    | with_reducible refine frame_snd (by assumption) ?_
    | split
theorem endNoAct_frame {a1 a2 s} : Frame 982413213840 (endNoAct a1 a2 s) s := by
  unfold endNoAct
  repeat' first
    | simp only [↓frame_mkM, ↓frame_rfl, Nat.reduceOr, ↓frame_step qReply_frame, ↓frame_step raiseEvent_frame]
    | with_reducible apply frame_mk <;> first | exact .inl rfl | exact .inr rfl | skip
    | split
theorem runAct_frame {a1 a2 s} : Frame 1030766460924 (runAct a1 a2 s) s := by
  unfold runAct
  repeat' first
    | simp only [↓frame_rfl, Nat.reduceOr, ↓frame_step actSetChange_frame, ↓frame_step actTimeAuth_frame, ↓frame_step actEscrowImport_frame,
        ↓frame_step actCustodyCertify_frame, ↓frame_step actTenantErase_frame, ↓frame_step endNoAct_frame, ↓frame_step actOvlApply_frame,
        ↓frame_step actOvlRemove_frame, ↓frame_step actBaseLoad_frame, ↓frame_step actSanitise_frame, ↓frame_step actHitchOpen_frame,
        ↓frame_step actHitchClose_frame, ↓frame_step actHitchAbort_frame, ↓frame_step actRelease_frame]
    | split
theorem countSignature_frame {a1 a2 s} : Frame 137438953488 (countSignature a1 a2 s).2 s := by
  unfold countSignature
  repeat' first
    | with_reducible refine frame_ite ?_ ?_
    | simp only [↓frame_mkM, ↓frame_rfl, Nat.reduceOr, ↓frame_step pairState_frame]
    | with_reducible apply frame_mk <;> first | exact .inl rfl | exact .inr rfl | skip
    | split
theorem signReply_frame {a1 a2 a3 a4 a5 s} : Frame 157779492992 (signReply a1 a2 a3 a4 a5 s) s := by
  unfold signReply
  repeat' first
    | with_reducible refine frame_ite ?_ ?_
    | simp only [↓frame_rfl, Nat.reduceOr, ↓frame_step answerMate_frame, ↓frame_step reply_frame]
theorem takeSignature_frame {a1 a2 a3 s} : Frame 1030766460924 (takeSignature a1 a2 a3 s) s := by
  unfold takeSignature
  repeat' first
    | with_reducible refine frame_ite ?_ ?_
    | simp only [↓frame_rfl, Nat.reduceOr, ↓frame_step signReply_frame, ↓frame_step runAct_frame, ↓frame_step countSignature_frame]
    | with_reducible refine Frame.trans (endCeremony_frame rfl (fun _ _ => ?_)) ?_
    | with_reducible refine frame_snd (by assumption) ?_
    | split
theorem forwardSignature_frame {a1 a2 a3 s} : Frame 137975824400 (forwardSignature a1 a2 a3 s) s := by
  unfold forwardSignature
  repeat' first
    | simp only [↓frame_mkM, ↓frame_rfl, Nat.reduceOr, ↓frame_step pairState_frame, ↓frame_step holdTag_frame]
    | with_reducible apply frame_mk <;> first | exact .inl rfl | exact .inr rfl | skip
theorem execQuorumSign_frame {a1 a2 s} : OutFrame 1030766460924 (execQuorumSign a1 a2 s) s := by
  unfold execQuorumSign
  repeat' first
    | with_reducible refine frame_ite ?_ ?_
    | simp only [↓outFrame_next, ↓frame_rfl, Nat.reduceOr, ↓frame_step reply_frame, ↓frame_step forwardSignature_frame,
        ↓frame_step takeSignature_frame]
    | with_reducible refine Frame.trans (mailboxCmd_frame rfl (fun _ _ => ?_)) ?_
    | split
theorem mateAnswer_frame {a1 a2 a3 a4 s} : Frame 157779493008 (mateAnswer a1 a2 a3 a4 s) s := by
  unfold mateAnswer
  repeat' first
    | with_reducible refine frame_ite ?_ ?_
    | simp only [↓frame_mkM, ↓frame_rfl, Nat.reduceOr, ↓frame_step freeTag_frame, ↓frame_step reply_frame]
    | with_reducible apply frame_mk <;> first | exact .inl rfl | exact .inr rfl | skip
    | split
theorem takeCeremonies_frame {s} : Frame 1030766460924 (takeCeremonies s) s := by
  unfold takeCeremonies
  repeat' first
    | simp only [↓frame_mkM, ↓frame_rfl, Nat.reduceOr, ↓frame_step takeSignature_frame, ↓frame_step freeTag_frame, ↓frame_step reply_frame]
    | with_reducible apply frame_mk <;> first | exact .inl rfl | exact .inr rfl | skip
    | with_reducible refine frame_foldl (fun _ _ => ?_) ?_
    | split
theorem execQuorumStatus_frame {a1 s} : OutFrame 995331694728 (execQuorumStatus a1 s) s := by
  unfold execQuorumStatus
  repeat' first
    | simp only [↓outFrame_next, ↓frame_rfl, Nat.reduceOr, ↓frame_step reply_frame]
    | with_reducible refine Frame.trans (mailboxCmd_frame rfl (fun _ _ => ?_)) ?_
theorem execCeremonyExpiry_frame {a1 s} : OutFrame 156833415184 (execCeremonyExpiry a1 s) s := by
  unfold execCeremonyExpiry
  repeat' first
    | with_reducible refine frame_ite ?_ ?_
    | simp only [↓outFrame_next, ↓frame_rfl, Nat.reduceOr, ↓frame_step raiseEvent_frame, ↓frame_step closeCeremony_frame]
    | split

end Machine
end Sys2Proof
end

