-- ==== Sys2Proof/Laws/EventsFrame.lean ====
section
/-!
SUPPORT. What the definitions of Machine/Events.lean leave unchanged.
-/
namespace Sys2Proof
namespace Machine
set_option maxRecDepth 100000
set_option linter.unusedSimpArgs false

theorem execEvtRead_frame {a1 a2 a3 a4 s} : OutFrame 995331694728 (execEvtRead a1 a2 a3 a4 s) s := by
  unfold execEvtRead
  repeat' first
    | with_reducible refine frame_ite ?_ ?_
    | simp only [↓outFrame_next, ↓frame_mkM, ↓frame_rfl, Nat.reduceOr, ↓frame_step reply_frame]
    | with_reducible refine Frame.trans (mailboxCmd_frame rfl (fun _ _ => ?_)) ?_
    | with_reducible apply frame_mk <;> first | exact .inl rfl | exact .inr rfl | skip
    | split
theorem mapMcRing_frame {a1 s} : Frame 17179869184 (mapMcRing a1 s) s := by
  unfold mapMcRing
  repeat' first
    | simp only [↓frame_mkM, ↓frame_rfl]
    | with_reducible apply frame_mk <;> first | exact .inl rfl | exact .inr rfl | skip
theorem dropMcRecord_frame {a1 s} : Frame 17179869184 (dropMcRecord a1 s) s := by
  unfold dropMcRecord
  simp only [↓frame_rfl, Nat.reduceOr, ↓frame_step mapMcRing_frame]
theorem platformEvent_frame {a1 s} : Frame 137438953472 (platformEvent a1 s) s := by
  unfold platformEvent
  simp only [↓frame_rfl, Nat.reduceOr, ↓frame_step send_frame]
theorem pumpPldm_frame {s} : Frame 154618822656 (pumpPldm s) s := by
  unfold pumpPldm
  repeat' first
    | with_reducible refine frame_ite ?_ ?_
    | simp only [↓frame_mkM, ↓frame_rfl, Nat.reduceOr, ↓frame_step platformEvent_frame, ↓frame_step mapMcRing_frame]
    | with_reducible apply frame_mk <;> first | exact .inl rfl | exact .inr rfl | skip
    | split
theorem execPldmEventResponse_frame {a1 s} : OutFrame 165356240904 (execPldmEventResponse a1 s) s := by
  unfold execPldmEventResponse
  repeat' first
    | simp only [↓outFrame_next, ↓frame_mkM, ↓frame_rfl, Nat.reduceOr, ↓frame_step wake_frame, ↓frame_step pumpPldm_frame,
        ↓frame_step dropMcRecord_frame]
    | with_reducible apply frame_mk <;> first | exact .inl rfl | exact .inr rfl | skip
    | split
theorem execPldmEventTimeout_frame {s} : OutFrame 156833415168 (execPldmEventTimeout s) s := by
  unfold execPldmEventTimeout
  repeat' first
    | with_reducible refine frame_ite ?_ ?_
    | simp only [↓outFrame_next, ↓frame_mkM, ↓frame_rfl, Nat.reduceOr, ↓frame_step platformEvent_frame, ↓frame_step pumpPldm_frame,
        ↓frame_step raise_frame, ↓frame_step dropMcRecord_frame]
    | with_reducible apply frame_mk <;> first | exact .inl rfl | exact .inr rfl | skip
    | split
theorem execSetEventReceiver_frame {a1 s} : OutFrame 165356240904 (execSetEventReceiver a1 s) s := by
  unfold execSetEventReceiver
  repeat' first
    | with_reducible refine frame_ite ?_ ?_
    | simp only [↓outFrame_next, ↓frame_mkM, ↓frame_rfl, Nat.reduceOr, ↓frame_step wake_frame, ↓frame_step pumpPldm_frame,
        ↓frame_step send_frame]
    | with_reducible apply frame_mk <;> first | exact .inl rfl | exact .inr rfl | skip
theorem readSensors_frame {a1 s} : Frame 8 (readSensors a1 s).2 s := by
  unfold readSensors
  repeat' first
    | simp only [↓frame_rfl, Nat.reduceOr, ↓frame_step free_frame]
    | with_reducible refine frame_foldl_snd (fun _ _ => ?_) ?_
theorem reportTemps_frame {a1 s} : Frame 154618822664 (reportTemps a1 s) s := by
  unfold reportTemps
  repeat' first
    | with_reducible refine frame_ite ?_ ?_
    | simp only [↓frame_mkM, ↓frame_rfl, Nat.reduceOr, ↓frame_step send_frame, ↓frame_step readSensors_frame]
    | with_reducible apply frame_mk <;> first | exact .inl rfl | exact .inr rfl | skip
theorem spdmReply_frame {a1 a2 a3 s} : Frame 137438953472 (spdmReply a1 a2 a3 s) s := by
  unfold spdmReply
  simp only [↓frame_rfl, Nat.reduceOr, ↓frame_step send_frame]
theorem spdmError_frame {a1 s} : Frame 137438953472 (spdmError a1 s) s := by
  unfold spdmError
  simp only [↓frame_rfl, Nat.reduceOr, ↓frame_step spdmReply_frame]
theorem spdmTake_frame {w a1 f2 s} (hw : 148176371720 ||| w = w) (h : ∀ s, Frame w (f2 s) s) : Frame w (spdmTake a1 f2 s) s := by
  unfold spdmTake
  repeat' first
    | with_reducible refine frame_ite ?_ ?_
    | simp only [↓frame_rfl, Nat.reduceOr, ↓frame_stepH hw wake_frame, ↓frame_stepH hw spdmError_frame]
    | with_reducible refine Frame.trans (h _) ?_
theorem spdmStage_frame {a1 s} : Frame 68719476736 (spdmStage a1 s) s := by
  unfold spdmStage
  repeat' first
    | simp only [↓frame_mkM, ↓frame_rfl]
    | with_reducible apply frame_mk <;> first | exact .inl rfl | exact .inr rfl | skip
theorem execGetVersion_frame {s} : OutFrame 216895848456 (execGetVersion s) s := by
  unfold execGetVersion
  repeat' first
    | simp only [↓outFrame_next, ↓frame_rfl, Nat.reduceOr, ↓frame_step spdmReply_frame, ↓frame_step spdmStage_frame]
    | with_reducible refine Frame.trans (spdmTake_frame rfl (fun _ => ?_)) ?_
theorem execGetCapabilities_frame {s} : OutFrame 216895848456 (execGetCapabilities s) s := by
  unfold execGetCapabilities
  repeat' first
    | simp only [↓outFrame_next, ↓frame_rfl, Nat.reduceOr, ↓frame_step spdmReply_frame, ↓frame_step spdmStage_frame]
    | with_reducible refine Frame.trans (spdmTake_frame rfl (fun _ => ?_)) ?_
theorem execNegotiateAlgorithms_frame {a1 a2 s} : OutFrame 216895848456 (execNegotiateAlgorithms a1 a2 s) s := by
  unfold execNegotiateAlgorithms
  repeat' first
    | with_reducible refine frame_ite ?_ ?_
    | simp only [↓outFrame_next, ↓frame_rfl, Nat.reduceOr, ↓frame_step spdmReply_frame, ↓frame_step spdmStage_frame,
        ↓frame_step spdmError_frame]
    | with_reducible refine Frame.trans (spdmTake_frame rfl (fun _ => ?_)) ?_
theorem execGetDigests_frame {s} : OutFrame 148176371720 (execGetDigests s) s := by
  unfold execGetDigests
  repeat' first
    | simp only [↓outFrame_next, ↓frame_rfl, Nat.reduceOr, ↓frame_step spdmReply_frame]
    | with_reducible refine Frame.trans (spdmTake_frame rfl (fun _ => ?_)) ?_
theorem execGetCertificate_frame {a1 a2 a3 s} : OutFrame 148176371720 (execGetCertificate a1 a2 a3 s) s := by
  unfold execGetCertificate
  repeat' first
    | with_reducible refine frame_ite ?_ ?_
    | simp only [↓outFrame_next, ↓frame_rfl, Nat.reduceOr, ↓frame_step spdmReply_frame, ↓frame_step spdmError_frame]
    | with_reducible refine Frame.trans (spdmTake_frame rfl (fun _ => ?_)) ?_
theorem execChallenge_frame {a1 a2 s} : OutFrame 148176371720 (execChallenge a1 a2 s) s := by
  unfold execChallenge
  repeat' first
    | with_reducible refine frame_ite ?_ ?_
    | simp only [↓outFrame_next, ↓frame_rfl, Nat.reduceOr, ↓frame_step spdmError_frame, ↓frame_step spdmReply_frame,
        ↓frame_step drawDigest_frame]
    | with_reducible refine Frame.trans (spdmTake_frame rfl (fun _ => ?_)) ?_
theorem execGetMeasurements_frame {a1 a2 a3 s} : OutFrame 148176371720 (execGetMeasurements a1 a2 a3 s) s := by
  unfold execGetMeasurements
  repeat' first
    | with_reducible refine frame_ite ?_ ?_
    | simp only [↓outFrame_next, ↓frame_rfl, Nat.reduceOr, ↓frame_step spdmError_frame, ↓frame_step spdmReply_frame,
        ↓frame_step drawDigest_frame]
    | with_reducible refine Frame.trans (spdmTake_frame rfl (fun _ => ?_)) ?_

end Machine
end Sys2Proof
end

