-- ==== Sys2Proof/Laws/KeepForms.lean ====
section
/-!
SUPPORT. What every operation keeps, also the few that change the fuse, the custodian set or landing memory.
-/
namespace Sys2Proof
namespace Machine

/-- What every operation keeps from `s` to `t`: a fuse that does not fall (02 R64), a custodian set that stays empty or one R38 allows,
landing memory that stays canonical (13 R341). -/
structure Keep (t s : State) : Prop where
  fused   : s.auth.fusedSvn ≤ t.auth.fusedSvn
  cust    : legal s.auth.quorumK s.auth.custKeys = true → legal t.auth.quorumK t.auth.custKeys = true
  mem     : Memory.wf s.reg.mem = true → Memory.wf t.reg.mem = true
/-- A next state of the outcome keeps what `Keep` says. -/
def OutKeep (o : Host.Outcome State Fault Refusal) (s : State) : Prop := ∀ t, o = .next t → Keep t s
theorem Frame.keep {w : Nat} {t s : State} (h : Frame w t s) (k : w &&& 524294 = 0) : Keep t s := by
  have f := h.fuse (bit_and k rfl)
  have c := h.custodians (bit_and k rfl)
  have m := h.landing (bit_and k rfl)
  refine ⟨f.symm ▸ Nat.le_refl _, ?_, by rw [m]; exact id⟩
  rw [Prod.mk.injEq] at c
  rw [c.1, c.2]; exact id
theorem Keep.refl {s : State} : Keep s s := ⟨Nat.le_refl _, id, id⟩
theorem Keep.trans {a b c : State} (h : Keep a b) (k : Keep b c) : Keep a c :=
  ⟨Nat.le_trans k.1 h.1, fun x => h.2 (k.2 x), fun x => h.3 (k.3 x)⟩
theorem keep_rfl (s : State) : Keep s s = True := eq_true Keep.refl
theorem keep_step {w : Nat} {t s c : State} (h : Frame w t s) (k : w &&& 524294 = 0) : Keep t c = Keep s c :=
  propext ⟨fun j => (h.symm.keep k).trans j, fun j => (h.keep k).trans j⟩
theorem keep_next (t s : State) : OutKeep (.next t) s = Keep t s := propext ⟨fun h => h t rfl, fun h _ e => by cases e; exact h⟩
theorem keep_fault (r : Fault) (s : State) : OutKeep (.fault r) s = True := eq_true (fun _ e => by cases e)
theorem keep_ite {c : Prop} [Decidable c] {a b s : State} (h : Keep a s) (k : Keep b s) : Keep (if c then a else b) s := by
  split <;> assumption
theorem keep_oite {c : Prop} [Decidable c] {a b : Host.Outcome State Fault Refusal} {s : State} (h : OutKeep a s) (k : OutKeep b s) :
    OutKeep (if c then a else b) s := by
  split <;> assumption
theorem keep_foldl {α : Type} {g : State → α → State} {l : List α} {s c : State} (h : ∀ a x, Keep (g a x) a) (k : Keep s c) : Keep (l.foldl g s) c := by
  induction l generalizing s with
  | nil => exact k
  | cons x l ih => exact ih ((h s x).trans k)
theorem keep_elim {α : Type} {o : Option α} {a s : State} {f : α → State} (h : Keep a s) (k : ∀ x, Keep (f x) s) :
    Keep (o.elim a f) s := by cases o with
  | none => exact h
  | some x => exact k x
theorem keep_snd {α : Type} {p : α × State} {a : α} {t c : State} (h : p = (a, t)) (k : Keep p.2 c) : Keep t c := by subst h; exact k
/-- `Keep` over the named fields, the form a record update rewrites to. -/
def KeepF (f : Nat) (k : List Digest) (q : Nat) (m : List Host.Cell) (c : State) : Prop :=
  c.auth.fusedSvn ≤ f ∧ (legal c.auth.quorumK c.auth.custKeys = true → legal q k = true) ∧ (Memory.wf c.reg.mem = true → Memory.wf m = true)
theorem keepF_eq (s c : State) : KeepF s.auth.fusedSvn s.auth.custKeys s.auth.quorumK s.reg.mem c = Keep s c :=
  propext ⟨fun h => ⟨h.1, h.2.1, h.2.2⟩, fun h => ⟨h.1, h.2, h.3⟩⟩
theorem keep_mk (c : State) x_auth x_time x_block x_obj x_idx x_log x_mem x_fix x_hitch x_trn x_reg x_net x_sch x_hold x_mov x_drv x_sep x_pair x_tet x_mbx x_layers x_pwr x_pst x_ev x_boot x_spdm x_out x_held x_nextId x_pending : Keep (State.mk x_auth x_time x_block x_obj x_idx x_log x_mem x_fix x_hitch x_trn x_reg x_net x_sch x_hold x_mov x_drv x_sep x_pair x_tet x_mbx x_layers x_pwr x_pst x_ev x_boot x_spdm x_out x_held x_nextId x_pending) c = KeepF x_auth.fusedSvn x_auth.custKeys x_auth.quorumK x_reg.mem c := (keepF_eq _ _).symm

end Machine
end Sys2Proof
end

