-- ==== Sys2Proof/Laws/Gate.lean ====
section
/-!
SUPPORT. What the checks of a mailbox command and of a quorum act come to when they pass, and what a reply does.
-/
namespace Sys2Proof
namespace Machine

theorem connAt_takeRequest {s : State} {m k t : Nat} : connAt (takeRequest k t s) m = connAt s m := by
  unfold takeRequest connAt
  dsimp only
  split <;> rfl

theorem mono_takeRequest {s : State} {k t : Nat} : mono (takeRequest k t s) = mono s := by
  unfold mono; rw [(takeRequest_frame (a1 := k) (a2 := t) (s := s)).time rfl]

theorem stateAdmits_takeRequest {s : State} {k t op : Nat} {p : Principal} : stateAdmits (takeRequest k t s) p op = stateAdmits s p op := by
  have f := takeRequest_frame (a1 := k) (a2 := t) (s := s)
  unfold stateAdmits; rw [f.block rfl, f.boot rfl, f.auth rfl]

theorem grantOk_takeRequest {s : State} {k t : Nat} {p : Principal} : grantOk (takeRequest k t s) p = grantOk s p := by
  have f := takeRequest_frame (a1 := k) (a2 := t) (s := s)
  unfold grantOk grantAt grantTimely custodySec; rw [f.auth rfl, f.time rfl]

/-- The connection a checked command's rules get. -/
def afterConn (s : State) (x : Conn) : Conn :=
  { x with lastReq := mono s, counter := if hasTrailer x then x.counter + 1 else x.counter }

/-- A command that passes its checks runs its own rules. -/
theorem mailboxCmd_checked {s : State} {c : Call} {op : Nat} {allow : Principal → Bool} {x : Conn} {n : Names} {act : Conn → State → State}
    (h : Checked s c op allow x) :
    mailboxCmd c op n allow act s = needsDrives (reply c op eState []) (act (afterConn s x)) (afterChecks s c x) := by
  obtain ⟨hServed, hConn, hTag, hLow, hState, hRsv, hTrailer, hAllowed, hGrant, -⟩ := h
  have ht : (x.tags.contains c.tag || decide (64 ≤ c.tag)) = false := by
    rw [hTag, Bool.false_or]; exact decide_eq_false (Nat.not_le.mpr hLow)
  have hs : (hasTrailer x && !(c.sigOk && c.counter == x.counter + 1)) = false := by
    cases k : hasTrailer x with
    | false => rfl
    | true =>
      have := hTrailer k
      simp [this.1, this.2]
  unfold mailboxCmd
  simp only [hServed, Bool.not_true, Bool.false_eq_true, if_false, connAt_takeRequest, hConn, ht, stateAdmits_takeRequest, hState, hRsv,
    bne_self_eq_false, hs, hAllowed, grantOk_takeRequest, hGrant, Bool.and_self, if_true, mono_takeRequest]
  rfl

/-- Rules that issue no drive command need no drive. -/
theorem needsDrives_of_drv {answer act : State → State} {s : State} (h : (act s).drv = s.drv) : needsDrives answer act s = act s := by
  have : drivesAsked s (act s) = false := by
    unfold drivesAsked portAt
    rw [h]
    exact List.any_eq_false.mpr (fun n _ => by simp)
  unfold needsDrives
  simp only [this, Bool.not_false, if_true]

/-- While the drives are powered a command's rules run, whatever drives they ask. -/
theorem needsDrives_up {answer act : State → State} {s : State} (h : s.pst.drivesDown = false) :
    ∃ k, needsDrives answer act s = { act s with pst := k } := by
  unfold needsDrives
  simp only [h, Bool.not_false, if_true]
  split
  · exact ⟨_, rfl⟩
  · exact ⟨_, rfl⟩

theorem mayLeave_of_belay {s : State} {m : Msg} (h : s.pwr.belay = none) : mayLeave s m = true := by
  unfold mayLeave; rw [h]; rfl

theorem belay_of_served {s : State} (h : mbxServed s = true) : s.pwr.belay = none := by
  unfold mbxServed at h
  simp only [Bool.and_eq_true, Option.isNone_iff_eq_none] at h
  exact h.2

theorem out_msix_mem {v : Nat} {s : State} {m : Msg} (h : m ∈ s.out) : m ∈ (msix v s).out := by
  unfold msix; split
  · exact List.mem_append_left _ h
  · exact h

theorem out_placeAll {s : State} {n : Nat} {d : Flds} {k : EvRing → List Nat} : (placeAll s n d k).1.out = s.out := rfl

theorem out_orStatus {a b : Nat} {s : State} : (orStatus a b s).out = s.out := rfl

theorem out_bumpFigure {a b : Nat} {s : State} : (bumpFigure a b s).out = s.out := rfl

theorem out_placeEvent_mem {n : Nat} {d : Flds} {k : State → EvRing → List Nat} {s : State} {m : Msg} (h : m ∈ s.out) :
    m ∈ (placeEvent n d k s).out := by
  unfold placeEvent
  dsimp only
  generalize s.ev.rings.any (fun r => ringOnEndpoint s r && !(k s r).isEmpty) = x
  have h2 : m ∈ (if x = true then msix (64 + n / 0x100) (placeAll s n d (k s)).1 else (placeAll s n d (k s)).1).out := by
    split
    · exact out_msix_mem (by rw [out_placeAll]; exact h)
    · rw [out_placeAll]; exact h
  have h3 : ∀ y : State, m ∈ y.out → ∀ (b : Bool) num st q, m ∈ (if b = true then (placeAll (orStatus stSEP 4 y) num st q).1 else y).out := by
    intro y hy b num st q
    split
    · rw [out_placeAll, out_orStatus]; exact hy
    · exact hy
  split
  · exact h3 _ h2 _ _ _ _
  · rw [out_placeAll, out_orStatus, out_bumpFigure]
    exact h3 _ h2 _ _ _ _

/-- Nothing that has left is taken back by a signal. -/
theorem out_raise_mem {a b i : Nat} {s : State} {m : Msg} (h : m ∈ s.out) : m ∈ (raise a b i s).out := by
  unfold raise raiseEvent
  exact out_placeEvent_mem (by rw [out_orStatus]; exact h)

/-- What a mailbox whose entries lie in rings of this module is sent has left at once: a channel over a session takes its entries as data. -/
theorem out_sendMbx {n : Nat} {m : Msg} {s : State} (h : s.pwr.belay = none)
    (hp : ∀ q, pathAt s n ≠ some (.bryndle q) ∧ pathAt s n ≠ some (.tether q)) : m ∈ (sendMbx n m s).out := by
  have h1 : m ∈ (send m s).out := by
    unfold send; rw [mayLeave_of_belay h, if_pos rfl]; exact List.mem_append_right _ (List.mem_singleton.mpr rfl)
  have hf : ∀ (x : State), m ∈ x.out → m ∈ (fillRing n x).out := by
    intro x hx
    unfold fillRing
    dsimp only
    split
    · exact hx
    · unfold signalVector
      split
      · exact out_msix_mem hx
      · exact out_raise_mem (out_msix_mem hx)
  unfold sendMbx
  split
  · rename_i q e; exact absurd e (hp q).1
  · rename_i q e; exact absurd e (hp q).2
  · dsimp only
    split
    · exact hf _ h1
    · exact h1

/-- A message stands among those of session `q`. -/
def StandsOn (q : Nat) (m : Msg) (t : State) : Prop := (ctxAt t q).any (fun y => y.outMsgs.any (fun o => o.what == m)) = true

theorem StandsOn.stands {q : Nat} {m : Nat → Msg} {t : State} (h : StandsOn q (m q) t) : Stands m t = true := by
  unfold StandsOn at h
  cases e : ctxAt t q with
  | none => simp [e] at h
  | some y =>
    have n : y.num = q := by have := List.find?_some e; simpa using this
    exact List.any_eq_true.mpr ⟨y, List.mem_of_find?_eq_some e, by rw [n]; simpa [e] using h⟩

/-- A message that stands among a session's stays there while the session's list of messages does. -/
theorem stands_of_trn {q : Nat} {m : Msg} {s t : State} (h : StandsOn q m s) (e : t.trn = s.trn) : StandsOn q m t := by
  unfold StandsOn ctxAt at *
  rw [e]; exact h

/-- What is put under a key is found there. -/
theorem find_putBy {α : Type} {p : α → Bool} {x : α} {l : List α} (hx : p x = true) : (putBy p x l).find? p = some x := by
  unfold putBy
  split
  · rename_i a
    induction l with
    | nil => simp at a
    | cons y l ih =>
      cases hy : p y with
      | true => simp [hy, hx]
      | false =>
        simp only [List.any_cons, hy, Bool.false_or] at a
        simp only [List.map_cons, hy, Bool.false_eq_true, if_false, List.find?_cons]
        exact ih a
  · rename_i a
    have : l.find? p = none := List.find?_eq_none.mpr (fun y hy e => a (List.any_eq_true.mpr ⟨y, hy, e⟩))
    simp [List.find?_append, this, hx]

/-- What stands under another key is still found. -/
theorem find_putBy_ne {α : Type} {p r : α → Bool} {x : α} {l : List α} (hx : r x = false) (h : ∀ y, p y = true → r y = false) :
    (putBy p x l).find? r = l.find? r := by
  unfold putBy
  split
  · rename_i a
    clear a
    induction l with
    | nil => rfl
    | cons y l ih =>
      rw [List.map_cons, List.find?_cons, List.find?_cons, ih]
      cases hy : p y with
      | true => simp [hx, h y hy]
      | false => simp
  · simp [List.find?_append, hx]

theorem ctxAt_putCtx {c : Ctx} {s : State} {n : Nat} : ctxAt (putCtx c s) n = if c.num = n then some c else ctxAt s n := by
  unfold putCtx ctxAt
  split
  · rename_i e; subst e; exact find_putBy (by simp)
  · rename_i e
    exact find_putBy_ne (by simpa using e) (fun y hy => by simp at hy ⊢; omega)

/-- Putting a context whose messages are those it had takes none away. -/
theorem stands_putCtx {q : Nat} {m : Msg} {c c0 : Ctx} {s : State} (h : StandsOn q m s) (e : ctxAt s c.num = some c0)
    (k : c.outMsgs = c0.outMsgs) : StandsOn q m (putCtx c s) := by
  unfold StandsOn at *
  rw [ctxAt_putCtx]
  split
  · rename_i n; subst n; rw [e] at h; simpa [k] using h
  · exact h

theorem ctxAt_num {s : State} {n : Nat} {c : Ctx} (h : ctxAt s n = some c) : c.num = n := by
  have := List.find?_some h; simpa using this

theorem stands_chargeCc {q : Nat} {m : Msg} {i : SchItem} {s : State} (h : StandsOn q m s) : StandsOn q m (chargeCc i s) := by
  unfold chargeCc
  split
  · exact h
  · rename_i c e
    unfold itemCtx at e
    split at e
    · exact stands_putCtx (c0 := c) h ((congrArg (ctxAt s) (ctxAt_num e)).trans e) rfl
    · cases e

/-- Handing frames to a MAC takes no message from a session. -/
theorem stands_pumpIdle {q n : Nat} {m : Msg} {s : State} (h : StandsOn q m s) : StandsOn q m (pumpIdle n s) := by
  have hs : ∀ (x : Mac) (i : SchItem) (z : State), StandsOn q m z → StandsOn q m (startFrame x i z) :=
    fun x i z k => stands_of_trn k (startFrame_frame.trn rfl)
  have he : ∀ (e : Egress) (z : State), StandsOn q m z → StandsOn q m (putEgress e z) := fun e z k => k
  unfold pumpIdle
  split
  · exact h
  · split
    · exact h
    · dsimp only
      split
      · exact hs _ _ _ (he _ _ h)
      · exact hs _ _ _ (he _ _ h)
      · exact hs _ _ _ (he _ _ h)
      · split
        · exact he _ _ h
        · refine hs _ _ _ (stands_chargeCc (he _ _ ?_))
          split
          · split
            · exact h
            · exact stands_of_trn h (putBuckets_frame.trn rfl)
          · exact h

theorem stands_transmit {q n : Nat} {m m2 : Msg} {o : EgOrder} {f : FlowId} {k l : Nat} {s : State} (h : StandsOn q m s) :
    StandsOn q m (transmit n o f k l m2 s) := by
  have hp : ∀ z : State, StandsOn q m z → StandsOn q m (pumpMac n z) := by
    intro z hz
    unfold pumpMac
    split
    · exact hz
    · split
      · exact hz
      · exact stands_pumpIdle hz
  unfold transmit
  split
  · exact stands_of_trn h (mailboxFrames_frame.trn rfl)
  · split
    · exact stands_of_trn h (putQuiet_frame.trn rfl)
    · split
      · exact stands_of_trn h (send_frame.trn rfl)
      · unfold enqueue
        dsimp only
        split <;> exact hp _ h

theorem any_mapIf_what {p : OutMsg → Bool} {o : OutMsg} {m : Msg} {l : List OutMsg} (h : l.any (fun x => x.what == m) = true)
    (k : o.what = m) : (mapIf p (fun _ => o) l).any (fun x => x.what == m) = true := by
  obtain ⟨x, hx, e⟩ := List.any_eq_true.mp h
  refine List.any_eq_true.mpr ⟨if p x = true then o else x, List.mem_map.mpr ⟨x, hx, rfl⟩, ?_⟩
  split
  · simp [k]
  · exact e

theorem phaseOut_same {s : State} {k : Nat} {c : Ctx} : (phaseOut s k c).outMsgs = c.outMsgs ∧ (phaseOut s k c).num = c.num := by
  unfold phaseOut advancePhase
  split <;> exact ⟨rfl, rfl⟩

/-- A message that is launched stands among its session's until it is acknowledged (12 R318). -/
theorem stands_launch {n : Nat} {m : Msg} {o : OutMsg} {c : Ctx} {s : State} (e : ctxAt s n = some c) (k : o.what = m)
    (h : c.outMsgs.any (fun x => x.what == m) = true) : StandsOn n m (launch n o s) := by
  unfold launch
  rw [e]
  dsimp only [Option.map_some]
  refine stands_transmit ?_
  unfold StandsOn
  rw [ctxAt_putCtx, if_pos (by exact (phaseOut_same.2).trans (ctxAt_num e))]
  exact any_mapIf_what (by rw [phaseOut_same.1]; exact h) k

/-- What is sent over an open session of this module stands among its messages. -/
theorem stands_sendOn {q op : Nat} {m : Msg} {s : State} {p : MbxPath} (hp : p = .bryndle q ∨ p = .tether q) (h : pathStands s p = true) :
    StandsOn q m (sendOn q op m s) := by
  have h2 : (ctxAt s q).any (fun y => !y.closing) = true ∧ (partnerSpace q && mirrors s) = false := by
    rcases hp with rfl | rfl <;>
      exact ⟨(Bool.and_eq_true _ _ ▸ h).1, (Bool.not_eq_true' _ ▸ (Bool.and_eq_true _ _ ▸ h).2)⟩
  unfold sendOn
  split
  · rename_i e; simp [e] at h2
  · rename_i c e
    have hc : c.closing = false := by simpa [e] using h2.1
    have hn : c.num = q := ctxAt_num e
    simp only [hc, Bool.false_eq_true, if_false, h2.2]
    split
    · unfold StandsOn
      rw [ctxAt_putCtx, if_pos hn]
      simp
    · refine stands_launch (c := _) (by rw [ctxAt_putCtx, if_pos hn]) rfl ?_
      simp

/-- A reply answers its command. -/
theorem answers_reply {c : Call} {op st : Nat} {b : Flds} {s : State} {x : Conn} (e : connAt s c.mbx = some x) (h : s.pwr.belay = none)
    (p : pathStands s x.path = true) : Answers c op st b (reply c op st b s) := by
  have hp : pathAt s c.mbx = some x.path := by unfold pathAt; rw [e]; rfl
  cases k : x.path with
  | mctp => exact .inl (out_sendMbx h (fun q => by rw [hp, k]; simp))
  | endpoint => exact .inl (out_sendMbx h (fun q => by rw [hp, k]; simp))
  | bryndle q =>
    refine .inr (StandsOn.stands (q := q) ?_)
    unfold reply sendMbx
    rw [hp, k]
    exact stands_sendOn (.inl rfl) (k ▸ p)
  | tether q =>
    refine .inr (StandsOn.stands (q := q) ?_)
    unfold reply sendMbx
    rw [hp, k]
    exact stands_sendOn (.inr rfl) (k ▸ p)

/-- A quorum act whose ceremony stands with its quorum runs, with its ceremony closed. -/
theorem endCeremony_met {s : State} {c : Call} {rop : Nat} {m : Ceremony} {run : QCtx → State → State} (h : targetStamp s m.target = m.stamp) :
    endCeremony c rop m run s = run (quorumCtx s c rop m) (closeCeremony m.id s) := by
  unfold endCeremony
  dsimp only
  rw [h]
  simp only [bne_self_eq_false, Bool.false_eq_true, if_false]
  rfl

end Machine
end Sys2Proof
end

