-- ==== Sys2Proof/Laws/IdleFrame.lean ====
section
/-!
SUPPORT. What the definitions of Machine/Idle.lean leave unchanged.
-/
namespace Sys2Proof
namespace Machine
set_option maxRecDepth 100000
set_option linter.unusedSimpArgs false

theorem drainHold_frame {s} : Frame 139869814912 (drainHold s) s := by
  unfold drainHold
  simp only [↓frame_rfl, Nat.reduceOr, ↓frame_step endXoffs_frame, ↓frame_step sweepQuarantine_frame, ↓frame_step readOut_frame]
theorem rollWindows_frame {s} : Frame 2181038080 (rollWindows s) s := by
  unfold rollWindows
  repeat' first
    | with_reducible refine frame_ite ?_ ?_
    | simp only [↓frame_mkM, ↓frame_rfl, Nat.reduceOr, ↓frame_step putPort_frame]
    | with_reducible apply frame_mk <;> first | exact .inl rfl | exact .inr rfl | skip
    | with_reducible refine frame_foldl (fun _ _ => ?_) ?_
theorem idle_frame {s} : Frame 139903369344 (idle s) s := by
  unfold idle
  simp only [↓frame_rfl, Nat.reduceOr, ↓frame_step rollWindows_frame, ↓frame_step drainHold_frame, ↓frame_step tick_frame]

end Machine
end Sys2Proof
end

