-- ==== Sys2Proof/Laws/IndexFrame.lean ====
section
/-!
SUPPORT. What the definitions of Machine/Index.lean leave unchanged.
-/
namespace Sys2Proof
namespace Machine
set_option maxRecDepth 100000
set_option linter.unusedSimpArgs false

theorem countHit_frame {a1 s} : Frame 1024 (countHit a1 s) s := by
  unfold countHit
  repeat' first
    | simp only [↓frame_mkM, ↓frame_rfl]
    | with_reducible apply frame_mk <;> first | exact .inl rfl | exact .inr rfl | skip
theorem loseInline_frame {a1 a2 s} : Frame 157005443592 (loseInline a1 a2 s) s := by
  unfold loseInline
  repeat' first
    | with_reducible refine frame_ite ?_ ?_
    | simp only [↓frame_rfl, Nat.reduceOr, ↓frame_step raiseLost_frame, ↓frame_step fileLosses_frame, ↓frame_step appendEntry_frame,
        ↓frame_step reenterObj_frame, ↓frame_step putObj_frame, ↓frame_step sequence_frame]
    | with_reducible refine frame_snd (by assumption) ?_
    | split
theorem endWalk_frame {a1 s} : Frame 982455351176 (endWalk a1 s) s := by
  unfold endWalk
  repeat' first
    | with_reducible refine frame_ite ?_ ?_
    | simp only [↓frame_mkM, ↓frame_rfl, Nat.reduceOr, ↓frame_step readStrip_frame, ↓frame_step chargeDrive_frame,
        ↓frame_step adoptFaults_frame, ↓frame_step adoptReads_frame, ↓frame_step hold_frame, ↓frame_step countHit_frame,
        ↓frame_step walkEnd_frame, ↓frame_step uopRefuse_frame]
    | with_reducible apply frame_mk <;> first | exact .inl rfl | exact .inr rfl | skip
    | with_reducible refine frame_foldl (fun _ _ => ?_) ?_
    | split
theorem closeWalk_frame {a1 s} : Frame 982455351176 (closeWalk a1 s) s := by
  unfold closeWalk
  simp only [↓frame_rfl, Nat.reduceOr, ↓frame_step releasePages_frame, ↓frame_step sweepQuarantine_frame, ↓frame_step endWalk_frame]
theorem leafFailed_frame {a1 s} : Frame 431891870472 (leafFailed a1 s) s := by
  unfold leafFailed
  repeat' first
    | with_reducible refine frame_ite ?_ ?_
    | simp only [↓frame_rfl, Nat.reduceOr, ↓frame_step declareLost_frame, ↓frame_step pageAround_frame, ↓frame_step judgeStrip_frame]
    | with_reducible refine frame_foldl (fun _ _ => ?_) ?_
    | split
theorem execIndexWalkComplete_frame {a1 a2 s} : OutFrame 982455351176 (execIndexWalkComplete a1 a2 s) s := by
  unfold execIndexWalkComplete
  repeat' first
    | with_reducible refine frame_ite ?_ ?_
    | with_reducible refine frame_oite ?_ ?_
    | simp only [↓outFrame_next, ↓frame_rfl, Nat.reduceOr, ↓frame_step recoverPart_frame, ↓frame_step closeWalk_frame,
        ↓frame_step leafFailed_frame, ↓frame_step loseInline_frame]
    | split
theorem execDeltaFlushAge_frame {a1 a2 s} : OutFrame 157005410312 (execDeltaFlushAge a1 a2 s) s := by
  unfold execDeltaFlushAge
  repeat' first
    | with_reducible refine frame_oite ?_ ?_
    | simp only [↓outFrame_next, ↓frame_rfl, Nat.reduceOr, ↓frame_step startFlush_frame]
    | split
theorem execIndexFlushCommit_frame {a1 a2 s} : OutFrame 157005410312 (execIndexFlushCommit a1 a2 s) s := by
  unfold execIndexFlushCommit
  repeat' first
    | with_reducible refine frame_oite ?_ ?_
    | simp only [↓outFrame_next, ↓frame_rfl, Nat.reduceOr, ↓frame_step endFlush_frame]
    | split
theorem execSubtreeRebuildComplete_frame {a1 a2 s} : OutFrame 157005410312 (execSubtreeRebuildComplete a1 a2 s) s := by
  unfold execSubtreeRebuildComplete
  repeat' first
    | with_reducible refine frame_oite ?_ ?_
    | simp only [↓outFrame_next, ↓frame_rfl, Nat.reduceOr, ↓frame_step raise_frame, ↓frame_step flushNow_frame, ↓frame_step killRecs_frame,
        ↓frame_step putPart_frame]

end Machine
end Sys2Proof
end

