-- ==== Sys2Proof/Laws/Landing.lean ====
section
/-!
SUPPORT. Landing memory: every operation on it keeps its canonical form.
-/
namespace Sys2Proof
namespace Machine

theorem wf_tail {c : Host.Cell} {r : List Host.Cell} (h : Memory.wf (c :: r) = true) : Memory.wf r = true := by
  cases r with
  | nil => rfl
  | cons d r => simp [Memory.wf] at h; exact h.2
theorem wf_cons {c : Host.Cell} {r : List Host.Cell} : Memory.wf (c :: r) = true ↔ c.2 ≠ 0 ∧ (∀ d ∈ r.head?, c.1 < d.1) ∧ Memory.wf r = true := by
  cases r with
  | nil => simp [Memory.wf]
  | cons d r => simp [Memory.wf, and_assoc]
theorem memCons_wf {a : Nat} {b : Byte} {r : List Host.Cell} (h : Memory.wf r = true) (k : ∀ d ∈ r.head?, a < d.1) : Memory.wf (memCons a b r) = true := by
  unfold memCons; split
  · exact h
  · exact wf_cons.mpr ⟨by assumption, k, h⟩
theorem memCons_head {a : Nat} {b : Byte} {r : List Host.Cell} {n : Nat} (h : n < a) (k : ∀ d ∈ r.head?, n < d.1) : ∀ d ∈ (memCons a b r).head?, n < d.1 := by
  unfold memCons; split
  · exact k
  · simpa using h
theorem wf_next {c : Host.Cell} {r : List Host.Cell} (h : Memory.wf (c :: r) = true) : ∀ d ∈ r.head?, c.1 < d.1 := (wf_cons.mp h).2.1
theorem memPut_head {a : Nat} {b : Byte} {n : Nat} : ∀ {r : List Host.Cell}, Memory.wf r = true → n < a → (∀ d ∈ r.head?, n < d.1) → ∀ d ∈ (memPut a b r).head?, n < d.1 := by
  intro r w h k
  cases r with
  | nil => exact memCons_head h (by simp)
  | cons c r =>
    have hc : n < c.1 := k c rfl
    unfold memPut; split
    · exact memCons_head h (by simpa using hc)
    · split
      · exact memCons_head h (fun d hd => Nat.lt_trans hc (wf_next w d hd))
      · simpa using hc
theorem memPut_wf {a : Nat} {b : Byte} : ∀ {m : List Host.Cell}, Memory.wf m = true → Memory.wf (memPut a b m) = true := by
  intro m
  induction m with
  | nil => intro h; exact memCons_wf h (by simp)
  | cons c r ih =>
    intro h
    unfold memPut; split
    · exact memCons_wf h (by simpa using ‹a < c.1›)
    · split
      · rename_i e; exact memCons_wf (wf_tail h) (e ▸ wf_next h)
      · exact wf_cons.mpr ⟨(wf_cons.mp h).1, memPut_head (wf_tail h) (by omega) (wf_next h), ih (wf_tail h)⟩
theorem memPutAll_wf {bs : Bytes} {a : Nat} {m : List Host.Cell} (h : Memory.wf m = true) : Memory.wf (memPutAll a bs m) = true := by
  induction bs generalizing a m with
  | nil => exact h
  | cons b bs ih => exact ih (memPut_wf h)
theorem wf_filter {p : Host.Cell → Bool} : ∀ {m : List Host.Cell}, Memory.wf m = true → Memory.wf (m.filter p) = true ∧ ∀ n, (∀ d ∈ m.head?, n < d.1) → ∀ d ∈ (m.filter p).head?, n < d.1 := by
  intro m
  induction m with
  | nil => intro h; simp [Memory.wf]
  | cons c r ih =>
    intro h
    have i := ih (wf_tail h)
    by_cases hp : p c = true
    · rw [List.filter_cons_of_pos hp]
      exact ⟨wf_cons.mpr ⟨(wf_cons.mp h).1, i.2 c.1 (wf_next h), i.1⟩, fun n k => by simpa using k⟩
    · rw [List.filter_cons_of_neg hp]
      exact ⟨i.1, fun n k => i.2 n (fun d hd => Nat.lt_trans (k c rfl) (wf_next h d hd))⟩
theorem memZero_wf {a n : Nat} {m : List Host.Cell} (h : Memory.wf m = true) : Memory.wf (memZero a n m) = true := (wf_filter h).1

end Machine
end Sys2Proof
end

