-- ==== Sys2Proof/Laws/PowerOpsFrame.lean ====
section
/-!
SUPPORT. What the definitions of Machine/PowerOps.lean leave unchanged.
-/
namespace Sys2Proof
namespace Machine
set_option maxRecDepth 100000
set_option linter.unusedSimpArgs false

theorem unitView_frame {s} : Frame 3221225472 (unitView s) s := by
  unfold unitView
  repeat' first
    | with_reducible refine frame_ite ?_ ?_
    | simp only [↓frame_mkM, ↓frame_rfl]
    | with_reducible apply frame_mk <;> first | exact .inl rfl | exact .inr rfl | skip
theorem feedTo_frame {a1 a2 s} : Frame 4294967296 (feedTo a1 a2 s) s := by
  unfold feedTo
  simp only [↓frame_rfl, Nat.reduceOr, ↓frame_step putFeed_frame]
theorem slotFollows_frame {a1 s} : Frame 431891870472 (slotFollows a1 s) s := by
  unfold slotFollows
  repeat' first
    | simp only [↓frame_rfl, Nat.reduceOr, ↓frame_step darkSlot_frame, ↓frame_step tellMate_frame]
    | split
theorem powerBit_frame {a1 a2 a3 s} : Frame 165423349768 (powerBit a1 a2 a3 s) s := by
  unfold powerBit
  simp only [↓frame_rfl, Nat.reduceOr, ↓frame_step raise_frame, ↓frame_step wake_frame]
theorem abandonHold_frame {s} : Frame 8388608 (abandonHold s) s := by
  unfold abandonHold
  repeat' first
    | simp only [↓frame_mkM, ↓frame_rfl, Nat.reduceOr, ↓frame_step freeCells_frame]
    | with_reducible apply frame_mk <;> first | exact .inl rfl | exact .inr rfl | skip
theorem inputGateOff_frame {s} : Frame 4294967296 (inputGateOff s) s := by
  unfold inputGateOff
  repeat' first
    | with_reducible refine frame_ite ?_ ?_
    | simp only [↓frame_rfl, Nat.reduceOr, ↓frame_step putFeed_frame, ↓frame_step feedOff_frame]
theorem raiseBelay_frame {a1 s} : Frame 169726705672 (raiseBelay a1 s) s := by
  unfold raiseBelay
  repeat' first
    | with_reducible refine frame_ite ?_ ?_
    | simp only [↓frame_mkM, ↓frame_rfl, Nat.reduceOr, ↓frame_step abandonHold_frame, ↓frame_step inputGateOff_frame,
        ↓frame_step sayDying_frame, ↓frame_step wake_frame, ↓frame_step raise_frame]
    | with_reducible apply frame_mk <;> first | exact .inl rfl | exact .inr rfl | skip
theorem judgeKeepSafe_frame {s} : Frame 169718317064 (judgeKeepSafe s) s := by
  unfold judgeKeepSafe
  repeat' first
    | with_reducible refine frame_ite ?_ ?_
    | simp only [↓frame_mkM, ↓frame_rfl, Nat.reduceOr, ↓frame_step powerBit_frame]
    | with_reducible apply frame_mk <;> first | exact .inl rfl | exact .inr rfl | skip
theorem latchChannel_frame {a1 a2 s} : Frame 444776772360 (latchChannel a1 a2 s) s := by
  unfold latchChannel
  repeat' first
    | with_reducible refine frame_ite ?_ ?_
    | simp only [↓frame_mkM, ↓frame_rfl, Nat.reduceOr, ↓frame_step raiseBelay_frame, ↓frame_step wake_frame, ↓frame_step putFeed_frame,
        ↓frame_step failMember_frame, ↓frame_step slotFollows_frame, ↓frame_step powerBit_frame]
    | with_reducible apply frame_mk <;> first | exact .inl rfl | exact .inr rfl | skip
    | split
theorem failAttempt_frame {a1 a2 s} : Frame 444776772360 (failAttempt a1 a2 s) s := by
  unfold failAttempt
  repeat' first
    | with_reducible refine frame_ite ?_ ?_
    | simp only [↓frame_rfl, Nat.reduceOr, ↓frame_step latchChannel_frame, ↓frame_step powerBit_frame, ↓frame_step putFeed_frame,
        ↓frame_step raiseBelay_frame, ↓frame_step slotFollows_frame]
    | split
theorem toPrecharge_frame {a1 s} : Frame 4294967296 (toPrecharge a1 s) s := by
  unfold toPrecharge
  repeat' first
    | with_reducible refine frame_ite ?_ ?_
    | simp only [↓frame_mkM, ↓frame_rfl, Nat.reduceOr, ↓frame_step putFeed_frame]
    | with_reducible apply frame_mk <;> first | exact .inl rfl | exact .inr rfl | skip
    | split
theorem inputReturns_frame {a1 s} : Frame 169726705672 (inputReturns a1 s) s := by
  unfold inputReturns
  repeat' first
    | with_reducible refine frame_ite ?_ ?_
    | simp only [↓frame_mkM, ↓frame_rfl, Nat.reduceOr, ↓frame_step raiseBelay_frame, ↓frame_step powerBit_frame, ↓frame_step putFeed_frame]
    | with_reducible apply frame_mk <;> first | exact .inl rfl | exact .inr rfl | skip
theorem inputLeaves_frame {a1 s} : Frame 169718317064 (inputLeaves a1 s) s := by
  unfold inputLeaves
  repeat' first
    | with_reducible refine frame_ite ?_ ?_
    | simp only [↓frame_mkM, ↓frame_rfl, Nat.reduceOr, ↓frame_step powerBit_frame, ↓frame_step feedOff_frame]
    | with_reducible apply frame_mk <;> first | exact .inl rfl | exact .inr rfl | skip
theorem slotLeaves_frame {a1 s} : Frame 444776772360 (slotLeaves a1 s) s := by
  unfold slotLeaves
  repeat' first
    | with_reducible refine frame_ite ?_ ?_
    | simp only [↓frame_rfl, Nat.reduceOr, ↓frame_step raiseBelay_frame, ↓frame_step slotFollows_frame, ↓frame_step powerBit_frame,
        ↓frame_step feedOff_frame]

end Machine
end Sys2Proof
end

