-- ==== Sys2Proof/Laws/PowerStatesFrame.lean ====
section
/-!
SUPPORT. What the definitions of Machine/PowerStates.lean leave unchanged.
-/
namespace Sys2Proof
namespace Machine
set_option maxRecDepth 100000
set_option linter.unusedSimpArgs false

theorem beginEntry_frame {a1 s} : Frame 8589934592 (beginEntry a1 s) s := by
  unfold beginEntry
  repeat' first
    | simp only [↓frame_mkM, ↓frame_rfl]
    | with_reducible apply frame_mk <;> first | exact .inl rfl | exact .inr rfl | skip
theorem execDrowseIdleExpiry_frame {s} : OutFrame 8589934592 (execDrowseIdleExpiry s) s := by
  unfold execDrowseIdleExpiry
  repeat' first
    | with_reducible refine frame_ite ?_ ?_
    | simp only [↓outFrame_next, ↓frame_rfl, Nat.reduceOr, ↓frame_step beginEntry_frame]
theorem execDormantIdleExpiry_frame {s} : OutFrame 8589934592 (execDormantIdleExpiry s) s := by
  unfold execDormantIdleExpiry
  repeat' first
    | with_reducible refine frame_ite ?_ ?_
    | simp only [↓outFrame_next, ↓frame_rfl, Nat.reduceOr, ↓frame_step beginEntry_frame]
theorem abandonEntry_frame {s} : Frame 165423349760 (abandonEntry s) s := by
  unfold abandonEntry
  repeat' first
    | simp only [↓frame_mkM, ↓frame_rfl, Nat.reduceOr, ↓frame_step raise_frame, ↓frame_step bumpFigure_frame]
    | with_reducible apply frame_mk <;> first | exact .inl rfl | exact .inr rfl | skip
theorem linksDown_frame {s} : Frame 156869066752 (linksDown s) s := by
  unfold linksDown
  repeat' first
    | simp only [↓frame_rfl, Nat.reduceOr, ↓frame_step putPort_frame, ↓frame_step dropLink_frame]
    | with_reducible refine frame_foldl (fun _ _ => ?_) ?_
theorem completeEntry_frame {a1 s} : Frame 165423349760 (completeEntry a1 s) s := by
  unfold completeEntry
  repeat' first
    | with_reducible refine frame_ite ?_ ?_
    | simp only [↓frame_mkM, ↓frame_rfl, Nat.reduceOr, ↓frame_step raise_frame, ↓frame_step bumpFigure_frame]
    | with_reducible apply frame_mk <;> first | exact .inl rfl | exact .inr rfl | skip
theorem execEntryStepComplete_frame {s} : OutFrame 165459001344 (execEntryStepComplete s) s := by
  unfold execEntryStepComplete
  repeat' first
    | with_reducible refine frame_ite ?_ ?_
    | with_reducible refine frame_oite ?_ ?_
    | simp only [↓outFrame_next, ↓frame_mkM, ↓frame_rfl, Nat.reduceOr, ↓frame_step completeEntry_frame, ↓frame_step abandonEntry_frame,
        ↓frame_step linksDown_frame]
    | with_reducible apply frame_mk <;> first | exact .inl rfl | exact .inr rfl | skip
    | split
theorem execDomainWake_frame {a1 s} : OutFrame 8589934592 (execDomainWake a1 s) s := by
  unfold execDomainWake
  repeat' first
    | with_reducible refine frame_ite ?_ ?_
    | simp only [↓outFrame_next, ↓frame_mkM, ↓frame_rfl]
    | with_reducible apply frame_mk <;> first | exact .inl rfl | exact .inr rfl | skip
theorem execDomainIdleExpiry_frame {a1 s} : OutFrame 8589934592 (execDomainIdleExpiry a1 s) s := by
  unfold execDomainIdleExpiry
  repeat' first
    | with_reducible refine frame_ite ?_ ?_
    | simp only [↓outFrame_next, ↓frame_mkM, ↓frame_rfl]
    | with_reducible apply frame_mk <;> first | exact .inl rfl | exact .inr rfl | skip
    | split
theorem closeHeads_frame {s} : Frame 156871172096 (closeHeads s) s := by
  unfold closeHeads
  repeat' first
    | simp only [↓frame_rfl, Nat.reduceOr, ↓frame_step closeRow_frame]
    | with_reducible refine frame_foldl (fun _ _ => ?_) ?_
theorem tellQuiet_frame {a1 s} : Frame 137438953472 (tellQuiet a1 s) s := by
  unfold tellQuiet
  repeat' first
    | with_reducible refine frame_ite ?_ ?_
    | simp only [↓frame_rfl, Nat.reduceOr, ↓frame_step pairState_frame]
theorem notifyShutdown_frame {s} : Frame 146028888064 (notifyShutdown s) s := by
  unfold notifyShutdown
  repeat' first
    | simp only [↓frame_mkM, ↓frame_rfl, Nat.reduceOr, ↓frame_step send_frame]
    | with_reducible apply frame_mk <;> first | exact .inl rfl | exact .inr rfl | skip
    | with_reducible refine frame_foldl (fun _ _ => ?_) ?_
theorem finishDown_frame {s} : Frame 169890308104 (finishDown s) s := by
  unfold finishDown
  repeat' first
    | with_reducible refine frame_ite ?_ ?_
    | simp only [↓frame_mkM, ↓frame_rfl, Nat.reduceOr, ↓frame_step powerDrives_frame, ↓frame_step putPort_frame,
        ↓frame_step disableSlot_frame]
    | with_reducible apply frame_mk <;> first | exact .inl rfl | exact .inr rfl | skip
    | with_reducible refine frame_foldl (fun _ _ => ?_) ?_
theorem advanceDown_frame {s} : Frame 169890308104 (advanceDown s) s := by
  unfold advanceDown
  repeat' first
    | with_reducible refine frame_ite ?_ ?_
    | simp only [↓frame_mkM, ↓frame_rfl, Nat.reduceOr, ↓frame_step tellQuiet_frame, ↓frame_step closeHeads_frame,
        ↓frame_step shardCheckpoint_frame, ↓frame_step notifyShutdown_frame, ↓frame_step finishDown_frame]
    | with_reducible apply frame_mk <;> first | exact .inl rfl | exact .inr rfl | skip
    | with_reducible refine frame_foldl (fun _ _ => ?_) ?_
theorem execDriveIdleTimeout_frame {s} : OutFrame 169890312200 (execDriveIdleTimeout s) s := by
  unfold execDriveIdleTimeout
  repeat' first
    | with_reducible refine frame_ite ?_ ?_
    | simp only [↓outFrame_next, ↓frame_mkM, ↓frame_rfl, Nat.reduceOr, ↓frame_step advanceDown_frame, ↓frame_step closeHeads_frame,
        ↓frame_step startFlush_frame]
    | with_reducible apply frame_mk <;> first | exact .inl rfl | exact .inr rfl | skip
    | with_reducible refine frame_foldl (fun _ _ => ?_) ?_
    | split
theorem shutOver_frame {a1 s} : Frame 169890308104 (shutOver a1 s) s := by
  unfold shutOver
  repeat' first
    | simp only [↓frame_mkM, ↓frame_rfl, Nat.reduceOr, ↓frame_step advanceDown_frame]
    | with_reducible apply frame_mk <;> first | exact .inl rfl | exact .inr rfl | skip
theorem execDriveShutdownComplete_frame {a1 s} : OutFrame 169890308104 (execDriveShutdownComplete a1 s) s := by
  unfold execDriveShutdownComplete
  repeat' first
    | with_reducible refine frame_ite ?_ ?_
    | simp only [↓outFrame_next, ↓frame_rfl, Nat.reduceOr, ↓frame_step shutOver_frame]
theorem execDriveShutdownTimeout_frame {a1 s} : OutFrame 169890308104 (execDriveShutdownTimeout a1 s) s := by
  unfold execDriveShutdownTimeout
  repeat' first
    | with_reducible refine frame_ite ?_ ?_
    | simp only [↓outFrame_next, ↓frame_rfl, Nat.reduceOr, ↓frame_step shutOver_frame, ↓frame_step raise_frame]
theorem openWindow_frame {s} : Frame 169890308104 (openWindow s) s := by
  unfold openWindow
  repeat' first
    | simp only [↓frame_mkM, ↓frame_rfl, Nat.reduceOr, ↓frame_step powerDrives_frame, ↓frame_step wake_frame]
    | with_reducible apply frame_mk <;> first | exact .inl rfl | exact .inr rfl | skip
theorem execDormantWindowStart_frame {s} : OutFrame 169890308104 (execDormantWindowStart s) s := by
  unfold execDormantWindowStart
  repeat' first
    | with_reducible refine frame_ite ?_ ?_
    | simp only [↓outFrame_next, ↓frame_rfl, Nat.reduceOr, ↓frame_step openWindow_frame]
    | split
theorem execDormantWindowEnd_frame {s} : OutFrame 8589934592 (execDormantWindowEnd s) s := by
  unfold execDormantWindowEnd
  repeat' first
    | with_reducible refine frame_ite ?_ ?_
    | simp only [↓outFrame_next, ↓frame_mkM, ↓frame_rfl]
    | with_reducible apply frame_mk <;> first | exact .inl rfl | exact .inr rfl | skip
    | split
theorem execDormantTimerWake_frame {s} : OutFrame 169890406408 (execDormantTimerWake s) s := by
  unfold execDormantTimerWake
  repeat' first
    | with_reducible refine frame_ite ?_ ?_
    | with_reducible refine frame_oite ?_ ?_
    | simp only [↓outFrame_next, ↓frame_rfl, Nat.reduceOr, ↓frame_step openWindow_frame, ↓frame_step powerDrives_frame,
        ↓frame_step signCheckpoint_frame, ↓frame_step wake_frame]
theorem scheduleDrives_frame {s} : Frame 169890308104 (scheduleDrives s) s := by
  unfold scheduleDrives
  repeat' first
    | with_reducible refine frame_ite ?_ ?_
    | simp only [↓frame_rfl, Nat.reduceOr, ↓frame_step powerDrives_frame, ↓frame_step wake_frame, ↓frame_step advanceDown_frame]

end Machine
end Sys2Proof
end

