-- ==== Sys2Proof/Laws/PairMsgsFrame.lean ====
section
/-!
SUPPORT. What the definitions of Machine/PairMsgs.lean leave unchanged.
-/
namespace Sys2Proof
namespace Machine
set_option maxRecDepth 100000
set_option linter.unusedSimpArgs false

theorem mateMember_frame {a1 a2 s} : Frame 431891870472 (mateMember a1 a2 s) s := by
  unfold mateMember
  repeat' first
    | with_reducible refine frame_ite ?_ ?_
    | simp only [↓frame_rfl, Nat.reduceOr, ↓frame_step failMember_frame, ↓frame_step setMemberState_frame]
theorem mateCtx_frame {a1 s} : Frame 262144 (mateCtx a1 s) s := by
  unfold mateCtx
  repeat' first
    | with_reducible refine frame_ite ?_ ?_
    | simp only [↓frame_mkM, ↓frame_rfl, Nat.reduceOr, ↓frame_step putCtx_frame]
    | with_reducible apply frame_mk <;> first | exact .inl rfl | exact .inr rfl | skip
theorem takeGrant_frame {a1 a2 s} : Frame 157005406216 (takeGrant a1 a2 s) s := by
  unfold takeGrant
  repeat' first
    | simp only [↓frame_mkM, ↓frame_rfl, Nat.reduceOr, ↓frame_step segEntry_frame]
    | with_reducible apply frame_mk <;> first | exact .inl rfl | exact .inr rfl | skip
theorem giveGrant_frame {s} : Frame 157005406216 (giveGrant s) s := by
  unfold giveGrant
  repeat' first
    | with_reducible refine frame_ite ?_ ?_
    | simp only [↓frame_mkM, ↓frame_rfl, Nat.reduceOr, ↓frame_step pairState_frame, ↓frame_step segEntry_frame]
    | with_reducible apply frame_mk <;> first | exact .inl rfl | exact .inr rfl | skip
    | split
theorem mateSet_frame {a1 a2 a3 s} : Frame 432457331156 (mateSet a1 a2 a3 s) s := by
  unfold mateSet
  repeat' first
    | simp only [↓frame_mkM, ↓frame_rfl, Nat.reduceOr, ↓frame_step closeConns_frame, ↓frame_step closeAll_frame, ↓frame_step touch_frame,
        ↓frame_step takeRole_frame]
    | with_reducible apply frame_mk <;> first | exact .inl rfl | exact .inr rfl | skip
    | with_reducible refine frame_foldl (fun _ _ => ?_) ?_
theorem bankTenant_frame {a1 a2 a3 a4 a5 a6 s} : Frame 4209680 (bankTenant a1 a2 a3 a4 a5 a6 s) s := by
  unfold bankTenant
  dsimp only
  generalize (match a6, s.auth.escrowKey with
    | some w, some e => some ({ escrow := e, ephemeral := w.ephemeral, ct := w.ct, wrapped := w.wrapped, stamp := kstamp s } : EscrowWrap)
    | _, _ => none) = w
  split
  · rw [frame_mkM]; apply frame_mk <;> first | exact .inl rfl | exact .inr rfl | skip
    exact sequence_frame.mono rfl
  · generalize hs : takeRole a3 _ _ = s3
    have k : Frame 4209680 s3 s := by
      subst hs
      refine (takeRole_frame.mono rfl).trans ((putBuckets_frame.mono rfl).trans ?_)
      rw [frame_mkM]; apply frame_mk <;> first | exact .inl rfl | exact .inr rfl | skip
      exact Frame.refl
    cases e : takeShare a1 a4.hintShare.toNat s3 with
    | none => exact k
    | some x => exact ((takeShare_some e).mono rfl).trans k
theorem bankColl_frame {a1 a2 a3 a4 a5 a6 s} : Frame 2048 (bankColl a1 a2 a3 a4 a5 a6 s) s := by
  unfold bankColl
  repeat' first
    | simp only [↓frame_mkM, ↓frame_rfl]
    | with_reducible apply frame_mk <;> first | exact .inl rfl | exact .inr rfl | skip
theorem bankNs_frame {a1 a2 a3 a4 a5 a6 a7 a8 a9 a10 s} : Frame 256 (bankNs a1 a2 a3 a4 a5 a6 a7 a8 a9 a10 s) s := by
  unfold bankNs
  repeat' first
    | simp only [↓frame_rfl, Nat.reduceOr, ↓frame_step putNs_frame]
    | split
theorem bankRec_frame {a1 s} : Frame 432465723348 (bankRec a1 s) s := by
  unfold bankRec
  repeat' first
    | with_reducible refine frame_ite ?_ ?_
    | simp only [↓frame_rfl, Nat.reduceOr, ↓frame_step mateSet_frame, ↓frame_step bankTenant_frame, ↓frame_step forgetTenant_frame,
        ↓frame_step bankColl_frame, ↓frame_step dropColl_frame, ↓frame_step bankNs_frame, ↓frame_step forgetNs_frame]
    | with_reducible refine frame_elim ?_ (fun _ => ?_)
    | split
theorem mateBank_frame {a1 a2 a3 s} : Frame 432566403028 (mateBank a1 a2 a3 s) s := by
  unfold mateBank
  repeat' first
    | with_reducible refine frame_ite ?_ ?_
    | simp only [↓frame_mkM, ↓frame_rfl, Nat.reduceOr, ↓frame_step putMember_frame, ↓frame_step bankRec_frame,
        ↓frame_step changeBanks_frame]
    | with_reducible apply frame_mk <;> first | exact .inl rfl | exact .inr rfl | skip
    | with_reducible refine frame_foldl (fun _ _ => ?_) ?_
theorem matePhaseSan_frame {a1 a2 s} : Frame 475641937880 (matePhaseSan a1 a2 s) s := by
  unfold matePhaseSan
  repeat' first
    | with_reducible refine frame_ite ?_ ?_
    | simp only [↓frame_mkM, ↓frame_rfl, Nat.reduceOr, ↓frame_step sanSign_frame, ↓frame_step sanKeys_frame, ↓frame_step closeAll_frame,
        ↓frame_step sanWraps_frame, ↓frame_step blankShelf_frame]
    | with_reducible apply frame_mk <;> first | exact .inl rfl | exact .inr rfl | skip
theorem matePhase_frame {a1 a2 a3 a4 a5 a6 s} : Frame 475641937880 (matePhase a1 a2 a3 a4 a5 a6 s) s := by
  unfold matePhase
  repeat' first
    | with_reducible refine frame_ite ?_ ?_
    | simp only [↓frame_mkM, ↓frame_rfl, Nat.reduceOr, ↓frame_step matePhaseSan_frame]
    | with_reducible apply frame_mk <;> first | exact .inl rfl | exact .inr rfl | skip
theorem mateCeremony_frame {a1 a2 a3 a4 a5 s} : Frame 16 (mateCeremony a1 a2 a3 a4 a5 s) s := by
  unfold mateCeremony
  repeat' first
    | simp only [↓frame_mkM, ↓frame_rfl]
    | with_reducible apply frame_mk <;> first | exact .inl rfl | exact .inr rfl | skip
theorem mateSigner_frame {a1 a2 s} : Frame 1030766460924 (mateSigner a1 a2 s) s := by
  unfold mateSigner
  repeat' first
    | with_reducible refine frame_ite ?_ ?_
    | simp only [↓frame_mkM, ↓frame_rfl, Nat.reduceOr, ↓frame_step answerMate_frame, ↓frame_step takeSignature_frame]
    | with_reducible apply frame_mk <;> first | exact .inl rfl | exact .inr rfl | skip
    | split
theorem mateClosed_frame {a1 s} : Frame 16 (mateClosed a1 s) s := by
  unfold mateClosed
  repeat' first
    | simp only [↓frame_mkM, ↓frame_rfl]
    | with_reducible apply frame_mk <;> first | exact .inl rfl | exact .inr rfl | skip
theorem mateOverlay_frame {a1 s} : Frame 446650872296 (mateOverlay a1 s) s := by
  unfold mateOverlay
  repeat' first
    | with_reducible refine frame_ite ?_ ?_
    | simp only [↓frame_rfl, Nat.reduceOr, ↓frame_step paramEffects_frame, ↓frame_step liftOverlay_frame, ↓frame_step placeOverlay_frame]
    | with_reducible refine frame_elim ?_ (fun _ => ?_)
theorem mateLift_frame {a1 a2 s} : Frame 446650872296 (mateLift a1 a2 s) s := by
  unfold mateLift
  repeat' first
    | with_reducible refine frame_ite ?_ ?_
    | simp only [↓frame_mkM, ↓frame_rfl, Nat.reduceOr, ↓frame_step powerDrives_frame, ↓frame_step wake_frame,
        ↓frame_step paramEffects_frame, ↓frame_step liftOverlay_frame]
    | with_reducible apply frame_mk <;> first | exact .inl rfl | exact .inr rfl | skip
    | split
theorem mateChannel_frame {a1 a2 a3 a4 s} : Frame 444776772360 (mateChannel a1 a2 a3 a4 s) s := by
  unfold mateChannel
  repeat' first
    | with_reducible refine frame_ite ?_ ?_
    | simp only [↓frame_rfl, Nat.reduceOr, ↓frame_step darkSlot_frame, ↓frame_step failMember_frame, ↓frame_step latchChannel_frame,
        ↓frame_step putFeed_frame]
theorem onSlot_frame {w a1 f2 s} (hw : 0 ||| w = w) (h : ∀ n s, Frame w (f2 n s) s) : Frame w (onSlot a1 f2 s) s := by
  unfold onSlot
  repeat' first
    | simp only [↓frame_rfl]
    | with_reducible refine Frame.trans (h _ _) ?_
    | with_reducible refine frame_dite (fun _ => ?_) (fun _ => ?_)
theorem applyPairState_frame {a1 s} : Frame 1030774849532 (applyPairState a1 s) s := by
  unfold applyPairState
  repeat' first
    | with_reducible refine frame_ite ?_ ?_
    | simp only [↓frame_mkM, ↓frame_rfl, Nat.reduceOr, ↓frame_step mateMember_frame, ↓frame_step mateCtx_frame, ↓frame_step takeGrant_frame,
        ↓frame_step giveGrant_frame, ↓frame_step mateBank_frame, ↓frame_step putPart_frame, ↓frame_step matePhase_frame,
        ↓frame_step mateCeremony_frame, ↓frame_step mateSigner_frame, ↓frame_step mateAnswer_frame, ↓frame_step mateClosed_frame,
        ↓frame_step mateOverlay_frame, ↓frame_step mateLift_frame, ↓frame_step placeImage_frame, ↓frame_step enableSlot_frame,
        ↓frame_step disableSlot_frame, ↓frame_step mateChannel_frame, ↓frame_step clearOwnLatch_frame, ↓frame_step mateHitch_frame,
        ↓frame_step mateSeq_frame, ↓frame_step mateNotice_frame, ↓frame_step advanceDown_frame]
    | with_reducible refine Frame.trans (onSlot_frame rfl (fun _ _ => ?_)) ?_
    | with_reducible apply frame_mk <;> first | exact .inl rfl | exact .inr rfl | skip
    | split
theorem execPairStateMessage_frame {a1 s} : OutFrame 1030774849532 (execPairStateMessage a1 s) s := by
  unfold execPairStateMessage
  repeat' first
    | with_reducible refine frame_ite ?_ ?_
    | simp only [↓outFrame_next, ↓frame_rfl, Nat.reduceOr, ↓frame_step applyPairState_frame, ↓frame_step wake_frame]
theorem execPairTimeMessage_frame {a1 a2 s} : OutFrame 199783100544 (execPairTimeMessage a1 a2 s) s := by
  unfold execPairTimeMessage
  repeat' first
    | with_reducible refine frame_ite ?_ ?_
    | with_reducible refine frame_oite ?_ ?_
    | simp only [↓outFrame_next, ↓frame_mkM, ↓frame_rfl, Nat.reduceOr, ↓frame_step tryOpen_frame, ↓frame_step raise_frame]
    | with_reducible apply frame_mk <;> first | exact .inl rfl | exact .inr rfl | skip

end Machine
end Sys2Proof
end

