-- ==== Sys2Proof/Laws/PowerFrame.lean ====
section
/-!
SUPPORT. What the definitions of Machine/Power.lean leave unchanged.
-/
namespace Sys2Proof
namespace Machine
set_option maxRecDepth 100000
set_option linter.unusedSimpArgs false

theorem execSupplyBandWindow_frame {a1 a2 a3 s} : OutFrame 169726705672 (execSupplyBandWindow a1 a2 a3 s) s := by
  unfold execSupplyBandWindow
  repeat' first
    | with_reducible refine frame_ite ?_ ?_
    | simp only [↓outFrame_next, ↓frame_mkM, ↓frame_rfl, Nat.reduceOr, ↓frame_step raiseBelay_frame, ↓frame_step powerBit_frame,
        ↓frame_step judgeKeepSafe_frame, ↓frame_step wake_frame]
    | with_reducible apply frame_mk <;> first | exact .inl rfl | exact .inr rfl | skip
theorem execKeepSafeExit_frame {s} : OutFrame 161538769024 (execKeepSafeExit s) s := by
  unfold execKeepSafeExit
  repeat' first
    | with_reducible refine frame_ite ?_ ?_
    | simp only [↓outFrame_next, ↓frame_mkM, ↓frame_rfl, Nat.reduceOr, ↓frame_step pumpHitch_frame]
    | with_reducible apply frame_mk <;> first | exact .inl rfl | exact .inr rfl | skip
    | with_reducible refine frame_foldl (fun _ _ => ?_) ?_
    | split
theorem startChannel_frame {a1 s} : Frame 38654705664 (startChannel a1 s) s := by
  unfold startChannel
  repeat' first
    | with_reducible refine frame_ite ?_ ?_
    | simp only [↓frame_rfl, Nat.reduceOr, ↓frame_step startInsert_frame, ↓frame_step beginStart_frame]
    | split
theorem execChannelWindowChange_frame {a1 a2 s} : OutFrame 479136510728 (execChannelWindowChange a1 a2 s) s := by
  unfold execChannelWindowChange
  repeat' first
    | with_reducible refine frame_ite ?_ ?_
    | simp only [↓outFrame_next, ↓frame_mkM, ↓frame_rfl, Nat.reduceOr, ↓frame_step inputLeaves_frame, ↓frame_step putFeed_frame,
        ↓frame_step slotLeaves_frame, ↓frame_step inputReturns_frame, ↓frame_step startChannel_frame]
    | with_reducible apply frame_mk <;> first | exact .inl rfl | exact .inr rfl | skip
    | split
theorem execSlotPresenceChange_frame {a1 a2 s} : OutFrame 444776772360 (execSlotPresenceChange a1 a2 s) s := by
  unfold execSlotPresenceChange
  repeat' first
    | with_reducible refine frame_ite ?_ ?_
    | with_reducible refine frame_oite ?_ ?_
    | simp only [↓outFrame_next, ↓frame_rfl, Nat.reduceOr, ↓frame_step startInsert_frame, ↓frame_step putFeed_frame,
        ↓frame_step failMember_frame, ↓frame_step slotFollows_frame, ↓frame_step powerBit_frame, ↓frame_step feedOff_frame]
theorem execInsertDelayExpiry_frame {a1 s} : OutFrame 4294967296 (execInsertDelayExpiry a1 s) s := by
  unfold execInsertDelayExpiry
  repeat' first
    | with_reducible refine frame_ite ?_ ?_
    | simp only [↓outFrame_next, ↓frame_rfl, Nat.reduceOr, ↓frame_step toPrecharge_frame]
theorem execStaggerTurn_frame {a1 s} : OutFrame 4294967296 (execStaggerTurn a1 s) s := by
  unfold execStaggerTurn
  repeat' first
    | with_reducible refine frame_ite ?_ ?_
    | simp only [↓outFrame_next, ↓frame_rfl, Nat.reduceOr, ↓frame_step toPrecharge_frame]
theorem execPrechargeDone_frame {a1 a2 s} : OutFrame 4294967296 (execPrechargeDone a1 a2 s) s := by
  unfold execPrechargeDone
  repeat' first
    | with_reducible refine frame_ite ?_ ?_
    | simp only [↓outFrame_next, ↓frame_rfl, Nat.reduceOr, ↓frame_step feedTo_frame]
theorem execPrechargeTimeout_frame {a1 s} : OutFrame 444776772360 (execPrechargeTimeout a1 s) s := by
  unfold execPrechargeTimeout
  repeat' first
    | with_reducible refine frame_ite ?_ ?_
    | simp only [↓outFrame_next, ↓frame_rfl, Nat.reduceOr, ↓frame_step failAttempt_frame]
theorem execRampDone_frame {a1 a2 a3 s} : OutFrame 4294967296 (execRampDone a1 a2 a3 s) s := by
  unfold execRampDone
  repeat' first
    | with_reducible refine frame_ite ?_ ?_
    | simp only [↓outFrame_next, ↓frame_rfl, Nat.reduceOr, ↓frame_step putFeed_frame, ↓frame_step feedTo_frame]
theorem execRampFaultTimeout_frame {a1 s} : OutFrame 444776772360 (execRampFaultTimeout a1 s) s := by
  unfold execRampFaultTimeout
  repeat' first
    | with_reducible refine frame_ite ?_ ?_
    | simp only [↓outFrame_next, ↓frame_rfl, Nat.reduceOr, ↓frame_step failAttempt_frame]
theorem execCurrentLimitReached_frame {a1 a2 s} : OutFrame 169718317064 (execCurrentLimitReached a1 a2 s) s := by
  unfold execCurrentLimitReached
  repeat' first
    | with_reducible refine frame_oite ?_ ?_
    | simp only [↓outFrame_next, ↓frame_rfl, Nat.reduceOr, ↓frame_step powerBit_frame, ↓frame_step putFeed_frame,
        ↓frame_step tellMate_frame]
    | split
theorem execLimitRelease_frame {a1 a2 s} : OutFrame 141733920768 (execLimitRelease a1 a2 s) s := by
  unfold execLimitRelease
  repeat' first
    | with_reducible refine frame_ite ?_ ?_
    | simp only [↓outFrame_next, ↓frame_rfl, Nat.reduceOr, ↓frame_step feedTo_frame, ↓frame_step tellMate_frame]
    | split
theorem execFaultTimerExpiry_frame {a1 s} : OutFrame 444776772360 (execFaultTimerExpiry a1 s) s := by
  unfold execFaultTimerExpiry
  repeat' first
    | with_reducible refine frame_ite ?_ ?_
    | simp only [↓outFrame_next, ↓frame_rfl, Nat.reduceOr, ↓frame_step failAttempt_frame]
theorem inputGood_frame {s} : Frame 4294967296 (inputGood s) s := by
  unfold inputGood
  repeat' first
    | with_reducible refine frame_ite ?_ ?_
    | simp only [↓frame_mkM, ↓frame_rfl]
    | with_reducible apply frame_mk <;> first | exact .inl rfl | exact .inr rfl | skip
theorem execPgQualified_frame {a1 a2 s} : OutFrame 141767475200 (execPgQualified a1 a2 s) s := by
  unfold execPgQualified
  repeat' first
    | with_reducible refine frame_ite ?_ ?_
    | with_reducible refine frame_oite ?_ ?_
    | simp only [↓outFrame_next, ↓frame_rfl, Nat.reduceOr, ↓frame_step inputGood_frame, ↓frame_step putFeed_frame,
        ↓frame_step startDiscovery_frame, ↓frame_step tellMate_frame]
    | split
theorem execPgLoss_frame {a1 a2 s} : OutFrame 436186837768 (execPgLoss a1 a2 s) s := by
  unfold execPgLoss
  repeat' first
    | with_reducible refine frame_ite ?_ ?_
    | simp only [↓outFrame_next, ↓frame_rfl, Nat.reduceOr, ↓frame_step slotFollows_frame, ↓frame_step putFeed_frame]
theorem execRetryWaitEnd_frame {a1 s} : OutFrame 4294967296 (execRetryWaitEnd a1 s) s := by
  unfold execRetryWaitEnd
  repeat' first
    | with_reducible refine frame_ite ?_ ?_
    | with_reducible refine frame_oite ?_ ?_
    | simp only [↓outFrame_next, ↓frame_rfl, Nat.reduceOr, ↓frame_step toPrecharge_frame, ↓frame_step feedOff_frame]
theorem execFailureCountClear_frame {a1 s} : OutFrame 4294967296 (execFailureCountClear a1 s) s := by
  unfold execFailureCountClear
  repeat' first
    | with_reducible refine frame_ite ?_ ?_
    | simp only [↓outFrame_next, ↓frame_rfl, Nat.reduceOr, ↓frame_step putFeed_frame]
theorem execDeviceDamage_frame {a1 a2 a3 s} : OutFrame 444776772360 (execDeviceDamage a1 a2 a3 s) s := by
  unfold execDeviceDamage
  repeat' first
    | with_reducible refine frame_oite ?_ ?_
    | simp only [↓outFrame_next, ↓frame_mkM, ↓frame_rfl, Nat.reduceOr, ↓frame_step powerBit_frame, ↓frame_step judgeKeepSafe_frame,
        ↓frame_step latchChannel_frame]
    | with_reducible apply frame_mk <;> first | exact .inl rfl | exact .inr rfl | skip
    | split
theorem execInputLatchClear_frame {a1 a2 s} : OutFrame 4294967296 (execInputLatchClear a1 a2 s) s := by
  unfold execInputLatchClear
  repeat' first
    | with_reducible refine frame_ite ?_ ?_
    | simp only [↓outFrame_next, ↓frame_rfl, Nat.reduceOr, ↓frame_step putFeed_frame]
theorem execBelayQualification_frame {s} : OutFrame 169726705672 (execBelayQualification s) s := by
  unfold execBelayQualification
  repeat' first
    | with_reducible refine frame_ite ?_ ?_
    | simp only [↓outFrame_next, ↓frame_rfl, Nat.reduceOr, ↓frame_step raiseBelay_frame]
    | split
theorem execRideThrough_frame {a1 s} : OutFrame 169726705672 (execRideThrough a1 s) s := by
  unfold execRideThrough
  repeat' first
    | with_reducible refine frame_ite ?_ ?_
    | simp only [↓outFrame_next, ↓frame_mkM, ↓frame_rfl, Nat.reduceOr, ↓frame_step inputReturns_frame, ↓frame_step putFeed_frame]
    | with_reducible apply frame_mk <;> first | exact .inl rfl | exact .inr rfl | skip
    | split
theorem execBelayDriveAbandon_frame {s} : OutFrame 4336910336 (execBelayDriveAbandon s) s := by
  unfold execBelayDriveAbandon
  repeat' first
    | with_reducible refine frame_ite ?_ ?_
    | simp only [↓outFrame_next, ↓frame_mkM, ↓frame_rfl, Nat.reduceOr, ↓frame_step freeCells_frame, ↓frame_step disableSlot_frame,
        ↓frame_step putPort_frame]
    | with_reducible apply frame_mk <;> first | exact .inl rfl | exact .inr rfl | skip
    | with_reducible refine frame_foldl (fun _ _ => ?_) ?_
    | split
theorem stopModule_frame {s} : Frame 372588377872 (stopModule s) s := by
  unfold stopModule
  repeat' first
    | simp only [↓frame_mkM, ↓frame_rfl]
    | with_reducible apply frame_mk <;> first | exact .inl rfl | exact .inr rfl | skip
theorem powerDown_frame {a1 s} : Frame 411243083536 (powerDown a1 s) s := by
  unfold powerDown
  repeat' first
    | simp only [↓frame_mkM, ↓frame_rfl, Nat.reduceOr, ↓frame_step startChannel_frame, ↓frame_step stopModule_frame]
    | with_reducible apply frame_mk <;> first | exact .inl rfl | exact .inr rfl | skip
theorem execBelayStop_frame {s} : OutFrame 411243083672 (execBelayStop s) s := by
  unfold execBelayStop
  repeat' first
    | with_reducible refine frame_ite ?_ ?_
    | simp only [↓outFrame_next, ↓frame_mkM, ↓frame_rfl, Nat.reduceOr, ↓frame_step powerDown_frame, ↓frame_step setFigure_frame,
        ↓frame_step free_frame]
    | with_reducible apply frame_mk <;> first | exact .inl rfl | exact .inr rfl | skip
    | split

end Machine
end Sys2Proof
end

