-- ==== Sys2Proof/Laws/PairOpsFrame.lean ====
section
/-!
SUPPORT. What the definitions of Machine/PairOps.lean leave unchanged.
-/
namespace Sys2Proof
namespace Machine
set_option maxRecDepth 100000
set_option linter.unusedSimpArgs false

theorem takeAndPerform_frame {a1 a2 s} : Frame 982456467416 (takeAndPerform a1 a2 s) s := by
  unfold takeAndPerform
  repeat' first
    | simp only [↓frame_rfl, Nat.reduceOr, ↓frame_step perform_frame, ↓frame_step takeOp_frame]
    | split
theorem startMirror_frame {s} : Frame 137573179392 (startMirror s) s := by
  unfold startMirror
  repeat' first
    | simp only [↓frame_mkM, ↓frame_rfl, Nat.reduceOr, ↓frame_step mirrorSend_frame, ↓frame_step tellHitch_frame]
    | with_reducible apply frame_mk <;> first | exact .inl rfl | exact .inr rfl | skip
    | with_reducible refine frame_foldl (fun _ _ => ?_) ?_
theorem tellState_frame {s} : Frame 137438953472 (tellState s) s := by
  unfold tellState
  repeat' first
    | simp only [↓frame_rfl, Nat.reduceOr, ↓frame_step pairState_frame, ↓frame_step tellCeremony_frame, ↓frame_step tellErasure_frame,
        ↓frame_step tellRoot_frame, ↓frame_step mirrorCtx_frame, ↓frame_step tellBanks_frame]
    | with_reducible refine frame_foldl (fun _ _ => ?_) ?_
    | split

end Machine
end Sys2Proof
end

