-- ==== Sys2Proof/Laws/TakeoverFrame.lean ====
section
/-!
SUPPORT. What the definitions of Machine/Takeover.lean leave unchanged.
-/
namespace Sys2Proof
namespace Machine
set_option maxRecDepth 100000
set_option linter.unusedSimpArgs false

theorem resumeFormat_frame {a1 s} : Frame 982455218568 (resumeFormat a1 s) s := by
  unfold resumeFormat
  repeat' first
    | with_reducible refine frame_ite ?_ ?_
    | simp only [↓frame_rfl, Nat.reduceOr, ↓frame_step changeBanks_frame, ↓frame_step putNs_frame]
    | with_reducible refine Frame.trans (formatStep_frame rfl (fun _ => ?_)) ?_
    | with_reducible refine frame_snd (by assumption) ?_
    | split
theorem resumeFormats_frame {a1 s} : Frame 982455218568 (resumeFormats a1 s) s := by
  unfold resumeFormats
  repeat' first
    | with_reducible refine frame_ite ?_ ?_
    | simp only [↓frame_rfl, Nat.reduceOr, ↓frame_step resumeFormat_frame, ↓frame_step hold_frame, ↓frame_step changeBanks_frame]
    | with_reducible refine frame_foldl (fun _ _ => ?_) ?_
    | with_reducible refine frame_snd (by assumption) ?_
    | split
theorem resumeErasure_frame {a1 s} : Frame 992111755224 (resumeErasure a1 s) s := by
  unfold resumeErasure
  repeat' first
    | with_reducible refine frame_ite ?_ ?_
    | simp only [↓frame_rfl, Nat.reduceOr, ↓frame_step eraseCheck_frame, ↓frame_step eraseEnd_frame, ↓frame_step eraseWraps_frame,
        ↓frame_step eraseKeys_frame]
theorem resumeSanitise_frame {s} : Frame 1025397751768 (resumeSanitise s) s := by
  unfold resumeSanitise
  repeat' first
    | with_reducible refine frame_ite ?_ ?_
    | simp only [↓frame_rfl, Nat.reduceOr, ↓frame_step sanitiseBanks_frame, ↓frame_step sanSign_frame, ↓frame_step sanitiseDrives_frame,
        ↓frame_step sanitiseEnd_frame]
    | split
theorem claimAddresses_frame {s} : Frame 139995644032 (claimAddresses s) s := by
  unfold claimAddresses
  repeat' first
    | simp only [↓frame_mkM, ↓frame_rfl, Nat.reduceOr, ↓frame_step sendNeighbour_frame]
    | with_reducible apply frame_mk <;> first | exact .inl rfl | exact .inr rfl | skip
    | with_reducible refine frame_foldl (fun _ _ => ?_) ?_
theorem closePartner_frame {s} : Frame 157813170312 (closePartner s) s := by
  unfold closePartner
  repeat' first
    | simp only [↓frame_mkM, ↓frame_rfl, Nat.reduceOr, ↓frame_step answerWaiting_frame, ↓frame_step enter_frame, ↓frame_step free_frame]
    | with_reducible apply frame_mk <;> first | exact .inl rfl | exact .inr rfl | skip
    | with_reducible refine frame_snd (by assumption) ?_
    | split
theorem takeRegions_frame {s} : Frame 1048576 (takeRegions s) s := by
  unfold takeRegions
  repeat' first
    | with_reducible refine frame_ite ?_ ?_
    | simp only [↓frame_rfl, Nat.reduceOr, ↓frame_step putRegion_frame]
    | with_reducible refine frame_foldl (fun _ _ => ?_) ?_
    | split
theorem pushStands_frame {a1 s} : Frame 524288 (pushStands a1 s) s := by
  unfold pushStands
  repeat' first
    | simp only [↓frame_rfl, Nat.reduceOr, ↓frame_step landWrite_frame]
    | with_reducible refine frame_elim ?_ (fun _ => ?_)
theorem takeSenders_frame {s} : Frame 262144 (takeSenders s) s := by
  unfold takeSenders
  repeat' first
    | simp only [↓frame_mkM, ↓frame_rfl]
    | with_reducible apply frame_mk <;> first | exact .inl rfl | exact .inr rfl | skip
theorem sendRecorded_frame {a1 s} : Frame 139861426304 (sendRecorded a1 s) s := by
  unfold sendRecorded
  repeat' first
    | simp only [↓frame_rfl, Nat.reduceOr, ↓frame_step launch_frame, ↓frame_step putCtx_frame]
    | split
theorem standing_frame {a1 a2 s} : Frame 982456467416 (standing a1 a2 s) s := by
  unfold standing
  repeat' first
    | simp only [↓frame_mkM, ↓frame_rfl, Nat.reduceOr, ↓frame_step putShard_frame, ↓frame_step takeAndPerform_frame]
    | with_reducible apply frame_mk <;> first | exact .inl rfl | exact .inr rfl | skip
theorem takeHandle_frame {a1 s} : Frame 512 (takeHandle a1 s) s := by
  unfold takeHandle
  repeat' first
    | with_reducible refine frame_ite ?_ ?_
    | simp only [↓frame_rfl, Nat.reduceOr, ↓frame_step putObj_frame]
    | split
theorem stands_frame {a1 a2 s} : Frame 982456467416 (stands a1 a2 s) s := by
  unfold stands
  repeat' first
    | simp only [↓frame_mkM, ↓frame_rfl, Nat.reduceOr, ↓frame_step takeHandle_frame, ↓frame_step standing_frame]
    | with_reducible apply frame_mk <;> first | exact .inl rfl | exact .inr rfl | skip
    | with_reducible refine frame_foldl (fun _ _ => ?_) ?_
    | split
theorem takeLanded_frame {a1 a2 a3 s} : Frame 982456991704 (takeLanded a1 a2 a3 s) s := by
  unfold takeLanded
  repeat' first
    | with_reducible refine frame_ite ?_ ?_
    | simp only [↓frame_mkM, ↓frame_rfl, Nat.reduceOr, ↓frame_step pushStands_frame, ↓frame_step stands_frame]
    | with_reducible apply frame_mk <;> first | exact .inl rfl | exact .inr rfl | skip
    | split
theorem readLanded_frame {a1 a2 s} : Frame 982456991704 (readLanded a1 a2 s) s := by
  unfold readLanded
  repeat' first
    | simp only [↓frame_mkM, ↓frame_rfl, Nat.reduceOr, ↓frame_step idleFromStamp_frame, ↓frame_step takeLanded_frame]
    | with_reducible apply frame_mk <;> first | exact .inl rfl | exact .inr rfl | skip
    | with_reducible refine frame_foldl (fun _ _ => ?_) ?_
theorem resumeRecord_frame {a1 s} : Frame 982456467416 (resumeRecord a1 s) s := by
  unfold resumeRecord
  repeat' first
    | with_reducible refine frame_ite ?_ ?_
    | simp only [↓frame_rfl, Nat.reduceOr, ↓frame_step sendRecorded_frame, ↓frame_step stands_frame, ↓frame_step takeHandle_frame,
        ↓frame_step standing_frame, ↓frame_step takeAndPerform_frame]
    | with_reducible refine frame_foldl (fun _ _ => ?_) ?_
    | split
theorem takeRecord_frame {a1 s} : Frame 982456991704 (takeRecord a1 s) s := by
  unfold takeRecord
  repeat' first
    | with_reducible refine frame_ite ?_ ?_
    | simp only [↓frame_rfl, Nat.reduceOr, ↓frame_step pushStands_frame, ↓frame_step resumeRecord_frame]
theorem resumeForwarded_frame {s} : Frame 982456467416 (resumeForwarded s) s := by
  unfold resumeForwarded
  repeat' first
    | simp only [↓frame_mkM, ↓frame_rfl, Nat.reduceOr, ↓frame_step perform_frame]
    | with_reducible apply frame_mk <;> first | exact .inl rfl | exact .inr rfl | skip
    | with_reducible refine frame_foldl (fun _ _ => ?_) ?_
theorem takeoverFigures_frame {a1 s} : Frame 156833415168 (takeoverFigures a1 s) s := by
  unfold takeoverFigures
  repeat' first
    | with_reducible refine frame_ite ?_ ?_
    | simp only [↓frame_rfl, Nat.reduceOr, ↓frame_step raise_frame, ↓frame_step setFigure_frame, ↓frame_step bumpFigure_frame]
theorem takeAll_frame {a1 s} : Frame 1030775373820 (takeAll a1 s) s := by
  unfold takeAll
  repeat' first
    | simp only [↓frame_mkM, ↓frame_rfl, Nat.reduceOr, ↓frame_step takeCeremonies_frame, ↓frame_step takeoverFigures_frame,
        ↓frame_step settle_frame, ↓frame_step pumpOut_frame, ↓frame_step resumeSanitise_frame, ↓frame_step resumeErasure_frame,
        ↓frame_step resumeFormats_frame, ↓frame_step takeHitches_frame, ↓frame_step resumeForwarded_frame, ↓frame_step takeRecord_frame,
        ↓frame_step takeSenders_frame, ↓frame_step readLanded_frame, ↓frame_step takeRegions_frame, ↓frame_step putShard_frame,
        ↓frame_step claimAddresses_frame, ↓frame_step closePartner_frame]
    | with_reducible apply frame_mk <;> first | exact .inl rfl | exact .inr rfl | skip
    | with_reducible refine frame_foldl (fun _ _ => ?_) ?_
theorem execTakeover_frame {s} : OutFrame 1030775373820 (execTakeover s) s := by
  unfold execTakeover
  repeat' first
    | with_reducible refine frame_ite ?_ ?_
    | simp only [↓outFrame_next, ↓frame_rfl, Nat.reduceOr, ↓frame_step takeAll_frame]
    | split
theorem returnToPair_frame {s} : Frame 157005438984 (returnToPair s) s := by
  unfold returnToPair
  repeat' first
    | simp only [↓frame_mkM, ↓frame_rfl, Nat.reduceOr, ↓frame_step openLanyard_frame, ↓frame_step reservationCmd_frame]
    | with_reducible apply frame_mk <;> first | exact .inl rfl | exact .inr rfl | skip
    | with_reducible refine frame_foldl (fun _ _ => ?_) ?_
    | split
theorem execPairRejoin_frame {s} : OutFrame 157005438984 (execPairRejoin s) s := by
  unfold execPairRejoin
  repeat' first
    | with_reducible refine frame_ite ?_ ?_
    | simp only [↓outFrame_next, ↓frame_rfl, Nat.reduceOr, ↓frame_step startMirror_frame, ↓frame_step returnToPair_frame]
theorem giveShard_frame {a1 s} : Frame 137573179392 (giveShard a1 s) s := by
  unfold giveShard
  repeat' first
    | with_reducible refine frame_ite ?_ ?_
    | simp only [↓frame_mkM, ↓frame_rfl, Nat.reduceOr, ↓frame_step putShard_frame, ↓frame_step send_frame]
    | with_reducible apply frame_mk <;> first | exact .inl rfl | exact .inr rfl | skip
theorem execShardHandover_frame {a1 a2 a3 s} : OutFrame 982456991704 (execShardHandover a1 a2 a3 s) s := by
  unfold execShardHandover
  repeat' first
    | with_reducible refine frame_ite ?_ ?_
    | with_reducible refine frame_oite ?_ ?_
    | simp only [↓outFrame_next, ↓frame_mkM, ↓frame_rfl, Nat.reduceOr, ↓frame_step giveShard_frame, ↓frame_step putShard_frame,
        ↓frame_step readLanded_frame, ↓frame_step takeRegions_frame]
    | with_reducible apply frame_mk <;> first | exact .inl rfl | exact .inr rfl | skip
theorem execForwardedCommand_frame {a1 a2 s} : OutFrame 991046402008 (execForwardedCommand a1 a2 s) s := by
  unfold execForwardedCommand
  repeat' first
    | with_reducible refine frame_oite ?_ ?_
    | simp only [↓outFrame_next, ↓frame_mkM, ↓frame_rfl, Nat.reduceOr, ↓frame_step takeAndPerform_frame, ↓frame_step wake_frame]
    | with_reducible apply frame_mk <;> first | exact .inl rfl | exact .inr rfl | skip
    | split
theorem execForwardReply_frame {a1 a2 a3 a4 a5 a6 s} : OutFrame 990229099272 (execForwardReply a1 a2 a3 a4 a5 a6 s) s := by
  unfold execForwardReply
  repeat' first
    | simp only [↓outFrame_next, ↓frame_mkM, ↓frame_rfl, Nat.reduceOr, ↓frame_step readFor_frame, ↓frame_step hold_frame,
        ↓frame_step wake_frame]
    | with_reducible apply frame_mk <;> first | exact .inl rfl | exact .inr rfl | skip
    | split

end Machine
end Sys2Proof
end

