-- ==== Sys2Proof/Laws/Keeps.lean ====
section
/-!
SUPPORT. What the operations that change the fuse, the custodian set or landing memory, and the commands over them, keep.
-/
namespace Sys2Proof
namespace Machine
set_option maxRecDepth 100000
set_option linter.unusedSimpArgs false

theorem voidDram_keep {s} : Keep (voidDram s) s := ⟨Nat.le_refl _, id, fun _ => rfl⟩
theorem unlockModule_keep {s} : Keep (unlockModule s) s := by
  unfold unlockModule
  refine Keep.trans (sayDying_frame.keep rfl) (Keep.trans voidDram_keep ?_)
  exact Keep.trans (b := (draw s).2) ⟨Nat.le_refl _, id, id⟩ (draw_frame.keep rfl)
theorem formatStep_keep {a1 f2 a3 s} (h : ∀ s, Keep (f2 s) s) : Keep (formatStep a1 f2 a3 s) s := by
  unfold formatStep
  repeat' first
    | simp only [↓keep_rfl, Nat.reduceAnd, ↓keep_step formatF2_frame, ↓keep_step formatF1_frame, ↓keep_step formatF3_frame,
        ↓keep_step formatF4_frame]
    | with_reducible refine Keep.trans (h _) ?_
    | with_reducible refine keep_foldl (fun _ _ => ?_) ?_
    | split
theorem releaseHeld_keep {a1 s} : Keep (releaseHeld a1 s) s := by
  unfold releaseHeld
  repeat' first
    | with_reducible refine keep_ite ?_ ?_
    | simp only [↓keep_rfl, Nat.reduceAnd, ↓keep_step leave_frame, ↓keep_step endVerify_frame, ↓keep_step noteRead_frame,
        ↓keep_step perform_frame, ↓keep_step readBackDone_frame, ↓keep_step forgetNs_frame, ↓keep_step eraseCheck_frame,
        ↓keep_step eraseWraps_frame, ↓keep_step eraseEnd_frame, ↓keep_step sanitiseKeys_frame, ↓keep_step sanitiseDrives_frame,
        ↓keep_step sanitiseEnd_frame, ↓keep_step sendReceipt_frame, ↓keep_step sendComplete_frame]
    | with_reducible refine Keep.trans (formatStep_keep (fun _ => ?_)) ?_
    | with_reducible refine Keep.trans unlockModule_keep ?_
    | with_reducible refine keep_foldl (fun _ _ => ?_) ?_
    | with_reducible refine keep_elim ?_ (fun _ => ?_)
    | split
theorem execCompletionRelease_keep {a1 s} : OutKeep (execCompletionRelease a1 s) s := by
  unfold execCompletionRelease
  repeat' first
    | with_reducible refine keep_ite ?_ ?_
    | simp only [↓keep_next, ↓keep_mk, ↓keepF_eq, ↓keep_rfl]
    | with_reducible refine Keep.trans releaseHeld_keep ?_
    | split
theorem actSetChange_keep {a1 a2 a3 a4 a5 s} : Keep (actSetChange a1 a2 a3 a4 a5 s) s := by
  unfold actSetChange
  split
  · exact (qReply_frame.keep rfl)
  · rename_i e
    have l : legalSet a1.toNat a3 = true := by
      unfold setRefusal at e
      cases hl : legalSet a1.toNat a3 with
      | true => rfl
      | false => simp only [hl] at e; split at e <;> simp at e
    have k : Keep (touch .custodianSet ((a4.toList).foldl (fun acc e => takeRole e .escrow acc) (a3.foldl (fun acc x => takeRole x .custodian acc) s))) s :=
      Keep.trans (touch_frame.keep rfl)
        (keep_foldl (fun _ _ => takeRole_frame.keep rfl) (keep_foldl (fun _ _ => takeRole_frame.keep rfl) Keep.refl))
    refine Keep.trans (closeConns_frame.keep rfl) ?_
    refine Keep.trans (closeAll_frame.keep rfl) ?_
    refine Keep.trans (qReply_frame.keep rfl) ?_
    refine Keep.trans (quorumDone_frame.keep rfl) ?_
    refine Keep.trans (keyEntry_frame.keep rfl) ?_
    refine Keep.trans (changeBanks_frame.keep rfl) ?_
    refine Keep.trans ?_ k
    exact ⟨Nat.le_refl _, fun _ => by simp only [legal, l, Bool.or_true], id⟩
theorem needsDrives_keep {f1 f2 s} (h : ∀ s, Keep (f1 s) s) (k : ∀ s, Keep (f2 s) s) : Keep (needsDrives f1 f2 s) s := by
  unfold needsDrives
  have g : Keep (f2 s) s := k s
  have h' : Keep (f1 s) s := h s
  repeat' first
    | with_reducible refine keep_ite ?_ ?_
    | simp only [Nat.reduceAnd, ↓keep_mk, ↓keepF_eq, ↓keep_step powerDrives_frame]
    | exact g
    | exact h'
theorem mailboxCmd_keep {a1 a2 a3 a4 f5 s} (h : ∀ n s, Keep (f5 n s) s) : Keep (mailboxCmd a1 a2 a3 a4 f5 s) s := by
  unfold mailboxCmd
  repeat' first
    | with_reducible refine keep_ite ?_ ?_
    | simp only [↓keep_rfl, Nat.reduceAnd, ↓keep_step reply_frame, ↓keep_step takeRequest_frame, ↓keep_step putConn_frame,
        ↓keep_step refuse_frame]
    | with_reducible refine Keep.trans (h _ _) ?_
    | with_reducible refine Keep.trans (needsDrives_keep (fun _ => ?_) (fun _ => ?_)) ?_
    | split
theorem endCeremony_keep {a1 a2 a3 f4 s} (h : ∀ n s, Keep (f4 n s) s) : Keep (endCeremony a1 a2 a3 f4 s) s := by
  unfold endCeremony
  repeat' first
    | with_reducible refine keep_ite ?_ ?_
    | simp only [↓keep_rfl, Nat.reduceAnd, ↓keep_step qReply_frame, ↓keep_step closeCeremony_frame]
    | with_reducible refine Keep.trans (h _ _) ?_
theorem quorumCmd_keep {a1 a2 a3 f4 s} (h : ∀ n s, Keep (f4 n s) s) : Keep (quorumCmd a1 a2 a3 f4 s) s := by
  unfold quorumCmd
  repeat' first
    | with_reducible refine keep_ite ?_ ?_
    | simp only [↓keep_rfl, Nat.reduceAnd, ↓keep_step reply_frame]
    | with_reducible refine Keep.trans (h _ _) ?_
    | with_reducible refine Keep.trans (mailboxCmd_keep (fun _ _ => ?_)) ?_
    | with_reducible refine Keep.trans (endCeremony_keep (fun _ _ => ?_)) ?_
    | split
theorem execCustodianSetChange_keep {a1 a2 a3 a4 a5 a6 s} : OutKeep (execCustodianSetChange a1 a2 a3 a4 a5 a6 s) s := by
  unfold execCustodianSetChange
  repeat' first
    | simp only [↓keep_next, ↓keep_rfl]
    | with_reducible refine Keep.trans (quorumCmd_keep (fun _ _ => ?_)) ?_
    | with_reducible refine Keep.trans actSetChange_keep ?_
theorem execFwCommit_keep {a1 a2 s} : OutKeep (execFwCommit a1 a2 s) s := by
  unfold execFwCommit
  simp only [↓keep_next]
  refine mailboxCmd_keep (fun _ s => ?_)
  split
  · exact reply_frame.keep rfl
  · refine Keep.trans (reply_frame.keep rfl) (Keep.trans (enter_frame.keep rfl) (Keep.trans (send_frame.keep rfl) ?_))
    exact ⟨Nat.le_max_left _ _, id, id⟩
theorem execDebugUnlock_keep {a1 a2 s} : OutKeep (execDebugUnlock a1 a2 s) s := by
  unfold execDebugUnlock
  repeat' first
    | with_reducible refine keep_ite ?_ ?_
    | simp only [↓keep_next, ↓keep_rfl, Nat.reduceAnd, ↓keep_step reply_frame, ↓keep_step unlockClose_frame, ↓keep_step replyHeld_frame]
    | with_reducible refine Keep.trans (mailboxCmd_keep (fun _ _ => ?_)) ?_
    | with_reducible refine Keep.trans unlockModule_keep ?_
theorem runAct_keep {a1 a2 s} : Keep (runAct a1 a2 s) s := by
  unfold runAct
  repeat' first
    | simp only [↓keep_rfl, Nat.reduceAnd, ↓keep_step actTimeAuth_frame, ↓keep_step actEscrowImport_frame,
        ↓keep_step actCustodyCertify_frame, ↓keep_step actTenantErase_frame, ↓keep_step endNoAct_frame, ↓keep_step actOvlApply_frame,
        ↓keep_step actOvlRemove_frame, ↓keep_step actBaseLoad_frame, ↓keep_step actSanitise_frame, ↓keep_step actHitchOpen_frame,
        ↓keep_step actHitchClose_frame, ↓keep_step actHitchAbort_frame, ↓keep_step actRelease_frame]
    | with_reducible refine Keep.trans actSetChange_keep ?_
    | split
theorem takeSignature_keep {a1 a2 a3 s} : Keep (takeSignature a1 a2 a3 s) s := by
  unfold takeSignature
  repeat' first
    | with_reducible refine keep_ite ?_ ?_
    | simp only [↓keep_rfl, Nat.reduceAnd, ↓keep_step signReply_frame, ↓keep_step countSignature_frame]
    | with_reducible refine Keep.trans (endCeremony_keep (fun _ _ => ?_)) ?_
    | with_reducible refine Keep.trans runAct_keep ?_
    | with_reducible refine keep_snd (by assumption) ?_
    | split
theorem execQuorumSign_keep {a1 a2 s} : OutKeep (execQuorumSign a1 a2 s) s := by
  unfold execQuorumSign
  repeat' first
    | with_reducible refine keep_ite ?_ ?_
    | simp only [↓keep_next, ↓keep_rfl, Nat.reduceAnd, ↓keep_step reply_frame, ↓keep_step forwardSignature_frame]
    | with_reducible refine Keep.trans (mailboxCmd_keep (fun _ _ => ?_)) ?_
    | with_reducible refine Keep.trans takeSignature_keep ?_
    | split
theorem takeCeremonies_keep {s} : Keep (takeCeremonies s) s := by
  unfold takeCeremonies
  repeat' first
    | simp only [↓keep_mk, ↓keepF_eq, ↓keep_rfl, Nat.reduceAnd, ↓keep_step freeTag_frame, ↓keep_step reply_frame]
    | with_reducible refine Keep.trans takeSignature_keep ?_
    | with_reducible refine keep_foldl (fun _ _ => ?_) ?_
    | split
theorem moveByte_keep {a1 a2 s} : Keep (moveByte a1 a2 s) s := by
  unfold moveByte
  by_cases h1 : a1.srcSpace = 0 <;> by_cases h2 : a1.dstSpace = 0 <;> simp only [h1, h2, if_true, if_false]
  · exact ⟨Nat.le_refl _, id, fun h => memPut_wf h⟩
  · exact Keep.refl
  · exact Keep.trans (b := (free s).2) ⟨Nat.le_refl _, id, fun h => memPut_wf h⟩ (free_frame.keep rfl)
  · exact (free_frame.keep rfl)
theorem moveBurst_keep {a1 a2 a3 s} : Keep (moveBurst a1 a2 a3 s) s := by
  unfold moveBurst
  repeat' first
    | simp only [↓keep_rfl]
    | with_reducible refine Keep.trans moveByte_keep ?_
    | with_reducible refine keep_foldl (fun _ _ => ?_) ?_
theorem moverRecord_keep {a1 a2 a3 a4 a5 s} : Keep (moverRecord a1 a2 a3 a4 a5 s) s := by
  unfold moverRecord
  generalize ([(2, _), (1, _), (1, _), (4, _), (4, _), (4, _)] ++ _ ++ _ : Flds) = f
  exact ⟨Nat.le_refl _, id, fun h => memPutAll_wf h⟩
theorem nextDesc_keep {a1 a2 s} : Keep (nextDesc a1 a2 s) s := by
  induction a2 generalizing s with
  | zero => exact Keep.refl
  | succ n ih =>
    unfold nextDesc
    dsimp only
    split
    · simp only [Nat.reduceAnd, ↓keep_step putChannel_frame, ↓keep_rfl]
    · split
      · simp only [Nat.reduceAnd, ↓keep_step putChannel_frame, ↓keep_rfl]
      · split
        · simp only [Nat.reduceAnd, ↓keep_step putChannel_frame, ↓keep_rfl]
        · refine Keep.trans ih ?_
          simp only [Nat.reduceAnd, ↓keep_step raise_frame]
          exact moverRecord_keep.trans (putChannel_frame.keep rfl)
theorem endDesc_keep {a1 s} : Keep (endDesc a1 s) s := by
  unfold endDesc
  repeat' first
    | with_reducible refine keep_ite ?_ ?_
    | simp only [↓keep_rfl, Nat.reduceAnd, ↓keep_step putChannel_frame, ↓keep_step raise_frame, ↓keep_step bumpFigure_frame]
    | with_reducible refine Keep.trans nextDesc_keep ?_
    | with_reducible refine Keep.trans moverRecord_keep ?_
    | split
theorem execMoverBurstComplete_keep {a1 s} : OutKeep (execMoverBurstComplete a1 s) s := by
  unfold execMoverBurstComplete
  repeat' first
    | with_reducible refine keep_ite ?_ ?_
    | with_reducible refine keep_oite ?_ ?_
    | simp only [↓keep_next, ↓keep_rfl, Nat.reduceAnd, ↓keep_step sharePipes_frame, ↓keep_step putChannel_frame]
    | with_reducible refine Keep.trans nextDesc_keep ?_
    | with_reducible refine Keep.trans endDesc_keep ?_
    | with_reducible refine Keep.trans moveBurst_keep ?_
    | split
theorem takeAbort_keep {a1 s} : Keep (takeAbort a1 s) s := by
  unfold takeAbort
  repeat' first
    | with_reducible refine keep_ite ?_ ?_
    | simp only [↓keep_rfl]
    | with_reducible refine Keep.trans endDesc_keep ?_
theorem abortChannels_keep {a1 s} : Keep (abortChannels a1 s) s := by
  unfold abortChannels
  repeat' first
    | simp only [↓keep_rfl, Nat.reduceAnd, ↓keep_step putChannel_frame]
    | with_reducible refine Keep.trans takeAbort_keep ?_
    | with_reducible refine keep_foldl (fun _ _ => ?_) ?_
theorem execMoverFault_keep {a1 a2 s} : OutKeep (execMoverFault a1 a2 s) s := by
  unfold execMoverFault
  repeat' first
    | with_reducible refine keep_ite ?_ ?_
    | with_reducible refine keep_oite ?_ ?_
    | simp only [↓keep_next, ↓keep_rfl, Nat.reduceAnd, ↓keep_step raise_frame, ↓keep_step sharePipes_frame, ↓keep_step putChannel_frame]
    | with_reducible refine Keep.trans takeAbort_keep ?_
theorem landWrite_keep {a1 a2 a3 s} : Keep (landWrite a1 a2 a3 s) s := by
  unfold landWrite
  exact ⟨Nat.le_refl _, id, memPutAll_wf⟩
theorem mateSet_keep {a1 a2 a3 s} (h : legalSet a1 a2 = true) : Keep (mateSet a1 a2 a3 s) s := by
  unfold mateSet
  dsimp only
  refine Keep.trans (closeConns_frame.keep rfl) ?_
  refine Keep.trans (closeAll_frame.keep rfl) ?_
  refine Keep.trans (touch_frame.keep rfl) ?_
  refine Keep.trans (b := (a3.toList).foldl (fun acc e => takeRole e .escrow acc) (a2.foldl (fun acc x => takeRole x .custodian acc) s))
    ⟨Nat.le_refl _, fun _ => by simp only [legal, h, Bool.or_true], id⟩ ?_
  exact keep_foldl (fun _ _ => takeRole_frame.keep rfl) (keep_foldl (fun _ _ => takeRole_frame.keep rfl) Keep.refl)
theorem bankRec_keep {a1 s} : Keep (bankRec a1 s) s := by
  unfold bankRec
  split
  · split
    · rename_i h
      exact mateSet_keep h
    · exact Keep.refl
  · exact bankTenant_frame.keep rfl
  · exact forgetTenant_frame.keep rfl
  · exact bankColl_frame.keep rfl
  · exact dropColl_frame.keep rfl
  · exact bankNs_frame.keep rfl
  · exact keep_elim Keep.refl (fun _ => forgetNs_frame.keep rfl)
theorem mateBank_keep {a1 a2 a3 s} : Keep (mateBank a1 a2 a3 s) s := by
  unfold mateBank
  repeat' first
    | with_reducible refine keep_ite ?_ ?_
    | simp only [↓keep_mk, ↓keepF_eq, ↓keep_rfl, Nat.reduceAnd, ↓keep_step putMember_frame, ↓keep_step changeBanks_frame]
    | with_reducible refine Keep.trans bankRec_keep ?_
    | with_reducible refine keep_foldl (fun _ _ => ?_) ?_
theorem mateSigner_keep {a1 a2 s} : Keep (mateSigner a1 a2 s) s := by
  unfold mateSigner
  repeat' first
    | with_reducible refine keep_ite ?_ ?_
    | simp only [↓keep_mk, ↓keepF_eq, ↓keep_rfl, Nat.reduceAnd, ↓keep_step answerMate_frame]
    | with_reducible refine Keep.trans takeSignature_keep ?_
    | split
theorem applyPairState_keep {a1 s} : Keep (applyPairState a1 s) s := by
  cases a1 <;> unfold applyPairState <;> dsimp only
  case memberState => exact (onSlot_frame rfl (fun _ _ => mateMember_frame.mono rfl)).keep (w := 2199022731257) rfl
  case context => exact mateCtx_frame.keep rfl
  case segmentGrant => exact takeGrant_frame.keep rfl
  case segmentAsk => exact giveGrant_frame.keep rfl
  case bank => exact mateBank_keep
  case rootTable => exact putPart_frame.keep rfl
  case phase => exact matePhase_frame.keep rfl
  case ceremonyOpen => exact mateCeremony_frame.keep rfl
  case ceremonySigner => exact mateSigner_keep
  case ceremonyAnswer => exact mateAnswer_frame.keep rfl
  case ceremonyClosed => exact mateClosed_frame.keep rfl
  case overlay => exact mateOverlay_frame.keep rfl
  case overlayGone => exact mateLift_frame.keep rfl
  case baseImage => exact keep_ite Keep.refl (placeImage_frame.keep rfl)
  case yield => exact ⟨Nat.le_refl _, id, id⟩
  case slotEnable => exact (onSlot_frame rfl (fun _ _ => by split <;> first | exact enableSlot_frame.mono rfl | exact disableSlot_frame.mono rfl)).keep (w := 2199022731257) rfl
  case channel => exact (onSlot_frame rfl (fun _ _ => mateChannel_frame.mono rfl)).keep (w := 2199022731257) rfl
  case latchClear => exact (onSlot_frame rfl (fun _ _ => clearOwnLatch_frame.mono rfl)).keep (w := 2199022731257) rfl
  case hitch => exact mateHitch_frame.keep rfl
  case hitchSeq => exact mateSeq_frame.keep rfl
  case hitchNotice => exact mateNotice_frame.keep rfl
  case drivesQuiet => exact Keep.trans (advanceDown_frame.keep rfl) ⟨Nat.le_refl _, id, id⟩
theorem execPairStateMessage_keep {a1 s} : OutKeep (execPairStateMessage a1 s) s := by
  unfold execPairStateMessage
  repeat' first
    | with_reducible refine keep_ite ?_ ?_
    | simp only [↓keep_next, ↓keep_rfl, Nat.reduceAnd, ↓keep_step wake_frame]
    | with_reducible refine Keep.trans applyPairState_keep ?_
theorem entryActs_keep {a1 s} : Keep (entryActs a1 s) s := by
  unfold entryActs
  repeat' first
    | with_reducible refine keep_ite ?_ ?_
    | simp only [↓keep_mk, ↓keepF_eq, ↓keep_rfl, Nat.reduceAnd, ↓keep_step trustAgain_frame, ↓keep_step clearStatus_frame,
        ↓keep_step startScrub_frame, ↓keep_step restartPort_frame, ↓keep_step sharePipes_frame, ↓keep_step resetPort_frame,
        ↓keep_step startReeving_frame, ↓keep_step clearLatch_frame]
    | with_reducible refine Keep.trans abortChannels_keep ?_
theorem applySet_keep {a1 s} : Keep (applySet a1 s) s := by
  unfold applySet
  repeat' first
    | simp only [↓keep_rfl, Nat.reduceAnd, ↓keep_step paramEffects_frame, ↓keep_step withSets_frame]
    | with_reducible refine Keep.trans entryActs_keep ?_
    | with_reducible refine keep_foldl (fun _ _ => ?_) ?_
theorem paramSetCmd_keep {a1 a2 a3 s} : Keep (paramSetCmd a1 a2 a3 s) s := by
  unfold paramSetCmd
  repeat' first
    | with_reducible refine keep_ite ?_ ?_
    | simp only [↓keep_rfl, Nat.reduceAnd, ↓keep_step reply_frame]
    | with_reducible refine Keep.trans (mailboxCmd_keep (fun _ _ => ?_)) ?_
    | with_reducible refine Keep.trans applySet_keep ?_
    | split
theorem execParamSet_keep {a1 a2 a3 s} : OutKeep (execParamSet a1 a2 a3 s) s := by
  unfold execParamSet
  repeat' first
    | simp only [↓keep_next, ↓keep_rfl]
    | with_reducible refine Keep.trans paramSetCmd_keep ?_
theorem execTsStatusClear_keep {a1 s} : OutKeep (execTsStatusClear a1 s) s := by
  unfold execTsStatusClear
  repeat' first
    | simp only [↓keep_next, ↓keep_rfl]
    | with_reducible refine Keep.trans paramSetCmd_keep ?_
theorem execScrubStart_keep {a1 s} : OutKeep (execScrubStart a1 s) s := by
  unfold execScrubStart
  repeat' first
    | simp only [↓keep_next, ↓keep_rfl]
    | with_reducible refine Keep.trans paramSetCmd_keep ?_
theorem execMacPortModeWrite_keep {a1 a2 a3 s} : OutKeep (execMacPortModeWrite a1 a2 a3 s) s := by
  unfold execMacPortModeWrite
  repeat' first
    | simp only [↓keep_next, ↓keep_rfl]
    | with_reducible refine Keep.trans paramSetCmd_keep ?_
theorem execMacPortRestart_keep {a1 a2 s} : OutKeep (execMacPortRestart a1 a2 s) s := by
  unfold execMacPortRestart
  repeat' first
    | simp only [↓keep_next, ↓keep_rfl]
    | with_reducible refine Keep.trans paramSetCmd_keep ?_
theorem execMovAbort_keep {a1 a2 s} : OutKeep (execMovAbort a1 a2 s) s := by
  unfold execMovAbort
  repeat' first
    | simp only [↓keep_next, ↓keep_rfl]
    | with_reducible refine Keep.trans paramSetCmd_keep ?_
theorem execSlotReset_keep {a1 a2 s} : OutKeep (execSlotReset a1 a2 s) s := by
  unfold execSlotReset
  repeat' first
    | simp only [↓keep_next, ↓keep_rfl]
    | with_reducible refine Keep.trans paramSetCmd_keep ?_
theorem execSepCtrlWrite_keep {a1 a2 s} : OutKeep (execSepCtrlWrite a1 a2 s) s := by
  unfold execSepCtrlWrite
  repeat' first
    | simp only [↓keep_next, ↓keep_rfl]
    | with_reducible refine Keep.trans paramSetCmd_keep ?_
theorem execSepMbxMapWrite_keep {a1 a2 s} : OutKeep (execSepMbxMapWrite a1 a2 s) s := by
  unfold execSepMbxMapWrite
  repeat' first
    | simp only [↓keep_next, ↓keep_rfl]
    | with_reducible refine Keep.trans paramSetCmd_keep ?_
theorem execPairHomeWrite_keep {a1 a2 a3 s} : OutKeep (execPairHomeWrite a1 a2 a3 s) s := by
  unfold execPairHomeWrite
  repeat' first
    | simp only [↓keep_next, ↓keep_rfl]
    | with_reducible refine Keep.trans paramSetCmd_keep ?_
theorem execPairCtrlHandover_keep {a1 s} : OutKeep (execPairCtrlHandover a1 s) s := by
  unfold execPairCtrlHandover
  repeat' first
    | simp only [↓keep_next, ↓keep_rfl]
    | with_reducible refine Keep.trans paramSetCmd_keep ?_
theorem execReeveStart_keep {a1 s} : OutKeep (execReeveStart a1 s) s := by
  unfold execReeveStart
  repeat' first
    | simp only [↓keep_next, ↓keep_rfl]
    | with_reducible refine Keep.trans paramSetCmd_keep ?_
theorem execSlotChCtrl_keep {a1 a2 a3 s} : OutKeep (execSlotChCtrl a1 a2 a3 s) s := by
  unfold execSlotChCtrl
  repeat' first
    | simp only [↓keep_next, ↓keep_rfl]
    | with_reducible refine Keep.trans paramSetCmd_keep ?_
theorem stopModule_keep {s} : Keep (stopModule s) s := by
  unfold stopModule
  exact ⟨Nat.le_refl _, id, fun _ => rfl⟩
theorem powerDown_keep {a1 s} : Keep (powerDown a1 s) s := by
  unfold powerDown
  repeat' first
    | simp only [↓keep_mk, ↓keepF_eq, ↓keep_rfl, Nat.reduceAnd, ↓keep_step startChannel_frame]
    | with_reducible refine Keep.trans stopModule_keep ?_
theorem execBelayStop_keep {s} : OutKeep (execBelayStop s) s := by
  unfold execBelayStop
  repeat' first
    | with_reducible refine keep_ite ?_ ?_
    | simp only [↓keep_next, ↓keep_mk, ↓keepF_eq, ↓keep_rfl, Nat.reduceAnd, ↓keep_step setFigure_frame, ↓keep_step free_frame]
    | with_reducible refine Keep.trans powerDown_keep ?_
    | split
theorem drainRegion_keep {a1 a2 s} : Keep (drainRegion a1 a2 s) s := by
  unfold drainRegion
  refine Keep.trans (b := { s with reg := { s.reg with regions := dropIf (fun x => x.owner == a1.owner) s.reg.regions, mem := memZero a1.base a1.size s.reg.mem, triggers := dropIf (fun t => t.ctx == a1.owner) s.reg.triggers } }) ?_ ⟨Nat.le_refl _, id, memZero_wf⟩
  repeat' first
    | with_reducible refine keep_ite ?_ ?_
    | simp only [Nat.reduceAnd, ↓keep_rfl, ↓keep_step freeCtx_frame, ↓keep_step raise_frame, ↓keep_step setFigure_frame]
theorem execRegionDrained_keep {a1 s} : OutKeep (execRegionDrained a1 s) s := by
  unfold execRegionDrained
  repeat' first
    | with_reducible refine keep_ite ?_ ?_
    | simp only [↓keep_next, ↓keep_rfl]
    | with_reducible refine Keep.trans drainRegion_keep ?_
    | split
theorem pushStands_keep {a1 s} : Keep (pushStands a1 s) s := by
  unfold pushStands
  repeat' first
    | simp only [↓keep_rfl]
    | with_reducible refine Keep.trans landWrite_keep ?_
    | with_reducible refine keep_elim ?_ (fun _ => ?_)
theorem takeLanded_keep {a1 a2 a3 s} : Keep (takeLanded a1 a2 a3 s) s := by
  unfold takeLanded
  repeat' first
    | with_reducible refine keep_ite ?_ ?_
    | simp only [↓keep_mk, ↓keepF_eq, ↓keep_rfl, Nat.reduceAnd, ↓keep_step stands_frame]
    | with_reducible refine Keep.trans pushStands_keep ?_
    | split
theorem readLanded_keep {a1 a2 s} : Keep (readLanded a1 a2 s) s := by
  unfold readLanded
  repeat' first
    | simp only [↓keep_mk, ↓keepF_eq, ↓keep_rfl, Nat.reduceAnd, ↓keep_step idleFromStamp_frame]
    | with_reducible refine Keep.trans takeLanded_keep ?_
    | with_reducible refine keep_foldl (fun _ _ => ?_) ?_
theorem takeRecord_keep {a1 s} : Keep (takeRecord a1 s) s := by
  unfold takeRecord
  repeat' first
    | with_reducible refine keep_ite ?_ ?_
    | simp only [↓keep_rfl, Nat.reduceAnd, ↓keep_step resumeRecord_frame]
    | with_reducible refine Keep.trans pushStands_keep ?_
theorem takeAll_keep {a1 s} : Keep (takeAll a1 s) s := by
  unfold takeAll
  repeat' first
    | simp only [↓keep_mk, ↓keepF_eq, ↓keep_rfl, Nat.reduceAnd, ↓keep_step takeoverFigures_frame, ↓keep_step settle_frame,
        ↓keep_step pumpOut_frame, ↓keep_step resumeSanitise_frame, ↓keep_step resumeErasure_frame, ↓keep_step resumeFormats_frame,
        ↓keep_step takeHitches_frame, ↓keep_step resumeForwarded_frame, ↓keep_step takeSenders_frame, ↓keep_step takeRegions_frame,
        ↓keep_step putShard_frame, ↓keep_step claimAddresses_frame, ↓keep_step closePartner_frame]
    | with_reducible refine Keep.trans takeCeremonies_keep ?_
    | with_reducible refine Keep.trans takeRecord_keep ?_
    | with_reducible refine Keep.trans readLanded_keep ?_
    | with_reducible refine keep_foldl (fun _ _ => ?_) ?_
theorem execTakeover_keep {s} : OutKeep (execTakeover s) s := by
  unfold execTakeover
  repeat' first
    | with_reducible refine keep_ite ?_ ?_
    | simp only [↓keep_next, ↓keep_rfl]
    | with_reducible refine Keep.trans takeAll_keep ?_
    | split
theorem execShardHandover_keep {a1 a2 a3 s} : OutKeep (execShardHandover a1 a2 a3 s) s := by
  unfold execShardHandover
  repeat' first
    | with_reducible refine keep_oite ?_ ?_
    | with_reducible refine keep_ite ?_ ?_
    | simp only [↓keep_next, ↓keep_rfl, Nat.reduceAnd, ↓keep_step giveShard_frame, ↓keep_step putShard_frame]
  have k : Keep (readLanded [a1] s.pair.mirror (takeRegions s)) s := readLanded_keep.trans (takeRegions_frame.keep rfl)
  exact ⟨k.fused, k.cust, id⟩
theorem takePush_keep {a1 a2 a3 a4 a5 s} : Keep (takePush a1 a2 a3 a4 a5 s) s := by
  unfold takePush
  repeat' first
    | simp only [↓keep_rfl, Nat.reduceAnd, ↓keep_step putRegion_frame, ↓keep_step freeRun_frame]
    | with_reducible refine Keep.trans landWrite_keep ?_
theorem startMsg_keep {a1 a2 a3 s} : Keep (startMsg a1 a2 a3 s) s := by
  unfold startMsg
  repeat' first
    | with_reducible refine keep_ite ?_ ?_
    | simp only [↓keep_mk, ↓keepF_eq, ↓keep_rfl, Nat.reduceAnd, ↓keep_step putCtx_frame, ↓keep_step countRefused_frame]
    | with_reducible refine Keep.trans takePush_keep ?_
    | split
theorem takeData_keep {a1 a2 a3 s} : Keep (takeData a1 a2 a3 s) s := by
  unfold takeData
  repeat' first
    | with_reducible refine keep_ite ?_ ?_
    | simp only [↓keep_rfl, Nat.reduceAnd, ↓keep_step paceAck_frame, ↓keep_step sendNak_frame, ↓keep_step ackIf_frame,
        ↓keep_step joinMsg_frame, ↓keep_step bumpFigure_frame, ↓keep_step raise_frame]
    | with_reducible refine Keep.trans startMsg_keep ?_
    | split
theorem dataIn_keep {a1 a2 a3 s} : Keep (dataIn a1 a2 a3 s) s := by
  unfold dataIn
  repeat' first
    | with_reducible refine keep_ite ?_ ?_
    | simp only [↓keep_rfl, Nat.reduceAnd, ↓keep_step authFail_frame, ↓keep_step countDrop_frame, ↓keep_step putCtx_frame,
        ↓keep_step passTag_frame, ↓keep_step phaseIn_frame]
    | with_reducible refine Keep.trans takeData_keep ?_
theorem ctlIn_keep {a1 a2 f3 a4 s} (h : ∀ n s, Keep (f3 n s) s) : Keep (ctlIn a1 a2 f3 a4 s) s := by
  unfold ctlIn
  repeat' first
    | with_reducible refine keep_ite ?_ ?_
    | simp only [↓keep_rfl, Nat.reduceAnd, ↓keep_step authFail_frame, ↓keep_step countDrop_frame, ↓keep_step passTag_frame]
    | with_reducible refine Keep.trans (h _ _) ?_
theorem qpWhole_keep {a1 a2 s} : Keep (qpWhole a1 a2 s) s := by
  unfold qpWhole
  repeat' first
    | with_reducible refine keep_ite ?_ ?_
    | simp only [↓keep_rfl, Nat.reduceAnd, ↓keep_step qpNak_frame, ↓keep_step qpAck_frame, ↓keep_step sendRoce_frame,
        ↓keep_step notify_frame, ↓keep_step mirrorPush_frame, ↓keep_step endPush_frame]
    | with_reducible refine Keep.trans landWrite_keep ?_
    | split
theorem qpRequest_keep {a1 a2 a3 s} : Keep (qpRequest a1 a2 a3 s) s := by
  unfold qpRequest
  repeat' first
    | with_reducible refine keep_ite ?_ ?_
    | simp only [↓keep_rfl, Nat.reduceAnd, ↓keep_step putCtx_frame, ↓keep_step qpNak_frame, ↓keep_step countRefused_frame]
    | with_reducible refine Keep.trans qpWhole_keep ?_
    | with_reducible refine Keep.trans takePush_keep ?_
    | split
theorem roceIn_keep {a1 a2 a3 s} : Keep (roceIn a1 a2 a3 s) s := by
  unfold roceIn
  repeat' first
    | with_reducible refine keep_ite ?_ ?_
    | simp only [↓keep_rfl, Nat.reduceAnd, ↓keep_step countDrop_frame, ↓keep_step qpMarked_frame, ↓keep_step passTag_frame,
        ↓keep_step sendRoce_frame, ↓keep_step qpAcked_frame, ↓keep_step endCtx_frame, ↓keep_step qpAgain_frame, ↓keep_step putCtx_frame,
        ↓keep_step qpRetry_frame]
    | with_reducible refine Keep.trans qpRequest_keep ?_
    | split
theorem handlePacket_keep {a1 a2 a3 s} : Keep (handlePacket a1 a2 a3 s) s := by
  unfold handlePacket
  repeat' first
    | simp only [↓keep_rfl, Nat.reduceAnd, ↓keep_step ackAct_frame, ↓keep_step nakAct_frame, ↓keep_step statusReqAct_frame,
        ↓keep_step statusAct_frame, ↓keep_step closeAct_frame]
    | with_reducible refine Keep.trans dataIn_keep ?_
    | with_reducible refine Keep.trans (ctlIn_keep (fun _ _ => ?_)) ?_
    | with_reducible refine Keep.trans roceIn_keep ?_
    | split
theorem onDieOr_keep {a1 a2 a3 a4 f5 s} (h : ∀ n c s, Keep (f5 n c s) s) : Keep (onDieOr a1 a2 a3 a4 f5 s) s := by
  unfold onDieOr
  split
  · exact h _ _ _
  · cases e : holdPacket a1 a2 a3 a4 s with
    | none => exact (missDrop_frame.keep rfl)
    | some x => exact (holdPacket_some e).keep rfl
theorem bryndleIn_keep {a1 a2 a3 a4 a5 a6 s} : Keep (bryndleIn a1 a2 a3 a4 a5 a6 s) s := by
  unfold bryndleIn
  repeat' first
    | with_reducible refine keep_ite ?_ ?_
    | simp only [↓keep_rfl, Nat.reduceAnd, ↓keep_step authFail_frame]
    | with_reducible refine Keep.trans (onDieOr_keep (fun _ _ _ => ?_)) ?_
    | with_reducible refine Keep.trans handlePacket_keep ?_
    | split
theorem ctlArrive_keep {a1 a2 s} : Keep (ctlArrive a1 a2 s) s := by
  unfold ctlArrive
  repeat' first
    | simp only [↓keep_rfl]
    | with_reducible refine Keep.trans bryndleIn_keep ?_
theorem execDataPacket_keep {a1 s} : OutKeep (execDataPacket a1 s) s := by
  unfold execDataPacket
  repeat' first
    | with_reducible refine keep_ite ?_ ?_
    | simp only [↓keep_next, ↓keep_rfl, Nat.reduceAnd, ↓keep_step dueAck_frame]
    | with_reducible refine Keep.trans bryndleIn_keep ?_
    | split
theorem execAck_keep {a1 a2 a3 a4 s} : OutKeep (execAck a1 a2 a3 a4 s) s := by
  unfold execAck
  repeat' first
    | simp only [↓keep_next, ↓keep_rfl]
    | with_reducible refine Keep.trans ctlArrive_keep ?_
theorem execNak_keep {a1 a2 a3 s} : OutKeep (execNak a1 a2 a3 s) s := by
  unfold execNak
  repeat' first
    | simp only [↓keep_next, ↓keep_rfl]
    | with_reducible refine Keep.trans ctlArrive_keep ?_
theorem execStatusReq_keep {a1 a2 s} : OutKeep (execStatusReq a1 a2 s) s := by
  unfold execStatusReq
  repeat' first
    | simp only [↓keep_next, ↓keep_rfl]
    | with_reducible refine Keep.trans ctlArrive_keep ?_
theorem execStatus_keep {a1 a2 a3 a4 s} : OutKeep (execStatus a1 a2 a3 a4 s) s := by
  unfold execStatus
  repeat' first
    | simp only [↓keep_next, ↓keep_rfl]
    | with_reducible refine Keep.trans ctlArrive_keep ?_
theorem execClose_keep {a1 a2 s} : OutKeep (execClose a1 a2 s) s := by
  unfold execClose
  repeat' first
    | simp only [↓keep_next, ↓keep_rfl]
    | with_reducible refine Keep.trans ctlArrive_keep ?_
theorem execRocePacket_keep {a1 s} : OutKeep (execRocePacket a1 s) s := by
  unfold execRocePacket
  simp only [↓keep_next]
  repeat' first
    | exact ((holdPacket_some (by assumption)).keep rfl).trans ((newSa_frame.keep rfl).trans (espAccept_frame.keep rfl))
    | simp only [Nat.reduceAnd, ↓keep_mk, ↓keepF_eq, ↓keep_rfl, ↓keep_step authFail_frame, ↓keep_step newSa_frame, ↓keep_step espAccept_frame,
        ↓keep_step missDrop_frame, ↓keep_step raise_frame]
    | with_reducible refine Keep.trans roceIn_keep ?_
    | split
theorem deliver_keep {a1 a2 a3 f4 s} (h : ∀ n a s, Keep (f4 n a s) s) : Keep (deliver a1 a2 a3 f4 s) s := by
  unfold deliver
  repeat' first
    | simp only [↓keep_rfl, Nat.reduceAnd, ↓keep_step refusalTurn_frame, ↓keep_step dueAck_frame, ↓keep_step putCtx_frame]
    | with_reducible refine Keep.trans (h _ _ _) ?_
    | split
theorem placeWrite_keep {a1 a2 s} : Keep (placeWrite a1 a2 s) s := by
  unfold placeWrite
  repeat' first
    | simp only [↓keep_rfl, Nat.reduceAnd, ↓keep_step mirrorPush_frame, ↓keep_step endPush_frame]
    | with_reducible refine Keep.trans landWrite_keep ?_
    | split
theorem execWrite_keep {a1 a2 s} : OutKeep (execWrite a1 a2 s) s := by
  unfold execWrite
  repeat' first
    | simp only [↓keep_next, ↓keep_rfl]
    | with_reducible refine Keep.trans (deliver_keep (fun _ _ _ => ?_)) ?_
    | with_reducible refine Keep.trans placeWrite_keep ?_
theorem execWriteImm_keep {a1 a2 s} : OutKeep (execWriteImm a1 a2 s) s := by
  unfold execWriteImm
  repeat' first
    | simp only [↓keep_next, ↓keep_rfl, Nat.reduceAnd, ↓keep_step notify_frame]
    | with_reducible refine Keep.trans (deliver_keep (fun _ _ _ => ?_)) ?_
    | with_reducible refine Keep.trans placeWrite_keep ?_
    | split
theorem execContextFetchComplete_keep {a1 s} : OutKeep (execContextFetchComplete a1 s) s := by
  unfold execContextFetchComplete
  repeat' first
    | simp only [↓keep_next, ↓keep_mk, ↓keepF_eq, ↓keep_rfl, Nat.reduceAnd, ↓keep_step sendRoce_frame, ↓keep_step authFail_frame,
        ↓keep_step bringIn_frame]
    | with_reducible refine Keep.trans handlePacket_keep ?_
    | with_reducible refine keep_foldl (fun _ _ => ?_) ?_
    | split

end Machine
end Sys2Proof
end

