-- ==== Sys2Proof/Laws/LogFrame.lean ====
section
/-!
SUPPORT. What the definitions of Machine/Log.lean leave unchanged.
-/
namespace Sys2Proof
namespace Machine
set_option maxRecDepth 100000
set_option linter.unusedSimpArgs false

theorem execStripeCloseDelay_frame {a1 a2 a3 s} : OutFrame 156871172096 (execStripeCloseDelay a1 a2 a3 s) s := by
  unfold execStripeCloseDelay
  repeat' first
    | with_reducible refine frame_ite ?_ ?_
    | simp only [↓outFrame_next, ↓frame_rfl, Nat.reduceOr, ↓frame_step closeRow_frame]
    | split
theorem execDriveCompletion_frame {a1 a2 a3 a4 a5 a6 s} : OutFrame 431891870472 (execDriveCompletion a1 a2 a3 a4 a5 a6 s) s := by
  unfold execDriveCompletion
  repeat' first
    | with_reducible refine frame_ite ?_ ?_
    | simp only [↓outFrame_next, ↓frame_rfl, Nat.reduceOr, ↓frame_step lateCompletion_frame, ↓frame_step timeoutCmd_frame,
        ↓frame_step completeCmd_frame]
    | split
theorem execLogCheckpoint_frame {a1 s} : OutFrame 157005406216 (execLogCheckpoint a1 s) s := by
  unfold execLogCheckpoint
  repeat' first
    | with_reducible refine frame_ite ?_ ?_
    | simp only [↓outFrame_next, ↓frame_rfl, Nat.reduceOr, ↓frame_step shardCheckpoint_frame]
theorem relocReads_frame {a1 a2 s} : Frame 156871163904 (relocReads a1 a2 s) s := by
  unfold relocReads
  repeat' first
    | simp only [↓frame_rfl, Nat.reduceOr, ↓frame_step issueFlow_frame]
    | with_reducible refine frame_foldl (fun _ _ => ?_) ?_
    | split
theorem startReloc_frame {a1 s} : Frame 157005406216 (startReloc a1 s) s := by
  unfold startReloc
  repeat' first
    | with_reducible refine frame_ite ?_ ?_
    | simp only [↓frame_mkM, ↓frame_rfl, Nat.reduceOr, ↓frame_step segEntry_frame, ↓frame_step mapSeg_frame, ↓frame_step sequence_frame]
    | with_reducible apply frame_mk <;> first | exact .inl rfl | exact .inr rfl | skip
    | with_reducible refine frame_snd (by assumption) ?_
    | split
theorem execRelocationSelect_frame {s} : OutFrame 157005411080 (execRelocationSelect s) s := by
  unfold execRelocationSelect
  repeat' first
    | simp only [↓outFrame_next, ↓frame_rfl, Nat.reduceOr, ↓frame_step moveAll_frame, ↓frame_step relocReads_frame,
        ↓frame_step startReloc_frame]
    | with_reducible refine frame_foldl (fun _ _ => ?_) ?_
    | split
theorem sanitiseFreed_frame {a1 s} : Frame 256 (sanitiseFreed a1 s) s := by
  unfold sanitiseFreed
  repeat' first
    | simp only [↓frame_mkM, ↓frame_rfl]
    | with_reducible apply frame_mk <;> first | exact .inl rfl | exact .inr rfl | skip
theorem execSegmentFree_frame {a1 s} : OutFrame 157005406472 (execSegmentFree a1 s) s := by
  unfold execSegmentFree
  repeat' first
    | with_reducible refine frame_oite ?_ ?_
    | simp only [↓outFrame_next, ↓frame_mkM, ↓frame_rfl, Nat.reduceOr, ↓frame_step sanitiseFreed_frame, ↓frame_step segEntry_frame,
        ↓frame_step putShard_frame, ↓frame_step issueDrive_frame]
    | with_reducible apply frame_mk <;> first | exact .inl rfl | exact .inr rfl | skip
    | with_reducible refine frame_foldl (fun _ _ => ?_) ?_
    | split
theorem execRmwUpdate_frame {a1 a2 a3 a4 a5 s} : OutFrame 157005411080 (execRmwUpdate a1 a2 a3 a4 a5 s) s := by
  unfold execRmwUpdate
  simp only [↓outFrame_next, ↓frame_rfl, Nat.reduceOr, ↓frame_step settle_frame, ↓frame_step startRmw_frame]
theorem execRmwRetire_frame {a1 a2 s} : OutFrame 158079180808 (execRmwRetire a1 a2 s) s := by
  unfold execRmwRetire
  repeat' first
    | with_reducible refine frame_oite ?_ ?_
    | simp only [↓outFrame_next, ↓frame_mkM, ↓frame_rfl, Nat.reduceOr, ↓frame_step finishRemoval_frame, ↓frame_step raise_frame,
        ↓frame_step mapRow_frame, ↓frame_step retireShard_frame]
    | with_reducible apply frame_mk <;> first | exact .inl rfl | exact .inr rfl | skip
    | split

end Machine
end Sys2Proof
end

