-- ==== Sys2Proof/Laws/MailboxFrame.lean ====
section
/-!
SUPPORT. What the definitions of Machine/Mailbox.lean leave unchanged.
-/
namespace Sys2Proof
namespace Machine
set_option maxRecDepth 100000
set_option linter.unusedSimpArgs false

theorem dropBar_frame {s} : Frame 156833415168 (dropBar s) s := by
  unfold dropBar
  simp only [↓frame_rfl, Nat.reduceOr, ↓frame_step raise_frame, ↓frame_step bumpFigure_frame]
theorem breakConn_frame {a1 a2 s} : Frame 432457322944 (breakConn a1 a2 s) s := by
  unfold breakConn
  repeat' first
    | simp only [↓frame_rfl, Nat.reduceOr, ↓frame_step closeCtx_frame, ↓frame_step closeConn_frame, ↓frame_step send_frame]
    | split
theorem requestIn_frame {a1 a2 a3 a4 s} : Frame 157779492992 (requestIn a1 a2 a3 a4 s) s := by
  unfold requestIn
  repeat' first
    | with_reducible refine frame_ite ?_ ?_
    | simp only [↓frame_rfl, Nat.reduceOr, ↓frame_step sendMbx_frame, ↓frame_step putRing_frame]
theorem execMailboxDoorbell_frame {a1 a2 a3 a4 a5 a6 a7 a8 s} : OutFrame 441248584136 (execMailboxDoorbell a1 a2 a3 a4 a5 a6 a7 a8 s) s := by
  unfold execMailboxDoorbell
  repeat' first
    | with_reducible refine frame_ite ?_ ?_
    | with_reducible refine frame_oite ?_ ?_
    | simp only [↓outFrame_next, ↓frame_rfl, Nat.reduceOr, ↓frame_step dropBar_frame, ↓frame_step wake_frame, ↓frame_step breakConn_frame,
        ↓frame_step sendMbx_frame, ↓frame_step requestIn_frame, ↓frame_step putConn_frame]
    | with_reducible refine frame_elim ?_ (fun _ => ?_)
theorem execResponseHeadWrite_frame {a1 a2 s} : OutFrame 157370286080 (execResponseHeadWrite a1 a2 s) s := by
  unfold execResponseHeadWrite
  repeat' first
    | with_reducible refine frame_oite ?_ ?_
    | simp only [↓outFrame_next, ↓frame_rfl, Nat.reduceOr, ↓frame_step dropBar_frame, ↓frame_step fillRing_frame, ↓frame_step putRing_frame]
theorem execMailboxIdleTimeout_frame {a1 s} : OutFrame 292594712640 (execMailboxIdleTimeout a1 s) s := by
  unfold execMailboxIdleTimeout
  repeat' first
    | with_reducible refine frame_ite ?_ ?_
    | simp only [↓outFrame_next, ↓frame_rfl, Nat.reduceOr, ↓frame_step closeConn_frame]
    | split
theorem bareReply_frame {a1 a2 a3 a4 a5 s} : Frame 157779492992 (bareReply a1 a2 a3 a4 a5 s) s := by
  unfold bareReply
  simp only [↓frame_rfl, Nat.reduceOr, ↓frame_step sendMbx_frame]
theorem execMbxChallenge_frame {a1 a2 a3 s} : OutFrame 157779493000 (execMbxChallenge a1 a2 a3 s) s := by
  unfold execMbxChallenge
  repeat' first
    | with_reducible refine frame_ite ?_ ?_
    | simp only [↓outFrame_next, ↓frame_mkM, ↓frame_rfl, Nat.reduceOr, ↓frame_step bareReply_frame, ↓frame_step takeRequest_frame,
        ↓frame_step drawDigest_frame]
    | with_reducible apply frame_mk <;> first | exact .inl rfl | exact .inr rfl | skip
    | with_reducible refine frame_snd (by assumption) ?_
    | split
theorem openBare_frame {a1 a2 a3 a4 a5 s} : Frame 17716740096 (openBare a1 a2 a3 a4 a5 s) s := by
  unfold openBare
  repeat' first
    | simp only [↓frame_mkM, ↓frame_rfl, Nat.reduceOr, ↓frame_step putConn_frame]
    | with_reducible apply frame_mk <;> first | exact .inl rfl | exact .inr rfl | skip
theorem execMbxOpen_frame {a1 a2 a3 a4 a5 a6 a7 s} : OutFrame 157779492992 (execMbxOpen a1 a2 a3 a4 a5 a6 a7 s) s := by
  unfold execMbxOpen
  repeat' first
    | with_reducible refine frame_ite ?_ ?_
    | simp only [↓outFrame_next, ↓frame_rfl, Nat.reduceOr, ↓frame_step bareReply_frame, ↓frame_step takeRequest_frame,
        ↓frame_step openBare_frame]
    | split
theorem execMbxClose_frame {a1 s} : OutFrame 995332944328 (execMbxClose a1 s) s := by
  unfold execMbxClose
  repeat' first
    | simp only [↓outFrame_next, ↓frame_rfl, Nat.reduceOr, ↓frame_step closeCtx_frame, ↓frame_step reply_frame, ↓frame_step closeConn_frame]
    | with_reducible refine Frame.trans (mailboxCmd_frame rfl (fun _ _ => ?_)) ?_
    | split
theorem execIdentityGet_frame {a1 s} : OutFrame 995331694728 (execIdentityGet a1 s) s := by
  unfold execIdentityGet
  repeat' first
    | simp only [↓outFrame_next, ↓frame_rfl, Nat.reduceOr, ↓frame_step reply_frame]
    | with_reducible refine Frame.trans (mailboxCmd_frame rfl (fun _ _ => ?_)) ?_

end Machine
end Sys2Proof
end

