-- ==== Sys2Proof/Laws/PairFrame.lean ====
section
/-!
SUPPORT. What the definitions of Machine/Pair.lean leave unchanged.
-/
namespace Sys2Proof
namespace Machine
set_option maxRecDepth 100000
set_option linter.unusedSimpArgs false

theorem shake_frame {a1 s} : Frame 137606733968 (shake a1 s) s := by
  unfold shake
  repeat' first
    | with_reducible refine frame_ite ?_ ?_
    | simp only [↓frame_mkM, ↓frame_rfl, Nat.reduceOr, ↓frame_step tellState_frame, ↓frame_step startMirror_frame]
    | with_reducible apply frame_mk <;> first | exact .inl rfl | exact .inr rfl | skip
    | split
theorem execPairLinkUp_frame {a1 s} : OutFrame 157001195664 (execPairLinkUp a1 s) s := by
  unfold execPairLinkUp
  repeat' first
    | with_reducible refine frame_ite ?_ ?_
    | simp only [↓outFrame_next, ↓frame_mkM, ↓frame_rfl, Nat.reduceOr, ↓frame_step shake_frame, ↓frame_step raise_frame]
    | with_reducible apply frame_mk <;> first | exact .inl rfl | exact .inr rfl | skip
theorem execPairLinkDown_frame {s} : OutFrame 157005381632 (execPairLinkDown s) s := by
  unfold execPairLinkDown
  repeat' first
    | with_reducible refine frame_oite ?_ ?_
    | simp only [↓outFrame_next, ↓frame_mkM, ↓frame_rfl, Nat.reduceOr, ↓frame_step enterFenced_frame, ↓frame_step send_frame,
        ↓frame_step detectFailure_frame]
    | with_reducible apply frame_mk <;> first | exact .inl rfl | exact .inr rfl | skip
theorem execPairLaneFail_frame {s} : OutFrame 156967632896 (execPairLaneFail s) s := by
  unfold execPairLaneFail
  repeat' first
    | with_reducible refine frame_ite ?_ ?_
    | simp only [↓outFrame_next, ↓frame_mkM, ↓frame_rfl, Nat.reduceOr, ↓frame_step raise_frame]
    | with_reducible apply frame_mk <;> first | exact .inl rfl | exact .inr rfl | skip
theorem keepRecord_frame {a1 s} : Frame 2281742336 (keepRecord a1 s) s := by
  unfold keepRecord
  repeat' first
    | with_reducible refine frame_ite ?_ ?_
    | simp only [↓frame_mkM, ↓frame_rfl, Nat.reduceOr, ↓frame_step takeLyRecord_frame, ↓frame_step putShard_frame,
        ↓frame_step setFigure_frame]
    | with_reducible apply frame_mk <;> first | exact .inl rfl | exact .inr rfl | skip
theorem execMirrorRecord_frame {a1 a2 a3 a4 a5 a6 a7 a8 a9 a10 a11 a12 s} : OutFrame 139720695808 (execMirrorRecord a1 a2 a3 a4 a5 a6 a7 a8 a9 a10 a11 a12 s) s := by
  unfold execMirrorRecord
  repeat' first
    | with_reducible refine frame_oite ?_ ?_
    | simp only [↓outFrame_next, ↓frame_rfl, Nat.reduceOr, ↓frame_step send_frame, ↓frame_step keepRecord_frame]
theorem releaseAcks_frame {s} : Frame 139861426304 (releaseAcks s) s := by
  unfold releaseAcks
  repeat' first
    | simp only [↓frame_rfl, Nat.reduceOr, ↓frame_step sendRoce_frame, ↓frame_step putCtx_frame]
    | with_reducible refine frame_foldl (fun _ _ => ?_) ?_
theorem execMirrorAck_frame {a1 a2 s} : OutFrame 157276201096 (execMirrorAck a1 a2 s) s := by
  unfold execMirrorAck
  repeat' first
    | simp only [↓outFrame_next, ↓frame_mkM, ↓frame_rfl, Nat.reduceOr, ↓frame_step settle_frame, ↓frame_step releaseAcks_frame,
        ↓frame_step pumpOut_frame]
    | with_reducible apply frame_mk <;> first | exact .inl rfl | exact .inr rfl | skip
    | with_reducible refine frame_foldl (fun _ _ => ?_) ?_
theorem execPairHeartbeatSend_frame {s} : OutFrame 137573171200 (execPairHeartbeatSend s) s := by
  unfold execPairHeartbeatSend
  repeat' first
    | with_reducible refine frame_ite ?_ ?_
    | with_reducible refine frame_oite ?_ ?_
    | simp only [↓outFrame_next, ↓frame_mkM, ↓frame_rfl, Nat.reduceOr, ↓frame_step overTether_frame, ↓frame_step send_frame]
    | with_reducible apply frame_mk <;> first | exact .inl rfl | exact .inr rfl | skip
theorem renewLease_frame {a1 s} : Frame 134217728 (renewLease a1 s) s := by
  unfold renewLease
  repeat' first
    | with_reducible refine frame_ite ?_ ?_
    | simp only [↓frame_mkM, ↓frame_rfl]
    | with_reducible apply frame_mk <;> first | exact .inl rfl | exact .inr rfl | skip
theorem execPairHeartbeat_frame {a1 a2 a3 a4 s} : OutFrame 148310589448 (execPairHeartbeat a1 a2 a3 a4 s) s := by
  unfold execPairHeartbeat
  repeat' first
    | with_reducible refine frame_ite ?_ ?_
    | with_reducible refine frame_oite ?_ ?_
    | simp only [↓outFrame_next, ↓frame_mkM, ↓frame_rfl, Nat.reduceOr, ↓frame_step wake_frame, ↓frame_step renewLease_frame,
        ↓frame_step overTether_frame, ↓frame_step send_frame]
    | with_reducible apply frame_mk <;> first | exact .inl rfl | exact .inr rfl | skip
theorem partnerFails_frame {s} : Frame 165595316232 (partnerFails s) s := by
  unfold partnerFails
  repeat' first
    | with_reducible refine frame_ite ?_ ?_
    | simp only [↓frame_rfl, Nat.reduceOr, ↓frame_step detectFailure_frame, ↓frame_step wake_frame]
theorem execPairHeartbeatMiss_frame {s} : OutFrame 165595316232 (execPairHeartbeatMiss s) s := by
  unfold execPairHeartbeatMiss
  repeat' first
    | with_reducible refine frame_ite ?_ ?_
    | simp only [↓outFrame_next, ↓frame_rfl, Nat.reduceOr, ↓frame_step partnerFails_frame]
theorem execDyingMessage_frame {s} : OutFrame 165595316232 (execDyingMessage s) s := by
  unfold execDyingMessage
  simp only [↓outFrame_next, ↓frame_rfl, Nat.reduceOr, ↓frame_step partnerFails_frame]
theorem execLeaseLapse_frame {s} : OutFrame 156967632896 (execLeaseLapse s) s := by
  unfold execLeaseLapse
  repeat' first
    | with_reducible refine frame_ite ?_ ?_
    | simp only [↓outFrame_next, ↓frame_mkM, ↓frame_rfl, Nat.reduceOr, ↓frame_step raise_frame]
    | with_reducible apply frame_mk <;> first | exact .inl rfl | exact .inr rfl | skip
theorem execFenceDeferExpiry_frame {s} : OutFrame 157005381632 (execFenceDeferExpiry s) s := by
  unfold execFenceDeferExpiry
  repeat' first
    | with_reducible refine frame_ite ?_ ?_
    | simp only [↓outFrame_next, ↓frame_mkM, ↓frame_rfl, Nat.reduceOr, ↓frame_step fenceNext_frame]
    | with_reducible apply frame_mk <;> first | exact .inl rfl | exact .inr rfl | skip
theorem execTetherYield_frame {s} : OutFrame 165595316232 (execTetherYield s) s := by
  unfold execTetherYield
  repeat' first
    | with_reducible refine frame_ite ?_ ?_
    | with_reducible refine frame_oite ?_ ?_
    | simp only [↓outFrame_next, ↓frame_mkM, ↓frame_rfl, Nat.reduceOr, ↓frame_step partnerFails_frame]
    | with_reducible apply frame_mk <;> first | exact .inl rfl | exact .inr rfl | skip

end Machine
end Sys2Proof
end

