-- ==== Sys2Proof/Laws/ParamSetFrame.lean ====
section
/-!
SUPPORT. What the definitions of Machine/ParamSet.lean leave unchanged.
-/
namespace Sys2Proof
namespace Machine
set_option maxRecDepth 100000
set_option linter.unusedSimpArgs false

theorem execParamGet_frame {a1 a2 a3 s} : OutFrame 995331694728 (execParamGet a1 a2 a3 s) s := by
  unfold execParamGet
  repeat' first
    | with_reducible refine frame_ite ?_ ?_
    | simp only [↓outFrame_next, ↓frame_mkM, ↓frame_rfl, Nat.reduceOr, ↓frame_step reply_frame, ↓frame_step free_frame]
    | with_reducible refine Frame.trans (mailboxCmd_frame rfl (fun _ _ => ?_)) ?_
    | with_reducible apply frame_mk <;> first | exact .inl rfl | exact .inr rfl | skip
theorem execParamSet_frame {a1 a2 a3 s} : OutFrame 996432409576 (execParamSet a1 a2 a3 s) s := by
  unfold execParamSet
  simp only [↓outFrame_next, ↓frame_rfl, Nat.reduceOr, ↓frame_step paramSetCmd_frame]
theorem execTsStatusClear_frame {a1 s} : OutFrame 996432409576 (execTsStatusClear a1 s) s := by
  unfold execTsStatusClear
  simp only [↓outFrame_next, ↓frame_rfl, Nat.reduceOr, ↓frame_step paramSetCmd_frame]
theorem execScrubStart_frame {a1 s} : OutFrame 996432409576 (execScrubStart a1 s) s := by
  unfold execScrubStart
  simp only [↓outFrame_next, ↓frame_rfl, Nat.reduceOr, ↓frame_step paramSetCmd_frame]
theorem execMacPortModeWrite_frame {a1 a2 a3 s} : OutFrame 996432409576 (execMacPortModeWrite a1 a2 a3 s) s := by
  unfold execMacPortModeWrite
  simp only [↓outFrame_next, ↓frame_rfl, Nat.reduceOr, ↓frame_step paramSetCmd_frame]
theorem execMacPortRestart_frame {a1 a2 s} : OutFrame 996432409576 (execMacPortRestart a1 a2 s) s := by
  unfold execMacPortRestart
  simp only [↓outFrame_next, ↓frame_rfl, Nat.reduceOr, ↓frame_step paramSetCmd_frame]
theorem execMovAbort_frame {a1 a2 s} : OutFrame 996432409576 (execMovAbort a1 a2 s) s := by
  unfold execMovAbort
  simp only [↓outFrame_next, ↓frame_rfl, Nat.reduceOr, ↓frame_step paramSetCmd_frame]
theorem execSlotReset_frame {a1 a2 s} : OutFrame 996432409576 (execSlotReset a1 a2 s) s := by
  unfold execSlotReset
  simp only [↓outFrame_next, ↓frame_rfl, Nat.reduceOr, ↓frame_step paramSetCmd_frame]
theorem execSepCtrlWrite_frame {a1 a2 s} : OutFrame 996432409576 (execSepCtrlWrite a1 a2 s) s := by
  unfold execSepCtrlWrite
  simp only [↓outFrame_next, ↓frame_rfl, Nat.reduceOr, ↓frame_step paramSetCmd_frame]
theorem execSepMbxMapWrite_frame {a1 a2 s} : OutFrame 996432409576 (execSepMbxMapWrite a1 a2 s) s := by
  unfold execSepMbxMapWrite
  simp only [↓outFrame_next, ↓frame_rfl, Nat.reduceOr, ↓frame_step paramSetCmd_frame]
theorem execPairHomeWrite_frame {a1 a2 a3 s} : OutFrame 996432409576 (execPairHomeWrite a1 a2 a3 s) s := by
  unfold execPairHomeWrite
  simp only [↓outFrame_next, ↓frame_rfl, Nat.reduceOr, ↓frame_step paramSetCmd_frame]
theorem execPairCtrlHandover_frame {a1 s} : OutFrame 996432409576 (execPairCtrlHandover a1 s) s := by
  unfold execPairCtrlHandover
  simp only [↓outFrame_next, ↓frame_rfl, Nat.reduceOr, ↓frame_step paramSetCmd_frame]
theorem execReeveStart_frame {a1 s} : OutFrame 996432409576 (execReeveStart a1 s) s := by
  unfold execReeveStart
  simp only [↓outFrame_next, ↓frame_rfl, Nat.reduceOr, ↓frame_step paramSetCmd_frame]
theorem execSlotChCtrl_frame {a1 a2 a3 s} : OutFrame 996432409576 (execSlotChCtrl a1 a2 a3 s) s := by
  unfold execSlotChCtrl
  simp only [↓outFrame_next, ↓frame_rfl, Nat.reduceOr, ↓frame_step paramSetCmd_frame]

end Machine
end Sys2Proof
end

