-- ==== Sys2Proof/Laws/RegionsFrame.lean ====
section
/-!
SUPPORT. What the definitions of Machine/Regions.lean leave unchanged.
-/
namespace Sys2Proof
namespace Machine
set_option maxRecDepth 100000
set_option linter.unusedSimpArgs false

theorem execRegionRefusalTimeout_frame {a1 a2 s} : OutFrame 432457322944 (execRegionRefusalTimeout a1 a2 s) s := by
  unfold execRegionRefusalTimeout
  repeat' first
    | with_reducible refine frame_ite ?_ ?_
    | simp only [↓outFrame_next, ↓frame_rfl, Nat.reduceOr, ↓frame_step closeCtx_frame]
    | split
theorem execPushAbandonTimeout_frame {a1 s} : OutFrame 1048576 (execPushAbandonTimeout a1 s) s := by
  unfold execPushAbandonTimeout
  repeat' first
    | with_reducible refine frame_ite ?_ ?_
    | simp only [↓outFrame_next, ↓frame_rfl, Nat.reduceOr, ↓frame_step putRegion_frame]
    | split
theorem drainRegion_frame {a1 a2 s} : Frame 156835250176 (drainRegion a1 a2 s) s := by
  unfold drainRegion
  repeat' first
    | with_reducible refine frame_ite ?_ ?_
    | simp only [↓frame_mkM, ↓frame_rfl, Nat.reduceOr, ↓frame_step freeCtx_frame, ↓frame_step raise_frame, ↓frame_step setFigure_frame]
    | with_reducible apply frame_mk <;> first | exact .inl rfl | exact .inr rfl | skip
theorem execRegionDrained_frame {a1 s} : OutFrame 156835250176 (execRegionDrained a1 s) s := by
  unfold execRegionDrained
  repeat' first
    | with_reducible refine frame_ite ?_ ?_
    | simp only [↓outFrame_next, ↓frame_rfl, Nat.reduceOr, ↓frame_step drainRegion_frame]
    | split
theorem freeSlot_frame {a1 a2 s} : Frame 131072 (freeSlot a1 a2 s) s := by
  unfold freeSlot
  simp only [↓frame_rfl, Nat.reduceOr, ↓frame_step mapHitch_frame]
theorem postCredit_frame {a1 a2 s} : Frame 139995775104 (postCredit a1 a2 s) s := by
  unfold postCredit
  repeat' first
    | simp only [↓frame_rfl, Nat.reduceOr, ↓frame_step sendMyavo_frame, ↓frame_step putHitch_frame]
    | split
theorem requestDone_frame {a1 a2 s} : Frame 157277356160 (requestDone a1 a2 s) s := by
  unfold requestDone
  repeat' first
    | with_reducible refine frame_ite ?_ ?_
    | simp only [↓frame_rfl, Nat.reduceOr, ↓frame_step endPass_frame, ↓frame_step pumpHitch_frame, ↓frame_step postChunks_frame,
        ↓frame_step postCredit_frame, ↓frame_step freeSlot_frame]
    | split
theorem endFiring_frame {a1 s} : Frame 156834463744 (endFiring a1 s) s := by
  unfold endFiring
  repeat' first
    | simp only [↓frame_rfl, Nat.reduceOr, ↓frame_step fireIfDue_frame, ↓frame_step mapTrig_frame, ↓frame_step chainNote_frame]
    | with_reducible refine frame_elim ?_ (fun _ => ?_)
theorem execWorkRequestComplete_frame {a1 a2 s} : OutFrame 157277356160 (execWorkRequestComplete a1 a2 s) s := by
  unfold execWorkRequestComplete
  repeat' first
    | with_reducible refine frame_ite ?_ ?_
    | simp only [↓outFrame_next, ↓frame_rfl, Nat.reduceOr, ↓frame_step endFiring_frame, ↓frame_step haltTrig_frame,
        ↓frame_step mapTrig_frame, ↓frame_step requestDone_frame]
    | split
theorem serviceFault_frame {a1 a2 s} : Frame 432692203968 (serviceFault a1 a2 s) s := by
  unfold serviceFault
  repeat' first
    | simp only [↓frame_rfl, Nat.reduceOr, ↓frame_step fireIfDue_frame, ↓frame_step mapTrig_frame, ↓frame_step endFiring_frame,
        ↓frame_step requestDone_frame, ↓frame_step closeCtx_frame]
    | with_reducible refine frame_foldl (fun _ _ => ?_) ?_
    | split
theorem serveRec_frame {a1 a2 s} : Frame 432692203968 (serveRec a1 a2 s) s := by
  unfold serveRec
  repeat' first
    | simp only [↓frame_rfl, Nat.reduceOr, ↓frame_step serviceFault_frame, ↓frame_step matchNote_frame]
    | with_reducible refine frame_elim ?_ (fun _ => ?_)
    | split
theorem execExceptionService_frame {a1 s} : OutFrame 432692203968 (execExceptionService a1 s) s := by
  unfold execExceptionService
  repeat' first
    | simp only [↓outFrame_next, ↓frame_mkM, ↓frame_rfl, Nat.reduceOr, ↓frame_step serveRec_frame]
    | with_reducible apply frame_mk <;> first | exact .inl rfl | exact .inr rfl | skip
    | with_reducible refine frame_elim ?_ (fun _ => ?_)

end Machine
end Sys2Proof
end

