-- ==== Sys2Proof/Laws/SchedFrame.lean ====
section
/-!
SUPPORT. What the definitions of Machine/Sched.lean leave unchanged.
-/
namespace Sys2Proof
namespace Machine
set_option maxRecDepth 100000
set_option linter.unusedSimpArgs false

theorem execTokenRefill_frame {s} : OutFrame 156873523328 (execTokenRefill s) s := by
  unfold execTokenRefill
  repeat' first
    | with_reducible refine frame_oite ?_ ?_
    | simp only [↓outFrame_next, ↓frame_rfl, Nat.reduceOr, ↓frame_step pumpDrives_frame, ↓frame_step pumpMac_frame,
        ↓frame_step refill_frame]
    | with_reducible refine frame_foldl (fun _ _ => ?_) ?_
theorem execShareWindowEnd_frame {a1 s} : OutFrame 156871163904 (execShareWindowEnd a1 s) s := by
  unfold execShareWindowEnd
  repeat' first
    | with_reducible refine frame_oite ?_ ?_
    | simp only [↓outFrame_next, ↓frame_rfl, Nat.reduceOr, ↓frame_step pumpPort_frame, ↓frame_step putWindow_frame]
theorem quietAdmit_frame {a1 a2 a3 s} : Frame 995341369304 (quietAdmit a1 a2 a3 s).2 s := by
  induction a3 generalizing s with
  | zero => exact Frame.refl
  | succ n ih =>
    unfold quietAdmit
    repeat' first
      | with_reducible refine frame_ite ?_ ?_
      | simp only [↓frame_mkM, ↓frame_rfl, Nat.reduceOr, ↓frame_step ih, ↓frame_step runWaiting_frame, ↓frame_step admServe_frame]
      | split
theorem quietRead_frame {a1 s a3} : Frame 156871163912 (quietRead a1 s a3) s := by
  unfold quietRead
  repeat' first
    | with_reducible refine frame_ite ?_ ?_
    | simp only [↓frame_rfl, Nat.reduceOr, ↓frame_step issueFlow_frame, ↓frame_step putPort_frame, ↓frame_step pumpPort_frame,
        ↓frame_step draw_frame]
    | with_reducible refine frame_snd (by assumption) ?_
    | split
theorem quietFill_frame {a1 a2 s} : Frame 157005406216 (quietFill a1 a2 s) s := by
  unfold quietFill
  repeat' first
    | with_reducible refine frame_ite ?_ ?_
    | simp only [↓frame_rfl, Nat.reduceOr, ↓frame_step killRecs_frame, ↓frame_step writeUnits_frame]
theorem drbgBytes_frame {a1 a2 s} : Frame 8 (drbgBytes a1 a2 s).2 s := by
  induction a1 generalizing a2 s with
  | zero => exact Frame.refl
  | succ n ih =>
    unfold drbgBytes
    split
    · exact Frame.refl
    · exact ih.trans draw_frame
theorem quietSend_frame {a1 s a3} : Frame 139592990856 (quietSend a1 s a3) s := by
  unfold quietSend
  repeat' first
    | with_reducible refine frame_ite ?_ ?_
    | simp only [↓frame_rfl, Nat.reduceOr, ↓frame_step send_frame, ↓frame_step putQuiet_frame, ↓frame_step enqueue_frame,
        ↓frame_step drbgBytes_frame]
    | with_reducible refine frame_snd (by assumption) ?_
    | split
theorem quietWalks_frame {a1 a2 s} : Frame 157005410312 (quietWalks a1 a2 s) s := by
  fun_induction quietWalks a1 a2 s <;> (try rename_i ih)
  repeat' first
    | simp only [↓frame_rfl, Nat.reduceOr, ↓frame_step decoyWalk_frame, ↓frame_step drawDigest_frame, ↓frame_step ih]
    | simp only [↓frame_rfl, Nat.reduceOr, ↓frame_step decoyWalk_frame, ↓frame_step drawDigest_frame]
    | with_reducible refine frame_snd (by assumption) ?_
theorem execQuietPeriodStart_frame {a1 s} : OutFrame 995341369304 (execQuietPeriodStart a1 s) s := by
  unfold execQuietPeriodStart
  repeat' first
    | with_reducible refine frame_oite ?_ ?_
    | simp only [↓outFrame_next, ↓frame_mkM, ↓frame_rfl, Nat.reduceOr, ↓frame_step quietSend_frame, ↓frame_step putQuiet_frame,
        ↓frame_step quietRead_frame, ↓frame_step quietFill_frame, ↓frame_step quietWalks_frame, ↓frame_step quietAdmit_frame]
    | with_reducible apply frame_mk <;> first | exact .inl rfl | exact .inr rfl | skip
    | with_reducible refine frame_foldl (fun _ _ => ?_) ?_
    | with_reducible refine frame_snd (by assumption) ?_
    | split
theorem execFlowWeightSet_frame {a1 a2 a3 s} : OutFrame 995331694728 (execFlowWeightSet a1 a2 a3 s) s := by
  unfold execFlowWeightSet
  repeat' first
    | with_reducible refine frame_ite ?_ ?_
    | simp only [↓outFrame_next, ↓frame_mkM, ↓frame_rfl, Nat.reduceOr, ↓frame_step reply_frame, ↓frame_step replyNotVisible_frame]
    | with_reducible refine Frame.trans (mailboxCmd_frame rfl (fun _ _ => ?_)) ?_
    | with_reducible apply frame_mk <;> first | exact .inl rfl | exact .inr rfl | skip
theorem execTenantStats_frame {a1 s} : OutFrame 995331694728 (execTenantStats a1 s) s := by
  unfold execTenantStats
  repeat' first
    | simp only [↓outFrame_next, ↓frame_rfl, Nat.reduceOr, ↓frame_step reply_frame, ↓frame_step free_frame, ↓frame_step refill_frame]
    | with_reducible refine Frame.trans (mailboxCmd_frame rfl (fun _ _ => ?_)) ?_
    | with_reducible refine frame_snd (by assumption) ?_
    | split

end Machine
end Sys2Proof
end

