-- ==== Sys2Proof/Laws/StartUpFrame.lean ====
section
/-!
SUPPORT. What the definitions of Machine/StartUp.lean leave unchanged.
-/
namespace Sys2Proof
namespace Machine
set_option maxRecDepth 100000
set_option linter.unusedSimpArgs false

theorem execPowerOn_frame {a1 s} : OutFrame 38654705664 (execPowerOn a1 s) s := by
  unfold execPowerOn
  repeat' first
    | with_reducible refine frame_oite ?_ ?_
    | simp only [↓outFrame_next, ↓frame_mkM, ↓frame_rfl, Nat.reduceOr, ↓frame_step startChannel_frame, ↓frame_step putFeed_frame]
    | with_reducible apply frame_mk <;> first | exact .inl rfl | exact .inr rfl | skip
theorem runStaged_frame {a1 s} : Frame 16 (runStaged a1 s) s := by
  unfold runStaged
  repeat' first
    | simp only [↓frame_mkM, ↓frame_rfl]
    | with_reducible apply frame_mk <;> first | exact .inl rfl | exact .inr rfl | skip
theorem bootDone_frame {a1 a2 s} : Frame 34359738384 (bootDone a1 a2 s) s := by
  unfold bootDone
  repeat' first
    | with_reducible refine frame_ite ?_ ?_
    | simp only [↓frame_mkM, ↓frame_rfl, Nat.reduceOr, ↓frame_step runStaged_frame, ↓frame_step startPhase_frame,
        ↓frame_step setPhase_frame, ↓frame_step haltAs_frame]
    | with_reducible apply frame_mk <;> first | exact .inl rfl | exact .inr rfl | skip
    | split
theorem dramDone_frame {s} : Frame 34359738392 (dramDone s) s := by
  unfold dramDone
  repeat' first
    | simp only [↓frame_mkM, ↓frame_rfl, Nat.reduceOr, ↓frame_step startPhase_frame, ↓frame_step draw_frame]
    | with_reducible apply frame_mk <;> first | exact .inl rfl | exact .inr rfl | skip
theorem vaultDone_frame {a1 s} : Frame 204212281592 (vaultDone a1 s) s := by
  unfold vaultDone
  repeat' first
    | with_reducible refine frame_ite ?_ ?_
    | simp only [↓frame_mkM, ↓frame_rfl, Nat.reduceOr, ↓frame_step startPhase_frame, ↓frame_step powerBit_frame,
        ↓frame_step judgeKeepSafe_frame, ↓frame_step setPhase_frame, ↓frame_step raise_frame]
    | with_reducible apply frame_mk <;> first | exact .inl rfl | exact .inr rfl | skip
theorem latchWords_frame {s} : Frame 2147483648 (latchWords s) s := by
  unfold latchWords
  repeat' first
    | simp only [↓frame_mkM, ↓frame_rfl]
    | with_reducible apply frame_mk <;> first | exact .inl rfl | exact .inr rfl | skip
theorem sensePresence_frame {a1 s} : Frame 4294967296 (sensePresence a1 s) s := by
  unfold sensePresence
  repeat' first
    | simp only [↓frame_rfl, Nat.reduceOr, ↓frame_step putFeed_frame]
    | with_reducible refine frame_foldl (fun _ _ => ?_) ?_
theorem configDone_frame {a1 s} : Frame 195924328448 (configDone a1 s) s := by
  unfold configDone
  repeat' first
    | with_reducible refine frame_ite ?_ ?_
    | simp only [↓frame_mkM, ↓frame_rfl, Nat.reduceOr, ↓frame_step sensePresence_frame, ↓frame_step latchWords_frame,
        ↓frame_step afterConfig_frame]
    | with_reducible apply frame_mk <;> first | exact .inl rfl | exact .inr rfl | skip
theorem drivesDone_frame {s} : Frame 479136510856 (drivesDone s) s := by
  unfold drivesDone
  repeat' first
    | with_reducible refine frame_ite ?_ ?_
    | simp only [↓frame_rfl, Nat.reduceOr, ↓frame_step afterDrivesAndPair_frame, ↓frame_step setPhase_frame, ↓frame_step disableSlot_frame,
        ↓frame_step failMember_frame]
    | with_reducible refine frame_foldl (fun _ _ => ?_) ?_
theorem ownShards_frame {s} : Frame 8192 (ownShards s) s := by
  unfold ownShards
  repeat' first
    | simp only [↓frame_mkM, ↓frame_rfl]
    | with_reducible apply frame_mk <;> first | exact .inl rfl | exact .inr rfl | skip
theorem fenceAtStart_frame {s} : Frame 157005381632 (fenceAtStart s) s := by
  unfold fenceAtStart
  repeat' first
    | with_reducible refine frame_ite ?_ ?_
    | simp only [↓frame_mkM, ↓frame_rfl, Nat.reduceOr, ↓frame_step fenceNext_frame]
    | with_reducible apply frame_mk <;> first | exact .inl rfl | exact .inr rfl | skip
theorem pairDone_frame {s} : Frame 204250034304 (pairDone s) s := by
  unfold pairDone
  repeat' first
    | with_reducible refine frame_ite ?_ ?_
    | simp only [↓frame_mkM, ↓frame_rfl, Nat.reduceOr, ↓frame_step startDrives_frame, ↓frame_step setPhase_frame,
        ↓frame_step afterDrivesAndPair_frame, ↓frame_step haltAs_frame, ↓frame_step fenceAtStart_frame]
    | with_reducible apply frame_mk <;> first | exact .inl rfl | exact .inr rfl | skip
theorem discardGaps_frame {a1 s} : Frame 156833423872 (discardGaps a1 s) s := by
  unfold discardGaps
  repeat' first
    | with_reducible refine frame_ite ?_ ?_
    | simp only [↓frame_mkM, ↓frame_rfl, Nat.reduceOr, ↓frame_step putShard_frame, ↓frame_step raise_frame]
    | with_reducible apply frame_mk <;> first | exact .inl rfl | exact .inr rfl | skip
theorem replayLog_frame {s} : Frame 157005406728 (replayLog s) s := by
  unfold replayLog
  repeat' first
    | with_reducible refine frame_ite ?_ ?_
    | simp only [↓frame_mkM, ↓frame_rfl, Nat.reduceOr, ↓frame_step settle_frame, ↓frame_step closeHeads_frame, ↓frame_step issueRow_frame,
        ↓frame_step ringCopies_frame, ↓frame_step discardGaps_frame, ↓frame_step changeBanks_frame]
    | with_reducible apply frame_mk <;> first | exact .inl rfl | exact .inr rfl | skip
    | with_reducible refine frame_foldl (fun _ _ => ?_) ?_
theorem keysDone_frame {a1 s} : Frame 191365178904 (keysDone a1 s) s := by
  unfold keysDone
  repeat' first
    | with_reducible refine frame_ite ?_ ?_
    | simp only [↓frame_mkM, ↓frame_rfl, Nat.reduceOr, ↓frame_step replayLog_frame, ↓frame_step startPhase_frame,
        ↓frame_step setPhase_frame, ↓frame_step ownShards_frame, ↓frame_step newCustodyKey_frame, ↓frame_step unwrapRoots_frame]
    | with_reducible apply frame_mk <;> first | exact .inl rfl | exact .inr rfl | skip
theorem recoveryDone_frame {s} : Frame 1026479882200 (recoveryDone s) s := by
  unfold recoveryDone
  repeat' first
    | with_reducible refine frame_ite ?_ ?_
    | simp only [↓frame_mkM, ↓frame_rfl, Nat.reduceOr, ↓frame_step tryOpen_frame, ↓frame_step resumeSanitise_frame,
        ↓frame_step resumeErasure_frame, ↓frame_step resumeFormats_frame, ↓frame_step reformReceipts_frame, ↓frame_step setPhase_frame,
        ↓frame_step recoverAll_frame]
    | with_reducible apply frame_mk <;> first | exact .inl rfl | exact .inr rfl | skip
    | with_reducible refine frame_foldl (fun _ _ => ?_) ?_
theorem resumeForming_frame {s} : Frame 192438923288 (resumeForming s) s := by
  unfold resumeForming
  repeat' first
    | with_reducible refine frame_ite ?_ ?_
    | simp only [↓frame_rfl, Nat.reduceOr, ↓frame_step formShelf_frame]
    | split
theorem execStartupPhaseEnd_frame {a1 a2 s} : OutFrame 1030774849528 (execStartupPhaseEnd a1 a2 s) s := by
  unfold execStartupPhaseEnd
  repeat' first
    | with_reducible refine frame_ite ?_ ?_
    | with_reducible refine frame_oite ?_ ?_
    | simp only [↓outFrame_next, ↓frame_rfl, Nat.reduceOr, ↓frame_step startPhase_frame, ↓frame_step setPhase_frame,
        ↓frame_step bootDone_frame, ↓frame_step dramDone_frame, ↓frame_step haltAs_frame, ↓frame_step vaultDone_frame,
        ↓frame_step configDone_frame, ↓frame_step resumeForming_frame, ↓frame_step drivesDone_frame, ↓frame_step pairDone_frame,
        ↓frame_step keysDone_frame, ↓frame_step recoveryDone_frame, ↓frame_step tryOpen_frame]
theorem execStartupBudgetExpiry_frame {a1 s} : OutFrame 480210253720 (execStartupBudgetExpiry a1 s) s := by
  unfold execStartupBudgetExpiry
  repeat' first
    | with_reducible refine frame_oite ?_ ?_
    | simp only [↓outFrame_next, ↓frame_mkM, ↓frame_rfl, Nat.reduceOr, ↓frame_step haltAs_frame, ↓frame_step setPhase_frame,
        ↓frame_step resumeForming_frame, ↓frame_step drivesDone_frame, ↓frame_step pairDone_frame, ↓frame_step keysDone_frame,
        ↓frame_step raise_frame, ↓frame_step tryOpen_frame]
    | with_reducible apply frame_mk <;> first | exact .inl rfl | exact .inr rfl | skip
    | split
theorem execLockWaitExpiry_frame {s} : OutFrame 199783100544 (execLockWaitExpiry s) s := by
  unfold execLockWaitExpiry
  repeat' first
    | with_reducible refine frame_ite ?_ ?_
    | simp only [↓outFrame_next, ↓frame_mkM, ↓frame_rfl, Nat.reduceOr, ↓frame_step tryOpen_frame, ↓frame_step setPhase_frame]
    | with_reducible apply frame_mk <;> first | exact .inl rfl | exact .inr rfl | skip
    | split

end Machine
end Sys2Proof
end

