-- ==== Sys2Proof/Laws/Status.lean ====
section
/-!
SUPPORT. Keyed words and status bits: what a write to one key says of it and of the others, and that a raised bit stands.
-/
namespace Sys2Proof
namespace Machine

theorem putKey_lookup_self {k v d : Nat} {l : List (Nat × Nat)} (h : v ≠ d) : (putKey k v d l).lookup k = some v := by
  induction l with
  | nil => simp [putKey, h]
  | cons x r ih =>
    obtain ⟨k', v'⟩ := x
    unfold putKey
    rw [if_neg h, if_neg h]
    split
    · rw [List.lookup_cons, beq_self_eq_true]
    · split
      · rw [List.lookup_cons, beq_self_eq_true]
      · rename_i n
        rw [List.lookup_cons]
        have : (k == k') = false := by simpa using n
        simp only [this]
        exact ih

theorem putKey_lookup_ne {k v d a : Nat} {l : List (Nat × Nat)} (h : a ≠ k) : (putKey k v d l).lookup a = l.lookup a := by
  have hk : (a == k) = false := by simpa using h
  induction l with
  | nil => unfold putKey; split <;> simp [List.lookup, hk]
  | cons x r ih =>
    obtain ⟨k', v'⟩ := x
    unfold putKey
    split
    · split
      · rfl
      · rw [List.lookup_cons]; simp only [hk]
    · split
      · rename_i e
        subst e
        split
        · rw [List.lookup_cons]; simp only [hk]
        · rw [List.lookup_cons, List.lookup_cons]; simp only [hk]
      · rw [List.lookup_cons, List.lookup_cons, ih]

/-- A figure written reads as written. -/
theorem figure_setFigure {a v : Nat} {s : State} (h : v ≠ 0) : figure (setFigure a v s) a = v := by
  unfold figure setFigure; simp only [putKey_lookup_self h, Option.getD_some]

/-- A figure written leaves the others. -/
theorem figure_setFigure_ne {a b v : Nat} {s : State} (h : b ≠ a) : figure (setFigure a v s) b = figure s b := by
  unfold figure setFigure; simp only [putKey_lookup_ne h]

/-- Bits or-ed into a word stand there beside its own. -/
theorem statusWord_orStatus {a b : Nat} {s : State} (h : b ≠ 0) : statusWord (orStatus a b s) a = Nat.lor (statusWord s a) b := by
  have hb : Nat.lor (statusWord s a) b ≠ 0 := by
    intro e
    have e' : statusWord s a ||| b = 0 := e
    exact h (Nat.or_eq_zero_iff.mp e').2
  show ((putKey a (Nat.lor (statusWord s a) b) 0 s.layers.status).lookup a).getD 0 = _
  rw [putKey_lookup_self hb, Option.getD_some]

/-- The other words stay. -/
theorem statusWord_orStatus_ne {a b c : Nat} {s : State} (h : c ≠ a) : statusWord (orStatus a b s) c = statusWord s c := by
  show ((putKey a _ 0 s.layers.status).lookup c).getD 0 = _
  rw [putKey_lookup_ne h]; rfl

/-- A bit that is set stays set when bits are or-ed in. -/
theorem testBit_orStatus {a b c n : Nat} {s : State} (hb : b ≠ 0) (h : (statusWord s c).testBit n = true) :
    (statusWord (orStatus a b s) c).testBit n = true := by
  by_cases e : c = a
  · subst e
    rw [statusWord_orStatus hb]
    show (statusWord s c ||| b).testBit n = true
    rw [Nat.testBit_or, h, Bool.true_or]
  · rwa [statusWord_orStatus_ne e]

theorem statusWord_msix {v c : Nat} {s : State} : statusWord (msix v s) c = statusWord s c := by
  unfold msix statusWord; split <;> rfl

theorem statusWord_placeAll {s : State} {n c : Nat} {d : Flds} {i : EvRing → List Nat} : statusWord (placeAll s n d i).1 c = statusWord s c := rfl

theorem statusWord_bumpFigure {a n c : Nat} {s : State} : statusWord (bumpFigure a n s) c = statusWord s c := rfl

/-- Raising an event clears no status bit. -/
theorem testBit_placeEvent {num c n : Nat} {d : Flds} {i : State → EvRing → List Nat} {s : State} (h : (statusWord s c).testBit n = true) :
    (statusWord (placeEvent num d i s) c).testBit n = true := by
  unfold placeEvent
  dsimp only
  have h2 : ∀ x : Bool, (statusWord (if x = true then msix (64 + num / 0x100) (placeAll s num d (i s)).1 else (placeAll s num d (i s)).1) c).testBit n = true := by
    intro x; cases x
    · exact h
    · rw [if_pos rfl, statusWord_msix]; exact h
  split
  · split
    · rw [statusWord_placeAll]; exact testBit_orStatus (by decide) (h2 _)
    · exact h2 _
  · rw [statusWord_placeAll]
    refine testBit_orStatus (by decide) ?_
    rw [statusWord_bumpFigure]
    split
    · rw [statusWord_placeAll]; exact testBit_orStatus (by decide) (h2 _)
    · exact h2 _

/-- A raised status bit stands (23 R526). -/
theorem raise_sets {a b i : Nat} {s : State} : (statusWord (raise a b i s) a).testBit b = true := by
  unfold raise raiseEvent
  refine testBit_placeEvent ?_
  rw [statusWord_orStatus (Nat.ne_of_gt (Nat.two_pow_pos _))]
  show (statusWord s a ||| 2 ^ b).testBit b = true
  rw [Nat.testBit_or, Nat.testBit_two_pow_self, Bool.or_true]

/-- Raising a bit clears no other. -/
theorem raise_keeps {a b i c n : Nat} {s : State} (h : (statusWord s c).testBit n = true) : (statusWord (raise a b i s) c).testBit n = true := by
  unfold raise raiseEvent
  exact testBit_placeEvent (testBit_orStatus (Nat.ne_of_gt (Nat.two_pow_pos _)) h)

end Machine
end Sys2Proof
end

