-- ==== Sys2Proof/Laws/StepFrame.lean ====
section
/-!
SUPPORT. What the definitions of Machine/Step.lean leave unchanged.
-/
namespace Sys2Proof
namespace Machine
set_option maxRecDepth 100000
set_option linter.unusedSimpArgs false

theorem State.withFetchWord_frame {s a2 a3} : Frame 1099511627776 (State.withFetchWord s a2 a3) s := by
  unfold State.withFetchWord
  repeat' first
    | simp only [↓frame_mkM, ↓frame_rfl]
    | with_reducible apply frame_mk <;> first | exact .inl rfl | exact .inr rfl | skip
    | split

end Machine
end Sys2Proof
end

