-- ==== Sys2Proof/Laws/Taken.lean ====
section
/-!
SUPPORT. What a host command's arrival and a Myavo message's receipt come to when nothing holds them back.
-/
namespace Sys2Proof
namespace Machine

/-- A host command that is admitted at once runs its own rules. -/
theorem arrive_taken {s : State} {i : Instr} {c : HostCmd} {early : State → Option (Nat × Flds)} {refuse : Nat → Nat × Flds → State → State}
    {run : Nat → State → State} (h : TakenUp s i c) :
    arrive i early refuse run (fetched s c) = actEnds (needsDrives (downAnswer i c) (run (now (metered s c))) (taken s i c)) := by
  obtain ⟨h1, h2, h3, h4, h5, h6, h7, h8, h9, -⟩ := h
  have hc : ctxAt (fetched s c) c.ctx = ctxAt s c.ctx := by unfold fetched; split <;> rfl
  unfold arrive
  simp only [h1, hc]
  cases hx : ctxAt s c.ctx with
  | none => simp [hx] at h2
  | some x =>
    simp only [hx, Option.any_some, Bool.and_eq_true, Bool.not_eq_true'] at h2
    obtain ⟨⟨h2a, h2b⟩, h2c⟩ := h2
    have hk : (x.closing || x.helloOnly || (c.uop && !isUop x) || (!c.uop && !isNvme x)) = false := by
      cases hu : c.uop <;> simp_all
    have ht : (c.uop && (decide (x.depth ≤ c.tag) || uopTagHeld (hostWork (fetched s c)) c.ctx c.tag)) = false := by
      cases hu : c.uop <;> simp_all
    simp only [hk, ht, Bool.false_eq_true, if_false]
    unfold metered taken at *
    unfold metered at *
    cases hm : meterCmd c (hostWork (fetched s c)) with
    | mk k t =>
      rw [hm] at h4 h5 h6 h7 h8 h9
      cases k with
      | red => exact absurd rfl h4
      | yellow =>
        dsimp only at h5 h6 h7 h8
        have h9' : admitsNow t true c = true := h9
        have hf : forwardsNow t c = false := by simp [forwardsNow, h8]
        simp [admitNow, h5, h6, h7, hf, h9']
      | green =>
        dsimp only at h5 h6 h7 h8
        have h9' : admitsNow t false c = true := h9
        have hf : forwardsNow t c = false := by simp [forwardsNow, h8]
        simp [admitNow, h5, h6, h7, hf, h9']

/-- While the drives are powered it ends in what its rules give, up to the instant of the last need. -/
theorem arrive_ran {s : State} {i : Instr} {c : HostCmd} {early : State → Option (Nat × Flds)} {refuse : Nat → Nat × Flds → State → State}
    {run : Nat → State → State} (h : TakenUp s i c) :
    Ran (arrive i early refuse run (fetched s c)) (run (now (metered s c)) (taken s i c)) := by
  rw [arrive_taken h]
  obtain ⟨k, hk⟩ := needsDrives_up (answer := downAnswer i c) (act := run (now (metered s c))) h.2.2.2.2.2.2.2.2.2
  rw [hk]; rfl

/-- A Myavo message that is accepted runs its own rules on the hitch that has heard it. -/
theorem myavoIn_taken {s : State} {m : Myavo} {c : Ctx} {h : Hitch} {act : Hitch → State → State} (k : MessageTaken s m c h) :
    myavoIn m act s = act (hearing s m h) (heardOf s m h) := by
  obtain ⟨k1, k2, k3, k4, k5, k6, k7, k8⟩ := k
  unfold myavoIn heardOf hearing
  have f : (some h).filter (fun y => y.ctx == some m.ctx) = some h := by simp [Option.filter, k4]
  simp only [k1, k2, k3, f, k5, k6, Bool.false_eq_true, if_false]
  have q : (decide (m.seq ≤ h.received) || !hitchLive h) = false := by
    rw [decide_eq_false (Nat.not_le.mpr k7), k8]; rfl
  simp only [Bool.or_eq_false_iff, bne_self_eq_false, Bool.not_true, Bool.or_self, q, Bool.false_eq_true, if_false]

/-- A UOP command without a refusal acts. -/
theorem runUop_ok {x : Src} {cap : Capsule} {check : State → Option (Nat × Flds)} {act : State → State} {s : State} (h : check s = none) :
    runUop x cap check act s = act s := by unfold runUop; rw [h]

/-- An NVMe command of its opcode without a refusal acts. -/
theorem runNvAt_ok {lba op : Nat} {c : NvmeCmd} {ing : Nat} {check : State → Option Nat} {act : State → State} {s : State}
    (o : opcodeCheck op c = none) (h : check s = none) : runNvAt lba op c ing check act s = act s := by
  unfold runNvAt; rw [o, h]; rfl
theorem runNv_ok {op : Nat} {c : NvmeCmd} {ing : Nat} {check : State → Option Nat} {act : State → State} {s : State}
    (o : opcodeCheck op c = none) (h : check s = none) : runNv op c ing check act s = act s := runNvAt_ok o h

/-! What a hitch keeps of itself when it hears a message -/

@[simp] theorem hearing_record {s : State} {m : Myavo} {h : Hitch} : (hearing s m h).record = h.record := rfl
@[simp] theorem hearing_source {s : State} {m : Myavo} {h : Hitch} : (hearing s m h).source = h.source := rfl
@[simp] theorem hearing_state {s : State} {m : Myavo} {h : Hitch} : (hearing s m h).state = h.state := rfl
@[simp] theorem hearing_ctx {s : State} {m : Myavo} {h : Hitch} : (hearing s m h).ctx = h.ctx := rfl
@[simp] theorem hearing_hello {s : State} {m : Myavo} {h : Hitch} : (hearing s m h).hello = h.hello := rfl
@[simp] theorem hearing_sent {s : State} {m : Myavo} {h : Hitch} : (hearing s m h).sent = h.sent := rfl
@[simp] theorem hearing_beat {s : State} {m : Myavo} {h : Hitch} : (hearing s m h).beat = h.beat := rfl
@[simp] theorem hearing_tried {s : State} {m : Myavo} {h : Hitch} : (hearing s m h).tried = h.tried := rfl
@[simp] theorem hearing_collMap {s : State} {m : Myavo} {h : Hitch} : (hearing s m h).collMap = h.collMap := rfl
@[simp] theorem hearing_pass {s : State} {m : Myavo} {h : Hitch} : (hearing s m h).pass = h.pass := rfl
@[simp] theorem hearing_cuts {s : State} {m : Myavo} {h : Hitch} : (hearing s m h).cuts = h.cuts := rfl
@[simp] theorem hearing_todo {s : State} {m : Myavo} {h : Hitch} : (hearing s m h).todo = h.todo := rfl
@[simp] theorem hearing_flight {s : State} {m : Myavo} {h : Hitch} : (hearing s m h).flight = h.flight := rfl
@[simp] theorem hearing_arrivals {s : State} {m : Myavo} {h : Hitch} : (hearing s m h).arrivals = h.arrivals := rfl
@[simp] theorem hearing_credits {s : State} {m : Myavo} {h : Hitch} : (hearing s m h).credits = h.credits := rfl
@[simp] theorem hearing_landed {s : State} {m : Myavo} {h : Hitch} : (hearing s m h).landed = h.landed := rfl
@[simp] theorem hearing_batches {s : State} {m : Myavo} {h : Hitch} : (hearing s m h).batches = h.batches := rfl
@[simp] theorem hearing_chains {s : State} {m : Myavo} {h : Hitch} : (hearing s m h).chains = h.chains := rfl
@[simp] theorem hearing_delivered {s : State} {m : Myavo} {h : Hitch} : (hearing s m h).delivered = h.delivered := rfl
@[simp] theorem hearing_retry {s : State} {m : Myavo} {h : Hitch} : (hearing s m h).retry = h.retry := rfl
@[simp] theorem hearing_retried {s : State} {m : Myavo} {h : Hitch} : (hearing s m h).retried = h.retried := rfl
@[simp] theorem hearing_owed {s : State} {m : Myavo} {h : Hitch} : (hearing s m h).owed = h.owed := rfl
@[simp] theorem hearing_uncovered {s : State} {m : Myavo} {h : Hitch} : (hearing s m h).uncovered = h.uncovered := rfl
@[simp] theorem hearing_closing {s : State} {m : Myavo} {h : Hitch} : (hearing s m h).closing = h.closing := rfl
@[simp] theorem hearing_final {s : State} {m : Myavo} {h : Hitch} : (hearing s m h).final = h.final := rfl
@[simp] theorem hearing_peerKey {s : State} {m : Myavo} {h : Hitch} : (hearing s m h).peerKey = h.peerKey := rfl
@[simp] theorem hearing_peerLanyard {s : State} {m : Myavo} {h : Hitch} : (hearing s m h).peerLanyard = h.peerLanyard := rfl
@[simp] theorem hearing_timeBad {s : State} {m : Myavo} {h : Hitch} : (hearing s m h).timeBad = h.timeBad := rfl
@[simp] theorem hearing_statement {s : State} {m : Myavo} {h : Hitch} : (hearing s m h).statement = h.statement := rfl
@[simp] theorem hearing_signers {s : State} {m : Myavo} {h : Hitch} : (hearing s m h).signers = h.signers := rfl
@[simp] theorem hearing_arrivalOn {s : State} {m : Myavo} {h : Hitch} {n : Nat} : arrivalOn (hearing s m h) n = arrivalOn h n := rfl
@[simp] theorem hearing_openBatch {s : State} {m : Myavo} {h : Hitch} {n : Nat} : openBatch (hearing s m h) n = openBatch h n := rfl
@[simp] theorem hearing_scopeTenants {s : State} {m : Myavo} {h : Hitch} : scopeTenants (hearing s m h) = scopeTenants h := rfl
@[simp] theorem hearing_doneFigures {s : State} {m : Myavo} {h : Hitch} {x : Option Nat} : doneFigures (hearing s m h) x = doneFigures h x := rfl
@[simp] theorem hearing_scopeTenant {s : State} {m : Myavo} {h : Hitch} {n : Nat} : scopeTenant (hearing s m h) n = scopeTenant h n := rfl
@[simp] theorem putHitch_collAt {s : State} {h : Hitch} {n : Nat} : collAt (putHitch h s) n = collAt s n := rfl
@[simp] theorem mapHitch_collAt {s : State} {id : BitVec 128} {f : Hitch → Hitch} {n : Nat} : collAt (mapHitch id f s) n = collAt s n := rfl
@[simp] theorem putHitch_tenantAt {s : State} {h : Hitch} {n : Nat} : tenantAt (putHitch h s) n = tenantAt s n := rfl
@[simp] theorem mapHitch_tenantAt {s : State} {id : BitVec 128} {f : Hitch → Hitch} {n : Nat} : tenantAt (mapHitch id f s) n = tenantAt s n := rfl
@[simp] theorem putHitch_objAt {s : State} {h : Hitch} {n : Nat} {d : Digest} : objAt (putHitch h s) n d = objAt s n d := rfl
@[simp] theorem mapHitch_objAt {s : State} {id : BitVec 128} {f : Hitch → Hitch} {n : Nat} {d : Digest} : objAt (mapHitch id f s) n d = objAt s n d := rfl
@[simp] theorem putHitch_ctxAt {s : State} {h : Hitch} {n : Nat} : ctxAt (putHitch h s) n = ctxAt s n := rfl
@[simp] theorem mapHitch_ctxAt {s : State} {id : BitVec 128} {f : Hitch → Hitch} {n : Nat} : ctxAt (mapHitch id f s) n = ctxAt s n := rfl
@[simp] theorem putHitch_membersFull {s : State} {h : Hitch} : membersFull (putHitch h s) = membersFull s := rfl
@[simp] theorem mapHitch_membersFull {s : State} {id : BitVec 128} {f : Hitch → Hitch} : membersFull (mapHitch id f s) = membersFull s := rfl

end Machine
end Sys2Proof
end

