-- ==== Sys2Proof/Laws/TetherFrame.lean ====
section
/-!
SUPPORT. What the definitions of Machine/Tether.lean leave unchanged.
-/
namespace Sys2Proof
namespace Machine
set_option maxRecDepth 100000
set_option linter.unusedSimpArgs false

theorem relay_frame {a1 a2 a3 a4 a5 a6 a7 s} : Frame 137438953472 (relay a1 a2 a3 a4 a5 a6 a7 s) s := by
  unfold relay
  repeat' first
    | with_reducible refine frame_ite ?_ ?_
    | simp only [↓frame_rfl, Nat.reduceOr, ↓frame_step hopSend_frame]
theorem noteSeq_frame {a1 a2 s} : Frame 268435456 (noteSeq a1 a2 s) s := by
  unfold noteSeq
  repeat' first
    | simp only [↓frame_mkM, ↓frame_rfl]
    | with_reducible apply frame_mk <;> first | exact .inl rfl | exact .inr rfl | skip
theorem execTetherHopUp_frame {a1 a2 s} : OutFrame 157101850624 (execTetherHopUp a1 a2 s) s := by
  unfold execTetherHopUp
  repeat' first
    | with_reducible refine frame_ite ?_ ?_
    | simp only [↓outFrame_next, ↓frame_mkM, ↓frame_rfl, Nat.reduceOr, ↓frame_step raise_frame, ↓frame_step reeveOn_frame]
    | with_reducible apply frame_mk <;> first | exact .inl rfl | exact .inr rfl | skip
theorem execTetherHopDown_frame {a1 a2 s} : OutFrame 268435456 (execTetherHopDown a1 a2 s) s := by
  unfold execTetherHopDown
  repeat' first
    | simp only [↓outFrame_next, ↓frame_mkM, ↓frame_rfl]
    | with_reducible apply frame_mk <;> first | exact .inl rfl | exact .inr rfl | skip
theorem execReeve_frame {a1 s} : OutFrame 157101850624 (execReeve a1 s) s := by
  unfold execReeve
  repeat' first
    | with_reducible refine frame_ite ?_ ?_
    | simp only [↓outFrame_next, ↓frame_mkM, ↓frame_rfl, Nat.reduceOr, ↓frame_step raise_frame, ↓frame_step reeveOn_frame,
        ↓frame_step takeAddress_frame]
    | with_reducible apply frame_mk <;> first | exact .inl rfl | exact .inr rfl | skip
theorem execReeveDone_frame {a1 s} : OutFrame 137707388928 (execReeveDone a1 s) s := by
  unfold execReeveDone
  repeat' first
    | with_reducible refine frame_ite ?_ ?_
    | simp only [↓outFrame_next, ↓frame_mkM, ↓frame_rfl, Nat.reduceOr, ↓frame_step hopSend_frame]
    | with_reducible apply frame_mk <;> first | exact .inl rfl | exact .inr rfl | skip
theorem noteMember_frame {a1 s} : Frame 157101850624 (noteMember a1 s) s := by
  unfold noteMember
  repeat' first
    | with_reducible refine frame_ite ?_ ?_
    | simp only [↓frame_mkM, ↓frame_rfl, Nat.reduceOr, ↓frame_step raise_frame]
    | with_reducible apply frame_mk <;> first | exact .inl rfl | exact .inr rfl | skip
theorem startAddress_frame {a1 s} : Frame 157101850624 (startAddress a1 s) s := by
  unfold startAddress
  repeat' first
    | with_reducible refine frame_ite ?_ ?_
    | simp only [↓frame_mkM, ↓frame_rfl, Nat.reduceOr, ↓frame_step raise_frame, ↓frame_step reeveOn_frame, ↓frame_step takeAddress_frame]
    | with_reducible apply frame_mk <;> first | exact .inl rfl | exact .inr rfl | skip
theorem execTetherHeartbeat_frame {a1 a2 a3 a4 a5 a6 a7 a8 s} : OutFrame 157101850624 (execTetherHeartbeat a1 a2 a3 a4 a5 a6 a7 a8 s) s := by
  unfold execTetherHeartbeat
  repeat' first
    | with_reducible refine frame_ite ?_ ?_
    | with_reducible refine frame_oite ?_ ?_
    | simp only [↓outFrame_next, ↓frame_rfl, Nat.reduceOr, ↓frame_step startAddress_frame, ↓frame_step relay_frame,
        ↓frame_step noteMember_frame, ↓frame_step noteSeq_frame]
theorem execTetherHeartbeatSend_frame {s} : OutFrame 137707388928 (execTetherHeartbeatSend s) s := by
  unfold execTetherHeartbeatSend
  repeat' first
    | with_reducible refine frame_ite ?_ ?_
    | with_reducible refine frame_oite ?_ ?_
    | simp only [↓outFrame_next, ↓frame_mkM, ↓frame_rfl, Nat.reduceOr, ↓frame_step flood_frame]
    | with_reducible apply frame_mk <;> first | exact .inl rfl | exact .inr rfl | skip
theorem execTetherMemberTimeout_frame {a1 s} : OutFrame 157101850624 (execTetherMemberTimeout a1 s) s := by
  unfold execTetherMemberTimeout
  repeat' first
    | with_reducible refine frame_ite ?_ ?_
    | simp only [↓outFrame_next, ↓frame_mkM, ↓frame_rfl, Nat.reduceOr, ↓frame_step raise_frame]
    | with_reducible apply frame_mk <;> first | exact .inl rfl | exact .inr rfl | skip
    | split
theorem execTetherMailbox_frame {a1 a2 a3 a4 a5 a6 a7 s} : OutFrame 148444807176 (execTetherMailbox a1 a2 a3 a4 a5 a6 a7 s) s := by
  unfold execTetherMailbox
  repeat' first
    | with_reducible refine frame_ite ?_ ?_
    | with_reducible refine frame_oite ?_ ?_
    | simp only [↓outFrame_next, ↓frame_rfl, Nat.reduceOr, ↓frame_step wake_frame, ↓frame_step relay_frame, ↓frame_step noteSeq_frame]
theorem execDiscover_frame {a1 a2 a3 a4 a5 s} : OutFrame 148444807176 (execDiscover a1 a2 a3 a4 a5 s) s := by
  unfold execDiscover
  repeat' first
    | with_reducible refine frame_oite ?_ ?_
    | simp only [↓outFrame_next, ↓frame_mkM, ↓frame_rfl, Nat.reduceOr, ↓frame_step wake_frame, ↓frame_step relay_frame,
        ↓frame_step noteSeq_frame]
    | with_reducible apply frame_mk <;> first | exact .inl rfl | exact .inr rfl | skip

end Machine
end Sys2Proof
end

