-- ==== Sys2Proof/Tests/Slice0.lean ====
section
/-!
SUPPORT. Tests of the author: a term each check of WellFormed refuses, single commands on small states, and for every statement with
hypotheses a state and operands that meet them.
-/
set_option maxRecDepth 10000
set_option linter.unusedVariables false
open Sys2Proof Sys2Proof.Machine
namespace Sys2Proof
namespace Tests

/-! ## Small states -/

def zPeerAddr : PeerAddr :=
  { addr := 0, port := 0, eth := 0 }

def zStampIn : StampIn :=
  { sec := 0, ns := 0, flags := 0, count := 0 }

def zObjBegin : ObjBegin :=
  { srcColl := 0, dstColl := 0, stream := 0, srcMac := 0, srcTime := 0, srcSeq := 0, srcStamp := zStampIn, size := 0, parts := 0,
    name := [], metadata := [], sha2 := 0, sha3 := 0, excerpts := 0, locks := [], srcF3 := 0, srcF2 := 0, srcPos := 0 }

def zArrival : Arrival :=
  { stream := 0, begin_ := zObjBegin, mac := 0, part := [], fate := 0, excerpts := [], rows := [] }

def zBatch : Batch :=
  { tenant := 0, number := 0, count := 0, first := 0, closed := false, again := false }

def zCStamp : CStamp :=
  { time := 0, seq := 0 }

def zCell : Cell :=
  { num := 0, owner := (.frame 0), input := 0, output := 0, cls := 0, orphaned := false }

def zChannel : Channel :=
  { num := 0, ring := [], done := 0, beats := 0, running := false, pipe := none, since := 0, preempted := false, everPre := false,
    aborting := false, fault := none, stopped := false }

def zKStamp : KStamp :=
  { sec := 0, ns := 0, flags := 0, count := 0 }

def zCheckpoint : Checkpoint :=
  { number := 0, custody := zKStamp, lanyard := 0, root := 0, prev := 0, key := 0, heads := [] }

def zColl : Coll :=
  { num := 0, tenant := 0, geometry := 0, durable := false, shard := 0, state := .active, stamp := zCStamp, closed := false }

def zCtrl : Ctrl :=
  { cntlid := 0, tenant := 0, who := (.custodian 0), hostId := 0, hostNqn := [], discovery := false, queues := [], kato := 0,
    deadline := 0, cc := 0, wce := false, nQueues := 0, aenCfg := 0, aers := [], aens := [], changed := [], errors := [], errCount := 0,
    resNotes := [] }

def zTrnSet : TrnSet :=
  { fresh := 0, rtoMin := 0, rtoMax := 0, ackDelay := 0, dead := 0, rekey := 0, rnrTimer := 0, roceAck := 0, cnpGap := 0 }

def zCtx : Ctx :=
  { num := 0, gen := 0, kind := (.bryndle 0), who := (.custodian 0), grant := none, depth := 0, unanchored := false, place := .onDie,
    used := 0, payload := 0, mac := 0, offset := 0, offsetAt := 0, through := 0, inMsgs := [], ackDue := none, ackSeen := none,
    ceMarks := 0, sent := 0, lastId := 0, ctl := 0, outMsgs := [], srtt := 0, rto := 0, rtoAt := none, heard := 0, txPhase := 0,
    rxPhase := 0, txSince := 0, txCount := 0, oldKey := none, rate := 0, rateAt := 0, rateCut := none, cc := 0, ccAt := 0, spiIn := 0,
    spiOut := 0, oldSpi := none, spiSince := 0, psn := 0, retries := 0, rnr := 0, qpAckAt := none, qpError := false, cnpAt := 0,
    peer := 0, src := zPeerAddr, keys := noKeys, saNonce := 0, espIn := { top := 0, seen := [] }, espOld := { top := 0, seen := [] },
    espOut := 0, psnOut := 0, closing := false, helloOnly := false, set := zTrnSet }

def zDeltaMut : DeltaMut :=
  { stamp := zCStamp, at_ := 0, seq := 0, tenant := 0, what := .remove 0 0 }

def zDriveCmd : DriveCmd :=
  { flow := .log, queue := 0, tag := 0, gen := 0, purpose := (.hostRead 0 0 0 0), op := 0, lba := 0, count := 0, more := 0,
    write := false, data := [], queued := false, issued := 0, timeout := 0, hedged := false, reissues := 0, tried := [] }

def zDriveFound : DriveFound :=
  { nvme := false, ready := false, features := false, dualPort := false, format := false, inUse := false, lbas := 0, queues := 0,
    depth := 0, mdts := 0, capTo := 0 }

def zEvRecord : EvRecord :=
  { event := 0, kind := 0, inst := 0, count := 0, seq := 0, first := 0, last := 0, detail := [], read := false }

def zFeed : Feed :=
  { state := .off, since := 0, attempt := 0, retryEnd := 0, fromGood := false, pg := false, fails := 0, kind := 0, total := 0,
    inside := false, present := false, enabled := false, waits := false, mateGood := false, matePg := false, mateLatched := false }

def zFlushState : FlushState :=
  { leaves := [], inner := [], root := 0, gen := 0, covered := zCStamp, commit := 0 }

def zFrameIn : FrameIn :=
  { mac := 0, length := 0, fcsOk := false, dst := 0, etype := 0, tags := 0, pcp := 0, vlan := 0, output := 0,
    ipFragmentOrOptions := false, patterns := 0, setupInit := false, magic := false, tenant := none }

def zHBatch : HBatch :=
  { tenant := 0, number := 0, lines := [], closed := false, receipted := false, acked := false, rows := [] }

def zHead : Head :=
  { shard := 0, d := 0, reloc := false, seg := 0, row := 0, used := 0, since := none }

def zMsg : Msg :=
  { port := (.ctx 0), kind := .nvme, op := 0, tag := 0, status := 0, body := [], data := [], vlan := none, wire := [] }

def zHeld : Held :=
  { id := 0, msg := zMsg, notBefore := 0, nv := false, nvDelay := 0, shard := 0, splice := 0, level := .none, also := [], batch := none,
    drives := [], rows := [], bank := none, drains := [], remote := none, job := none, flow := .log, repaired := false }

def zHelloIn : HelloIn :=
  { identity := 0, ceremonyOk := false, custBody := 0, certOk := false, custodyKey := 0, lanyard := 0, stamp := zStampIn }

def zPairingRec : PairingRec :=
  { version := 0, rsv := 0, id := 0, srcShelf := 0, dstShelf := 0, srcA := 0, srcB := 0, dstA := 0, dstB := 0, srcCust := 0,
    dstCust := 0, notBefore := 0, notAfter := 0, rate := 0, streams := 0, geometry := 0, count := 0, scope := [] }

def zHitch : Hitch :=
  { record := zPairingRec, source := false, state := .opening, ctx := none, hello := false, sent := 0, received := 0, heard := 0,
    beat := 0, tried := 0, collMap := [], pass := 0, cuts := [], todo := [], flight := [], arrivals := [], credits := [], landed := [],
    batches := [], chains := [], delivered := [], retry := [], retried := [], owed := [], uncovered := [], closing := false,
    final := false, peerKey := none, peerLanyard := 0, timeBad := false, statement := [], signers := [], away := false, paceAt := 0,
    paced := [] }

def zHostCmd : HostCmd :=
  { ctx := 0, tag := 0, uop := false, data := 0, wr := false, coll := none, nsid := none, walk := none, all := false, covers := none,
    sgl := none, pulls := false }

def zInMsg : InMsg :=
  { id := 0, seq := 0, opcode := 0, count := 0, got := [], length := 0, key := 0, addr := 0, imm := 0, first := 0, whole := none,
    region := none, refused := false, nakAt := none }

def zLanyard : Lanyard :=
  { id := 0, isOpen := false, entries := [], receipts := [], checkpoints := [], partners := false, owed := false }

def zLogRec : LogRec :=
  { addr := 0, units := 0, kind := (.extent 0 0 0), live := false, dead := 0, bytes := [], stamp := zCStamp }

def zLyEntry : LyEntry :=
  { chain := 0, epoch := 0, pos := 0, type := 0, custody := zKStamp, commit := zCStamp, body := [], h3 := 0, h2 := 0, prev3 := 0,
    prev2 := 0 }

def zMac : Mac :=
  { num := 0, linkUp := false, pauses := [], xoffs := [], echoes := 0, echoAt := 0, sinkAt := none, sending := none }

def zMoveDesc : MoveDesc :=
  { srcSpace := 0, dstSpace := 0, prio := 0, flags := 0, rsv := 0, srcAddr := 0, srcLen := 0, srcStride := 0, srcCount := 0,
    dstAddr := 0, dstLen := 0, dstStride := 0, dstCount := 0, statusAt := 0 }

def zMyavo : Myavo :=
  { ctx := 0, id := 0, stream := 0, seq := 0, rsv := 0, known := false }

def zNs : Ns :=
  { num := 0, nsid := 0, tenant := 0, ncap := 0, format1 := false, piType := 0, piFirst := false, geometry := 0, shard := 0,
    salt := none, lbas := [], registrants := [], holder := none, ptpl := false, resGen := 0, resMask := 0, fphase := none,
    oldSalt := none, deleting := false, resuming := false, sanitising := false, created := zCStamp, reads := 0, writes := 0,
    unitsR := 0, unitsW := 0, mediaErr := 0 }

def zObj : Obj :=
  { coll := 0, mac := 0, name := [], metadata := [], parts := [], whip := none, handle := 0, opener := none, lastUse := 0,
    stamp := zCStamp, source := .put, lastRead := 0, lost := false, counted := false, key := 0, version := 0, digested := 0 }

def zPause : Pause :=
  { prio := 0, until_ := none, from_ := 0, heldAt := none, ignore := none }

def zPhaseIn : PhaseIn :=
  { ok := false, svn := 0, capacity := 0, image := false, posB := false, keyHeld := false, present := 0 }

def zQuietItem : QuietItem :=
  { tenant := 0, period := 0, macs := 0, sizeE := 0, countA := 0, countN := 0, sizeD := 0, sizeW := 0, ipVer := 0, udpPort := 0,
    sink := 0 }

def zQuiet : Quiet :=
  { item := zQuietItem, period := 0, admitted := 0, walks := 0, logBytes := 0, frames := [] }

def zReceipt : Receipt :=
  { kind := 0, tenant := 0, coll := 0, chain := 0, epoch := 0, pos := 0, entry := 0, custody := zKStamp, commit := zCStamp, mac := 0,
    body := [], leaf := 0, batch := 0, signed := false, key := 0 }

def zRegion : Region :=
  { owner := 0, tenant := 0, roce := false, base := 0, size := 0, phase := .active, revoked := 0, pushes := [] }

def zRmw : Rmw :=
  { seg := 0, row := 0, strip := 0, first := 0, count := 0, shard := 0, intent := 0, writes := [], issued := false }

def zRow : Row :=
  { seg := 0, row := 0, d := 0, state := .writing, reloc := false, seq := 0, stampLo := zCStamp, stampHi := zCStamp, seqLo := 0,
    seqHi := 0, missing := [], bad := [], subst := [], writes := [], failed := [], locked := false, short := false }

def zSegment : Segment :=
  { num := 0, shard := 0, d := 0, state := .open_, stale := 0, order := 0, rows := 0, opened := zKStamp, openedAt := zCStamp, prev := 0,
    movedAt := none }

def zSetup : Setup :=
  { handle := 0, service := 0, payload := 0, mac := 0, since := 0, nonce := 0, initiator := false, hitch := none, src := zPeerAddr,
    peer := 0, script := [], ki := 0, dh := 0, kem := 0 }

def zShard : Shard :=
  { num := 0, owned := false, last := zCStamp, mirrored := zCStamp, splice := 0, retired := 0, stripes := 0, ckptAt := 0,
    ckpt := zCStamp, ckptAddr := 0, ckpts := 0, freed := [], ckptNew := none, seen := 0, ready := false, moving := false }

def zTrigEntry : TrigEntry :=
  { num := 0, ctx := 0, gen := 0, matchVal := 0, mask := 0, threshold := 0, noted := [], remaining := 0, state := .free, work := [],
    at_ := 0, chain := none, last := 0, faultReq := none, faultCode := 0, order := 0 }

def zConnectIn : ConnectIn :=
  { ctx := 0, cid := 0, subnqn := .tenant 0, hostNqn := [], hostId := 0, cntlid := 0, qid := 0, sqsize := 0, kato := 0,
    noSqFlow := false }

def zWaiting : Waiting :=
  { ingress := 0, custody := (0, false), yellow := false, cmd := .connect zConnectIn }

def zDesc : Desc :=
  { kind := 0, rsvA := 0, len := 0, key := 0, rsvB := 0, addr := 0 }

def zGetBody : GetBody :=
  { offset := 0, desc := zDesc }

def zWalk : Walk :=
  { id := 0, q := 0, tag := 0, tenant := 0, coll := 0, mac := 0, point := zCStamp, ingress := 0, body := zGetBody, hint := none,
    ahead := 0, target := none, leaf := 0, faults := [] }

def zWhip : Whip :=
  { size := 0, parts := 0, sha2 := 0, sha3 := 0, salt := 0, stamp := zCStamp, custody := zKStamp }

def zWindow : Window :=
  { num := 0, base := 0, log2 := 0, kind := 0, canRead := false, canWrite := false, relaxed := false, target := 0 }

def zWorkReq : WorkReq :=
  { kind := 0, fromNote := false, args := [] }

def zXoff : Xoff :=
  { cls := 0, since := 0, last := 0, active := false, barred := none }

def up : State := { State.reset with
  boot := { State.reset.boot with phases := List.replicate 11 .done, open_ := true, firstUse := false, enrolled := true },
  time := { State.reset.time with shelf := 10 ^ 18 * 65536, mono := 10 ^ 18 * 65536, custody := 10 ^ 18 * 65536 } }

def after (i : Instr) (s : State) : State := match exec i s with | .next t => t | _ => s

def wAnnounce : AnnounceData := { mac := 0, transport := 0, domain := 0, gm := 7, priority1 := 128, cls := 6, accuracy := 33, variance := 0, priority2 := 128, steps := 0, logSync := 1, logAnnounce := 0 }

def upRefs : State := { up with layers := { up.layers with base := [(0x0100002C, 5)] } }

def wConn : Conn := { mbx := 0, path := .mctp, who := .custodian 11, key := 11, nonce := 5, counter := 0, lastReq := 0, tags := [], unanchored := false }

def wCall : Call := { mbx := 0, tag := 63, counter := 1, sigOk := true, rsv := 0 }

def upC : State := { up with mbx := { up.mbx with conns := [wConn] }, auth := { up.auth with custKeys := [11, 12, 13], quorumK := 2, keys := [(11, .custodian), (12, .custodian), (13, .custodian)] } }

def upEnd : State := { up with layers := { up.layers with base := [(0x07000008, 1)] } }

def wM (act : QAct) : Ceremony := { id := 77, opcode := actOp act, act := act, bodyDig := 0, nonce := 0, target := actTarget act, stamp := noStamp, expiry := 10 ^ 19 * 65536, signers := [11, 12], remote := false, ticked := none }

def upQ (act : QAct) : State := { upC with auth := { upC.auth with ceremonies := [wM act] } }

def wOper : Conn := { mbx := 1, path := .mctp, who := .operator { issuer := 11, serial := 1 } 21, key := 21, nonce := 5, counter := 7, lastReq := 0, tags := [], unanchored := false }

def wGrantO : GrantRec := { version := 1, kind := 4, tenant := 0xFFFF, serial := 1, notBefore := 0, notAfter := 10 ^ 12, holder := 21, issuer := 11, scope := [] }

def upO : State := { upC with mbx := { upC.mbx with conns := [wOper] }, auth := { upC.auth with grants := [wGrantO] } }

def wCallO : Call := { mbx := 1, tag := 0, counter := 8, sigOk := true, rsv := 0 }

def wQuota : QuotaRec := { byteQuota := 0, openAllow := 1024, ctxAllow := 65536, landAllow := 1, landSize := 1, hintShare := 0, rsv := 0, sched := schedDefault }

def wTenant (n : Nat) (key : Digest) : Tenant := { num := n, key := key, root := some 1, wrap := some 1, media := some 1, escrow := none, enrolled := zKStamp, epoch := 1, quota := wQuota, stamp := noStamp, probes := 0, hits := 0, red := 0, drops := 0 }

def wImage : BaseImage := { version := 1, svcClass := 1, length := 64, count := 0, shelf := 0, generation := 1, releaseOk := true, rsv := 0, entries := [], digest := 9 }

def wConnT : Conn := { mbx := 17, path := .bryndle 9, who := .tenant 3, key := 51, nonce := 5, counter := 0, lastReq := 0, tags := [], unanchored := false }

def wCallT : Call := { mbx := 17, tag := 5, counter := 0, sigOk := false, rsv := 0 }

def wColl : Coll := { zColl with num := 9, tenant := 3 }

def upT : State := { upC with trn := { upC.trn with ctxs := [{ zCtx with num := 9, kind := .bryndle 4, who := .tenant 3 }] }, mbx := { upC.mbx with conns := [wConnT] }, obj := { upC.obj with tenants := [wTenant 3 51], colls := [wColl] } }

def wReceipt : Receipt := { zReceipt with chain := 0, epoch := 1, pos := 1, signed := true }

def wLanyard : Lanyard := { zLanyard with id := 8, entries := [{ zLyEntry with chain := 0, epoch := 1, pos := 1 }], checkpoints := [{ zCheckpoint with number := 1 }], receipts := [wReceipt] }

def wCert : CertBody := { version := 1, epoch := 1, module := Config.moduleDigest, previous := 0, key := Config.custodyKey 1 }

def wHedged : DriveCmd := { zDriveCmd with tag := 5, purpose := .hostRead 1 1 0 0 }

def wLostRow : Row := { zRow with seg := 1, row := 0, d := 20, state := .onMedia, missing := [0, 1, 2, 3, 4, 5, 6] }

def upFeed (f : Feed) : State := { up with pwr := { up.pwr with input := f, slots := Vector.replicate 24 f, sensed := 12000, lastTurn := none, belay := none }, time := { up.time with ticks := 10 ^ 12 } }

def upIns : State := upFeed { zFeed with state := .insert, inside := true, present := true, enabled := true, waits := true }

def wDor : DormantItem := { period := 100000, window := 0, phase := 0, idle := 60, flags := 1 }

def upOvl (cls : Nat) (i : OvlItem) : State := { up with layers := { up.layers with overlays := [{ cls := cls, tenant := 0xFFFF, digest := 1, items := [i], since := 0 }] } }

def upDor : State := { upOvl 5 (.dormant wDor) with pst := { up.pst with drivesDown := true } }

def upWin : State := { upOvl 5 (.dormant wDor) with mem := { up.mem with slots := Vector.replicate 24 { up.mem.slots[0] with state := .healthy } } }

def upIn : State := upOvl 5 (.dormant { wDor with window := 86400 })

def upFwd : State := { up with pair := { up.pair with mode := .paired, leaseHeld := true }, trn := { up.trn with ctxs := [{ zCtx with num := 1048583 }] } }

def wMove : MoveDesc := { zMoveDesc with srcLen := 8192, srcCount := 1, dstLen := 8192, dstCount := 1 }

def wRelCap : Capsule := { hdr := { version := 1, opcode := 0x31, tag := 0, flags := 0, coll := 9, nameLen := 0, bodyLen := 8, addressing := 0, rsvA := 0, handle := 0, rsvB := 0, mac := 0 }, name := [], namePad := [], len := 72 }

def upRel : State := { upC with obj := { upC.obj with tenants := [wTenant 3 51], colls := [{ wColl with state := .active }], objs := [{ zObj with coll := 9, mac := 88, whip := some zWhip }], locks := [{ coll := 9, mac := none, locks := [{ num := 1, expiry := 0, reason := 0, issuer := 1 }], stamp := noStamp }] }, fix := { upC.fix with certified := true, current := some wLanyard, epoch := 1 } }

def upPhase (p : Nat) : State := { up with boot := { up.boot with phases := up.boot.phases.set (p - 1) (.running 0), open_ := false }, pwr := { up.pwr with input := { up.pwr.input with state := .good } }, time := { up.time with ticks := 10 ^ 18 } }

def upPair : State := { up with pair := { up.pair with pairShelf := true, mode := .paired, lanes := 8, leaseHeld := true, peer := some 9 } }

def wPeer : PeerIn := { sameProduct := true, sameStepping := true, sameRelease := true, sameProtocol := true, unlocked := false, certOk := true, digest := 9, serving := false, session := 5, shelfKey := none }

def upMac (m : Mac) : State := { up with net := { up.net with macs := [m] }, pwr := { up.pwr with socOn := true }, layers := { up.layers with base := [(0x02001000, 17)] } }

def wWin : Window := { zWindow with num := 2, base := 4096, log2 := 12, kind := 1, canRead := true }

def wOpen : Obj := { zObj with coll := 9, mac := 77, handle := 6 }

def wSealed : Obj := { zObj with coll := 9, mac := 88, whip := some { zWhip with sha2 := Config.sha256 [], sha3 := Config.sha3 [] } }

def upUop (objs : List Obj) : State := { upC with obj := { upC.obj with tenants := [{ wTenant 3 51 with quota := { wQuota with byteQuota := 1000000 } }], colls := [{ wColl with num := 8, state := .active }, { wColl with state := .active }], objs := objs }, trn := { upC.trn with ctxs := [{ zCtx with num := 7, kind := .bryndle 2, who := .tenant 3, depth := 64 }] }, mem := { up.mem with slots := Vector.replicate 24 { up.mem.slots[0] with state := .healthy, ours := true } }, log := { up.log with shards := [{ zShard with owned := true, ready := true }] }, fix := { upC.fix with certified := true, current := some wLanyard, epoch := 1 } }

def wHit : Hitch := { zHitch with record := { zPairingRec with id := 5, streams := 2, count := 1, notAfter := 10 ^ 13, scope := [{ tenant := 3, coll := 9, key := 51 }] }, ctx := some 7, state := .streaming, received := 3, collMap := [(4, 9)] }

def wMy : Myavo := { zMyavo with ctx := 7, id := 5, seq := 4, known := true }

def wPeerCtx : Ctx := { zCtx with num := 7, kind := .bryndle 3, who := .peer 5 }

def upHit (h : Hitch) (objs : List Obj) : State := { upUop objs with hitch := { list := [h] }, trn := { up.trn with ctxs := [wPeerCtx] } }

def wBatch : HBatch := { zHBatch with tenant := 3, number := 1 }

def wArr : Arrival := { zArrival with stream := 1, begin_ := { zObjBegin with srcColl := 4, dstColl := 9, stream := 1, excerpts := 1, srcMac := 6 } }

def wHitRec : PairingRec := { zPairingRec with version := 1, id := 5, srcShelf := 1, dstShelf := 2, srcA := Config.moduleDigest, srcCust := Config.sha3 (encodeFlds (custSetFlds upC)), notAfter := 10 ^ 10, rate := 1000, streams := 1, count := 1, scope := [{ tenant := 3, coll := 9, key := 51 }] }

def upHitQ (act : QAct) (h : Hitch) : State := { upHit h [] with auth := (upQ act).auth }

def upOpen : State := { upQ (.hitchOpen wHitRec) with obj := (upUop []).obj, boot := { up.boot with shelfId := 1 }, layers := { up.layers with overlays := [{ cls := 4, tenant := 0xFFFF, digest := 1, items := [], since := 0 }] } }

def wCtrl : Ctrl := { zCtrl with cntlid := 1, tenant := 3, who := .tenant 3, hostId := 6, queues := [{ ctx := 7, qid := 0, size := 32, noFlow := false, head := 0 }, { ctx := 8, qid := 1, size := 64, noFlow := false, head := 0 }], kato := 1000, cc := 1, wce := true, nQueues := 128 }

def wNs : Ns := { zNs with nsid := 1, tenant := 3, ncap := 262144, geometry := 1, salt := some 5 }

def upNvC (k : Ctrl) (n : Ns) : State := { upUop [] with trn := { up.trn with ctxs := [{ zCtx with num := 7, kind := .bryndle 1, who := .tenant 3 }, { zCtx with num := 8, kind := .bryndle 1, who := .tenant 3 }] }, block := { up.block with ctrls := [k], nss := [n] }, layers := { up.layers with service := 1 } }

def upNv : State := upNvC wCtrl wNs

def wAdm : NvmeCmd := { ctx := 7, cid := 4, nsid := 1, opcode := 0, fuse := 0, sgl := none }

def wIo : NvmeCmd := { ctx := 8, cid := 4, nsid := 1, opcode := 0, fuse := 0, sgl := none }

def wWait : Waiting := { zWaiting with cmd := .flush { ctx := 8, cid := 3, nsid := 1, opcode := 0, fuse := 0, sgl := none } }

def zOutMsg : OutMsg :=
  { id := 0, seq := 0, opcode := 0, sentAt := 0, length := 0, packets := 0, statusAsked := false, queued := false, mir := 0,
    what := zMsg, wire := [], psn := 0 }

def wSess : Ctx := { zCtx with num := 9, kind := .bryndle 1, who := .tenant 3, set := { zTrnSet with fresh := 1000, cnpGap := 50, rtoMax := 100 } }

def upS (c : Ctx) : State := { upC with trn := { upC.trn with ctxs := [c] }, obj := { upC.obj with tenants := [wTenant 3 51] } }

def wInit : InitMsg := { src := zPeerAddr, udp := 7460, version := 1, service := 1, sizes := 1, suite := 1, ictx := 4, rsv := 0, nonce := 5, dh := 6, kem := 7, mac := 0 }

def wAuth : AuthMsg := { handle := 2, kind := 1, key := 51, grant := none, sig := 0, sigOk := true, grantSig := 0, grantOk := true, timestamp := 0, depth := 8 }

def wSa : Ctx := { wSess with num := 4, kind := .bryndle 5, spiIn := 70, spiOut := 71 }

def wQp : Ctx := { wSess with num := 9, kind := .qp 4 false, psn := 5 }

def upQp (c : Ctx) : State := { upS c with trn := { upC.trn with ctxs := [wSa, c] } }

def wRoce : RocePkt := { esp := true, spi := 70, espSeq := 1, icvOk := true, qp := 9, psn := 5, opcode := 1, first := true, last := true, key := 0, addr := 0, length := 0, imm := 0, ce := false, mac := 0, data := [] }

def wCtl : CtlPkt := { ctx := 9, gen := 0, mac := 0, src := zPeerAddr, headerOk := true, tagOk := true, counter := 1 }

def wData : DataPkt := { ctx := 9, gen := 0, headerOk := true, rsv := 0, tagOk := true, id := 5, seq := 1, opcode := 1, index := 0, count := 1, length := 2, key := 0, addr := 0, imm := 0, phase := false, ackNow := false, ce := false, mac := 0, src := zPeerAddr, data := [1, 2] }

/-! ## Terms that WellFormed refuses, one for each of its checks -/

theorem test_refuses_mac : wellFormed (.linkUp 32) = false ∧ wellFormed (.linkUp 31) = true := by decide
theorem test_refuses_priority : wellFormed (.pauseExpiry 31 9) = false ∧ wellFormed (.pauseExpiry 31 8) = true := by decide
theorem test_refuses_class : wellFormed (.xoffRefresh 0 256) = false ∧ wellFormed (.xoffRefresh 0 7) = true := by decide
theorem test_refuses_mailbox : wellFormed (.mailboxIdleTimeout 64) = false ∧ wellFormed (.mailboxIdleTimeout 63) = true := by decide
theorem test_refuses_call : wellFormed (.identityGet { wCall with mbx := 64 }) = false ∧ wellFormed (.identityGet wCall) = true := by decide
theorem test_refuses_shard : wellFormed (.logCheckpoint 64) = false ∧ wellFormed (.logCheckpoint 0xFFF1) = true := by decide
theorem test_refuses_partition : wellFormed (.deltaFlushAge 63 65536) = false ∧ wellFormed (.deltaFlushAge 63 65535) = true := by decide
theorem test_refuses_channel : wellFormed (.moverBurstComplete 64) = false ∧ wellFormed (.moverBurstComplete 63) = true := by decide
theorem test_refuses_cell : wellFormed (.coilCountVisit 393216) = false ∧ wellFormed (.coilCountVisit 393215) = true := by decide
theorem test_refuses_cage : wellFormed (.opticInsert 4 0 5) = false := by decide
theorem test_refuses_domain : wellFormed (.domainWake 8) = false ∧ wellFormed (.domainWake 7) = true := by decide
theorem test_refuses_tag : wellFormed (.driveTimeout 0 16384) = false ∧ wellFormed (.driveTimeout 0 16383) = true := by decide
theorem test_refuses_phase : wellFormed (.startupBudgetExpiry 12) = false ∧ wellFormed (.startupBudgetExpiry 11) = true := by decide
theorem test_refuses_context : wellFormed (.ackDelayTimer 1048576) = false ∧ wellFormed (.ackDelayTimer 1048575) = true := by decide
theorem test_refuses_command_id :
    wellFormed (.keepAlive { ctx := 0, cid := 65536, nsid := 0, opcode := 0, fuse := 0, sgl := none }) = false ∧ wellFormed (.keepAlive { ctx := 0, cid := 65535, nsid := 0, opcode := 0, fuse := 0, sgl := none }) = true := by
  decide

/-! ## Single commands and computations, their results taken from the manual -/

/-- A link event of a MAC the module does not have changes nothing. -/
theorem test_no_such_mac : exec (.linkUp 32) up = .next up := by rfl

/-- The antilogarithms of 07 R188 wrap at 0x80 by the polynomial 0x11D. -/
theorem test_field_double : gfMul 0x80 2 = 0x1D ∧ gfMul 2 0x80 = 0x1D ∧ gfMul 0x8E 2 = 1 := by decide

/-- The check value of the IEEE 802.3 CRC-32, that of the ASCII digits 1 to 9. -/
theorem test_crc32 : crc32 (ascii "123456789") = 0xCBF43926 := by decide

/-- Custody Time goes to the vault as it stands (03 R73). -/
theorem test_custody_persist : (after .custodyPersist up).time.vault = 10 ^ 18 * 65536 := by decide

/-- A loss of the reference sets TS_STATUS bit 3 (03 R69). -/
theorem test_reference_loss :
    (statusWord (after .ref10mLoss { up with time := { up.time with refQual := true } }) stTS).testBit 3 = true := by decide

/-- The bits of the table spell no command. -/
theorem test_no_words : decodeTableWord 16 0 = none := by rfl

/-- After reset nothing waits, and the first step lets time pass. -/
theorem test_reset_idles : (step State.reset matches .next _) = true := by rfl

/-! ## States and operands that meet the hypotheses of the statements -/

theorem wit_StepRunsTheFront :
  let c : Instr := .linkUp 0;
  let rest : List Instr := [.linkDown 0];
  let s : State := { up with pending := [.linkUp 0, .linkDown 0] };
  (s.pending = c :: rest) := by decide

theorem wit_EmptyQueueLetsTimePass :
  let s : State := up;
  (s.pending = []) := by decide

theorem wit_CommandsLeaveTheQueue :
  let s : State := { up with pending := [.linkDown 0] };
  let i : Instr := .linkUp 32;
  let t : State := { up with pending := [.linkDown 0] };
  (exec i s = .next t) :=
  rfl

theorem wit_CommandsStayInTheirFootprint :
  let s : State := { up with pending := [.linkDown 0] };
  let i : Instr := .custodyPersist;
  let t : State := { up with pending := [.linkDown 0], time := { up.time with vault := up.time.custody } };
  (exec i s = .next t) :=
  rfl

theorem wit_SoundKeptByEveryStep :
  let s : State := { State.reset with pending := [.linkUp 32] };
  let t : State := State.reset;
  (Sound s) ∧ (step s = .next t) :=
  ⟨⟨by decide, by decide⟩, rfl⟩

theorem wit_FusesNeverClear :
  let s : State := { up with pending := [.linkUp 32, .custodyPersist] };
  let t : State := { up with pending := [.custodyPersist] };
  (step s = .next t) :=
  rfl

theorem wit_PtpEventsComplete_1 :
  let s : State := up;
  let a : AnnounceData := wAnnounce;
  (s.time.follower = false) ∧ (a.mac = pTsPtpPort0 s) ∧ (ptpMac s = a.mac) ∧ (a.domain = pTsPtpCfg0 s) ∧ (syncOk a.logSync = true) ∧
    (ptpByCfg s a.transport = true) ∧ (s.time.foreign = []) ∧ (s.time.distrusted ≠ some a.gm) := by decide

theorem wit_PtpEventsComplete_2 :
  let transport : Nat := 0;
  let s : State := { up with time := { up.time with gm := some wAnnounce, mode := .locked } };
  let mac : Nat := 0;
  let gm : Word64 := 7;
  let offset : Int := 1000000000;
  let logSync : Int := -7;
  (s.time.follower = false) ∧ (mac = ptpMac s) ∧ (ptpByCfg s transport = true) ∧ (s.time.gm.map (fun g => g.gm) = some gm) ∧
    (syncOk logSync = true) ∧ (s.boot.open_ = true) ∧ (offset.natAbs ≤ pTsPtpReject s * 1000000) := by decide

theorem wit_PtpEventsComplete_3 :
  let transport : Nat := 0;
  let s : State := { up with time := { up.time with gm := some wAnnounce, mode := .locked } };
  let mac : Nat := 0;
  let gm : Word64 := 7;
  let offset : Int := -1000000001;
  let logSync : Int := 1;
  (s.time.follower = false) ∧ (mac = ptpMac s) ∧ (ptpByCfg s transport = true) ∧ (s.time.gm.map (fun g => g.gm) = some gm) ∧
    (syncOk logSync = true) ∧ (s.boot.open_ = true) ∧ (pTsPtpReject s * 1000000 < offset.natAbs) := by decide

theorem wit_PtpEventsComplete_4 :
  let s : State := { up with time := { up.time with gm := some wAnnounce } };
  (s.time.follower = false) ∧ (s.time.gm.isSome = true) := by decide

theorem wit_PtpEventsComplete_5 :
  let m : Mac := { zMac with num := 0 };
  let i : SchItem := { flow := .shelf, cost := 86, cls := 0, data := { zMsg with kind := .frame, tag := 1 } };
  let s : State := up;
  (isDelayReq i = true) := by decide

theorem wit_PtpEventsComplete_6 :
  let transport : Nat := 0;
  let delay : Int := -3;
  let s : State := { up with time := { up.time with gm := some wAnnounce, delayReq := some 5 } };
  let mac : Nat := 0;
  let gm : Word64 := 7;
  (s.time.delayReq.isSome = true) ∧ (mac = ptpMac s) ∧ (ptpByCfg s transport = true) ∧ (s.time.gm.map (fun g => g.gm) = some gm) := by decide

theorem wit_PtpEventsComplete_7 :
  let g : AnnounceData := wAnnounce;
  let f : Foreign := { data := wAnnounce, heard := 0 };
  let s : State := { up with time := { up.time with gm := some wAnnounce, mode := .locked, foreign := [{ data := wAnnounce, heard := 0 }] } };
  (s.time.follower = false) ∧ (s.time.gm = some g) ∧ (s.time.foreign = [f]) ∧ (f.data = g) ∧ (notHeard s f = true) ∧
    (s.time.mode = .locked) := by decide

theorem wit_PtpEventsComplete_8 :
  let since : Nat := mono up - 60 * secU;
  let s : State := { up with time := { up.time with gm := some wAnnounce, mode := .holdover, goodSince := some (mono up - 60 * secU) } };
  (s.time.goodSince = some since) ∧ (s.time.gm.isSome = true) ∧ ((s.time.mode = .acquiring ∨ s.time.mode = .holdover)) ∧
    (since + 60 * secU ≤ mono s) := by decide

theorem wit_PtpEventsComplete_9 :
  let since : Nat := 0;
  let s : State := { up with time := { up.time with mode := .holdover, holdSince := some 0 } };
  (s.time.holdSince = some since) ∧ (s.time.mode = .holdover) ∧ (confirmed s since (14400 * secU) = true) := by decide

theorem wit_ReferenceEventsComplete_1 :
  let rising : Bool := true;
  let offset : Int := 1000;
  let s : State := { upRefs with time := { upRefs.time with ppsQual := true } };
  (pTsRefCtrl0 s ≠ 0) ∧ (rising = (pTsRefCtrl1 s == 0)) ∧ (s.time.ppsQual = true) ∧ ((offset - ppsDelay s).natAbs ≤ 1000) ∧
    (s.boot.open_ = true) ∧ (s.time.follower = false) := by decide

theorem wit_ReferenceEventsComplete_2 :
  let rising : Bool := true;
  let offset : Int := 1001;
  let s : State := { upRefs with time := { upRefs.time with ppsQual := true, ppsRun := 9 } };
  (pTsRefCtrl0 s ≠ 0) ∧ (rising = (pTsRefCtrl1 s == 0)) ∧ (s.time.ppsQual = true) ∧ (1000 < (offset - ppsDelay s).natAbs) ∧
    (9 ≤ s.time.ppsRun) := by decide

theorem wit_ReferenceEventsComplete_3 :
  let ppb : Int := -2000;
  let s : State := upRefs;
  (pTsRefCtrl2 s ≠ 0) ∧ (ppb.natAbs ≤ 2000) := by decide

theorem wit_ReferenceEventsComplete_4 :
  let s : State := { up with time := { up.time with refQual := true } };
  (s.time.refQual = true) := by decide

theorem wit_ReferenceEventsComplete_5 :
  let s : State := { up with time := { up.time with anchor := .anchored } };
  (s.time.anchor = .anchored) ∧ (s.time.lastBeacon + s.layers.anchorAge * secU < s.time.custody) := by decide

theorem wit_MailboxRingsComplete_1 :
  let s : State := upC;
  let mbx : Nat := 0;
  let tag : Nat := 63;
  let endpoint : Bool := false;
  let opcode : Word16 := 0x0101;
  let entries : Nat := 256;
  let length : Nat := 61440;
  let tail : Nat := 0;
  (mbx < 64) ∧ (endpoint = onEndpoint s mbx) ∧ (s.pst.mode = .run) ∧ (s.pst.entering = none) ∧ (mbxServed s = true) ∧
    (wholeMessage entries length true = true) ∧ ((endpoint = true → tail ≤ (ringAt s mbx).reqHead + 256)) ∧
    ((endpoint = false → ringUsed (ringAt s mbx) + entries ≤ 256)) ∧ (catalogue.contains opcode.toNat = true) ∧ (tag < 64) ∧
    (tagHeld s mbx tag = false) := by decide

theorem wit_MailboxRingsComplete_2 :
  let s : State := { upC with mbx := { upC.mbx with conns := [{ wConn with tags := [63] }] } };
  let mbx : Nat := 0;
  let tag : Nat := 63;
  let endpoint : Bool := false;
  let opcode : Word16 := 0x0101;
  let entries : Nat := 1;
  let length : Nat := 8;
  let tail : Nat := 0;
  (mbx < 64) ∧ (endpoint = onEndpoint s mbx) ∧ (s.pst.mode = .run) ∧ (s.pst.entering = none) ∧ (mbxServed s = true) ∧
    (wholeMessage entries length true = true) ∧ ((endpoint = true → tail ≤ (ringAt s mbx).reqHead + 256)) ∧
    ((endpoint = false → ringUsed (ringAt s mbx) + entries ≤ 256)) ∧ ((64 ≤ tag ∨ tagHeld s mbx tag = true)) ∧
    ((pathAt s mbx).all (fun p => p == .mctp || p == .endpoint) = true) := by decide

theorem wit_MailboxRingsComplete_3 :
  let mbx : Nat := 0;
  let head : Nat := 256;
  let s : State := { upEnd with mbx := { upEnd.mbx with rings := [{ mbx := 0, reqTail := 0, reqHead := 0, rspTail := 256, rspHead := 0, owed := 3, ready := [] }] } };
  (mbx < 64) ∧ (onEndpoint s mbx = true) ∧ ((ringAt s mbx).rspHead ≤ head) ∧ (head ≤ (ringAt s mbx).rspTail) := by decide

theorem wit_MailboxRingsComplete_4 :
  let mbx : Nat := 0;
  let x : Conn := wConn;
  let s : State := upC;
  (connAt s mbx = some x) ∧ ((x.path = .mctp ∨ x.path = .endpoint)) ∧ (confirmed s x.lastReq (600 * secU) = true) := by decide

theorem wit_MailboxRingsComplete_5 :
  let s : State := up;
  let mbx : Nat := 15;
  let tag : Nat := 0;
  let path : MbxPath := .mctp;
  (mbxServed s = true) ∧ (barePath s mbx = some path) ∧ (s.block.shelfSan = none) ∧ (connAt s mbx = none) := by decide

theorem wit_MailboxRingsComplete_6 :
  let s : State := { upC with mbx := { upC.mbx with nonces := [(1, 9)] } };
  let mbx : Nat := 1;
  let tag : Nat := 63;
  let kind : Byte := 4;
  let key : Digest := 11;
  let nonce : Digest := 9;
  let grant : Option GrantRec := none;
  let who : Principal := .custodian 11;
  let path : MbxPath := .mctp;
  (mbxServed s = true) ∧ (barePath s mbx = some path) ∧ (s.block.shelfSan = none) ∧ ((kind = 4 ∨ kind = 5 ∨ kind = 6)) ∧
    (connAt s mbx = none) ∧ (s.mbx.nonces.lookup mbx = some nonce) ∧ (openWho s kind.toNat key grant = some who) ∧
    ((s.mbx.conns.filter (fun c => samePeer c.who who)).length < 2) := by decide

theorem wit_MbxCloseCompletes :
  let s : State := upC;
  let c : Call := wCall;
  let x : Conn := wConn;
  (Checked s c 0x0003 anyone x) ∧ ((x.path = .mctp ∨ x.path = .endpoint)) := by decide

theorem wit_IdentityGetReturnsItsRecord :
  let s : State := upC;
  let c : Call := wCall;
  let x : Conn := wConn;
  (Checked s c 0x0101 anyone x) := by decide

theorem wit_NotVisibleLeavesAtItsInstant :
  let s : State := { up with layers := { up.layers with base := [(0x04000008, 1)] } };
  let x : Src := relaySrc wConn 0 1;
  let h : UopHdr := wRelCap.hdr;
  let body : Flds := [];
  (0 < uopDelay s h.opcode.toNat) := by decide

theorem wit_QuorumBegunSignedClosed_1 :
  let s : State := upC;
  let c : Call := wCall;
  let x : Conn := wConn;
  let act : QAct := .timeAuth 31;
  (Checked s c 0x0201 isCustodian x) ∧ (beginRefusal (afterChecks s c x) x act = none) ∧ (s.pst.drivesDown = false) := by decide

theorem wit_QuorumBegunSignedClosed_2 :
  let s : State := { upC with auth := { upC.auth with ceremonies := [{ wM (.timeAuth 31) with signers := [] }] } };
  let c : Call := wCall;
  let x : Conn := wConn;
  let q : QSign := { statement := 77, key := 12, sigOk := true };
  let m : Ceremony := { wM (.timeAuth 31) with signers := [] };
  (Checked s c 0x0202 isCustodian x) ∧ (ceremonyAt s q.statement = some m) ∧ (ceremonyPast s m = false) ∧ (m.remote = false) ∧
    (maySign s m q.key = true) ∧ (q.sigOk = true) ∧ (m.signers.contains q.key = false) ∧
    (quorumReached s { m with signers := m.signers ++ [q.key] } = false) := by decide

theorem wit_QuorumBegunSignedClosed_3 :
  let s : State := upQ (.timeAuth 31);
  let c : Call := wCall;
  let x : Conn := wConn;
  (Checked s c 0x0203 isCustodian x) := by decide

theorem wit_QuorumBegunSignedClosed_4 :
  let s : State := { upC with auth := { upC.auth with ceremonies := [{ wM (.timeAuth 31) with expiry := 10 ^ 17 * 65536 }] } };
  let statement : Digest := 77;
  let m : Ceremony := { wM (.timeAuth 31) with expiry := 10 ^ 17 * 65536 };
  (ceremonyAt s statement = some m) ∧ (ceremonyEnds s m = true) ∧ (m.remote = false) := by decide

theorem wit_AuthorityQuorumActsComplete_1 :
  let s : State := upQ (.setChange 2 3 [11, 14, 15] none);
  let c : Call := wCall;
  let x : Conn := wConn;
  let id : Digest := 77;
  let m : Ceremony := wM (.setChange 2 3 [11, 14, 15] none);
  let k : Byte := 2;
  let n : Byte := 3;
  let keys : List Digest := [11, 14, 15];
  let escrow : Option Digest := none;
  (Checked s c 0x0204 isCustodian x) ∧ (QuorumMet s (.setChange k n keys escrow) id m) ∧
    (setRefusal s k.toNat n.toNat keys escrow = none) ∧ (s.pst.drivesDown = false) := by decide

theorem wit_AuthorityQuorumActsComplete_2 :
  let s : State := upQ (.timeAuth 31);
  let c : Call := wCall;
  let x : Conn := wConn;
  let id : Digest := 77;
  let m : Ceremony := wM (.timeAuth 31);
  let key : Digest := 31;
  (Checked s c 0x0205 isCustodian x) ∧ (QuorumMet s (.timeAuth key) id m) ∧ (roleFree s key .timeAuthority = true) ∧
    (s.pst.drivesDown = false) := by decide

theorem wit_AuthorityQuorumActsComplete_3 :
  let s : State := { upQ (.escrowImport 41 5 true) with auth := { (upQ (.escrowImport 41 5 true)).auth with escrowKey := some 41 } };
  let c : Call := wCall;
  let x : Conn := wConn;
  let id : Digest := 77;
  let m : Ceremony := wM (.escrowImport 41 5 true);
  let escrow : Digest := 41;
  let wrapKey : BitVec 256 := 5;
  (Checked s c 0x0206 isCustodian x) ∧ (QuorumMet s (.escrowImport escrow wrapKey true) id m) ∧ (s.auth.escrowKey = some escrow) ∧
    (s.pst.drivesDown = false) := by decide

theorem wit_AuthorityQuorumActsComplete_4 :
  let s : State := { upQ (.tenantErase 3 51) with obj := { upC.obj with tenants := [wTenant 3 51] } };
  let c : Call := wCall;
  let x : Conn := wConn;
  let id : Digest := 77;
  let m : Ceremony := wM (.tenantErase 3 51);
  let tenant : Word16 := 3;
  let key : Digest := 51;
  (Checked s c 0x0303 isCustodian x) ∧ (QuorumMet s (.tenantErase tenant key) id m) ∧
    ((tenantAt s tenant.toNat).map (fun y => y.key) = some key) ∧ (s.obj.erasures.any (fun e => e.tenant == tenant.toNat) = false) ∧
    (s.pst.drivesDown = false) := by decide

theorem wit_AuthorityQuorumActsComplete_5 :
  let s : State := { upQ .sanitiseStart with obj := { upC.obj with tenants := [wTenant 3 51] } };
  let c : Call := wCall;
  let x : Conn := wConn;
  let id : Digest := 77;
  let m : Ceremony := wM .sanitiseStart;
  (Checked s c 0x0803 isCustodian x) ∧ (QuorumMet s .sanitiseStart id m) ∧ (eraseRefusal s (fun _ => true) = none) ∧
    (s.pst.drivesDown = false) ∧ (s.reg.regions = []) ∧ (s.trn.ctxs.all (fun k => !k.closing) = true) := by decide

theorem wit_AuthorityQuorumActsComplete_6 :
  let s : State := { up with trn := { up.trn with ctxs := [{ zCtx with num := 9, closing := true }] } };
  (drainsOf (fun _ => true) (closeAll eSession (fun _ => true) (sanPhase 2 s)) ≠ []) := by decide

theorem wit_TenantsAndGrantsComplete_1 :
  let s : State := upC;
  let c : Call := wCall;
  let x : Conn := wConn;
  let key : Digest := 51;
  let q : QuotaRec := wQuota;
  let n : Nat := 0;
  (Checked s c 0x0301 isCustodian x) ∧ (quotaForm s q = none) ∧ (s.auth.keys.any (fun y => y.1 == key) = false) ∧
    (classIn s 8 = false) ∧ (freeTenant s = some n) ∧
    (quotasFit s s.layers.service s.layers.reservePct (q.byteQuota.toNat :: otherQuotas s n) = true) ∧
    (((shareOf s n).map (fun y => y.log2)).getD 0 = q.hintShare.toNat) ∧ (s.pst.drivesDown = false) := by decide

theorem wit_TenantsAndGrantsComplete_2 :
  let s : State := { upC with obj := { upC.obj with tenants := [wTenant 4095 51] } };
  let c : Call := wCall;
  let x : Conn := wConn;
  let tenant : Word16 := 4095;
  let quota : QuotaRec := { wQuota with openAllow := 65536 };
  (Checked s c 0x0302 isCustodian x) ∧ (quotaForm s quota = none) ∧ ((tenantAt s tenant.toNat).isSome = true) ∧
    (quotasFit s s.layers.service s.layers.reservePct (quota.byteQuota.toNat :: otherQuotas s tenant.toNat) = true) ∧
    (((shareOf s tenant.toNat).map (fun y => y.log2)).getD 0 = quota.hintShare.toNat) ∧ (s.pst.drivesDown = false) := by decide

theorem wit_TenantsAndGrantsComplete_3 :
  let s : State := upC;
  let c : Call := wCall;
  let x : Conn := wConn;
  let g : GrantRec := wGrantO;
  (Checked s c 0x0304 issuesGrants x) ∧ (grantForm g = true) ∧ (g.issuer = x.key) ∧ (mayIssue x.who g = true) ∧
    (roleFree s g.holder (grantRole g) = true) ∧ (scopeOwn s g.tenant.toNat g.scope = true) ∧ (s.auth.grants.length < 262144) ∧
    (s.pst.drivesDown = false) := by decide

theorem wit_TenantsAndGrantsComplete_4 :
  let s : State := { upC with auth := { upC.auth with grants := [wGrantO] } };
  let c : Call := wCall;
  let x : Conn := wConn;
  let holder : Digest := 21;
  let serial : Word64 := 1;
  let g : GrantRec := wGrantO;
  (Checked s c 0x0305 issuesGrants x) ∧
    (s.auth.grants.find? (fun y => y.issuer == x.key && y.holder == holder && y.serial == serial) = some g) ∧
    (s.pst.drivesDown = false) := by decide

theorem wit_TenantsAndGrantsComplete_5 :
  let s : State := { upC with auth := { upC.auth with grants := [wGrantO] } };
  let c : Call := wCall;
  let x : Conn := wConn;
  let holder : Digest := 21;
  let serial : Word64 := 2;
  (Checked s c 0x0305 issuesGrants x) ∧
    (s.auth.grants.any (fun y => y.issuer == x.key && y.holder == holder && y.serial == serial) = false) := by decide

theorem wit_TimeFirmwareDebugComplete_1 :
  let s : State := upC;
  let c : Call := wCall;
  let x : Conn := wConn;
  (Checked s c 0x0401 isCustodian x) := by decide

theorem wit_TimeFirmwareDebugComplete_2 :
  let s : State := { upC with auth := { upC.auth with timeKey := some 31 }, time := { upC.time with challenge := some { mbx := 0, nonce := 3, egress := 10 ^ 18 * 65536 } } };
  let c : Call := wCall;
  let x : Conn := wConn;
  let b : Beacon := { version := 1, seconds := 2 * 10 ^ 9, nanos := 999999999, uncertainty := 0, nonce := 3, module := Config.moduleDigest, signer := 31 };
  let k : Challenge := { mbx := 0, nonce := 3, egress := 10 ^ 18 * 65536 };
  (Checked s c 0x0402 isCustodian x) ∧ (b.version = 1) ∧ (b.nanos < 1000000000) ∧ (s.auth.timeKey = some b.signer) ∧
    (s.time.challenge = some k) ∧ (k.mbx = c.mbx) ∧ (k.nonce = b.nonce) ∧ (b.module = Config.moduleDigest) ∧
    (late s k.egress (pTsBeaconWindow s * secU) = false) ∧ (s.time.custody + secU < beaconTime b) ∧ (s.pst.drivesDown = false) :=
  ⟨by first | decide | rfl | exact ⟨rfl, rfl, rfl, rfl⟩, by first | decide | rfl | exact ⟨rfl, rfl, rfl, rfl⟩, by first | decide | rfl | exact ⟨rfl, rfl, rfl, rfl⟩, by first | decide | rfl | exact ⟨rfl, rfl, rfl, rfl⟩, by first | decide | rfl | exact ⟨rfl, rfl, rfl, rfl⟩, by first | decide | rfl | exact ⟨rfl, rfl, rfl, rfl⟩, by first | decide | rfl | exact ⟨rfl, rfl, rfl, rfl⟩, by first | decide | rfl | exact ⟨rfl, rfl, rfl, rfl⟩, by first | decide | rfl | exact ⟨rfl, rfl, rfl, rfl⟩, by first | decide | rfl | exact ⟨rfl, rfl, rfl, rfl⟩, by first | decide | rfl | exact ⟨rfl, rfl, rfl, rfl⟩⟩

theorem wit_TimeFirmwareDebugComplete_3 :
  let s : State := upC;
  let c : Call := wCall;
  let x : Conn := wConn;
  let length : Word64 := 3;
  let chunk : Bytes := [1, 2];
  let image : FwImage := { digest := 1, svn := 1, vendorKey := 1, sigOk := true, release := 0, revokes := [] };
  (Checked s c 0x0501 isCustodian x) ∧ (chunk ≠ []) ∧ (chunk.length < length.toNat) := by decide

theorem wit_TimeFirmwareDebugComplete_4 :
  let s : State := { upC with auth := { upC.auth with runningSvn := 127, fusedSvn := 3 } };
  let c : Call := wCall;
  let x : Conn := wConn;
  let svn : Byte := 127;
  (Checked s c 0x0502 isCustodian x) ∧ (svn.toNat ≤ s.auth.runningSvn) ∧ (s.pst.drivesDown = false) := by decide

theorem wit_TimeFirmwareDebugComplete_5 :
  let s : State := upO;
  let c : Call := wCallO;
  let x : Conn := wOper;
  (Checked s c 0x0503 isOperator x) := by decide

theorem wit_TimeFirmwareDebugComplete_6 :
  let s : State := { upO with auth := { upO.auth with debugNonce := some (9, 10 ^ 18 * 65536) } };
  let c : Call := wCallO;
  let x : Conn := wOper;
  let tok : DebugToken := { statement := 1, nonce := 9, expiry := { frac := 0, ns := 0, sec := 10 ^ 9 }, signers := [11, 12], sigsOk := true };
  (Checked s c 0x0504 isOperator x) ∧ (tok.expiry.ns.toNat < 1000000000) ∧ (tokenOk s tok = true) ∧ (s.pst.drivesDown = false) ∧
    (s.reg.regions = []) ∧ (s.trn.ctxs.all (fun k => !k.closing) = true) := by decide

theorem wit_TimeFirmwareDebugComplete_7 :
  let s : State := { upO with auth := { upO.auth with debugNonce := some (9, 10 ^ 18 * 65536) }, trn := { upO.trn with ctxs := [{ zCtx with num := 9, closing := true }] } };
  let c : Call := wCallO;
  let x : Conn := wOper;
  let tok : DebugToken := { statement := 1, nonce := 9, expiry := { frac := 0, ns := 0, sec := 10 ^ 9 }, signers := [11, 12], sigsOk := true };
  (Checked s c 0x0504 isOperator x) ∧ (tok.expiry.ns.toNat < 1000000000) ∧ (tokenOk s tok = true) ∧ (s.pst.drivesDown = false) ∧
    (drainsOf (fun _ => true) (unlockClose tok (afterChecks s c x)) ≠ []) := by decide

theorem wit_TimeFirmwareDebugComplete_8 :
  let s : State := upC;
  let c : Call := wCall;
  let x : Conn := wConn;
  (Checked s c 0x0804 isCustOper x) ∧ (s.block.shelfSan = none) := by decide

theorem wit_ParameterWritesComplete_1 :
  let s : State := upC;
  let c : Call := wCall;
  let x : Conn := wConn;
  let e : ParamWrite := entry 0x0100002C 1 1;
  (Checked s c 0x0103 isCustOper x) ∧ (s.boot.firstUse = false) ∧
    (checkSet (.param (isOperator x.who)) (afterChecks s c x) (withSets [e] (afterChecks s c x)) (fun a => baseWord (afterChecks s c x) a
    (resetWord a)) [e] = none) ∧
    (s.pst.drivesDown = false) := by decide

theorem wit_ParameterWritesComplete_2 :
  let s : State := upC;
  let c : Call := wCall;
  let x : Conn := wConn;
  (Checked s c 0x0103 isCustOper x) ∧ (s.boot.firstUse = false) ∧
    (checkSet (.param (isOperator x.who)) (afterChecks s c x) (withSets [entry stTS 1 1] (afterChecks s c x)) (fun a => baseWord
    (afterChecks s c x) a (resetWord a)) [entry stTS 1 1] = none) ∧
    (s.pst.drivesDown = false) := by decide

theorem wit_ParameterWritesComplete_3 :
  let s : State := upC;
  let c : Call := wCall;
  let x : Conn := wConn;
  (Checked s c 0x0103 isCustOper x) ∧ (s.boot.firstUse = false) ∧
    (checkSet (.param (isOperator x.who)) (afterChecks s c x) (withSets [entry 0x1000015C 1 1] (afterChecks s c x)) (fun a => baseWord
    (afterChecks s c x) a (resetWord a)) [entry 0x1000015C 1 1] = none) ∧
    (s.pst.drivesDown = false) := by decide

theorem wit_ParameterWritesComplete_4 :
  let s : State := upC;
  let c : Call := wCall;
  let x : Conn := wConn;
  let port : Nat := 3;
  let mode : Nat := 2;
  (Checked s c 0x0103 isCustOper x) ∧ (s.boot.firstUse = false) ∧
    (checkSet (.param (isOperator x.who)) (afterChecks s c x) (withSets [entry (unitAddr 0x02000100 0x40 4 port) 3 mode] (afterChecks s c
    x)) (fun a => baseWord (afterChecks s c x) a (resetWord a)) [entry (unitAddr 0x02000100 0x40 4 port) 3 mode] = none) ∧
    (s.pst.drivesDown = false) := by decide

theorem wit_ParameterWritesComplete_5 :
  let s : State := upC;
  let c : Call := wCall;
  let x : Conn := wConn;
  let port : Nat := 3;
  (Checked s c 0x0103 isCustOper x) ∧ (s.boot.firstUse = false) ∧
    (checkSet (.param (isOperator x.who)) (afterChecks s c x) (withSets [entry (unitAddr 0x02000108 0x40 4 port) 1 1] (afterChecks s c
    x)) (fun a => baseWord (afterChecks s c x) a (resetWord a)) [entry (unitAddr 0x02000108 0x40 4 port) 1 1] = none) ∧
    (s.pst.drivesDown = false) := by decide

theorem wit_ParameterWritesComplete_6 :
  let s : State := upC;
  let c : Call := wCall;
  let x : Conn := wConn;
  let channels : Word64 := 0x8000000000000001;
  (Checked s c 0x0103 isCustOper x) ∧ (s.boot.firstUse = false) ∧
    (checkSet (.param (isOperator x.who)) (afterChecks s c x) (withSets [entry 0x05000018 0xFFFFFFFF (channels.toNat % 2 ^ 32), entry
    0x0500001C 0xFFFFFFFF (channels.toNat / 2 ^ 32)] (afterChecks s c x)) (fun a => baseWord (afterChecks s c x) a (resetWord a)) [entry
    0x05000018 0xFFFFFFFF (channels.toNat % 2 ^ 32), entry 0x0500001C 0xFFFFFFFF (channels.toNat / 2 ^ 32)] = none) ∧
    (s.pst.drivesDown = false) := by decide

theorem wit_ParameterWritesComplete_7 :
  let s : State := upC;
  let c : Call := wCall;
  let x : Conn := wConn;
  let slot : Nat := 23;
  (Checked s c 0x0103 isCustOper x) ∧ (s.boot.firstUse = false) ∧
    (checkSet (.param (isOperator x.who)) (afterChecks s c x) (withSets [entry (unitAddr 0x06000104 0x20 24 slot) 1 1] (afterChecks s c
    x)) (fun a => baseWord (afterChecks s c x) a (resetWord a)) [entry (unitAddr 0x06000104 0x20 24 slot) 1 1] = none) ∧
    (s.pst.drivesDown = false) := by decide

theorem wit_ParameterWritesComplete_8 :
  let s : State := upC;
  let c : Call := wCall;
  let x : Conn := wConn;
  let enable : Bool := true;
  (Checked s c 0x0103 isCustOper x) ∧ (s.boot.firstUse = false) ∧
    (checkSet (.param (isOperator x.who)) (afterChecks s c x) (withSets [entry 0x07000004 1 enable.toNat] (afterChecks s c x)) (fun a =>
    baseWord (afterChecks s c x) a (resetWord a)) [entry 0x07000004 1 enable.toNat] = none) ∧
    (s.pst.drivesDown = false) := by decide

theorem wit_ParameterWritesComplete_9 :
  let s : State := upC;
  let c : Call := wCall;
  let x : Conn := wConn;
  let map : Word64 := 0xFF00;
  (Checked s c 0x0103 isCustOper x) ∧ (s.boot.firstUse = false) ∧
    (checkSet (.param (isOperator x.who)) (afterChecks s c x) (withSets [entry 0x07000008 0xFFFFFFFF (map.toNat % 2 ^ 32), entry
    0x0700000C 0xFFFFFFFF (map.toNat / 2 ^ 32)] (afterChecks s c x)) (fun a => baseWord (afterChecks s c x) a (resetWord a)) [entry
    0x07000008 0xFFFFFFFF (map.toNat % 2 ^ 32), entry 0x0700000C 0xFFFFFFFF (map.toNat / 2 ^ 32)] = none) ∧
    (s.pst.drivesDown = false) := by decide

theorem wit_ParameterWritesComplete_10 :
  let s : State := { upC with pair := { upC.pair with mode := .paired } };
  let c : Call := wCall;
  let x : Conn := wConn;
  let low : Word32 := 5;
  let high : Word32 := 6;
  (Checked s c 0x0103 isCustOper x) ∧ (s.boot.firstUse = false) ∧
    (checkSet (.param (isOperator x.who)) (afterChecks s c x) (withSets [entry 0x08000010 0xFFFFFFFF low.toNat, entry 0x08000014
    0xFFFFFFFF high.toNat] (afterChecks s c x)) (fun a => baseWord (afterChecks s c x) a (resetWord a)) [entry 0x08000010 0xFFFFFFFF
    low.toNat, entry 0x08000014 0xFFFFFFFF high.toNat] = none) ∧
    (s.pst.drivesDown = false) := by decide

theorem wit_ParameterWritesComplete_11 :
  let s : State := { upC with pair := { upC.pair with mode := .paired } };
  let c : Call := wCall;
  let x : Conn := wConn;
  (Checked s c 0x0103 isCustOper x) ∧ (s.boot.firstUse = false) ∧
    (checkSet (.param (isOperator x.who)) (afterChecks s c x) (withSets [entry 0x08000028 2 2] (afterChecks s c x)) (fun a => baseWord
    (afterChecks s c x) a (resetWord a)) [entry 0x08000028 2 2] = none) ∧
    (s.pst.drivesDown = false) := by decide

theorem wit_ParameterWritesComplete_12 :
  let s : State := upC;
  let c : Call := wCall;
  let x : Conn := wConn;
  (Checked s c 0x0103 isCustOper x) ∧ (s.boot.firstUse = false) ∧
    (checkSet (.param (isOperator x.who)) (afterChecks s c x) (withSets [entry 0x09000010 1 1] (afterChecks s c x)) (fun a => baseWord
    (afterChecks s c x) a (resetWord a)) [entry 0x09000010 1 1] = none) ∧
    (s.pst.drivesDown = false) := by decide

theorem wit_ParameterWritesComplete_13 :
  let s : State := upC;
  let c : Call := wCall;
  let x : Conn := wConn;
  let slot : Nat := 23;
  let value : Word32 := 1;
  (Checked s c 0x0103 isCustOper x) ∧ (s.boot.firstUse = false) ∧
    (checkSet (.param (isOperator x.who)) (afterChecks s c x) (withSets [entry (unitAddr 0x0B00010C 0x20 24 slot) 1 value.toNat]
    (afterChecks s c x)) (fun a => baseWord (afterChecks s c x) a (resetWord a)) [entry (unitAddr 0x0B00010C 0x20 24 slot) 1 value.toNat]
    = none) ∧
    (s.pst.drivesDown = false) := by decide

theorem wit_ParamGetOverlaysBaseComplete_1 :
  let s : State := upC;
  let c : Call := wCall;
  let x : Conn := wConn;
  let addr : Word32 := 0x01000004;
  let count : Word16 := 3;
  (Checked s c 0x0102 isCustOper x) ∧ (1 ≤ count.toNat) ∧ (count.toNat ≤ 1024) ∧ (addrOk addr.toNat = true) ∧
    (addrOk (addr.toNat + 4 * (count.toNat - 1)) = true) ∧ (addr.toNat / 2 ^ 24 = (addr.toNat + 4 * (count.toNat - 1)) / 2 ^ 24) ∧
    (addr.toNat / 2 ^ 24 ≠ 0x0B) := by decide

theorem wit_ParamGetOverlaysBaseComplete_2 :
  let s : State := upC;
  let c : Call := wCall;
  let x : Conn := wConn;
  let via : Via := .direct;
  let r : OvlRec := { version := 1, cls := 1, flags := 0, length := 64, count := 0, shelf := 0, serial := 1, releaseOk := true, rsv := 0, lenOk := true, items := [], digest := 9 };
  (Checked s c 0x0601 (mayApply r.cls.toNat) x) ∧ (r.cls ≠ 4) ∧ (withdraws r = false) ∧ (applyRefusal (afterChecks s c x) r = none) ∧
    (s.pst.drivesDown = false) := by decide

theorem wit_ParamGetOverlaysBaseComplete_3 :
  let s : State := { upC with layers := { upC.layers with overlays := [{ cls := 5, tenant := 0xFFFF, digest := 1, items := [], since := 0 }] } };
  let c : Call := wCall;
  let x : Conn := wConn;
  let via : Via := .direct;
  let o : OvlInForce := { cls := 5, tenant := 0xFFFF, digest := 1, items := [], since := 0 };
  (Checked s c 0x0602 (mayApply 5) x) ∧ (overlayIn s 5 0 = some o) ∧ (s.pst.drivesDown = false) := by decide

theorem wit_ParamGetOverlaysBaseComplete_4 :
  let s : State := { up with layers := { up.layers with overlays := [{ cls := 6, tenant := 0xFFFF, digest := 1, items := [.expiry 7], since := 0 }] } };
  let o : OvlInForce := { cls := 6, tenant := 0xFFFF, digest := 1, items := [.expiry 7], since := 0 };
  let n : Word32 := 7;
  (overlayIn s 6 0 = some o) ∧ (o.items = [.expiry n]) ∧ (s.layers.removing = none) ∧
    (confirmedShelf s (o.since + n.toNat * secU) = true) ∧ (s.log.rmws = []) := by decide

theorem wit_ParamGetOverlaysBaseComplete_5 :
  let s : State := upQ (.baseLoad wImage);
  let c : Call := wCall;
  let x : Conn := wConn;
  let id : Digest := 77;
  let m : Ceremony := wM (.baseLoad wImage);
  let b : BaseImage := wImage;
  (Checked s c 0x0603 isCustodian x) ∧ (QuorumMet s (.baseLoad b) id m) ∧
    (imageRefusal_ (closeCeremony m.id (afterChecks s c x)) b = none) ∧ (s.boot.firstUse = false) ∧ (s.pst.drivesDown = false) := by decide

theorem wit_SchedulingCommandsComplete_1 :
  let s : State := up;
  (s.sch.refills < refillsNow s) := by decide

theorem wit_SchedulingCommandsComplete_2 :
  let slot : Fin 24 := 23;
  let s : State := up;
  (confirmed s (windowAt s slot).since (pSchShareWindow s * usU) = true) := by decide

theorem wit_SchedulingCommandsComplete_3 :
  let s : State := { up with sch := { up.sch with quiets := [{ zQuiet with item := { zQuietItem with tenant := 3, period := 1000000, countN := 1 } }] } };
  let tenant : Nat := 3;
  let q : Quiet := { zQuiet with item := { zQuietItem with tenant := 3, period := 1000000, countN := 1 } };
  (quietOf s tenant = some q) ∧ (q.period < now s / (max 1 q.item.period.toNat * nsU)) ∧ (serving s = true) := by decide

theorem wit_SchedulingCommandsComplete_4 :
  let s : State := upT;
  let c : Call := wCallT;
  let x : Conn := wConnT;
  let n : Nat := 3;
  let dflt : Byte := 255;
  let entries : List (Byte × Word16 × Byte) := [(1, 9, 1)];
  (Checked s c 0x0306 isTenant x) ∧ (x.who.tenant? = some n) ∧ (dflt ≠ 0) ∧ (entries.length ≤ 15) ∧
    (entries.all (fun e => (e.1.toNat == 1 || e.1.toNat == 2) && e.2.2 != 0 && ownsEntry s n e) = true) := by decide

theorem wit_SchedulingCommandsComplete_5 :
  let s : State := upT;
  let c : Call := wCallT;
  let x : Conn := wConnT;
  let n : Nat := 3;
  let y : Tenant := wTenant 3 51;
  (Checked s c 0x0307 isTenant x) ∧ (x.who.tenant? = some n) ∧ (tenantAt s n = some y) := by decide

theorem wit_SchedulingCommandsComplete_6 :
  let s : State := { up with block := { up.block with waiting := [zWaiting] } };
  let p : Waiting × Nat × List Flow := (admitPick { up with block := { up.block with waiting := [zWaiting] } } (fun n => (quietOf up n).isNone)).getD (zWaiting, 0, []);
  (admitPick s (fun n => (quietOf s n).isNone) = some p) := by decide

theorem wit_HeldAnswersLeave_1 :
  let s : State := { up with held := [{ zHeld with nv := true, id := 4 }] };
  let id : Nat := 4;
  let y : Held := { zHeld with nv := true, id := 4 };
  (s.held.find? (fun k => k.id == id) = some y) ∧ (y.nv = true) ∧ (y.notBefore ≤ now s) ∧ (mayComplete s y = true) := by decide

theorem wit_HeldAnswersLeave_2 :
  let s : State := { up with held := [{ zHeld with nv := true, id := 4, notBefore := 10 ^ 18 * 65536 + 1 }] };
  let id : Nat := 4;
  let y : Held := { zHeld with nv := true, id := 4, notBefore := 10 ^ 18 * 65536 + 1 };
  (s.held.find? (fun k => k.id == id) = some y) ∧ (now s < y.notBefore) := by decide

theorem wit_HeldAnswersLeave_3 :
  let s : State := { up with held := [{ zHeld with id := 4 }] };
  let id : Nat := 4;
  let y : Held := { zHeld with id := 4 };
  (s.held.find? (fun k => k.id == id) = some y) ∧ (releasable s y = true) := by decide

theorem wit_HeldAnswersLeave_4 :
  let s : State := { up with held := [{ zHeld with id := 4, notBefore := 10 ^ 18 * 65536 + 1 }] };
  let id : Nat := 4;
  let y : Held := { zHeld with id := 4, notBefore := 10 ^ 18 * 65536 + 1 };
  (s.held.find? (fun k => k.id == id) = some y) ∧ (now s < y.notBefore) := by decide

theorem wit_RegionsAndTriggersComplete_1 :
  let s : State := { up with trn := { up.trn with ctxs := [{ zCtx with num := 9, inMsgs := [{ zInMsg with refused := true, seq := 5 }] }] } };
  let ctx : Nat := 9;
  let seq : Nat := 5;
  let k : Ctx := { zCtx with num := 9, inMsgs := [{ zInMsg with refused := true, seq := 5 }] };
  (ctxAt s ctx = some k) ∧ (k.closing = false) ∧ (packetHeld s ctx = false) ∧
    (k.inMsgs.any (fun m => m.refused && m.seq == seq && confirmed s m.first (freshW k)) = true) := by decide

theorem wit_RegionsAndTriggersComplete_2 :
  let s : State := { up with trn := { up.trn with ctxs := [{ zCtx with num := 9 }] }, reg := { up.reg with regions := [{ zRegion with owner := 9, phase := .revoking }] } };
  let owner : Nat := 9;
  let r : Region := { zRegion with owner := 9, phase := .revoking };
  let k : Ctx := { zCtx with num := 9 };
  (regionAt s owner = some r) ∧ (ctxAt s owner = some k) ∧ (r.phase = .revoking) ∧ (packetHeld s owner = false) ∧
    (confirmed s r.revoked (deadW k) = true) := by decide

theorem wit_RegionsAndTriggersComplete_3 :
  let s : State := { up with trn := { up.trn with ctxs := [{ zCtx with num := 9 }] }, reg := { up.reg with regions := [{ zRegion with owner := 9, phase := .revoking, base := 4, size := 2 }], mem := [(3, 1), (4, 1), (5, 1), (6, 1)] } };
  let owner : Nat := 9;
  let r : Region := { zRegion with owner := 9, phase := .revoking, base := 4, size := 2 };
  let k : Ctx := { zCtx with num := 9 };
  (regionAt s owner = some r) ∧ (ctxAt s owner = some k) ∧ (r.phase = .revoking) ∧ (r.pushes = []) ∧ (confirmed s r.revoked 0 = true) ∧
    (s.reg.triggers.any (fun y => y.ctx == owner && y.state == .firing) = false) := by decide

theorem wit_RegionsAndTriggersComplete_4 :
  let s : State := { up with reg := { up.reg with triggers := [{ zTrigEntry with num := 2, state := .firing, work := [zWorkReq, zWorkReq] }] } };
  let n : Nat := 2;
  let status : Status := 0;
  let e : TrigEntry := { zTrigEntry with num := 2, state := .firing, work := [zWorkReq, zWorkReq] };
  let r : WorkReq := zWorkReq;
  (s.reg.triggers.find? (fun y => y.num == n && y.state == .firing) = some e) ∧ (e.work[e.at_]? = some r) ∧ (status.toNat = sOk) ∧
    (postFails s e r = false) ∧ (e.at_ + 1 < e.work.length) := by decide

theorem wit_RegionsAndTriggersComplete_5 :
  let e : ExcRec := .notification 9 1 0 4 5;
  let s : State := { up with reg := { up.reg with ring := [.notification 9 1 0 4 5] } };
  let action : Nat := 0;
  (s.reg.ring.find? (servable s) = some e) := by decide

theorem wit_IndexEventsComplete_1 :
  let s : State := { up with idx := { up.idx with walks := [{ zWalk with id := 6 }] } };
  let id : Nat := 6;
  let y : Walk := { zWalk with id := 6 };
  (s.idx.walks.find? (fun k => k.id == id) = some y) ∧
    ((partAt (recoverPart (walkShard s y) (macPart y.mac) s) (walkShard s y) (macPart y.mac)).rebuilding = false) := by decide

theorem wit_IndexEventsComplete_2 :
  let s : State := { up with idx := { up.idx with walks := [{ zWalk with id := 6, leaf := 65536 }] }, log := { up.log with segs := [{ zSegment with num := 1, d := 20 }], rows := [wLostRow], recs := [{ zLogRec with addr := 65536, units := 4, kind := .indexPage 0 0, live := true }] } };
  let id : Nat := 6;
  let y : Walk := { zWalk with id := 6, leaf := 65536 };
  (s.idx.walks.find? (fun k => k.id == id) = some y) ∧ ((partAt s (walkShard s y) (macPart y.mac)).stale = false) ∧
    ((partAt s (walkShard s y) (macPart y.mac)).rebuilding = false) ∧ (y.leaf ≠ 0) ∧
    ((partAt (leafFailed y s) (walkShard (leafFailed y s) y) (macPart y.mac)).rebuilding = true) := by decide

theorem wit_IndexEventsComplete_3 :
  let o : Obj := { zObj with coll := 9, mac := 77, handle := 6, whip := some zWhip };
  let y : Walk := { zWalk with id := 6, target := some o };
  let s : State := { up with idx := { up.idx with walks := [y] } };
  let id : Nat := 6;
  (s.idx.walks.find? (fun k => k.id == id) = some y) ∧ ((partAt s (walkShard s y) (macPart y.mac)).stale = false) ∧
    ((partAt s (walkShard s y) (macPart y.mac)).rebuilding = false) ∧ (y.target = some o) ∧ (leafKind o = 2) := by decide

theorem wit_IndexEventsComplete_4 :
  let s : State := putPart { partAt up 63 65535 with delta := [zDeltaMut] } up;
  let shard : Nat := 63;
  let part : Nat := 65535;
  let m : DeltaMut := zDeltaMut;
  let rest : List DeltaMut := [];
  ((partAt s shard part).delta = m :: rest) ∧ (confirmed s m.at_ (pIdxDeltaAge s * msU) = true) := by decide

theorem wit_IndexEventsComplete_5 :
  let s : State := { (putPart { partAt up 0 2 with flushing := some zFlushState } up) with log := { up.log with recs := [{ zLogRec with kind := .commit 0 2, live := true }] } };
  let shard : Nat := 0;
  let part : Nat := 2;
  let f : FlushState := zFlushState;
  ((partAt s shard part).flushing = some f) ∧ ((partAt s shard part).stale = false) ∧ (recOnMedia s f.commit = true) := by decide

theorem wit_IndexEventsComplete_6 :
  let s : State := putPart { partAt up 63 65535 with rebuilding := true } up;
  let shard : Nat := 63;
  let part : Nat := 65535;
  ((partAt s shard part).rebuilding = true) := by decide

theorem wit_LogCommandsComplete_1 :
  let s : State := { up with log := { up.log with heads := [{ zHead with shard := 63, d := 20, since := some 5 }] } };
  let shard : Nat := 63;
  let d : Nat := 20;
  let reloc : Bool := false;
  let y : Head := { zHead with shard := 63, d := 20, since := some 5 };
  let n : Nat := 5;
  (headOf s shard d reloc = some y) ∧ (y.since = some n) ∧ (confirmed s n (pStrCloseDelay s * usU) = true) := by decide

theorem wit_LogCommandsComplete_2 :
  let queue : Nat := 0;
  let checks : ReadChecks := .whole;
  let s : State := putPort 23 { portAt up 23 with cmds := [{ zDriveCmd with tag := 16383, gen := 3, issued := mono up, timeout := 1, purpose := .discard }] } up;
  let slot : Fin 24 := 23;
  let tag : Nat := 65535;
  let sct : Nat := 0;
  let sc : Nat := 0;
  let k : DriveCmd := { zDriveCmd with tag := 16383, gen := 3, issued := mono up, timeout := 1, purpose := .discard };
  (cmdAt (portAt s slot) queue (tag % 16384) (tag / 16384) = some k) ∧ (late s k.issued k.timeout = false) := by decide

theorem wit_LogCommandsComplete_3 :
  let queue : Nat := 0;
  let s : State := putPort 23 { portAt up 23 with cmds := [{ zDriveCmd with tag := 16383, gen := 3, issued := 0, timeout := 100, purpose := .discard }] } up;
  let slot : Fin 24 := 23;
  let tag : Nat := 65535;
  let sct : Nat := 0;
  let sc : Nat := 0;
  let checks : ReadChecks := .whole;
  let k : DriveCmd := { zDriveCmd with tag := 16383, gen := 3, issued := 0, timeout := 100, purpose := .discard };
  (cmdAt (portAt s slot) queue (tag % 16384) (tag / 16384) = some k) ∧ (late s k.issued k.timeout = true) := by decide

theorem wit_LogCommandsComplete_4 :
  let queue : Nat := 9;
  let checks : ReadChecks := .whole;
  let s : State := up;
  let slot : Fin 24 := 0;
  let tag : Nat := 0;
  let sct : Nat := 0;
  let sc : Nat := 0;
  (cmdAt (portAt s slot) queue (tag % 16384) (tag / 16384) = none) := by decide

theorem wit_LogCommandsComplete_5 :
  let s : State := { up with log := { up.log with shards := [{ zShard with num := 0xFFF0, owned := true, ready := true }] } };
  let shard : Nat := 0xFFF0;
  ((shardAt s shard).owned = true) ∧ ((shardAt s shard).ready = true) ∧ (s.pst.drivesDown = false) ∧
    (confirmed s (shardAt s shard).ckptAt (pStrCkptInterval s * secU) = true) := by decide

theorem wit_LogCommandsComplete_6 :
  let s : State := { up with log := { up.log with segs := [{ zSegment with num := 7, state := .full }], relocQ := [7] } };
  let g : Segment := { zSegment with num := 7, state := .full };
  (relocPick s = some g) := by decide

theorem wit_LogCommandsComplete_7 :
  let s : State := { up with log := { up.log with segs := [{ zSegment with num := 7, state := .full }], relocQ := [7] } };
  let g : Segment := { zSegment with num := 7, state := .full };
  (relocPick s = some g) ∧ (s.log.recs.any (fun r => addrSeg r.addr == g.num) = false) := by decide

theorem wit_LogCommandsComplete_8 :
  let s : State := { up with log := { up.log with segs := [{ zSegment with num := 7, state := .relocating }] } };
  let seg : Nat := 7;
  let g : Segment := { zSegment with num := 7, state := .relocating };
  (segAt s seg = some g) ∧ (freeable s g = true) := by decide

theorem wit_LogCommandsComplete_10 :
  let s : State := { up with log := { up.log with rmws := [{ zRmw with seg := 1, row := 127, issued := true }] } };
  let seg : Nat := 1;
  let row : Nat := 127;
  let m : Rmw := { zRmw with seg := 1, row := 127, issued := true };
  (s.log.rmws.find? (fun y => y.seg == seg && y.row == row) = some m) ∧ (m.issued = true) ∧ (m.writes = []) := by decide

theorem wit_LanyardCommandsComplete_1 :
  let s : State := { up with fix := { up.fix with batches := [{ zBatch with tenant := 3 }] } };
  let tenant : Nat := 3;
  (quietOf s tenant = none) := by decide

theorem wit_LanyardCommandsComplete_2 :
  let s : State := { up with fix := { up.fix with certified := true, current := some zLanyard, batches := [{ zBatch with tenant := 3, closed := true }] } };
  let tenant : Nat := 3;
  let p : Batch × Nat × List Flow := (signPick { up with fix := { up.fix with certified := true, current := some zLanyard, batches := [{ zBatch with tenant := 3, closed := true }] } }).getD (zBatch, 0, []);
  (signPick s = some p) ∧ (p.1.tenant = tenant) ∧ (custodyReady s = true) := by decide

theorem wit_LanyardCommandsComplete_3 :
  let s : State := up;
  (confirmed s s.fix.lastCkpt (pIdxCkptInterval s * secU) = true) := by decide

theorem wit_LanyardCommandsComplete_4 :
  let s : State := { upC with fix := { upC.fix with current := some wLanyard } };
  let c : Call := wCall;
  let x : Conn := wConn;
  let id : Digest := 8;
  let chain : Word16 := 0;
  let first : Word64 := 1;
  let count : Word32 := 1;
  let l : Lanyard := wLanyard;
  (Checked s c 0x0701 readsLanyard x) ∧ (mayReadChain x.who chain.toNat = true) ∧ (lanyardAt s id = some l) ∧ (first ≠ 0) ∧
    (first.toNat ≤ (chainEntries l chain.toNat (readEpoch s x.who l chain.toNat)).length) := by decide

theorem wit_LanyardCommandsComplete_5 :
  let s : State := { upC with fix := { upC.fix with current := some wLanyard } };
  let c : Call := wCall;
  let x : Conn := wConn;
  let id : Digest := 8;
  let chain : Word16 := 4096;
  let number : Word64 := 1;
  let k : Checkpoint := { zCheckpoint with number := 1 };
  (Checked s c 0x0702 readsLanyard x) ∧ (mayReadChain x.who chain.toNat = true) ∧ (chain.toNat ≤ 4096) ∧
    ((lanyardAt s id).bind (fun l => l.checkpoints.find? (fun y => y.number == number.toNat)) = some k) ∧
    ((x.who.tenant?.isSome && k.heads.any (fun h => h.1 == chain.toNat && h.2.1 != chainEpoch s chain.toNat)) = false) := by decide

theorem wit_LanyardCommandsComplete_6 :
  let s : State := { upC with fix := { upC.fix with current := some wLanyard } };
  let c : Call := wCall;
  let x : Conn := wConn;
  let id : Digest := 8;
  let cursor : Word64 := 0;
  let l : Lanyard := wLanyard;
  (Checked s c 0x0703 readsLanyard x) ∧ (lanyardAt s id = some l) := by decide

theorem wit_LanyardCommandsComplete_7 :
  let s : State := { upC with fix := { upC.fix with current := some wLanyard } };
  let c : Call := wCall;
  let x : Conn := wConn;
  let id : Digest := 8;
  let chain : Word16 := 0;
  let pos : Word64 := 1;
  let l : Lanyard := wLanyard;
  let r : Receipt := wReceipt;
  (Checked s c 0x0704 readsLanyard x) ∧ (mayReadChain x.who chain.toNat = true) ∧ (lanyardAt s id = some l) ∧ (pos ≠ 0) ∧
    (pos.toNat ≤ (chainEntries l chain.toNat (readEpoch s x.who l chain.toNat)).length) ∧
    (receiptAt l chain.toNat (readEpoch s x.who l chain.toNat) pos.toNat = some r) ∧ (r.signed = true) := by decide

theorem wit_LanyardCommandsComplete_8 :
  let s : State := { upT with obj := { upT.obj with objs := [{ zObj with coll := 9, mac := 4, whip := some zWhip }] } };
  let c : Call := wCallT;
  let x : Conn := wConnT;
  let coll : Word16 := 9;
  let mac : Digest := 4;
  let k : Coll := wColl;
  let o : Obj := { zObj with coll := 9, mac := 4, whip := some zWhip };
  let y : Whip := zWhip;
  (Checked s c 0x0706 isTenant x) ∧ (collAt s coll.toNat = some k) ∧ (x.who.tenant? = some k.tenant) ∧ (k.state = .active) ∧
    (keyHeld s k.tenant = true) ∧ (objAt s coll.toNat mac = some o) ∧ (o.whip = some y) ∧ (s.pst.drivesDown = false) := by decide

theorem wit_LanyardCommandsComplete_9 :
  let s : State := { upQ (.custodyCertify wCert) with fix := { up.fix with epoch := 1 } };
  let c : Call := wCall;
  let x : Conn := wConn;
  let id : Digest := 77;
  let m : Ceremony := wM (.custodyCertify wCert);
  let cert : CertBody := wCert;
  (Checked s c 0x0207 isCustodian x) ∧ (QuorumMet s (.custodyCertify cert) id m) ∧ (cert.version = 1) ∧ (s.fix.epoch ≠ 0) ∧
    (cert.epoch.toNat = s.fix.epoch) ∧ (cert.module = Config.moduleDigest) ∧ (cert.previous = previousKey s) ∧
    (cert.key = custodyKeyNow s) ∧ (s.fix.certified = false) ∧ (s.pst.drivesDown = false) :=
  ⟨by first | decide | rfl | exact ⟨rfl, rfl, rfl, rfl⟩, by first | decide | rfl | exact ⟨rfl, rfl, rfl, rfl⟩, by first | decide | rfl | exact ⟨rfl, rfl, rfl, rfl⟩, by first | decide | rfl | exact ⟨rfl, rfl, rfl, rfl⟩, by first | decide | rfl | exact ⟨rfl, rfl, rfl, rfl⟩, by first | decide | rfl | exact ⟨rfl, rfl, rfl, rfl⟩, by first | decide | rfl | exact ⟨rfl, rfl, rfl, rfl⟩, by first | decide | rfl | exact ⟨rfl, rfl, rfl, rfl⟩, by first | decide | rfl | exact ⟨rfl, rfl, rfl, rfl⟩, by first | decide | rfl | exact ⟨rfl, rfl, rfl, rfl⟩⟩

theorem wit_MembersComplete_1 :
  let s : State := putMember 23 { memberAt up 23 with state := .suspect, strikes := [(.media, 0)] } up;
  let slot : Fin 24 := 23;
  ((memberAt s slot).state = .suspect) ∧ (strikesNow s slot = []) := by decide

theorem wit_MembersComplete_2 :
  let s : State := putMember 23 { memberAt up 23 with state := .healthy } up;
  let slot : Fin 24 := 23;
  let bits : Byte := 4;
  let cfs : Bool := false;
  ((cfs || bits.getLsbD 2 || bits.getLsbD 3) = true) ∧ (inUseState (memberAt s slot).state = true) := by decide

theorem wit_MembersComplete_3 :
  let s : State := putMember 23 { memberAt upC 23 with state := .healthy } upC;
  let c : Call := wCall;
  let x : Conn := wConn;
  let slot : Byte := 23;
  let flags : Byte := 0;
  let k : Fin 24 := 23;
  (Checked s c 0x0801 isCustOper x) ∧ (slot.toNat = k) ∧ (flags = 0) ∧ (inUseState (memberAt s k).state = true) ∧
    (wouldExpose k s = false) ∧ (s.pst.drivesDown = false) := by decide

theorem wit_MembersComplete_4 :
  let s : State := { (putPort 23 { portAt up 23 with cmds := [wHedged] } (putMember 23 { memberAt up 23 with state := .suspect } up)) with log := { up.log with rows := [{ zRow with seg := 1, row := 0 }] } };
  let slot : Fin 24 := 23;
  let tag : Nat := 5;
  let id : Nat := 1;
  let seg : Nat := 1;
  let row : Nat := 0;
  let role : Nat := 0;
  let k : DriveCmd := wHedged;
  let y : Row := { zRow with seg := 1, row := 0 };
  ((portAt s slot).cmds.find? (fun d => d.tag == tag && !d.queued && !d.hedged) = some k) ∧ ((memberAt s slot).state = .suspect) ∧
    (confirmed s k.issued (pStrHedge s * usU) = true) ∧ (k.purpose = .hostRead id seg row role) ∧ (rowAt s seg row = some y) ∧
    (y.d ≤ (survivors s y role).length) := by decide

theorem wit_MembersComplete_5 :
  let s : State := { up with log := { up.log with segs := [{ zSegment with num := 1, d := 20, state := .full }], shards := [{ zShard with num := 0, owned := true, ready := true }], rows := [wLostRow] } };
  let seg : Nat := 1;
  let y : Row := wLostRow;
  (rebuildPick s = some seg) ∧ (s.pwr.keepSafe = false) ∧
    (lowestRow (s.log.rows.filter (fun r => r.seg == seg && rebuildWaits { s with mem := { s.mem with rebuildSeg := some seg } } r)) =
    some y) ∧
    (unreadable { s with mem := { s.mem with rebuildSeg := some seg } } y = true) := by decide

theorem wit_MembersComplete_6 :
  let blockErase : Bool := true;
  let nguid : BitVec 128 := 5;
  let serial : BitVec 160 := 6;
  let s : State := putFeed (.slot 23) { feedAt up (.slot 23) with enabled := true } up;
  let slot : Fin 24 := 23;
  let lbas : Nat := 0;
  let dualPort : Bool := true;
  let ours : Bool := false;
  let cryptoErase : Bool := false;
  ((feedAt s (.slot slot)).enabled = true) ∧ (((memberAt s slot).state = .absent ∨ (memberAt s slot).state = .failed)) ∧
    (s.log.segBase + 2048 * s.log.segCount ≤ lbas) ∧ (s.boot.firstUse = false) := by decide

theorem wit_MembersComplete_7 :
  let s : State := putFeed (.slot 0) { feedAt up (.slot 0) with enabled := true } up;
  let slot : Fin 24 := 0;
  let lbas : Nat := 0;
  let dualPort : Bool := false;
  let ours : Bool := true;
  let cryptoErase : Bool := true;
  let blockErase : Bool := false;
  let nguid : BitVec 128 := 0;
  let serial : BitVec 160 := 0;
  ((feedAt s (.slot slot)).enabled = true) ∧ (((memberAt s slot).state = .absent ∨ (memberAt s slot).state = .failed)) := by decide

theorem wit_MembersComplete_8 :
  let s : State := putMember 23 { memberAt up 23 with state := .restoring } up;
  let slot : Fin 24 := 23;
  ((memberAt s slot).state = .restoring) ∧ (s.pwr.keepSafe = false) ∧ (s.log.rows.filter (restoreWaits slot) = []) ∧
    (restoreBusy s slot = false) := by decide

theorem wit_MembersComplete_9 :
  let s : State := { up with mem := { up.mem with scrubbing := true }, log := { up.log with segs := [{ zSegment with num := 1, d := 20, state := .full }], shards := [{ zShard with num := 0, owned := true, ready := true }], rows := [{ zRow with seg := 1, row := 3, state := .onMedia, d := 20 }] } };
  let y : Row := { zRow with seg := 1, row := 3, state := .onMedia, d := 20 };
  (scrubMay s = true) ∧ (s.mem.scrubbing = true) ∧ (lowestRow (scrubRest s) = some y) ∧ (s.pst.drivesDown = false) := by decide

theorem wit_MembersComplete_10 :
  let s : State := { up with mem := { up.mem with scrubbing := true } };
  (s.mem.scrubbing = true) ∧ (scrubRest s = []) ∧ (scrubLeft s = false) := by decide

theorem wit_MembersComplete_11 :
  let s : State := upC;
  let c : Call := wCall;
  let x : Conn := wConn;
  let cursor : Word64 := 0;
  let count : Word32 := 1;
  (Checked s c 0x0705 readsLanyard x) ∧ (s.mem.losses = []) := by decide

theorem wit_PowerChannelsComplete_1 :
  let s : State := { up with pwr := { up.pwr with input := { up.pwr.input with state := .insert, inside := true, since := 0 } }, time := { up.time with ticks := 10 ^ 12 } };
  (s.pwr.input.state = .insert) ∧ (ticked s s.pwr.input.since (insertDelay s .input) = true) ∧ (mayStart s.pwr.input = true) := by decide

theorem wit_PowerChannelsComplete_2 :
  let s : State := upIns;
  let k : Fin 24 := 23;
  ((feedAt s (.slot k)).state = .insert) ∧ (ticked s (feedAt s (.slot k)).since (insertDelay s (.slot k)) = true) ∧
    (mayStart (feedAt s (.slot k)) = true) := by decide

theorem wit_PowerChannelsComplete_3 :
  let s : State := upIns;
  let k : Fin 24 := 0;
  ((feedAt s (.slot k)).state = .insert ∨ (feedAt s (.slot k)).state = .retry) ∧ ((feedAt s (.slot k)).waits = true) ∧
    (mayStart (feedAt s (.slot k)) = true) ∧ (turnComes s k = true) := by decide

theorem wit_PowerChannelsComplete_4 :
  let s : State := upFeed { zFeed with state := .precharge };
  let ch : ChanId := .slot 23;
  let mv : Nat := 6000;
  ((feedAt s ch).state = .precharge) ∧ (s.pwr.sensed ≤ 2 * mv) := by decide

theorem wit_PowerChannelsComplete_5 :
  let s : State := upFeed { zFeed with state := .precharge };
  let ch : ChanId := .slot 23;
  ((feedAt s ch).state = .precharge) ∧ (ticked s (feedAt s ch).since (prechargeTime s ch) = true) := by decide

theorem wit_PowerChannelsComplete_6 :
  let s : State := upFeed { zFeed with state := .ramp };
  let ch : ChanId := .slot 23;
  let mv : Nat := 11000;
  ((feedAt s ch).state = .ramp) ∧ (9 * s.pwr.sensed ≤ 10 * mv) := by decide

theorem wit_PowerChannelsComplete_7 :
  let s : State := upFeed { zFeed with state := .ramp };
  let ch : ChanId := .slot 23;
  ((feedAt s ch).state = .ramp) ∧ (ticked s (feedAt s ch).since (rampFaultTime s ch) = true) := by decide

theorem wit_PowerChannelsComplete_8 :
  let s : State := upFeed { zFeed with state := .good, pg := true };
  let ch : ChanId := .slot 0;
  let ma : Nat := 100000;
  ((feedAt s ch).state = .qualify ∨ (feedAt s ch).state = .good) ∧ (currentLimit s ch ≤ ma) := by decide

theorem wit_PowerChannelsComplete_9 :
  let s : State := upFeed { zFeed with state := .limit, pg := true, fromGood := true };
  let ch : ChanId := .slot 0;
  let us : Nat := 10;
  ((feedAt s ch).state = .limit) ∧ (10 ≤ us) := by decide

theorem wit_PowerChannelsComplete_10 :
  let s : State := upFeed { zFeed with state := .limit, pg := true, fromGood := true };
  let ch : ChanId := .slot 0;
  ((feedAt s ch).state = .limit) ∧ (ticked s (feedAt s ch).since (faultTime s ch) = true) := by decide

theorem wit_PowerChannelsComplete_11 :
  let s : State := upFeed { zFeed with state := .qualify };
  let k : Fin 24 := 0;
  let us : Nat := 100000;
  ((feedAt s (.slot k)).state = .qualify) ∧ (qualTime s (.slot k) ≤ us) ∧
    (ticked s (feedAt s (.slot k)).since (qualTime s (.slot k) * 1000) = true) := by decide

theorem wit_PowerChannelsComplete_12 :
  let s : State := upFeed { zFeed with state := .qualify };
  let us : Nat := 100000;
  (s.pwr.input.state = .qualify) ∧ (qualTime s .input ≤ us) ∧ (ticked s s.pwr.input.since (qualTime s .input * 1000) = true) := by decide

theorem wit_PowerChannelsComplete_13 :
  let s : State := upFeed { zFeed with state := .good, pg := true };
  let ch : ChanId := .slot 5;
  let mv : Nat := 0;
  ((feedAt s ch).state = .good) ∧ (100 * mv < pPwrPgLow (unitView s) * s.pwr.sensed) := by decide

theorem wit_PowerChannelsComplete_14 :
  let s : State := upFeed { zFeed with state := .retry, inside := true, present := true, enabled := true, retryEnd := 4 };
  let ch : ChanId := .slot 5;
  ((feedAt s ch).state = .retry) ∧ ((feedAt s ch).retryEnd ≤ s.time.ticks) ∧ (s.pwr.belay.isSome = false) ∧
    (mayStart (feedAt s ch) = true) := by decide

theorem wit_PowerChannelsComplete_15 :
  let s : State := upFeed { zFeed with state := .good, pg := true, fails := 6 };
  let ch : ChanId := .slot 5;
  ((feedAt s ch).state = .good) ∧ (ticked s (feedAt s ch).since 1000000000 = true) := by decide

theorem wit_PowerChannelsComplete_16 :
  let s : State := upFeed { zFeed with state := .off };
  let ch : ChanId := .slot 5;
  let test : DamageTest := .conductsWhenOff;
  let us : Nat := 1000000;
  ((damageTest test (feedAt s ch)).1 = true) ∧ ((damageTest test (feedAt s ch)).2 ≤ us) ∧ (¬ (ch = .input ∧ test = .conductsWhenOff)) := by decide

theorem wit_PowerChannelsComplete_17 :
  let s : State := upFeed { zFeed with state := .off };
  let us : Nat := 1000000;
  ((damageTest .conductsWhenOff s.pwr.input).1 = true) ∧ ((damageTest .conductsWhenOff s.pwr.input).2 ≤ us) := by decide

theorem wit_PowerChannelsComplete_18 :
  let s : State := upFeed { zFeed with state := .latched, fails := 7, kind := 1 };
  let us : Nat := 0;
  (s.pwr.input.state = .latched) := by decide

theorem wit_PowerChannelsComplete_20 :
  let s : State := upFeed zFeed;
  let k : Fin 24 := 23;
  ((feedAt s (.slot k)).state = .off) ∧ (inUseState (memberAt s k).state = false) := by decide

theorem wit_SupplyAndBelayComplete_2 :
  let s : State := { up with pwr := { up.pwr with keepSafe := true, clearSince := some 0, band := .full, holdup := 1000, capacity := 1000, cap := 1000000, damaged := false }, time := { up.time with ticks := 1000000000 } };
  let n : Nat := 0;
  (s.pwr.keepSafe = true) ∧ (s.pwr.clearSince = some n) ∧ (keepSafeCause s = false) ∧ (ticked s n 1000000000 = true) := by decide

theorem wit_SupplyAndBelayComplete_3 :
  let s : State := upFeed { zFeed with inside := true };
  let k : Fin 24 := 7;
  let mv : Nat := 0;
  ((feedAt s (.slot k)).inside = true) ∧ (insideWindow s (.slot k) mv = false) := by decide

theorem wit_SupplyAndBelayComplete_4 :
  let s : State := upFeed { zFeed with inside := false };
  let k : Fin 24 := 7;
  let mv : Nat := 12000;
  ((feedAt s (.slot k)).inside = false) ∧ (insideWindow s (.slot k) mv = true) := by decide

theorem wit_SupplyAndBelayComplete_5 :
  let s : State := upFeed { zFeed with inside := true, state := .good };
  let mv : Nat := 18501;
  (s.pwr.input.inside = true) ∧ (insideWindow s .input mv = false) := by decide

theorem wit_SupplyAndBelayComplete_6 :
  let s : State := { up with pwr := { up.pwr with outSince := some 0, socOn := true, belay := none }, time := { up.time with ticks := 10 ^ 12 } };
  let n : Nat := 0;
  (s.pwr.outSince = some n) ∧ (withinQual s n = false) ∧ (s.pwr.socOn = true) ∧ (s.pwr.belay = none) := by decide

theorem wit_SupplyAndBelayComplete_7 :
  let s : State := { up with pwr := { up.pwr with outSince := some 0, socOn := true, belay := none, input := { zFeed with state := .off } } };
  let mv : Nat := 12000;
  let n : Nat := 0;
  (s.pwr.outSince = some n) ∧ (insideWindow s .input mv = true) ∧ (withinQual s n = true) := by decide

theorem wit_SupplyAndBelayComplete_8 :
  let s : State := { up with pwr := { up.pwr with belay := some (.channelFault, 0), socOn := true }, time := { up.time with ticks := 10000000 } };
  let cause : BelayCause := .channelFault;
  let n : Nat := 0;
  (s.pwr.belay = some (cause, n)) ∧ (s.pwr.belayTen = false) ∧ (ticked s n 10000000 = true) := by decide

theorem wit_SupplyAndBelayComplete_9 :
  let s : State := { up with pwr := { up.pwr with belay := some (.channelFault, 0), socOn := true, belayTen := true }, time := { up.time with ticks := 10000000 } };
  let cause : BelayCause := .channelFault;
  let n : Nat := 0;
  (s.pwr.belay = some (cause, n)) ∧ (s.pwr.belayTen = true) := by decide

theorem wit_PowerStatesComplete_1 :
  let s : State := { up with layers := { up.layers with base := [(0x0C000000, 1)] }, pst := { up.pst with lastWork := 0 } };
  (s.pst.mode = .run) ∧ (s.pst.entering = none) ∧ (drowseMay s = true) ∧ (confirmed s s.pst.lastWork (pPstDrowseIdle s * msU) = true) := by decide

theorem wit_PowerStatesComplete_2 :
  let s : State := upDor;
  (s.pst.mode ≠ .dormant) ∧ (s.pst.entering = none) ∧ (dormantMay s = true) ∧
    (confirmed s s.pst.lastPkt (pPstDormantIdle s * secU) = true) := by decide

theorem wit_PowerStatesComplete_3 :
  let s : State := { up with pst := { up.pst with entering := some .drowse, point := 3, abandon := false } };
  let m : PMode := .drowse;
  (s.pst.entering = some m) ∧ (s.pst.point < 5) ∧ (s.pst.abandon = false) := by decide

theorem wit_PowerStatesComplete_4 :
  let s : State := { up with pst := { up.pst with entering := some .dormant, point := 5 } };
  (s.pst.entering = some .dormant) ∧ (s.pst.point = 5) ∧ (s.pst.abandon = false) := by decide

theorem wit_PowerStatesComplete_5 :
  let s : State := { up with pst := { up.pst with entering := some .drowse, point := 3, abandon := true } };
  let m : PMode := .drowse;
  (s.pst.entering = some m) ∧ (s.pst.point < 5) ∧ (s.pst.abandon = true) := by decide

theorem wit_PowerStatesComplete_6 :
  let s : State := { up with pst := { up.pst with entering := some .dormant, point := 6, heldWake := false } };
  let m : PMode := .dormant;
  (s.pst.entering = some m) ∧ (6 ≤ s.pst.point) ∧ (s.pst.heldWake = false) := by decide

theorem wit_PowerStatesComplete_7 :
  let s : State := { up with pst := { up.pst with mode := .drowse, woken := [(3, 0), (7, 1)] } };
  let domain : Nat := 3;
  (s.pst.mode = .drowse) := by decide

theorem wit_PowerStatesComplete_8 :
  let s : State := { up with pst := { up.pst with mode := .drowse, woken := [(3, 0), (7, 1)] } };
  let domain : Nat := 3;
  let n : Nat := 0;
  (s.pst.woken.lookup domain = some n) ∧ (confirmed s n (pPstDomainIdle s * usU) = true) := by decide

theorem wit_PowerStatesComplete_9 :
  let s : State := upWin;
  let d : DormantItem := wDor;
  (dormantItem s = some d) ∧ (s.pst.drivesDown = false) ∧ (s.pst.downStep = 0) ∧ (mayPowerDown s = true) ∧ (hostBusy s = false) ∧
    (confirmed s s.pst.lastDrive (d.idle.toNat * secU) = true) := by decide

theorem wit_PowerStatesComplete_10 :
  let s : State := { up with pst := { up.pst with downStep := 4, shutting := [23, 5] } };
  let slot : Fin 24 := 23;
  (s.pst.downStep = 4) ∧ (s.pst.shutting.contains (slot : Nat) = true) := by decide

theorem wit_PowerStatesComplete_11 :
  let s : State := { up with pst := { up.pst with downStep := 4, shutting := [23, 5] } };
  let slot : Fin 24 := 23;
  (s.pst.downStep = 4) ∧ (s.pst.shutting.contains (slot : Nat) = true) ∧ (confirmed s s.pst.shutAt (pPstShutdownMax s * msU) = true) := by decide

theorem wit_PowerStatesComplete_12 :
  let s : State := upIn;
  let d : DormantItem := { wDor with window := 86400 };
  (dormantItem s = some d) ∧ (inAwakeWindow s d = true) ∧ (s.pst.window = false) := by decide

theorem wit_PowerStatesComplete_13 :
  let s : State := { upWin with pst := { upWin.pst with window := true } };
  let d : DormantItem := wDor;
  (dormantItem s = some d) ∧ (inAwakeWindow s d = false) ∧ (s.pst.window = true) := by decide

theorem wit_PowerStatesComplete_14 :
  let s : State := { upDor with obj := { upDor.obj with locks := [{ coll := 9, mac := none, locks := [{ num := 1, expiry := 1, reason := 0, issuer := 1 }], stamp := noStamp }] }, time := { upDor.time with anchor := .anchored }, fix := { upDor.fix with lastCkpt := mono upDor } };
  (s.pst.drivesDown = true) ∧ (s.obj.locks.any (fun l => l.locks.any (lockPast s)) = true) ∧
    (confirmed s s.fix.lastCkpt (pIdxCkptInterval s * secU) = false) ∧
    ((dormantItem s).any (fun d => inAwakeWindow s d && !s.pst.window) = false) := by decide

theorem wit_PowerStatesComplete_15 :
  let s : State := { up with pst := { up.pst with drivesDown := true, mode := .dormant } };
  (s.pst.drivesDown = true) ∧ (s.obj.locks.any (fun l => l.locks.any (lockPast s)) = false) ∧
    (confirmed s s.fix.lastCkpt (pIdxCkptInterval s * secU) = true) ∧
    ((dormantItem s).any (fun d => inAwakeWindow s d && !s.pst.window) = false) := by decide

theorem wit_EventAndIdentityRequestsComplete_1 :
  let s : State := { upO with ev := { upO.ev with rings := [{ mbx := some 1, records := [{ zEvRecord with seq := 2 }], overflow := none, nextSeq := 3, returned := 1 }] } };
  let c : Call := wCallO;
  let x : Conn := wOper;
  let r : EvRing := { mbx := some 1, records := [{ zEvRecord with seq := 2 }], overflow := none, nextSeq := 3, returned := 1 };
  let ack : Word32 := 1;
  let maxRec : Word16 := 1024;
  let mask : Word16 := 0xFFFF;
  (Checked s c 0x0A02 readsRing x) ∧ (s.ev.rings.find? (fun y => y.mbx == some c.mbx) = some r) ∧
    (0 < maxRec.toNat ∧ maxRec.toNat ≤ 1024) ∧ (ack.toNat ≤ r.returned) := by decide

theorem wit_EventAndIdentityRequestsComplete_2 :
  let s : State := { up with ev := { up.ev with pldm := some (4, 1, 0) } };
  let ok : Bool := true;
  let seq : Nat := 4;
  let n : Nat := 1;
  let k : Nat := 0;
  (s.ev.pldm = some (seq, n, k)) ∧ (s.pst.mode = .run) ∧ (s.pst.entering = none) := by decide

theorem wit_EventAndIdentityRequestsComplete_3 :
  let s : State := { up with ev := { up.ev with pldm := some (4, 2, 0), rings := [{ mbx := none, records := [{ zEvRecord with seq := 4 }], overflow := none, nextSeq := 5, returned := 4 }] } };
  let seq : Nat := 4;
  let n : Nat := 2;
  let k : Nat := 0;
  let y : EvRecord := { zEvRecord with seq := 4 };
  (s.ev.pldm = some (seq, n, k)) ∧ (confirmed s k (100 * msU) = true) ∧
    ((s.ev.rings.find? (fun r => r.mbx.isNone)).bind (fun r => r.records.find? (fun z => z.seq == seq)) = some y) ∧ (n < 3) ∧
    (s.pwr.belay = none) := by decide

theorem wit_EventAndIdentityRequestsComplete_4 :
  let s : State := up;
  let eid : Option Nat := some 9;
  (mbxServed s = true) ∧ (s.pst.mode = .run) ∧ (s.pst.entering = none) := by decide

theorem wit_EventAndIdentityRequestsComplete_5 :
  let s : State := up;
  (spdmServed s = true) := by decide

theorem wit_EventAndIdentityRequestsComplete_6 :
  let s : State := { up with spdm := { stage := 1 } };
  (spdmServed s = true) ∧ (1 ≤ s.spdm.stage) := by decide

theorem wit_EventAndIdentityRequestsComplete_7 :
  let s : State := { up with spdm := { stage := 2 } };
  (spdmServed s = true) ∧ (2 ≤ s.spdm.stage) := by decide

theorem wit_EventAndIdentityRequestsComplete_8 :
  let s : State := { up with spdm := { stage := 3 } };
  (spdmServed s = true) ∧ (3 ≤ s.spdm.stage) := by decide

theorem wit_EventAndIdentityRequestsComplete_9 :
  let s : State := { up with spdm := { stage := 3 } };
  let off : Word16 := 0;
  let len : Word16 := 65535;
  (spdmServed s = true) ∧ (3 ≤ s.spdm.stage) := by decide

theorem wit_EventAndIdentityRequestsComplete_10 :
  let s : State := { up with spdm := { stage := 3 } };
  let nonce : Digest := 5;
  (spdmServed s = true) ∧ (3 ≤ s.spdm.stage) ∧ (s.pst.mode = .run) ∧ (s.pst.entering = none) := by decide

theorem wit_EventAndIdentityRequestsComplete_11 :
  let s : State := { up with spdm := { stage := 3 } };
  let nonce : Digest := 5;
  (spdmServed s = true) ∧ (3 ≤ s.spdm.stage) ∧ (s.pst.mode = .run) ∧ (s.pst.entering = none) := by decide

theorem wit_TetherCommandsComplete_1 :
  let s : State := up;
  ((phaseRuns s 8 && s.tet.valid && !s.tet.waiting) = false) := by decide

theorem wit_TetherCommandsComplete_2 :
  let s : State := { upPhase 8 with tet := { up.tet with valid := true, addr := 3 } };
  (phaseRuns s 8 = true) ∧ (s.tet.valid = true) ∧ (s.tet.waiting = false) := by decide

theorem wit_TetherCommandsComplete_6 :
  let s : State := { up with tet := { up.tet with upCable := true, downCable := true, downHop := true } };
  let addr : Nat := 15;
  (s.tet.upCable = true) ∧ (addr < 16) := by decide

theorem wit_TetherCommandsComplete_7 :
  let s : State := up;
  let total : Nat := 16;
  (s.tet.upCable = false) := by decide

theorem wit_TetherCommandsComplete_8 :
  let s : State := { up with tet := { up.tet with seqs := [(3, 6)], valid := true, addr := 1 } };
  let source : Nat := 3;
  let seq : Nat := 7;
  let fromDown : Bool := false;
  let addr : Nat := 3;
  let shelf : Word64 := 1;
  let digest : Digest := 5;
  let role : Nat := 1;
  let hops : Nat := 2;
  (freshSeq s source seq = true) ∧ (addr < 16) ∧ (fromDown = true ∨ hops ≠ 15) := by decide

theorem wit_TetherCommandsComplete_9 :
  let s : State := { upPhase 8 with tet := { up.tet with seqs := [(3, 6)], waiting := true, upCable := true, upHop := true } };
  let source : Nat := 3;
  let seq : Nat := 7;
  let addr : Nat := 14;
  let shelf : Word64 := 1;
  let digest : Digest := 5;
  let role : Nat := 1;
  (freshSeq s source seq = true) ∧ (addr < 15) ∧ (s.tet.waiting = true) ∧ (phaseRuns s 8 = true) := by decide

theorem wit_TetherCommandsComplete_10 :
  let s : State := { up with tet := { up.tet with valid := true }, layers := { up.layers with base := [(0x09000010, 0)] } };
  (s.tet.valid = true) ∧ (s.tet.beatAt + pTetHbInterval s * msU ≤ mono s) ∧ (pTetCtrl s ≠ 1) := by decide

theorem wit_TetherCommandsComplete_11 :
  let s : State := { up with tet := { up.tet with members := [{ addr := 3, shelf := 1, digest := 5, role := 1, heard := 0 }] } };
  let addr : Nat := 3;
  let m : TetMember := { addr := 3, shelf := 1, digest := 5, role := 1, heard := 0 };
  (s.tet.members.find? (fun y => y.addr == addr) = some m) ∧ (confirmed s m.heard (pTetHbMiss s * pTetHbInterval s * msU) = true) := by decide

theorem wit_TetherCommandsComplete_12 :
  let s : State := { up with tet := { up.tet with seqs := [(3, 6)], valid := true, addr := 1 } };
  let source : Nat := 3;
  let dest : Nat := 1;
  let seq : Nat := 7;
  let fromDown : Bool := false;
  let hops : Nat := 2;
  let ctx : Nat := 1;
  let length : Nat := 64;
  (freshSeq s source seq = true) := by decide

theorem wit_TetherCommandsComplete_13 :
  let s : State := { up with tet := { up.tet with seqs := [(3, 6)], valid := true, addr := 1 } };
  let source : Nat := 3;
  let seq : Nat := 7;
  let fromDown : Bool := false;
  let hops : Nat := 2;
  let e : BitVec 128 × BitVec 128 × Nat := (9, 10, 4791);
  (freshSeq s source seq = true) := by decide

theorem wit_TakeoverAndForwardingComplete_1 :
  let s : State := { up with pair := { up.pair with detected := some 0, mode := .paired, won := [1, 2] } };
  let n : Nat := 0;
  (s.pair.detected = some n) ∧ (s.pair.mode = .paired ∨ s.pair.mode = .handshake) ∧ (fenceDone s = true) := by decide

theorem wit_TakeoverAndForwardingComplete_2 :
  let s : State := { up with pair := { up.pair with mode := .rejoining, lanes := 4, survivor := true } };
  (s.pair.mode = .rejoining) ∧ (0 < s.pair.lanes) ∧ (s.pair.survivor = true) := by decide

theorem wit_TakeoverAndForwardingComplete_3 :
  let s : State := { up with pair := { up.pair with mode := .rejoining, lanes := 4, survivor := false } };
  (s.pair.mode = .rejoining) ∧ (0 < s.pair.lanes) ∧ (s.pair.survivor = false) := by decide

theorem wit_TakeoverAndForwardingComplete_4 :
  let s : State := { up with pair := { up.pair with mode := .paired }, log := { up.log with shards := [{ zShard with num := 0 }, { zShard with num := 1 }] } };
  let shard : Nat := if homedHere { up with pair := { up.pair with mode := .paired } } 0 then 0 else 1;
  let time : Nat := 9;
  let seq : Nat := 1;
  (s.pair.mode = .paired) ∧ (shard < 64) ∧ (nextMove s ≠ some shard) ∧ ((shardAt s shard).owned = false) ∧ (homedHere s shard = true) := by decide

theorem wit_TakeoverAndForwardingComplete_5 :
  let s : State := upFwd;
  let num : Nat := 3;
  let capsule : Instr := .keepAlive { ctx := 7, cid := 1, nsid := 0, opcode := 0, fuse := 0, sgl := none };
  let c : HostCmd := (hostCmd (shiftCtx (.keepAlive { ctx := 7, cid := 1, nsid := 0, opcode := 0, fuse := 0, sgl := none }))).getD zHostCmd;
  (hostCmd (shiftCtx capsule) = some c) ∧ (s.pair.mode = .paired) ∧ ((ctxAt s c.ctx).isSome = true) ∧ (s.pst.mode = .run) ∧
    (s.pst.entering = none) ∧ (admitsNow s false c = true) := by decide

theorem wit_TakeoverAndForwardingComplete_6 :
  let s : State := { up with pair := { up.pair with forwarded := [{ num := 3, cmd := .keepAlive { ctx := 7, cid := 1, nsid := 0, opcode := 0, fuse := 0, sgl := none } }] } };
  let num : Nat := 3;
  let time : Nat := 9;
  let seq : Nat := 0;
  let status : Status := 0;
  let extents : List (Nat × Nat) := [];
  let data : Bytes := [];
  let f : Forwarded := { num := 3, cmd := .keepAlive { ctx := 7, cid := 1, nsid := 0, opcode := 0, fuse := 0, sgl := none } };
  let c : HostCmd := (hostCmd (.keepAlive { ctx := 7, cid := 1, nsid := 0, opcode := 0, fuse := 0, sgl := none })).getD zHostCmd;
  (s.pair.forwarded.find? (fun y => y.num == num) = some f) ∧ (hostCmd f.cmd = some c) ∧ (s.pst.mode = .run) ∧ (s.pst.entering = none) := by decide

theorem wit_CoilAndMoverComplete_1 :
  let s : State := { up with hold := { up.hold with cells := [{ zCell with num := 5 }] } };
  let cell : Nat := 5;
  let y : Cell := { zCell with num := 5 };
  (cell < holdCells) ∧ (s.hold.next ≤ cell) ∧
    (s.hold.cells.any (fun z => decide (s.hold.next ≤ z.num) && decide (z.num < cell)) = false) ∧
    (s.hold.cells.find? (fun z => z.num == cell) = some y) ∧ (ownerLive s y.owner = true ∨ y.orphaned = false) := by decide

theorem wit_CoilAndMoverComplete_2 :
  let s : State := { up with hold := { up.hold with cells := [{ zCell with num := 5, orphaned := true }] } };
  let cell : Nat := 5;
  let y : Cell := { zCell with num := 5, orphaned := true };
  (cell < holdCells) ∧ (s.hold.next ≤ cell) ∧
    (s.hold.cells.any (fun z => decide (s.hold.next ≤ z.num) && decide (z.num < cell)) = false) ∧
    (s.hold.cells.find? (fun z => z.num == cell) = some y) ∧ (ownerLive s y.owner = false) ∧ (y.orphaned = true) := by decide

theorem wit_CoilAndMoverComplete_3 :
  let s : State := { up with hold := { up.hold with passing := true, next := 6 } };
  (s.hold.passing = true) ∧ (s.hold.cells.any (fun z => decide (s.hold.next ≤ z.num)) = false) ∧ (wrongUses s = []) := by decide

theorem wit_CoilAndMoverComplete_4 :
  let s : State := { up with mov := { up.mov with channels := [{ zChannel with num := 63, ring := [wMove], running := true, pipe := some 0 }] } };
  let ch : Nat := 63;
  let d : MoveDesc := wMove;
  (ch < 64) ∧ ((channelAt s ch).ring.head? = some d) ∧ ((channelAt s ch).running = true) ∧ ((channelAt s ch).pipe.isSome = true) ∧
    ((channelAt s ch).aborting = false) ∧ ((channelAt s ch).fault = none) ∧
    ((channelAt s ch).done + burstLen d (channelAt s ch).done < sideTotal d.srcLen d.srcCount) := by decide

theorem wit_CoilAndMoverComplete_5 :
  let s : State := { up with mov := { up.mov with channels := [{ zChannel with num := 63, ring := [wMove], running := true, pipe := some 0 }] } };
  let ch : Nat := 63;
  (ch < 64) ∧ ((channelAt s ch).running = true) := by decide

theorem wit_CoilAndMoverComplete_6 :
  let s : State := { up with mov := { up.mov with channels := [{ zChannel with num := 0, ring := [wMove], running := true, pipe := some 1 }] } };
  let ch : Nat := 0;
  (ch < 64) ∧ ((channelAt s ch).running = true) := by decide

theorem wit_SlotPowerAndRelayComplete_1 :
  let s : State := upO;
  let c : Call := wCallO;
  let x : Conn := wOper;
  let slot : Byte := 23;
  let k : Fin 24 := 23;
  (Checked s c 0x0802 isCustOper x) ∧ (slot.toNat = (k : Nat)) ∧ ((feedAt s (.slot k)).state ≠ .latched) ∧ (s.pst.drivesDown = false) := by decide

theorem wit_SlotPowerAndRelayComplete_2 :
  let s : State := { upO with mem := { upO.mem with slots := Vector.replicate 24 { memberAt upO 0 with state := .absent } } };
  let c : Call := wCallO;
  let x : Conn := wOper;
  let slot : Byte := 23;
  let k : Fin 24 := 23;
  (Checked s c 0x0802 isCustOper x) ∧ (slot.toNat = (k : Nat)) ∧ ((feedAt s (.slot k)).state ≠ .latched) ∧ (s.pst.drivesDown = false) ∧
    ((memberAt s k).state = .absent ∨ (memberAt s k).state = .failed) := by decide

theorem wit_SlotPowerAndRelayComplete_3 :
  let s : State := upC;
  let c : Call := wCall;
  let cap : Capsule := wRelCap;
  let b : RelayBody := .other;
  let x : Conn := wConn;
  (Checked s c 0x0A01 isCustodian x) ∧ (s.pst.drivesDown = false) ∧
    ((hostCmd (.uopRelay c cap b)).any (fun k => mutationWaits (holdTag c (afterChecks s c x)) k || walkWaits (holdTag c (afterChecks s c
    x)) k) = false) := by decide

theorem wit_SlotPowerAndRelayComplete_4 :
  let s : State := upRel;
  let c : Call := wCall;
  let x : Conn := wConn;
  let cap : Capsule := { wRelCap with hdr := { wRelCap.hdr with opcode := 0x40, bodyLen := 0, addressing := 2, mac := 88 }, len := 64 };
  (Checked s c 0x0A01 isCustodian x) ∧ (cap.hdr.opcode = 0x40) ∧ (s.pst.drivesDown = false) ∧
    ((hostCmd (.uopRelay c cap .verify)).any (fun k => mutationWaits (holdTag c (afterChecks s c x)) k || walkWaits (holdTag c
    (afterChecks s c x)) k) = false) ∧
    (checkVerify (relaySrc x c.tag (now s)) cap (holdTag c (afterChecks s c x)) = none) := by decide

theorem wit_SlotPowerAndRelayComplete_5 :
  let s : State := { upRel with auth := (upQ (.uopRelease wRelCap { hold := 1, rsv := 0 })).auth };
  let c : Call := wCall;
  let x : Conn := wConn;
  let id : Digest := 77;
  let m : Ceremony := wM (.uopRelease wRelCap { hold := 1, rsv := 0 });
  let cap : Capsule := wRelCap;
  let b : RelBody := { hold := 1, rsv := 0 };
  (Checked s c 0x0A03 isCustodian x) ∧ (QuorumMet s (.uopRelease cap b) id m) ∧ (s.pst.drivesDown = false) := by decide

theorem wit_StartUpPhasesComplete_1 :
  let s : State := State.reset;
  let mv : Nat := 12000;
  (s.pwr.socOn = false) ∧ (insideWindow s .input mv = true) ∧ (s.pwr.belay = none) ∧ (s.pwr.input.state = .off) ∧
    (s.pwr.input.present = true) ∧ (s.pwr.input.enabled = true) := by decide

theorem wit_StartUpPhasesComplete_2 :
  let s : State := upPhase 1;
  let r : PhaseIn := zPhaseIn;
  (phaseRuns s 1 = true) ∧ (s.boot.halted = none) ∧ (s.pwr.input.state = .good) := by decide

theorem wit_StartUpPhasesComplete_3 :
  let s : State := upPhase 2;
  let r : PhaseIn := { zPhaseIn with ok := true, svn := 7 };
  (phaseRuns s 2 = true) ∧ (s.boot.halted = none) ∧ (stagedImage s = none) ∧ (r.ok = true) ∧ (s.auth.fusedSvn ≤ r.svn) := by decide

theorem wit_StartUpPhasesComplete_4 :
  let s : State := upPhase 3;
  let r : PhaseIn := { zPhaseIn with ok := true };
  (phaseRuns s 3 = true) ∧ (s.boot.halted = none) ∧ (r.ok = true) := by decide

theorem wit_StartUpPhasesComplete_5 :
  let s : State := upPhase 4;
  let r : PhaseIn := { zPhaseIn with ok := true, capacity := 1000, image := true };
  (phaseRuns s 4 = true) ∧ (s.boot.halted = none) ∧ (r.ok = true) := by decide

theorem wit_StartUpPhasesComplete_6 :
  let s : State := upPhase 5;
  let r : PhaseIn := zPhaseIn;
  (phaseRuns s 5 = true) ∧ (s.boot.halted = none) := by decide

theorem wit_StartUpPhasesComplete_7 :
  let s : State := upPhase 6;
  let r : PhaseIn := zPhaseIn;
  (phaseRuns s 6 = true) ∧ (s.boot.halted = none) := by decide

theorem wit_StartUpPhasesComplete_8 :
  let s : State := upPhase 7;
  let r : PhaseIn := zPhaseIn;
  (phaseRuns s 7 = true) ∧ (s.boot.halted = none) := by decide

theorem wit_StartUpPhasesComplete_9 :
  let s : State := upPhase 9;
  let r : PhaseIn := { zPhaseIn with keyHeld := true };
  (phaseRuns s 9 = true) ∧ (s.boot.halted = none) := by decide

theorem wit_StartUpPhasesComplete_10 :
  let s : State := upPhase 10;
  let r : PhaseIn := zPhaseIn;
  (phaseRuns s 10 = true) ∧ (s.boot.halted = none) := by decide

theorem wit_StartUpPhasesComplete_11 :
  let s : State := upPhase 8;
  let r : PhaseIn := zPhaseIn;
  (phaseRuns s 8 = true) ∧ (s.boot.halted = none) := by decide

theorem wit_StartUpPhasesComplete_12 :
  let s : State := { upPhase 11 with time := { up.time with mode := .locked } };
  let r : PhaseIn := zPhaseIn;
  (phaseRuns s 11 = true) ∧ (s.boot.halted = none) ∧ (shelfMode s = .locked) := by decide

theorem wit_StartUpPhasesComplete_13 :
  let s : State := upPhase 4;
  let p : Nat := 4;
  let n : Nat := 0;
  (phaseAt s p = .running n) ∧ (ticked s n (phaseBudget s p) = true) ∧ (s.boot.halted = none) ∧ (p = 2 ∨ p = 3 ∨ p = 4) := by decide

theorem wit_StartUpPhasesComplete_14 :
  let s : State := upPhase 6;
  let n : Nat := 0;
  (phaseAt s 6 = .running n) ∧ (ticked s n 35000000000 = true) ∧ (s.boot.halted = none) := by decide

theorem wit_StartUpPhasesComplete_15 :
  let s : State := upPhase 7;
  let n : Nat := 0;
  (phaseAt s 7 = .running n) ∧ (ticked s n 10000000000 = true) ∧ (s.boot.halted = none) := by decide

theorem wit_StartUpPhasesComplete_16 :
  let s : State := upPhase 9;
  let n : Nat := 0;
  (phaseAt s 9 = .running n) ∧ (ticked s n 200000000 = true) ∧ (s.boot.halted = none) := by decide

theorem wit_StartUpPhasesComplete_17 :
  let s : State := upPhase 10;
  let n : Nat := 0;
  (phaseAt s 10 = .running n) ∧ (ticked s n 30000000000 = true) ∧ (s.boot.halted = none) := by decide

theorem wit_StartUpPhasesComplete_18 :
  let s : State := upPhase 11;
  let n : Nat := 0;
  (phaseAt s 11 = .running n) ∧ (ticked s n (pTsLockWait s * 1000000) = true) ∧ (s.boot.halted = none) := by decide

theorem wit_StartUpPhasesComplete_19 :
  let s : State := upPhase 8;
  let n : Nat := 0;
  (phaseAt s 8 = .running n) ∧ (ticked s n 1000000000 = true) ∧ (s.boot.halted = none) := by decide

theorem wit_StartUpPhasesComplete_20 :
  let s : State := upPhase 11;
  let n : Nat := 0;
  (phaseAt s 11 = .running n) ∧ (ticked s n (pTsLockWait s * 1000000) = true) := by decide

theorem wit_PairLinkAndHeartbeatsComplete_1 :
  let s : State := { upPair with pair := { upPair.pair with lanes := 0 } };
  let peer : PeerIn := wPeer;
  (s.pair.pairShelf = true) ∧ (s.pair.lanes = 0) ∧ (handshakeOk s peer = true) := by decide

theorem wit_PairLinkAndHeartbeatsComplete_2 :
  let s : State := { upPair with pair := { upPair.pair with lanes := 0 } };
  let peer : PeerIn := { wPeer with certOk := false };
  (s.pair.pairShelf = true) ∧ (s.pair.lanes = 0) ∧ (handshakeOk s peer = false) := by decide

theorem wit_PairLinkAndHeartbeatsComplete_3 :
  let s : State := upPair;
  (0 < s.pair.lanes) ∧ (s.pair.isB = false) ∧ (s.pair.yielded = false) := by decide

theorem wit_PairLinkAndHeartbeatsComplete_4 :
  let s : State := upPair;
  (s.pair.lanes = 8) := by decide

theorem wit_PairLinkAndHeartbeatsComplete_5 :
  let s : State := upPair;
  (s.pair.pairShelf = true) ∧ (s.pair.beatAt + pPairHbInterval s * usU ≤ mono s) ∧ (0 < s.pair.lanes) ∧ (s.pwr.belay = none) := by decide

theorem wit_PairLinkAndHeartbeatsComplete_6 :
  let s : State := upPair;
  let tether : Bool := true;
  let ack : Bool := true;
  let stamp : Nat := 5;
  let power : Nat := 3;
  (s.pair.pairShelf = true) := by decide

theorem wit_PairLinkAndHeartbeatsComplete_7 :
  let s : State := upPair;
  (confirmed s s.pair.heard (hbMiss s) = true) ∧ (s.pair.mode = .paired) ∧ (s.pst.mode = .run) ∧ (s.pst.entering = none) := by decide

theorem wit_PairLinkAndHeartbeatsComplete_8 :
  let s : State := { upPair with pair := { upPair.pair with isB := true } };
  (s.pair.mode = .paired) ∧ (s.pst.mode = .run) ∧ (s.pst.entering = none) ∧ (s.pair.detected = none) ∧ (s.pair.isB = true) := by decide

theorem wit_PairLinkAndHeartbeatsComplete_9 :
  let s : State := { upPair with pair := { upPair.pair with leaseAck := some 0 } };
  (s.pair.mode = .paired) ∧ (s.pair.leaseHeld = true) ∧
    (s.pair.leaseAck.all (fun a => decide (a + (pPairHbMiss s - 2) * msU ≤ now s)) = true) := by decide

theorem wit_PairLinkAndHeartbeatsComplete_10 :
  let s : State := { upPair with pair := { upPair.pair with deferTo := some 0 } };
  let n : Nat := 0;
  (s.pair.deferTo = some n) ∧ (confirmed s n 0 = true) := by decide

theorem wit_PairLinkAndHeartbeatsComplete_11 :
  let s : State := upPair;
  (s.pair.mode = .paired) ∧ (0 < s.pair.lanes) := by decide

theorem wit_PairLinkAndHeartbeatsComplete_12 :
  let mode : Fin 4 := 2;
  let s : State := { upPair with time := { up.time with follower := true } };
  let offset : Int := -50;
  (s.time.follower = true) ∧ (0 < s.pair.lanes) ∧ (s.boot.open_ = true) ∧ (offset.natAbs ≤ 50) := by decide

theorem wit_PairLinkAndHeartbeatsComplete_13 :
  let mode : Fin 4 := 2;
  let s : State := { upPair with boot := { up.boot with open_ := false }, time := { up.time with follower := true } };
  let offset : Int := -50;
  (s.time.follower = true) ∧ (0 < s.pair.lanes) ∧ (s.boot.open_ = false) := by decide

theorem wit_PairLinkAndHeartbeatsComplete_14 :
  let s : State := upPair;
  let offset : Int := 51;
  let mode : Fin 4 := 1;
  (s.time.follower = false) ∧ (0 < s.pair.lanes) ∧ (s.boot.open_ = true) ∧ (50 < offset.natAbs) := by decide

theorem wit_PairLinkAndHeartbeatsComplete_15 :
  let s : State := upPair;
  let state : PairState := .yield;
  (s.pair.pairShelf = true) ∧ (0 < s.pair.lanes) ∧ (s.pst.mode = .run) ∧ (s.pst.entering = none) := by decide

theorem wit_MirrorStreamComplete_1 :
  let s : State := upPair;
  let num : Nat := 1;
  let kind : Nat := 2;
  let shard : Nat := 3;
  let seq : Nat := 4;
  let time : Nat := 9;
  let sub : Nat := 0;
  let bytes : Nat := 512;
  let ctx : Nat := 1;
  let tag : Nat := 2;
  let addr : Nat := 0;
  let data : Bytes := [];
  let capsule : Instr := .keepAlive { ctx := 7, cid := 1, nsid := 0, opcode := 0, fuse := 0, sgl := none };
  (0 < s.pair.lanes) ∧ (s.pair.mode = .paired ∨ s.pair.mode = .rejoining) ∧ (num = s.pair.recvNum + 1) ∧ (kind ≠ 5) := by decide

theorem wit_MacCommandsComplete_1 :
  let s : State := upMac { zMac with linkUp := true, xoffs := [{ zXoff with cls := 3, active := true, since := 10 ^ 18 * 65536, last := 0 }] };
  let mac : Nat := 0;
  let cls : Nat := 3;
  let y : Xoff := { zXoff with cls := 3, active := true, since := 10 ^ 18 * 65536, last := 0 };
  (mac < 32) ∧ ((xoffAt s mac cls).filter (fun z => z.active) = some y) ∧ (confirmed s y.since (pMacPauseWdog s mac * msU) = false) ∧
    (y.last + quantaNs s mac xoffQuanta * nsU / 2 ≤ mono s) := by decide

theorem wit_MacCommandsComplete_2 :
  let s : State := upMac { zMac with linkUp := true, xoffs := [{ zXoff with cls := 3, active := true, since := 0, last := 0 }] };
  let mac : Nat := 0;
  let cls : Nat := 3;
  let y : Xoff := { zXoff with cls := 3, active := true, since := 0, last := 0 };
  (mac < 32) ∧ ((xoffAt s mac cls).filter (fun z => z.active) = some y) ∧ (confirmed s y.since (pMacPauseWdog s mac * msU) = true) := by decide

theorem wit_MacCommandsComplete_3 :
  let s : State := upMac { zMac with linkUp := true };
  let f : FrameIn := { zFrameIn with length := 64, fcsOk := true, dst := 0xFFFFFFFFFFFF, etype := 0x0800 };
  let m : Mac := { zMac with linkUp := true };
  (f.mac < 32) ∧ (macAt s f.mac = some m) ∧ (m.linkUp = true) ∧ (pMacCtrl0 s f.mac = 1) ∧ (s.pwr.socOn = true) ∧ (s.pwr.belay = none) ∧
    (s.pst.mode ≠ .dormant) := by decide

theorem wit_MacCommandsComplete_4 :
  let s : State := { upMac { zMac with linkUp := true } with layers := { up.layers with base := [(0x02001000, 17), (0x02001018, 5)] } };
  let mac : Nat := 0;
  let v6 : Bool := false;
  let target : BitVec 128 := BitVec.ofNat 128 (ownAddress { upMac { zMac with linkUp := true } with layers := { up.layers with base := [(0x02001000, 17), (0x02001018, 5)] } } 0 false);
  let who : Nat := 9;
  (mac < 32) ∧ (macAnswers s mac = true) ∧ (answersFor s mac v6 target.toNat = true) := by decide

theorem wit_MacCommandsComplete_5 :
  let s : State := upMac { zMac with linkUp := true, echoAt := 10 ^ 18 * 65536, echoes := 99 };
  let mac : Nat := 0;
  let v6 : Bool := true;
  let who : Nat := 9;
  let data : Bytes := [1];
  let m : Mac := { zMac with linkUp := true, echoAt := 10 ^ 18 * 65536, echoes := 99 };
  (mac < 32) ∧ (macAt s mac = some m) ∧ (macAnswers s mac = true) ∧ (mono s < m.echoAt + secU) ∧ (m.echoes < 100) ∧
    (data.length + 70 ≤ pMacFrameMax s mac) := by decide

theorem wit_MacCommandsComplete_6 :
  let s : State := { upMac { zMac with linkUp := true } with sch := { up.sch with quiets := [{ zQuiet with item := { zQuietItem with tenant := 3, macs := 1, ipVer := 6 } }] } };
  let mac : Nat := 0;
  let tenant : Nat := 3;
  let q : Quiet := { zQuiet with item := { zQuietItem with tenant := 3, macs := 1, ipVer := 6 } };
  let m : Mac := { zMac with linkUp := true };
  (mac < 32) ∧ (quietOf s tenant = some q) ∧ (q.item.macs.getLsbD mac = true) ∧ (macAnswers s mac = true) ∧ (macAt s mac = some m) ∧
    (q.item.ipVer = 6) := by decide

theorem wit_MacCommandsComplete_7 :
  let s : State := { upMac { zMac with linkUp := true } with sch := { up.sch with quiets := [{ zQuiet with item := { zQuietItem with tenant := 3, macs := 1, ipVer := 4 } }] } };
  let mac : Nat := 0;
  let tenant : Nat := 3;
  let q : Quiet := { zQuiet with item := { zQuietItem with tenant := 3, macs := 1, ipVer := 4 } };
  let m : Mac := { zMac with linkUp := true };
  (mac < 32) ∧ (quietOf s tenant = some q) ∧ (q.item.macs.getLsbD mac = true) ∧ (macAnswers s mac = true) ∧ (macAt s mac = some m) ∧
    (q.item.ipVer ≠ 6) := by decide

theorem wit_MacCommandsComplete_8 :
  let s : State := upMac zMac;
  let mac : Nat := 0;
  let m : Mac := zMac;
  (mac < 32) ∧ (macAt s mac = some m) ∧ (m.linkUp = false) ∧ (cageCarries s (mac / 8) = true) ∧ (pMacCtrl0 s mac = 1) ∧
    (s.pwr.socOn = true) ∧ (s.pst.mode ≠ .dormant) := by decide

theorem wit_MacCommandsComplete_9 :
  let s : State := upMac { zMac with linkUp := true };
  let mac : Nat := 0;
  let m : Mac := { zMac with linkUp := true };
  (mac < 32) ∧ (macAt s mac = some m) ∧ (m.linkUp = true) ∧ (s.pst.mode ≠ .dormant) := by decide

theorem wit_MacCommandsComplete_10 :
  let s : State := up;
  let port : Nat := 3;
  let media : Nat := 3;
  let cls : Nat := 16;
  (port < 4) ∧ (media = 1 ∨ media = 2 ∨ (media = 3 ∧ cls ≤ 16)) := by decide

theorem wit_MacCommandsComplete_11 :
  let s : State := up;
  let port : Nat := 3;
  let cls : Nat := 17;
  (port < 4) ∧ (16 < cls) := by decide

theorem wit_MacCommandsComplete_12 :
  let s : State := up;
  let port : Nat := 0;
  let cls : Nat := 0;
  (port < 4) := by decide

theorem wit_MacCommandsComplete_13 :
  let s : State := upMac { zMac with linkUp := true };
  let mac : Nat := 0;
  let m : Mac := { zMac with linkUp := true };
  let pfc : Bool := pMacCtrl4 (upMac zMac) 0 != 2;
  let prios : List (Nat × Nat) := [(0, 5)];
  (mac < 32) ∧ (macAt s mac = some m) ∧ (m.linkUp = true) ∧ (pMacCtrl4 s mac ≠ (if pfc then 2 else 1)) := by decide

theorem wit_MacCommandsComplete_14 :
  let s : State := { upMac { zMac with linkUp := true } with layers := { up.layers with base := [(0x02001000, 33)] } };
  let mac : Nat := 0;
  let m : Mac := { zMac with linkUp := true };
  let prios : List (Nat × Nat) := [(7, 5), (8, 5)];
  (mac < 32) ∧ (macAt s mac = some m) ∧ (m.linkUp = true) ∧ (pMacCtrl4 s mac = 2) := by decide

theorem wit_MacCommandsComplete_15 :
  let s : State := upMac { zMac with linkUp := true, pauses := [{ zPause with prio := 8, until_ := some 5 }] };
  let mac : Nat := 0;
  let prio : Nat := 8;
  let n : Nat := 5;
  let m : Mac := { zMac with linkUp := true, pauses := [{ zPause with prio := 8, until_ := some 5 }] };
  (mac < 32) ∧ (macAt s mac = some m) ∧ ((pauseAt m prio).until_ = some n) ∧ (n ≤ mono s) := by decide

theorem wit_MacCommandsComplete_16 :
  let s : State := upMac { zMac with linkUp := true, pauses := [{ zPause with prio := 8, until_ := some (10 ^ 18 * 65536), heldAt := some 0 }] };
  let mac : Nat := 0;
  let prio : Nat := 8;
  let n : Nat := 10 ^ 18 * 65536;
  let k : Nat := 0;
  let m : Mac := { zMac with linkUp := true, pauses := [{ zPause with prio := 8, until_ := some (10 ^ 18 * 65536), heldAt := some 0 }] };
  (mac < 32) ∧ (macAt s mac = some m) ∧ ((pauseAt m prio).until_ = some n) ∧ ((pauseAt m prio).heldAt = some k) ∧
    (confirmed s k (pMacPauseWdog s mac * msU) = true) ∧ (k + pMacPauseWdog s mac * msU < n) := by decide

theorem wit_MacCommandsComplete_17 :
  let s : State := upMac { zMac with linkUp := true, pauses := [{ zPause with prio := 8, ignore := some 5 }] };
  let mac : Nat := 0;
  let prio : Nat := 8;
  let n : Nat := 5;
  let m : Mac := { zMac with linkUp := true, pauses := [{ zPause with prio := 8, ignore := some 5 }] };
  (mac < 32) ∧ (macAt s mac = some m) ∧ ((pauseAt m prio).ignore = some n) ∧ (n ≤ mono s) := by decide

theorem wit_MacCommandsComplete_18 :
  let s : State := upMac { zMac with linkUp := true, sending := some (3, 5) };
  let mac : Nat := 0;
  let cls : Nat := 3;
  let n : Nat := 5;
  let m : Mac := { zMac with linkUp := true, sending := some (3, 5) };
  (mac < 32) ∧ (macAt s mac = some m) ∧ (m.sending = some (cls, n)) := by decide

theorem wit_DrivePortEventsComplete_1 :
  let s : State := putPort 23 { portAt up 23 with step := some 1 } up;
  let slot : Fin 24 := 23;
  let rate : Nat := 6;
  let width : Nat := 3;
  let n : Nat := 1;
  let d : DriveFound := { zDriveFound with nvme := true };
  ((portAt s slot).step = some n) ∧ ((portAt s slot).perstAt = none) ∧ (d.nvme = true) ∧ (d.ready = false) := by decide

theorem wit_DrivePortEventsComplete_2 :
  let s : State := putPort 23 { portAt up 23 with step := some 1 } { up with time := { up.time with ticks := 10 ^ 12 } };
  let slot : Fin 24 := 23;
  let k : Nat := 1;
  ((portAt s slot).step = some k) ∧ ((portAt s slot).stepAt + stepBudget (portAt s slot) k ≤ s.time.ticks) := by decide

theorem wit_DrivePortEventsComplete_3 :
  let s : State := putPort 23 { portAt up 23 with linkUp := true, windows := [wWin] } up;
  let slot : Fin 24 := 23;
  let addr : Nat := 4096;
  let len : Nat := 4096;
  let relaxed : Bool := true;
  let y : Window := wWin;
  ((portAt s slot).linkUp = true) ∧ (windowOf (portAt s slot) addr len = some y) ∧ (y.canRead = true) ∧
    (apertureOpen (portAt s slot) y addr = true) := by decide

theorem wit_DrivePortEventsComplete_4 :
  let s : State := putPort 23 { portAt up 23 with linkUp := true, windows := [wWin] } up;
  let slot : Fin 24 := 23;
  let addr : Nat := 8191;
  let len : Nat := 2;
  let relaxed : Bool := true;
  ((portAt s slot).linkUp = true) ∧ (windowOf (portAt s slot) addr len = none) := by decide

theorem wit_DrivePortEventsComplete_7 :
  let s : State := putPort 23 { portAt up 23 with cmds := [wHedged] } up;
  let slot : Fin 24 := 23;
  let tag : Nat := 5;
  let c : DriveCmd := wHedged;
  ((portAt s slot).cmds.find? (fun y => y.tag == tag && !y.queued) = some c) ∧ (confirmed s c.issued c.timeout = true) := by decide

theorem wit_DrivePortEventsComplete_9 :
  let s : State := putPort 23 { portAt up 23 with cfgReads := [(3, 0)] } up;
  let slot : Fin 24 := 23;
  let num : Nat := 3;
  let r : Nat × Nat := (3, 0);
  ((portAt s slot).cfgReads.find? (fun y => y.1 == num) = some r) ∧ (confirmed s r.2 (pDrvCplTimeout s * usU) = true) := by decide

theorem wit_DrivePortEventsComplete_10 :
  let s : State := putFeed (.slot 23) { feedAt up (.slot 23) with present := true } (putPort 23 { portAt up 23 with linkUp := true } up);
  let slot : Fin 24 := 23;
  ((portAt s slot).linkUp = true) ∧ ((feedAt s (.slot slot)).present = true) := by decide

theorem wit_DrivePortEventsComplete_11 :
  let s : State := putPort 23 { portAt up 23 with perstAt := some 0 } up;
  let slot : Fin 24 := 23;
  let n : Nat := 0;
  ((portAt s slot).perstAt = some n) ∧ (confirmed s n (pDrvPerstTime s * usU) = true) := by decide

theorem wit_DrivePortEventsComplete_12 :
  let s : State := putMember 23 { memberAt up 23 with downSince := some 0 } up;
  let slot : Fin 24 := 23;
  let n : Nat := 0;
  ((memberAt s slot).downSince = some n) ∧ ((portAt s slot).linkUp = false) ∧ (confirmed s n secU = true) := by decide

theorem wit_DrivePortEventsComplete_13 :
  let s : State := { upEnd with layers := { up.layers with base := [(0x07000004, 1)] }, pwr := { up.pwr with socOn := true } };
  let rate : Nat := 4;
  let width : Nat := 1;
  (pSepCtrl s = 1) ∧ (s.pwr.socOn = true) := by decide

theorem wit_DrivePortEventsComplete_15 :
  let s : State := { up with sep := { up.sep with linkUp := true, pending := [0, 64] } };
  (s.sep.linkUp = true) := by decide

theorem wit_DrivePortEventsComplete_16 :
  let s : State := { up with sep := { up.sep with linkUp := true, pending := [0, 64] } };
  (s.sep.linkUp = true) := by decide

theorem wit_ObjectWritesComplete_1 :
  let s : State := upUop [];
  let q : Nat := 7;
  let cap : Capsule := { hdr := { version := 1, opcode := 0x01, tag := 5, flags := 0, coll := 9, nameLen := 1, bodyLen := 96, addressing := 1, rsvA := 0, handle := 0, rsvB := 0, mac := 0 }, name := [7], namePad := List.replicate 7 0, len := 168 };
  let b : PutBody := { metaLen := 0, rsv := 0, desc := { kind := 0, rsvA := 0, len := 0, key := 0, rsvB := 0, addr := 0 }, sha2 := 0, sha3 := 0, metadata := [], metaPad := [], data := [] };
  let c : HostCmd := (hostCmd (.put q cap b)).getD zHostCmd;
  (TakenUp s (.put q cap b) c) ∧ (checkPut (srcOf s (.put q cap b) c) cap b (taken s (.put q cap b) c) = none) := by decide

theorem wit_ObjectWritesComplete_2 :
  let s : State := upUop [wOpen];
  let q : Nat := 7;
  let cap : Capsule := { hdr := { version := 1, opcode := 0x02, tag := 5, flags := 0, coll := 9, nameLen := 0, bodyLen := 32, addressing := 3, rsvA := 0, handle := 6, rsvB := 0, mac := 0 }, name := [], namePad := List.replicate 0 0, len := 97 };
  let b : PartBody := { part := 0, rsv := 0, desc := { kind := 1, rsvA := 0, len := 1, key := 0, rsvB := 0, addr := 0 }, data := [9] };
  let c : HostCmd := (hostCmd (.putPart q cap b)).getD zHostCmd;
  (TakenUp s (.putPart q cap b) c) ∧
    (checkPutPart (srcOf s (.putPart q cap b) c) cap b (restartIdle (srcOf s (.putPart q cap b) c) cap (taken s (.putPart q cap b) c)) =
    none) := by decide

theorem wit_ObjectWritesComplete_3 :
  let s : State := upUop [wOpen];
  let q : Nat := 7;
  let cap : Capsule := { hdr := { version := 1, opcode := 0x04, tag := 5, flags := 0, coll := 9, nameLen := 0, bodyLen := 0, addressing := 3, rsvA := 0, handle := 6, rsvB := 0, mac := 0 }, name := [], namePad := List.replicate 0 0, len := 64 };
  let c : HostCmd := (hostCmd (.putAbort q cap)).getD zHostCmd;
  (TakenUp s (.putAbort q cap) c) ∧ (checkPutAbort (srcOf s (.putAbort q cap) c) cap (taken s (.putAbort q cap) c) = none) := by decide

theorem wit_ObjectWritesComplete_4 :
  let s : State := upUop [wOpen];
  let q : Nat := 7;
  let cap : Capsule := { hdr := { version := 1, opcode := 0x03, tag := 5, flags := 0, coll := 9, nameLen := 0, bodyLen := 80, addressing := 3, rsvA := 0, handle := 6, rsvB := 0, mac := 0 }, name := [], namePad := List.replicate 0 0, len := 144 };
  let b : SealBody := { count := 0, rsv := 0, size := 0, sha2 := 0, sha3 := 0 };
  let c : HostCmd := (hostCmd (.sealObject q cap b)).getD zHostCmd;
  (TakenUp s (.sealObject q cap b) c) ∧
    (checkSeal (srcOf s (.sealObject q cap b) c) cap b (restartIdle (srcOf s (.sealObject q cap b) c) cap (taken s (.sealObject q cap b)
    c)) = none) := by decide

theorem wit_ObjectWritesComplete_5 :
  let s : State := upUop [wSealed];
  let q : Nat := 7;
  let cap : Capsule := { hdr := { version := 1, opcode := 0x20, tag := 5, flags := 0, coll := 9, nameLen := 0, bodyLen := 0, addressing := 2, rsvA := 0, handle := 0, rsvB := 0, mac := 88 }, name := [], namePad := List.replicate 0 0, len := 64 };
  let c : HostCmd := (hostCmd (.delete q cap)).getD zHostCmd;
  (TakenUp s (.delete q cap) c) ∧
    (checkDelete (srcOf s (.delete q cap) c) cap (meetLocks (srcOf s (.delete q cap) c) cap (checkDelete (srcOf s (.delete q cap) c) cap)
    (taken s (.delete q cap) c)) = none) := by decide

theorem wit_ObjectWritesComplete_6 :
  let s : State := upUop [{ wSealed with coll := 8 }];
  let q : Nat := 7;
  let cap : Capsule := { hdr := { version := 1, opcode := 0x21, tag := 5, flags := 0, coll := 9, nameLen := 1, bodyLen := 40, addressing := 1, rsvA := 0, handle := 0, rsvB := 0, mac := 0 }, name := [7], namePad := List.replicate 7 0, len := 112 };
  let b : CopyBody := { src := 8, rsv := 0, mac := 88 };
  let c : HostCmd := (hostCmd (.copy q cap b)).getD zHostCmd;
  (TakenUp s (.copy q cap b) c) ∧ (checkCopy (srcOf s (.copy q cap b) c) cap b (taken s (.copy q cap b) c) = none) :=
  ⟨by first | decide | rfl | exact ⟨rfl, rfl, rfl, rfl⟩,
    (show _ = firstOf [failIf (!(Config.sha256 [] == Config.sha256 [] && Config.sha3 [] == Config.sha3 [])) eLost] from rfl).trans (by simp [firstOf, failIf])⟩

theorem wit_ObjectReadsComplete_1 :
  let s : State := upUop [wSealed];
  let q : Nat := 7;
  let cap : Capsule := { hdr := { version := 1, opcode := 0x10, tag := 5, flags := 0, coll := 9, nameLen := 0, bodyLen := 32, addressing := 2, rsvA := 0, handle := 0, rsvB := 0, mac := 88 }, name := [], namePad := List.replicate 0 0, len := 96 };
  let b : GetBody := { offset := 0, desc := { kind := 1, rsvA := 0, len := 1, key := 0, rsvB := 0, addr := 0 } };
  let c : HostCmd := (hostCmd (.get q cap b)).getD zHostCmd;
  (TakenUp s (.get q cap b) c) ∧ (checkGetHead (srcOf s (.get q cap b) c) cap b (taken s (.get q cap b) c) = none) := by decide

theorem wit_ObjectReadsComplete_2 :
  let s : State := upUop [wSealed];
  let q : Nat := 7;
  let cap : Capsule := { hdr := { version := 1, opcode := 0x11, tag := 5, flags := 0, coll := 9, nameLen := 0, bodyLen := 0, addressing := 2, rsvA := 0, handle := 0, rsvB := 0, mac := 88 }, name := [], namePad := List.replicate 0 0, len := 64 };
  let c : HostCmd := (hostCmd (.head q cap)).getD zHostCmd;
  (TakenUp s (.head q cap) c) ∧ (checkHead (srcOf s (.head q cap) c) cap (taken s (.head q cap) c) = none) := by decide

theorem wit_ObjectReadsComplete_3 :
  let s : State := upUop [wSealed];
  let q : Nat := 7;
  let cap : Capsule := { hdr := { version := 1, opcode := 0x12, tag := 5, flags := 0, coll := 9, nameLen := 0, bodyLen := 64, addressing := 0, rsvA := 0, handle := 0, rsvB := 0, mac := 0 }, name := [], namePad := List.replicate 0 0, len := 128 };
  let b : ListBody := { cursor := 0, preLen := 0, rsv := 0, maxEnt := 65536, desc := { kind := 1, rsvA := 0, len := 4144, key := 0, rsvB := 0, addr := 0 }, pre := [], prePad := [] };
  let c : HostCmd := (hostCmd (.list q cap b)).getD zHostCmd;
  (TakenUp s (.list q cap b) c) ∧ (checkList (srcOf s (.list q cap b) c) cap b (taken s (.list q cap b) c) = none) := by decide

theorem wit_ObjectReadsComplete_4 :
  let s : State := upUop [wSealed];
  let q : Nat := 7;
  let cap : Capsule := { hdr := { version := 1, opcode := 0x40, tag := 5, flags := 0, coll := 9, nameLen := 0, bodyLen := 0, addressing := 2, rsvA := 0, handle := 0, rsvB := 0, mac := 88 }, name := [], namePad := List.replicate 0 0, len := 64 };
  let c : HostCmd := (hostCmd (.verify q cap)).getD zHostCmd;
  (TakenUp s (.verify q cap) c) ∧ (checkVerify (srcOf s (.verify q cap) c) cap (taken s (.verify q cap) c) = none) := by decide

theorem wit_ObjectReadsComplete_5 :
  let s : State := upUop [wSealed];
  let q : Nat := 7;
  let cap : Capsule := { hdr := { version := 1, opcode := 0x30, tag := 5, flags := 0, coll := 9, nameLen := 0, bodyLen := 40, addressing := 2, rsvA := 0, handle := 0, rsvB := 0, mac := 88 }, name := [], namePad := List.replicate 0 0, len := 104 };
  let b : LockBody := { expiry := 0, reason := 4 };
  let c : HostCmd := (hostCmd (.hold q cap b)).getD zHostCmd;
  (TakenUp s (.hold q cap b) c) ∧
    (checkHold (srcOf s (.hold q cap b) c) cap b (meetLocks (srcOf s (.hold q cap b) c) cap (checkHold (srcOf s (.hold q cap b) c) cap b)
    (taken s (.hold q cap b) c)) = none) := by decide

theorem wit_ObjectReadsComplete_6 :
  let s : State := upUop [wSealed];
  let q : Nat := 7;
  let cap : Capsule := { hdr := { version := 1, opcode := 0x32, tag := 5, flags := 0, coll := 9, nameLen := 0, bodyLen := 40, addressing := 0, rsvA := 0, handle := 0, rsvB := 0, mac := 0 }, name := [], namePad := List.replicate 0 0, len := 104 };
  let b : LockBody := { expiry := BitVec.ofNat 64 (custodySec up + 86400), reason := 4 };
  let c : HostCmd := (hostCmd (.stopper q cap b)).getD zHostCmd;
  (TakenUp s (.stopper q cap b) c) ∧
    (checkStopper (srcOf s (.stopper q cap b) c) cap b (meetLocks (srcOf s (.stopper q cap b) c) cap (checkStopper (srcOf s (.stopper q
    cap b) c) cap b) (taken s (.stopper q cap b) c)) = none) := by decide

theorem wit_ObjectReadsComplete_7 :
  let s : State := upUop [wSealed];
  let q : Nat := 7;
  let cap : Capsule := { hdr := { version := 1, opcode := 0x31, tag := 5, flags := 0, coll := 9, nameLen := 0, bodyLen := 8, addressing := 2, rsvA := 0, handle := 0, rsvB := 0, mac := 88 }, name := [], namePad := List.replicate 0 0, len := 72 };
  let b : RelBody := { hold := 1, rsv := 0 };
  let c : HostCmd := (hostCmd (.release q cap b)).getD zHostCmd;
  (TakenUp s (.release q cap b) c) ∧ (checkReleaseForm cap b = none) := by decide

theorem wit_CollectionCommandsComplete_1 :
  let s : State := upUop [];
  let q : Nat := 7;
  let cap : Capsule := { hdr := { version := 1, opcode := 0x50, tag := 5, flags := 0, coll := 0, nameLen := 0, bodyLen := 8, addressing := 0, rsvA := 0, handle := 0, rsvB := 0, mac := 0 }, name := [], namePad := List.replicate 0 0, len := 72 };
  let b : CollBody := { geom := 0, flags := 1, rsv := 0 };
  let c : HostCmd := (hostCmd (.collCreate q cap b)).getD zHostCmd;
  (TakenUp s (.collCreate q cap b) c) ∧
    (checkCollCreate (srcOf s (.collCreate q cap b) c) cap b (taken s (.collCreate q cap b) c) = none) := by decide

theorem wit_CollectionCommandsComplete_2 :
  let s : State := upUop [];
  let q : Nat := 7;
  let cap : Capsule := { hdr := { version := 1, opcode := 0x51, tag := 5, flags := 0, coll := 9, nameLen := 0, bodyLen := 0, addressing := 0, rsvA := 0, handle := 0, rsvB := 0, mac := 0 }, name := [], namePad := List.replicate 0 0, len := 64 };
  let c : HostCmd := (hostCmd (.collDelete q cap)).getD zHostCmd;
  (TakenUp s (.collDelete q cap) c) ∧
    (checkCollDelete (srcOf s (.collDelete q cap) c) cap (meetLocks (srcOf s (.collDelete q cap) c) cap (checkCollDelete (srcOf s
    (.collDelete q cap) c) cap) (taken s (.collDelete q cap) c)) = none) := by decide

theorem wit_CollectionCommandsComplete_3 :
  let s : State := upUop [{ wOpen with lastUse := 0 }];
  let handle : Word64 := 6;
  let o : Obj := { wOpen with lastUse := 0 };
  let k : Coll := { wColl with state := .active };
  (s.obj.objs.find? (fun y => y.whip.isNone && y.handle == handle) = some o) ∧ (collAt s o.coll = some k) ∧ (idleWaits s o = false) ∧
    (confirmedShelf s (o.lastUse + pIdxOpenIdle s * secU) = true) := by decide

theorem wit_HitchLinkCommandsComplete_1 :
  let s : State := upHit { wHit with source := true, record := { wHit.record with dstA := 8 } } [];
  let m : Myavo := wMy;
  let a : HelloIn := { zHelloIn with identity := 8, ceremonyOk := true, certOk := true };
  let c : Ctx := wPeerCtx;
  let h : Hitch := { wHit with source := true, record := { wHit.record with dstA := 8 } };
  (peerSession s m = some c) ∧ (hitchAt s m.id = some h) ∧ (m.known = true) ∧ (m.rsv = 0) ∧ (h.received < m.seq) ∧
    (hitchLive h = true) ∧ (helloOk h a = true) := by decide

theorem wit_HitchLinkCommandsComplete_2 :
  let s : State := { upHit { wHit with collMap := [] } [] with layers := { up.layers with service := 1 } };
  let m : Myavo := wMy;
  let c : Ctx := wPeerCtx;
  let h : Hitch := { wHit with collMap := [] };
  let entries : List ScopeIn := [{ coll := 9, durable := true, objects := 1, bytes := 10, locks := [] }];
  (MessageTaken s m c h) ∧ (h.source = false) ∧ (h.collMap = []) ∧
    ((geomUnder s.layers.service h.record.geometry.toNat).isSome = true) ∧ (membersFull (heardOf s m h) = true) ∧
    (quotaHolds (heardOf s m h) (hearing s m h) entries = true) := by decide

theorem wit_HitchLinkCommandsComplete_3 :
  let s : State := upHit { wHit with source := true } [];
  let m : Myavo := wMy;
  let c : Ctx := wPeerCtx;
  let h : Hitch := { wHit with source := true };
  let entries : List (Nat × Nat × Word16) := [(9, 4, 0)];
  (MessageTaken s m c h) ∧ (h.source = true) ∧ (entries.any (fun e => e.2.2.toNat == eGeometry) = false) ∧
    (entries.any (fun e => e.2.2.toNat != sOk) = false) := by decide

theorem wit_HitchLinkCommandsComplete_4 :
  let s : State := upHit { wHit with source := true } [];
  let m : Myavo := wMy;
  let c : Ctx := wPeerCtx;
  let h : Hitch := { wHit with source := true };
  let entries : List (Nat × Nat × Word16) := [(9, 0, BitVec.ofNat 16 eGeometry)];
  (MessageTaken s m c h) ∧ (h.source = true) ∧ (entries.any (fun e => e.2.2.toNat == eGeometry) = true) := by decide

theorem wit_HitchLinkCommandsComplete_5 :
  let s : State := upHit { wHit with source := true } [];
  let m : Myavo := wMy;
  let c : Ctx := wPeerCtx;
  let h : Hitch := { wHit with source := true };
  let tenants : List (Nat × Nat) := [(3, 1)];
  (MessageTaken s m c h) ∧ (h.source = true) := by decide

theorem wit_HitchLinkCommandsComplete_6 :
  let s : State := upHit wHit [];
  let m : Myavo := wMy;
  let c : Ctx := wPeerCtx;
  let h : Hitch := wHit;
  let tenants : List (Nat × Nat) := [(3, 1)];
  (MessageTaken s m c h) ∧ (h.source = false) := by decide

theorem wit_HitchLinkCommandsComplete_7 :
  let s : State := { upHit wHit [] with time := { up.time with shelf := 0, mono := 0, custody := 0, mode := .locked, anchor := .anchored } };
  let m : Myavo := wMy;
  let c : Ctx := wPeerCtx;
  let h : Hitch := wHit;
  let stamp : StampIn := zStampIn;
  (MessageTaken s m c h) ∧ (stampsAgree (heardOf s m h) stamp = true) ∧ (h.state ≠ .suspended) := by decide

theorem wit_HitchLinkCommandsComplete_8 :
  let s : State := upHit wHit [];
  let m : Myavo := wMy;
  let c : Ctx := wPeerCtx;
  let h : Hitch := wHit;
  let stamp : StampIn := { zStampIn with flags := 1 };
  (MessageTaken s m c h) ∧ (stampsAgree (heardOf s m h) stamp = false) := by decide

theorem wit_HitchLinkCommandsComplete_9 :
  let s : State := upHit { wHit with hello := true } [];
  let id : BitVec 128 := 5;
  let h : Hitch := { wHit with hello := true };
  (hitchAt s id = some h) ∧ (h.ctx.isSome = true) ∧ (h.hello = true) ∧ (confirmed s h.beat secU = true) := by decide

theorem wit_HitchLinkCommandsComplete_10 :
  let s : State := upHit wHit [];
  let id : BitVec 128 := 5;
  let n : Nat := 7;
  let h : Hitch := wHit;
  (hitchAt s id = some h) ∧ (h.ctx = some n) ∧ (confirmed s h.heard (10 * secU) = true) := by decide

theorem wit_HitchLinkCommandsComplete_11 :
  let s : State := { upHit { wHit with source := true, ctx := none } [] with tet := { up.tet with found := [(5, 6, 7)] } };
  let id : BitVec 128 := 5;
  let a : BitVec 128 × Nat := (6, 7);
  let h : Hitch := { wHit with source := true, ctx := none };
  (hitchAt s id = some h) ∧ (h.source = true) ∧ (hitchLive h = true) ∧ (h.away = false) ∧ (h.ctx = none) ∧ (taking s = true) ∧
    (custodySec s < h.record.notAfter) ∧ (s.trn.setups.any (fun y => y.hitch == some id) = false) ∧
    (h.tried = 0 ∨ confirmed s h.tried (10 * secU) = true) ∧ (peerAddress s h = some a) := by decide

theorem wit_HitchLinkCommandsComplete_12 :
  let r : RespMsg := { handle := 2, status := 0, payload := 4096, setup := 9, nonce := 0, dh := 0, ct := 0, chain := [], sig := 0, sigOk := true };
  let s : State := { up with trn := { up.trn with setups := [{ zSetup with handle := 2, service := 3, initiator := true, hitch := some 5 }] } };
  let x : Setup := { zSetup with handle := 2, service := 3, initiator := true, hitch := some 5 };
  (ownSetup s r.handle = some x) ∧ (taking s = true) ∧ (r.status = sOk) ∧ (r.sigOk = true) := by decide

theorem wit_HitchLinkCommandsComplete_13 :
  let s : State := { upHit { wHit with source := true, ctx := none } [] with trn := { up.trn with setups := [{ zSetup with handle := 2, service := 3, initiator := true, hitch := some 5 }] } };
  let handle : Nat := 2;
  let ctx : Nat := 3;
  let id : BitVec 128 := 5;
  let x : Setup := { zSetup with handle := 2, service := 3, initiator := true, hitch := some 5 };
  let h : Hitch := { wHit with source := true, ctx := none };
  (ownSetup s handle = some x) ∧ (taking s = true) ∧ (x.hitch = some id) ∧ (hitchAt s id = some h) ∧ (h.ctx = none) ∧
    (hitchLive h = true) ∧ (setupLimit (dropSetup handle s) (.bryndle 3) (.peer h.record.id) = none) := by decide

theorem wit_HitchObjectMessagesComplete_1 :
  let s : State := upHit wHit [];
  let m : Myavo := wMy;
  let c : Ctx := wPeerCtx;
  let h : Hitch := wHit;
  let b : ObjBegin := { zObjBegin with srcColl := 4, dstColl := 9, stream := 2, name := [7] };
  let k : Coll := { wColl with state := .active };
  let v : Tenant := { wTenant 3 51 with quota := { wQuota with byteQuota := 1000000 } };
  let root : BitVec 512 := 1;
  (MessageTaken s m c h) ∧ (h.source = false) ∧ (h.state = .streaming) ∧ (b.locks.length ≤ 17) ∧ (b.excerpts ≤ 64) ∧
    (h.collMap.any (fun y => y == (b.srcColl, b.dstColl)) = true) ∧ (b.stream ≠ 0) ∧ (b.stream ≤ h.record.streams.toNat) ∧
    (collAt s b.dstColl = some k) ∧ (tenantAt s k.tenant = some v) ∧ (v.root = some root) ∧
    (objAt s b.dstColl (nameMac root b.name) = none) :=
  ⟨by first | decide | rfl | exact ⟨rfl, rfl, rfl, rfl⟩, by first | decide | rfl | exact ⟨rfl, rfl, rfl, rfl⟩, by first | decide | rfl | exact ⟨rfl, rfl, rfl, rfl⟩, by first | decide | rfl | exact ⟨rfl, rfl, rfl, rfl⟩, by first | decide | rfl | exact ⟨rfl, rfl, rfl, rfl⟩, by first | decide | rfl | exact ⟨rfl, rfl, rfl, rfl⟩, by first | decide | rfl | exact ⟨rfl, rfl, rfl, rfl⟩, by first | decide | rfl | exact ⟨rfl, rfl, rfl, rfl⟩, by first | decide | rfl | exact ⟨rfl, rfl, rfl, rfl⟩, by first | decide | rfl | exact ⟨rfl, rfl, rfl, rfl⟩, by first | decide | rfl | exact ⟨rfl, rfl, rfl, rfl⟩, by first | decide | rfl | exact ⟨rfl, rfl, rfl, rfl⟩⟩

theorem wit_HitchObjectMessagesComplete_2 :
  let s : State := upHit { wHit with arrivals := [wArr] } [];
  let m : Myavo := { wMy with stream := 1 };
  let c : Ctx := wPeerCtx;
  let h : Hitch := { wHit with arrivals := [wArr] };
  let slot : Nat := 255;
  let part : Nat := 0;
  let offset : Nat := 0;
  let data : Bytes := [1, 2];
  let a : Arrival := wArr;
  (MessageTaken s m c h) ∧ (h.source = false) ∧ (h.state = .streaming) ∧ (m.stream ≠ 0) ∧ (slot < 256) ∧
    (arrivalOn h m.stream = some a) ∧ (a.fate = 0) := by decide

theorem wit_HitchObjectMessagesComplete_3 :
  let s : State := upHit { wHit with arrivals := [wArr] } [];
  let m : Myavo := { wMy with stream := 1 };
  let c : Ctx := wPeerCtx;
  let h : Hitch := { wHit with arrivals := [wArr] };
  let slot : Nat := 255;
  let part : Nat := 0;
  let offset : Nat := 0;
  let data : Bytes := [1, 2];
  let a : Arrival := wArr;
  (MessageTaken s m c h) ∧ (h.source = false) ∧ (h.state = .streaming) ∧ (m.stream ≠ 0) ∧ (slot < 256) ∧
    (arrivalOn h m.stream = some a) ∧ (a.fate = 0) := by decide

theorem wit_HitchObjectMessagesComplete_4 :
  let s : State := upHit { wHit with arrivals := [wArr] } [];
  let m : Myavo := { wMy with stream := 1 };
  let c : Ctx := wPeerCtx;
  let h : Hitch := { wHit with arrivals := [wArr] };
  let cause : Nat := 1;
  let a : Arrival := wArr;
  (MessageTaken s m c h) ∧ (h.source = false) ∧ (arrivalOn h m.stream = some a) := by decide

theorem wit_HitchObjectMessagesComplete_5 :
  let s : State := upHit { wHit with arrivals := [wArr] } [];
  let m : Myavo := wMy;
  let c : Ctx := wPeerCtx;
  let h : Hitch := { wHit with arrivals := [wArr] };
  let chain : Nat := 3;
  let position : Nat := 4;
  let entry : Bytes := [5];
  let a : Arrival := wArr;
  (MessageTaken s m c h) ∧ ((h.arrivals.filter (fun y => decide (y.excerpts.length < y.begin_.excerpts))).getLast? = some a) := by decide

theorem wit_HitchObjectMessagesComplete_6 :
  let s : State := upHit wHit [];
  let m : Myavo := wMy;
  let c : Ctx := wPeerCtx;
  let h : Hitch := wHit;
  let bytes : Bytes := [1];
  (MessageTaken s m c h) ∧ (h.source = false) := by decide

theorem wit_HitchObjectMessagesComplete_7 :
  let s : State := upHit { wHit with source := true } [];
  let m : Myavo := wMy;
  let c : Ctx := wPeerCtx;
  let h : Hitch := { wHit with source := true };
  let stream : Nat := 1;
  let slots : Nat := 5;
  (MessageTaken s m c h) ∧ (h.source = true) := by decide

theorem wit_HitchObjectMessagesComplete_8 :
  let s : State := upHit wHit [];
  let m : Myavo := wMy;
  let c : Ctx := wPeerCtx;
  let h : Hitch := wHit;
  let srcColl : Nat := 4;
  let lock : LockIn := { num := 1, issuer := 1, expiry := 0, reason := 2 };
  let d : Coll := { wColl with state := .active };
  (MessageTaken s m c h) ∧ (h.source = false) ∧ ((h.collMap.lookup srcColl).bind (collAt s) = some d) := by decide

theorem wit_HitchObjectMessagesComplete_9 :
  let s : State := upHit { wHit with delivered := [(9, 88, 6, zCStamp)] } [wSealed];
  let m : Myavo := wMy;
  let c : Ctx := wPeerCtx;
  let h : Hitch := { wHit with delivered := [(9, 88, 6, zCStamp)] };
  let srcColl : Nat := 4;
  let srcMac : Digest := 6;
  let d : Coll := { wColl with state := .active };
  let o : Obj := wSealed;
  (MessageTaken s m c h) ∧ (h.source = false) ∧ (crossedCopy (heardOf s m h) (hearing s m h) srcColl srcMac = some (d, o)) ∧
    (lockRefusal (meetExpiries d.num (some o.mac) (meetExpiries d.num none (heardOf s m h))) (bindingLocks (meetExpiries d.num (some
    o.mac) (meetExpiries d.num none (heardOf s m h))) d.num o.mac) = none) :=
  ⟨by decide, rfl, rfl, by decide⟩

theorem wit_HitchObjectMessagesComplete_10 :
  let s : State := { upHit { wHit with delivered := [(9, 88, 6, zCStamp)] } [wSealed] with obj := { (upUop [wSealed]).obj with locks := [{ coll := 9, mac := some 88, locks := [{ num := 1, expiry := 0, reason := 0, issuer := 1 }], stamp := zCStamp }] } };
  let m : Myavo := wMy;
  let c : Ctx := wPeerCtx;
  let h : Hitch := { wHit with delivered := [(9, 88, 6, zCStamp)] };
  let srcColl : Nat := 4;
  let srcMac : Digest := 6;
  let d : Coll := { wColl with state := .active };
  let o : Obj := wSealed;
  (MessageTaken s m c h) ∧ (h.source = false) ∧ (crossedCopy (heardOf s m h) (hearing s m h) srcColl srcMac = some (d, o)) ∧
    ((lockRefusal (meetExpiries d.num (some o.mac) (meetExpiries d.num none (heardOf s m h))) (bindingLocks (meetExpiries d.num (some
    o.mac) (meetExpiries d.num none (heardOf s m h))) d.num o.mac)).isSome = true) :=
  ⟨by decide, rfl, rfl, by decide⟩

theorem wit_HitchActsAndBatchesComplete_1 :
  let s : State := upOpen;
  let c : Call := wCall;
  let cid : Digest := 77;
  let x : Conn := wConn;
  let m : Ceremony := wM (.hitchOpen wHitRec);
  let p : PairingRec := wHitRec;
  (Checked s c 0x0901 isCustodian x) ∧ (QuorumMet s (.hitchOpen p) cid m) ∧ (openRefusal s p = none) ∧ (s.pst.drivesDown = false) :=
  ⟨by first | decide | rfl | exact ⟨rfl, rfl, rfl, rfl⟩,
    by first | decide | rfl | exact ⟨rfl, rfl, rfl, rfl⟩,
    by show openRefusal upOpen wHitRec = none; have k : pairingOurs upOpen wHitRec = true := (by refine Eq.trans (show _ = ((Config.moduleDigest == Config.moduleDigest || Config.moduleDigest == 0) && Config.sha3 (encodeFlds (custSetFlds upC)) == Config.sha3 (encodeFlds (custSetFlds upC))) from ?_) (by simp); unfold pairingOurs; simp only [show isSource upOpen wHitRec = true from rfl, if_true, show upOpen.pair.peer = none from rfl, Option.all_none, Bool.and_true]; first | done | rfl); unfold openRefusal; simp only [k]; decide,
    by first | decide | rfl | exact ⟨rfl, rfl, rfl, rfl⟩⟩

theorem wit_HitchActsAndBatchesComplete_2 :
  let s : State := upHitQ (.hitchClose 5) { wHit with source := true };
  let c : Call := wCall;
  let cid : Digest := 77;
  let x : Conn := wConn;
  let m : Ceremony := wM (.hitchClose 5);
  let id : BitVec 128 := 5;
  let h : Hitch := { wHit with source := true };
  (Checked s c 0x0902 isCustodian x) ∧ (QuorumMet s (.hitchClose id) cid m) ∧ (hitchAt s id = some h) ∧ (h.source = true) ∧
    (h.state = .streaming) ∧ (s.pst.drivesDown = false) := by decide

theorem wit_HitchActsAndBatchesComplete_3 :
  let s : State := upHitQ (.hitchAbort 5) wHit;
  let c : Call := wCall;
  let cid : Digest := 77;
  let x : Conn := wConn;
  let m : Ceremony := wM (.hitchAbort 5);
  let id : BitVec 128 := 5;
  let h : Hitch := wHit;
  (Checked s c 0x0903 isCustodian x) ∧ (QuorumMet s (.hitchAbort id) cid m) ∧ (hitchAt s id = some h) ∧ (hitchLive h = true) ∧
    (s.pst.drivesDown = false) := by decide

theorem wit_HitchActsAndBatchesComplete_4 :
  let s : State := upHit wHit [];
  let c : Call := wCall;
  let id : BitVec 128 := 5;
  let h : Hitch := wHit;
  let x : Conn := wConn;
  (Checked s c 0x0904 isCustodian x) ∧ (hitchAt s id = some h) := by decide

theorem wit_HitchActsAndBatchesComplete_5 :
  let s : State := upHit { wHit with record := { wHit.record with notAfter := 7 } } [];
  let id : BitVec 128 := 5;
  let h : Hitch := { wHit with record := { wHit.record with notAfter := 7 } };
  (hitchAt s id = some h) ∧ (hitchLive h = true) ∧ (h.away = false) ∧ (h.record.notAfter ≤ custodySec s) := by decide

theorem wit_HitchActsAndBatchesComplete_6 :
  let s : State := upHit { wHit with source := true } [];
  let id : BitVec 128 := 5;
  let h : Hitch := { wHit with source := true };
  (hitchAt s id = some h) ∧ (h.source = true) ∧ (h.away = false) ∧ (h.todo = []) ∧ (h.flight = []) ∧ (s.pwr.keepSafe = false) ∧
    (h.state = .streaming) := by decide

theorem wit_HitchActsAndBatchesComplete_7 :
  let s : State := upHit wHit [];
  let m : Myavo := wMy;
  let c : Ctx := wPeerCtx;
  let h : Hitch := wHit;
  let tenant : Nat := 3;
  let number : Nat := 1;
  let objects : Nat := 0;
  (MessageTaken s m c h) ∧ (h.source = false) ∧ ((openBatch h tenant).number = number) ∧ ((openBatch h tenant).lines.length = objects) := by decide

theorem wit_HitchActsAndBatchesComplete_8 :
  let s : State := upHit { wHit with source := true, batches := [{ wBatch with closed := true }] } [];
  let m : Myavo := wMy;
  let c : Ctx := wPeerCtx;
  let h : Hitch := { wHit with source := true, batches := [{ wBatch with closed := true }] };
  let tenant : Nat := 3;
  let number : Nat := 1;
  let lines : List LineIn := [];
  let leaf : Digest := 9;
  let b : HBatch := { wBatch with closed := true };
  let b1 : HBatch := { wBatch with closed := true, receipted := true, acked := true };
  (MessageTaken s m c h) ∧ (h.batches.find? (fun y => y.tenant == tenant && y.number == number && y.closed) = some b) ∧
    (b.acked = false) ∧ (lines.length = b.lines.length) ∧ ((List.zip b.lines lines).all (fun p => lineAgrees p.1 p.2) = true) ∧
    (b1 = { b with lines := (List.zip b.lines lines).map (fun p => lineFilled p.1 p.2), receipted := true, acked := true }) := by decide

theorem wit_HitchActsAndBatchesComplete_9 :
  let s : State := upHit wHit [];
  let m : Myavo := wMy;
  let c : Ctx := wPeerCtx;
  let h : Hitch := wHit;
  let tenant : Nat := 3;
  let number : Nat := 1;
  (MessageTaken s m c h) ∧ (h.source = false) := by decide

theorem wit_HitchActsAndBatchesComplete_10 :
  let s : State := upHit wHit [];
  let m : Myavo := wMy;
  let c : Ctx := wPeerCtx;
  let h : Hitch := wHit;
  let pass : Nat := 1;
  let objects : Nat := 2;
  (MessageTaken s m c h) ∧ (h.source = false) ∧ (h.closing = false) ∧ (h.batches.all (fun b => b.acked) = true) := by decide

theorem wit_HitchActsAndBatchesComplete_11 :
  let s : State := upHit { wHit with source := true, state := .closing } [];
  let m : Myavo := wMy;
  let c : Ctx := wPeerCtx;
  let h : Hitch := { wHit with source := true, state := .closing };
  let receipts : List (Nat × Bool × Digest) := [(3, true, 5)];
  (MessageTaken s m c h) ∧ (h.source = true) ∧ (h.state = .closing) ∧
    ((scopeTenants h).all (fun y => receipts.any (fun r => r.1 == y && r.2.1)) = true) ∧ (receipts.any (fun r => !r.2.1) = false) := by decide

theorem wit_NvmeControllerCommandsComplete_1 :
  let s : State := { upNv with block := { upNv.block with ctrls := [] } };
  let c : ConnectIn := { ctx := 7, cid := 4, subnqn := .tenant 3, hostNqn := [0x68], hostId := 6, cntlid := 0xFFFF, qid := 0, sqsize := 31, kato := 1000, noSqFlow := false };
  let id : Nat := 1;
  let d : HostCmd := (hostCmd (.connect c)).getD zHostCmd;
  (TakenUp s (.connect c) d) ∧ (checkConnect c (taken s (.connect c) d) = none) ∧ (c.qid = 0) ∧
    (freeCntlid (taken s (.connect c) d) = some id) :=
  ⟨by decide, by decide +kernel, rfl, by decide +kernel⟩

theorem wit_NvmeControllerCommandsComplete_2 :
  let s : State := upNvC { wCtrl with hostNqn := [0x68], queues := [{ ctx := 7, qid := 0, size := 32, noFlow := false, head := 0 }] } wNs;
  let c : ConnectIn := { ctx := 8, cid := 4, subnqn := .tenant 3, hostNqn := [0x68], hostId := 6, cntlid := 1, qid := 1, sqsize := 1023, kato := 0, noSqFlow := true };
  let k : Ctrl := { wCtrl with hostNqn := [0x68], queues := [{ ctx := 7, qid := 0, size := 32, noFlow := false, head := 0 }] };
  let d : HostCmd := (hostCmd (.connect c)).getD zHostCmd;
  (TakenUp s (.connect c) d) ∧ (checkConnect c (taken s (.connect c) d) = none) ∧ (c.qid ≠ 0) ∧
    (connectTo (taken s (.connect c) d) c = some k) := by decide

theorem wit_NvmeControllerCommandsComplete_3 :
  let s : State := upNv;
  let c : NvmeCmd := { wAdm with opcode := 0x7F };
  let controller : Bool := true;
  let d : HostCmd := (hostCmd (.disconnect c controller)).getD zHostCmd;
  let v : NvQueue := (queueAt (taken s (.disconnect c controller) d) c.ctx).getD { ctx := 7, qid := 0, size := 32, noFlow := false, head := 0 };
  (TakenUp s (.disconnect c controller) d) ∧ (opcodeCheck 0x7F c = none) ∧
    (queueAt (taken s (.disconnect c controller) d) c.ctx = some v) ∧ (controller = (v.qid == 0)) := by decide

theorem wit_NvmeControllerCommandsComplete_4 :
  let s : State := upNv;
  let c : NvmeCmd := { wAdm with opcode := 0x7F };
  let ofst : Word32 := 8;
  let v : Nat × Nat := (4, 0x00020000);
  let d : HostCmd := (hostCmd (.propertyGet c ofst)).getD zHostCmd;
  (TakenUp s (.propertyGet c ofst) d) ∧ (opcodeCheck 0x7F c = none) ∧
    (queueCheck (taken s (.propertyGet c ofst) d) c.ctx true true = none) ∧
    ((ctrlAt (taken s (.propertyGet c ofst) d) c.ctx).bind (fun k => propertyOf k ofst.toNat) = some v) := by decide

theorem wit_NvmeControllerCommandsComplete_5 :
  let s : State := upNv;
  let c : NvmeCmd := { wAdm with opcode := 0x7F };
  let value : Word64 := 0;
  let d : HostCmd := (hostCmd (.propertySet c 0x14 value)).getD zHostCmd;
  let k : Ctrl := (ctrlAt (taken s (.propertySet c 0x14 value) d) c.ctx).getD wCtrl;
  (TakenUp s (.propertySet c 0x14 value) d) ∧ (opcodeCheck 0x7F c = none) ∧
    (queueCheck (taken s (.propertySet c 0x14 value) d) c.ctx true true = none) ∧
    (ctrlAt (taken s (.propertySet c 0x14 value) d) c.ctx = some k) := by decide

theorem wit_NvmeControllerCommandsComplete_6 :
  let s : State := upNv;
  let c : NvmeCmd := { wAdm with opcode := 0x08 };
  let sqCtx : Nat := 8;
  let cid : Nat := 3;
  let d : HostCmd := (hostCmd (.abort c sqCtx cid)).getD zHostCmd;
  (TakenUp s (.abort c sqCtx cid) d) ∧ (opcodeCheck 0x08 c = none) ∧
    (queueCheck (taken s (.abort c sqCtx cid) d) c.ctx true false = none) ∧
    (abortable (taken s (.abort c sqCtx cid) d) c sqCtx cid = none) := by decide

theorem wit_NvmeControllerCommandsComplete_7 :
  let s : State := { upNvC wCtrl wNs with trn := { upNv.trn with ctxs := upNv.trn.ctxs.map (fun y => if y.num == 8 then { y with who := .tenant 4 } else y) }, block := { upNv.block with waiting := [wWait] } };
  let c : NvmeCmd := { wAdm with opcode := 0x08 };
  let sqCtx : Nat := 8;
  let cid : Nat := 3;
  let v : Waiting := wWait;
  let d : HostCmd := (hostCmd (.abort c sqCtx cid)).getD zHostCmd;
  (TakenUp s (.abort c sqCtx cid) d) ∧ (opcodeCheck 0x08 c = none) ∧
    (queueCheck (taken s (.abort c sqCtx cid) d) c.ctx true false = none) ∧
    (abortable (taken s (.abort c sqCtx cid) d) c sqCtx cid = some v) := by decide

theorem wit_NvmeControllerCommandsComplete_8 :
  let s : State := upNv;
  let c : NvmeCmd := { wAdm with opcode := 0x0C };
  let d : HostCmd := (hostCmd (.asynchronousEventRequest c)).getD zHostCmd;
  let k : Ctrl := (ctrlAt (taken s (.asynchronousEventRequest c) d) c.ctx).getD wCtrl;
  (TakenUp s (.asynchronousEventRequest c) d) ∧ (opcodeCheck 0x0C c = none) ∧
    (checkAer c (taken s (.asynchronousEventRequest c) d) = none) ∧ (ctrlAt (taken s (.asynchronousEventRequest c) d) c.ctx = some k) ∧
    (k.aens = []) := by decide

theorem wit_NvmeControllerCommandsComplete_9 :
  let s : State := upNvC { wCtrl with aens := [nsNotice] } wNs;
  let c : NvmeCmd := { wAdm with opcode := 0x0C };
  let e : Nat := nsNotice;
  let r : List Nat := [];
  let d : HostCmd := (hostCmd (.asynchronousEventRequest c)).getD zHostCmd;
  let k : Ctrl := (ctrlAt (taken s (.asynchronousEventRequest c) d) c.ctx).getD wCtrl;
  (TakenUp s (.asynchronousEventRequest c) d) ∧ (opcodeCheck 0x0C c = none) ∧
    (checkAer c (taken s (.asynchronousEventRequest c) d) = none) ∧ (ctrlAt (taken s (.asynchronousEventRequest c) d) c.ctx = some k) ∧
    (k.aens = e :: r) := by decide

theorem wit_NvmeControllerCommandsComplete_10 :
  let s : State := upNvC { wCtrl with deadline := 10 ^ 19 * 65536 } wNs;
  let c : NvmeCmd := { wAdm with opcode := 0x18 };
  let d : HostCmd := (hostCmd (.keepAlive c)).getD zHostCmd;
  let k : Ctrl := (ctrlAt (taken s (.keepAlive c) d) c.ctx).getD wCtrl;
  (TakenUp s (.keepAlive c) d) ∧ (opcodeCheck 0x18 c = none) ∧ (queueCheck (taken s (.keepAlive c) d) c.ctx true true = none) ∧
    (ctrlAt (taken s (.keepAlive c) d) c.ctx = some k) ∧ (now (metered s d) ≤ k.deadline) := by decide

theorem wit_NvmeControllerCommandsComplete_11 :
  let s : State := upNvC { wCtrl with deadline := 1 } wNs;
  let c : NvmeCmd := { wAdm with opcode := 0x18 };
  let d : HostCmd := (hostCmd (.keepAlive c)).getD zHostCmd;
  let k : Ctrl := (ctrlAt (taken s (.keepAlive c) d) c.ctx).getD wCtrl;
  (TakenUp s (.keepAlive c) d) ∧ (opcodeCheck 0x18 c = none) ∧ (queueCheck (taken s (.keepAlive c) d) c.ctx true true = none) ∧
    (ctrlAt (taken s (.keepAlive c) d) c.ctx = some k) ∧ (k.deadline < now (metered s d)) := by decide

theorem wit_NvmeControllerCommandsComplete_12 :
  let s : State := upNv;
  let controller : Nat := 1;
  let k : Ctrl := wCtrl;
  (s.block.ctrls.find? (fun y => y.cntlid == controller) = some k) ∧ (confirmed s k.deadline 0 = true) ∧ (aliveWaits s k = false) ∧
    (k.queues.any (fun y => packetHeld s y.ctx) = false) := by decide

theorem wit_NvmeAdminCommandsComplete_1 :
  let s : State := upNv;
  let c : NvmeCmd := { wAdm with opcode := 0x02 };
  let lid : Byte := 4;
  let p : Flds := layout 4096 [];
  let d : HostCmd := (hostCmd (.getLogPage c lid)).getD zHostCmd;
  let k : Ctrl := (ctrlAt (taken s (.getLogPage c lid) d) c.ctx).getD wCtrl;
  (TakenUp s (.getLogPage c lid) d) ∧ (opcodeCheck 0x02 c = none) ∧
    (queueCheck (taken s (.getLogPage c lid) d) c.ctx true true = none) ∧ (ctrlAt (taken s (.getLogPage c lid) d) c.ctx = some k) ∧
    (logPage (taken s (.getLogPage c lid) d) k c.ctx lid.toNat = some p) := by decide

theorem wit_NvmeAdminCommandsComplete_2 :
  let s : State := upNv;
  let c : NvmeCmd := { wAdm with opcode := 0x06 };
  let cns : Byte := 0;
  let csi : Byte := 0;
  let p : Flds := identifyNs wNs;
  let d : HostCmd := (hostCmd (.identify c cns csi)).getD zHostCmd;
  let k : Ctrl := (ctrlAt (taken s (.identify c cns csi) d) c.ctx).getD wCtrl;
  (TakenUp s (.identify c cns csi) d) ∧ (opcodeCheck 0x06 c = none) ∧
    (queueCheck (taken s (.identify c cns csi) d) c.ctx true true = none) ∧ (ctrlAt (taken s (.identify c cns csi) d) c.ctx = some k) ∧
    (identifyData (taken s (.identify c cns csi) d) k c.nsid.toNat cns.toNat csi.toNat = some (.ok p)) := by decide

theorem wit_NvmeAdminCommandsComplete_3 :
  let s : State := upNv;
  let c : NvmeCmd := { wAdm with opcode := 0x09 };
  let fid : Byte := 6;
  let save : Bool := false;
  let value : Word32 := 0;
  let d : HostCmd := (hostCmd (.setFeatures c fid save value)).getD zHostCmd;
  let k : Ctrl := (ctrlAt (taken s (.setFeatures c fid save value) d) c.ctx).getD wCtrl;
  (TakenUp s (.setFeatures c fid save value) d) ∧ (opcodeCheck 0x09 c = none) ∧
    (checkSetFeatures c fid save value (taken s (.setFeatures c fid save value) d) = none) ∧
    (ctrlAt (taken s (.setFeatures c fid save value) d) c.ctx = some k) := by decide

theorem wit_NvmeAdminCommandsComplete_4 :
  let s : State := upNv;
  let c : NvmeCmd := { wAdm with opcode := 0x0A };
  let fid : Byte := 7;
  let v : Nat × Flds := (127 * 65537, []);
  let d : HostCmd := (hostCmd (.getFeatures c fid)).getD zHostCmd;
  let k : Ctrl := (ctrlAt (taken s (.getFeatures c fid) d) c.ctx).getD wCtrl;
  (TakenUp s (.getFeatures c fid) d) ∧ (opcodeCheck 0x0A c = none) ∧
    (queueCheck (taken s (.getFeatures c fid) d) c.ctx true false = none) ∧ (ctrlAt (taken s (.getFeatures c fid) d) c.ctx = some k) ∧
    (featureOf (taken s (.getFeatures c fid) d) k c.nsid.toNat fid.toNat = .ok v) := by decide

theorem wit_NvmeAdminCommandsComplete_5 :
  let s : State := { upNv with obj := { upNv.obj with tenants := [{ wTenant 3 51 with quota := { wQuota with byteQuota := 10000000000 } }] } };
  let c : NvmeCmd := { wAdm with opcode := 0x0D };
  let p : NsCreate := { nsze := 262144, ncap := 262144, flbas := 0, dps := 0, geom := 0, tailZero := true };
  let d : HostCmd := (hostCmd (.namespaceCreate c p)).getD zHostCmd;
  (TakenUp s (.namespaceCreate c p) d) ∧ (opcodeCheck 0x0D c = none) ∧ (checkNsCreate c p (taken s (.namespaceCreate c p) d) = none) := by decide

theorem wit_NvmeAdminCommandsComplete_6 :
  let s : State := upNv;
  let c : NvmeCmd := { wAdm with opcode := 0x0D };
  let d : HostCmd := (hostCmd (.namespaceDelete c)).getD zHostCmd;
  (TakenUp s (.namespaceDelete c) d) ∧ (opcodeCheck 0x0D c = none) ∧ (checkOwnNss c (taken s (.namespaceDelete c) d) = none) := by decide

theorem wit_NvmeAdminCommandsComplete_7 :
  let s : State := upNv;
  let c : NvmeCmd := { wAdm with opcode := 0x80 };
  let f : FormatParm := { lbaf := 0, mset := false, pi := 0, pil := false, ses := 0 };
  let d : HostCmd := (hostCmd (.formatNvm c f)).getD zHostCmd;
  (TakenUp s (.formatNvm c f) d) ∧ (opcodeCheck 0x80 c = none) ∧ (checkFormat c f (taken s (.formatNvm c f) d) = none) := by decide

theorem wit_NvmeAdminCommandsComplete_8 :
  let s : State := upNv;
  let c : NvmeCmd := { wAdm with opcode := 0x84 };
  let action : BitVec 3 := 4;
  let ause : Bool := false;
  let d : HostCmd := (hostCmd (.sanitize c action ause)).getD zHostCmd;
  (TakenUp s (.sanitize c action ause) d) ∧ (opcodeCheck 0x84 c = none) ∧
    (checkSanitize c action (taken s (.sanitize c action ause) d) = none) := by decide

theorem wit_NvmeIoCommandsComplete_1 :
  let s : State := upNv;
  let c : NvmeCmd := { wIo with opcode := 0x00 };
  let d : HostCmd := (hostCmd (.flush c)).getD zHostCmd;
  (TakenUp s (.flush c) d) ∧ (opcodeCheck 0x00 c = none) ∧ (checkFlush c (taken s (.flush c) d) = none) := by decide

theorem wit_NvmeIoCommandsComplete_2 :
  let s : State := upNv;
  let c : NvmeCmd := { wIo with opcode := 0x01 };
  let slba : Word64 := 262143;
  let nlb : Word16 := 0;
  let fua : Bool := true;
  let pr : PrInfo := { pract := true, chkGuard := false, chkApp := false, chkRef := false, app := 0, appMask := 0, ref := 0 };
  let data : Bytes := List.replicate 4096 1;
  let pi : List PiData := [];
  let d : HostCmd := (hostCmd (.nvmeWrite c slba nlb fua pr data pi)).getD zHostCmd;
  (TakenUp s (.nvmeWrite c slba nlb fua pr data pi) d) ∧ (opcodeCheck 0x01 c = none) ∧
    (checkWrite c slba nlb pr data pi (taken s (.nvmeWrite c slba nlb fua pr data pi) d) = none) :=
  ⟨by first | decide | rfl | exact ⟨rfl, rfl, rfl, rfl⟩,
    by decide +kernel⟩

theorem wit_NvmeIoCommandsComplete_3 :
  let s : State := upNv;
  let c : NvmeCmd := { wIo with opcode := 0x02 };
  let slba : Word64 := 0;
  let nlb : Word16 := 1023;
  let pr : PrInfo := { pract := true, chkGuard := false, chkApp := false, chkRef := false, app := 0, appMask := 0, ref := 0 };
  let d : HostCmd := (hostCmd (.nvmeRead c slba nlb pr)).getD zHostCmd;
  (TakenUp s (.nvmeRead c slba nlb pr) d) ∧ (opcodeCheck 0x02 c = none) ∧
    (checkRead c slba nlb pr (taken s (.nvmeRead c slba nlb pr) d) = none) := by decide

theorem wit_NvmeIoCommandsComplete_5 :
  let s : State := upNv;
  let c : NvmeCmd := { wIo with opcode := 0x05 };
  let slba : Word64 := 0;
  let nlb : Word16 := 0;
  let pr : PrInfo := { pract := true, chkGuard := false, chkApp := false, chkRef := false, app := 0, appMask := 0, ref := 0 };
  let data : Bytes := List.replicate 4096 0;
  let pi : List PiData := [];
  let d : HostCmd := (hostCmd (.compare c slba nlb pr data pi)).getD zHostCmd;
  (TakenUp s (.compare c slba nlb pr data pi) d) ∧ (opcodeCheck 0x05 c = none) ∧
    (checkCompare c slba nlb pr data pi (taken s (.compare c slba nlb pr data pi) d) = none) :=
  ⟨by decide, by decide, by decide +kernel⟩

theorem wit_NvmeIoCommandsComplete_6 :
  let s : State := upNv;
  let c : NvmeCmd := { wIo with opcode := 0x08 };
  let slba : Word64 := 0;
  let nlb : Word16 := 65535;
  let d : HostCmd := (hostCmd (.writeZeroes c slba nlb)).getD zHostCmd;
  (TakenUp s (.writeZeroes c slba nlb) d) ∧ (opcodeCheck 0x08 c = none) ∧
    (checkWriteZeroes c slba nlb (taken s (.writeZeroes c slba nlb) d) = none) := by decide

theorem wit_NvmeIoCommandsComplete_7 :
  let s : State := upNv;
  let c : NvmeCmd := { wIo with opcode := 0x09 };
  let dealloc : Bool := true;
  let ranges : List (Word64 × Word32) := [(0, 8)];
  let d : HostCmd := (hostCmd (.datasetManagement c dealloc ranges)).getD zHostCmd;
  (TakenUp s (.datasetManagement c dealloc ranges) d) ∧ (opcodeCheck 0x09 c = none) ∧
    (checkDsm c ranges (taken s (.datasetManagement c dealloc ranges) d) = none) := by decide

theorem wit_NvmeIoCommandsComplete_8 :
  let s : State := upNv;
  let c : NvmeCmd := { wIo with opcode := 0x0C };
  let slba : Word64 := 0;
  let nlb : Word16 := 7;
  let pr : PrInfo := { pract := true, chkGuard := false, chkApp := false, chkRef := false, app := 0, appMask := 0, ref := 0 };
  let d : HostCmd := (hostCmd (.nvmeVerify c slba nlb pr)).getD zHostCmd;
  (TakenUp s (.nvmeVerify c slba nlb pr) d) ∧ (opcodeCheck 0x0C c = none) ∧
    (checkNvVerify c slba nlb pr (taken s (.nvmeVerify c slba nlb pr) d) = none) := by decide

theorem wit_NvmeReservationCommandsComplete_1 :
  let s : State := upNv;
  let c : NvmeCmd := { wIo with opcode := 0x0D };
  let action : BitVec 3 := 0;
  let ignoreKey : Bool := false;
  let cptpl : BitVec 2 := 0;
  let crkey : Word64 := 0;
  let nrkey : Word64 := 9;
  let d : HostCmd := (hostCmd (.reservationRegister c action ignoreKey cptpl crkey nrkey)).getD zHostCmd;
  (TakenUp s (.reservationRegister c action ignoreKey cptpl crkey nrkey) d) ∧ (opcodeCheck 0x0D c = none) ∧
    (checkRes c (fun n h => registerEffect n h action ignoreKey cptpl crkey nrkey) (taken s (.reservationRegister c action ignoreKey
    cptpl crkey nrkey) d) = none) := by decide

theorem wit_NvmeReservationCommandsComplete_2 :
  let s : State := upNv;
  let c : NvmeCmd := { wIo with opcode := 0x0E };
  let n : Ns := wNs;
  let d : HostCmd := (hostCmd (.reservationReport c)).getD zHostCmd;
  (TakenUp s (.reservationReport c) d) ∧ (opcodeCheck 0x0E c = none) ∧ (resNs c (taken s (.reservationReport c) d) = .ok n) := by decide

theorem wit_NvmeReservationCommandsComplete_3 :
  let s : State := upNvC wCtrl { wNs with registrants := [{ host := 6, key := 9 }] };
  let c : NvmeCmd := { wIo with opcode := 0x11 };
  let action : BitVec 3 := 0;
  let ignoreKey : Bool := false;
  let rtype : Byte := 1;
  let crkey : Word64 := 9;
  let prkey : Word64 := 0;
  let d : HostCmd := (hostCmd (.reservationAcquire c action ignoreKey rtype crkey prkey)).getD zHostCmd;
  (TakenUp s (.reservationAcquire c action ignoreKey rtype crkey prkey) d) ∧ (opcodeCheck 0x11 c = none) ∧
    (checkRes c (fun n h => acquireEffect n h action ignoreKey rtype crkey prkey) (taken s (.reservationAcquire c action ignoreKey rtype
    crkey prkey) d) = none) := by decide

theorem wit_NvmeReservationCommandsComplete_4 :
  let s : State := upNvC wCtrl { wNs with registrants := [{ host := 6, key := 9 }] };
  let c : NvmeCmd := { wIo with opcode := 0x15 };
  let action : BitVec 3 := 0;
  let ignoreKey : Bool := false;
  let rtype : Byte := 1;
  let crkey : Word64 := 9;
  let d : HostCmd := (hostCmd (.reservationRelease c action ignoreKey rtype crkey)).getD zHostCmd;
  (TakenUp s (.reservationRelease c action ignoreKey rtype crkey) d) ∧ (opcodeCheck 0x15 c = none) ∧
    (checkRes c (fun n h => releaseEffect n h action ignoreKey rtype crkey) (taken s (.reservationRelease c action ignoreKey rtype crkey)
    d) = none) := by decide

theorem wit_SetupsComplete_1 :
  let s : State := upC;
  let m : InitMsg := wInit;
  let p : Nat := 1024;
  (taking s = true) ∧ ((if onTether m.mac then m.service = 4 else m.udp.toNat = pTrnUdpPort s)) ∧ (m.rsv = 0) ∧
    (s.trn.setups.length < pTrnSetupMax s) ∧ (m.version = 1) ∧ (m.suite = 1) ∧ (choosePayload s m.mac m.sizes = some p) := by decide

theorem wit_SetupsComplete_2 :
  let s : State := { upC with trn := { upC.trn with setups := [zSetup] }, layers := { upC.layers with base := [(0x12000020, 1)] } };
  let m : InitMsg := wInit;
  (taking s = true) ∧ ((if onTether m.mac then m.service = 4 else m.udp.toNat = pTrnUdpPort s)) ∧ (m.rsv = 0) ∧
    (pTrnSetupMax s ≤ s.trn.setups.length) := by decide

theorem wit_SetupsComplete_3 :
  let s : State := upC;
  let m : InitMsg := { wInit with suite := 2 };
  (taking s = true) ∧ ((if onTether m.mac then m.service = 4 else m.udp.toNat = pTrnUdpPort s)) ∧ (m.rsv = 0) ∧
    (s.trn.setups.length < pTrnSetupMax s) ∧ (¬(m.version = 1 ∧ m.suite = 1) ∨ choosePayload s m.mac m.sizes = none) := by decide

theorem wit_SetupsComplete_4 :
  let s : State := { upS wSess with trn := { upC.trn with setups := [{ zSetup with handle := 2, service := 1, payload := 1024 }] } };
  let m : AuthMsg := wAuth;
  let x : Setup := { zSetup with handle := 2, service := 1, payload := 1024 };
  let who : Principal := .tenant 3;
  let z : State := { upS wSess with trn := upC.trn };
  (taking s = true) ∧ (s.trn.setups.find? (fun y => y.handle == m.handle && !y.initiator) = some x) ∧
    (z = { s with trn := { s.trn with setups := dropIf (fun y => y.handle == m.handle && !y.initiator) s.trn.setups } }) ∧
    (m.sigOk = true) ∧ ((m.kind = 2 → m.grantOk = true)) ∧ (credential z m.kind m.key m.grant = some who) ∧
    (quietDrops z who.tenant? x.mac = false) ∧ (setupRefusal z x.service x.payload who = none) := by decide

theorem wit_SetupsComplete_5 :
  let s : State := { upS wSess with trn := { upC.trn with setups := [{ zSetup with handle := 2, service := 1, payload := 1024 }] } };
  let m : AuthMsg := { wAuth with sigOk := false };
  let x : Setup := { zSetup with handle := 2, service := 1, payload := 1024 };
  (taking s = true) ∧ (s.trn.setups.find? (fun y => y.handle == m.handle && !y.initiator) = some x) ∧
    (m.sigOk = false ∨ (m.kind = 2 ∧ m.grantOk = false)) := by decide

theorem wit_SetupsComplete_6 :
  let s : State := { upS wSess with trn := { upC.trn with setups := [{ zSetup with handle := 2, service := 1, payload := 1024 }] } };
  let m : AuthMsg := { wAuth with key := 52 };
  let x : Setup := { zSetup with handle := 2, service := 1, payload := 1024 };
  let z : State := { upS wSess with trn := upC.trn };
  (taking s = true) ∧ (s.trn.setups.find? (fun y => y.handle == m.handle && !y.initiator) = some x) ∧
    (z = { s with trn := { s.trn with setups := dropIf (fun y => y.handle == m.handle && !y.initiator) s.trn.setups } }) ∧
    (m.sigOk = true) ∧ ((m.kind = 2 → m.grantOk = true)) ∧ (credential z m.kind m.key m.grant = none) := by decide

theorem wit_SetupsComplete_7 :
  let s : State := upS wSess;
  let parent : Nat := 9;
  let service : Nat := 1;
  let ictx : Nat := 3;
  let nonce : Digest := 5;
  let timestamp : Nat := 0;
  let depth : Nat := 8;
  let c : Ctx := wSess;
  let o : Nat × State := childSession c service ictx nonce (drawDigest s).1 timestamp depth (drawDigest s).2;
  (ctxAt s parent = some c) ∧ (c.closing = false) ∧ (isQp c = false) ∧ (c.helloOnly = false) ∧ (taking s = true) ∧
    (setupRefusal s service c.payload c.who = none) ∧
    (o = childSession c service ictx nonce (drawDigest s).1 timestamp depth (drawDigest s).2) :=
  ⟨rfl, rfl, rfl, rfl, rfl, by decide, rfl⟩

theorem wit_SetupsComplete_8 :
  let s : State := upS wSess;
  let parent : Nat := 9;
  let service : Nat := 3;
  let ictx : Nat := 3;
  let nonce : Digest := 5;
  let timestamp : Nat := 0;
  let depth : Nat := 8;
  let c : Ctx := wSess;
  let code : Nat := eDenied;
  (ctxAt s parent = some c) ∧ (c.closing = false) ∧ (isQp c = false) ∧ (c.helloOnly = false) ∧ (taking s = true) ∧
    (setupRefusal s service c.payload c.who = some code) := by decide

theorem wit_SetupsComplete_9 :
  let s : State := upS wSa;
  let parent : Nat := 4;
  let ctx : Nat := 0;
  let nonce : Digest := 5;
  let spiIn : Nat := 80;
  let spiOut : Nat := 81;
  let c : Ctx := wSa;
  (TimerRuns s parent c) ∧ (c.kind = .bryndle 5) := by decide

theorem wit_SetupsComplete_11 :
  let s : State := upS wSa;
  let parent : Nat := 4;
  let uop : Bool := false;
  let depth : Nat := 8;
  let c : Ctx := wSa;
  let o : Nat × State := openSession (.qp parent uop) c.who c.mac (choosePmtu s c.mac) (depthOf depth) 0 0 { peer := 0, src := c.src, keys := noKeys } s;
  (ctxAt s parent = some c) ∧ (c.kind = .bryndle 5) ∧ (c.closing = false) ∧ (taking s = true) ∧ (grantOk s c.who = true) ∧
    (setupLimit s (.qp parent uop) c.who = none) ∧
    (o = openSession (.qp parent uop) c.who c.mac (choosePmtu s c.mac) (depthOf depth) 0 0 { peer := 0, src := c.src, keys := noKeys } s) := by decide

theorem wit_SetupsComplete_12 :
  let s : State := { upS wSa with obj := { upC.obj with tenants := [{ wTenant 3 51 with quota := { wQuota with ctxAllow := 1 } }] } };
  let parent : Nat := 4;
  let uop : Bool := false;
  let depth : Nat := 8;
  let c : Ctx := wSa;
  let code : Nat := eQuota;
  (ctxAt s parent = some c) ∧ (c.kind = .bryndle 5) ∧ (c.closing = false) ∧ (taking s = true) ∧ (grantOk s c.who = true) ∧
    (setupLimit s (.qp parent uop) c.who = some code) := by decide

theorem wit_PacketsComplete_1 :
  let s : State := upS { wSess with through := 1 };
  let p : DataPkt := wData;
  let c : Ctx := { wSess with through := 1 };
  (PacketTaken s p.ctx p.gen p.mac (dataHeaderOk p) p.tagOk c) ∧ (seqAfter (dataCtx p c s).through p.seq = false) := by decide

theorem wit_PacketsComplete_2 :
  let s : State := upS wSess;
  let p : DataPkt := { wData with seq := 257 };
  let c : Ctx := wSess;
  (PacketTaken s p.ctx p.gen p.mac (dataHeaderOk p) p.tagOk c) ∧ (seqAfter (dataCtx p c s).through p.seq = true) ∧
    (256 < seqDist (dataCtx p c s).through p.seq) := by decide

theorem wit_PacketsComplete_3 :
  let s : State := upS { wSess with inMsgs := [{ zInMsg with id := 5, seq := 1, opcode := 1, count := 2, got := [(1, [3])], length := 2 }] };
  let p : DataPkt := { wData with count := 2, data := [1] };
  let c : Ctx := { wSess with inMsgs := [{ zInMsg with id := 5, seq := 1, opcode := 1, count := 2, got := [(1, [3])], length := 2 }] };
  let m : InMsg := { zInMsg with id := 5, seq := 1, opcode := 1, count := 2, got := [(1, [3])], length := 2 };
  (PacketTaken s p.ctx p.gen p.mac (dataHeaderOk p) p.tagOk c) ∧ (seqAfter (dataCtx p c s).through p.seq = true) ∧
    (seqDist (dataCtx p c s).through p.seq ≤ 256) ∧ ((dataCtx p c s).inMsgs.find? (fun x => x.seq == p.seq) = some m) ∧
    (m.refused = false) ∧ (m.id = p.id) ∧ (m.whole = none) ∧ (m.got.lookup p.index = none) := by decide

theorem wit_PacketsComplete_4 :
  let s : State := upS { wSess with offset := signed48 ((stamp48 up : Int) - 2000000) };
  let p : DataPkt := wData;
  let c : Ctx := { wSess with offset := signed48 ((stamp48 up : Int) - 2000000) };
  (PacketTaken s p.ctx p.gen p.mac (dataHeaderOk p) p.tagOk c) ∧ (seqAfter (dataCtx p c s).through p.seq = true) ∧
    (seqDist (dataCtx p c s).through p.seq ≤ 256) ∧ ((dataCtx p c s).inMsgs.find? (fun x => x.seq == p.seq) = none) ∧
    (((freshW (dataCtx p c s) / nsU : Nat) : Int) < ageOf (dataHeard p c s) (dataCtx p c s) (mono s) (p.id / 65536)) := by decide

theorem wit_PacketsComplete_5 :
  let c : Ctx := { wSess with offsetAt := mono up };
  let s : State := upS c;
  let p : DataPkt := { wData with id := stamp48 up * 65536 };
  (PacketTaken s p.ctx p.gen p.mac (dataHeaderOk p) p.tagOk c) ∧ (seqAfter (dataCtx p c s).through p.seq = true) ∧
    (seqDist (dataCtx p c s).through p.seq ≤ 256) ∧ ((dataCtx p c s).inMsgs.find? (fun x => x.seq == p.seq) = none) ∧
    (ageOf (dataHeard p c s) (dataCtx p c s) (mono s) (p.id / 65536) ≤ ((freshW (dataCtx p c s) / nsU : Nat) : Int)) ∧
    ((dataHeard p c s).trn.seen.length < 4194304) ∧ (p.count = 1 ∨ p.index + 1 ≠ p.count) := by decide

theorem wit_PacketsComplete_6 :
  let s : State := upS wSess;
  let p : CtlPkt := wCtl;
  let through : Nat := 0;
  let bitmap : BitVec 256 := 0;
  let ceMarks : Nat := 1;
  let c : Ctx := wSess;
  (PacketTaken s p.ctx p.gen p.mac p.headerOk p.tagOk c) := by decide

theorem wit_PacketsComplete_7 :
  let s : State := upS { wSess with outMsgs := [{ zOutMsg with seq := 3, packets := 1, wire := [[7]] }] };
  let p : CtlPkt := wCtl;
  let seq : Nat := 3;
  let ranges : List (Nat × Nat) := [(0, 1)];
  let c : Ctx := { wSess with outMsgs := [{ zOutMsg with seq := 3, packets := 1, wire := [[7]] }] };
  let o : OutMsg := { zOutMsg with seq := 3, packets := 1, wire := [[7]] };
  (PacketTaken s p.ctx p.gen p.mac p.headerOk p.tagOk c) ∧
    ((ctxNow c (ctlHeard p c s)).outMsgs.find? (fun x => x.seq == seq && !x.queued) = some o) := by decide

theorem wit_PacketsComplete_8 :
  let s : State := upS wSess;
  let p : CtlPkt := wCtl;
  let seq : Nat := 3;
  let c : Ctx := wSess;
  let c1 : Ctx := (ctxAt (discardIn (ctxNow c (ctlHeard p c s)).num seq (ctlHeard p c s)) (ctxNow c (ctlHeard p c s)).num).getD zCtx;
  (PacketTaken s p.ctx p.gen p.mac p.headerOk p.tagOk c) ∧
    (ctxAt (discardIn (ctxNow c (ctlHeard p c s)).num seq (ctlHeard p c s)) (ctxNow c (ctlHeard p c s)).num = some c1) := by decide

theorem wit_PacketsComplete_9 :
  let s : State := upS wSess;
  let p : CtlPkt := wCtl;
  let through : Nat := 0;
  let bitmap : BitVec 256 := 0;
  let asked : Nat := 3;
  let c : Ctx := wSess;
  let c1 : Ctx := (ctxAt (takeAcks (ctxNow c (ctlHeard p c s)).num through bitmap (ctlHeard p c s)) (ctxNow c (ctlHeard p c s)).num).getD zCtx;
  (PacketTaken s p.ctx p.gen p.mac p.headerOk p.tagOk c) ∧
    (ctxAt (takeAcks (ctxNow c (ctlHeard p c s)).num through bitmap (ctlHeard p c s)) (ctxNow c (ctlHeard p c s)).num = some c1) ∧
    (c1.outMsgs.any (fun o => o.seq == asked && o.statusAsked) = false) :=
  ⟨by decide, rfl, rfl⟩

theorem wit_PacketsComplete_10 :
  let s : State := upS { wSess with outMsgs := [{ zOutMsg with seq := 3, packets := 1, wire := [[7]], statusAsked := true }] };
  let p : CtlPkt := wCtl;
  let through : Nat := 0;
  let bitmap : BitVec 256 := 0;
  let asked : Nat := 3;
  let c : Ctx := { wSess with outMsgs := [{ zOutMsg with seq := 3, packets := 1, wire := [[7]], statusAsked := true }] };
  let c1 : Ctx := (ctxAt (takeAcks (ctxNow c (ctlHeard p c s)).num through bitmap (ctlHeard p c s)) (ctxNow c (ctlHeard p c s)).num).getD zCtx;
  let o : OutMsg := { zOutMsg with seq := 3, packets := 1, wire := [[7]], statusAsked := true };
  (PacketTaken s p.ctx p.gen p.mac p.headerOk p.tagOk c) ∧
    (ctxAt (takeAcks (ctxNow c (ctlHeard p c s)).num through bitmap (ctlHeard p c s)) (ctxNow c (ctlHeard p c s)).num = some c1) ∧
    (c1.outMsgs.find? (fun x => x.seq == asked && x.statusAsked) = some o) :=
  ⟨by decide, rfl, rfl⟩

theorem wit_PacketsComplete_11 :
  let s : State := upS wSess;
  let p : CtlPkt := wCtl;
  let code : Word16 := 0;
  let c : Ctx := wSess;
  (PacketTaken s p.ctx p.gen p.mac p.headerOk p.tagOk c) := by decide

theorem wit_PacketsComplete_12 :
  let s : State := upQp wQp;
  let sa : Ctx := wSa;
  let c : Ctx := wQp;
  let uop : Bool := false;
  let p : RocePkt := { wRoce with opcode := 6 };
  (RoceTaken s p sa c uop) ∧ (p.opcode = 6) := by decide

theorem wit_PacketsComplete_13 :
  let s : State := upQp wQp;
  let sa : Ctx := wSa;
  let c : Ctx := wQp;
  let uop : Bool := false;
  let p : RocePkt := { wRoce with opcode := 8, imm := 0x60 };
  (RoceTaken s p sa c uop) ∧ (p.opcode = 8) ∧ (p.imm.toNat = 0x60) := by decide

theorem wit_PacketsComplete_14 :
  let s : State := upQp wQp;
  let sa : Ctx := wSa;
  let c : Ctx := wQp;
  let uop : Bool := false;
  let p : RocePkt := wRoce;
  (RoceTaken s p sa c uop) ∧ (1 ≤ p.opcode) ∧ (p.opcode ≤ 4) ∧
    ((p.psn + 16777216 - (ctxNow c (roceHeard p sa c s)).psn) % 16777216 = 0) := by decide

theorem wit_PacketsComplete_15 :
  let s : State := upQp wQp;
  let sa : Ctx := wSa;
  let c : Ctx := wQp;
  let uop : Bool := false;
  let p : RocePkt := { wRoce with psn := 6 };
  (RoceTaken s p sa c uop) ∧ (1 ≤ p.opcode) ∧ (p.opcode ≤ 4) ∧
    (0 < (p.psn + 16777216 - (ctxNow c (roceHeard p sa c s)).psn) % 16777216) ∧
    ((p.psn + 16777216 - (ctxNow c (roceHeard p sa c s)).psn) % 16777216 < 8388608) := by decide

theorem wit_PacketsComplete_16 :
  let s : State := upQp wQp;
  let sa : Ctx := wSa;
  let c : Ctx := wQp;
  let uop : Bool := false;
  let p : RocePkt := { wRoce with psn := 4 };
  (RoceTaken s p sa c uop) ∧ (1 ≤ p.opcode) ∧ (p.opcode ≤ 4) ∧
    (8388608 ≤ (p.psn + 16777216 - (ctxNow c (roceHeard p sa c s)).psn) % 16777216) := by decide

theorem wit_PacketsComplete_17 :
  let s : State := upC;
  let p : RocePkt := wRoce;
  (taking s = true) ∧ (p.esp = false ∨ p.icvOk = false ∨ saOf s p.spi = none) := by decide

theorem wit_DeliveriesComplete_1 :
  let n : Nat := 9;
  let seq : Nat := 1;
  let m : InMsg := { zInMsg with seq := 1, opcode := 1, count := 1, whole := some 0 };
  let c : Ctx := { wSess with inMsgs := [m] };
  let s : State := upS c;
  (AtItsTurn s n seq 1 c m) := by decide

theorem wit_DeliveriesComplete_2 :
  let n : Nat := 9;
  let seq : Nat := 1;
  let m : InMsg := { zInMsg with seq := 1, opcode := 2, count := 1, whole := some 0 };
  let c : Ctx := { wSess with inMsgs := [m] };
  let s : State := upS c;
  (AtItsTurn s n seq 2 c m) := by decide

theorem wit_DeliveriesComplete_3 :
  let n : Nat := 9;
  let seq : Nat := 1;
  let o : Nat := 9;
  let m : InMsg := { zInMsg with seq := 1, opcode := 3, count := 1, whole := some 0, region := some 9 };
  let c : Ctx := { wSess with inMsgs := [m] };
  let s : State := upS c;
  let z : State := turnTaken c seq s;
  (AtItsTurn s n seq 3 c m) ∧ (m.region = some o) ∧ (z = turnTaken c seq s) := by decide

theorem wit_DeliveriesComplete_4 :
  let n : Nat := 9;
  let seq : Nat := 1;
  let m : InMsg := { zInMsg with seq := 1, opcode := 4, count := 1, whole := some 0, got := [(0, [1, 0, 0, 0])] };
  let c : Ctx := { wSess with inMsgs := [m] };
  let s : State := upS c;
  (AtItsTurn s n seq 4 c m) ∧ (leValue ((msgBytes m).take 4) ≤ 67108864) := by decide

theorem wit_DeliveriesComplete_5 :
  let n : Nat := 9;
  let seq : Nat := 1;
  let m : InMsg := { zInMsg with seq := 1, opcode := 4, count := 1, whole := some 0, got := [(0, [1, 0, 0, 4])] };
  let c : Ctx := { wSess with inMsgs := [m] };
  let s : State := upS c;
  (AtItsTurn s n seq 4 c m) ∧ (67108864 < leValue ((msgBytes m).take 4)) := by decide

theorem wit_DeliveriesComplete_6 :
  let n : Nat := 9;
  let seq : Nat := 1;
  let m : InMsg := { zInMsg with seq := 1, opcode := 5, count := 1, whole := some 0 };
  let c : Ctx := { wSess with inMsgs := [m] };
  let s : State := upS c;
  (AtItsTurn s n seq 5 c m) := by decide

theorem wit_DeliveriesComplete_7 :
  let n : Nat := 9;
  let c : Ctx := { wSess with place := .fetching };
  let s : State := upS c;
  (ctxAt s n = some c) ∧ (c.place = .fetching ∨ (c.place = .writeBack ∧ packetHeld s n = true)) := by decide

theorem wit_DeliveriesComplete_8 :
  let s : State := upS { wSess with place := .writeBack };
  let z : State := writtenBack s;
  (serving s = true) ∧ (z = writtenBack s) := by decide

theorem wit_DeliveriesComplete_9 :
  let n : Nat := 9;
  let id : Nat := 5;
  let s : State := upS wSess;
  (packetHeld s n = false) := by decide

theorem wit_DeliveriesComplete_10 :
  let n : Nat := 9;
  let seq : Nat := 1;
  let c : Ctx := { wSess with offset := signed48 ((stamp48 up : Int) - 2000000), inMsgs := [{ zInMsg with seq := 1, count := 2 }] };
  let s : State := upS c;
  (TimerRuns s n c) ∧
    (c.inMsgs.any (fun m => m.seq == seq && m.whole.isNone && !m.refused && decide (((freshW c / nsU : Nat) : Int) < ageOf s c (mono s)
    (m.id / 65536))) = true) := by decide

theorem wit_TransportTimersComplete_1 :
  let n : Nat := 9;
  let c : Ctx := { wSess with ackDue := some 0 };
  let s : State := upS c;
  (TimerRuns s n c) ∧ (c.ackDue.isSome = true) := by decide

theorem wit_TransportTimersComplete_2 :
  let n : Nat := 9;
  let seq : Nat := 1;
  let m : InMsg := { zInMsg with seq := 1, count := 2, nakAt := some 0 };
  let c : Ctx := { wSess with inMsgs := [m] };
  let s : State := upS c;
  (TimerRuns s n c) ∧
    (c.inMsgs.find? (fun x => x.seq == seq && x.whole.isNone && x.nakAt.any (fun y => decide (y + ackW c ≤ mono s))) = some m) := by decide

theorem wit_TransportTimersComplete_3 :
  let n : Nat := 9;
  let c : Ctx := { wSess with rtoAt := some 0, rto := 10 };
  let s : State := upS c;
  let r : Nat := 20;
  (TimerRuns s n c) ∧ (isQp c = false) ∧ (c.rtoAt.any (fun x => confirmed s x 0) = true) ∧ (r = min (c.set.rtoMax * usU) (2 * c.rto)) := by decide

theorem wit_TransportTimersComplete_4 :
  let n : Nat := 9;
  let c : Ctx := { wSess with outMsgs := [{ zOutMsg with seq := 1 }] };
  let s : State := upS c;
  let seq : Nat := 1;
  (TimerRuns s n c) ∧ (isQp c = false) ∧
    (c.outMsgs.any (fun o => o.seq == seq && !o.queued && !o.statusAsked && confirmed s o.sentAt (freshW c)) = true) := by decide

theorem wit_TransportTimersComplete_5 :
  let n : Nat := 9;
  let c : Ctx := { wSess with outMsgs := [zOutMsg] };
  let s : State := upS c;
  (TimerRuns s n c) ∧ (isQp c = false) ∧ (c.outMsgs.any (fun o => !o.queued) = true) ∧ (confirmed s c.heard (deadW c) = true) := by decide

theorem wit_TransportTimersComplete_6 :
  let n : Nat := 9;
  let c : Ctx := wSess;
  let s : State := upS c;
  (TimerRuns s n c) ∧ (isQp c = false) ∧ (c.txPhase = 0 ∨ c.txSince + 2 * freshW c ≤ mono s) := by decide

theorem wit_TransportTimersComplete_7 :
  let n : Nat := 9;
  let c : Ctx := { wSess with oldKey := some 0 };
  let s : State := upS c;
  (TimerRuns s n c) ∧ (c.oldKey.any (fun x => confirmed s x 0) = true) := by decide

theorem wit_TransportTimersComplete_8 :
  let n : Nat := 9;
  let c : Ctx := { wSess with kind := .bryndle 5 };
  let s : State := upS c;
  (TimerRuns s n c) ∧ (c.kind = .bryndle 5) := by decide

theorem wit_TransportTimersComplete_9 :
  let n : Nat := 9;
  let c : Ctx := { wSess with oldSpi := some (3, 1) };
  let s : State := upS c;
  let o : Nat := 3;
  let at_ : Nat := 1;
  (TimerRuns s n c) ∧ (c.oldSpi = some (o, at_)) ∧ (0 < at_) ∧ (confirmed s at_ 0 = true) := by decide

theorem wit_TransportTimersComplete_10 :
  let n : Nat := 9;
  let c : Ctx := { wQp with qpAckAt := some 0 };
  let s : State := upS c;
  (TimerRuns s n c) ∧ (isQp c = true) ∧ (c.qpAckAt.any (fun x => confirmed s x 0) = true) := by decide

theorem wit_TransportTimersComplete_11 :
  let n : Nat := 9;
  let c : Ctx := wQp;
  let s : State := upS c;
  (taking s = true) ∧ (ctxAt s n = some c) ∧ (isQp c = true) ∧ (c.closing = false) := by decide

theorem wit_TransportTimersComplete_12 :
  let n : Nat := 9;
  let c : Ctx := wSess;
  let s : State := upS c;
  (ctxAt s n = some c) ∧ (c.closing = false) ∧ (serving s = true) ∧ (packetHeld s n = false) ∧
    (confirmed s c.rateAt (pSchCcRecover s * usU) = true) := by decide

end Tests
end Sys2Proof
end

section
/-!
PROOFS. Every command answers a next state (00 R6): a `.next` does, and a branch does when both its sides do; so each meaning is taken apart along its
own branches down to the `.next` each of them ends in.
-/
namespace Sys2Proof
namespace Machine

/-- The outcome is a next state, neither a fault nor a refusal of the model. -/
def HasNext (o : Host.Outcome State Fault Refusal) : Prop := ∃ t, o = .next t

theorem HasNext.next {t : State} : HasNext (.next t) := ⟨t, rfl⟩

theorem HasNext.ite {c : Prop} [Decidable c] {a b : Host.Outcome State Fault Refusal} (h : HasNext a) (k : HasNext b) :
    HasNext (if c then a else b) := by
  split <;> assumption

/-! A command that is not below has one `.next` as its whole meaning, whatever its operands: `HasNext.next` is its lemma. That includes the
commands of a MAC, where `onMac` answers the state unchanged for a MAC above 31. -/

/-! ## Object store, network and block commands -/

theorem execOpenIdleExpiry_hasNext {handle s} : HasNext (execOpenIdleExpiry handle s) := by
  unfold execOpenIdleExpiry
  split
  · exact .next
  · split
    · exact .next
    · exact .ite .next .next

theorem execOpticInsert_hasNext {port media cls s} : HasNext (execOpticInsert port media cls s) := .ite .next .next

theorem execKeepAliveExpiry_hasNext {controller s} : HasNext (execKeepAliveExpiry controller s) := by
  unfold execKeepAliveExpiry
  split
  · exact .next
  · exact .ite .next .next

/-! ## Members, rebuild and scrub -/

theorem execDriveCriticalWarning_hasNext {slot bits cfs s} : HasNext (execDriveCriticalWarning slot bits cfs s) :=
  .ite .next (.ite .next .next)

theorem execHedgeTimeout_hasNext {slot tag s} : HasNext (execHedgeTimeout slot tag s) := by
  unfold execHedgeTimeout
  dsimp only
  split
  · exact .next
  · refine .ite .next ?_
    split
    · split
      · exact .next
      · exact .ite .next .next
    · exact .next

theorem execRebuildRow_hasNext {s} : HasNext (execRebuildRow s) := by
  unfold execRebuildRow
  dsimp only
  split
  · exact .next
  · split
    · exact .next
    · exact .ite .next .next

theorem execDriveInsert_hasNext {slot lbas dualPort ours checksOk cryptoErase blockErase nguid serial s} :
    HasNext (execDriveInsert slot lbas dualPort ours checksOk cryptoErase blockErase nguid serial s) :=
  .ite .next (.ite .next (.ite .next .next))

theorem execRestoreRow_hasNext {slot s} : HasNext (execRestoreRow slot s) := by
  unfold execRestoreRow
  refine .ite .next ?_
  dsimp only
  split
  · exact .ite .next .next
  · exact .ite .next .next

theorem execScrubRow_hasNext {f s} : HasNext (execScrubRow f s) := by
  unfold execScrubRow
  refine .ite .next (.ite .next ?_)
  cases f with
  | row unread bad headerOk =>
    dsimp only
    split
    · exact .next
    · split
      · exact .ite .next .next
      · exact .next
  | ringCopy slot shard seq valid =>
    refine .ite .next ?_
    dsimp only
    split
    · split <;> exact .next
    · exact .next
  | descriptor slot agrees => exact .ite .next .next

theorem execScrubPassEnd_hasNext {s} : HasNext (execScrubPassEnd s) := .ite .next .next

/-! ## Drives and the host endpoint (bus master) -/

theorem execDriveLinkUp_hasNext {slot rate width d s} : HasNext (execDriveLinkUp slot rate width d s) := by
  unfold execDriveLinkUp
  refine .ite .next (.ite .next (.ite .next ?_))
  dsimp only
  split
  · exact .ite .next .next
  · exact .next

theorem execDiscoveryStepTimeout_hasNext {slot s} : HasNext (execDiscoveryStepTimeout slot s) := by
  unfold execDiscoveryStepTimeout
  dsimp only
  split <;> exact .next

theorem execDriveMemoryRequest_hasNext {slot addr len isWrite relaxed s} :
    HasNext (execDriveMemoryRequest slot addr len isWrite relaxed s) := by
  unfold execDriveMemoryRequest
  refine .ite .next ?_
  dsimp only
  split <;> exact .next

theorem execDriveTimeout_hasNext {slot tag s} : HasNext (execDriveTimeout slot tag s) := by
  unfold execDriveTimeout
  split <;> exact .next

theorem execConfigReadTimeout_hasNext {slot num s} : HasNext (execConfigReadTimeout slot num s) := by
  unfold execConfigReadTimeout
  dsimp only
  split
  · exact .next
  · exact .ite .next .next

theorem execDriveLinkDown_hasNext {slot containment s} : HasNext (execDriveLinkDown slot containment s) := .ite .next .next

theorem execPerstPulseEnd_hasNext {slot s} : HasNext (execPerstPulseEnd slot s) := by
  unfold execPerstPulseEnd
  split <;> exact .next

theorem execDriveLinkDownTimeout_hasNext {slot s} : HasNext (execDriveLinkDownTimeout slot s) := by
  unfold execDriveLinkDownTimeout
  split <;> exact .next

theorem execBusMasterEnable_hasNext {on s} : HasNext (execBusMasterEnable on s) := .ite .next .next

/-! ## Transport and the pair -/

theorem execDataPacket_hasNext {p s} : HasNext (execDataPacket p s) := by
  unfold execDataPacket
  dsimp only
  split <;> exact .next

theorem execPairLinkDown_hasNext {s} : HasNext (execPairLinkDown s) := .ite .next (.ite .next (.ite .next .next))

theorem execMirrorRecord_hasNext {num kind shard seq time sub bytes ctx tag addr data capsule s} :
    HasNext (execMirrorRecord num kind shard seq time sub bytes ctx tag addr data capsule s) := .ite .next .next

theorem execPairHeartbeatSend_hasNext {s} : HasNext (execPairHeartbeatSend s) := .ite .next .next

theorem execPairHeartbeat_hasNext {tether ack ackStamp power s} : HasNext (execPairHeartbeat tether ack ackStamp power s) :=
  .ite .next .next

theorem execTetherYield_hasNext {s} : HasNext (execTetherYield s) := .ite .next .next

theorem execShardHandover_hasNext {shard stampTime stampSeq s} : HasNext (execShardHandover shard stampTime stampSeq s) :=
  .ite .next (.ite .next (.ite .next .next))

theorem execForwardedCommand_hasNext (num : Nat) {capsule s} : HasNext (execForwardedCommand num capsule s) := by
  unfold execForwardedCommand
  dsimp only
  split
  · exact .next
  · exact .ite .next (.ite .next .next)

theorem execPairTimeMessage_hasNext {offset mode s} : HasNext (execPairTimeMessage offset mode s) := .ite .next .next

/-! ## Time -/

theorem execPtpAnnounce_hasNext {a s} : HasNext (execPtpAnnounce a s) := .ite .next (.ite .next .next)

theorem execPtpSync_hasNext {mac transport gm offset logSync s} : HasNext (execPtpSync mac transport gm offset logSync s) :=
  .ite .next (.ite .next (.ite .next .next))

theorem execDelayReqSend_hasNext {s} : HasNext (execDelayReqSend s) := .ite .next .next

theorem execDelayResp_hasNext {mac transport gm delay s} : HasNext (execDelayResp mac transport gm delay s) := .ite .next .next

theorem execAnnounceReceiptTimeout_hasNext {s} : HasNext (execAnnounceReceiptTimeout s) := by
  unfold execAnnounceReceiptTimeout
  split
  · exact .next
  · refine .ite .next ?_
    dsimp only
    split
    · exact .next
    · exact .ite .next .next

theorem execPtpLockAchieved_hasNext {s} : HasNext (execPtpLockAchieved s) := by
  unfold execPtpLockAchieved
  split
  · exact .next
  · exact .ite .next .next

theorem execHoldoverLimit_hasNext {s} : HasNext (execHoldoverLimit s) := by
  unfold execHoldoverLimit
  split
  · exact .next
  · exact .ite .next .next

theorem execPpsEdge_hasNext {rising offset s} : HasNext (execPpsEdge rising offset s) :=
  .ite .next (.ite (.ite (.ite .next .next) .next) (.ite .next (.ite .next .next)))

theorem execRef10mQualified_hasNext {ppb s} : HasNext (execRef10mQualified ppb s) := .ite .next .next

theorem execRef10mLoss_hasNext {s} : HasNext (execRef10mLoss s) := .ite .next .next

theorem execAnchorAged_hasNext {s} : HasNext (execAnchorAged s) := .ite .next .next

/-! ## Hold, mover, tether and schedule -/

theorem execCoilCountVisit_hasNext {cell s} : HasNext (execCoilCountVisit cell s) := by
  unfold execCoilCountVisit
  refine .ite .next (.ite .next ?_)
  dsimp only
  split
  · exact .next
  · exact .ite .next (.ite .next .next)

theorem execCoilPassEnd_hasNext {s} : HasNext (execCoilPassEnd s) := .ite .next .next

theorem execMoverBurstComplete_hasNext {channel s} : HasNext (execMoverBurstComplete channel s) := by
  unfold execMoverBurstComplete
  refine .ite .next ?_
  dsimp only
  split <;> exact .next

theorem execMoverFault_hasNext {channel ecc s} : HasNext (execMoverFault channel ecc s) := .ite .next (.ite .next .next)

theorem execTetherHeartbeat_hasNext {source seq fromDown addr shelf digest role hops s} :
    HasNext (execTetherHeartbeat source seq fromDown addr shelf digest role hops s) := .ite .next .next

theorem execTetherHeartbeatSend_hasNext {s} : HasNext (execTetherHeartbeatSend s) := .ite .next .next

theorem execTetherMailbox_hasNext {source dest seq hops fromDown ctx length s} :
    HasNext (execTetherMailbox source dest seq hops fromDown ctx length s) := .ite .next .next

theorem execDiscover_hasNext {source seq hops fromDown ends s} : HasNext (execDiscover source seq hops fromDown ends s) :=
  .ite .next .next

theorem execTokenRefill_hasNext {s} : HasNext (execTokenRefill s) := .ite .next .next

theorem execShareWindowEnd_hasNext {slot s} : HasNext (execShareWindowEnd slot s) := .ite .next .next

theorem execQuietPeriodStart_hasNext {tenant s} : HasNext (execQuietPeriodStart tenant s) := by
  unfold execQuietPeriodStart
  split
  · exact .next
  · exact .ite .next .next

/-! ## Layers, ceremonies and mailboxes -/

theorem execRebuildSafeExpiry_hasNext {s} : HasNext (execRebuildSafeExpiry s) := by
  unfold execRebuildSafeExpiry
  split <;> exact .next

theorem execCeremonyExpiry_hasNext {statement s} : HasNext (execCeremonyExpiry statement s) := by
  unfold execCeremonyExpiry
  split <;> exact .next

theorem execMailboxDoorbell_hasNext {mbx tag endpoint opcode entries length sequenceOk tail s} :
    HasNext (execMailboxDoorbell mbx tag endpoint opcode entries length sequenceOk tail s) :=
  .ite .next (.ite .next (.ite .next (.ite .next (.ite .next (.ite .next .next)))))

theorem execResponseHeadWrite_hasNext {mbx head s} : HasNext (execResponseHeadWrite mbx head s) :=
  .ite .next (.ite .next (.ite .next .next))

/-! ## Index and log -/

theorem execIndexWalkComplete_hasNext {id found s} : HasNext (execIndexWalkComplete id found s) := by
  unfold execIndexWalkComplete
  split
  · exact .next
  · refine .ite .next ?_
    cases found with
    | whole => exact .next
    | page => exact .next
    | inline_ =>
      dsimp only
      split
      · exact .ite .next .next
      · exact .next

theorem execDeltaFlushAge_hasNext {shard part s} : HasNext (execDeltaFlushAge shard part s) := by
  unfold execDeltaFlushAge
  split
  · exact .next
  · exact .ite .next .next

theorem execIndexFlushCommit_hasNext {shard part s} : HasNext (execIndexFlushCommit shard part s) := by
  unfold execIndexFlushCommit
  split
  · exact .ite .next .next
  · exact .next

theorem execSubtreeRebuildComplete_hasNext {shard part s} : HasNext (execSubtreeRebuildComplete shard part s) := .ite .next .next

theorem execStripeCloseDelay_hasNext {shard d reloc s} : HasNext (execStripeCloseDelay shard d reloc s) := by
  unfold execStripeCloseDelay
  split
  · split <;> exact .next
  · exact .next

theorem execDriveCompletion_hasNext {slot queue tag sct sc checks s} : HasNext (execDriveCompletion slot queue tag sct sc checks s) := by
  unfold execDriveCompletion
  split <;> exact .next

theorem execRelocationSelect_hasNext {s} : HasNext (execRelocationSelect s) := by
  unfold execRelocationSelect
  split <;> exact .next

theorem execSegmentFree_hasNext {seg s} : HasNext (execSegmentFree seg s) := by
  unfold execSegmentFree
  split
  · exact .next
  · exact .ite .next .next

theorem execRmwRetire_hasNext {seg row s} : HasNext (execRmwRetire seg row s) := by
  unfold execRmwRetire
  split
  · exact .next
  · exact .ite .next .next

/-! ## Power and start-up -/

theorem execSlotPresenceChange_hasNext {slot present s} : HasNext (execSlotPresenceChange slot present s) := .ite .next .next

theorem execCurrentLimitReached_hasNext {ch ma s} : HasNext (execCurrentLimitReached ch ma s) := .ite .next .next

theorem execPgQualified_hasNext {ch heldUs s} : HasNext (execPgQualified ch heldUs s) := .ite .next .next

theorem execRetryWaitEnd_hasNext {ch s} : HasNext (execRetryWaitEnd ch s) := .ite .next (.ite .next .next)

theorem execDeviceDamage_hasNext {ch test heldUs s} : HasNext (execDeviceDamage ch test heldUs s) := by
  unfold execDeviceDamage
  refine .ite .next ?_
  split <;> exact .next

theorem execEntryStepComplete_hasNext {s} : HasNext (execEntryStepComplete s) := by
  unfold execEntryStepComplete
  split
  · exact .next
  · exact .ite .next (.ite .next .next)

theorem execDormantTimerWake_hasNext {s} : HasNext (execDormantTimerWake s) := .ite .next .next

theorem execPowerOn_hasNext {mv s} : HasNext (execPowerOn mv s) := .ite .next .next

theorem execStartupPhaseEnd_hasNext {phase r s} : HasNext (execStartupPhaseEnd phase r s) :=
  .ite .next (.ite .next (.ite .next (.ite .next (.ite .next (.ite .next (.ite .next (.ite .next (.ite .next (.ite .next
    (.ite .next .next))))))))))

theorem execStartupBudgetExpiry_hasNext {phase s} : HasNext (execStartupBudgetExpiry phase s) := by
  unfold execStartupBudgetExpiry
  split
  · exact .ite .next (.ite .next (.ite .next (.ite .next (.ite .next (.ite .next (.ite .next (.ite .next (.ite .next
      (.ite .next .next)))))))))
  · exact .next

theorem execLockWaitExpiry_hasNext {s} : HasNext (execLockWaitExpiry s) := by
  unfold execLockWaitExpiry
  split <;> exact .next

/-! ## The catalogue -/

/-- Every command of the catalogue answers: those whose meaning branches by their lemma, the others at once. -/
theorem exec_hasNext (i : Instr) (s : State) : HasNext (exec i s) := by
  cases i with
  | openIdleExpiry => exact execOpenIdleExpiry_hasNext
  | opticInsert => exact execOpticInsert_hasNext
  | keepAliveExpiry => exact execKeepAliveExpiry_hasNext
  | driveCriticalWarning => exact execDriveCriticalWarning_hasNext
  | hedgeTimeout => exact execHedgeTimeout_hasNext
  | rebuildRow => exact execRebuildRow_hasNext
  | driveInsert => exact execDriveInsert_hasNext
  | restoreRow => exact execRestoreRow_hasNext
  | scrubRow => exact execScrubRow_hasNext
  | scrubPassEnd => exact execScrubPassEnd_hasNext
  | driveLinkUp => exact execDriveLinkUp_hasNext
  | discoveryStepTimeout => exact execDiscoveryStepTimeout_hasNext
  | driveMemoryRequest => exact execDriveMemoryRequest_hasNext
  | driveTimeout => exact execDriveTimeout_hasNext
  | configReadTimeout => exact execConfigReadTimeout_hasNext
  | driveLinkDown => exact execDriveLinkDown_hasNext
  | perstPulseEnd => exact execPerstPulseEnd_hasNext
  | driveLinkDownTimeout => exact execDriveLinkDownTimeout_hasNext
  | busMasterEnable => exact execBusMasterEnable_hasNext
  | dataPacket => exact execDataPacket_hasNext
  | pairLinkDown => exact execPairLinkDown_hasNext
  | mirrorRecord => exact execMirrorRecord_hasNext
  | pairHeartbeatSend => exact execPairHeartbeatSend_hasNext
  | pairHeartbeat => exact execPairHeartbeat_hasNext
  | tetherYield => exact execTetherYield_hasNext
  | shardHandover => exact execShardHandover_hasNext
  | forwardedCommand num => exact execForwardedCommand_hasNext num
  | pairTimeMessage => exact execPairTimeMessage_hasNext
  | ptpAnnounce => exact execPtpAnnounce_hasNext
  | ptpSync => exact execPtpSync_hasNext
  | delayReqSend => exact execDelayReqSend_hasNext
  | delayResp => exact execDelayResp_hasNext
  | announceReceiptTimeout => exact execAnnounceReceiptTimeout_hasNext
  | ptpLockAchieved => exact execPtpLockAchieved_hasNext
  | holdoverLimit => exact execHoldoverLimit_hasNext
  | ppsEdge => exact execPpsEdge_hasNext
  | ref10mQualified => exact execRef10mQualified_hasNext
  | ref10mLoss => exact execRef10mLoss_hasNext
  | anchorAged => exact execAnchorAged_hasNext
  | coilCountVisit => exact execCoilCountVisit_hasNext
  | coilPassEnd => exact execCoilPassEnd_hasNext
  | moverBurstComplete => exact execMoverBurstComplete_hasNext
  | moverFault => exact execMoverFault_hasNext
  | tetherHeartbeat => exact execTetherHeartbeat_hasNext
  | tetherHeartbeatSend => exact execTetherHeartbeatSend_hasNext
  | tetherMailbox => exact execTetherMailbox_hasNext
  | discover => exact execDiscover_hasNext
  | tokenRefill => exact execTokenRefill_hasNext
  | shareWindowEnd => exact execShareWindowEnd_hasNext
  | quietPeriodStart => exact execQuietPeriodStart_hasNext
  | rebuildSafeExpiry => exact execRebuildSafeExpiry_hasNext
  | ceremonyExpiry => exact execCeremonyExpiry_hasNext
  | mailboxDoorbell => exact execMailboxDoorbell_hasNext
  | responseHeadWrite => exact execResponseHeadWrite_hasNext
  | indexWalkComplete => exact execIndexWalkComplete_hasNext
  | deltaFlushAge => exact execDeltaFlushAge_hasNext
  | indexFlushCommit => exact execIndexFlushCommit_hasNext
  | subtreeRebuildComplete => exact execSubtreeRebuildComplete_hasNext
  | stripeCloseDelay => exact execStripeCloseDelay_hasNext
  | driveCompletion => exact execDriveCompletion_hasNext
  | relocationSelect => exact execRelocationSelect_hasNext
  | segmentFree => exact execSegmentFree_hasNext
  | rmwRetire => exact execRmwRetire_hasNext
  | slotPresenceChange => exact execSlotPresenceChange_hasNext
  | currentLimitReached => exact execCurrentLimitReached_hasNext
  | pgQualified => exact execPgQualified_hasNext
  | retryWaitEnd => exact execRetryWaitEnd_hasNext
  | deviceDamage => exact execDeviceDamage_hasNext
  | entryStepComplete => exact execEntryStepComplete_hasNext
  | dormantTimerWake => exact execDormantTimerWake_hasNext
  | powerOn => exact execPowerOn_hasNext
  | startupPhaseEnd => exact execStartupPhaseEnd_hasNext
  | startupBudgetExpiry => exact execStartupBudgetExpiry_hasNext
  | lockWaitExpiry => exact execLockWaitExpiry_hasNext
  | _ => exact .next

end Machine

/-- Settles O8: every arm of `exec` answers a next state. -/
theorem wellFormedCommandsAnswer : Obligations.WellFormedCommandsAnswer := by
  unfold Obligations.WellFormedCommandsAnswer
  exact Machine.exec_hasNext

end Sys2Proof
end

section
/-!
PROOFS. What every command and every step leaves unchanged. The frame of each command's meaning is a lemma of Laws/; its mask is that of the
command's footprint, so the frame of all commands is one case split over the catalogue. What a step keeps follows from it: only the
commands whose footprint has the fuse, the custodian set or landing memory need a lemma of their own.
-/
namespace Sys2Proof
namespace Machine

/-- A command whose meaning differs from its state in the parts of its footprint only. -/
theorem OutFrame.within {w : Nat} {i : Instr} {o : Host.Outcome State Fault Refusal} {s : State} (h : OutFrame w o s) (k : maskOf (footprint i) = w) :
    OutFrame (maskOf (footprint i)) o s := k ▸ h

theorem exec_frame (i : Instr) (s : State) : OutFrame (maskOf (footprint i)) (exec i s) s := by
  cases i with
  | connect => exact execConnect_frame.within rfl
  | disconnect => exact execDisconnect_frame.within rfl
  | propertyGet => exact execPropertyGet_frame.within rfl
  | propertySet => exact execPropertySet_frame.within rfl
  | getLogPage => exact execGetLogPage_frame.within rfl
  | identify => exact execIdentify_frame.within rfl
  | abort => exact execAbort_frame.within rfl
  | setFeatures => exact execSetFeatures_frame.within rfl
  | getFeatures => exact execGetFeatures_frame.within rfl
  | asynchronousEventRequest => exact execAsynchronousEventRequest_frame.within rfl
  | namespaceCreate => exact execNamespaceCreate_frame.within rfl
  | namespaceDelete => exact execNamespaceDelete_frame.within rfl
  | keepAlive => exact execKeepAlive_frame.within rfl
  | keepAliveExpiry => exact execKeepAliveExpiry_frame.within rfl
  | formatNvm => exact execFormatNvm_frame.within rfl
  | sanitize => exact execSanitize_frame.within rfl
  | flush => exact execFlush_frame.within rfl
  | nvmeWrite => exact execNvmeWrite_frame.within rfl
  | nvmeRead => exact execNvmeRead_frame.within rfl
  | prefetchExpiry => exact execPrefetchExpiry_frame.within rfl
  | compare => exact execCompare_frame.within rfl
  | writeZeroes => exact execWriteZeroes_frame.within rfl
  | datasetManagement => exact execDatasetManagement_frame.within rfl
  | nvmeVerify => exact execNvmeVerify_frame.within rfl
  | reservationRegister => exact execReservationRegister_frame.within rfl
  | reservationReport => exact execReservationReport_frame.within rfl
  | reservationAcquire => exact execReservationAcquire_frame.within rfl
  | reservationRelease => exact execReservationRelease_frame.within rfl
  | admitCommand => exact execAdmitCommand_frame.within rfl
  | notVisibleRelease => exact execNotVisibleRelease_frame.within rfl
  | completionRelease => exact execCompletionRelease_frame.within rfl
  | put => exact execPut_frame.within rfl
  | putPart => exact execPutPart_frame.within rfl
  | putAbort => exact execPutAbort_frame.within rfl
  | sealObject => exact execSeal_frame.within rfl
  | get => exact execGet_frame.within rfl
  | head => exact execHead_frame.within rfl
  | list => exact execList_frame.within rfl
  | delete => exact execDelete_frame.within rfl
  | copy => exact execCopy_frame.within rfl
  | hold => exact execHold_frame.within rfl
  | release => exact execRelease_frame.within rfl
  | stopper => exact execStopper_frame.within rfl
  | verify => exact execVerify_frame.within rfl
  | collCreate => exact execCollCreate_frame.within rfl
  | collDelete => exact execCollDelete_frame.within rfl
  | openIdleExpiry => exact execOpenIdleExpiry_frame.within rfl
  | lockSweep => exact execLockSweep_frame.within rfl
  | receiptBatchClose => exact execReceiptBatchClose_frame.within rfl
  | receiptBatchSigned => exact execReceiptBatchSigned_frame.within rfl
  | lanyardCheckpoint => exact execLanyardCheckpoint_frame.within rfl
  | lanyardRead => exact execLanyardRead_frame.within rfl
  | lanyardProof => exact execLanyardProof_frame.within rfl
  | lanyardExport => exact execLanyardExport_frame.within rfl
  | receiptRead => exact execReceiptRead_frame.within rfl
  | fixityDisclose => exact execFixityDisclose_frame.within rfl
  | custodyCertify => exact execCustodyCertify_frame.within rfl
  | mailboxDoorbell => exact execMailboxDoorbell_frame.within rfl
  | responseHeadWrite => exact execResponseHeadWrite_frame.within rfl
  | mailboxIdleTimeout => exact execMailboxIdleTimeout_frame.within rfl
  | mbxChallenge => exact execMbxChallenge_frame.within rfl
  | mbxOpen => exact execMbxOpen_frame.within rfl
  | mbxClose => exact execMbxClose_frame.within rfl
  | identityGet => exact execIdentityGet_frame.within rfl
  | paramGet => exact execParamGet_frame.within rfl
  | paramSet => exact execParamSet_frame.within rfl
  | tsStatusClear => exact execTsStatusClear_frame.within rfl
  | quorumBegin => exact execQuorumBegin_frame.within rfl
  | quorumSign => exact execQuorumSign_frame.within rfl
  | quorumStatus => exact execQuorumStatus_frame.within rfl
  | ceremonyExpiry => exact execCeremonyExpiry_frame.within rfl
  | custodianSetChange => exact execCustodianSetChange_frame.within rfl
  | timeAuthEnrol => exact execTimeAuthEnrol_frame.within rfl
  | escrowImport => exact execEscrowImport_frame.within rfl
  | tenantCreate => exact execTenantCreate_frame.within rfl
  | tenantQuotaSet => exact execTenantQuotaSet_frame.within rfl
  | tenantErase => exact execTenantErase_frame.within rfl
  | grantIssue => exact execGrantIssue_frame.within rfl
  | grantRevoke => exact execGrantRevoke_frame.within rfl
  | timeChallenge => exact execTimeChallenge_frame.within rfl
  | timeBeacon => exact execTimeBeacon_frame.within rfl
  | anchorAged => exact execAnchorAged_frame.within rfl
  | custodyPersist => exact execCustodyPersist_frame.within rfl
  | fwStage => exact execFwStage_frame.within rfl
  | fwCommit => exact execFwCommit_frame.within rfl
  | debugChallenge => exact execDebugChallenge_frame.within rfl
  | debugUnlock => exact execDebugUnlock_frame.within rfl
  | ovlApply => exact execOvlApply_frame.within rfl
  | ovlRemove => exact execOvlRemove_frame.within rfl
  | baseLoad => exact execBaseLoad_frame.within rfl
  | rebuildSafeExpiry => exact execRebuildSafeExpiry_frame.within rfl
  | slotPower => exact execSlotPower_frame.within rfl
  | sanitiseStart => exact execSanitiseStart_frame.within rfl
  | sanitiseStatus => exact execSanitiseStatus_frame.within rfl
  | uopRelay => exact execUopRelay_frame.within rfl
  | uopRelease => exact execUopRelease_frame.within rfl
  | evtRead => exact execEvtRead_frame.within rfl
  | pldmEventResponse ok => exact (execPldmEventResponse_frame (a1 := ok)).within rfl
  | pldmEventTimeout => exact execPldmEventTimeout_frame.within rfl
  | setEventReceiver => exact execSetEventReceiver_frame.within rfl
  | getVersion => exact execGetVersion_frame.within rfl
  | getCapabilities => exact execGetCapabilities_frame.within rfl
  | negotiateAlgorithms => exact execNegotiateAlgorithms_frame.within rfl
  | getDigests => exact execGetDigests_frame.within rfl
  | getCertificate => exact execGetCertificate_frame.within rfl
  | challenge => exact execChallenge_frame.within rfl
  | getMeasurements => exact execGetMeasurements_frame.within rfl
  | ptpAnnounce => exact execPtpAnnounce_frame.within rfl
  | ptpSync => exact execPtpSync_frame.within rfl
  | delayResp => exact execDelayResp_frame.within rfl
  | delayReqSend => exact execDelayReqSend_frame.within rfl
  | announceReceiptTimeout => exact execAnnounceReceiptTimeout_frame.within rfl
  | ptpLockAchieved => exact execPtpLockAchieved_frame.within rfl
  | holdoverLimit => exact execHoldoverLimit_frame.within rfl
  | ppsEdge => exact execPpsEdge_frame.within rfl
  | ref10mQualified => exact execRef10mQualified_frame.within rfl
  | ref10mLoss => exact execRef10mLoss_frame.within rfl
  | indexWalkComplete => exact execIndexWalkComplete_frame.within rfl
  | deltaFlushAge => exact execDeltaFlushAge_frame.within rfl
  | indexFlushCommit => exact execIndexFlushCommit_frame.within rfl
  | subtreeRebuildComplete => exact execSubtreeRebuildComplete_frame.within rfl
  | stripeCloseDelay => exact execStripeCloseDelay_frame.within rfl
  | driveCompletion => exact execDriveCompletion_frame.within rfl
  | logCheckpoint => exact execLogCheckpoint_frame.within rfl
  | relocationSelect => exact execRelocationSelect_frame.within rfl
  | segmentFree => exact execSegmentFree_frame.within rfl
  | belayDriveAbandon => exact execBelayDriveAbandon_frame.within rfl
  | belayStop => exact execBelayStop_frame.within rfl
  | rmwUpdate => exact execRmwUpdate_frame.within rfl
  | rmwRetire => exact execRmwRetire_frame.within rfl
  | strikeExpiry => exact execStrikeExpiry_frame.within rfl
  | driveCriticalWarning => exact execDriveCriticalWarning_frame.within rfl
  | memberFail => exact execMemberFail_frame.within rfl
  | hedgeTimeout => exact execHedgeTimeout_frame.within rfl
  | rebuildRow => exact execRebuildRow_frame.within rfl
  | driveInsert => exact execDriveInsert_frame.within rfl
  | restoreRow => exact execRestoreRow_frame.within rfl
  | scrubRow => exact execScrubRow_frame.within rfl
  | scrubPassEnd => exact execScrubPassEnd_frame.within rfl
  | scrubStart => exact execScrubStart_frame.within rfl
  | lossReportRead => exact execLossReportRead_frame.within rfl
  | hitchOpen => exact execHitchOpen_frame.within rfl
  | hitchClose => exact execHitchClose_frame.within rfl
  | hitchAbort => exact execHitchAbort_frame.within rfl
  | hitchStatus => exact execHitchStatus_frame.within rfl
  | hello => exact execHello_frame.within rfl
  | scope => exact execScope_frame.within rfl
  | collMap => exact execCollMap_frame.within rfl
  | resume => exact execResume_frame.within rfl
  | myavoHeartbeat => exact execMyavoHeartbeat_frame.within rfl
  | myavoHeartbeatSend => exact execMyavoHeartbeatSend_frame.within rfl
  | hitchSilenceTimeout => exact execHitchSilenceTimeout_frame.within rfl
  | hitchSetupRetry => exact execHitchSetupRetry_frame.within rfl
  | hitchNotAfter => exact execHitchNotAfter_frame.within rfl
  | hitchPassStart => exact execHitchPassStart_frame.within rfl
  | objBegin => exact execObjBegin_frame.within rfl
  | objData _ _ _ _ _ offset _ => exact (execObjData_frame (a6 := offset)).within rfl
  | objAbort => exact execObjAbort_frame.within rfl
  | excerpt => exact execExcerpt_frame.within rfl
  | checkpoint => exact execCheckpoint_frame.within rfl
  | credit => exact execCredit_frame.within rfl
  | batchClose => exact execBatchClose_frame.within rfl
  | batchReceipt => exact execBatchReceipt_frame.within rfl
  | batchAck => exact execBatchAck_frame.within rfl
  | lockUpdate => exact execLockUpdate_frame.within rfl
  | deleteNotice => exact execDeleteNotice_frame.within rfl
  | passEnd _ pass objects => exact (execPassEnd_frame (a2 := pass) (a3 := objects)).within rfl
  | complete => exact execComplete_frame.within rfl
  | setupInit => exact execSetupInit_frame.within rfl
  | setupResp => exact execSetupResp_frame.within rfl
  | setupAuth => exact execSetupAuth_frame.within rfl
  | setupDone => exact execSetupDone_frame.within rfl
  | setupChild => exact execSetupChild_frame.within rfl
  | setupChildDone _ _ ctx => exact (execSetupChildDone_frame (a3 := ctx)).within rfl
  | setupTimeout => exact execSetupTimeout_frame.within rfl
  | dataPacket => exact execDataPacket_frame.within rfl
  | send => exact execSend_frame.within rfl
  | write => exact execWrite_frame.within rfl
  | writeImm => exact execWriteImm_frame.within rfl
  | readReq => exact execReadReq_frame.within rfl
  | readResp => exact execReadResp_frame.within rfl
  | ack => exact execAck_frame.within rfl
  | nak => exact execNak_frame.within rfl
  | statusReq => exact execStatusReq_frame.within rfl
  | status => exact execStatus_frame.within rfl
  | close => exact execClose_frame.within rfl
  | contextFetchComplete => exact execContextFetchComplete_frame.within rfl
  | contextEvict => exact execContextEvict_frame.within rfl
  | seenEntryExpiry => exact execSeenEntryExpiry_frame.within rfl
  | reassemblyExpiry => exact execReassemblyExpiry_frame.within rfl
  | ackDelayTimer => exact execAckDelayTimer_frame.within rfl
  | nakDelayTimer => exact execNakDelayTimer_frame.within rfl
  | retransmitTimeout => exact execRetransmitTimeout_frame.within rfl
  | messageAgeTimeout => exact execMessageAgeTimeout_frame.within rfl
  | deadTimeExpiry => exact execDeadTimeExpiry_frame.within rfl
  | keyPhaseChange => exact execKeyPhaseChange_frame.within rfl
  | oldKeyExpiry => exact execOldKeyExpiry_frame.within rfl
  | saRekey => exact execSaRekey_frame.within rfl
  | oldSaExpiry => exact execOldSaExpiry_frame.within rfl
  | rocePacket => exact execRocePacket_frame.within rfl
  | rdmaCm => exact execRdmaCm_frame.within rfl
  | roceAckTimeout => exact execRoceAckTimeout_frame.within rfl
  | cnp => exact execCnp_frame.within rfl
  | ccRecoverTimer => exact execCcRecoverTimer_frame.within rfl
  | regionRefusalTimeout => exact execRegionRefusalTimeout_frame.within rfl
  | pushAbandonTimeout => exact execPushAbandonTimeout_frame.within rfl
  | regionDrained => exact execRegionDrained_frame.within rfl
  | workRequestComplete => exact execWorkRequestComplete_frame.within rfl
  | exceptionService => exact execExceptionService_frame.within rfl
  | frameReceive => exact execFrameReceive_frame.within rfl
  | arpRequest => exact execArpRequest_frame.within rfl
  | icmpEcho => exact execIcmpEcho_frame.within rfl
  | linkUp => exact execLinkUp_frame.within rfl
  | linkDown => exact execLinkDown_frame.within rfl
  | pauseFrame => exact execPauseFrame_frame.within rfl
  | pauseExpiry => exact execPauseExpiry_frame.within rfl
  | pauseWatchdogTrip => exact execPauseWatchdogTrip_frame.within rfl
  | pauseIgnoreEnd => exact execPauseIgnoreEnd_frame.within rfl
  | xoffRefresh => exact execXoffRefresh_frame.within rfl
  | opticInsert => exact execOpticInsert_frame.within rfl
  | neighbourRefresh => exact execNeighbourRefresh_frame.within rfl
  | frameTransmitComplete => exact execFrameTransmitComplete_frame.within rfl
  | macPortModeWrite => exact execMacPortModeWrite_frame.within rfl
  | macPortRestart => exact execMacPortRestart_frame.within rfl
  | tokenRefill => exact execTokenRefill_frame.within rfl
  | shareWindowEnd => exact execShareWindowEnd_frame.within rfl
  | quietPeriodStart => exact execQuietPeriodStart_frame.within rfl
  | flowWeightSet => exact execFlowWeightSet_frame.within rfl
  | tenantStats => exact execTenantStats_frame.within rfl
  | coilCountVisit => exact execCoilCountVisit_frame.within rfl
  | coilPassEnd => exact execCoilPassEnd_frame.within rfl
  | moverBurstComplete => exact execMoverBurstComplete_frame.within rfl
  | movAbort => exact execMovAbort_frame.within rfl
  | moverFault => exact execMoverFault_frame.within rfl
  | discoveryStepTimeout => exact execDiscoveryStepTimeout_frame.within rfl
  | driveMemoryRequest => exact execDriveMemoryRequest_frame.within rfl
  | windowCommit => exact execWindowCommit_frame.within rfl
  | windowDrainEnd => exact execWindowDrainEnd_frame.within rfl
  | driveTimeout => exact execDriveTimeout_frame.within rfl
  | tagQuarantineEnd => exact execTagQuarantineEnd_frame.within rfl
  | configReadTimeout => exact execConfigReadTimeout_frame.within rfl
  | driveLinkDown => exact execDriveLinkDown_frame.within rfl
  | perstPulseEnd => exact execPerstPulseEnd_frame.within rfl
  | driveLinkDownTimeout => exact execDriveLinkDownTimeout_frame.within rfl
  | slotReset => exact execSlotReset_frame.within rfl
  | sepCtrlWrite => exact execSepCtrlWrite_frame.within rfl
  | sepMbxMapWrite => exact execSepMbxMapWrite_frame.within rfl
  | sepReset => exact execSepReset_frame.within rfl
  | busMasterEnable => exact execBusMasterEnable_frame.within rfl
  | driveLinkUp => exact execDriveLinkUp_frame.within rfl
  | sepLinkUp => exact execSepLinkUp_frame.within rfl
  | pairLinkUp => exact execPairLinkUp_frame.within rfl
  | pairLinkDown => exact execPairLinkDown_frame.within rfl
  | pairLaneFail => exact execPairLaneFail_frame.within rfl
  | mirrorRecord => exact execMirrorRecord_frame.within rfl
  | mirrorAck => exact execMirrorAck_frame.within rfl
  | pairStateMessage => exact execPairStateMessage_frame.within rfl
  | pairTimeMessage => exact execPairTimeMessage_frame.within rfl
  | forwardedCommand num => exact (execForwardedCommand_frame (a1 := num)).within rfl
  | forwardReply => exact execForwardReply_frame.within rfl
  | pairHeartbeatSend => exact execPairHeartbeatSend_frame.within rfl
  | pairHeartbeat => exact execPairHeartbeat_frame.within rfl
  | pairHeartbeatMiss => exact execPairHeartbeatMiss_frame.within rfl
  | dyingMessage => exact execDyingMessage_frame.within rfl
  | leaseLapse => exact execLeaseLapse_frame.within rfl
  | fenceDeferExpiry => exact execFenceDeferExpiry_frame.within rfl
  | tetherYield => exact execTetherYield_frame.within rfl
  | takeover => exact execTakeover_frame.within rfl
  | pairRejoin => exact execPairRejoin_frame.within rfl
  | shardHandover => exact execShardHandover_frame.within rfl
  | pairHomeWrite => exact execPairHomeWrite_frame.within rfl
  | pairCtrlHandover => exact execPairCtrlHandover_frame.within rfl
  | tetherHopUp => exact execTetherHopUp_frame.within rfl
  | tetherHopDown => exact execTetherHopDown_frame.within rfl
  | reeve => exact execReeve_frame.within rfl
  | reeveDone => exact execReeveDone_frame.within rfl
  | reeveStart => exact execReeveStart_frame.within rfl
  | tetherHeartbeat => exact execTetherHeartbeat_frame.within rfl
  | tetherHeartbeatSend => exact execTetherHeartbeatSend_frame.within rfl
  | tetherMemberTimeout => exact execTetherMemberTimeout_frame.within rfl
  | tetherMailbox => exact execTetherMailbox_frame.within rfl
  | discover => exact execDiscover_frame.within rfl
  | supplyBandWindow => exact execSupplyBandWindow_frame.within rfl
  | keepSafeExit => exact execKeepSafeExit_frame.within rfl
  | channelWindowChange => exact execChannelWindowChange_frame.within rfl
  | slotPresenceChange => exact execSlotPresenceChange_frame.within rfl
  | insertDelayExpiry => exact execInsertDelayExpiry_frame.within rfl
  | staggerTurn => exact execStaggerTurn_frame.within rfl
  | prechargeDone => exact execPrechargeDone_frame.within rfl
  | prechargeTimeout => exact execPrechargeTimeout_frame.within rfl
  | rampDone => exact execRampDone_frame.within rfl
  | rampFaultTimeout => exact execRampFaultTimeout_frame.within rfl
  | currentLimitReached => exact execCurrentLimitReached_frame.within rfl
  | limitRelease => exact execLimitRelease_frame.within rfl
  | faultTimerExpiry => exact execFaultTimerExpiry_frame.within rfl
  | pgQualified => exact execPgQualified_frame.within rfl
  | pgLoss => exact execPgLoss_frame.within rfl
  | retryWaitEnd => exact execRetryWaitEnd_frame.within rfl
  | failureCountClear => exact execFailureCountClear_frame.within rfl
  | deviceDamage => exact execDeviceDamage_frame.within rfl
  | slotChCtrl => exact execSlotChCtrl_frame.within rfl
  | inputLatchClear => exact execInputLatchClear_frame.within rfl
  | belayQualification => exact execBelayQualification_frame.within rfl
  | rideThrough => exact execRideThrough_frame.within rfl
  | drowseIdleExpiry => exact execDrowseIdleExpiry_frame.within rfl
  | dormantIdleExpiry => exact execDormantIdleExpiry_frame.within rfl
  | entryStepComplete => exact execEntryStepComplete_frame.within rfl
  | domainWake => exact execDomainWake_frame.within rfl
  | domainIdleExpiry => exact execDomainIdleExpiry_frame.within rfl
  | driveIdleTimeout => exact execDriveIdleTimeout_frame.within rfl
  | driveShutdownTimeout => exact execDriveShutdownTimeout_frame.within rfl
  | driveShutdownComplete => exact execDriveShutdownComplete_frame.within rfl
  | dormantWindowStart => exact execDormantWindowStart_frame.within rfl
  | dormantWindowEnd => exact execDormantWindowEnd_frame.within rfl
  | dormantTimerWake => exact execDormantTimerWake_frame.within rfl
  | powerOn => exact execPowerOn_frame.within rfl
  | startupPhaseEnd => exact execStartupPhaseEnd_frame.within rfl
  | startupBudgetExpiry => exact execStartupBudgetExpiry_frame.within rfl
  | lockWaitExpiry => exact execLockWaitExpiry_frame.within rfl

/-- The parts that `Keep` speaks of: the fuse, the custodian set and landing memory. -/
def kept : List Part := [.fuse, .custodians, .landing]

theorem ChangesOnly.keep {ps : List Part} {t s : State} (h : ChangesOnly ps t s) (k : kept.all (fun p => !ps.contains p) = true) : Keep t s := by
  have same : ∀ p ∈ kept, p.agree t s := fun p hp => h p (by simpa using List.all_eq_true.mp k p hp)
  have hFuse : t.auth.fusedSvn = s.auth.fusedSvn := same .fuse (by decide)
  have hCust : (t.auth.custKeys, t.auth.quorumK) = (s.auth.custKeys, s.auth.quorumK) := same .custodians (by decide)
  have hMem : t.reg.mem = s.reg.mem := same .landing (by decide)
  obtain ⟨hKeys, hK⟩ := Prod.mk.inj hCust
  exact ⟨hFuse.ge, by rw [hKeys, hK]; exact id, by rw [hMem]; exact id⟩

theorem exec_changesOnly (i : Instr) (s t : State) (h : exec i s = .next t) : ChangesOnly (footprint i) t s := (exec_frame i s t h).changesOnly rfl

/-- Every command keeps what `Keep` says: those whose footprint has the fuse, the custodian set or landing memory by their own lemma, the
others because their footprint has none of the three. -/
theorem exec_keep (i : Instr) (s : State) : OutKeep (exec i s) s := by
  cases i with
  | completionRelease => exact execCompletionRelease_keep
  | paramSet => exact execParamSet_keep
  | tsStatusClear => exact execTsStatusClear_keep
  | quorumSign => exact execQuorumSign_keep
  | custodianSetChange => exact execCustodianSetChange_keep
  | fwCommit => exact execFwCommit_keep
  | debugUnlock => exact execDebugUnlock_keep
  | belayStop => exact execBelayStop_keep
  | scrubStart => exact execScrubStart_keep
  | dataPacket => exact execDataPacket_keep
  | write => exact execWrite_keep
  | writeImm => exact execWriteImm_keep
  | ack => exact execAck_keep
  | nak => exact execNak_keep
  | statusReq => exact execStatusReq_keep
  | status => exact execStatus_keep
  | close => exact execClose_keep
  | contextFetchComplete => exact execContextFetchComplete_keep
  | rocePacket => exact execRocePacket_keep
  | regionDrained => exact execRegionDrained_keep
  | macPortModeWrite => exact execMacPortModeWrite_keep
  | macPortRestart => exact execMacPortRestart_keep
  | moverBurstComplete => exact execMoverBurstComplete_keep
  | movAbort => exact execMovAbort_keep
  | moverFault => exact execMoverFault_keep
  | slotReset => exact execSlotReset_keep
  | sepCtrlWrite => exact execSepCtrlWrite_keep
  | sepMbxMapWrite => exact execSepMbxMapWrite_keep
  | pairStateMessage => exact execPairStateMessage_keep
  | takeover => exact execTakeover_keep
  | shardHandover => exact execShardHandover_keep
  | pairHomeWrite => exact execPairHomeWrite_keep
  | pairCtrlHandover => exact execPairCtrlHandover_keep
  | reeveStart => exact execReeveStart_keep
  | slotChCtrl => exact execSlotChCtrl_keep
  | _ => exact fun t h => (exec_changesOnly _ s t h).keep rfl

/-- The passing of time touches neither the fuse, nor the custodian set, nor landing memory. -/
theorem idleStep_keep (s : State) :
    Keep (tryOpen (recoverNext (resumePaced (pumpPldm (reportTemps s.layers.windowAt (scheduleDrives (idle s))))))) s :=
  (tryOpen_frame.keep rfl).trans ((recoverNext_frame.keep rfl).trans ((resumePaced_frame.keep rfl).trans ((pumpPldm_frame.keep rfl).trans
    ((reportTemps_frame.keep rfl).trans ((scheduleDrives_frame.keep rfl).trans (idle_frame.keep rfl))))))

/-- What every command keeps, every step keeps (02 R38, R64; 13 R341). -/
theorem step_keep (s : State) : OutKeep (step s) s := by
  unfold step
  split
  · intro t e
    cases e
    exact idleStep_keep s
  · intro t h
    obtain ⟨hFused, hCust, hMem⟩ := exec_keep _ _ t h
    exact ⟨hFused, hCust, hMem⟩

/-- Time passes without a command: the queue is as it was. -/
theorem idleStep_pending (s : State) :
    (tryOpen (recoverNext (resumePaced (pumpPldm (reportTemps s.layers.windowAt (scheduleDrives (idle s))))))).pending = s.pending :=
  (tryOpen_frame.pending rfl).trans ((recoverNext_frame.pending rfl).trans ((resumePaced_frame.pending rfl).trans
    ((pumpPldm_frame.pending rfl).trans ((reportTemps_frame.pending rfl).trans ((scheduleDrives_frame.pending rfl).trans
    (idle_frame.pending rfl))))))

theorem step_of_empty {s : State} (h : s.pending = []) :
    step s = .next (tryOpen (recoverNext (resumePaced (pumpPldm (reportTemps s.layers.windowAt (scheduleDrives (idle s))))))) := by
  unfold step; rw [h]

/-- The least whole number from 1 on by whose multiples of `d` the instant `n` is reached from `i`. -/
theorem ceilDiv_least {n i d : Nat} (hd : 0 < d) :
    n ≤ i + max 1 (ceilDiv (n - i) d) * d ∧ ∀ k, 1 ≤ k → n ≤ i + k * d → max 1 (ceilDiv (n - i) d) ≤ k := by
  have bound : n - i ≤ ceilDiv (n - i) d * d := by
    unfold ceilDiv
    have := Nat.lt_div_mul_add (a := n - i + d - 1) hd
    omega
  refine ⟨?_, fun k hk h => Nat.max_le.mpr ⟨hk, ?_⟩⟩
  · have := Nat.mul_le_mul_right d (Nat.le_max_right 1 (ceilDiv (n - i) d))
    omega
  · unfold ceilDiv
    rw [Nat.div_le_iff_le_mul hd]
    omega

end Machine

/-- Settles O2: `step` on an empty queue, by its definition, and no part of the passing of time touches the queue. -/
theorem emptyQueueLetsTimePass : Obligations.EmptyQueueLetsTimePass := by
  unfold Obligations.EmptyQueueLetsTimePass
  exact fun s h => ⟨_, Machine.step_of_empty h, rfl, (Machine.idleStep_pending s).trans h⟩

/-- Settles O4: the frame of each command's meaning has its footprint as mask. -/
theorem commandsStayInTheirFootprint : Obligations.CommandsStayInTheirFootprint := by
  unfold Obligations.CommandsStayInTheirFootprint
  exact Machine.exec_changesOnly

/-- Settles O5: at reset the set and the memory are empty. -/
theorem soundAtReset : Obligations.SoundAtReset := by
  unfold Obligations.SoundAtReset
  exact ⟨rfl, rfl⟩

/-- Settles O6: a step keeps both parts of `Sound`. -/
theorem soundKeptByEveryStep : Obligations.SoundKeptByEveryStep := by
  unfold Obligations.SoundKeptByEveryStep
  intro s t ⟨hLegal, hMem⟩ h
  have k := Machine.step_keep s t h
  exact ⟨k.cust hLegal, k.mem hMem⟩

/-- Settles O7: the fuse is one of the things every step keeps. -/
theorem fusesNeverClear : Obligations.FusesNeverClear := by
  unfold Obligations.FusesNeverClear
  exact fun s t h => (Machine.step_keep s t h).fused

/-- Settles O14: `nvInstant` rounds the time since ingress up to whole class delays, one at least. -/
theorem notVisibleLeavesAtItsInstant : Obligations.NotVisibleLeavesAtItsInstant := by
  unfold Obligations.NotVisibleLeavesAtItsInstant
  intro x h body s hd
  obtain ⟨reached, least⟩ := Machine.ceilDiv_least (n := Machine.now s) (i := x.ingress) hd
  exact ⟨_, Nat.le_max_left _ _, reached, least, rfl⟩

end Sys2Proof
end

section
/-!
PROOFS. Three statements that do not hold, each by one state. The first two turn on the mate's own place, mailbox 64: the answer of a
ceremony act begun there goes to the partner as a pair message. The third turns on an endpoint mailbox whose answer cannot be signalled:
the exception it records is an event of its own.
-/
namespace Sys2Proof
namespace Machine

/-- An outcome is a next state with `p`. -/
def nextWith (p : State → Bool) : Host.Outcome State Fault Refusal → Bool
  | .next t => p t
  | _ => false

theorem Completes.nextWith {i : Instr} {s : State} {P : State → Prop} {p : State → Bool} (h : Completes i s P) (hp : ∀ t, P t → p t = true) :
    nextWith p (exec i s) = true := by
  obtain ⟨t, e, ht⟩ := h
  rw [e]
  exact hp t ht

/-- A module in service, with a custodian set of three keys of which two decide. -/
def servingState : State := { State.reset with
  boot := { State.reset.boot with phases := List.replicate 11 .done, open_ := true, firstUse := false, enrolled := true },
  auth := { State.reset.auth with custKeys := [11, 12, 13], quorumK := 2, keys := [(11, .custodian), (12, .custodian), (13, .custodian)] } }

/-- Custodian 11's connection of mailbox `m`. -/
def custodianConn (m : Nat) (p : MbxPath) : Conn :=
  { mbx := m, path := p, who := .custodian 11, key := 11, nonce := 5, counter := 0, lastReq := 0, tags := [], unanchored := false }

/-- The first command of mailbox `m`, its trailer good. -/
def firstCall (m : Nat) : Call := { mbx := m, tag := 0, counter := 1, sigOk := true, rsv := 0 }

/-- The ceremony that enrols time key 31, signed by `signers`. -/
def timeKeyCeremony (signers : List Digest) : Ceremony :=
  { id := 77, opcode := actOp (.timeAuth 31), act := .timeAuth 31, bodyDig := 0, nonce := 0, target := actTarget (.timeAuth 31),
    stamp := noStamp, expiry := 10 ^ 19 * 65536, signers := signers, remote := false, ticked := none }

/-- The serving module with custodian 11 at the mate's place and the time key's ceremony open. -/
def mateState (signers : List Digest) : State := { servingState with
  mbx := { servingState.mbx with conns := [custodianConn matePlace .mctp] },
  auth := { servingState.auth with ceremonies := [timeKeyCeremony signers] } }

/-- The serving module with custodian 11 at endpoint mailbox 0, its ring empty and the endpoint's Bus Master Enable clear. -/
def endpointState : State := { servingState with
  layers := { servingState.layers with base := [(0x07000008, 1)] },
  mbx := { servingState.mbx with conns := [custodianConn 0 .endpoint] },
  ev := { servingState.ev with rings := [{ mbx := some 0, records := [], overflow := none, nextSeq := 1, returned := 0 }] } }

end Machine

open Machine

set_option maxRecDepth 10000 in
/-- Refutes O15: the answer to a QUORUM_SIGN at the mate's place goes to the partner, not into a response ring. -/
theorem not_quorumBegunSignedClosed : ¬ Obligations.QuorumBegunSignedClosed := by
  unfold Obligations.QuorumBegunSignedClosed
  rintro ⟨-, sign, -⟩
  have done := sign (firstCall matePlace) { statement := 77, key := 11, sigOk := true } (custodianConn matePlace .mctp)
    (timeKeyCeremony []) (mateState []) (by decide) (by decide) (by decide) rfl (by decide) rfl rfl (by decide)
  have answered := done.nextWith (p := fun t => decide (Answers (firstCall matePlace) 0x0202 sOk [(1, 1), (7, 0)] t))
    fun t ht => decide_eq_true ht.2
  exact absurd answered (by decide)

set_option maxRecDepth 10000 in
/-- Refutes O16: the answer to a TIME_AUTH_ENROL at the mate's place goes to the partner, not into a response ring. -/
theorem not_authorityQuorumActsComplete : ¬ Obligations.AuthorityQuorumActsComplete := by
  unfold Obligations.AuthorityQuorumActsComplete
  rintro ⟨-, enrol, -⟩
  have done := enrol (firstCall matePlace) 77 31 (custodianConn matePlace .mctp) (timeKeyCeremony [11, 12]) (mateState [11, 12])
    (by decide) (by decide) (by decide) rfl
  have answered := done.nextWith (p := fun t => decide (AnswersInTime (firstCall matePlace) 0x0205 sOk [] t)) fun t ht => decide_eq_true ht.2
  exact absurd answered (by decide)

set_option maxRecDepth 10000 in
/-- Refutes O31: the answer to an EVT_READ that cannot be signalled raises an event, which stands in the ring just read. -/
theorem not_eventAndIdentityRequestsComplete : ¬ Obligations.EventAndIdentityRequestsComplete := by
  unfold Obligations.EventAndIdentityRequestsComplete
  rintro ⟨read, -⟩
  have done := read (firstCall 0) 0 1 0 (custodianConn 0 .endpoint)
    { mbx := some 0, records := [], overflow := none, nextSeq := 1, returned := 0 } endpointState (by decide) rfl (by decide) (by decide)
  have emptied := done.nextWith (p := fun t => t.ev.rings.all (fun r => r.records.isEmpty)) fun t ht => by rw [ht.2]; decide
  exact absurd emptied (by decide)

end Sys2Proof
end

section
/-!
PROOFS. The state in which a checked command's own rules run: up to them only the mailboxes have changed, its connection is there and its
way stands, so that what it replies is an answer.
-/
namespace Sys2Proof
namespace Machine

/-- Up to its rules, a checked command has changed the mailboxes and nothing else. -/
theorem afterChecks_eq (s : State) (c : Call) (x : Conn) : ∃ k, afterChecks s c x = { s with mbx := k } := by
  have taken : ∃ k, takeRequest c.mbx c.tag s = { s with mbx := k } := by
    unfold takeRequest
    dsimp only
    split <;> exact ⟨_, rfl⟩
  obtain ⟨k, hk⟩ := taken
  exact ⟨_, by unfold afterChecks; rw [hk]; rfl⟩

theorem connAt_putConn {x : Conn} {s : State} : connAt (putConn x s) x.mbx = some x := find_putBy (by simp)

theorem connAt_mbx {s : State} {n : Nat} {x : Conn} (h : connAt s n = some x) : x.mbx = n := by
  have := List.find?_some h; simpa using this

/-- The connection of mailbox `n` stands and its way is open, and the module may send: a reply to it is an answer. -/
def Reachable (s : State) (n : Nat) : Prop := ∃ x, connAt s n = some x ∧ s.pwr.belay = none ∧ pathStands s x.path = true

/-- A way stands as long as the sessions and the pair mode do. -/
theorem pathStands_congr {s t : State} {p : MbxPath} (hTrn : t.trn = s.trn) (hMode : t.pair.mode = s.pair.mode) :
    pathStands t p = pathStands s p := by
  unfold pathStands ctxAt mirrors
  rw [hTrn, hMode]

theorem Reachable.congr {s t : State} {n : Nat} (h : Reachable s n) (hTrn : t.trn = s.trn) (hMbx : t.mbx = s.mbx) (hPwr : t.pwr = s.pwr)
    (hMode : t.pair.mode = s.pair.mode) : Reachable t n := by
  obtain ⟨x, hConn, hBelay, hPath⟩ := h
  exact ⟨x, by unfold connAt; rw [hMbx]; exact hConn, by rw [hPwr]; exact hBelay, by rw [pathStands_congr hTrn hMode]; exact hPath⟩

theorem Reachable.answers {s : State} {c : Call} {op st : Nat} {b : Flds} (h : Reachable s c.mbx) : Answers c op st b (reply c op st b s) := by
  obtain ⟨x, hConn, hBelay, hPath⟩ := h
  exact answers_reply hConn hBelay hPath

/-- A checked command's connection is reachable when its own rules start. -/
theorem reachable_afterChecks {s : State} {c : Call} {op : Nat} {allow : Principal → Bool} {x : Conn} (h : Checked s c op allow x) :
    Reachable (afterChecks s c x) c.mbx := by
  obtain ⟨hServed, hConn, -, -, -, -, -, -, -, hPath⟩ := h
  have hAt : connAt (afterChecks s c x) c.mbx = some (afterConn s x) := by
    have := connAt_putConn (x := afterConn s x) (s := takeRequest c.mbx c.tag s)
    rwa [show (afterConn s x).mbx = c.mbx from connAt_mbx (x := x) hConn] at this
  obtain ⟨k, hk⟩ := afterChecks_eq s c x
  refine ⟨afterConn s x, hAt, ?_, ?_⟩
  · rw [hk]; exact belay_of_served hServed
  · rw [hk]; exact hPath

theorem Acted.of_eq {t z w : State} (h : Acted t z) (e : z = w) : Acted t w := e ▸ h

theorem needsDrives_acted {answer act : State → State} {s : State} (up : s.pst.drivesDown = false) : Acted (needsDrives answer act s) (act s) := by
  obtain ⟨k, h⟩ := needsDrives_up (answer := answer) (act := act) up
  rw [h]

/-- A checked command acts, whatever it asks of the drives, while they are not powered down (20 R483). -/
theorem mailboxCmd_acted {s : State} {c : Call} {op : Nat} {allow : Principal → Bool} {x : Conn} {n : Names} {act : Conn → State → State}
    (h : Checked s c op allow x) (up : s.pst.drivesDown = false) :
    Acted (mailboxCmd c op n allow act s) (act (afterConn s x) (afterChecks s c x)) := by
  rw [mailboxCmd_checked h]
  refine needsDrives_acted ?_
  obtain ⟨k, hk⟩ := afterChecks_eq s c x
  rw [hk]; exact up

/-- A checked command whose rules ask no drive acts in any power state. -/
theorem mailboxCmd_quiet {s : State} {c : Call} {op : Nat} {allow : Principal → Bool} {x : Conn} {n : Names} {act : Conn → State → State}
    (h : Checked s c op allow x) (hDrv : (act (afterConn s x) (afterChecks s c x)).drv = (afterChecks s c x).drv) :
    mailboxCmd c op n allow act s = act (afterConn s x) (afterChecks s c x) := by
  rw [mailboxCmd_checked h, needsDrives_of_drv hDrv]

/-- Closing a ceremony takes it off the list and tells the partner. -/
theorem closeCeremony_eq (id : Digest) (s : State) :
    ∃ o, closeCeremony id s = { s with auth := { s.auth with ceremonies := dropIf (fun y => y.id == id) s.auth.ceremonies }, out := o } := by
  unfold closeCeremony pairState send
  split
  · split <;> exact ⟨_, rfl⟩
  · exact ⟨_, rfl⟩

/-- The state in which a quorum act runs: the mailboxes, the ceremonies and what has left are not as before. -/
theorem actState_eq (s : State) (c : Call) (x : Conn) (id : Digest) :
    ∃ k o, closeCeremony id (afterChecks s c x)
      = { s with mbx := k, auth := { s.auth with ceremonies := dropIf (fun y => y.id == id) s.auth.ceremonies }, out := o } := by
  obtain ⟨k, hk⟩ := afterChecks_eq s c x
  obtain ⟨o, ho⟩ := closeCeremony_eq id (afterChecks s c x)
  exact ⟨k, o, by rw [ho, hk]⟩

/-- A quorum act whose ceremony is met closes it and runs (19 R470). -/
theorem quorumCmd_acted {s : State} {c : Call} {act : QAct} {x : Conn} {id : Digest} {m : Ceremony} {run : QCtx → State → State}
    (h : Checked s c (actOp act) isCustodian x) (q : QuorumMet s act id m) (up : s.pst.drivesDown = false) :
    Acted (quorumCmd c (.ceremony id) act run s)
      (run (quorumCtx (afterChecks s c x) c (actOp act) m) (closeCeremony m.id (afterChecks s c x))) := by
  obtain ⟨hAt, hAct, hReached, hTarget⟩ := q
  obtain ⟨k, hk⟩ := afterChecks_eq s c x
  have hEnds : ceremonyAt (afterChecks s c x) id = some m := by rw [hk]; exact hAt
  have hMet : (m.act == act && quorumReached (afterChecks s c x) m) = true := by
    rw [hAct, beq_self_eq_true, Bool.true_and, hk]; exact hReached
  have hStamp : targetStamp (afterChecks s c x) m.target = m.stamp := by rw [hk]; exact hTarget
  unfold quorumCmd
  refine (mailboxCmd_acted h up).of_eq ?_
  simp only [hEnds, hMet, if_true, endCeremony_met hStamp]

end Machine
end Sys2Proof
end

section
/-!
PROOFS. Hitches: the quorum acts, the passes, the batches and the end (11 R280 to R300).
-/
namespace Sys2Proof
namespace Machine

theorem openRefusal_actState {s : State} {c : Call} {x : Conn} {id : Digest} {p : PairingRec} :
    openRefusal (closeCeremony id (afterChecks s c x)) p = openRefusal s p := by
  obtain ⟨k, o, e⟩ := actState_eq s c x id
  rw [e]; rfl

theorem hitchAt_afterChecks {s : State} {c : Call} {x : Conn} {id : BitVec 128} : hitchAt (afterChecks s c x) id = hitchAt s id := by
  obtain ⟨k, e⟩ := afterChecks_eq s c x
  rw [e]; rfl

theorem isSource_actState {s : State} {c : Call} {x : Conn} {id : Digest} {p : PairingRec} :
    isSource (closeCeremony id (afterChecks s c x)) p = isSource s p := by
  obtain ⟨k, o, e⟩ := actState_eq s c x id
  rw [e]; rfl

theorem hitchAt_actState {s : State} {c : Call} {x : Conn} {cid : Digest} {id : BitVec 128} :
    hitchAt (closeCeremony cid (afterChecks s c x)) id = hitchAt s id := by
  obtain ⟨k, o, e⟩ := actState_eq s c x cid
  rw [e]; rfl

/-- The hitch that a record opens (11 R281). -/
theorem actHitchOpen_ok {p : PairingRec} {q : QCtx} {s : State} (h : openRefusal s p = none) :
    actHitchOpen p q s = qReply q sOk [] (quorumDone q shelfChain noStamp (hitchVault p.id (putHitch (newHitch p (isSource s p) q)
      (enter shelfChain 0x0060 noStamp [(16, p.id.toNat), (1, if isSource s p then 1 else 2), (7, 0),
        (32, (Config.sha3 (encodeFlds (pairingFlds p))).toNat)] s)))) := by
  unfold actHitchOpen; rw [h]

/-- The close of a source's hitch that streams (11 R300). -/
theorem actHitchClose_streaming {id : BitVec 128} {q : QCtx} {s : State} {h : Hitch} (hAt : hitchAt s id = some h) (hSource : h.source = true)
    (hState : h.state = .streaming) :
    actHitchClose id q s = qReply q sOk [] (quorumDone q shelfChain noStamp
      (hitchVault id (mapHitch id (fun y => { y with state := .closing, closing := true })
        (changeBanks (h.record.scope.foldl (fun acc e => closeToWrites e.coll.toNat acc) s)).2))) := by
  unfold actHitchClose
  simp only [hAt, hSource, hState, bne_self_eq_false, Bool.not_true, Bool.or_self, Bool.false_eq_true, if_false]

theorem actHitchAbort_live {id : BitVec 128} {q : QCtx} {s : State} {h : Hitch} (hAt : hitchAt s id = some h) (hLive : hitchLive h = true) :
    actHitchAbort id q s = qReply q sOk [] (quorumDone q shelfChain noStamp (hitchVault id (abortHitch id s))) := by
  unfold actHitchAbort
  simp only [hAt, Option.any_some, hLive, if_true]

theorem execHitchStatus_open {c : Call} {id : BitVec 128} {h : Hitch} {x : Conn} {s : State} (k : Checked s c 0x0904 isCustodian x)
    (hAt : hitchAt s id = some h) :
    execHitchStatus c id s = .next (reply c 0x0904 sOk [(1, hitchCode h.state), (7, 0), (4, h.pass),
      (8, (h.batches.filter (fun b => b.acked)).length), (8, (doneFigures h none).1), (8, (doneFigures h none).2)] (afterChecks s c x)) := by
  unfold execHitchStatus
  rw [mailboxCmd_quiet k]
  · rw [hitchAt_afterChecks, hAt]
  · rw [hitchAt_afterChecks, hAt]
    exact reply_frame.drv rfl

/-- A BATCH_CLOSE that names the open batch and its count (11 R293). -/
theorem batchCloseAct_matches {tenant : Nat} {h : Hitch} {s : State} (hSource : h.source = false) :
    batchCloseAct tenant (openBatch h tenant).number (openBatch h tenant).lines.length h s = closeArrived h.record.id (openBatch h tenant) s := by
  unfold batchCloseAct
  simp only [hSource, Bool.false_eq_true, if_false, ne_eq, not_true_eq_false, or_self]

/-- A PASS_END with nothing left to acknowledge tells the partner, then completes each tenant of the scope (11 R293). -/
theorem passEndAct_first {h : Hitch} {s : State} (hSource : h.source = false) (hClosing : h.closing = false)
    (hAcked : h.batches.all (fun b => b.acked) = true) :
    passEndAct h s = (scopeTenants h).foldl (fun acc t => completeTenant h t acc)
      (closeEntry h shelfChain 1 (doneFigures h none) 0 (tellHitch h.record.id (mapHitch h.record.id (fun y => { y with closing := true }) s))).2 := by
  unfold passEndAct
  simp only [hSource, hClosing, hAcked, Bool.not_true, Bool.or_self, Bool.false_eq_true, if_false]

end Machine

open Machine

/-- Settles O46: each act's rules on the state that its checks leave, clause by clause. -/
theorem hitchActsAndBatchesComplete : Obligations.HitchActsAndBatchesComplete := by
  unfold Obligations.HitchActsAndBatchesComplete
  refine ⟨?open_, ?close_, ?abort_, ?status_, ?notAfter, ?passStart, ?batchClose, ?batchReceipt, ?batchAck, ?passEnd, ?complete_⟩
  case open_ =>
    intro c cid p x m s k q hOpen up
    refine ⟨_, rfl, (quorumCmd_acted k q up).of_eq ?_⟩
    rw [actHitchOpen_ok (openRefusal_actState.trans hOpen), isSource_actState]
    rfl
  case close_ =>
    intro c cid id h x m s k q hAt hSource hState up
    exact ⟨_, rfl, (quorumCmd_acted k q up).of_eq (actHitchClose_streaming (hitchAt_actState.trans hAt) hSource hState)⟩
  case abort_ =>
    intro c cid id h x m s k q hAt hLive up
    exact ⟨_, rfl, (quorumCmd_acted k q up).of_eq (actHitchAbort_live (hitchAt_actState.trans hAt) hLive)⟩
  case status_ =>
    intro c id h x s k hAt
    exact ⟨_, execHitchStatus_open k hAt, (reachable_afterChecks k).answers⟩
  case notAfter =>
    intro id h s hAt hLive hHome hPast
    have due : (hitchAt s id).any (fun h => hitchLive h && !h.away && decide (h.record.notAfter ≤ custodySec s)) = true := by
      simp only [hAt, Option.any_some, hLive, hHome, hPast, Bool.not_false, decide_true, Bool.and_self]
    exact congrArg Host.Outcome.next (if_pos due)
  case passStart =>
    intro id h s hAt hSource hHome hTodo hFlight hPower hState
    show execHitchPassStart id s = _
    unfold execHitchPassStart
    simp only [hAt, hSource, hHome, hTodo, hFlight, hPower, hState, List.isEmpty_nil, Bool.not_false, beq_self_eq_true, Bool.true_or,
      Bool.and_self, if_true]
  case batchClose =>
    intro m tenant number objects c h s k hSource hNumber hObjects
    subst hNumber hObjects
    exact congrArg Host.Outcome.next ((myavoIn_taken k).trans (batchCloseAct_matches (h := hearing s m h) hSource))
  case batchReceipt =>
    intro m tenant number lines leaf b b1 c h s k hFind hOpen hLength hAgree hFilled
    subst hFilled
    refine congrArg Host.Outcome.next ((myavoIn_taken k).trans ?_)
    unfold receiptAct
    simp only [hearing_batches, hearing_record, hFind, hOpen, hLength, hAgree, hearing_retried, hearing_peerLanyard, bne_self_eq_false,
      Bool.not_true, Bool.or_self, Bool.false_eq_true, if_false]
  case batchAck =>
    intro m tenant number c h s k hSource
    exact congrArg Host.Outcome.next ((myavoIn_taken k).trans (if_neg (by rw [hearing_source, hSource]; exact Bool.false_ne_true)))
  case passEnd =>
    intro m pass objects c h s k hSource hClosing hAcked
    exact congrArg Host.Outcome.next ((myavoIn_taken k).trans (passEndAct_first (h := hearing s m h) hSource hClosing hAcked))
  case complete_ =>
    intro m receipts c h s k hSource hState hAll hGood
    refine congrArg Host.Outcome.next ((myavoIn_taken k).trans ?_)
    unfold completeAct
    simp only [hearing_source, hearing_state, hearing_scopeTenants, hearing_doneFigures, hearing_record, hSource, hState, hAll, hGood,
      bne_self_eq_false, Bool.not_true, Bool.or_self, Bool.false_eq_true, if_false]

end Sys2Proof
end

section
/-!
PROOFS. Tenants and grants (02 R34, R35; 19 R472). Each command's rules are taken apart once, on any state; what the entries, the banks and
the answer do to the tenants, the keys and the grants is read off their frames.
-/
namespace Sys2Proof
namespace Machine

/-- What does not look at the mailboxes is as it was before the checks. -/
theorem afterChecks_same {α : Type} {s : State} {c : Call} {x : Conn} (f : State → α) (h : ∀ k, f { s with mbx := k } = f s) :
    f (afterChecks s c x) = f s := by
  obtain ⟨k, hk⟩ := afterChecks_eq s c x
  rw [hk, h]

theorem Frame.keys {w : Nat} {t s : State} (h : Frame w t s) (k : w.testBit 4 = false) : t.auth.keys = s.auth.keys :=
  congrArg (fun y => y.1) (h.authority k)

theorem Frame.grants {w : Nat} {t s : State} (h : Frame w t s) (k : w.testBit 4 = false) : t.auth.grants = s.auth.grants :=
  congrArg (fun y => y.2.2.2.1) (h.authority k)

theorem Reachable.of_frame {w : Nat} {t s : State} {n : Nat} (h : Reachable s n) (f : Frame w t s)
    (hTrn : w.testBit 18 = false) (hPair : w.testBit 27 = false) (hMbx : w.testBit 29 = false) (hPwr : w.testBit 32 = false) : Reachable t n :=
  h.congr (f.trn hTrn) (f.mbx hMbx) (f.pwr hPwr) (congrArg (·.mode) (f.pair hPair))

theorem replyHeld_held {c : Call} {h : Held} {s : State} : (replyHeld c h s).held = s.held ++ [{ h with id := s.nextId }] := by
  unfold replyHeld hold
  rw [(holdTag_frame (a1 := c) (s := s)).held rfl, (holdTag_frame (a1 := c) (s := s)).nextId rfl]

theorem waits_replyHeld {c : Call} {h : Held} {m : Msg} {s : State} (e : h.msg = m) :
    (replyHeld c h s).held.any (fun y => y.msg == m) = true := by
  rw [replyHeld_held, List.any_append]
  simp [e]

/-- An answer that waits for the stamps before it is there in time, whether it waits or leaves at once (03 R86). -/
theorem answersInTime_replyAfter {c : Call} {op : Nat} {b : Flds} {shards : List Nat} {drains : List (Nat × Nat)} {s : State}
    (h : Reachable s c.mbx) : AnswersInTime c op sOk b (replyAfter c op b shards drains s) := by
  by_cases waits : now s < stampPassed s shards ∨ drains ≠ []
  · exact .inr ((congrArg (fun t : State => t.held.any _) (if_pos waits)).trans (waits_replyHeld rfl))
  · exact .inl (cast (congrArg (Answers c op sOk b) (if_neg waits).symm) h.answers)

theorem mem_takeRole {k : Digest} {r : KeyRole} {s : State} : (k, r) ∈ (takeRole k r s).auth.keys := by
  unfold takeRole
  dsimp only
  split
  · exact List.contains_iff_mem.mp ‹_›
  · exact List.mem_append_right _ (List.mem_singleton.mpr rfl)

/-- A share of the hints that a tenant has already is no change. -/
theorem takeShare_same {t k : Nat} {s : State} (h : ((shareOf s t).map (fun y => y.log2)).getD 0 = k) : takeShare t k s = some s := if_pos h

/-- The new tenant stands behind those there were. -/
theorem enrolTenant_tenants {c : Call} {n : Nat} {key : Digest} {q : QuotaRec} {s : State} :
    (enrolTenant c n key q s).obj.tenants.map (fun y => (y.num, y.key, y.quota)) =
      s.obj.tenants.map (fun y => (y.num, y.key, y.quota)) ++ [(n, key, q)] := by
  unfold enrolTenant
  dsimp only
  rw [replyHeld_frame.tenants rfl, changeBanks_frame.tenants rfl, keyEntry_frame.tenants rfl, enter_frame.tenants rfl,
    takeRole_frame.tenants rfl, putBuckets_frame.tenants rfl]
  dsimp only
  rw [sequence_frame.tenants rfl, escrowWrap_frame.tenants rfl, drawKey_frame.tenants rfl, refill_frame.tenants rfl, List.map_append]
  rfl

theorem enrolTenant_keys {c : Call} {n : Nat} {key : Digest} {q : QuotaRec} {s : State} :
    (key, KeyRole.tenant n) ∈ (enrolTenant c n key q s).auth.keys := by
  unfold enrolTenant
  dsimp only
  rw [replyHeld_frame.keys rfl, changeBanks_frame.keys rfl, keyEntry_frame.keys rfl, enter_frame.keys rfl]
  exact mem_takeRole

theorem enrolTenant_held {c : Call} {n : Nat} {key : Digest} {q : QuotaRec} {s : State} :
    (enrolTenant c n key q s).held.any (fun y => y.msg == replyMsg c 0x0301 sOk [(2, n), (6, 0)]) = true := by
  unfold enrolTenant
  dsimp only
  exact waits_replyHeld rfl

/-- The tenant whose record is written holds what is written. -/
theorem tenantAt_mapIf {s t : State} {n : Nat} {f : Tenant → Tenant} (h : t.obj.tenants = mapIf (fun y => y.num == n) f s.obj.tenants)
    (hf : ∀ y, (f y).num = y.num) : tenantAt t n = (tenantAt s n).map f := by
  have same : (fun y : Tenant => (if (y.num == n) = true then f y else y).num == n) = fun y => y.num == n := by
    funext y; split <;> simp [hf]
  unfold tenantAt
  rw [h]
  unfold mapIf
  rw [List.find?_map]
  show ((s.obj.tenants.find? (fun y : Tenant => (if (y.num == n) = true then f y else y).num == n)).map _) = _
  rw [same]
  cases e : s.obj.tenants.find? (fun y => y.num == n) with
  | none => rfl
  | some y => exact congrArg some (if_pos (List.find?_some e))

/-- What GRANT_REVOKE's rules leave of the grants. -/
theorem revokeGrant_grants {g : GrantRec} {s : State} : (revokeGrant g s).2.auth.grants = s.auth.grants.filter (fun y => y != g) := by
  have sequenced : ∀ (l : List Nat) (acc : CStamp × State),
      (l.foldl (fun (acc : CStamp × State) n => sequence n acc.2) acc).2.auth.grants = acc.2.auth.grants := by
    intro l
    induction l with
    | nil => exact fun _ => rfl
    | cons n l ih => exact fun acc => (ih _).trans (sequence_frame.grants rfl)
  unfold revokeGrant
  dsimp only
  rw [closeConns_frame.grants rfl, closeAll_frame.grants rfl, grantEntry_frame.grants rfl, noticeScope_frame.grants rfl, sequenced]

theorem Acted.auth {t z : State} (h : Acted t z) : t.auth = z.auth := by rw [h]
theorem Acted.obj {t z : State} (h : Acted t z) : t.obj = z.obj := by rw [h]
theorem Acted.held {t z : State} (h : Acted t z) : t.held = z.held := by rw [h]

theorem Acted.answers {c : Call} {op st : Nat} {b : Flds} {t z : State} (h : Acted t z) (k : Answers c op st b z) : Answers c op st b t := by
  rw [h]; exact k

theorem Acted.answersInTime {c : Call} {op st : Nat} {b : Flds} {t z : State} (h : Acted t z) (k : AnswersInTime c op st b z) :
    AnswersInTime c op st b t := by
  rw [h]; exact k

theorem answersInTime_replyStamped {c : Call} {op : Nat} {b : Flds} {shards : List Nat} {s : State} (h : Reachable s c.mbx) :
    AnswersInTime c op sOk b (replyStamped c op b shards s) := answersInTime_replyAfter h

section
variable {s : State} {c : Call} {x : Conn}

theorem execTenantCreate_acted {key : Digest} {q : QuotaRec} {n : Nat} (k : Checked s c 0x0301 isCustodian x) (hForm : quotaForm s q = none)
    (hKey : s.auth.keys.any (fun y => y.1 == key) = false) (hClass : classIn s 8 = false) (hFree : freeTenant s = some n)
    (hFit : quotasFit s s.layers.service s.layers.reservePct (q.byteQuota.toNat :: otherQuotas s n) = true)
    (hShare : ((shareOf s n).map (fun y => y.log2)).getD 0 = q.hintShare.toNat) (up : s.pst.drivesDown = false) :
    ∃ t, execTenantCreate c key (some q) s = .next t ∧ Acted t (enrolTenant c n key q (afterChecks s c x)) := by
  have hForm := (afterChecks_same (c := c) (x := x) (fun z => quotaForm z q) fun _ => rfl).trans hForm
  have hKey := (afterChecks_same (c := c) (x := x) (fun z => z.auth.keys.any (fun y => y.1 == key)) fun _ => rfl).trans hKey
  have hClass := (afterChecks_same (c := c) (x := x) (fun z => classIn z 8) fun _ => rfl).trans hClass
  have hFree := (afterChecks_same (c := c) (x := x) freeTenant fun _ => rfl).trans hFree
  have hFit := (afterChecks_same (c := c) (x := x)
    (fun z => quotasFit z z.layers.service z.layers.reservePct (q.byteQuota.toNat :: otherQuotas z n)) fun _ => rfl).trans hFit
  have hShare := (afterChecks_same (c := c) (x := x) (fun z => ((shareOf z n).map (fun y => y.log2)).getD 0) fun _ => rfl).trans hShare
  refine ⟨_, rfl, (mailboxCmd_acted k up).of_eq ?_⟩
  simp only [Option.getD_some, hForm, hKey, hClass, hFree, hFit, takeShare_same hShare, Bool.not_true, Bool.false_eq_true, if_false]

/-- The state in which TENANT_QUOTA_SET answers: the record is whole and new. -/
def quotaWritten (n : Nat) (q : QuotaRec) (s : State) : State :=
  let r := sequence (custodyShard s) (refill s)
  { r.2 with obj := { r.2.obj with tenants := mapIf (fun t => t.num == n) (fun t => { t with quota := q, stamp := r.1 }) r.2.obj.tenants } }

theorem Reachable.quotaWritten {n m : Nat} {q : QuotaRec} (h : Reachable s m) : Reachable (quotaWritten n q s) m :=
  ((h.of_frame refill_frame rfl rfl rfl rfl).of_frame (sequence_frame (a1 := custodyShard s)) rfl rfl rfl rfl).congr rfl rfl rfl rfl

theorem quotaWritten_tenantAt {t : State} {n : Nat} {q : QuotaRec} (h : t.obj.tenants = (quotaWritten n q s).obj.tenants)
    (hThere : (tenantAt s n).isSome = true) : (tenantAt t n).map (fun y => y.quota) = some q := by
  have hOld : (sequence (custodyShard s) (refill s)).2.obj.tenants = s.obj.tenants :=
    (sequence_frame.tenants rfl).trans (refill_frame.tenants rfl)
  obtain ⟨y, hy⟩ := Option.isSome_iff_exists.mp hThere
  rw [tenantAt_mapIf (s := s) (h.trans (congrArg (mapIf _ _) hOld)) fun _ => rfl, hy]
  rfl

theorem execTenantQuotaSet_acted {tenant : Word16} {q : QuotaRec} (k : Checked s c 0x0302 isCustodian x) (hForm : quotaForm s q = none)
    (hThere : (tenantAt s tenant.toNat).isSome = true)
    (hFit : quotasFit s s.layers.service s.layers.reservePct (q.byteQuota.toNat :: otherQuotas s tenant.toNat) = true)
    (hShare : ((shareOf s tenant.toNat).map (fun y => y.log2)).getD 0 = q.hintShare.toNat) (up : s.pst.drivesDown = false) :
    ∃ t, execTenantQuotaSet c tenant q s = .next t ∧ Acted t (replyStamped c 0x0302 [] [custodyShard (afterChecks s c x)]
      (changeBanks (quotaWritten tenant.toNat q (afterChecks s c x))).2) := by
  have hForm := (afterChecks_same (c := c) (x := x) (fun z => quotaForm z q) fun _ => rfl).trans hForm
  have hThere := (afterChecks_same (c := c) (x := x) (fun z => (tenantAt z tenant.toNat).isNone) fun _ => rfl).trans
    (Option.isNone_eq_false_iff.mpr hThere)
  have hFit := (afterChecks_same (c := c) (x := x)
    (fun z => quotasFit z z.layers.service z.layers.reservePct (q.byteQuota.toNat :: otherQuotas z tenant.toNat)) fun _ => rfl).trans hFit
  have hShare := (afterChecks_same (c := c) (x := x) (fun z => ((shareOf z tenant.toNat).map (fun y => y.log2)).getD 0) fun _ => rfl).trans hShare
  refine ⟨_, rfl, (mailboxCmd_acted k up).of_eq ?_⟩
  simp only [hForm, hThere, hFit, takeShare_same hShare, Bool.not_true, Bool.false_eq_true, if_false]
  rfl

/-- The grants with `g` in, in place of one of its issuer and serial. -/
def grantKept (g : GrantRec) (s : State) : State :=
  { s with auth := { s.auth with grants := s.auth.grants.filter (fun y => !(y.issuer == g.issuer && y.serial == g.serial)) ++ [g] } }

/-- GRANT_ISSUE's rules: the position of the entry it makes, and the state in which it answers. -/
def grantIssued (g : GrantRec) (s : State) : Nat × State :=
  grantEntry 1 g noStamp (noticeScope g (takeRole g.holder (grantRole g) (grantKept g s)))

theorem grantIssued_grants {g : GrantRec} : (grantIssued g s).2.auth.grants =
    s.auth.grants.filter (fun y => !(y.issuer == g.issuer && y.serial == g.serial)) ++ [g] :=
  (grantEntry_frame.grants rfl).trans (noticeScope_frame.grants rfl)

theorem grantIssued_keys {g : GrantRec} : (g.holder, grantRole g) ∈ (grantIssued g s).2.auth.keys := by
  rw [show (grantIssued g s).2.auth.keys = _ from (grantEntry_frame.keys rfl).trans (noticeScope_frame.keys rfl)]
  exact mem_takeRole

theorem execGrantIssue_acted {g : GrantRec} (k : Checked s c 0x0304 issuesGrants x) (hForm : grantForm g = true) (hIssuer : g.issuer = x.key)
    (hMay : mayIssue x.who g = true) (hRole : roleFree s g.holder (grantRole g) = true) (hScope : scopeOwn s g.tenant.toNat g.scope = true)
    (hRoom : s.auth.grants.length < 262144) (up : s.pst.drivesDown = false) :
    ∃ t, execGrantIssue c g true s = .next t ∧
      Acted t (reply c 0x0304 sOk [(8, (grantIssued g (afterChecks s c x)).1)] (grantIssued g (afterChecks s c x)).2) := by
  have hRole := (afterChecks_same (c := c) (x := x) (fun z => roleFree z g.holder (grantRole g)) fun _ => rfl).trans hRole
  have hScope := (afterChecks_same (c := c) (x := x) (fun z => scopeOwn z g.tenant.toNat g.scope) fun _ => rfl).trans hScope
  have hGrants := afterChecks_same (s := s) (c := c) (x := x) (fun z => z.auth.grants) fun _ => rfl
  have hFew : ∀ p : GrantRec → Bool, ¬ 262144 ≤ ((afterChecks s c x).auth.grants.filter p).length := by
    intro p
    have := List.length_filter_le p (afterChecks s c x).auth.grants
    rw [hGrants] at this ⊢
    omega
  refine ⟨_, rfl, (mailboxCmd_acted k up).of_eq ?_⟩
  have hKeeps : (decide (g.issuer ≠ (afterConn s x).key) || !mayIssue (afterConn s x).who g ||
      !roleFree (afterChecks s c x) g.holder (grantRole g)) = false := by
    rw [hRole, show (afterConn s x).key = g.issuer from hIssuer.symm, show mayIssue (afterConn s x).who g = true from hMay]
    simp
  simp only [hForm, hKeeps, hScope, hFew, Bool.not_true, Bool.false_eq_true, if_false]
  rfl

/-- The sessions that a grant's end closes. -/
def underGrant (g : GrantRec) (y : Ctx) : Bool :=
  let id : GrantId := { issuer := g.issuer, serial := g.serial.toNat }
  y.grant == some id || y.who.grant? == some id

theorem execGrantRevoke_acted {holder : Digest} {serial : Word64} {g : GrantRec} (k : Checked s c 0x0305 issuesGrants x)
    (hFind : s.auth.grants.find? (fun y => y.issuer == x.key && y.holder == holder && y.serial == serial) = some g)
    (up : s.pst.drivesDown = false) :
    ∃ t, execGrantRevoke c holder serial s = .next t ∧
      Acted t (replyAfter c 0x0305 [(8, (revokeGrant g (afterChecks s c x)).1)] (scopeShards (afterChecks s c x) g)
        (drainsOf (underGrant g) (revokeGrant g (afterChecks s c x)).2) (revokeGrant g (afterChecks s c x)).2) := by
  have hFind := (afterChecks_same (c := c) (x := x)
    (fun z => z.auth.grants.find? (fun y => y.issuer == x.key && y.holder == holder && y.serial == serial)) fun _ => rfl).trans hFind
  refine ⟨_, rfl, (mailboxCmd_acted k up).of_eq ?_⟩
  dsimp only [afterConn]
  rw [hFind]
  rfl

theorem execGrantRevoke_none {holder : Digest} {serial : Word64} (k : Checked s c 0x0305 issuesGrants x)
    (hNone : s.auth.grants.any (fun y => y.issuer == x.key && y.holder == holder && y.serial == serial) = false) :
    execGrantRevoke c holder serial s = .next (reply c 0x0305 sOk [(8, 0)] (afterChecks s c x)) := by
  have hFind : (afterChecks s c x).auth.grants.find?
      (fun g => g.issuer == (afterConn s x).key && g.holder == holder && g.serial == serial) = none :=
    (afterChecks_same (fun z => z.auth.grants.find? (fun y => y.issuer == x.key && y.holder == holder && y.serial == serial)) fun _ => rfl).trans
      (List.find?_eq_none.mpr (List.any_eq_false.mp hNone))
  unfold execGrantRevoke
  rw [mailboxCmd_quiet k]
  · rw [hFind]
  · rw [hFind]
    exact reply_frame.drv rfl

end

end Machine

open Machine

/-- Settles O17: a command that passes its checks reaches its last branch, and what follows there touches the tenants, keys and grants no more. -/
theorem tenantsAndGrantsComplete : Obligations.TenantsAndGrantsComplete := by
  unfold Obligations.TenantsAndGrantsComplete
  refine ⟨?create, ?quota, ?issue, ?revoke, fun c holder serial x s k hNone => execGrantRevoke_none k hNone⟩
  case create =>
    intro c key q n x s k hForm hKey hClass hFree hFit hShare up
    obtain ⟨t, e, acted⟩ := execTenantCreate_acted k hForm hKey hClass hFree hFit hShare up
    have hBefore := afterChecks_same (s := s) (c := c) (x := x) (fun z => z.obj.tenants) fun _ => rfl
    refine ⟨t, e, ?_, ?_, ?_⟩
    · rw [acted.obj, enrolTenant_tenants, hBefore]
    · rw [acted.auth]
      exact enrolTenant_keys
    · rw [acted.held]
      exact enrolTenant_held
  case quota =>
    intro c tenant q x s k hForm hThere hFit hShare up
    obtain ⟨t, e, acted⟩ := execTenantQuotaSet_acted k hForm hThere hFit hShare up
    refine ⟨t, e, ?_, ?_⟩
    · have hTenants : t.obj.tenants = (quotaWritten tenant.toNat q (afterChecks s c x)).obj.tenants :=
        (congrArg (·.tenants) acted.obj).trans ((replyStamped_frame.tenants rfl).trans (changeBanks_frame.tenants rfl))
      rw [quotaWritten_tenantAt hTenants (hThere := (afterChecks_same (fun z => (tenantAt z tenant.toNat).isSome) fun _ => rfl).trans hThere)]
    · exact acted.answersInTime (answersInTime_replyStamped ((reachable_afterChecks k).quotaWritten.of_frame changeBanks_frame rfl rfl rfl rfl))
  case issue =>
    intro c g x s k hForm hIssuer hMay hRole hScope hRoom up
    obtain ⟨t, e, acted⟩ := execGrantIssue_acted k hForm hIssuer hMay hRole hScope hRoom up
    refine ⟨t, e, ?_, ?_⟩
    · rw [acted.auth, reply_frame.grants rfl, grantIssued_grants,
        afterChecks_same (fun z => z.auth.grants) fun _ => rfl]
    · rw [acted.auth, reply_frame.keys rfl]
      exact grantIssued_keys
  case revoke =>
    intro c holder serial g x s k hFind up
    obtain ⟨t, e, acted⟩ := execGrantRevoke_acted k hFind up
    refine ⟨t, e, ?_⟩
    show t.auth.grants = _
    rw [acted.auth, replyAfter_frame.grants rfl, revokeGrant_grants,
      afterChecks_same (fun z => z.auth.grants) fun _ => rfl]

end Sys2Proof
end

section
/-!
PROOFS. The pair's mode through an entry of the lanyard: an entry is written to the log, and the log's splice entries are mirrored to the
partner, which counts records but changes no mode (09 R249; 18 R449).
-/
namespace Sys2Proof
namespace Machine

/-- What leaves the pair's part as it was leaves its mode. -/
theorem Frame.mode {w : Nat} {t s : State} (h : Frame w t s) (k : w.testBit 27 = false) : t.pair.mode = s.pair.mode :=
  congrArg (fun y => y.mode) (h.pair k)

theorem mirrorSend_mode {r : MirrorRec} {s : State} : (mirrorSend r s).pair.mode = s.pair.mode := by
  unfold mirrorSend
  split
  · rfl
  · exact send_frame.mode rfl

theorem splice_mode {shard kind size : Nat} {stamp : CStamp} {x : Naming} {fields : Bytes} {s : State} :
    (splice shard kind stamp x size fields s).2.pair.mode = s.pair.mode := by
  unfold splice
  dsimp only
  rw [mirrorSend_mode, ringCopies_frame.mode rfl, noteJournal_frame.mode rfl, putShard_frame.mode rfl]
  exact draw_frame.mode rfl

theorem segEntry_mode {shard seg state : Nat} {s : State} : (segEntry shard seg state s).pair.mode = s.pair.mode := splice_mode

theorem openHead_mode {shard d : Nat} {reloc : Bool} {s : State} : (openHead shard d reloc s).2.pair.mode = s.pair.mode := by
  unfold openHead
  split
  · rfl
  · split
    · rfl
    · have raised : ∀ (b : Bool) (n : Nat) (z : State), (if b then raise stSTR n noInst z else z).pair.mode = z.pair.mode := by
        intro b n z
        split
        · exact raise_frame.mode rfl
        · rfl
      dsimp only
      rw [raised, raised, askSegments_frame.mode rfl, segEntry_mode]

theorem writeUnits_mode {shard d grain fuel units : Nat} {reloc : Bool} {kind : RecKind} {stamp : CStamp} {bytes : Bytes} {s : State} :
    (writeUnits shard d reloc grain kind stamp fuel units bytes s).2.pair.mode = s.pair.mode := by
  induction fuel generalizing units bytes s with
  | zero => rfl
  | succ fuel ih =>
    have opened := openHead_mode (shard := shard) (d := d) (reloc := reloc) (s := s)
    unfold writeUnits
    split
    · rfl
    · split
      · rename_i h
        rw [h] at opened
        exact opened
      · rename_i h
        rw [h] at opened
        dsimp only
        split
        · exact (layRecord_frame.mode rfl).trans opened
        · split
          · exact ih.trans ((fillSegment_frame.mode rfl).trans ((layRecord_frame.mode rfl).trans opened))
          · exact ih.trans ((fillSegment_frame.mode rfl).trans opened)

theorem spliceRecord_mode {shard d addr units : Nat} {direct : List (Nat × Nat)} {bytes : Bytes} {stamp : CStamp} {s : State} :
    (spliceRecord shard d direct addr units bytes stamp s).pair.mode = s.pair.mode := by
  unfold spliceRecord
  generalize splicePieces d direct (units + 1) addr units = l
  induction l generalizing s with
  | nil => rfl
  | cons x l ih => exact ih.trans splice_mode

theorem spliceExtents_mode {shard d : Nat} {direct l : List (Nat × Nat)} {bytes : Bytes} {stamp : CStamp} {s : State} :
    (spliceExtents shard d direct stamp l bytes s).pair.mode = s.pair.mode := by
  induction l generalizing bytes s with
  | nil => rfl
  | cons x l ih => exact ih.trans spliceRecord_mode

theorem writeSmallUnits_mode {shard d grain units : Nat} {kind : RecKind} {bytes : Bytes} {stamp : CStamp} {s : State} :
    (writeSmallUnits shard d grain kind units bytes stamp s).2.2.pair.mode = s.pair.mode := spliceExtents_mode.trans writeUnits_mode

theorem writeSealed_mode {shard d tenant size : Nat} {kind : RecKind} {magic : String} {body : Bytes} {stamp : CStamp} {s : State} :
    (writeSealed shard d kind magic tenant size body stamp s).2.pair.mode = s.pair.mode :=
  writeSmallUnits_mode.trans (draw_frame.mode rfl)

theorem lanyardRecord_mode {body : Flds} {stamp : CStamp} {s : State} : (lanyardRecord body stamp s).pair.mode = s.pair.mode := by
  unfold lanyardRecord
  split
  · rfl
  · exact writeSealed_mode

/-- An entry leaves the pair's mode. -/
theorem enter_mode {chain type : Nat} {stamp : CStamp} {body : Flds} {s : State} : (enter chain type stamp body s).pair.mode = s.pair.mode := by
  unfold enter appendEntry
  split
  · rfl
  · exact lanyardRecord_mode

/-- An entry leaves every way as it stands. -/
theorem Reachable.enter {chain type n : Nat} {stamp : CStamp} {body : Flds} {s : State} (h : Reachable s n) :
    Reachable (enter chain type stamp body s) n :=
  h.congr (enter_frame.trn rfl) (enter_frame.mbx rfl) (enter_frame.pwr rfl) enter_mode

end Machine
end Sys2Proof
end

section
/-!
PROOFS. What sending and closing leave of Custody Time and of the sessions: no frame that goes out and no session that ends changes the
anchor or the time, sets a challenge, or makes a region or a session that still drains (03 R77; 13 R342).
-/
namespace Sys2Proof
namespace Machine

/-- No region stands, and no session waits for its region to drain. -/
def Settled (s : State) : Prop := s.reg.regions = [] ∧ ∀ y ∈ s.trn.ctxs, y.closing = false

/-- From `s` to `t` Custody Time is as it was, no challenge is set, and what is settled stays so. -/
structure Calm (t s : State) : Prop where
  anchor : t.time.anchor = s.time.anchor
  custody : t.time.custody = s.time.custody
  lastBeacon : t.time.lastBeacon = s.time.lastBeacon
  challenge : s.time.challenge = none → t.time.challenge = none
  settled : Settled s → Settled t

theorem Calm.refl {s : State} : Calm s s := ⟨rfl, rfl, rfl, id, id⟩

theorem Calm.trans {a b c : State} (h : Calm a b) (k : Calm b c) : Calm a c :=
  ⟨h.anchor.trans k.anchor, h.custody.trans k.custody, h.lastBeacon.trans k.lastBeacon, h.challenge ∘ k.challenge, h.settled ∘ k.settled⟩

theorem Calm.foldl {α : Type} {g : State → α → State} {l : List α} {s : State} (h : ∀ a x, Calm (g a x) a) : Calm (l.foldl g s) s := by
  induction l generalizing s with
  | nil => exact .refl
  | cons x l ih => exact ih.trans (h s x)

/-- What touches neither the time, nor the sessions, nor the regions is calm. -/
theorem Frame.calm {w : Nat} {t s : State} (h : Frame w t s) (kTime : w &&& 224 = 0) (k : w &&& 1310720 = 0) : Calm t s := by
  have hTime : t.time = s.time := h.time kTime
  have hRegions : t.reg.regions = s.reg.regions := congrArg (fun y => y.1) (h.regions (bit_and k rfl))
  have hTrn : t.trn = s.trn := h.trn (bit_and k rfl)
  exact ⟨by rw [hTime], by rw [hTime], by rw [hTime], by rw [hTime]; exact id,
    fun ⟨hNone, hOpen⟩ => ⟨hRegions.trans hNone, by rw [hTrn]; exact hOpen⟩⟩

theorem mem_putBy {α : Type} {p : α → Bool} {x y : α} {l : List α} (h : y ∈ putBy p x l) : y = x ∨ y ∈ l := by
  unfold putBy at h
  split at h
  · obtain ⟨z, hz, rfl⟩ := List.mem_map.mp h
    split
    · exact .inl rfl
    · exact .inr hz
  · exact (List.mem_append.mp h).elim .inr fun hx => .inl (List.mem_singleton.mp hx)

theorem Settled.open_ {n : Nat} {c : Ctx} {s : State} (h : Settled s) (e : ctxAt s n = some c) : c.closing = false :=
  h.2 c (List.mem_of_find?_eq_some e)

/-- A session that is put back with its end as it was is no new end. -/
theorem Calm.putCtx {n : Nat} {c c0 : Ctx} {z s : State} (h : Calm z s) (e : ctxAt s n = some c0) (k : c.closing = c0.closing) :
    Calm (putCtx c z) s := by
  refine ⟨h.anchor, h.custody, h.lastBeacon, h.challenge, fun hs => ?_⟩
  obtain ⟨hNone, hOpen⟩ := h.settled hs
  refine ⟨hNone, fun y hy => ?_⟩
  rcases mem_putBy hy with rfl | hOld
  · exact k.trans (hs.open_ e)
  · exact hOpen y hOld

theorem startFrame_calm {m : Mac} {i : SchItem} {s : State} : Calm (startFrame m i s) s := by
  have asked : Calm (if isDelayReq i then { s with time := { s.time with delayReq := some (now s) } } else s) s := by
    split
    · exact ⟨rfl, rfl, rfl, id, id⟩
    · exact .refl
  exact (send_frame.calm rfl rfl).trans ((putMac_frame.calm rfl rfl).trans
    ((bumpWide_frame.calm rfl rfl).trans ((bumpWide_frame.calm rfl rfl).trans asked)))

theorem chargeCc_calm {i : SchItem} {s : State} : Calm (chargeCc i s) s := by
  unfold chargeCc
  split
  · exact .refl
  · rename_i c e
    unfold itemCtx at e
    split at e
    · exact Calm.refl.putCtx e rfl
    · cases e

theorem pumpIdle_calm {n : Nat} {s : State} : Calm (pumpIdle n s) s := by
  have hPut : ∀ (e : Egress) (z : State), Calm (putEgress e z) z := fun e z => putEgress_frame.calm rfl rfl
  unfold pumpIdle
  split
  · exact .refl
  · split
    · exact .refl
    · dsimp only
      split
      · exact startFrame_calm.trans (hPut _ _)
      · exact startFrame_calm.trans (hPut _ _)
      · exact startFrame_calm.trans (hPut _ _)
      · split
        · exact hPut _ _
        · refine startFrame_calm.trans (chargeCc_calm.trans ((hPut _ _).trans ?_))
          split
          · split
            · exact .refl
            · exact putBuckets_frame.calm rfl rfl
          · exact .refl

theorem pumpMac_calm {n : Nat} {s : State} : Calm (pumpMac n s) s := by
  unfold pumpMac
  split
  · exact .refl
  · split
    · exact .refl
    · exact pumpIdle_calm.trans ((putEgress_frame.calm rfl rfl).trans (putMac_frame.calm rfl rfl))

theorem transmit_calm {n k l : Nat} {o : EgOrder} {f : FlowId} {m : Msg} {s : State} : Calm (transmit n o f k l m s) s := by
  unfold transmit
  split
  · exact mailboxFrames_frame.calm rfl rfl
  · split
    · exact putQuiet_frame.calm rfl rfl
    · split
      · exact send_frame.calm rfl rfl
      · unfold enqueue
        dsimp only
        split <;> exact pumpMac_calm.trans (putEgress_frame.calm rfl rfl)

theorem espSend_calm {c : Ctx} {k : Nat} {s : State} (q : isQp c = true) : Calm (espSend c k s).2 s := by
  unfold espSend
  split
  · exact .refl
  · rename_i a e
    unfold saCtx at e
    split at e
    · exact Calm.refl.putCtx e rfl
    · rename_i h; unfold isQp at q; rw [h] at q; cases q
    · cases e

theorem sendCtl_calm {n type : Nat} {b : Flds} {s : State} : Calm (sendCtl n type b s) s := by
  unfold sendCtl
  split
  · exact .refl
  · rename_i c e
    split
    · exact .refl
    · exact transmit_calm.trans (Calm.refl.putCtx e rfl)

theorem phaseOut_closing {s : State} {k : Nat} {c : Ctx} : (phaseOut s k c).closing = c.closing := by
  unfold phaseOut advancePhase
  split <;> rfl

theorem launch_calm {n : Nat} {o : OutMsg} {s : State} : Calm (launch n o s) s := by
  unfold launch
  cases e : ctxAt s n with
  | none => exact .refl
  | some c =>
    have hSent : Calm (if isQp (phaseOut s o.packets c) then espSend (phaseOut s o.packets c) o.packets s else ([], s)).2 s := by
      split
      · exact espSend_calm ‹_›
      · exact .refl
    exact transmit_calm.trans (hSent.putCtx e phaseOut_closing)

theorem sendOn_calm {n op : Nat} {m : Msg} {s : State} : Calm (sendOn n op m s) s := by
  unfold sendOn
  split
  · exact .refl
  · rename_i c e
    split
    · exact .refl
    · split
      · exact send_frame.calm rfl rfl
      · dsimp only
        split
        · exact (mirrorSend_frame.calm rfl rfl).putCtx e rfl
        · exact launch_calm.trans ((mirrorSend_frame.calm rfl rfl).putCtx e rfl)

theorem sendMbx_calm {n : Nat} {m : Msg} {s : State} : Calm (sendMbx n m s) s := by
  unfold sendMbx
  split
  · exact sendOn_calm
  · exact sendOn_calm
  · dsimp only
    split
    · exact (fillRing_frame.calm rfl rfl).trans ((putRing_frame.calm rfl rfl).trans (send_frame.calm rfl rfl))
    · exact send_frame.calm rfl rfl

theorem replyAfter_calm {c : Call} {op : Nat} {b : Flds} {shards : List Nat} {drains : List (Nat × Nat)} {s : State} :
    Calm (replyAfter c op b shards drains s) s := by
  unfold replyAfter
  dsimp only
  split
  · exact replyHeld_frame.calm rfl rfl
  · exact sendMbx_calm

theorem closeConn_calm {n : Nat} {s : State} : Calm (closeConn n s) s :=
  ⟨rfl, rfl, rfl, fun h => by unfold closeConn; rw [h]; rfl, id⟩

theorem freeCtx_calm {n : Nat} {s : State} : Calm (freeCtx n s) s := by
  unfold freeCtx
  split
  · exact .refl
  · exact (mirrorCtx_frame.calm rfl rfl).trans
      ⟨rfl, rfl, rfl, id, fun ⟨hNone, hOpen⟩ => ⟨hNone, fun y hy => hOpen y (List.mem_of_mem_filter hy)⟩⟩

/-- A session that ends without a region is gone at once; one with a region, which settled states have none of, waits for it. -/
theorem endOne_calm {at_ n : Nat} {s : State} : Calm (endOne at_ n s) s := by
  unfold endOne
  split
  · exact .refl
  · rename_i c e
    split
    · exact .refl
    · have unhooked : Calm (unhook c s) s :=
        ⟨rfl, rfl, rfl, id, fun ⟨hNone, hOpen⟩ => ⟨(congrArg (List.map _) hNone).trans List.map_nil, hOpen⟩⟩
      have closed := (Calm.foldl fun a m => closeConn_calm (n := m)).trans unhooked (a := (connsOn s n).foldl (fun acc m => closeConn m acc) (unhook c s))
      dsimp only
      generalize (connsOn s n).foldl (fun acc m => closeConn m acc) (unhook c s) = z at closed ⊢
      split
      · rename_i r hr
        refine Calm.trans (b := z) ?_ closed
        refine ⟨rfl, rfl, rfl, id, fun ⟨hNone, _⟩ => ?_⟩
        unfold regionAt at hr
        rw [hNone] at hr
        cases hr
      · exact freeCtx_calm.trans closed

theorem endCtx_calm {n : Nat} {s : State} : Calm (endCtx n s) s := Calm.foldl fun _ _ => endOne_calm

theorem closeCtx_calm {code n : Nat} {s : State} : Calm (closeCtx code n s) s := by
  unfold closeCtx
  split
  · exact endCtx_calm.trans sendCtl_calm
  · exact .refl

theorem closeAll_calm {code : Nat} {p : Ctx → Bool} {s : State} : Calm (closeAll code p s) s := Calm.foldl fun _ _ => closeCtx_calm

theorem closeConns_calm {p : Conn → Bool} {s : State} : Calm (closeConns p s) s := by
  refine Calm.foldl fun a x => ?_
  split
  · exact closeCtx_calm
  · exact closeCtx_calm
  · exact closeConn_calm
  · exact closeConn_calm

theorem Calm.mapCtxs {f : Ctx → Ctx} {m : Mailboxes} {z s : State} (h : Calm z s) (hf : ∀ y, (f y).closing = y.closing) :
    Calm { z with trn := { z.trn with ctxs := z.trn.ctxs.map f }, mbx := m } s := by
  refine ⟨h.anchor, h.custody, h.lastBeacon, h.challenge, fun hs => ?_⟩
  obtain ⟨hNone, hOpen⟩ := h.settled hs
  refine ⟨hNone, fun y hy => ?_⟩
  obtain ⟨x, hx, rfl⟩ := List.mem_map.mp hy
  exact (hf x).trans (hOpen x hx)

theorem recheckGrants_calm {s : State} : Calm (recheckGrants s) s := (closeConns_calm.trans closeAll_calm).mapCtxs fun _ => rfl

/-- No session of a settled state drains. -/
theorem Settled.drainsOf {s : State} (h : Settled s) (p : Ctx → Bool) : drainsOf p s = [] := by
  unfold Machine.drainsOf
  rw [List.map_eq_nil_iff, List.filter_eq_nil_iff]
  intro y hy
  rw [h.2 y hy]
  exact Bool.false_ne_true

end Machine
end Sys2Proof
end

section
/-!
PROOFS. Custody Time, firmware and debug (02 R60 to R64; 03 R76, R77; 04 R118). Each command's rules are taken apart once, on the state that
its checks leave.
-/
namespace Sys2Proof
namespace Machine

theorem Frame.previous {w : Nat} {t s : State} (h : Frame w t s) (k : w.testBit 4 = false) : t.auth.previous = s.auth.previous :=
  congrArg (fun y => y.2.2.2.2.2.2.2.2.2.1) (h.authority k)

theorem Frame.unlocked {w : Nat} {t s : State} (h : Frame w t s) (k : w.testBit 4 = false) : t.auth.unlocked = s.auth.unlocked :=
  congrArg (fun y => y.2.2.2.2.2.2.2.2.2.2.2.2.2.2.1) (h.authority k)

section
variable {s : State} {c : Call} {x : Conn}

theorem Acted.time {t z : State} (h : Acted t z) : t.time = z.time := by rw [h]
theorem Acted.reg {t z : State} (h : Acted t z) : t.reg = z.reg := by rw [h]
theorem Acted.fix {t z : State} (h : Acted t z) : t.fix = z.fix := by rw [h]

theorem drawDigest_afterChecks : (drawDigest (afterChecks s c x)).1 = (drawDigest s).1 :=
  afterChecks_same (fun z => (drawDigest z).1) fun _ => rfl

/-- Drawing a nonce takes no time. -/
theorem mono_drawDigest : mono (drawDigest (afterChecks s c x)).2 = mono s := by
  have hTime : (drawDigest (afterChecks s c x)).2.time = (afterChecks s c x).time := drawDigest_frame.time rfl
  unfold mono
  rw [hTime]
  exact afterChecks_same (fun z => mono z) fun _ => rfl

/-- The state in which TIME_CHALLENGE answers. -/
def challenged (c : Call) (s : State) : State :=
  { (drawDigest s).2 with time := { (drawDigest s).2.time with
    challenge := some { mbx := c.mbx, nonce := (drawDigest s).1, egress := mono (drawDigest s).2 } } }

/-- The state in which DEBUG_CHALLENGE answers. -/
def debugChallenged (s : State) : State :=
  { (drawDigest s).2 with auth := { (drawDigest s).2.auth with debugNonce := some ((drawDigest s).1, mono (drawDigest s).2) } }

theorem Reachable.drawDigest {n : Nat} (h : Reachable s n) : Reachable (drawDigest s).2 n := h.of_frame drawDigest_frame rfl rfl rfl rfl

theorem execTimeChallenge_checked (k : Checked s c 0x0401 isCustodian x) :
    execTimeChallenge c s = .next (reply c 0x0401 sOk [(32, (drawDigest (afterChecks s c x)).1.toNat)] (challenged c (afterChecks s c x))) := by
  unfold execTimeChallenge
  rw [mailboxCmd_quiet k]
  · rfl
  · exact (reply_frame.drv rfl).trans (drawDigest_frame.drv rfl)

theorem execDebugChallenge_checked (k : Checked s c 0x0503 isOperator x) :
    execDebugChallenge c s = .next (reply c 0x0503 sOk [(32, (drawDigest (afterChecks s c x)).1.toNat)] (debugChallenged (afterChecks s c x))) := by
  unfold execDebugChallenge
  rw [mailboxCmd_quiet k]
  · rfl
  · exact (reply_frame.drv rfl).trans (drawDigest_frame.drv rfl)

/-- The state in which a chunk of an image is kept. -/
def staged (g : FwStaging) (s : State) : State := { s with auth := { s.auth with staging := some g } }

theorem execFwStage_first {length : Word64} {chunk : Bytes} {image : FwImage} (k : Checked s c 0x0501 isCustodian x) (hChunk : chunk ≠ [])
    (hMore : chunk.length < length.toNat) :
    execFwStage c 0 length chunk image s = .next (reply c 0x0501 sOk [] (staged
      { received := chunk.length, length := length.toNat, digest := none, svn := 0, release := 0, revokes := [] } (afterChecks s c x))) := by
  have hZero : (0 : Word64).toNat = 0 := rfl
  have hTaken : ¬ ((!true) = true ∨ length.toNat < chunk.length ∨ chunk.isEmpty = true) := by
    simp only [List.isEmpty_iff, hChunk, Bool.not_true, Bool.false_eq_true, or_false, false_or]
    omega
  unfold execFwStage
  dsimp only
  rw [mailboxCmd_quiet k]
  · simp only [hZero, Nat.zero_add, beq_self_eq_true, Bool.true_or]
    rw [if_neg hTaken, if_pos hMore]
    rfl
  · simp only [hZero, Nat.zero_add, beq_self_eq_true, Bool.true_or]
    rw [if_neg hTaken, if_pos hMore]
    exact reply_frame.drv rfl

/-- The state in which the fuses burnt up to `n` are announced (02 R64). -/
def fused (n : Nat) (s : State) : State :=
  send (msg .host .fuse 0 0 0 [(1, n)]) { s with auth := { s.auth with fusedSvn := n, previous := none } }

/-- The entry that FW_COMMIT makes. -/
def fusedEntry (n : Nat) : Flds := [(1, 2), (1, n), (6, 0), (32, (Config.bootDigest 3).toNat)]

theorem fused_auth {n : Nat} : (fused n s).auth = { s.auth with fusedSvn := n, previous := none } := send_frame.auth rfl

theorem Reachable.fused {n m : Nat} (h : Reachable s m) : Reachable (fused n s) m :=
  (h.congr (t := { s with auth := { s.auth with fusedSvn := n, previous := none } }) rfl rfl rfl rfl).of_frame send_frame rfl rfl rfl rfl

theorem execFwCommit_acted {svn : Byte} (k : Checked s c 0x0502 isCustodian x) (hRuns : svn.toNat ≤ s.auth.runningSvn)
    (up : s.pst.drivesDown = false) :
    ∃ t, execFwCommit c svn s = .next t ∧ Acted t (reply c 0x0502 sOk [] (enter shelfChain 0x0043 noStamp
      (fusedEntry (max s.auth.fusedSvn svn.toNat)) (fused (max s.auth.fusedSvn svn.toNat) (afterChecks s c x)))) := by
  have hFused : (afterChecks s c x).auth.fusedSvn = s.auth.fusedSvn := afterChecks_same (fun z => z.auth.fusedSvn) fun _ => rfl
  have hRunning : (afterChecks s c x).auth.runningSvn = s.auth.runningSvn := afterChecks_same (fun z => z.auth.runningSvn) fun _ => rfl
  have hRuns : ¬ (afterChecks s c x).auth.runningSvn < svn.toNat := by
    rw [hRunning]
    exact Nat.not_lt.mpr hRuns
  refine ⟨_, rfl, (mailboxCmd_acted k up).of_eq ?_⟩
  dsimp only
  rw [if_neg hRuns, hFused]
  rfl

theorem execSanitiseStatus_idle (k : Checked s c 0x0804 isCustOper x) (hNone : s.block.shelfSan = none) :
    execSanitiseStatus c s = .next (reply c 0x0804 sOk [(1, 0), (7, 0), (24, 0)] (afterChecks s c x)) := by
  have hNone := (afterChecks_same (c := c) (x := x) (fun z => z.block.shelfSan) fun _ => rfl).trans hNone
  unfold execSanitiseStatus
  rw [mailboxCmd_quiet k]
  · rw [hNone]
  · rw [hNone]
    exact reply_frame.drv rfl

/-! TIME_BEACON -/

/-- A beacon passes its checks (03 R77). -/
structure BeaconGood (c : Call) (b : Beacon) (k : Challenge) (s : State) : Prop where
  version : b.version = 1
  nanos : b.nanos < 1000000000
  signer : s.auth.timeKey = some b.signer
  challenge : s.time.challenge = some k
  mbx : k.mbx = c.mbx
  nonce : k.nonce = b.nonce
  module : b.module = Config.moduleDigest
  timely : late s k.egress (pTsBeaconWindow s * secU) = false
  ahead : s.time.custody + secU < beaconTime b

theorem BeaconGood.afterChecks {b : Beacon} {y : Challenge} (h : BeaconGood c b y s) : BeaconGood c b y (afterChecks s c x) := by
  obtain ⟨k, e⟩ := afterChecks_eq s c x
  rw [e]
  exact ⟨h.version, h.nanos, h.signer, h.challenge, h.mbx, h.nonce, h.module, h.timely, h.ahead⟩

theorem execTimeBeacon_acted {b : Beacon} {y : Challenge} (k : Checked s c 0x0402 isCustodian x) (g : BeaconGood c b y s)
    (up : s.pst.drivesDown = false) : ∃ t, execTimeBeacon c b true s = .next t ∧ Acted t (acceptBeacon c b (afterChecks s c x)) := by
  have g := g.afterChecks (x := x)
  have hForm : ¬ (b.version ≠ 1 ∨ 1000000000 ≤ b.nanos) :=
    fun h => h.elim (fun hVersion => hVersion g.version) (fun hNanos => absurd g.nanos (Nat.not_lt.mpr hNanos))
  have hSigned : ¬ ((!true) = true ∨ (afterChecks s c x).auth.timeKey ≠ some b.signer) := by simp [g.signer]
  have hOurs : ¬ (y.mbx ≠ c.mbx ∨ y.nonce ≠ b.nonce ∨ b.module ≠ Config.moduleDigest) := by simp [g.mbx, g.nonce, g.module]
  have hForward : ¬ ((beaconTime b : Int) - (afterChecks s c x).time.custody < -(secU : Int)) := by
    have := g.ahead
    omega
  refine ⟨_, rfl, (mailboxCmd_acted k up).of_eq ?_⟩
  rw [if_neg hForm, if_neg hSigned, g.challenge]
  simp only
  rw [if_neg hOurs, g.timely, if_neg Bool.false_ne_true, if_neg hForward]

/-- The state of a beacon taken, before its entry: anchored at the beacon's time, its challenge spent. -/
def anchoredAt (b : Beacon) (s : State) : State :=
  { s with time := { s.time with
    custody := if (secU : Int) < (beaconTime b : Int) - s.time.custody then beaconTime b else s.time.custody,
    custOffset := (beaconTime b : Int) - s.time.shelf, anchor := .anchored,
    lastBeacon := if (secU : Int) < (beaconTime b : Int) - s.time.custody then beaconTime b else s.time.custody,
    beacons := s.time.beacons + 1, challenge := none } }

/-- All that a beacon brings with it leaves the time at which it was taken. -/
theorem acceptBeacon_calm {b : Beacon} : Calm (acceptBeacon c b s) (anchoredAt b s) := by
  unfold acceptBeacon
  exact replyAfter_calm.trans ((signCheckpoint_frame.calm rfl rfl).trans (recheckGrants_calm.trans
    ((expireAll_frame.calm rfl rfl).trans (enter_frame.calm rfl rfl))))

theorem acceptBeacon_time {b : Beacon} (ahead : s.time.custody + secU < beaconTime b) :
    (acceptBeacon c b s).time.anchor = .anchored ∧ (acceptBeacon c b s).time.custody = beaconTime b ∧
      (acceptBeacon c b s).time.lastBeacon = beaconTime b ∧ (acceptBeacon c b s).time.challenge = none := by
  have far : (secU : Int) < (beaconTime b : Int) - s.time.custody := by omega
  have calm := acceptBeacon_calm (c := c) (b := b) (s := s)
  exact ⟨calm.anchor, calm.custody.trans (if_pos far), calm.lastBeacon.trans (if_pos far), calm.challenge rfl⟩

/-! DEBUG_UNLOCK -/

/-- Up to its end an unlocking neither makes a region nor leaves a session that drains, where there was none. -/
theorem unlockClose_calm {tok : DebugToken} : Calm (unlockClose tok s) s :=
  closeAll_calm.trans ((closeLanyard_frame.calm rfl rfl).trans ((signCheckpoint_frame.calm rfl rfl).trans (enter_frame.calm rfl rfl)))

/-- DEBUG_UNLOCK's rules on the state that the closing leaves. -/
def unlockOrWait (c : Call) (z : State) : State :=
  if (drainsOf (fun _ => true) z).isEmpty then reply c 0x0504 sOk [] (unlockModule z)
  else replyHeld c { heldAt (replyMsg c 0x0504 sOk []) (now z) with drains := drainsOf (fun _ => true) z, job := some .unlock } z

theorem execDebugUnlock_acted {tok : DebugToken} (k : Checked s c 0x0504 isOperator x) (hForm : tok.expiry.ns.toNat < 1000000000)
    (hToken : tokenOk s tok = true) (up : s.pst.drivesDown = false) :
    ∃ t, execDebugUnlock c tok s = .next t ∧ Acted t (unlockOrWait c (unlockClose tok (afterChecks s c x))) := by
  have hToken := (afterChecks_same (c := c) (x := x) (fun z => tokenOk z tok) fun _ => rfl).trans hToken
  refine ⟨_, rfl, (mailboxCmd_acted k up).of_eq ?_⟩
  dsimp only
  rw [if_neg (Nat.not_le.mpr hForm), if_pos hToken]
  rfl

/-- An unlocked module has no key in the SoC, no root, no certified lanyard and no landing memory (02 R61). -/
theorem unlockModule_effect : (unlockModule s).auth.unlocked = true ∧ (unlockModule s).auth.shelfKey = none ∧ (unlockModule s).reg.mem = [] ∧
    (unlockModule s).obj.tenants.all (fun y => y.root.isNone) = true ∧ (unlockModule s).fix.certified = false := by
  unfold unlockModule
  dsimp only
  refine ⟨?_, ?_, ?_, ?_, ?_⟩
  · rw [sayDying_frame.auth rfl]; rfl
  · rw [sayDying_frame.auth rfl]; rfl
  · rw [sayDying_frame.reg rfl]; rfl
  · rw [sayDying_frame.tenants rfl]
    exact List.all_eq_true.mpr fun y hy => by obtain ⟨z, -, rfl⟩ := List.mem_map.mp hy; rfl
  · rw [sayDying_frame.fix rfl]; rfl

/-- Where nothing drains the module opens at once. -/
theorem unlockOrWait_settled (h : Settled s) : unlockOrWait c s = reply c 0x0504 sOk [] (unlockModule s) := by
  unfold unlockOrWait
  rw [h.drainsOf]
  rfl

/-- Where sessions drain the answer waits for them and carries the unlocking with it (13 R342). -/
theorem unlockOrWait_drains (h : drainsOf (fun _ => true) s ≠ []) :
    (unlockOrWait c s).auth = s.auth ∧ (unlockOrWait c s).held.any (fun y => y.msg == replyMsg c 0x0504 sOk [] &&
      y.job == some .unlock && y.drains == drainsOf (fun _ => true) s) = true := by
  have hWaits : ¬ (drainsOf (fun _ => true) s).isEmpty = true := by rwa [List.isEmpty_iff]
  unfold unlockOrWait
  rw [if_neg hWaits]
  refine ⟨replyHeld_frame.auth rfl, ?_⟩
  rw [replyHeld_held, List.any_append]
  simp [heldAt]

end

end Machine

open Machine

/-- Settles O18: what each command's rules set stays through the entries they make and the answer; nothing that goes out changes the time. -/
theorem timeFirmwareDebugComplete : Obligations.TimeFirmwareDebugComplete := by
  unfold Obligations.TimeFirmwareDebugComplete
  refine ⟨?challenge, ?beacon, ?stage, ?commit, ?debugChallenge, ?unlock, ?unlockWaits, fun c x s k hNone => execSanitiseStatus_idle k hNone⟩
  case challenge =>
    intro c x s k
    refine ⟨_, execTimeChallenge_checked k, ?_, ?_⟩
    · rw [drawDigest_afterChecks]
      exact ((reachable_afterChecks k).drawDigest.congr (t := challenged c (afterChecks s c x)) rfl rfl rfl rfl).answers
    · rw [reply_frame.challenge rfl]
      unfold challenged
      dsimp only
      rw [drawDigest_afterChecks, mono_drawDigest]
  case beacon =>
    intro c b x y s k hVersion hNanos hSigner hChallenge hMbx hNonce hModule hTimely hAhead up
    have good : BeaconGood c b y s := ⟨hVersion, hNanos, hSigner, hChallenge, hMbx, hNonce, hModule, hTimely, hAhead⟩
    obtain ⟨t, e, acted⟩ := execTimeBeacon_acted k good up
    refine ⟨t, e, ?_⟩
    have timed := acceptBeacon_time (c := c) (good.afterChecks (x := x)).ahead
    rwa [← acted.time] at timed
  case stage =>
    intro c length chunk image x s k hChunk hMore
    refine ⟨_, execFwStage_first k hChunk hMore, ?_, ?_⟩
    · rw [reply_frame.auth rfl]
      rfl
    · exact Reachable.answers ((reachable_afterChecks k).congr (t := staged _ (afterChecks s c x)) rfl rfl rfl rfl)
  case commit =>
    intro c svn x s k hRuns up
    obtain ⟨t, e, acted⟩ := execFwCommit_acted k hRuns up
    refine ⟨t, e, ?_, ?_, acted.answers (reachable_afterChecks k).fused.enter.answers⟩
    · rw [acted.auth, reply_frame.fuse rfl, enter_frame.fuse rfl, fused_auth]
    · rw [acted.auth, reply_frame.auth rfl, enter_frame.previous rfl, fused_auth]
  case debugChallenge =>
    intro c x s k
    refine ⟨_, execDebugChallenge_checked k, ?_, ?_⟩
    · rw [drawDigest_afterChecks]
      exact ((reachable_afterChecks k).drawDigest.congr (t := debugChallenged (afterChecks s c x)) rfl rfl rfl rfl).answers
    · rw [reply_frame.auth rfl]
      unfold debugChallenged
      dsimp only
      rw [drawDigest_afterChecks, mono_drawDigest]
  case unlock =>
    intro c tok x s k hForm hToken up hRegions hOpen
    obtain ⟨t, e, acted⟩ := execDebugUnlock_acted k hForm hToken up
    have settled : Settled (afterChecks s c x) := by
      obtain ⟨m, hm⟩ := afterChecks_eq s c x
      rw [hm]
      exact ⟨hRegions, fun y hy => by simpa using List.all_eq_true.mp hOpen y hy⟩
    rw [unlockOrWait_settled (unlockClose_calm.settled settled)] at acted
    obtain ⟨hUnlocked, hKey, hMem, hRoots, hCertified⟩ := unlockModule_effect (s := unlockClose tok (afterChecks s c x))
    refine ⟨t, e, ?_, ?_, ?_, ?_, ?_⟩
    · rw [acted.auth, reply_frame.auth rfl]; exact hUnlocked
    · rw [acted.auth, reply_frame.auth rfl]; exact hKey
    · rw [acted.reg, reply_frame.reg rfl]; exact hMem
    · rw [acted.obj, reply_frame.obj rfl]; exact hRoots
    · rw [acted.fix, reply_frame.fix rfl]; exact hCertified
  case unlockWaits =>
    intro c tok x s k hForm hToken up hDrains
    obtain ⟨t, e, acted⟩ := execDebugUnlock_acted k hForm hToken up
    obtain ⟨hAuth, hHeld⟩ := unlockOrWait_drains (c := c) hDrains
    refine ⟨t, e, ?_, acted.held ▸ hHeld⟩
    rw [acted.auth, hAuth, unlockClose_frame.unlocked rfl]
    exact afterChecks_same (fun z => z.auth.unlocked) fun _ => rfl

end Sys2Proof
end

section
/-!
PROOFS. PTP, the reference inputs and Custody Time (03 R67 to R74). The selection and the loss of a grandmaster are taken apart once, on any
state; a status bit that an event raises takes no time.
-/
namespace Sys2Proof
namespace Machine

section
variable {s : State}

@[simp] theorem raise_time {a b i : Nat} : (raise a b i s).time = s.time := raise_frame.time rfl

/-! The grandmaster (R67, R68, R70) -/

theorem bestOn_of_one {f : Foreign} {mac : Nat} (h : s.time.foreign = [f]) (hMac : f.data.mac = mac) : bestOn s mac = some f.data := by
  unfold bestOn
  simp [h, hMac]

theorem bestOn_of_none {mac : Nat} (h : s.time.foreign = []) : bestOn s mac = none := by
  unfold bestOn
  rw [h]
  rfl

/-- The best master is selected unless it is the distrusted one (R68, R70). -/
theorem selectGm_best {a : AnnounceData} (hBest : bestOn s (ptpMac s) = some a) (hTrusted : s.time.distrusted ≠ some a.gm) :
    selectGm s = { s with time := { s.time with
      gm := some a, distrusted := none, goodSince := if s.time.gm.any (fun g => g.gm == a.gm) then s.time.goodSince else none,
      mode := if s.time.mode == .freerun then .acquiring else s.time.mode } } := by
  unfold selectGm
  rw [hBest]
  exact if_neg (by simpa using hTrusted)

/-- Losing the grandmaster ends LOCKED in HOLDOVER (R67). -/
theorem loseGm_locked (h : s.time.mode = .locked) :
    loseGm s = { s with time := { s.time with mode := .holdover, gm := none, goodSince := none, holdSince := some (mono s) } } := by
  unfold loseGm
  rw [h]

theorem loseGm_gm : (loseGm s).time.gm = none := by
  unfold loseGm
  split <;> rfl

theorem loseGm_distrusted : (loseGm s).time.distrusted = s.time.distrusted := by
  unfold loseGm
  split <;> rfl

theorem gm_any_of_map {o : Option AnnounceData} {gm : Word64} (h : o.map (fun g => g.gm) = some gm) : o.any (fun g => g.gm == gm) = true := by
  obtain ⟨g, rfl, rfl⟩ := Option.map_eq_some_iff.mp h
  exact beq_self_eq_true g.gm

/-- The state in which a module that knew no master tracks its first one. -/
def tracksFirst (a : AnnounceData) (s : State) : State :=
  { s with time := { s.time with foreign := [{ data := a, heard := mono s }] } }

theorem execPtpAnnounce_first {a : AnnounceData} (hLead : s.time.follower = false) (hMac : a.mac = pTsPtpPort0 s)
    (hDomain : a.domain = pTsPtpCfg0 s) (hRate : syncOk a.logSync = true) (hTransport : ptpByCfg s a.transport = true)
    (hNone : s.time.foreign = []) : execPtpAnnounce a s = .next (selectGm (tracksFirst a s)) := by
  have taken : (s.time.follower || !(a.mac == pTsPtpPort0 s || (pTsPtpPort13 s == 1 && a.mac == pTsPtpPort8 s)) || !ptpByCfg s a.transport ||
      a.domain != pTsPtpCfg0 s || !syncOk a.logSync) = false := by
    rw [hLead, hRate, hTransport, ← hMac, ← hDomain, beq_self_eq_true, bne_self_eq_false]
    rfl
  unfold execPtpAnnounce
  dsimp only
  rw [if_neg (ne_true_of_eq_false taken), hNone]
  rfl

/-- The first qualified Announce on the PTP MAC selects its master (R67). -/
theorem selectGm_tracksFirst {a : AnnounceData} (hUse : ptpMac s = a.mac) (hTrusted : s.time.distrusted ≠ some a.gm) :
    (selectGm (tracksFirst a s)).time.gm = some a ∧
      (selectGm (tracksFirst a s)).time.foreign = [{ data := a, heard := mono s }] ∧
      (selectGm (tracksFirst a s)).time.mode = if s.time.mode == .freerun then .acquiring else s.time.mode := by
  have hBest : bestOn (tracksFirst a s) (ptpMac (tracksFirst a s)) = some a := bestOn_of_one (f := { data := a, heard := mono s }) rfl hUse.symm
  rw [selectGm_best hBest hTrusted]
  exact ⟨rfl, rfl, rfl⟩

/-- A Sync of the grandmaster in service corrects Shelf Time by its offset (R70). -/
theorem execPtpSync_follows {mac transport : Nat} {gm : Word64} {offset logSync : Int} (hLead : s.time.follower = false) (hMac : mac = ptpMac s)
    (hTransport : ptpByCfg s transport = true) (hGm : s.time.gm.map (fun g => g.gm) = some gm) (hRate : syncOk logSync = true)
    (hOpen : s.boot.open_ = true) :
    ∃ good, execPtpSync mac transport gm offset logSync s = .next (followPtp gm offset { s with time := { s.time with goodSince := good } }) := by
  have ours : (s.time.follower || mac != ptpMac s || !ptpByCfg s transport || !(s.time.gm.any (fun g => g.gm == gm))) = false := by
    rw [hLead, ← hMac, hTransport, gm_any_of_map hGm, bne_self_eq_false]
    rfl
  unfold execPtpSync
  dsimp only
  rw [if_neg (ne_true_of_eq_false ours), hRate, hOpen]
  exact ⟨_, rfl⟩

/-- The state in which a grandmaster whose offset is rejected is lost. -/
def distrusting (gm : Word64) (offset : Int) (s : State) : State :=
  { s with time := { s.time with ptpOffset := offset, distrusted := some gm } }

theorem followPtp_within {gm : Word64} {offset : Int} (h : offset.natAbs ≤ pTsPtpReject s * 1000000) :
    followPtp gm offset s = { s with time := { s.time with ptpOffset := offset, slewLeft := -(offset * (nsU : Int)) } } :=
  if_neg (Nat.not_lt.mpr h)

theorem followPtp_rejected {gm : Word64} {offset : Int} (h : pTsPtpReject s * 1000000 < offset.natAbs) :
    followPtp gm offset s = raise stTS 0 noInst (loseGm (distrusting gm offset s)) := if_pos h

/-- Beyond TS_PTP_REJECT the grandmaster is distrusted and lost (R70). -/
theorem followPtp_beyond {gm : Word64} {offset : Int} (h : pTsPtpReject s * 1000000 < offset.natAbs) :
    (followPtp gm offset s).time.distrusted = some gm ∧ (followPtp gm offset s).time.gm = none ∧
      (s.time.mode = .locked → (followPtp gm offset s).time.mode = .holdover) ∧ (statusWord (followPtp gm offset s) stTS).testBit 0 = true := by
  rw [followPtp_rejected h, raise_time]
  exact ⟨loseGm_distrusted, loseGm_gm, fun hLocked => by rw [loseGm_locked (s := distrusting gm offset s) hLocked], raise_sets⟩

/-- A frame that starts on its MAC takes its stamps there; a Delay_Req keeps its own (R68; 14 R367). -/
theorem startFrame_delayReq {m : Mac} {i : SchItem} (h : isDelayReq i = true) : (startFrame m i s).time.delayReq = some (now s) := by
  unfold startFrame
  dsimp only
  rw [send_frame.time rfl, putMac_frame.time rfl, bumpWide_frame.time rfl, bumpWide_frame.time rfl, if_pos h]

/-- The state in which no master is tracked and no Delay_Req is out. -/
def untracked (s : State) : State := { s with time := { s.time with foreign := [], delayReq := none } }

/-- The last grandmaster tracked is not heard for its receipt timeout: it is lost (R67). -/
theorem execAnnounceReceiptTimeout_last {g : AnnounceData} {f : Foreign} (hLead : s.time.follower = false) (hGm : s.time.gm = some g)
    (hOne : s.time.foreign = [f]) (hData : f.data = g) (hSilent : notHeard s f = true) :
    execAnnounceReceiptTimeout s = .next (loseGm (untracked s)) := by
  subst hData
  have silent : ¬ (s.time.follower || s.time.foreign.any (fun y => (y.data.gm == f.data.gm && y.data.mac == f.data.mac) && !notHeard s y)) = true := by
    simp [hLead, hOne, hSilent]
  have dropped : dropIf (fun y => y.data.gm == f.data.gm && y.data.mac == f.data.mac) s.time.foreign = [] := by
    simp [dropIf, hOne]
  unfold execAnnounceReceiptTimeout
  rw [hGm]
  dsimp only
  rw [if_neg silent, dropped, bestOn_of_none rfl, bestOn_of_none rfl, Option.isSome_none, Bool.and_false, if_neg Bool.false_ne_true]
  rfl

theorem execPtpLockAchieved_due {since : Nat} (hGood : s.time.goodSince = some since) (hGm : s.time.gm.isSome = true)
    (hMode : s.time.mode = .acquiring ∨ s.time.mode = .holdover) (hDue : since + 60 * secU ≤ mono s) :
    execPtpLockAchieved s = .next { s with time := { s.time with mode := .locked, everLocked := true, holdSince := none } } := by
  have due : (s.time.gm.isSome && (s.time.mode == .acquiring || s.time.mode == .holdover) && decide (since + 60 * secU ≤ mono s)) = true := by
    rw [hGm, decide_eq_true hDue]
    obtain h | h := hMode <;> rw [h] <;> rfl
  unfold execPtpLockAchieved
  simp only [hGood, due, if_true]

theorem execHoldoverLimit_due {since : Nat} (hSince : s.time.holdSince = some since) (hMode : s.time.mode = .holdover)
    (hDue : confirmed s since (14400 * secU) = true) : execHoldoverLimit s = .next (raise stTS 1 noInst s) := by
  unfold execHoldoverLimit
  simp only [hSince, hMode, hDue, beq_self_eq_true, Bool.and_self, if_true]

/-! The reference inputs (R69) -/

/-- The edge of a 1PPS input that is in use and qualified, by whether it is off. -/
theorem execPpsEdge_qualified {rising : Bool} {offset : Int} (hUse : pTsRefCtrl0 s ≠ 0) (hSense : rising = (pTsRefCtrl1 s == 0))
    (hQual : s.time.ppsQual = true) :
    execPpsEdge rising offset s =
      if decide (1000 < (offset - ppsDelay s).natAbs) then
        if s.time.ppsRun + 1 < 10 then .next { s with time := { s.time with ppsRun := s.time.ppsRun + 1 } }
        else .next (raise stTS 4 noInst { s with time := { s.time with ppsQual := false, ppsRun := 0 } })
      else .next { s with time := { s.time with
        ppsRun := 0, slewLeft := if s.boot.open_ && !s.time.follower then -((offset - ppsDelay s) * (nsU : Int)) else s.time.slewLeft } } := by
  have used : ¬ (pTsRefCtrl0 s == 0 || rising != (pTsRefCtrl1 s == 0)) = true := by simp [hUse, hSense]
  unfold execPpsEdge
  dsimp only
  rw [if_neg used, if_pos hQual]

end

end Machine

open Machine

/-- Settles O9: an event whose conditions hold reaches its last branch, and the status bit it raises leaves the time as that branch set it. -/
theorem ptpEventsComplete : Obligations.PtpEventsComplete := by
  unfold Obligations.PtpEventsComplete
  refine ⟨?announce, ?within, ?beyond, ?delayReq, fun m i s h => startFrame_delayReq h, ?delayResp, ?receiptTimeout, ?lock, ?holdover⟩
  case announce =>
    intro a s hLead hMac hUse hDomain hRate hTransport hNone hTrusted
    obtain ⟨hGm, hForeign, hMode⟩ := selectGm_tracksFirst hUse hTrusted
    exact ⟨_, execPtpAnnounce_first hLead hMac hDomain hRate hTransport hNone, hGm, hForeign,
      fun h => by rw [hMode, h]; rfl, fun h => by rw [hMode, if_neg (by simpa using h)]⟩
  case within =>
    intro mac transport gm offset logSync s hLead hMac hTransport hGm hRate hOpen hWithin
    obtain ⟨good, e⟩ := execPtpSync_follows (offset := offset) hLead hMac hTransport hGm hRate hOpen
    refine ⟨_, e, ?_⟩
    rw [followPtp_within (s := { s with time := { s.time with goodSince := good } }) hWithin]
    exact ⟨rfl, rfl, rfl, rfl⟩
  case beyond =>
    intro mac transport gm offset logSync s hLead hMac hTransport hGm hRate hOpen hBeyond
    obtain ⟨good, e⟩ := execPtpSync_follows (offset := offset) hLead hMac hTransport hGm hRate hOpen
    exact ⟨_, e, followPtp_beyond hBeyond⟩
  case delayReq =>
    intro s hLead hGm
    exact if_neg (by rw [hLead, Option.isNone_eq_false_iff.mpr hGm]; exact Bool.false_ne_true)
  case delayResp =>
    intro mac transport gm delay s hAsked hMac hTransport hGm
    refine if_neg ?_
    rw [Option.isNone_eq_false_iff.mpr hAsked, ← hMac, hTransport, gm_any_of_map hGm, bne_self_eq_false]
    exact Bool.false_ne_true
  case receiptTimeout =>
    intro g f s hLead hGm hOne hData hSilent hLocked
    have lost := execAnnounceReceiptTimeout_last hLead hGm hOne hData hSilent
    rw [loseGm_locked (s := untracked s) hLocked] at lost
    exact ⟨_, lost, rfl, rfl, rfl, rfl, rfl⟩
  case lock =>
    intro since s hGood hGm hMode hDue
    exact execPtpLockAchieved_due hGood hGm hMode hDue
  case holdover =>
    intro since s hSince hMode hDue
    exact ⟨_, execHoldoverLimit_due hSince hMode hDue, raise_sets, raise_time⟩

/-- Settles O10: a qualified 1PPS input goes by whether its edge is off; the other events have one condition each. -/
theorem referenceEventsComplete : Obligations.ReferenceEventsComplete := by
  unfold Obligations.ReferenceEventsComplete
  refine ⟨?agrees, ?off, ?qualified, ?loss, ?aged, fun s => rfl⟩
  case agrees =>
    intro rising offset s hUse hSense hQual hAgrees hOpen hLead
    refine (execPpsEdge_qualified hUse hSense hQual).trans ?_
    rw [if_neg (by simpa using hAgrees), hOpen, hLead]
    rfl
  case off =>
    intro rising offset s hUse hSense hQual hOff hTenth
    refine ⟨_, (execPpsEdge_qualified hUse hSense hQual).trans ((if_pos (decide_eq_true hOff)).trans (if_neg (by omega))), ?_⟩
    exact ⟨by rw [raise_time], raise_sets, by rw [raise_time]⟩
  case qualified =>
    intro ppb s hUse hNear
    exact if_neg (by simp [hUse, hNear])
  case loss =>
    intro s hQual
    refine ⟨_, if_pos hQual, ?_⟩
    exact ⟨by rw [raise_time], by rw [raise_time], raise_sets⟩
  case aged =>
    intro s hAnchored hOld
    exact if_pos (by rw [hAnchored, decide_eq_true hOld]; rfl)

end Sys2Proof
end

section
/-!
PROOFS. The supply, Keep-safe service and the belay (21 R492 to R495, R505, R508, R509). What the unit does to its channels leaves the rest of
its record alone, and what it tells the rest of the module leaves the record whole.
-/
namespace Sys2Proof
namespace Machine

section
variable {s t : State}

/-! What a change of the channels leaves -/

/-- From `s` to `t` the record of the power entry unit changes in its channels only. -/
def FeedsOnly (t s : State) : Prop := ∃ i v, t.pwr = { s.pwr with input := i, slots := v }

theorem FeedsOnly.refl : FeedsOnly s s := ⟨_, _, rfl⟩

theorem FeedsOnly.trans {r : State} (h : FeedsOnly t s) (k : FeedsOnly s r) : FeedsOnly t r := by
  obtain ⟨i, v, e⟩ := h
  obtain ⟨_, _, e'⟩ := k
  exact ⟨i, v, by rw [e, e']⟩

/-- What leaves the record whole leaves all but its channels. -/
theorem Frame.feedsOnly {w : Nat} (h : Frame w t s) (k : w.testBit 32 = false) : FeedsOnly t s := ⟨_, _, h.pwr k⟩

theorem putFeed_feedsOnly {ch : ChanId} {f : Feed} : FeedsOnly (putFeed ch f s) s := by
  cases ch <;> exact ⟨_, _, rfl⟩

theorem feedOff_feedsOnly {ch : ChanId} : FeedsOnly (feedOff ch s) s := by
  unfold feedOff
  dsimp only
  split <;> exact putFeed_feedsOnly

theorem inputGateOff_feedsOnly : FeedsOnly (inputGateOff s) s := by
  unfold inputGateOff
  dsimp only
  split
  · exact putFeed_feedsOnly
  · exact feedOff_feedsOnly

theorem startInsert_feedsOnly {ch : ChanId} : FeedsOnly (startInsert ch s) s := by
  unfold startInsert
  dsimp only
  split
  · exact putFeed_feedsOnly
  · exact .refl

theorem startChannel_feedsOnly {ch : ChanId} : FeedsOnly (startChannel ch s) s := by
  cases ch with
  | slot n => exact startInsert_feedsOnly
  | input =>
    unfold startChannel
    dsimp only
    split
    · exact .refl
    · split
      · exact (beginStart_frame.feedsOnly rfl).trans startInsert_feedsOnly
      · exact startInsert_feedsOnly

/-! Readings (R492, R493) -/

/-- What the mean over 1 ms sets: the readings, the band and the governor's cap. -/
def supply (s : State) : Nat × Nat × Nat × Band × Nat := (s.pwr.vin, s.pwr.iin, s.pwr.holdup, s.pwr.band, s.pwr.cap)

theorem FeedsOnly.supply (h : FeedsOnly t s) : supply t = supply s := by
  obtain ⟨i, v, e⟩ := h
  unfold Machine.supply
  rw [e]

theorem Frame.supply {w : Nat} (h : Frame w t s) (k : w.testBit 32 = false) : supply t = Machine.supply s := (h.feedsOnly k).supply

theorem supply_ite {p : Prop} [Decidable p] {f : State} (ht : supply t = supply s) (hf : supply f = supply s) :
    supply (if p then t else f) = supply s := by
  split <;> assumption

theorem powerBit_supply {a b i : Nat} : supply (powerBit a b i s) = supply s := powerBit_frame.supply rfl

theorem raiseBelay_supply {cause : BelayCause} : supply (raiseBelay cause s) = supply s := by
  unfold raiseBelay
  refine supply_ite rfl ((abandonHold_frame.supply rfl).trans ?_)
  calc supply (inputGateOff (sayDying (wake 6 (if s.pst.mode == .dormant then raise stPST 4 noInst s else s))))
    _ = supply (wake 6 (if s.pst.mode == .dormant then raise stPST 4 noInst s else s)) :=
        inputGateOff_feedsOnly.supply.trans (sayDying_frame.supply rfl)
    _ = supply (if s.pst.mode == .dormant then raise stPST 4 noInst s else s) := wake_frame.supply rfl
    _ = supply s := supply_ite (raise_frame.supply rfl) rfl

theorem judgeKeepSafe_supply : supply (judgeKeepSafe s) = supply s := by
  unfold judgeKeepSafe
  exact supply_ite (supply_ite rfl powerBit_supply) rfl

/-- Whatever the reading brings about, it stands (R492, R493). -/
theorem execSupplyBandWindow_supply {mv ma j : Nat} :
    ∃ t, execSupplyBandWindow mv ma j s = .next t ∧ supply t = (mv, ma, j, nextBand s.pwr.band mv, governorCap s mv) := by
  refine ⟨_, rfl, ?_⟩
  refine (supply_ite raiseBelay_supply rfl).trans ?holdup
  refine (supply_ite powerBit_supply rfl).trans ?judged
  refine judgeKeepSafe_supply.trans ?derated
  refine (supply_ite powerBit_supply rfl).trans ?woken
  exact (supply_ite (wake_frame.supply rfl) rfl).trans rfl

theorem execKeepSafeExit_due {n : Nat} (hKeep : s.pwr.keepSafe = true) (hClear : s.pwr.clearSince = some n) (hCause : keepSafeCause s = false)
    (hDue : ticked s n 1000000000 = true) :
    execKeepSafeExit s = .next (s.hitch.list.foldl (fun acc h => pumpHitch h.record.id acc) { s with pwr := { s.pwr with keepSafe := false } }) := by
  unfold execKeepSafeExit
  simp only [hKeep, hClear, hCause, hDue, Bool.not_false, Bool.and_self, if_true]

/-! Windows (R498, R505, R508) -/

theorem execChannelWindowChange_leaves {ch : ChanId} {mv : Nat} (hWas : (feedAt s ch).inside = true) (hIs : insideWindow s ch mv = false) :
    execChannelWindowChange ch mv s = .next (
      let z := putFeed ch { feedAt s ch with inside := false } { s with pwr := { s.pwr with sensed := mv } }
      match ch with
      | .input => inputLeaves mv z
      | .slot n => slotLeaves n z) := by
  unfold execChannelWindowChange
  simp only [hWas, hIs, Bool.not_false, Bool.and_self, if_true]
  cases ch <;> rfl

theorem execChannelWindowChange_slotEnters {k : Fin 24} {mv : Nat} (hWas : (feedAt s (.slot k)).inside = false)
    (hIs : insideWindow s (.slot k) mv = true) :
    execChannelWindowChange (.slot k) mv s = .next (startChannel (.slot k)
      (putFeed (.slot k) { feedAt s (.slot k) with inside := true } { s with pwr := { s.pwr with sensed := mv } })) := by
  unfold execChannelWindowChange
  simp only [hWas, hIs, Bool.not_true, Bool.not_false, Bool.and_self, Bool.false_eq_true, if_false, if_true]
  rfl

/-! Belay (R508, R509) -/

/-- The belay condition is raised once while the SoC is powered. -/
theorem raiseBelay_raised {cause : BelayCause} (hOn : s.pwr.socOn = true) (hNone : s.pwr.belay = none) :
    (raiseBelay cause s).pwr.belay = some (cause, s.time.ticks) ∧ (raiseBelay cause s).pwr.belayTen = false ∧
      (raiseBelay cause s).pwr.onHoldup = true ∧ (raiseBelay cause s).pwr.outSince = none := by
  have first : ¬ (!s.pwr.socOn || s.pwr.belay.isSome) = true := by rw [hOn, hNone]; exact Bool.false_ne_true
  unfold raiseBelay
  rw [if_neg first, abandonHold_frame.pwr rfl]
  exact ⟨rfl, rfl, rfl, rfl⟩

theorem execBelayQualification_late {n : Nat} (hOut : s.pwr.outSince = some n) (hLate : withinQual s n = false) :
    execBelayQualification s = .next (raiseBelay (if s.pwr.outAbove then .aboveWindow else .belowWindow) s) := by
  unfold execBelayQualification
  simp only [hOut, hLate, Bool.false_eq_true, if_false]

@[simp] theorem powerBit_pwr {a b i : Nat} : (powerBit a b i s).pwr = s.pwr := powerBit_frame.pwr rfl

/-- The state in which a ride-through is announced: the input is back, and a channel that was off ramps (R508). -/
def riddenThrough (s : State) : State :=
  let z := { s with pwr := { s.pwr with outSince := none, outAbove := false, onHoldup := false } }
  if s.pwr.input.state == .off then
    putFeed .input { s.pwr.input with state := .ramp, since := s.time.ticks, attempt := s.time.ticks } z
  else z

theorem inputReturns_within {n : Nat} (h : withinQual s n = true) : inputReturns n s = powerBit stPWR 0 noInst (riddenThrough s) := by
  unfold inputReturns
  rw [h]
  rfl

theorem riddenThrough_pwr : (riddenThrough s).pwr.outSince = none ∧ (riddenThrough s).pwr.onHoldup = false ∧
    (riddenThrough s).pwr.sensed = s.pwr.sensed ∧
    (riddenThrough s).pwr.input.state = (if s.pwr.input.state == .off then .ramp else s.pwr.input.state) ∧
    (riddenThrough s).pwr.belay = s.pwr.belay := by
  unfold riddenThrough
  dsimp only
  split
  · exact ⟨rfl, rfl, rfl, rfl, rfl⟩
  · exact ⟨rfl, rfl, rfl, rfl, rfl⟩

/-- The state in which the input stands in its window again. -/
def inputInside (mv : Nat) (s : State) : State := { s with pwr := { s.pwr with sensed := mv, input := { s.pwr.input with inside := true } } }

/-- The deadline of an excursion does not turn on where the input stands. -/
theorem withinQual_inputInside {mv n : Nat} : withinQual (inputInside mv s) n = withinQual s n := by
  have same : pPwrBelayQual (unitView (inputInside mv s)) = pPwrBelayQual (unitView s) := by
    unfold unitView
    rw [show configApplied (inputInside mv s) = configApplied s from rfl]
    split <;> rfl
  unfold withinQual
  rw [same]
  rfl

theorem execRideThrough_within {mv n : Nat} (hOut : s.pwr.outSince = some n) (hInside : insideWindow s .input mv = true)
    (hWithin : withinQual s n = true) :
    execRideThrough mv s = .next (powerBit stPWR 0 noInst (riddenThrough (inputInside mv s))) := by
  rw [← inputReturns_within (s := inputInside mv s) (withinQual_inputInside.trans hWithin)]
  unfold execRideThrough inputInside
  simp only [hOut, hInside, hWithin, Bool.and_self, if_true, putFeed]

/-! The drives at t0 + 10 ms (R509; 07 Table 7.7) -/

/-- A port without a command in flight and without a link. -/
def portCut (s : State) (k : Fin 24) : Bool := (portAt s k).cmds.isEmpty && !(portAt s k).linkUp

/-- The writes in flight at a port are abandoned, and its link is gone. -/
def cutPort (n : Fin 24) (s : State) : State :=
  putPort n { portAt s n with cmds := [], linkUp := false, rate := 0, width := 0, step := none, perstAt := none } s

theorem portAt_putPort {n k : Fin 24} {p : DrivePort} : portAt (putPort n p s) k = if n = k then p else portAt s k := by
  unfold portAt putPort
  simp [Vector.getElem_set, Fin.ext_iff]

theorem portCut_cutPort {n k : Fin 24} (h : k = n ∨ portCut s k = true) : portCut (cutPort n s) k = true := by
  unfold portCut cutPort
  rw [portAt_putPort]
  split
  · rfl
  · rename_i hNe
    exact h.resolve_left (Ne.symm hNe)

theorem portCut_foldl {l : List (Fin 24)} {k : Fin 24} (h : k ∈ l ∨ portCut s k = true) :
    portCut (l.foldl (fun acc n => cutPort n acc) s) k = true := by
  induction l generalizing s with
  | nil => exact h.resolve_left List.not_mem_nil
  | cons n l ih =>
    refine ih ?_
    rcases h with hMem | hCut
    · rcases List.mem_cons.mp hMem with rfl | hRest
      · exact .inr (portCut_cutPort (.inl rfl))
      · exact .inl hRest
    · exact .inr (portCut_cutPort (.inr hCut))

/-- The state in which the drive writes are abandoned: each port cut, each slot disabled, each cell free. -/
def drivesAbandoned (s : State) : State :=
  let z := freeCells (fun _ => true) (allSlots.foldl (fun acc n => disableSlot n acc) (allSlots.foldl (fun acc n => cutPort n acc) s))
  { z with hold := { z.hold with frames := [] }, pwr := { z.pwr with belayTen := true } }

theorem drivesAbandoned_cut : allSlots.all (portCut (drivesAbandoned s)) = true := by
  have disabled : ∀ z, Frame 4294967296 (allSlots.foldl (fun acc n => disableSlot n acc) z) z :=
    fun _ => frame_foldl (fun _ _ => disableSlot_frame) .refl
  have hDrv : (drivesAbandoned s).drv = (allSlots.foldl (fun acc n => cutPort n acc) s).drv := by
    unfold drivesAbandoned
    dsimp only
    rw [freeCells_frame.drv rfl, (disabled _).drv rfl]
  refine List.all_eq_true.mpr fun k hk => ?_
  unfold portCut portAt
  rw [hDrv]
  exact portCut_foldl (.inl hk)

theorem execBelayDriveAbandon_due {cause : BelayCause} {n : Nat} (hBelay : s.pwr.belay = some (cause, n)) (hTen : s.pwr.belayTen = false)
    (hDue : ticked s n 10000000 = true) :
    execBelayDriveAbandon s = .next (drivesAbandoned s) := by
  unfold execBelayDriveAbandon drivesAbandoned cutPort
  simp only [hBelay, hTen, hDue, Bool.not_true, Bool.or_self, Bool.false_eq_true, if_false]

/-! The stop (R509) -/

/-- A stopped module is unpowered, its belay over and the cause recorded, whether or not its input starts again. -/
theorem powerDown_stopped {cause : Nat} :
    (powerDown cause s).pwr.socOn = false ∧ (powerDown cause s).pwr.belay = none ∧ (powerDown cause s).pwr.lastStop = cause := by
  unfold powerDown
  obtain ⟨i, v, e⟩ := startChannel_feedsOnly (ch := .input) (s := _)
  rw [e]
  exact ⟨rfl, rfl, rfl⟩

theorem execBelayStop_stops {cause : BelayCause} {n : Nat} (hBelay : s.pwr.belay = some (cause, n)) (hTen : s.pwr.belayTen = true) :
    ∃ z, execBelayStop s = .next (powerDown (stopCode cause) z) := by
  unfold execBelayStop
  simp only [hBelay, hTen, Bool.not_true, Bool.false_eq_true, if_false]
  exact ⟨_, rfl⟩

end

end Machine

open Machine

/-- Settles O29: each event's rules are taken apart once; what they do to a channel or tell the module leaves what the clause speaks of. -/
theorem supplyAndBelayComplete : Obligations.SupplyAndBelayComplete := by
  unfold Obligations.SupplyAndBelayComplete
  refine ⟨?window, ?keepSafe, ?slotLeaves, ?slotEnters, ?inputLeaves, ?qualification, ?rideThrough, ?abandon, ?stop⟩
  case window =>
    intro mv ma j s
    obtain ⟨t, e, hSupply⟩ := execSupplyBandWindow_supply (s := s) (mv := mv) (ma := ma) (j := j)
    exact ⟨t, e, by simpa only [supply, Prod.mk.injEq] using hSupply⟩
  case keepSafe =>
    intro n s hKeep hClear hCause hDue
    exact execKeepSafeExit_due hKeep hClear hCause hDue
  case slotLeaves =>
    intro k mv s hWas hIs
    exact execChannelWindowChange_leaves hWas hIs
  case slotEnters =>
    intro k mv s hWas hIs
    exact execChannelWindowChange_slotEnters hWas hIs
  case inputLeaves =>
    intro mv s hWas hIs
    exact execChannelWindowChange_leaves (ch := .input) hWas hIs
  case qualification =>
    intro n s hOut hLate hOn hNone
    exact ⟨_, execBelayQualification_late hOut hLate, raiseBelay_raised hOn hNone⟩
  case rideThrough =>
    intro mv n s hOut hInside hWithin
    refine ⟨_, execRideThrough_within hOut hInside hWithin, ?_⟩
    simp only [powerBit_pwr]
    exact riddenThrough_pwr
  case abandon =>
    intro cause n s hBelay hTen hDue
    exact ⟨_, execBelayDriveAbandon_due hBelay hTen hDue, rfl, rfl, drivesAbandoned_cut⟩
  case stop =>
    intro cause n s hBelay hTen
    obtain ⟨z, e⟩ := execBelayStop_stops hBelay hTen
    exact ⟨_, e, powerDown_stopped⟩

end Sys2Proof
end

section
/-!
PROOFS. The Myavo link (11 R282 to R285, R298; 12 R323). A message that is taken runs its rules on the hitch that has heard it, by
`myavoIn_taken`; what remains is which branch of its rules its conditions choose.
-/
namespace Sys2Proof
namespace Machine

section
variable {s : State}

/-- A HELLO that passes every check takes the session (R282). -/
theorem execHello_passes {m : Myavo} {a : HelloIn} {c : Ctx} {h : Hitch} (hSession : peerSession s m = some c) (hAt : hitchAt s m.id = some h)
    (hKnown : m.known = true) (hRsv : m.rsv = 0) (hNew : h.received < m.seq) (hLive : hitchLive h = true) (hOk : helloOk h a = true) :
    execHello m a s = .next (takeHello m a c h s) := by
  unfold execHello
  simp only [hSession, hAt, hKnown, hRsv, hLive, hOk, Nat.not_le.mpr hNew, bne_self_eq_false, Bool.not_true, Bool.or_self,
    Bool.false_eq_true, if_false]

/-- Hearing a message leaves the layers. -/
theorem heardOf_layers {m : Myavo} {h : Hitch} : (heardOf s m h).layers = s.layers := tellSeq_frame.layers rfl

/-- A SCOPE that the target can hold creates its collections, keeps them in the vault and answers them (R285). -/
theorem scopeAct_creates {xs : List ScopeIn} {h : Hitch} (hTarget : h.source = false) (hFirst : h.collMap = [])
    (hGeom : (geomUnder s.layers.service h.record.geometry.toNat).isSome = true) (hFull : membersFull s = true)
    (hQuota : quotaHolds s h xs = true) :
    scopeAct xs h s = streamOrWait h.record.id (hitchVault h.record.id (sendMyavo h.record.id 0x03
      (collMapFlds xs (((hitchAt (xs.foldl (fun acc y => createScoped h y acc) s) h.record.id).map (fun y => y.collMap)).getD []) sOk)
      (xs.foldl (fun acc y => createScoped h y acc) s))) := by
  unfold scopeAct
  simp only [hTarget, hFirst, Option.isNone_eq_false_iff.mpr hGeom, hFull, hQuota, List.isEmpty_nil, Bool.not_true, Bool.or_self,
    Bool.false_eq_true, if_false]

theorem collMapAct_accepted {xs : List (Nat × Nat × Word16)} {h : Hitch} (hSource : h.source = true)
    (hGeometry : xs.any (fun e => e.2.2.toNat == eGeometry) = false) (hOk : xs.any (fun e => e.2.2.toNat != sOk) = false) :
    collMapAct xs h s = streamOrWait h.record.id (hitchVault h.record.id
      (mapHitch h.record.id (fun y => { y with collMap := xs.map (fun e => (e.1, e.2.1)) }) s)) := by
  unfold collMapAct
  simp only [hSource, hGeometry, hOk, Bool.not_true, Bool.false_eq_true, if_false]

/-- A geometry that the target does not have ends the hitch (R285). -/
theorem collMapAct_geometry {xs : List (Nat × Nat × Word16)} {h : Hitch} (hSource : h.source = true)
    (hGeometry : xs.any (fun e => e.2.2.toNat == eGeometry) = true) : collMapAct xs h s = abortHitch h.record.id s := by
  unfold collMapAct
  simp only [hSource, hGeometry, Bool.not_true, Bool.false_eq_true, if_false, if_true]

theorem heartbeatAct_agrees {k : StampIn} {h : Hitch} (hAgree : stampsAgree s k = true) (hState : h.state ≠ .suspended) :
    heartbeatAct k h s = mapHitch h.record.id (fun y => { y with timeBad := false }) s := by
  unfold heartbeatAct
  simp only [hAgree, Bool.not_true, Bool.false_eq_true, if_false, bne_iff_ne.mpr hState, if_true]

/-- Clocks that disagree suspend the hitch (R284). -/
theorem heartbeatAct_disagrees {k : StampIn} {h : Hitch} (hAgree : stampsAgree s k = false) :
    heartbeatAct k h s = waitSuspended h.record.id (mapHitch h.record.id (fun y => { y with timeBad := true }) s) := by
  unfold heartbeatAct
  simp only [hAgree, Bool.not_false, if_true]

theorem execMyavoHeartbeatSend_due {id : BitVec 128} {h : Hitch} (hAt : hitchAt s id = some h) (hCtx : h.ctx.isSome = true)
    (hHello : h.hello = true) (hDue : confirmed s h.beat secU = true) :
    execMyavoHeartbeatSend id s = .next (sendMyavo id 0x05 (kstampFlds (kstamp s)) (putHitch { h with beat := mono s } s)) := by
  unfold execMyavoHeartbeatSend
  simp only [hAt, hCtx, hHello, hDue, Bool.and_self, if_true]

theorem execHitchSilenceTimeout_due {id : BitVec 128} {h : Hitch} {n : Nat} (hAt : hitchAt s id = some h) (hCtx : h.ctx = some n)
    (hDue : confirmed s h.heard (10 * secU) = true) : execHitchSilenceTimeout id s = .next (closeCtx eSession n s) := by
  unfold execHitchSilenceTimeout
  simp only [hAt, hCtx, hDue, if_true]

/-! The source end's setup (12 R323, R324) -/

/-- A hitch's source end begins a setup now (R282, R285). -/
def setupDue (s : State) (id : BitVec 128) (h : Hitch) : Bool :=
  h.source && hitchLive h && !h.away && h.ctx.isNone && taking s && decide (custodySec s < h.record.notAfter) &&
    !(s.trn.setups.any (fun x => x.hitch == some id)) && (h.tried == 0 || confirmed s h.tried (10 * secU))

theorem setupDue_of {id : BitVec 128} {h : Hitch} (hSource : h.source = true) (hLive : hitchLive h = true) (hHome : h.away = false)
    (hNone : h.ctx = none) (hTaking : taking s = true) (hBefore : custodySec s < h.record.notAfter)
    (hFirst : s.trn.setups.any (fun y => y.hitch == some id) = false)
    (hTried : h.tried = 0 ∨ confirmed s h.tried (10 * secU) = true) : setupDue s id h = true := by
  have tried : (h.tried == 0 || confirmed s h.tried (10 * secU)) = true := by
    rwa [Bool.or_eq_true, beq_iff_eq]
  unfold setupDue
  simp only [hSource, hLive, hHome, hNone, hTaking, decide_eq_true hBefore, hFirst, tried, Option.isNone_none, Bool.not_false, Bool.and_self]

/-- A setup begun is announced to the peer's address and kept (12 R323). -/
theorem execHitchSetupRetry_due {id : BitVec 128} {h : Hitch} {a : BitVec 128 × Nat} (hAt : hitchAt s id = some h)
    (hDue : setupDue s id h = true) (hAddress : peerAddress s h = some a) :
    execHitchSetupRetry id s = .next (sendSetup (setupMac s) 0x10 (freeHandle s) sOk (initFlds (hitchInit id h a s).1)
      ((setupPackets 0x10 0 1 true none (encodeFlds (initFlds (hitchInit id h a s).1))).map (fun p => ((hitchInit id h a s).1.src, p)))
      { (hitchInit id h a s).2.2 with trn := { (hitchInit id h a s).2.2.trn with setups := s.trn.setups ++ [(hitchInit id h a s).2.1] } }) := by
  have found : (hitchAt s id).filter (setupDue s id) = some h := by rw [hAt, Option.filter_some_pos hDue]
  unfold setupDue at found
  unfold execHitchSetupRetry
  simp only [found, hAddress]
  rfl

/-- A setup of this module that its answer names, while the module takes packets. -/
theorem ownSetup_taking {handle : Nat} {x : Setup} (hOwn : ownSetup s handle = some x) (hTaking : taking s = true) :
    (ownSetup s handle).filter (fun _ => taking s) = some x := by
  rw [hOwn]
  exact Option.filter_some_pos (p := fun _ => taking s) hTaking

theorem execSetupResp_proves {r : RespMsg} {x : Setup} (hOwn : ownSetup s r.handle = some x) (hTaking : taking s = true) (hStatus : r.status = sOk)
    (hSig : r.sigOk = true) :
    execSetupResp r s = .next (sendSetup x.mac 0x12 r.handle sOk (hitchAuth r x).1
      ((setupPackets 0x12 r.setup (max 2 (stamp48 s * 65536)) true (some (hitchAuth r x).2.1) (encodeFlds (hitchAuth r x).1)).map
        (fun p => (x.src, p)))
      { s with trn := { s.trn with setups := mapIf (fun z => z.handle == r.handle && z.initiator) (fun _ => (hitchAuth r x).2.2) s.trn.setups } }) := by
  have good : ¬ (r.status ≠ sOk ∨ (!r.sigOk) = true) := by simp [hStatus, hSig]
  unfold execSetupResp
  rw [ownSetup_taking hOwn hTaking]
  simp only [if_neg good]

theorem execSetupDone_opens {handle ctx : Nat} {id : BitVec 128} {x : Setup} {h : Hitch} (hOwn : ownSetup s handle = some x)
    (hTaking : taking s = true) (hHitch : x.hitch = some id) (hAt : hitchAt s id = some h) (hNone : h.ctx = none) (hLive : hitchLive h = true)
    (hLimit : setupLimit (dropSetup handle s) (.bryndle 3) (.peer h.record.id) = none) :
    execSetupDone handle sOk ctx s = .next (sendHello h.record.id (mapHitch h.record.id
      (fun y => { y with ctx := some (hitchSession h.record.id ctx x (dropSetup handle s)).1,
                         heard := mono (hitchSession h.record.id ctx x (dropSetup handle s)).2 })
      (hitchSession h.record.id ctx x (dropSetup handle s)).2)) := by
  have found : x.hitch.bind (hitchAt (dropSetup handle s)) = some h := by rw [hHitch]; exact hAt
  have open_ : ¬ (sOk ≠ sOk ∨ h.ctx.isSome = true ∨ (!hitchLive h) = true ∨
      (setupLimit (dropSetup handle s) (.bryndle 3) (.peer h.record.id)).isSome = true) := by
    simp [hNone, hLive, hLimit]
  unfold execSetupDone
  rw [ownSetup_taking hOwn hTaking]
  simp only [found, if_neg open_]

end

end Machine

open Machine

/-- Settles O44: each message and timer takes the branch of its rules that its conditions choose. -/
theorem hitchLinkCommandsComplete : Obligations.HitchLinkCommandsComplete := by
  unfold Obligations.HitchLinkCommandsComplete
  refine ⟨?hello, ?scope, ?collMap, ?geometry, ?resumeSource, ?resumeTarget, ?agrees, ?disagrees, ?heartbeatSend, ?silence, ?retry, ?resp, ?done_⟩
  case hello =>
    intro m a c h s hSession hAt hKnown hRsv hNew hLive hOk
    exact execHello_passes hSession hAt hKnown hRsv hNew hLive hOk
  case scope =>
    intro m entries c h s k hTarget hFirst hGeom hFull hQuota
    rw [← heardOf_layers (m := m) (h := h)] at hGeom
    exact congrArg Host.Outcome.next ((myavoIn_taken k).trans (scopeAct_creates (h := hearing s m h) hTarget hFirst hGeom hFull hQuota))
  case collMap =>
    intro m entries c h s k hSource hGeometry hOk
    exact congrArg Host.Outcome.next ((myavoIn_taken k).trans (collMapAct_accepted (h := hearing s m h) hSource hGeometry hOk))
  case geometry =>
    intro m entries c h s k hSource hGeometry
    exact congrArg Host.Outcome.next ((myavoIn_taken k).trans (collMapAct_geometry (h := hearing s m h) hSource hGeometry))
  case resumeSource =>
    intro m tenants c h s k hSource
    exact congrArg Host.Outcome.next ((myavoIn_taken k).trans (if_pos (by rwa [hearing_source])))
  case resumeTarget =>
    intro m tenants c h s k hTarget
    exact congrArg Host.Outcome.next ((myavoIn_taken k).trans (if_neg (by rw [hearing_source, hTarget]; exact Bool.false_ne_true)))
  case agrees =>
    intro m stamp c h s k hAgree hState
    exact congrArg Host.Outcome.next ((myavoIn_taken k).trans (heartbeatAct_agrees (h := hearing s m h) hAgree hState))
  case disagrees =>
    intro m stamp c h s k hAgree
    exact congrArg Host.Outcome.next ((myavoIn_taken k).trans (heartbeatAct_disagrees (h := hearing s m h) hAgree))
  case heartbeatSend =>
    intro id h s hAt hCtx hHello hDue
    exact execMyavoHeartbeatSend_due hAt hCtx hHello hDue
  case silence =>
    intro id h n s hAt hCtx hDue
    exact execHitchSilenceTimeout_due hAt hCtx hDue
  case retry =>
    intro id h a s hAt hSource hLive hHome hNone hTaking hBefore hFirst hTried hAddress
    exact execHitchSetupRetry_due hAt (setupDue_of hSource hLive hHome hNone hTaking hBefore hFirst hTried) hAddress
  case resp =>
    intro r x s hOwn hTaking hStatus hSig
    exact execSetupResp_proves hOwn hTaking hStatus hSig
  case done_ =>
    intro handle ctx id x h s hOwn hTaking hHitch hAt hNone hLive hLimit
    exact execSetupDone_opens hOwn hTaking hHitch hAt hNone hLive hLimit

end Sys2Proof
end

section
/-!
PROOFS. Host commands that run as they arrive (04 R105; 05 R119; 15 R377). A command that nothing holds back ends, up to the power state, in
what its own rules give from the state in which it took its operation (`arrive_ran`); what is left of each command is which branch of its
rules its conditions choose.
-/
namespace Sys2Proof
namespace Machine

section
variable {s : State} {i : Instr} {d : HostCmd} {z : State}

/-- A capsule on a queue runs its rules for whom it comes from. -/
theorem uopArrive_completes {q : Nat} {cap : Capsule} {early : Src → State → Option (Nat × Flds)} {run : Src → State → State}
    (k : TakenUp s i d) (hHost : (hostCmd i).map (fun x => (x.uop, x.ctx)) = some (true, q))
    (hExec : exec i s = .next (uopArrive i q cap early run s)) (hRun : run (srcOf s i d) (taken s i d) = z) :
    Completes i s (fun t => Ran t z) := by
  obtain ⟨hUop, rfl⟩ : d.uop = true ∧ d.ctx = q := by
    rw [k.1] at hHost
    exact Prod.mk.inj (Option.some.inj hHost)
  have hFetched : fetched s d = s := by rw [fetched, if_pos hUop]
  refine ⟨_, hExec, ?_⟩
  have ran := arrive_ran k (early := fun s => lowClass (early (queueSrc s d.ctx (now s)) s))
    (refuse := fun ing a s => refuseUop (queueSrc s d.ctx ing) cap a s) (run := fun ing s => run (queueSrc s d.ctx ing) s)
  rw [hFetched] at ran
  rwa [← hRun]

/-- An NVMe command runs its rules once it has left its submission queue. -/
theorem nvArrive_completes {op : Nat} {c : NvmeCmd} {early : State → Option Nat} {run : Nat → State → State}
    (k : TakenUp s i d) (hHost : (hostCmd i).map (fun x => (x.uop, x.ctx)) = some (false, c.ctx))
    (hExec : exec i s = .next (nvArrive i op c early run s)) (hRun : run (now (metered s d)) (taken s i d) = z) :
    Completes i s (fun t => Ran t z) := by
  obtain ⟨hUop, hCtx⟩ : d.uop = false ∧ d.ctx = c.ctx := by
    rw [k.1] at hHost
    exact Prod.mk.inj (Option.some.inj hHost)
  have hFetched : fetched s d = takeHead c.ctx s := by rw [fetched, if_neg (by rw [hUop]; exact Bool.false_ne_true), hCtx]
  refine ⟨_, hExec, ?_⟩
  have ran := arrive_ran k (early := fun s => ((opcodeCheck op c).or (early s)).map (fun e => (e, [])))
    (refuse := fun ing a s => nvRefuse c.ctx c.cid op ing a.1 s) (run := run)
  rw [hFetched] at ran
  rwa [← hRun]

end

end Machine
end Sys2Proof
end

section
/-!
PROOFS. Object commands on a queue (05 R127 to R144): which rules a capsule runs whose checks find nothing.
-/
namespace Sys2Proof
namespace Machine

section
variable {s : State} {x : Src} {cap : Capsule}

/-- A list of checks refuses nothing when its first refuses nothing and the rest refuse nothing. -/
theorem firstOf_cons_none {a : Option (Nat × Flds)} {r : List (Option (Nat × Flds))} : firstOf (a :: r) = none ↔ a = none ∧ firstOf r = none := by
  cases a <;> simp [firstOf]

/-- Without an open object there is no idle time to start anew. -/
theorem restartIdle_of_closed (h : openAt s x.who cap.hdr = none) : restartIdle x cap s = s := by
  unfold restartIdle; rw [h]

/-- What a descriptor names is the same once the idle time has started anew. -/
theorem descData_restartIdle {p : Port} {b : Desc} {data : Bytes} : descData (restartIdle x cap s) p b data = descData s p b data := by
  unfold restartIdle
  split <;> rfl

/-- A PUT_PART that passes with its idle time started anew also passes the checks that start it. -/
theorem checkPartHead_of_restarted {b : PartBody} {o : Obj} (hOpen : openAt s x.who cap.hdr = some o)
    (h : checkPutPart x cap b (restartIdle x cap s) = none) : checkPartHead x cap b s = none := by
  have hHead : checkPartHead x cap b (restartIdle x cap s) = none := (firstOf_cons_none.mp h).1
  obtain ⟨hForm, hRest⟩ := firstOf_cons_none.mp hHead
  obtain ⟨hData, -⟩ := firstOf_cons_none.mp hRest
  rw [descData_restartIdle] at hData
  refine firstOf_cons_none.mpr ⟨hForm, firstOf_cons_none.mpr ⟨hData, ?_⟩⟩
  rw [hOpen]; rfl

/-- A PUT_PART that passes its checks acts, with the idle time of its object started anew (R132, R135). -/
theorem runPutPart_ok {b : PartBody} (h : checkPutPart x cap b (restartIdle x cap s) = none) :
    runPutPart x cap b s = actPutPart x cap b (restartIdle x cap s) := by
  have hState : (if (checkPartHead x cap b s).isNone then restartIdle x cap s else s) = restartIdle x cap s := by
    cases hOpen : openAt s x.who cap.hdr with
    | none => rw [restartIdle_of_closed hOpen, ite_self]
    | some o => rw [checkPartHead_of_restarted hOpen h]; rfl
  unfold runPutPart
  rw [hState]
  exact runUop_ok h

/-- A SEAL that passes its checks acts, with the idle time of its object started anew (R133, R135). -/
theorem runSeal_ok {b : SealBody} (h : checkSeal x cap b (restartIdle x cap s) = none) :
    runSeal x cap b s = actSeal x cap b (restartIdle x cap s) := by
  have hState : (if (checkSealHead x cap b s).isNone then restartIdle x cap s else s) = restartIdle x cap s := by
    cases hOpen : openAt s x.who cap.hdr with
    | none => rw [restartIdle_of_closed hOpen, ite_self]
    | some o =>
      obtain ⟨hForm, -⟩ := firstOf_cons_none.mp (firstOf_cons_none.mp h).1
      have hHead : checkSealHead x cap b s = none := firstOf_cons_none.mpr ⟨hForm, by rw [hOpen]; rfl⟩
      rw [hHead]; rfl
  unfold runSeal
  rw [hState]
  exact runUop_ok h

/-- A well-formed RELEASE on a queue is answered as an object that is not there is (R127). -/
theorem runRelease_refused {b : RelBody} (h : checkReleaseForm cap b = none) :
    runRelease x cap b s = refuseUop x cap (eNotVisible, []) s := by
  have hCheck : checkRelease cap b = some (eNotVisible, []) := by unfold checkRelease; rw [h]; rfl
  unfold runRelease runUop
  rw [hCheck]

/-- An open object whose idle time is over is discarded (R135). -/
theorem execOpenIdleExpiry_due {handle : Word64} {o : Obj} {k : Coll}
    (hOpen : s.obj.objs.find? (fun y => y.whip.isNone && y.handle == handle) = some o) (hColl : collAt s o.coll = some k)
    (hNone : idleWaits s o = false) (hDue : confirmedShelf s (o.lastUse + pIdxOpenIdle s * secU) = true) :
    execOpenIdleExpiry handle s = .next ((abortObj k o 2 s).2) := by
  unfold execOpenIdleExpiry
  simp only [hOpen, hColl, hNone, hDue, Bool.not_false, Bool.and_self, if_true]

end

end Machine

open Machine

/-- Settles O41: a capsule that passes its checks acts; PUT_PART and SEAL do so on the object whose idle time they have started anew. -/
theorem objectWritesComplete : Obligations.ObjectWritesComplete := by
  unfold Obligations.ObjectWritesComplete
  refine ⟨?put, ?putPart, ?putAbort, ?sealObject, ?delete, ?copy⟩
  case put => exact fun q cap b c s k h => uopArrive_completes k rfl rfl (runUop_ok h)
  case putPart => exact fun q cap b c s k h => uopArrive_completes k rfl rfl (runPutPart_ok h)
  case putAbort => exact fun q cap c s k h => uopArrive_completes k rfl rfl (runUop_ok h)
  case sealObject => exact fun q cap b c s k h => uopArrive_completes k rfl rfl (runSeal_ok h)
  case delete => exact fun q cap c s k h => uopArrive_completes k rfl rfl (runUop_ok h)
  case copy => exact fun q cap b c s k h => uopArrive_completes k rfl rfl (runUop_ok h)

/-- Settles O42: a capsule that passes its checks acts, and a RELEASE has nothing but its form to pass before its refusal. -/
theorem objectReadsComplete : Obligations.ObjectReadsComplete := by
  unfold Obligations.ObjectReadsComplete
  refine ⟨?get, ?head, ?list, ?verify, ?hold, ?stopper, ?release⟩
  case get => exact fun q cap b c s k h => uopArrive_completes k rfl rfl (runUop_ok h)
  case head => exact fun q cap c s k h => uopArrive_completes k rfl rfl (runUop_ok h)
  case list => exact fun q cap b c s k h => uopArrive_completes k rfl rfl (runUop_ok h)
  case verify => exact fun q cap c s k h => uopArrive_completes k rfl rfl (runUop_ok h)
  case hold => exact fun q cap b c s k h => uopArrive_completes k rfl rfl (runUop_ok h)
  case stopper => exact fun q cap b c s k h => uopArrive_completes k rfl rfl (runUop_ok h)
  case release => exact fun q cap b c s k h => uopArrive_completes k rfl rfl (runRelease_refused h)

/-- Settles O43: the collections' capsules act once they pass, and the two timers have one condition each, the sweep none. -/
theorem collectionCommandsComplete : Obligations.CollectionCommandsComplete := by
  unfold Obligations.CollectionCommandsComplete
  refine ⟨?create, ?delete, ?idle, ?sweep⟩
  case create => exact fun q cap b c s k h => uopArrive_completes k rfl rfl (runUop_ok h)
  case delete => exact fun q cap c s k h => uopArrive_completes k rfl rfl (runUop_ok h)
  case idle => exact fun handle o k s hOpen hColl hNone hDue => execOpenIdleExpiry_due hOpen hColl hNone hDue
  case sweep => exact fun s => rfl

end Sys2Proof
end

section
/-!
PROOFS. NVMe controllers (04 R92 to R95, R103, R104). What a command's conditions say of its checks, and which branch of its rules follows.
-/
namespace Sys2Proof
namespace Machine

section
variable {s : State} {c : NvmeCmd} {ing : Nat}

/-! Connect. Its context carries no queue yet, so nothing leaves a submission queue (R103). -/

/-- Taking a command up leaves the controllers as its submission queue left them. -/
theorem ctrlAt_taken {i : Instr} {d : HostCmd} {q : Nat} : ctrlAt (taken s i d) q = ctrlAt (fetched s d) q := by
  have hMetered : (metered s d).block = (fetched s d).block := (meterCmd_frame.block rfl).trans (hostWork_frame.block rfl)
  have hPulled : (pullData d (takeOp d (metered s d))).block = (takeOp d (metered s d)).block := pullData_frame.block rfl
  have hSent : (taken s i d).block = (pullData d (takeOp d (metered s d))).block := mirrorSend_frame.block rfl
  unfold ctrlAt
  rw [hSent, hPulled]
  show List.find? _ (metered s d).block.ctrls = _
  rw [hMetered]

/-- A queue after a command has left it, where it is that of context `q`. -/
def headTaken (q : Nat) (x : NvQueue) : NvQueue := if x.ctx = q then { x with head := (x.head + 1) % max 1 x.size } else x

theorem takeHead_ctrls {q : Nat} :
    (takeHead q s).block.ctrls = s.block.ctrls.map (fun k => { k with queues := k.queues.map (headTaken q) }) := rfl

theorem headTaken_ctx {q : Nat} {x : NvQueue} : (headTaken q x).ctx = x.ctx := by
  unfold headTaken; split <;> rfl

/-- Where no controller has a queue of context `q`, nothing leaves one. -/
theorem takeHead_of_no_queue {q : Nat} (h : ctrlAt (takeHead q s) q = none) : takeHead q s = s := by
  have hNone : ∀ k ∈ s.block.ctrls, ∀ x ∈ k.queues, x.ctx ≠ q := by
    intro k hk x hx e
    refine List.find?_eq_none.mp h _ (List.mem_map_of_mem hk) (List.any_eq_true.mpr ⟨_, List.mem_map_of_mem hx, ?_⟩)
    exact beq_iff_eq.mpr (headTaken_ctx.trans e)
  have hQueues : ∀ k ∈ s.block.ctrls, k.queues.map (headTaken q) = k.queues := fun k hk =>
    (List.map_congr_left fun x hx => if_neg (hNone k hk x hx)).trans (List.map_id _)
  have hCtrls : (takeHead q s).block.ctrls = s.block.ctrls := by
    rw [takeHead_ctrls]
    refine (List.map_congr_left fun k hk => ?_).trans (List.map_id _)
    rw [hQueues k hk]; rfl
  show { s with block := { s.block with ctrls := (takeHead q s).block.ctrls } } = s
  rw [hCtrls]

/-- A Connect that passes its checks comes on a context that carries no queue. -/
theorem ctrlAt_of_checkConnect {c : ConnectIn} (h : checkConnect c s = none) : ctrlAt s c.ctx = none := by
  cases hAt : ctrlAt s c.ctx with
  | none => rfl
  | some k =>
    unfold checkConnect at h
    rw [hAt] at h
    dsimp only at h
    split at h
    · cases h
    · cases h

theorem runConnect_ok {c : ConnectIn} (h : checkConnect c s = none) : runConnect c ing s = actConnect c s := by
  unfold runConnect; rw [h]

/-- A Connect that passes its checks acts. -/
theorem connect_completes {c : ConnectIn} {d : HostCmd} (k : TakenUp s (.connect c) d) (h : checkConnect c (taken s (.connect c) d) = none) :
    Completes (.connect c) s (fun t => Ran t (actConnect c (taken s (.connect c) d))) := by
  have hFetched : fetched s d = s := by
    have hd := Option.some.inj k.1
    have hHead : fetched s d = takeHead c.ctx s := by rw [← hd]; rfl
    rw [hHead]
    refine takeHead_of_no_queue ?_
    rw [← hHead, ← ctrlAt_taken]
    exact ctrlAt_of_checkConnect h
  have ran := arrive_ran k (early := fun s => (checkConnect c s).map (fun _ => (0, [])))
    (refuse := fun ing a s => if (checkConnect c s).isSome then runConnect c ing s else nvDone c.ctx c.cid 0x7F a.1 0 [] s)
    (run := runConnect c)
  rw [hFetched, runConnect_ok h] at ran
  exact ⟨_, rfl, ran⟩

theorem actConnect_admin {c : ConnectIn} {id : Nat} (hAdmin : c.qid = 0) (hFree : freeCntlid s = some id) :
    actConnect c s = nvDone c.ctx c.cid 0x7F 0 id [] (putCtrl (newCtrl c id s) s) := by
  unfold actConnect
  simp only [if_pos hAdmin, hFree]

theorem actConnect_io {c : ConnectIn} {k : Ctrl} (hIo : c.qid ≠ 0) (hTo : connectTo s c = some k) :
    actConnect c s = nvDone c.ctx c.cid 0x7F 0 k.cntlid [] (putCtrl { k with queues := k.queues ++ [connectQueue c] } s) := by
  unfold actConnect
  simp only [if_neg hIo, hTo]

/-! The queue and its properties (R95) -/

theorem runDisconnect_own {controller : Bool} {v : NvQueue} (o : opcodeCheck 0x7F c = none) (hAt : queueAt s c.ctx = some v)
    (hKind : controller = (v.qid == 0)) :
    runDisconnect c controller ing s = endCtx c.ctx (nvDone c.ctx c.cid 0x7F 0 0 [] s) := by
  refine runNv_ok o ?_
  simp only [hAt, hKind, bne_self_eq_false, Bool.false_eq_true, if_false]

theorem runPropertyGet_known {ofst : Word32} {v : Nat × Nat} (o : opcodeCheck 0x7F c = none) (hQueue : queueCheck s c.ctx true true = none)
    (hProp : (ctrlAt s c.ctx).bind (fun k => propertyOf k ofst.toNat) = some v) :
    runPropertyGet c ofst ing s = nvDone c.ctx c.cid 0x7F 0 v.2 [] s := by
  refine (runNv_ok o ?_).trans ?_
  · simp only [hQueue, hProp]; rfl
  · dsimp only
    rw [hProp]; rfl

/-- Offset 0x14 is CC. -/
theorem runPropertySet_cc {value : Word64} {k : Ctrl} (o : opcodeCheck 0x7F c = none) (hQueue : queueCheck s c.ctx true true = none)
    (hCtrl : ctrlAt s c.ctx = some k) :
    runPropertySet c 0x14 value ing s = nvDone c.ctx c.cid 0x7F 0 0 [] (setCc k (value.toNat % 2 ^ 32) s) := by
  refine (runNv_ok o ?_).trans ?_
  · rw [hQueue]; rfl
  · rw [hCtrl]; rfl

/-! Abort, events and keep-alive (R95, R104) -/

theorem runAbort_none {sqCtx cid : Nat} (o : opcodeCheck 0x08 c = none) (hQueue : queueCheck s c.ctx true false = none)
    (hNone : abortable s c sqCtx cid = none) : runAbort c sqCtx cid ing s = nvDone c.ctx c.cid 0x08 0 1 [] s := by
  refine (runNv_ok o hQueue).trans ?_
  simp only [hNone]

theorem runAbort_waiting {sqCtx cid : Nat} {v : Waiting} (o : opcodeCheck 0x08 c = none) (hQueue : queueCheck s c.ctx true false = none)
    (hSome : abortable s c sqCtx cid = some v) :
    runAbort c sqCtx cid ing s = nvDone c.ctx c.cid 0x08 0 0 [] (nvDone sqCtx cid 0 nvAborted 0 []
      { s with block := { s.block with waiting := s.block.waiting.erase v } }) := by
  refine (runNv_ok o hQueue).trans ?_
  simp only [hSome]

theorem runAer_outstanding {k : Ctrl} (o : opcodeCheck 0x0C c = none) (h : checkAer c s = none) (hCtrl : ctrlAt s c.ctx = some k)
    (hNone : k.aens = []) : runAer c ing s = putCtrl { k with aers := k.aers ++ [c.cid] } s := by
  refine (runNv_ok o h).trans ?_
  simp only [hCtrl, hNone]

theorem runAer_event {k : Ctrl} {e : Nat} {r : List Nat} (o : opcodeCheck 0x0C c = none) (h : checkAer c s = none)
    (hCtrl : ctrlAt s c.ctx = some k) (hSome : k.aens = e :: r) :
    runAer c ing s = nvDone c.ctx c.cid 0x0C 0 e [] (putCtrl { k with aens := r } s) := by
  refine (runNv_ok o h).trans ?_
  simp only [hCtrl, hSome]

theorem runKeepAlive_met {k : Ctrl} (o : opcodeCheck 0x18 c = none) (hQueue : queueCheck s c.ctx true true = none)
    (hCtrl : ctrlAt s c.ctx = some k) (hMet : ing ≤ k.deadline) :
    runKeepAlive c ing s = nvDone c.ctx c.cid 0x18 0 0 [] (putCtrl { k with deadline := max k.deadline (ing + k.kato * msU) } s) := by
  refine (runNv_ok o hQueue).trans ?_
  simp only [hCtrl, if_neg (Nat.not_lt.mpr hMet)]

theorem runKeepAlive_late {k : Ctrl} (o : opcodeCheck 0x18 c = none) (hQueue : queueCheck s c.ctx true true = none)
    (hCtrl : ctrlAt s c.ctx = some k) (hLate : k.deadline < ing) : runKeepAlive c ing s = dropCtrl k s := by
  refine (runNv_ok o hQueue).trans ?_
  simp only [hCtrl, if_pos hLate]

theorem execKeepAliveExpiry_due {controller : Nat} {k : Ctrl} (hAt : s.block.ctrls.find? (fun y => y.cntlid == controller) = some k)
    (hDue : confirmed s k.deadline 0 = true) (hAlive : aliveWaits s k = false)
    (hHeld : k.queues.any (fun y => packetHeld s y.ctx) = false) : execKeepAliveExpiry controller s = .next (dropCtrl k s) := by
  unfold execKeepAliveExpiry
  simp only [hAt, hDue, hAlive, hHeld, Bool.not_true, Bool.or_self, Bool.false_eq_true, if_false]

end

end Machine

open Machine

/-- Settles O47: Connect arrives on a context without a queue; every other command leaves its queue and runs the branch its conditions choose. -/
theorem nvmeControllerCommandsComplete : Obligations.NvmeControllerCommandsComplete := by
  unfold Obligations.NvmeControllerCommandsComplete
  refine ⟨?connect, ?join, ?disconnect, ?propertyGet, ?propertySet, ?abortNone, ?abort, ?aer, ?aerEvent, ?keepAlive, ?keepAliveLate, ?expiry⟩
  case connect =>
    intro c id d s k h hAdmin hFree
    rw [← actConnect_admin hAdmin hFree]
    exact connect_completes k h
  case join =>
    intro c y d s k h hIo hTo
    rw [← actConnect_io hIo hTo]
    exact connect_completes k h
  case disconnect =>
    exact fun c controller v d s k o hAt hKind => nvArrive_completes k rfl rfl (runDisconnect_own o hAt hKind)
  case propertyGet =>
    exact fun c ofst v d s k o hQueue hProp => nvArrive_completes k rfl rfl (runPropertyGet_known o hQueue hProp)
  case propertySet =>
    exact fun c value y d s k o hQueue hCtrl => nvArrive_completes k rfl rfl (runPropertySet_cc o hQueue hCtrl)
  case abortNone =>
    exact fun c sqCtx cid d s k o hQueue hNone => nvArrive_completes k rfl rfl (runAbort_none o hQueue hNone)
  case abort =>
    exact fun c sqCtx cid v d s k o hQueue hSome => nvArrive_completes k rfl rfl (runAbort_waiting o hQueue hSome)
  case aer =>
    exact fun c y d s k o h hCtrl hNone => nvArrive_completes k rfl rfl (runAer_outstanding o h hCtrl hNone)
  case aerEvent =>
    exact fun c y e r d s k o h hCtrl hSome => nvArrive_completes k rfl rfl (runAer_event o h hCtrl hSome)
  case keepAlive =>
    exact fun c y d s k o hQueue hCtrl hMet => nvArrive_completes k rfl rfl (runKeepAlive_met o hQueue hCtrl hMet)
  case keepAliveLate =>
    exact fun c y d s k o hQueue hCtrl hLate => nvArrive_completes k rfl rfl (runKeepAlive_late o hQueue hCtrl hLate)
  case expiry =>
    exact fun controller k s hAt hDue hAlive hHeld => execKeepAliveExpiry_due hAt hDue hAlive hHeld

end Sys2Proof
end

section
/-!
PROOFS. NVMe admin, I/O and reservation commands (04 R95 to R116). Most act as soon as their checks find nothing; a lemma stands here for
each that looks at its checks or at its answer once more.
-/
namespace Sys2Proof
namespace Machine

section
variable {s : State} {c : NvmeCmd} {ing : Nat}

/-! Admin (R95 to R99) -/

theorem runGetLogPage_page {lid : Byte} {k : Ctrl} {p : Flds} (o : opcodeCheck 0x02 c = none) (hQueue : queueCheck s c.ctx true true = none)
    (hCtrl : ctrlAt s c.ctx = some k) (hPage : logPage s k c.ctx lid.toNat = some p) :
    runGetLogPage c lid ing s = nvDone c.ctx c.cid 0x02 0 0 p (putCtrl (logTaken k lid.toNat) s) := by
  have hCheck : checkGetLogPage c lid s = none := by
    unfold checkGetLogPage
    rw [hQueue, hCtrl, Option.bind_some, hPage]; rfl
  refine (runNv_ok o hCheck).trans ?_
  simp only [hCtrl, hPage, Option.getD_some]

theorem runIdentify_data {cns csi : Byte} {k : Ctrl} {p : Flds} (o : opcodeCheck 0x06 c = none) (hQueue : queueCheck s c.ctx true true = none)
    (hCtrl : ctrlAt s c.ctx = some k) (hData : identifyData s k c.nsid.toNat cns.toNat csi.toNat = some (.ok p)) :
    runIdentify c cns csi ing s = nvDone c.ctx c.cid 0x06 0 0 p s := by
  have hCheck : checkIdentify c cns csi s = none := by
    unfold checkIdentify
    simp only [hQueue, hCtrl, hData, Option.or_none]
  refine (runNv_ok o hCheck).trans ?_
  simp only [hCtrl, Option.bind_some, hData]

theorem runSetFeatures_ok {fid : Byte} {save : Bool} {value : Word32} {k : Ctrl} (o : opcodeCheck 0x09 c = none)
    (h : checkSetFeatures c fid save value s = none) (hCtrl : ctrlAt s c.ctx = some k) :
    runSetFeatures c fid save value ing s = nvDone c.ctx c.cid 0x09 0 (setFeature k c.nsid.toNat fid.toNat value.toNat s).1 []
      (setFeature k c.nsid.toNat fid.toNat value.toNat s).2 := by
  refine (runNv_ok o h).trans ?_
  simp only [hCtrl]

theorem runGetFeatures_value {fid : Byte} {k : Ctrl} {v : Nat × Flds} (o : opcodeCheck 0x0A c = none)
    (hQueue : queueCheck s c.ctx true false = none) (hCtrl : ctrlAt s c.ctx = some k)
    (hValue : featureOf s k c.nsid.toNat fid.toNat = .ok v) :
    runGetFeatures c fid ing s = nvDone c.ctx c.cid 0x0A 0 v.1 v.2 s := by
  have hCheck : checkGetFeatures c fid s = none := by
    unfold checkGetFeatures
    simp only [hQueue, hCtrl, hValue, Option.or_none]
  refine (runNv_ok o hCheck).trans ?_
  simp only [hCtrl, Option.map_some, hValue]

/-! Reads (R96, R107): a range that is not lost counts no unrecovered read -/

theorem countMedia_none : countMedia c none s = s := if_neg (by simp)

theorem runRead_ok {slba : Word64} {nlb : Word16} {pr : PrInfo} (o : opcodeCheck 0x02 c = none) (h : checkRead c slba nlb pr s = none) :
    runRead c slba nlb pr ing s = actRead c slba nlb pr s := by
  unfold runRead
  rw [h, countMedia_none]
  exact runNvAt_ok o h

theorem runCompare_ok {slba : Word64} {nlb : Word16} {pr : PrInfo} {data : Bytes} {pi : List PiData} (o : opcodeCheck 0x05 c = none)
    (h : checkCompare c slba nlb pr data pi s = none) : runCompare c slba nlb pr data pi ing s = actCompare c slba nlb pr data pi s := by
  unfold runCompare
  rw [h, countMedia_none]
  exact runNvAt_ok o h

theorem runNvVerify_ok {slba : Word64} {nlb : Word16} {pr : PrInfo} (o : opcodeCheck 0x0C c = none) (h : checkNvVerify c slba nlb pr s = none) :
    runNvVerify c slba nlb pr ing s = actNvVerify c slba nlb s := by
  unfold runNvVerify
  rw [h, countMedia_none]
  exact runNvAt_ok o h

/-! Reservations (R108) -/

theorem runResReport_ok {n : Ns} (o : opcodeCheck 0x0E c = none) (hNs : resNs c s = .ok n) :
    runResReport c ing s = nvDone c.ctx c.cid 0x0E 0 0 (resReport s n) s := by
  have hCheck : checkRes c (fun n _ => .ok (n, [])) s = none := by
    unfold checkRes
    rw [hNs]
  refine (runNv_ok o hCheck).trans ?_
  simp only [hNs]

end

end Machine

open Machine

/-- Settles O48: what is asked for is there, so the checks find nothing and the answer carries it; the other commands act once they pass. -/
theorem nvmeAdminCommandsComplete : Obligations.NvmeAdminCommandsComplete := by
  unfold Obligations.NvmeAdminCommandsComplete
  refine ⟨?logPage, ?identify, ?setFeatures, ?getFeatures, ?create, ?delete, ?format, ?sanitize⟩
  case logPage =>
    exact fun c lid y p d s k o hQueue hCtrl hPage => nvArrive_completes k rfl rfl (runGetLogPage_page o hQueue hCtrl hPage)
  case identify =>
    exact fun c cns csi y p d s k o hQueue hCtrl hData => nvArrive_completes k rfl rfl (runIdentify_data o hQueue hCtrl hData)
  case setFeatures =>
    exact fun c fid save value y d s k o h hCtrl => nvArrive_completes k rfl rfl (runSetFeatures_ok o h hCtrl)
  case getFeatures =>
    exact fun c fid y v d s k o hQueue hCtrl hValue => nvArrive_completes k rfl rfl (runGetFeatures_value o hQueue hCtrl hValue)
  case create => exact fun c p d s k o h => nvArrive_completes k rfl rfl (runNv_ok o h)
  case delete => exact fun c d s k o h => nvArrive_completes k rfl rfl (runNv_ok o h)
  case format => exact fun c f d s k o h => nvArrive_completes k rfl rfl (runNv_ok o h)
  case sanitize => exact fun c action ause d s k o h => nvArrive_completes k rfl rfl (runNv_ok o h)

/-- Settles O49: each command acts once its checks find nothing; the expiry has no condition but the age of each run. -/
theorem nvmeIoCommandsComplete : Obligations.NvmeIoCommandsComplete := by
  unfold Obligations.NvmeIoCommandsComplete
  refine ⟨?flush, ?write, ?read, ?expiry, ?compare, ?zeroes, ?dsm, ?verify⟩
  case flush => exact fun c d s k o h => nvArrive_completes k rfl rfl (runNv_ok o h)
  case write => exact fun c slba nlb fua pr data pi d s k o h => nvArrive_completes k rfl rfl (runNvAt_ok o h)
  case read => exact fun c slba nlb pr d s k o h => nvArrive_completes k rfl rfl (runRead_ok o h)
  case expiry => exact fun ctx s => rfl
  case compare => exact fun c slba nlb pr data pi d s k o h => nvArrive_completes k rfl rfl (runCompare_ok o h)
  case zeroes => exact fun c slba nlb d s k o h => nvArrive_completes k rfl rfl (runNvAt_ok o h)
  case dsm => exact fun c dealloc ranges d s k o h => nvArrive_completes k rfl rfl (runNv_ok o h)
  case verify => exact fun c slba nlb pr d s k o h => nvArrive_completes k rfl rfl (runNvVerify_ok o h)

/-- Settles O50: the change of each action is its act, and a namespace that may be reported on is reported on. -/
theorem nvmeReservationCommandsComplete : Obligations.NvmeReservationCommandsComplete := by
  unfold Obligations.NvmeReservationCommandsComplete
  refine ⟨?register, ?report, ?acquire, ?release⟩
  case register => exact fun c action ignoreKey cptpl crkey nrkey d s k o h => nvArrive_completes k rfl rfl (runNv_ok o h)
  case report => exact fun c n d s k o hNs => nvArrive_completes k rfl rfl (runResReport_ok o hNs)
  case acquire => exact fun c action ignoreKey rtype crkey prkey d s k o h => nvArrive_completes k rfl rfl (runNv_ok o h)
  case release => exact fun c action ignoreKey rtype crkey d s k o h => nvArrive_completes k rfl rfl (runNv_ok o h)

end Sys2Proof
end

section
/-!
PROOFS. The schedulers' events and tables (15). A tenant's weights stand through all that sends an answer; a QUIET schedule stands through
what a MAC serves, and through the frames of its own period but for the list of those that wait.
-/
namespace Sys2Proof
namespace Machine

section
variable {s t : State}

/-! What sending leaves of the tenants' tables (R382, R384, R387) -/

/-- The tables of the tenants: their weights and their QUIET schedules. -/
def tables (s : State) : List Weights × List Quiet := (s.sch.weights, s.sch.quiets)

theorem Frame.tables {w : Nat} (h : Frame w t s) (k : w.testBit 22 = false) : tables t = Machine.tables s :=
  congrArg (fun y : Sched => (y.weights, y.quiets)) (h.sch k)

theorem tables_putEgress {e : Egress} : tables (putEgress e s) = tables s := rfl

theorem tables_putBuckets {b : Buckets} : tables (putBuckets b s) = tables s := rfl

theorem tables_startFrame {m : Mac} {i : SchItem} : tables (startFrame m i s) = tables s := by
  have asked : tables (if isDelayReq i then { s with time := { s.time with delayReq := some (now s) } } else s) = tables s := by
    split <;> rfl
  exact (send_frame.tables rfl).trans ((putMac_frame.tables rfl).trans
    ((bumpWide_frame.tables rfl).trans ((bumpWide_frame.tables rfl).trans asked)))

theorem tables_pumpIdle {n : Nat} : tables (pumpIdle n s) = tables s := by
  unfold pumpIdle
  split
  · rfl
  · split
    · rfl
    · dsimp only
      split
      · rw [tables_startFrame, tables_putEgress]
      · rw [tables_startFrame, tables_putEgress]
      · rw [tables_startFrame, tables_putEgress]
      · split
        · rw [tables_putEgress]
        · rw [tables_startFrame, chargeCc_frame.tables rfl, tables_putEgress]
          split
          · split
            · rfl
            · rw [tables_putBuckets]
          · rfl

theorem tables_pumpMac {n : Nat} : tables (pumpMac n s) = tables s := by
  unfold pumpMac
  split
  · rfl
  · split
    · rfl
    · rw [tables_pumpIdle, tables_putEgress, putMac_frame.tables rfl]

theorem tables_enqueue {n k l : Nat} {o : EgOrder} {f : FlowId} {m : Msg} : tables (enqueue n o f k l m s) = tables s := by
  unfold enqueue
  dsimp only
  split <;> rw [tables_pumpMac, tables_putEgress]

theorem Frame.weights {w : Nat} (h : Frame w t s) (k : w.testBit 22 = false) : t.sch.weights = s.sch.weights :=
  congrArg (fun y : Sched => y.weights) (h.sch k)

/-- A message under QUIET joins its schedule; the weights stand either way. -/
theorem transmit_weights {n k l : Nat} {o : EgOrder} {f : FlowId} {m : Msg} : (transmit n o f k l m s).sch.weights = s.sch.weights := by
  unfold transmit
  split
  · exact mailboxFrames_frame.weights rfl
  · split
    · rfl
    · split
      · exact send_frame.weights rfl
      · exact congrArg Prod.fst tables_enqueue

theorem launch_weights {n : Nat} {o : OutMsg} : (launch n o s).sch.weights = s.sch.weights := by
  unfold launch
  split
  · rfl
  · dsimp only
    rw [transmit_weights, putCtx_frame.weights rfl]
    split
    · exact espSend_frame.weights rfl
    · rfl

theorem sendOn_weights {n op : Nat} {m : Msg} : (sendOn n op m s).sch.weights = s.sch.weights := by
  unfold sendOn
  split
  · rfl
  · split
    · rfl
    · split
      · exact send_frame.weights rfl
      · dsimp only
        split
        · rw [putCtx_frame.weights rfl, mirrorSend_frame.weights rfl]
        · rw [launch_weights, putCtx_frame.weights rfl, mirrorSend_frame.weights rfl]

theorem reply_weights {c : Call} {op st : Nat} {b : Flds} : (reply c op st b s).sch.weights = s.sch.weights := by
  unfold reply sendMbx
  split
  · exact sendOn_weights
  · exact sendOn_weights
  · dsimp only
    split
    · rw [fillRing_frame.weights rfl, putRing_frame.weights rfl, send_frame.weights rfl]
    · exact send_frame.weights rfl

/-! QUIET (R387 to R390) -/

/-- The schedule found for a tenant is the tenant's. -/
theorem quietOf_tenant {n : Nat} {q : Quiet} (h : quietOf s n = some q) : q.item.tenant.toNat = n := by
  simpa using List.find?_some h

theorem getD_quietOf_tenant {n : Nat} {q : Quiet} (h : q.item.tenant.toNat = n) : ((quietOf s n).getD q).item.tenant.toNat = n := by
  cases e : quietOf s n with
  | none => exact h
  | some y => exact quietOf_tenant e

theorem quietOf_putQuiet {n : Nat} {q : Quiet} (h : q.item.tenant.toNat = n) : quietOf (putQuiet q s) n = some q := by
  have same : (fun y : Quiet => y.item.tenant.toNat == n) = fun y => y.item.tenant == q.item.tenant := by
    funext y
    rw [← h, Bool.eq_iff_iff, beq_iff_eq, beq_iff_eq, BitVec.toNat_inj]
  unfold quietOf putQuiet
  rw [same]
  exact find_putBy (beq_self_eq_true _)

theorem quietOf_congr {n : Nat} (h : tables t = tables s) : quietOf t n = quietOf s n :=
  congrArg (fun y => y.2.find? (fun q => q.item.tenant.toNat == n)) h

/-- The last period that a tenant's schedule has served. -/
def servedPeriod (s : State) (n : Nat) : Option Nat := (quietOf s n).map (fun y => y.period)

/-- A frame of the period takes one that waits off the schedule's list, and leaves its period (R389). -/
theorem servedPeriod_quietSend {n mac : Nat} {p : Nat} {q : Quiet} (hTenant : q.item.tenant.toNat = n) (h : servedPeriod s n = some p) :
    servedPeriod (quietSend q s mac) n = some p := by
  have sent : ∀ {z : State} {b : Bool} {o : EgOrder} {f : FlowId} {k l : Nat} {m : Msg},
      servedPeriod (if b then send m z else enqueue mac o f k l m z) n = servedPeriod z n := by
    intro z b o f k l m
    refine congrArg (Option.map _) (quietOf_congr ?_)
    split
    · exact send_frame.tables rfl
    · exact tables_enqueue
  obtain ⟨y, hAt, hPeriod⟩ := Option.map_eq_some_iff.mp h
  have hOwn : y.item.tenant.toNat = n := quietOf_tenant hAt
  unfold quietSend
  rw [hTenant]
  simp only [hAt, Option.getD_some]
  split
  · rename_i f _
    rw [sent, servedPeriod, quietOf_putQuiet (q := { y with frames := y.frames.erase f }) hOwn]
    exact congrArg some hPeriod
  · rw [sent, servedPeriod, quietOf_congr (drbgBytes_frame.tables rfl)]
    exact h

/-- A period that Shelf Time has reached is noted in the tenant's schedule before its frames leave (R389, R390). -/
theorem execQuietPeriodStart_due {n : Nat} {q : Quiet} (hAt : quietOf s n = some q)
    (hReached : q.period < now s / (max 1 q.item.period.toNat * nsU)) (hServing : serving s = true) :
    ∃ q1 z, q1.item.tenant.toNat = n ∧ q1.period = now s / (max 1 q.item.period.toNat * nsU) ∧
      execQuietPeriodStart n s = .next (((List.range 32).filter (fun k => q.item.macs.getLsbD k)).foldl (quietSend q) (putQuiet q1 z)) := by
  have due : ¬(now s / (max 1 q.item.period.toNat * nsU) ≤ q.period ∨ (!serving s) = true) := by
    rw [hServing]
    simpa using hReached
  unfold execQuietPeriodStart
  rw [hAt]
  refine ⟨_, _, ?tenant, ?period, if_neg due⟩
  case tenant =>
    dsimp only
    exact getD_quietOf_tenant (quietOf_tenant hAt)
  case period => rfl

theorem execQuietPeriodStart_completes {n : Nat} {q : Quiet} (hAt : quietOf s n = some q)
    (hReached : q.period < now s / (max 1 q.item.period.toNat * nsU)) (hServing : serving s = true) :
    Completes (.quietPeriodStart n) s (fun t => servedPeriod t n = some (now s / (max 1 q.item.period.toNat * nsU))) := by
  obtain ⟨q1, z, hTenant, hPeriod, hExec⟩ := execQuietPeriodStart_due hAt hReached hServing
  refine ⟨_, hExec, List.foldlRecOn (motive := fun t => servedPeriod t n = _) _ _ ?_ fun t ht mac _ =>
    servedPeriod_quietSend (quietOf_tenant hAt) ht⟩
  rw [servedPeriod, quietOf_putQuiet hTenant]
  exact congrArg some hPeriod

/-! The other events (R373, R380 to R385) -/

theorem execTokenRefill_due (h : s.sch.refills < refillsNow s) :
    execTokenRefill s = .next (pumpDrives ((List.range 32).foldl (fun acc n => pumpMac n acc) (refill s))) :=
  if_neg (Nat.not_le.mpr h)

theorem execShareWindowEnd_due {slot : Fin 24} (h : confirmed s (windowAt s slot).since (pSchShareWindow s * usU) = true) :
    execShareWindowEnd slot s = .next (pumpPort slot (putWindow
      { slot := slot, since := mono s, rebuild := 0, reloc := 0, host := 0, hitch := 0, scrub := 0, cut := false } s)) :=
  if_neg (by rw [h]; exact Bool.false_ne_true)

theorem execAdmitCommand_picked {p : Waiting × Nat × List Flow} (h : admitPick s (fun n => (quietOf s n).isNone) = some p) :
    execAdmitCommand s = .next (runWaiting p.1 (admServe p s)) := by
  unfold execAdmitCommand; rw [h]

/-! A tenant's weights and figures (R382; 02 R53) -/

/-- The table of weights that a FLOW_WEIGHT_SET gives a tenant. -/
def weightTable (n : Nat) (dflt : Byte) (entries : List (Byte × Word16 × Byte)) : Weights :=
  { tenant := n, dflt := dflt.toNat, entries := entries.map (fun e => (e.1.toNat, e.2.1.toNat, e.2.2.toNat)) }

/-- The state in which a tenant's table of weights is replaced. -/
def weighted (n : Nat) (dflt : Byte) (entries : List (Byte × Word16 × Byte)) (s : State) : State :=
  { s with sch := { s.sch with weights := putBy (fun y => y.tenant == n) (weightTable n dflt entries) s.sch.weights } }

theorem Reachable.weighted {n m : Nat} {dflt : Byte} {entries : List (Byte × Word16 × Byte)} (h : Reachable s m) :
    Reachable (weighted n dflt entries s) m := h.congr rfl rfl rfl rfl

theorem ownsEntry_afterChecks {c : Call} {x : Conn} {n : Nat} {e : Byte × Word16 × Byte} : ownsEntry (afterChecks s c x) n e = ownsEntry s n e :=
  afterChecks_same (fun z => ownsEntry z n e) fun _ => rfl

theorem weights_weighted {n : Nat} {dflt : Byte} {entries : List (Byte × Word16 × Byte)} :
    (weighted n dflt entries s).sch.weights = putBy (fun y => y.tenant == n) (weightTable n dflt entries) s.sch.weights := rfl

theorem weights_afterChecks {c : Call} {x : Conn} : (afterChecks s c x).sch.weights = s.sch.weights :=
  afterChecks_same (fun z => z.sch.weights) fun _ => rfl

/-- A table whose entries have weights and are the tenant's own is put in place (R382). -/
theorem execFlowWeightSet_owned {c : Call} {x : Conn} {n : Nat} {dflt : Byte} {entries : List (Byte × Word16 × Byte)}
    (k : Checked s c 0x0306 isTenant x) (hTenant : x.who.tenant? = some n) (hDefault : dflt ≠ 0) (hCount : entries.length ≤ 15)
    (hEntries : entries.all (fun e => (e.1.toNat == 1 || e.1.toNat == 2) && e.2.2 != 0 && ownsEntry s n e) = true) :
    execFlowWeightSet c dflt entries s = .next (reply c 0x0306 sOk [] (weighted n dflt entries (afterChecks s c x))) := by
  have each : ∀ e ∈ entries, (e.1.toNat = 1 ∨ e.1.toNat = 2) ∧ e.2.2 ≠ 0 ∧ ownsEntry s n e = true := by
    intro e he
    have h := List.all_eq_true.mp hEntries e he
    simp only [Bool.and_eq_true, Bool.or_eq_true, beq_iff_eq, bne_iff_ne, and_assoc] at h
    exact h
  have hKinds : entries.any (fun e => e.1.toNat != 1 && e.1.toNat != 2) = false :=
    List.any_eq_false.mpr fun e he => by
      rcases (each e he).1 with h | h <;> simp [h]
  have hWeights : ¬(dflt = 0 ∨ entries.any (fun e => e.2.2 == 0) = true) := by
    rintro (h | h)
    · exact hDefault h
    · obtain ⟨e, he, hZero⟩ := List.any_eq_true.mp h
      exact (each e he).2.1 (beq_iff_eq.mp hZero)
  have hOwn : entries.any (fun e => !ownsEntry (afterChecks s c x) n e) = false :=
    List.any_eq_false.mpr fun e he => by rw [ownsEntry_afterChecks, (each e he).2.2]; exact Bool.false_ne_true
  have hWho : ((afterConn s x).who.tenant?).getD 0xFFFF = n := by
    show (x.who.tenant?).getD 0xFFFF = n
    rw [hTenant]; rfl
  unfold execFlowWeightSet
  rw [mailboxCmd_quiet k]
  all_goals simp only [hWho, hKinds, if_neg hWeights, hOwn, if_neg (Nat.not_lt.mpr hCount), Bool.false_eq_true, if_false]
  · rfl
  · exact reply_frame.drv rfl

/-- The figures take 104 bytes (19 R472; log entry 28). -/
theorem tenantFigures_size {n lat : Nat} {y : Tenant} {b : Buckets} : ((tenantFigures s n y b lat).map (fun f => f.1)).sum = 104 := by
  simp only [tenantFigures, List.map_cons, List.map_nil, List.sum_cons, List.sum_nil, Nat.reduceAdd]

/-- The first figure is the bytes that count against the quota. -/
theorem tenantFigures_head {n lat : Nat} {y : Tenant} {b : Buckets} : (tenantFigures s n y b lat).head? = some (8, bytesOf s n) := by
  simp only [tenantFigures, List.head?_cons]

/-- A tenant is answered its figures as they stand after the refills due (R373; 02 R53). -/
theorem execTenantStats_known {c : Call} {x : Conn} {n : Nat} {y : Tenant} (k : Checked s c 0x0307 isTenant x) (hTenant : x.who.tenant? = some n)
    (hAt : tenantAt s n = some y) :
    execTenantStats c s = .next (reply c 0x0307 sOk (tenantFigures (afterChecks s c x) n y (bucketsAt (refill (afterChecks s c x)) n)
      (free (refill (afterChecks s c x))).1) (free (refill (afterChecks s c x))).2) := by
  have hKnown : tenantAt (afterChecks s c x) n = some y := (afterChecks_same (fun z => tenantAt z n) fun _ => rfl).trans hAt
  have hWho : ((afterConn s x).who.tenant?).getD 0xFFFF = n := by
    show (x.who.tenant?).getD 0xFFFF = n
    rw [hTenant]; rfl
  unfold execTenantStats
  rw [mailboxCmd_quiet k]
  all_goals simp only [hWho, hKnown]
  exact (reply_frame.drv rfl).trans ((free_frame.drv rfl).trans (refill_frame.drv rfl))

end

end Machine

open Machine

/-- Settles O21: each event and command takes the branch its conditions choose; what serves and answers afterwards leaves the period and the
weights as that branch set them. -/
theorem schedulingCommandsComplete : Obligations.SchedulingCommandsComplete := by
  unfold Obligations.SchedulingCommandsComplete
  refine ⟨?refill, ?window, ?quiet, ?weights, ?stats, ?admission⟩
  case refill => exact fun s h => execTokenRefill_due h
  case window => exact fun slot s h => execShareWindowEnd_due h
  case quiet => exact fun n q s hAt hReached hServing => execQuietPeriodStart_completes hAt hReached hServing
  case weights =>
    intro c dflt entries n x s k hTenant hDefault hCount hEntries
    refine ⟨_, execFlowWeightSet_owned k hTenant hDefault hCount hEntries, ?_, (reachable_afterChecks k).weighted.answers⟩
    rw [reply_weights, weights_weighted, weights_afterChecks]
    rfl
  case stats =>
    intro c n y x s k hTenant hAt
    exact ⟨execTenantStats_known k hTenant hAt, tenantFigures_size, tenantFigures_head⟩
  case admission => exact fun p s h => execAdmitCommand_picked h

end Sys2Proof
end

section
/-!
PROOFS. The pair's mode through the log and the index: the pages that are written, the records that move, and the rows that end, are voided or
are lost all leave it (06 R165; 07 R186, R191, R196, R202; 08 R217, R227).
-/
namespace Sys2Proof
namespace Machine

/-- What each round of a fold leaves as it was, the fold leaves as it was. -/
theorem foldl_same {σ α β : Type} {f : σ → β} {g : σ → α → σ} (h : ∀ a x, f (g a x) = f a) (l : List α) (a : σ) :
    f (l.foldl g a) = f a :=
  List.foldlRecOn l g (motive := fun b => f b = f a) rfl fun b k x _ => (h b x).trans k

theorem foldl_mode {α : Type} {g : State → α → State} (h : ∀ a x, (g a x).pair.mode = a.pair.mode) {l : List α} {s : State} :
    (l.foldl g s).pair.mode = s.pair.mode := foldl_same (f := fun z => z.pair.mode) h l s

theorem foldl_mode_snd {α β : Type} {g : β × State → α → β × State} (h : ∀ a x, (g a x).2.pair.mode = a.2.pair.mode) {l : List α}
    {a : β × State} : (l.foldl g a).2.pair.mode = a.2.pair.mode := foldl_same (f := fun z => z.2.pair.mode) h l a

section
variable {s : State}

/-! The index and its checkpoints (06 R153, R165, R168; 07 R187, R196; 10 R275) -/

theorem writePage_mode {p : Partition} {gen : Nat} {covered : CStamp} {x : PageIn} :
    (writePage p gen covered x s).2.2.pair.mode = s.pair.mode := writeSmallUnits_mode.trans (draw_frame.mode rfl)

theorem writeLeaves_mode {p : Partition} {covered : CStamp} {root : Bool} {ls : List Leaf} {gen : Nat} :
    (writeLeaves p covered root ls gen s).2.2.pair.mode = s.pair.mode := by
  induction ls generalizing gen s with
  | nil => rfl
  | cons l ls ih =>
    unfold writeLeaves
    split
    · exact ih.trans writePage_mode
    · exact ih

theorem writeInner_mode {p : Partition} {covered : CStamp} {level gen : Nat} {root : Bool} {old : List Inner} {gs : List (Nat × List Kid)} :
    (writeInner p covered level root old gs gen s).2.2.pair.mode = s.pair.mode := by
  induction gs generalizing gen s with
  | nil => rfl
  | cons g gs ih =>
    unfold writeInner
    dsimp only
    split
    · exact ih
    · exact ih.trans writePage_mode

theorem writeLevels_mode {p : Partition} {covered : CStamp} {height fuel level gen : Nat} {kids : List Kid} :
    (writeLevels p covered height fuel level kids gen s).2.2.2.pair.mode = s.pair.mode := by
  induction fuel generalizing level kids gen s with
  | zero => rfl
  | succ fuel ih =>
    unfold writeLevels
    dsimp only
    split
    · rfl
    · exact ih.trans writeInner_mode

theorem flushNow_mode {shard num : Nat} : (flushNow shard num s).pair.mode = s.pair.mode := by
  unfold flushNow
  dsimp only
  rw [putPart_frame.mode rfl, writeSealed_mode, writeLevels_mode, writeLeaves_mode, killRecs_frame.mode rfl]

theorem startFlush_mode {shard num : Nat} : (startFlush shard num s).pair.mode = s.pair.mode := by
  unfold startFlush
  dsimp only
  split
  · rfl
  · exact flushNow_mode

theorem enterDelta_mode {shard num tenant seq : Nat} {what : MutBody} {st : CStamp} :
    (enterDelta shard num tenant seq what st s).pair.mode = s.pair.mode := by
  unfold enterDelta
  dsimp only
  split
  · exact startFlush_mode.trans (putPart_frame.mode rfl)
  · exact putPart_frame.mode rfl

theorem mapMut_mode {shard tenant ns lba count addr run : Nat} {st : CStamp} :
    (mapMut shard tenant ns lba count addr run st s).pair.mode = s.pair.mode := enterDelta_mode.trans splice_mode

theorem indexPut_mode {shard tenant : Nat} {e : LeafEntry} {st : CStamp} : (indexPut shard tenant e st s).pair.mode = s.pair.mode :=
  enterDelta_mode.trans splice_mode

theorem roleMut_mode {seg slot : Nat} : (roleMut seg slot s).pair.mode = s.pair.mode := by
  unfold roleMut
  split
  · rfl
  · dsimp only
    split
    · exact startFlush_mode.trans (putPart_frame.mode rfl)
    · exact putPart_frame.mode rfl

theorem shardCheckpoint_mode {shard : Nat} : (shardCheckpoint shard s).pair.mode = s.pair.mode :=
  (putShard_frame.mode rfl).trans writeSealed_mode

/-! Records that move (07 R191; 10 R276) -/

theorem writeObjRecord_mode {c : Coll} {o : Obj} {st : CStamp} : (writeObjRecord c o st s).2.pair.mode = s.pair.mode :=
  writeSmallUnits_mode.trans (killKind_frame.mode rfl)

theorem reindexObj_mode {c : Coll} {o : Obj} {st : CStamp} : (reindexObj c o st s).pair.mode = s.pair.mode :=
  indexPut_mode.trans (writeObjRecord_mode.trans (putObj_frame.mode rfl))

theorem moveBlocks_mode {shard ns old units new : Nat} {st : CStamp} : (moveBlocks shard ns old units new st s).pair.mode = s.pair.mode := by
  unfold moveBlocks
  split
  · rfl
  · exact foldl_mode fun _ _ => mapMut_mode

theorem layAgain_mode {shard d : Nat} {reloc : Bool} {r : LogRec} {st : CStamp} :
    (layAgain shard d reloc r st s).2.2.pair.mode = s.pair.mode := by
  unfold layAgain
  dsimp only
  split
  · exact writeUnits_mode
  · exact (killRecs_frame.mode rfl).trans (spliceExtents_mode.trans writeUnits_mode)

theorem movePage_mode {sh num d : Nat} {reloc : Bool} {r : LogRec} {st : CStamp} :
    (movePage sh num d reloc r st s).pair.mode = s.pair.mode := by
  unfold movePage
  dsimp only
  split
  · split
    · exact layAgain_mode
    · exact flushNow_mode.trans ((putPart_frame.mode rfl).trans layAgain_mode)
  · split
    · exact flushNow_mode
    · rfl

theorem referMoved_mode {shard : Nat} {r : LogRec} {new : List (Nat × Nat)} {st : CStamp} :
    (referMoved shard r new st s).pair.mode = s.pair.mode := by
  unfold referMoved
  cases r.kind with
  | extent c m part =>
    dsimp only
    split
    · split
      · rfl
      · exact reindexObj_mode
    · rfl
  | object c m =>
    dsimp only
    split
    · exact indexPut_mode
    · rfl
  | block ns => exact moveBlocks_mode
  | commit sh num =>
    dsimp only
    split
    · split
      · exact putPart_frame.mode rfl
      · rfl
    · rfl
  | checkpoint sh =>
    dsimp only
    split
    · exact (writePointers_frame.mode rfl).trans (putShard_frame.mode rfl)
    · exact putShard_frame.mode rfl
  | tombstone | lanyard | loss | fill | indexPage | mapPage | memberPage => rfl

theorem moveRecord_mode {shard d : Nat} {reloc : Bool} {r : LogRec} : (moveRecord shard d reloc r s).2.pair.mode = s.pair.mode := by
  unfold moveRecord
  dsimp only
  split
  · rfl
  · split
    · exact movePage_mode.trans (sequence_frame.mode rfl)
    · have laid {st : CStamp} : (layAgain shard d reloc r st (sequence shard s).2).2.2.pair.mode = s.pair.mode :=
        layAgain_mode.trans (sequence_frame.mode rfl)
      split
      · exact laid
      · exact referMoved_mode.trans laid

theorem moveAll_mode {shard d : Nat} {reloc : Bool} {rs : List LogRec} : (moveAll shard d reloc rs s).2.pair.mode = s.pair.mode := by
  refine foldl_mode_snd fun _ _ => ?_
  exact moveRecord_mode

/-! Rows that end (07 R181, R186, R202; 08 R220, R232) -/

theorem retireShard_mode {shard : Nat} : (retireShard shard s).pair.mode = s.pair.mode := by
  unfold retireShard
  dsimp only
  split
  · rfl
  · exact mirrorSend_mode.trans (splice_mode.trans (putShard_frame.mode rfl))

theorem retireRow_mode {seg row : Nat} : (retireRow seg row s).pair.mode = s.pair.mode :=
  foldl_mode fun _ _ => retireShard_mode

theorem rowEnded_mode {seg : Nat} : (rowEnded seg s).pair.mode = s.pair.mode := by
  unfold rowEnded
  dsimp only
  split
  · split
    · exact segEntry_mode
    · rfl
  · rfl

theorem rowOnMedia_mode {r : Row} : (rowOnMedia r s).pair.mode = s.pair.mode :=
  rowEnded_mode.trans (retireRow_mode.trans (foldl_mode fun _ _ => roleMut_mode))

theorem voidRow_mode {r : Row} : (voidRow r s).pair.mode = s.pair.mode := by
  unfold voidRow
  dsimp only
  rw [retireRow_mode, rowEnded_mode, retargetRows_frame.mode rfl, moveAll_mode, raise_frame.mode rfl, splice_mode]
  rfl

theorem stripDone_mode {seg row role : Nat} {ok : Bool} : (stripDone seg row role ok s).pair.mode = s.pair.mode := by
  unfold stripDone
  split
  · rfl
  · extract_lets r z
    have mapped : z.pair.mode = s.pair.mode := rfl
    split
    · exact mapped
    · split
      · exact voidRow_mode.trans mapped
      · split
        · exact rowOnMedia_mode.trans mapped
        · exact mapped

theorem spareDone_mode {seg row role pos : Nat} {ok : Bool} : (spareDone seg row role pos ok s).pair.mode = s.pair.mode := by
  unfold spareDone
  dsimp only
  split
  · exact roleMut_mode
  · exact writeSpare_frame.mode rfl

theorem restoreDone_mode {slot : Fin 24} {seg row role : Nat} {ok : Bool} : (restoreDone slot seg row role ok s).pair.mode = s.pair.mode := by
  unfold restoreDone
  dsimp only
  split
  · exact roleMut_mode
  · rfl

theorem promoteCkpts_mode : (promoteCkpts s).pair.mode = s.pair.mode := by
  refine foldl_mode fun a x => ?_
  split
  · split
    · exact retireShard_mode.trans ((writePointers_frame.mode rfl).trans ((killRecs_frame.mode rfl).trans (putShard_frame.mode rfl)))
    · rfl
  · rfl

theorem settle_mode : (settle s).pair.mode = s.pair.mode := (issueRmws_frame.mode rfl).trans promoteCkpts_mode

/-! Rows and records that are lost, and reads around them (08 R217, R219, R227, R229, Table 8.3) -/

theorem loseLbas_mode {n : Ns} {ls : List LbaData} {st : CStamp} : (loseLbas n ls st s).pair.mode = s.pair.mode :=
  foldl_mode fun _ _ => mapMut_mode

theorem reenterObj_mode {c : Coll} {o : Obj} {st : CStamp} : (reenterObj c o st s).pair.mode = s.pair.mode := indexPut_mode

theorem loseRecord_mode {gone : Nat → Bool} {st : CStamp} {r : LogRec} : (loseRecord gone st r s).pair.mode = s.pair.mode := by
  unfold loseRecord
  cases r.kind with
  | extent c m | object c m =>
    dsimp only
    split
    · split
      · rfl
      · exact reenterObj_mode.trans (putObj_frame.mode rfl)
    · rfl
  | block =>
    dsimp only
    split
    · exact (killRecs_frame.mode rfl).trans loseLbas_mode
    · rfl
  | indexPage sh p => exact putPart_frame.mode rfl
  | mapPage ns =>
    dsimp only
    split
    · exact flushNow_mode.trans ((putPart_frame.mode rfl).trans loseLbas_mode)
    · rfl
  | memberPage sh => exact flushNow_mode.trans (putPart_frame.mode rfl)
  | checkpoint sh | commit sh => exact shardCheckpoint_mode
  | tombstone => exact killRecs_frame.mode rfl
  | loss => exact moveRecord_mode
  | lanyard | fill => rfl

theorem salvageBlocks_mode {shard d : Nat} {gone : Nat → Bool} {r : LogRec} : (salvageBlocks shard d gone r s).pair.mode = s.pair.mode := by
  unfold salvageBlocks
  dsimp only
  split
  · split
    · rfl
    · have written {fuel : Nat} : (writeUnits shard d false 0 r.kind r.stamp fuel r.units r.bytes (sequence shard s).2).2.pair.mode = s.pair.mode :=
        writeUnits_mode.trans (sequence_frame.mode rfl)
      split
      · exact (foldl_mode fun _ _ => mapMut_mode).trans (spliceRecord_mode.trans written)
      · exact written
  · rfl

theorem fileLosses_mode {shard : Nat} {filed : List LossRec} {st : CStamp} : (fileLosses shard filed st s).pair.mode = s.pair.mode :=
  foldl_mode fun _ _ => writeSealed_mode

theorem loseRecords_mode {shard seg row d : Nat} {gone : Nat → Bool} {recs : List LogRec} :
    (loseRecords shard seg row d gone recs s).pair.mode = s.pair.mode := by
  have entered (b : Bool) {type : Nat} {st : CStamp} {body : Flds} {z : State} :
      (if b then enter shelfChain type st body z else z).pair.mode = z.pair.mode := by
    split
    · exact enter_mode
    · rfl
  unfold loseRecords
  dsimp only
  rw [raiseLost_frame.mode rfl, fileLosses_mode, entered]
  refine (foldl_mode_snd fun _ _ => ?_).trans ((foldl_mode fun _ _ => loseRecord_mode).trans (sequence_frame.mode rfl))
  exact enter_mode

theorem declareLost_mode {seg row : Nat} : (declareLost seg row s).pair.mode = s.pair.mode := by
  unfold declareLost
  split
  · rfl
  · dsimp only
    split
    · rfl
    · rw [retireRow_mode, loseRecords_mode]
      exact (foldl_mode fun _ _ => salvageBlocks_mode).trans moveAll_mode

theorem rowReadFailed_mode {f : DriveFlow} {page timedOut : Bool} {seg row role : Nat} :
    (rowReadFailed f page timedOut seg row role s).pair.mode = s.pair.mode := by
  have marked : (if timedOut then s else markBad seg row role s).pair.mode = s.pair.mode := by
    split
    · rfl
    · exact markBad_frame.mode rfl
  unfold rowReadFailed
  dsimp only
  generalize (if timedOut then s else markBad seg row role s) = z at marked ⊢
  split
  · exact marked
  · split
    · exact declareLost_mode.trans marked
    · split
      · exact (pageAround_frame.mode rfl).trans marked
      · exact (noteLanyard_frame.mode rfl).trans marked

theorem readAround_mode {id seg row role reissues : Nat} {tried : List Nat} :
    (readAround id seg row role reissues tried s).pair.mode = s.pair.mode := by
  have asked (w : Row) (js tr : List Nat) (k : Nat) (lba : Nat) : (js.foldl (fun acc j => match stripMember acc w j with
      | some m => readAt id seg row j lba 16 k tr m acc
      | none => acc) s).pair.mode = s.pair.mode := by
    refine foldl_mode fun a j => ?_
    split
    · exact readAt_frame.mode rfl
    · rfl
  unfold readAround
  split
  · rfl
  · dsimp only
    split
    · exact asked ..
    · split
      · exact asked ..
      · exact (loseHeld_frame.mode rfl).trans declareLost_mode

end
end Machine
end Sys2Proof
end

section
/-!
PROOFS. SLOT_POWER and the capsules that a custodian relays (05 R127, R141, R143; 17 R431; 21 R505, R506). A slot that goes dark ends its drive's
commands; what follows may fence the module (18 R451) and never joins it to a pair, so every way that stood before stands for the answer.
-/
namespace Sys2Proof
namespace Machine

section
variable {s t : State}

/-! What the end of a drive's commands leaves of the pair (17 R431; 18 R451) -/

/-- From `s` to `t` the module has not been joined to a pair: if it mirrors, it did before. -/
def NotJoined (t s : State) : Prop := mirrors t = true → mirrors s = true

theorem NotJoined.trans {r : State} (h : NotJoined t s) (k : NotJoined s r) : NotJoined t r := fun e => k (h e)

theorem NotJoined.of_mode (h : t.pair.mode = s.pair.mode) : NotJoined t s := fun e => by unfold mirrors at e ⊢; rwa [← h]

theorem NotJoined.foldl {α : Type} {g : State → α → State} (h : ∀ a x, NotJoined (g a x) a) {l : List α} : NotJoined (l.foldl g s) s :=
  List.foldlRecOn l g (motive := fun b => NotJoined b s) id fun b k x _ => (h b x).trans k

theorem reservationCmd_notJoined {n : Fin 24} {k : Nat} : NotJoined (reservationCmd n k s) s := .of_mode (reservationCmd_frame.mode rfl)

/-- A fenced module is not paired (18 R451). -/
theorem enterFenced_notJoined : NotJoined (enterFenced s) s := fun e => by
  have fenced : (enterFenced s).pair.mode = .fenced := raise_frame.mode rfl
  unfold mirrors at e
  rw [fenced] at e
  exact absurd e (by decide)

theorem fenceNext_notJoined : NotJoined (fenceNext s) s := by
  unfold fenceNext
  split
  · exact reservationCmd_notJoined
  · split
    · exact id
    · exact enterFenced_notJoined

theorem reservationDone_notJoined {slot : Fin 24} {k : Nat} {ok timedOut : Bool} : NotJoined (reservationDone slot k ok timedOut s) s := by
  unfold reservationDone
  split
  · exact id
  · split
    · extract_lets _ z
      have same : NotJoined z s := id
      split
      · exact (NotJoined.foldl fun _ _ => reservationCmd_notJoined).trans same
      · exact fenceNext_notJoined.trans same
    · extract_lets _ z
      have same : NotJoined z s := id
      split
      · exact fenceNext_notJoined.trans same
      · split
        · exact same
        · exact enterFenced_notJoined.trans same

/-- Of the commands that end, only a reservation can change the pair's mode (18 R451). -/
theorem ownerDone_notJoined {slot : Fin 24} {c : DriveCmd} {ok timedOut : Bool} {why : Option StrikeKind} :
    NotJoined (ownerDone slot c ok timedOut why s) s := by
  have marked (b : Bool) {n seg row role : Nat} {f : Held → Held} {z : State} (h : z.pair.mode = s.pair.mode) :
      (if b then z else mapHeld n f (markBad seg row role z)).pair.mode = s.pair.mode := by
    split
    · exact h
    · exact (mapHeld_frame.mode rfl).trans ((markBad_frame.mode rfl).trans h)
  unfold ownerDone
  cases c.purpose with
  | hostRead id seg row role =>
    dsimp only
    split
    · exact .of_mode (readBack_frame.mode rfl)
    · split
      · exact .of_mode (mapHeld_frame.mode rfl)
      · exact .of_mode (readAround_mode.trans (marked _ (mapHeld_frame.mode rfl)))
  | strip seg row role => exact .of_mode stripDone_mode
  | rebuilt seg row role pos => exact .of_mode spareDone_mode
  | restored seg row role => exact .of_mode restoreDone_mode
  | bank b => exact .of_mode (bankDone_frame.mode rfl)
  | ring shard seq => exact .of_mode (ringDone_frame.mode rfl)
  | walkRead id seg row role =>
    dsimp only
    split
    · exact .of_mode ((landQuarantine_frame.mode rfl).trans (aheadCame_frame.mode rfl))
    · exact .of_mode (aheadCame_frame.mode rfl)
  | sanitise =>
    dsimp only
    split
    · exact .of_mode (pollSanitise_frame.mode rfl)
    · exact .of_mode (sanitiseEnds_frame.mode rfl)
  | sanPoll =>
    dsimp only
    split
    · exact id
    · exact .of_mode (sanitiseEnds_frame.mode rfl)
  | reservation k => exact reservationDone_notJoined
  | rowRead seg row role | pageRead seg row role =>
    dsimp only
    split
    · exact id
    · exact .of_mode rowReadFailed_mode
  | rmw | pointer | descriptor | deallocate | shutdown | test | work | discard => exact id

theorem endIssued_notJoined {slot : Fin 24} {c : DriveCmd} : NotJoined (endIssued slot s c) s := by
  unfold endIssued
  split
  · exact ownerDone_notJoined.trans
      (.of_mode ((bumpFigure_frame.mode rfl).trans ((putPort_frame.mode rfl).trans (quarantineTag_frame.mode rfl))))
  · exact id

theorem endWaiting_notJoined {slot : Fin 24} {c : DriveCmd} : NotJoined (endWaiting slot s c) s := by
  unfold endWaiting
  extract_lets gone
  have dropped : NotJoined (gone s) s := id
  split
  · exact id
  · cases c.purpose with
    | hostRead | ring | rowRead | pageRead | walkRead => exact ownerDone_notJoined.trans dropped
    | work | discard => exact dropped
    | strip | rebuilt | restored | bank | rmw | sanitise | sanPoll | reservation | pointer | descriptor | deallocate | shutdown
    | test => exact id

theorem darkSlot_notJoined {slot : Fin 24} : NotJoined (darkSlot slot s) s := by
  unfold darkSlot
  split
  · exact id
  · extract_lets _ _ _ z _
    have ported : NotJoined z s := by
      refine .of_mode ?_
      unfold z
      split
      · exact (putMember_frame.mode rfl).trans (putPort_frame.mode rfl)
      · exact putPort_frame.mode rfl
    exact (NotJoined.of_mode settle_mode).trans
      ((NotJoined.foldl fun _ _ => endWaiting_notJoined).trans ((NotJoined.foldl fun _ _ => endIssued_notJoined).trans ported))

/-- A way that stood stands while the sessions are the same and no pair is joined. -/
theorem pathStands_of_notJoined {p : MbxPath} (hTrn : t.trn = s.trn) (h : NotJoined t s) (hPath : pathStands s p = true) :
    pathStands t p = true := by
  have open_ {q : Nat} (k : ((ctxAt s q).any (fun y => !y.closing) && !(partnerSpace q && mirrors s)) = true) :
      ((ctxAt t q).any (fun y => !y.closing) && !(partnerSpace q && mirrors t)) = true := by
    obtain ⟨hCtx, hOwn⟩ := Bool.and_eq_true_iff.mp k
    have hSame : ctxAt t q = ctxAt s q := by unfold ctxAt; rw [hTrn]
    rw [hSame, hCtx, Bool.true_and]
    cases e : mirrors t with
    | false => simp
    | true => rwa [h e] at hOwn
  cases p with
  | mctp => rfl
  | endpoint => rfl
  | bryndle q => exact open_ hPath
  | tether q => exact open_ hPath

theorem Reachable.darkSlot {slot : Fin 24} {n : Nat} (h : Reachable s n) : Reachable (darkSlot slot s) n := by
  obtain ⟨x, hConn, hBelay, hPath⟩ := h
  refine ⟨x, ?_, ?_, pathStands_of_notJoined (darkSlot_frame.trn rfl) darkSlot_notJoined hPath⟩
  · unfold connAt
    rw [darkSlot_frame.mbx rfl]
    exact hConn
  · rw [darkSlot_frame.pwr rfl]
    exact hBelay

/-! A slot's channel (21 R498, R503, R506) -/

@[simp] theorem feedAt_putFeed_slot {n : Fin 24} {f : Feed} : feedAt (putFeed (.slot n) f s) (.slot n) = f :=
  Vector.getElem_set_self n.isLt

theorem Frame.feedAt {w : Nat} (h : Frame w t s) (k : w.testBit 32 = false) (ch : ChanId) : feedAt t ch = Machine.feedAt s ch := by
  unfold Machine.feedAt
  rw [h.pwr k]

theorem enableSlot_enabled {n : Fin 24} : (feedAt (enableSlot n s) (.slot n)).enabled = true := by
  unfold enableSlot startInsert
  dsimp only
  split <;> simp

theorem disableSlot_feed {n : Fin 24} :
    (feedAt (disableSlot n s) (.slot n)).enabled = false ∧ (feedAt (disableSlot n s) (.slot n)).pg = false := by
  unfold disableSlot feedOff
  dsimp only
  split <;> simp

theorem enableSlot_feedsOnly {n : Fin 24} : FeedsOnly (enableSlot n s) s := startInsert_feedsOnly.trans putFeed_feedsOnly

theorem disableSlot_feedsOnly {n : Fin 24} : FeedsOnly (disableSlot n s) s := putFeed_feedsOnly.trans feedOff_feedsOnly

/-- A change of the channels only leaves every way as it stands. -/
theorem Reachable.of_feeds {n : Nat} (h : Reachable s n) (k : FeedsOnly t s) (hTrn : t.trn = s.trn) (hMbx : t.mbx = s.mbx)
    (hPair : t.pair = s.pair) : Reachable t n := by
  obtain ⟨x, hConn, hBelay, hPath⟩ := h
  obtain ⟨i, v, e⟩ := k
  refine ⟨x, ?_, ?_, (pathStands_congr hTrn (congrArg (·.mode) hPair)).trans hPath⟩
  · unfold connAt
    rw [hMbx]
    exact hConn
  · rw [e]
    exact hBelay

/-! SLOT_POWER (21 R505, R506) -/

/-- The state in which SLOT_POWER answers that a slot is on. -/
def slotOn (n : Fin 24) (s : State) : State := tellSlot n true (enableSlot n s)

/-- The state in which SLOT_POWER answers that a slot is off. -/
def slotOff (n : Fin 24) (s : State) : State := tellSlot n false (darkSlot n (disableSlot n s))

theorem slotOn_enabled {n : Fin 24} : (feedAt (slotOn n s) (.slot n)).enabled = true := by
  unfold slotOn
  rw [tellSlot_frame.feedAt rfl]
  exact enableSlot_enabled

theorem slotOff_feed {n : Fin 24} : (feedAt (slotOff n s) (.slot n)).enabled = false ∧ (feedAt (slotOff n s) (.slot n)).pg = false := by
  unfold slotOff
  rw [tellSlot_frame.feedAt rfl, darkSlot_frame.feedAt rfl]
  exact disableSlot_feed

theorem Reachable.slotOn {n : Fin 24} {m : Nat} (h : Reachable s m) : Reachable (slotOn n s) m :=
  (h.of_feeds enableSlot_feedsOnly (enableSlot_frame.trn rfl) (enableSlot_frame.mbx rfl) (enableSlot_frame.pair rfl)).of_frame
    tellSlot_frame rfl rfl rfl rfl

theorem Reachable.slotOff {n : Fin 24} {m : Nat} (h : Reachable s m) : Reachable (slotOff n s) m :=
  (h.of_feeds disableSlot_feedsOnly (disableSlot_frame.trn rfl) (disableSlot_frame.mbx rfl)
    (disableSlot_frame.pair rfl)).darkSlot.of_frame tellSlot_frame rfl rfl rfl rfl

theorem Acted.feedAt {z : State} (h : Acted t z) (ch : ChanId) : feedAt t ch = Machine.feedAt z ch := by rw [h]; rfl

end

section
variable {s : State} {c : Call} {x : Conn} {slot : Byte} {k : Fin 24}

/-- A slot that is not LATCHED is switched on. -/
theorem execSlotPower_on (h : Checked s c 0x0802 isCustOper x) (hSlot : slot.toNat = k) (hFree : (feedAt s (.slot k)).state ≠ .latched)
    (up : s.pst.drivesDown = false) :
    ∃ t, execSlotPower c slot 1 s = .next t ∧ Acted t (reply c 0x0802 sOk [] (slotOn k (afterChecks s c x))) := by
  have hFree : (feedAt (afterChecks s c x) (.slot k)).state ≠ .latched := by
    rwa [afterChecks_same (fun z => feedAt z (.slot k)) fun _ => rfl]
  have hOn : (1 : Byte).toNat = 1 := rfl
  refine ⟨_, rfl, (mailboxCmd_acted h up).of_eq ?_⟩
  simp only [hSlot, k.isLt, dite_true, Fin.eta, hOn, Nat.reduceLeDiff, beq_eq_false_iff_ne.mpr hFree, Bool.false_eq_true, if_false, if_true,
    slotOn]

/-- A slot that is not LATCHED and whose drive is absent or failed is switched off. -/
theorem execSlotPower_off (h : Checked s c 0x0802 isCustOper x) (hSlot : slot.toNat = k) (hFree : (feedAt s (.slot k)).state ≠ .latched)
    (up : s.pst.drivesDown = false) (hGone : (memberAt s k).state = .absent ∨ (memberAt s k).state = .failed) :
    ∃ t, execSlotPower c slot 0 s = .next t ∧ Acted t (reply c 0x0802 sOk [] (slotOff k (afterChecks s c x))) := by
  have hFree : (feedAt (afterChecks s c x) (.slot k)).state ≠ .latched := by
    rwa [afterChecks_same (fun z => feedAt z (.slot k)) fun _ => rfl]
  have hGone : ((memberAt (afterChecks s c x) k).state != .absent && (memberAt (afterChecks s c x) k).state != .failed) = false := by
    rw [afterChecks_same (fun z => memberAt z k) fun _ => rfl]
    obtain e | e := hGone <;> rw [e] <;> rfl
  have hForm : ¬ 2 ≤ (0 : Byte).toNat := by decide
  have hOff : ¬ (0 : Byte).toNat = 1 := by decide
  refine ⟨_, rfl, (mailboxCmd_acted h up).of_eq ?_⟩
  simp only [hSlot, k.isLt, dite_true, Fin.eta, hForm, beq_eq_false_iff_ne.mpr hFree, hOff, hGone, Bool.false_eq_true, if_false, slotOff]

/-! UOP_RELAY (05 R127) -/

/-- A capsule that need not wait runs for the custodian who relays it. -/
theorem execUopRelay_runs {cap : Capsule} {b : RelayBody} (h : Checked s c 0x0A01 isCustodian x) (up : s.pst.drivesDown = false)
    (hFree : (hostCmd (.uopRelay c cap b)).any (fun y => mutationWaits (holdTag c (afterChecks s c x)) y ||
      walkWaits (holdTag c (afterChecks s c x)) y) = false) :
    ∃ t, execUopRelay c cap b s = .next t ∧ Acted t (runRelay x c cap b (now s) (holdTag c (afterChecks s c x))) := by
  refine ⟨_, rfl, (mailboxCmd_acted h up).of_eq ?_⟩
  simp only [hFree, Bool.false_eq_true, if_false, afterChecks_same now fun _ => rfl]
  rfl

/-- A relayed VERIFY is the custodian's VERIFY. -/
theorem runRelay_verify {cap : Capsule} {ing : Nat} (hOp : cap.hdr.opcode = 0x40) :
    runRelay x c cap .verify ing s = runVerify (relaySrc x c.tag ing) cap s := by
  unfold runRelay
  rw [hOp]
  rfl

end

end Machine

open Machine

/-- Settles O35: SLOT_POWER and UOP_RELAY reach the branch their conditions choose, the answer finds its way as the command found it, and a
reached quorum runs RELEASE as its act. -/
theorem slotPowerAndRelayComplete : Obligations.SlotPowerAndRelayComplete := by
  unfold Obligations.SlotPowerAndRelayComplete
  refine ⟨?on, ?off, ?relay, ?verify, ?release⟩
  case on =>
    intro c slot k x s h hSlot hFree up
    obtain ⟨t, e, acted⟩ := execSlotPower_on h hSlot hFree up
    refine ⟨t, e, ?_, acted.answers (reachable_afterChecks h).slotOn.answers⟩
    rw [acted.feedAt, reply_frame.feedAt rfl]
    exact slotOn_enabled
  case off =>
    intro c slot k x s h hSlot hFree up hGone
    obtain ⟨t, e, acted⟩ := execSlotPower_off h hSlot hFree up hGone
    have same : feedAt t (.slot k) = feedAt (slotOff k (afterChecks s c x)) (.slot k) := (acted.feedAt _).trans (reply_frame.feedAt rfl _)
    obtain ⟨off, low⟩ := slotOff_feed (s := afterChecks s c x) (n := k)
    exact ⟨t, e, (congrArg (·.enabled) same).trans off, (congrArg (·.pg) same).trans low,
      acted.answers (reachable_afterChecks h).slotOff.answers⟩
  case relay => exact fun c cap b x s h up hFree => execUopRelay_runs h up hFree
  case verify =>
    intro c cap x s h hOp up hFree hPasses
    obtain ⟨t, e, acted⟩ := execUopRelay_runs h up hFree
    exact ⟨t, e, acted.of_eq ((runRelay_verify hOp).trans (runUop_ok hPasses))⟩
  case release => exact fun c id cap b x m s h q up => ⟨_, rfl, quorumCmd_acted h q up⟩

end Sys2Proof
end

section
/-!
PROOFS. The log's events (07 R181, R184, R191, R192, R196, R209; 17 R425 to R428). A segment state's entry in the splice log leaves the segments and
the records; the entry that a removal makes on its way out (20 R488, R489) leaves the row updates, and no event it raises clears a status bit.
-/
namespace Sys2Proof
namespace Machine

section
variable {s t r : State}

/-! Figures and late completions (17 R428; 23 R529) -/

theorem figure_ite {c : Prop} [Decidable c] {a : Nat} (h : figure t a = figure s a) (k : figure r a = figure s a) :
    figure (if c then t else r) a = figure s a := by
  split <;> assumption

theorem figure_msix {v a : Nat} : figure (msix v s) a = figure s a := figure_ite (t := { s with out := _ }) rfl rfl

/-- Placing an event counts in no figure but the lost records of the rings (23 R529). -/
theorem figure_placeEvent {num a : Nat} {d : Flds} {i : State → EvRing → List Nat} (h : a ≠ 0x0D000014) :
    figure (placeEvent num d i s) a = figure s a := by
  have signalled {b : Bool} {n : Nat} {z : State} : figure (if b then msix n z else z) a = figure z a := figure_ite figure_msix rfl
  unfold placeEvent
  dsimp only
  refine figure_ite ?kept ((figure_setFigure_ne h).trans ?lost)
  case kept => exact figure_ite signalled signalled
  case lost => exact figure_ite signalled signalled

theorem figure_raise {addr bit inst a : Nat} (h : a ≠ 0x0D000014) : figure (raise addr bit inst s) a = figure s a :=
  figure_placeEvent (s := orStatus addr (2 ^ bit) s) h

theorem figure_bumpFigure {a n : Nat} (h : 0 < n) : figure (bumpFigure a n s) a = min 0xFFFFFFFF (figure s a + n) :=
  figure_setFigure (by omega)

/-- A late completion sets DRV_STATUS bit 0 and counts in DRV_LATE (17 R428). -/
theorem lateCompletion_counts {slot : Fin 24} : (statusWord (lateCompletion slot s) stDRV).testBit 0 = true ∧
    figure (lateCompletion slot s) 0x0600001C = min 0xFFFFFFFF (figure s 0x0600001C + 1) :=
  ⟨raise_sets, (figure_raise (by decide)).trans (figure_bumpFigure Nat.one_pos)⟩

theorem execDriveCompletion_of_some {slot : Fin 24} {queue tag sct sc : Nat} {checks : ReadChecks} {k : DriveCmd}
    (h : cmdAt (portAt s slot) queue (tag % 16384) (tag / 16384) = some k) :
    execDriveCompletion slot queue tag sct sc checks s =
      .next (if late s k.issued k.timeout then lateCompletion slot (timeoutCmd slot k s) else completeCmd slot k sct sc checks s) := by
  unfold execDriveCompletion
  rw [h]

theorem execDriveCompletion_of_none {slot : Fin 24} {queue tag sct sc : Nat} {checks : ReadChecks}
    (h : cmdAt (portAt s slot) queue (tag % 16384) (tag / 16384) = none) :
    execDriveCompletion slot queue tag sct sc checks s = .next (lateCompletion slot s) := by
  unfold execDriveCompletion
  rw [h]

/-! One condition each (R184, R196) -/

theorem execStripeCloseDelay_due {shard d n : Nat} {reloc : Bool} {y : Head} (hHead : headOf s shard d reloc = some y) (hSince : y.since = some n)
    (hDue : confirmed s n (pStrCloseDelay s * usU) = true) : execStripeCloseDelay shard d reloc s = .next (closeRow y s) := by
  unfold execStripeCloseDelay
  simp only [hHead, hSince, hDue, if_true]

theorem execLogCheckpoint_due {shard : Nat} (hOwned : (shardAt s shard).owned = true) (hReady : (shardAt s shard).ready = true)
    (hUp : s.pst.drivesDown = false) (hDue : confirmed s (shardAt s shard).ckptAt (pStrCkptInterval s * secU) = true) :
    execLogCheckpoint shard s = .next (shardCheckpoint shard s) := by
  unfold execLogCheckpoint
  simp only [hOwned, hReady, hUp, hDue, Bool.not_false, Bool.and_self, if_true]

/-! Status bits that stand (23 R526). Only a write of the register clears one. -/

/-- No status bit that stands in `s` is clear in `t`. -/
def BitsStand (t s : State) : Prop := ∀ a n, (statusWord s a).testBit n = true → (statusWord t a).testBit n = true

theorem BitsStand.refl : BitsStand s s := fun _ _ => id

theorem BitsStand.trans (h : BitsStand t r) (k : BitsStand r s) : BitsStand t s := fun a n e => h a n (k a n e)

theorem BitsStand.of_status (h : t.layers.status = s.layers.status) : BitsStand t s := fun a n e => by
  unfold statusWord at e ⊢
  rwa [h]

theorem Frame.bitsStand {w : Nat} (h : Frame w t s) (k : w.testBit 31 = false) : BitsStand t s :=
  .of_status (congrArg (fun y => y.1) (h.status k))

theorem raiseEvent_bitsStand {num inst : Nat} {d : Flds} : BitsStand (raiseEvent num inst d s) s := fun _ _ => testBit_placeEvent

theorem raise_bitsStand {a b i : Nat} : BitsStand (raise a b i s) s := fun _ _ => raise_keeps

theorem startDrive_bitsStand {slot : Fin 24} {x : DriveCmd × Nat × List Flow × Bool} : BitsStand (startDrive slot x s) s := by
  have served {p : DrivePort} {w : ShareWindow} : BitsStand (putWindow w (putPort slot p s)) s := .of_status rfl
  unfold startDrive
  refine (send_frame.bitsStand rfl).trans ?_
  split
  · exact raise_bitsStand.trans served
  · exact served

theorem pumpSlots_bitsStand {slot : Fin 24} {n : Nat} : BitsStand (pumpSlots slot n s) s := by
  induction n generalizing s with
  | zero => exact .refl
  | succ n ih =>
    unfold pumpSlots
    split
    · split
      · exact ih.trans startDrive_bitsStand
      · exact .refl
    · exact .refl

theorem pumpPort_bitsStand {slot : Fin 24} : BitsStand (pumpPort slot s) s := by
  unfold pumpPort
  split
  · exact .refl
  · exact pumpSlots_bitsStand.trans (refill_frame.bitsStand rfl)

theorem issueWrite_bitsStand {slot : Fin 24} {f : DriveFlow} {p : DrivePurpose} {lba count : Nat} {data : Bytes} :
    BitsStand (issueWrite slot f p lba count data s).2 s :=
  pumpPort_bitsStand.trans (putPort_frame.bitsStand rfl)

theorem ringWrite_bitsStand {e : SpliceEntry} {m : Nat} : BitsStand (ringWrite e m s) s := by
  unfold ringWrite
  exact issueWrite_bitsStand.trans ((putMember_frame.bitsStand rfl).trans (draw_frame.bitsStand rfl))

/-! The splice log (07 R198 to R202). An entry changes its shard and the splice log; the rest of the log is as it was. -/

/-- The log is the same but for the shards and the splice log. -/
def SplicesOnly (t s : State) : Prop := ∃ sh sp, t.log = { s.log with shards := sh, splice := sp }

theorem SplicesOnly.trans (h : SplicesOnly t r) (k : SplicesOnly r s) : SplicesOnly t s := by
  obtain ⟨sh, sp, e⟩ := h
  obtain ⟨_, _, e'⟩ := k
  exact ⟨sh, sp, by rw [e, e']⟩

theorem Frame.splicesOnly {w : Nat} (h : Frame w t s) (k : w.testBit 13 = false) : SplicesOnly t s := ⟨_, _, h.log k⟩

theorem SplicesOnly.segs (h : SplicesOnly t s) : t.log.segs = s.log.segs := by obtain ⟨_, _, e⟩ := h; rw [e]

theorem SplicesOnly.recs (h : SplicesOnly t s) : t.log.recs = s.log.recs := by obtain ⟨_, _, e⟩ := h; rw [e]

theorem SplicesOnly.rmws (h : SplicesOnly t s) : t.log.rmws = s.log.rmws := by obtain ⟨_, _, e⟩ := h; rw [e]

theorem ringCopies_splicesOnly {e : SpliceEntry} : SplicesOnly (ringCopies e s) s := by
  have written {l : List Nat} {z : State} : SplicesOnly (l.foldl (fun acc m => ringWrite e m acc) z) z :=
    ⟨_, _, foldl_same (f := fun z => z.log) (fun _ _ => ringWrite_frame.log rfl) l z⟩
  unfold ringCopies
  dsimp only
  split
  · exact (raise_frame.splicesOnly rfl).trans (written.trans ⟨_, _, rfl⟩)
  · exact written.trans ⟨_, _, rfl⟩

theorem mirrorSend_splicesOnly {x : MirrorRec} : SplicesOnly (mirrorSend x s) s := mirrorSend_frame.splicesOnly rfl

theorem splice_splicesOnly {shard kind size : Nat} {stamp : CStamp} {x : Naming} {fields : Bytes} :
    SplicesOnly (splice shard kind stamp x size fields s).2 s := by
  unfold splice
  dsimp only
  exact mirrorSend_splicesOnly.trans (ringCopies_splicesOnly.trans ((noteJournal_frame.splicesOnly rfl).trans ⟨_, _, rfl⟩))

theorem segEntry_splicesOnly {shard seg state : Nat} : SplicesOnly (segEntry shard seg state s) s := splice_splicesOnly

theorem sequence_splicesOnly {shard : Nat} : SplicesOnly (sequence shard s).2 s := ⟨_, _, rfl⟩

theorem retireShard_splicesOnly {shard : Nat} : SplicesOnly (retireShard shard s) s := by
  unfold retireShard
  dsimp only
  split
  · exact ⟨_, _, rfl⟩
  · exact mirrorSend_splicesOnly.trans (SplicesOnly.trans ⟨_, _, rfl⟩ (splice_splicesOnly.trans ⟨_, _, rfl⟩))

/-! What the entry of a removal leaves (09 R250, R251; 20 R488) -/

/-- From `s` to `t` the row updates are as they were, and no status bit is cleared. -/
structure Steady (t s : State) : Prop where
  rmws : t.log.rmws = s.log.rmws
  bits : BitsStand t s

theorem Steady.refl : Steady s s := ⟨rfl, .refl⟩

theorem Steady.trans (h : Steady t r) (k : Steady r s) : Steady t s := ⟨h.rmws.trans k.rmws, h.bits.trans k.bits⟩

theorem Steady.foldl {α : Type} {g : State → α → State} (h : ∀ a x, Steady (g a x) a) {l : List α} : Steady (l.foldl g s) s :=
  List.foldlRecOn l g (motive := fun b => Steady b s) .refl fun b k x _ => (h b x).trans k

theorem Frame.rmws {w : Nat} (h : Frame w t s) (k : w.testBit 13 = false) : t.log.rmws = s.log.rmws := congrArg (fun y => y.rmws) (h.log k)

theorem Frame.steady {w : Nat} (h : Frame w t s) (kLog : w.testBit 13 = false) (k : w.testBit 31 = false) : Steady t s :=
  ⟨h.rmws kLog, h.bitsStand k⟩

theorem raise_steady {a b i : Nat} : Steady (raise a b i s) s := ⟨raise_frame.rmws rfl, raise_bitsStand⟩

theorem issueWrite_steady {slot : Fin 24} {f : DriveFlow} {p : DrivePurpose} {lba count : Nat} {data : Bytes} :
    Steady (issueWrite slot f p lba count data s).2 s := ⟨issueWrite_frame.rmws rfl, issueWrite_bitsStand⟩

theorem ringWrite_steady {e : SpliceEntry} {m : Nat} : Steady (ringWrite e m s) s :=
  ⟨ringWrite_frame.rmws rfl, ringWrite_bitsStand⟩

theorem ringCopies_bitsStand {e : SpliceEntry} : BitsStand (ringCopies e s) s := by
  have written {l : List Nat} {z : State} : Steady (l.foldl (fun acc m => ringWrite e m acc) z) z := .foldl fun _ _ => ringWrite_steady
  unfold ringCopies
  dsimp only
  split
  · exact raise_bitsStand.trans (written.bits.trans (.of_status rfl))
  · exact written.bits.trans (.of_status rfl)

theorem splice_steady {shard kind size : Nat} {stamp : CStamp} {x : Naming} {fields : Bytes} :
    Steady (splice shard kind stamp x size fields s).2 s := by
  refine ⟨splice_splicesOnly.rmws, ?_⟩
  unfold splice
  dsimp only
  exact (mirrorSend_frame.bitsStand rfl).trans (ringCopies_bitsStand.trans (.of_status rfl))

theorem openHead_steady {shard d : Nat} {reloc : Bool} : Steady (openHead shard d reloc s).2 s := by
  unfold openHead
  split
  · exact .refl
  · split
    · exact .refl
    · have raised (b : Bool) (n : Nat) {z : State} : Steady (if b then raise stSTR n noInst z else z) z := by
        split
        · exact raise_steady
        · exact .refl
      dsimp only
      exact (raised _ 3).trans ((raised _ 2).trans ((askSegments_frame.steady rfl rfl).trans (splice_steady.trans ⟨rfl, .of_status rfl⟩)))

theorem issueRow_steady {seg row : Nat} : Steady (issueRow seg row s) s := by
  unfold issueRow
  split
  · exact .refl
  · dsimp only
    split
    · exact .refl
    · refine (Steady.foldl fun a x => ?_).trans ⟨rfl, .of_status rfl⟩
      split
      · exact issueWrite_steady
      · exact .refl

theorem closeRow_steady {h : Head} : Steady (closeRow h s) s := issueRow_steady.trans ⟨rfl, .of_status rfl⟩

theorem fillUnits_steady {shard d fuel n : Nat} {reloc : Bool} : Steady (fillUnits shard d reloc fuel n s) s := by
  induction fuel generalizing n s with
  | zero => exact .refl
  | succ fuel ih =>
    unfold fillUnits
    split
    · exact .refl
    · split
      · exact .refl
      · dsimp only
        split
        · exact ⟨rfl, .of_status rfl⟩
        · exact ih.trans closeRow_steady

theorem fillSegment_steady {shard d fuel : Nat} {reloc : Bool} : Steady (fillSegment shard d reloc fuel s) s := by
  induction fuel generalizing s with
  | zero => exact .refl
  | succ fuel ih =>
    unfold fillSegment
    split
    · exact .refl
    · exact ih.trans closeRow_steady

theorem layRecord_steady {h : Head} {kind : RecKind} {units : Nat} {bytes : Bytes} {stamp : CStamp} :
    Steady (layRecord h kind units bytes stamp s).2 s := fillUnits_steady.trans ⟨rfl, .of_status rfl⟩

theorem writeUnits_steady {shard d grain fuel units : Nat} {reloc : Bool} {kind : RecKind} {stamp : CStamp} {bytes : Bytes} :
    Steady (writeUnits shard d reloc grain kind stamp fuel units bytes s).2 s := by
  induction fuel generalizing units bytes s with
  | zero => exact .refl
  | succ fuel ih =>
    have opened := openHead_steady (shard := shard) (d := d) (reloc := reloc) (s := s)
    unfold writeUnits
    split
    · exact .refl
    · split
      · rename_i h
        rwa [h] at opened
      · rename_i h
        rw [h] at opened
        dsimp only
        split
        · exact layRecord_steady.trans opened
        · split
          · exact ih.trans (fillSegment_steady.trans (layRecord_steady.trans opened))
          · exact ih.trans (fillSegment_steady.trans opened)

theorem spliceExtents_steady {shard d : Nat} {direct l : List (Nat × Nat)} {bytes : Bytes} {stamp : CStamp} :
    Steady (spliceExtents shard d direct stamp l bytes s) s := by
  induction l generalizing bytes s with
  | nil => exact .refl
  | cons x l ih => exact ih.trans (.foldl fun _ _ => splice_steady)

theorem writeSealed_steady {shard d tenant size : Nat} {kind : RecKind} {magic : String} {body : Bytes} {stamp : CStamp} :
    Steady (writeSealed shard d kind magic tenant size body stamp s).2 s :=
  spliceExtents_steady.trans (writeUnits_steady.trans (draw_frame.steady rfl rfl))

theorem enter_steady {chain type : Nat} {stamp : CStamp} {body : Flds} : Steady (enter chain type stamp body s) s := by
  unfold enter appendEntry
  split
  · exact .refl
  · unfold lanyardRecord
    dsimp only
    split
    · exact ⟨rfl, .of_status rfl⟩
    · exact writeSealed_steady.trans ⟨rfl, .of_status rfl⟩

theorem configEntry_steady {cls action : Nat} {digest : Digest} : Steady (configEntry cls action digest s) s :=
  Steady.trans ⟨raiseEvent_frame.rmws rfl, raiseEvent_bitsStand⟩ enter_steady

theorem liftOverlay_steady {o : OvlInForce} : Steady (liftOverlay o s) s := by
  unfold liftOverlay
  dsimp only
  split <;> exact ⟨rfl, .of_status rfl⟩

theorem finishRemoval_steady : Steady (finishRemoval s) s := by
  have dropped {o : OvlInForce} : Steady (dropOverlay o s) s := configEntry_steady.trans liftOverlay_steady
  unfold finishRemoval
  split
  · split
    · exact ⟨dropped.rmws, dropped.bits⟩
    · exact .refl
  · exact .refl

/-! Relocation (R191) -/

theorem staler_eq {a b : Segment} : staler a b = a ∨ staler a b = b := by
  unfold staler
  dsimp only
  split
  · exact .inl rfl
  · split
    · exact .inr rfl
    · split
      · exact .inl rfl
      · exact .inr rfl

/-- The stalest segment is one of those compared. -/
theorem foldl_staler_mem {g : Segment} {gs : List Segment} : gs.foldl staler g ∈ g :: gs := by
  refine List.foldlRecOn gs staler (motive := fun b => b ∈ g :: gs) List.mem_cons_self fun b hb x hx => ?_
  obtain e | e := staler_eq (a := b) (b := x)
  · rwa [e]
  · rw [e]; exact List.mem_cons_of_mem g hx

/-- The segment that relocation takes has records left to move, or is a FULL one. -/
theorem relocPick_cases {g : Segment} (h : relocPick s = some g) :
    segMovable s g.num ≠ [] ∨ (g ∈ s.log.segs ∧ g.state = .full) := by
  have full {x : Segment} (hx : x ∈ s.log.segs.filter (fun y => y.state == .full && s.mem.rebuildSeg != some y.num)) :
      x ∈ s.log.segs ∧ x.state = .full := by
    obtain ⟨hMem, hFull⟩ := List.mem_filter.mp hx
    exact ⟨hMem, eq_of_beq (Bool.and_elim_left hFull)⟩
  unfold relocPick at h
  dsimp only at h
  split at h
  · rename_i y e
    obtain rfl := Option.some.inj h
    have left := List.find?_some e
    exact .inl (by simpa using Bool.and_elim_right left)
  · split at h
    · rename_i y ys e
      obtain rfl := Option.some.inj h
      have queued : y ∈ s.log.relocQ.filterMap _ := e ▸ List.mem_cons_self
      obtain ⟨n, -, found⟩ := List.mem_filterMap.mp queued
      exact .inr (full (List.mem_of_find?_eq_some found))
    · split at h
      · cases h
      · rename_i y ys e
        obtain rfl := Option.some.inj h
        have stale : ys.foldl staler y ∈ List.filter _ _ := e ▸ foldl_staler_mem
        exact .inr (full (List.mem_filter.mp stale).1)

theorem segMovable_nil {seg : Nat} (h : s.log.recs.any (fun r => addrSeg r.addr == seg) = false) : segMovable s seg = [] := by
  unfold segMovable
  refine List.filter_eq_nil_iff.mpr fun r hr e => ?_
  have lies : s.log.recs.any (fun r => addrSeg r.addr == seg) = true := List.any_eq_true.mpr ⟨r, hr, Bool.and_elim_left e⟩
  exact absurd (h.symm.trans lies) Bool.false_ne_true

theorem find_mapIf {α : Type} {p : α → Bool} {f : α → α} {l : List α} (hf : ∀ x, p (f x) = p x) :
    (mapIf p f l).find? p = (l.find? p).map f := by
  unfold mapIf
  induction l with
  | nil => rfl
  | cons x l ih => cases hx : p x <;> simp [hx, hf, ih]

theorem startReloc_recs {g : Segment} : (startReloc g s).log.recs = s.log.recs := by
  unfold startReloc
  split
  · rfl
  · exact segEntry_splicesOnly.recs

/-- The selection of a FULL segment marks it, with the stamp of its selection (R191, R192). -/
theorem startReloc_segs {g : Segment} (h : g.state = .full) : ∃ st, (startReloc g s).log.segs =
    mapIf (fun x => x.num == g.num) (fun x => { x with state := .relocating, movedAt := some st }) s.log.segs := by
  unfold startReloc
  rw [h]
  exact ⟨_, segEntry_splicesOnly.segs⟩

theorem startReloc_full {g : Segment} (hMem : g ∈ s.log.segs) (hFull : g.state = .full) :
    (segAt (startReloc g s) g.num).map (fun y => y.state) = some .relocating := by
  obtain ⟨st, e⟩ := startReloc_segs (s := s) hFull
  have found : (s.log.segs.find? (fun x => x.num == g.num)).isSome = true := List.find?_isSome.mpr ⟨g, hMem, beq_self_eq_true g.num⟩
  obtain ⟨x, hx⟩ := Option.isSome_iff_exists.mp found
  unfold segAt
  rw [e, find_mapIf (by intro _; rfl), hx]
  rfl

theorem execRelocationSelect_picked {g : Segment} (h : relocPick s = some g) :
    execRelocationSelect s = .next (moveAll g.shard g.d true (segMovable (startReloc g s) g.num)
      ((segMovable (startReloc g s) g.num).foldl (fun acc r => relocReads r g.d acc) (startReloc g s))).2 := by
  unfold execRelocationSelect
  rw [h]

/-- A segment without records is only marked: nothing is read or moved. -/
theorem execRelocationSelect_empty {g : Segment} (h : relocPick s = some g) (hNone : s.log.recs.any (fun r => addrSeg r.addr == g.num) = false) :
    execRelocationSelect s = .next (startReloc g s) := by
  rw [execRelocationSelect_picked h, segMovable_nil (s := startReloc g s) (by rw [startReloc_recs]; exact hNone)]
  rfl

/-! Segments and row updates that end (R192, R209) -/

theorem any_dropIf {α : Type} {p : α → Bool} {l : List α} : (dropIf p l).any p = false := by
  simp [dropIf]

theorem find_dropIf {α : Type} {p : α → Bool} {l : List α} : (dropIf p l).find? p = none := by
  simp [dropIf]

/-- A segment that may go goes with its records and rows (R192). -/
theorem execSegmentFree_freeable {seg : Nat} {g : Segment} (hAt : segAt s seg = some g) (hFree : freeable s g = true) :
    ∃ z : State, execSegmentFree seg s = .next { z with log := { z.log with
      segs := dropIf (fun x => x.num == seg) z.log.segs, recs := dropIf (fun r => addrSeg r.addr == seg) z.log.recs,
      rows := dropIf (fun r => r.seg == seg) z.log.rows } } := by
  unfold execSegmentFree
  rw [hAt]
  dsimp only
  rw [hFree]
  exact ⟨_, rfl⟩

/-- An update whose writes have completed goes, its intent retired, before its event is raised (R209). -/
theorem execRmwRetire_done {seg row : Nat} {m : Rmw} (hAt : s.log.rmws.find? (fun y => y.seg == seg && y.row == row) = some m)
    (hIssued : m.issued = true) (hWrites : m.writes = []) :
    ∃ z, execRmwRetire seg row s = .next (finishRemoval (raise stSTR 6 noInst z)) ∧
      z.log.rmws = dropIf (fun y => y.seg == seg && y.row == row) s.log.rmws := by
  unfold execRmwRetire
  rw [hAt]
  dsimp only
  rw [hIssued, hWrites]
  exact ⟨_, rfl, retireShard_splicesOnly.rmws⟩

end
end Machine

open Machine

/-- Settles O25: each event takes the branch its conditions choose; a segment's entry, a removal that waited and the events they raise leave what the
clauses speak of. -/
theorem logCommandsComplete : Obligations.LogCommandsComplete := by
  unfold Obligations.LogCommandsComplete
  refine ⟨?close, ?completion, ?timedOut, ?unknown, ?checkpoint, ?select, ?selectEmpty, ?free, fun seg row strip first data s => rfl, ?retire⟩
  case close =>
    intro shard d reloc y n s hHead hSince hDue
    exact execStripeCloseDelay_due hHead hSince hDue
  case completion =>
    intro slot queue tag sct sc checks k s hAt hTimely
    exact (execDriveCompletion_of_some hAt).trans (by rw [hTimely]; rfl)
  case timedOut =>
    intro slot queue tag sct sc checks k s hAt hLate
    exact (execDriveCompletion_of_some hAt).trans (by rw [hLate]; rfl)
  case unknown =>
    intro slot queue tag sct sc checks s hNone
    exact ⟨_, execDriveCompletion_of_none hNone, lateCompletion_counts⟩
  case checkpoint =>
    intro shard s hOwned hReady hUp hDue
    exact execLogCheckpoint_due hOwned hReady hUp hDue
  case select => exact fun g s hPick => execRelocationSelect_picked hPick
  case selectEmpty =>
    intro g s hPick hNone
    obtain hLeft | ⟨hMem, hFull⟩ := relocPick_cases hPick
    · exact absurd (segMovable_nil hNone) hLeft
    · exact ⟨_, execRelocationSelect_empty hPick hNone, startReloc_full hMem hFull⟩
  case free =>
    intro seg g s hAt hFree
    obtain ⟨z, e⟩ := execSegmentFree_freeable hAt hFree
    exact ⟨_, e, Option.isNone_iff_eq_none.mpr find_dropIf, any_dropIf, any_dropIf⟩
  case retire =>
    intro seg row m s hAt hIssued hWrites
    obtain ⟨z, e, hRmws⟩ := execRmwRetire_done hAt hIssued hWrites
    exact ⟨_, e, (finishRemoval_steady.trans raise_steady).rmws.trans hRmws, finishRemoval_steady.bits _ _ raise_sets⟩

end Sys2Proof
end

section
/-!
PROOFS. The drive ports and the service endpoint (17 R417 to R437; 08 R213). Events of a port and of the endpoint take the branch that their
conditions choose. What a link that trains leaves is read off the port and the member it writes: the event of a slow link and the windows that
firmware programs leave both. An endpoint reset closes connections of the endpoint's own path only, which touches neither
the cleared endpoint nor a count, and its last event changes of the endpoint only which vectors wait.
-/
namespace Sys2Proof
namespace Machine

section
variable {s t r : State}

/-! Ports, members and what leaves them (R419, R422) -/

theorem memberAt_putMember_self {n : Fin 24} {m : Member} : memberAt (putMember n m s) n = m := by
  unfold memberAt putMember
  simp

theorem Frame.portAt {w : Nat} (h : Frame w t s) (k : w.testBit 25 = false) {n : Fin 24} : portAt t n = portAt s n :=
  congrArg (fun d => d.ports[n]) (h.drv k)

theorem Frame.memberAt {w : Nat} (h : Frame w t s) (k : w.testBit 14 = false) {n : Fin 24} : memberAt t n = memberAt s n :=
  congrArg (fun m => m.slots[n]) (h.mem k)

theorem Frame.figure {w : Nat} (h : Frame w t s) (k : w.testBit 31 = false) {a : Nat} : figure t a = figure s a :=
  congrArg (fun y => (y.2.1.lookup a).getD 0) (h.status k)

/-- The windows that firmware programs change nothing else of their port (R422). -/
theorem portAt_programWindows {slot : Fin 24} : ∃ w sh c,
    portAt (programWindows slot s) slot = { portAt s slot with windows := w, shadow := sh, commits := c } := by
  unfold programWindows
  split
  · exact ⟨_, _, _, rfl⟩
  · exact ⟨_, _, _, portAt_putPort.trans (if_pos rfl)⟩

/-! Discovery (R417 to R420) -/

/-- The port of a link that trains, with what discovery found behind it. -/
def trainedPort (p : DrivePort) (rate width : Nat) (d : DriveFound) : DrivePort :=
  { p with linkUp := true, rate := rate % 8, width := width % 8, capTo := d.capTo, queues := foundQueues d, entries := foundEntries d, nextQ := 0,
           mdts := d.mdts }

/-- A link that is slow or narrow is reported (R419). -/
def reportLink (slot : Fin 24) (full : Bool) (s : State) : State := if full then s else raise stDRV 1 slot s

theorem reportLink_frame {slot : Fin 24} {full : Bool} : Frame 156833415168 (reportLink slot full s) s := frame_ite .refl raise_frame

/-- A link trains: its port and its member take it up. -/
def linkTrained (slot : Fin 24) (rate width : Nat) (d : DriveFound) (s : State) : State :=
  putMember slot { memberAt s slot with downSince := none }
    (reportLink slot (decide (6 ≤ rate) && decide ((if s.drv.x2 then 2 else 3) ≤ width)) (putPort slot (trainedPort (portAt s slot) rate width d) s))

/-- Discovery waits at D3 with a configuration read outstanding (R420; log entry 73). -/
def awaitReady (slot : Fin 24) (s : State) : State :=
  putPort slot { portAt s slot with step := some 3, stepAt := s.time.ticks, cfgReads := [(3, mono s)] } s

theorem execDriveLinkUp_notReady {slot : Fin 24} {rate width n : Nat} {d : DriveFound} (hStep : (portAt s slot).step = some n)
    (hPin : (portAt s slot).perstAt = none) (hNvme : d.nvme = true) (hReady : d.ready = false) :
    execDriveLinkUp slot rate width d s = .next (awaitReady slot (programWindows slot (linkTrained slot rate width d s))) := by
  have hRuns : ¬ ((portAt s slot).step.isNone || (portAt s slot).perstAt.isSome) = true := by
    rw [hStep, hPin]; exact Bool.false_ne_true
  have hFound : ¬ (!d.nvme) = true := by rw [hNvme]; decide
  have hWaits : (!d.ready) = true := by rw [hReady]; rfl
  exact (if_neg hRuns).trans ((if_neg hFound).trans (if_pos hWaits))

/-- The event of a slow link leaves the port as trained. -/
theorem portAt_linkTrained {slot : Fin 24} {rate width : Nat} {d : DriveFound} :
    portAt (linkTrained slot rate width d s) slot = trainedPort (portAt s slot) rate width d :=
  (putMember_frame.portAt rfl).trans ((reportLink_frame.portAt rfl).trans (portAt_putPort.trans (if_pos rfl)))

theorem time_linkTrained {slot : Fin 24} {rate width : Nat} {d : DriveFound} : (linkTrained slot rate width d s).time = s.time :=
  (putMember_frame.time rfl).trans ((reportLink_frame.time rfl).trans (putPort_frame.time rfl))

theorem portAt_awaitReady {slot : Fin 24} :
    portAt (awaitReady slot s) slot = { portAt s slot with step := some 3, stepAt := s.time.ticks, cfgReads := [(3, mono s)] } :=
  portAt_putPort.trans (if_pos rfl)

/-- Discovery waits on the link as it trained, from the instant at which it trained. -/
theorem awaitReady_linkTrained {slot : Fin 24} {rate width : Nat} {d : DriveFound} :
    let z := awaitReady slot (programWindows slot (linkTrained slot rate width d s))
    (portAt z slot).linkUp = true ∧ (portAt z slot).rate = rate % 8 ∧ (portAt z slot).step = some 3 ∧ (portAt z slot).stepAt = s.time.ticks ∧
      (portAt z slot).cfgReads = [(3, mono s)] ∧ (memberAt z slot).downSince = none := by
  obtain ⟨w, sh, c, hPort⟩ := portAt_programWindows (s := linkTrained slot rate width d s) (slot := slot)
  have hTime : (programWindows slot (linkTrained slot rate width d s)).time = s.time := (programWindows_frame.time rfl).trans time_linkTrained
  have hMember : memberAt (awaitReady slot (programWindows slot (linkTrained slot rate width d s))) slot =
      { memberAt s slot with downSince := none } :=
    (putPort_frame.memberAt rfl).trans ((programWindows_frame.memberAt rfl).trans memberAt_putMember_self)
  dsimp only
  rw [portAt_awaitReady, hPort, portAt_linkTrained, hMember]
  exact ⟨rfl, rfl, rfl, congrArg (fun y => y.ticks) hTime, congrArg (fun y => [(3, y.mono)]) hTime, rfl⟩

theorem execDiscoveryStepTimeout_due {slot : Fin 24} {k : Nat} (hStep : (portAt s slot).step = some k)
    (hDue : (portAt s slot).stepAt + stepBudget (portAt s slot) k ≤ s.time.ticks) :
    execDiscoveryStepTimeout slot s = .next (failDiscovery slot k s) := by
  unfold execDiscoveryStepTimeout
  simp only [hStep, if_pos hDue]

theorem execPerstPulseEnd_confirmed {slot : Fin 24} {n : Nat} (hPin : (portAt s slot).perstAt = some n)
    (hDue : confirmed s n (pDrvPerstTime s * usU) = true) : execPerstPulseEnd slot s = .next (startDiscovery slot 0 s) := by
  unfold execPerstPulseEnd
  simp only [hPin, if_pos hDue]

/-! A drive's requests (R422, R424) -/

/-- A read in a window that stands is translated. -/
theorem execDriveMemoryRequest_read {slot : Fin 24} {addr len : Nat} {relaxed : Bool} {y : Window} (hUp : (portAt s slot).linkUp = true)
    (hWindow : windowOf (portAt s slot) addr len = some y) (hRead : y.canRead = true) (hOpen : apertureOpen (portAt s slot) y addr = true) :
    execDriveMemoryRequest slot addr len false relaxed s =
      .next (send (msg (.drive slot) .remoteRead 0 0 0 [(8, addr), (4, len), (1, if relaxed then 1 else 0)]) s) := by
  have hPass : Option.filter (fun w => w.canRead && apertureOpen (portAt s slot) w addr) (some y) = some y := by
    rw [Option.filter_some, hRead, hOpen]; rfl
  unfold execDriveMemoryRequest
  simp only [hUp, hWindow, hPass, Bool.not_true, Bool.false_eq_true, if_false]

/-- A write outside every window is counted and dropped. -/
theorem execDriveMemoryRequest_write {slot : Fin 24} {addr len : Nat} {relaxed : Bool} (hUp : (portAt s slot).linkUp = true)
    (hNone : windowOf (portAt s slot) addr len = none) :
    execDriveMemoryRequest slot addr len true relaxed s = .next (raise stDRV 3 slot (bumpFigure 0x06000020 1 s)) := by
  unfold execDriveMemoryRequest
  simp only [hUp, hNone]
  rfl

/-! Timeouts and links that go down (R426, R429, R431; 08 R213) -/

theorem execDriveTimeout_confirmed {slot : Fin 24} {tag : Nat} {c : DriveCmd}
    (hFound : (portAt s slot).cmds.find? (fun y => y.tag == tag && !y.queued) = some c) (hDue : confirmed s c.issued c.timeout = true) :
    execDriveTimeout slot tag s = .next (timeoutCmd slot c s) := by
  unfold execDriveTimeout
  simp only [hFound, if_pos hDue]

theorem execConfigReadTimeout_confirmed {slot : Fin 24} {num : Nat} {x : Nat × Nat}
    (hFound : (portAt s slot).cfgReads.find? (fun y => y.1 == num) = some x) (hDue : confirmed s x.2 (pDrvCplTimeout s * usU) = true) :
    execConfigReadTimeout slot num s =
      .next (timeoutStrike slot (putPort slot { portAt s slot with cfgReads := (portAt s slot).cfgReads.erase x } s)) := by
  unfold execConfigReadTimeout
  simp only [hFound, hDue]
  rfl

/-- Counting the link that went down leaves the channel of the slot, so the reset follows what stood there before. -/
theorem execDriveLinkDown_present {slot : Fin 24} (hUp : (portAt s slot).linkUp = true) (hPresent : (feedAt s (.slot slot)).present = true) :
    execDriveLinkDown slot false s = .next (resetPort slot (putMember
      slot { memberAt s slot with downSince := (memberAt s slot).downSince.or (some (mono s)) }
      (putPort slot { portAt s slot with downs := min 255 ((portAt s slot).downs + 1) } s))) := by
  have hRuns : ¬ (!(portAt s slot).linkUp) = true := by rw [hUp]; decide
  exact (if_neg hRuns).trans (congrArg Host.Outcome.next (if_pos hPresent))

theorem execDriveLinkDownTimeout_confirmed {slot : Fin 24} {n : Nat} (hSince : (memberAt s slot).downSince = some n)
    (hDown : (portAt s slot).linkUp = false) (hDue : confirmed s n secU = true) :
    execDriveLinkDownTimeout slot s = .next (failMember slot s) := by
  unfold execDriveLinkDownTimeout
  simp only [hSince, hDown, hDue]
  rfl

/-! The service endpoint (R433, R436, R437) -/

theorem execSepLinkUp_enabled {rate width : Nat} (hCtrl : pSepCtrl s = 1) (hOn : s.pwr.socOn = true) :
    execSepLinkUp rate width s = .next { s with sep := { s.sep with linkUp := true, rate := rate % 8, width := width % 8 } } :=
  congrArg Host.Outcome.next (if_pos ⟨hCtrl, hOn⟩)

theorem execBusMasterEnable_set (hUp : s.sep.linkUp = true) :
    execBusMasterEnable true s = .next (s.sep.pending.foldl (fun acc v => msix v acc)
      { s with sep := { s.sep with master := true, msixOn := true, pending := [] } }) := by
  unfold execBusMasterEnable
  simp only [hUp, Bool.or_true]
  rfl

theorem execBusMasterEnable_clear (hUp : s.sep.linkUp = true) :
    execBusMasterEnable false s = .next { s with sep := { s.sep with master := false } } := by
  unfold execBusMasterEnable
  simp only [hUp, Bool.or_false]
  rfl

/-- From `s` to `t` the endpoint is as it was but for the vectors that wait. -/
def VectorsOnly (t s : State) : Prop := ∃ v, t.sep = { s.sep with pending := v }

theorem VectorsOnly.trans (h : VectorsOnly t r) (k : VectorsOnly r s) : VectorsOnly t s := by
  obtain ⟨v, e⟩ := h
  obtain ⟨_, e'⟩ := k
  exact ⟨v, by rw [e, e']⟩

theorem Frame.vectorsOnly {w : Nat} (h : Frame w t s) (k : w.testBit 26 = false) : VectorsOnly t s := ⟨_, h.sep k⟩

theorem VectorsOnly.ite {c : Prop} [Decidable c] (h : VectorsOnly t s) (k : VectorsOnly r s) : VectorsOnly (if c then t else r) s := by
  split <;> assumption

/-- A vector leaves or waits (R436). -/
theorem msix_vectorsOnly {v : Nat} : VectorsOnly (msix v s) s := .ite (t := { s with out := _ }) ⟨_, rfl⟩ ⟨_, rfl⟩

/-- An event changes of the endpoint only which vectors wait (R436; 23 R532). -/
theorem placeEvent_vectorsOnly {num : Nat} {d : Flds} {i : State → EvRing → List Nat} : VectorsOnly (placeEvent num d i s) s := by
  have placed {n : Nat} {x : Flds} {j : EvRing → List Nat} {z : State} : VectorsOnly (placeAll z n x j).1 z := placeAll_frame.vectorsOnly rfl
  have marked {a b : Nat} {z : State} : VectorsOnly (orStatus a b z) z := orStatus_frame.vectorsOnly rfl
  have signalled {b : Bool} {n : Nat} : VectorsOnly (if b then msix n (placeAll s num d (i s)).1 else (placeAll s num d (i s)).1) s :=
    .ite (msix_vectorsOnly.trans placed) placed
  unfold placeEvent
  dsimp only
  refine .ite ?kept (placed.trans (marked.trans ((bumpFigure_frame.vectorsOnly rfl).trans ?lost)))
  case kept => exact .ite (placed.trans (marked.trans signalled)) signalled
  case lost => exact .ite (placed.trans (marked.trans signalled)) signalled

theorem raise_vectorsOnly {a b i : Nat} : VectorsOnly (raise a b i s) s := placeEvent_vectorsOnly.trans (orStatus_frame.vectorsOnly rfl)

/-- A connection over the endpoint has no session to close with it (19 R463). -/
theorem closeConns_endpoint_frame : Frame 292594712640 (closeConns (fun c => c.path == .endpoint) s) s :=
  List.foldlRecOn _ _ (motive := fun z => Frame 292594712640 z s) .refl fun z hz c hc => by
    have hPath : c.path = .endpoint := eq_of_beq (List.mem_filter.mp hc).2
    rw [hPath]
    exact closeConn_frame.trans hz

/-- The endpoint at reset values, its connections closed and its rings cleared, and the reset counted: all that stands before the event (R437). -/
theorem resetEndpoint_cleared : ∃ z, resetEndpoint s = raise stSEP 0 noInst z ∧
    z.sep = State.reset.sep ∧
    figure z 0x07000010 = min 0xFFFFFFFF (figure s 0x07000010 + 1) := by
  have hCount : figure (if s.sep.linkUp then raise stSEP 3 noInst s else s) 0x07000010 = figure s 0x07000010 :=
    figure_ite (figure_raise (by decide)) rfl
  exact ⟨_, rfl, closeConns_endpoint_frame.sep rfl, (figure_bumpFigure Nat.one_pos).trans
    (congrArg (fun n => min 0xFFFFFFFF (n + 1)) ((closeConns_endpoint_frame.figure rfl).trans hCount))⟩

/-- The event leaves the endpoint cleared (R437). -/
theorem resetEndpoint_off : (resetEndpoint s).sep.linkUp = false ∧ (resetEndpoint s).sep.master = false ∧ (resetEndpoint s).sep.msixOn = false ∧
    (resetEndpoint s).sep.masked = [] ∧ figure (resetEndpoint s) 0x07000010 = min 0xFFFFFFFF (figure s 0x07000010 + 1) := by
  obtain ⟨z, e, hSep, hCount⟩ := resetEndpoint_cleared (s := s)
  obtain ⟨v, hEvent⟩ := raise_vectorsOnly (s := z) (a := stSEP) (b := 0) (i := noInst)
  rw [e, hEvent, hSep]
  exact ⟨rfl, rfl, rfl, rfl, (figure_raise (by decide)).trans hCount⟩

end
end Machine

open Machine

/-- Settles O40: each event takes the branch that its conditions choose; the port and the member of a link that trains are what it writes last to
each, and the reset's own event changes of the cleared endpoint only which vectors wait. -/
theorem drivePortEventsComplete : Obligations.DrivePortEventsComplete := by
  unfold Obligations.DrivePortEventsComplete
  refine ⟨?linkUp, ?stepTimeout, ?read, ?write, fun slot s => rfl, fun slot s => rfl, ?timeout, fun slot tag s => rfl, ?configRead, ?linkDown,
    ?pulseEnd, ?downTimeout, ?sepUp, fun s => ⟨_, rfl, resetEndpoint_off⟩, fun s => execBusMasterEnable_set, fun s => execBusMasterEnable_clear⟩
  case linkUp =>
    intro slot rate width n d s hStep hPin hNvme hReady
    exact ⟨_, execDriveLinkUp_notReady hStep hPin hNvme hReady, awaitReady_linkTrained⟩
  case stepTimeout => exact fun slot k s => execDiscoveryStepTimeout_due
  case read => exact fun slot addr len relaxed y s => execDriveMemoryRequest_read
  case write => exact fun slot addr len relaxed s => execDriveMemoryRequest_write
  case timeout => exact fun slot tag c s => execDriveTimeout_confirmed
  case configRead => exact fun slot num x s => execConfigReadTimeout_confirmed
  case linkDown => exact fun slot s => execDriveLinkDown_present
  case pulseEnd => exact fun slot n s => execPerstPulseEnd_confirmed
  case downTimeout => exact fun slot n s => execDriveLinkDownTimeout_confirmed
  case sepUp => exact fun rate width s => execSepLinkUp_enabled

end Sys2Proof
end

section
/-!
PROOFS. The lanyard's events, its readers and the certification of its key (09 R240, R243 to R246, R253 to R256). A reading command changes nothing and
asks no drive, so it answers in any power state; the walk of a disclosure may bring a partition up to date, which leaves every way as it
stands; all that follows a certification, checkpoints and receipts among it, signs with the key and leaves it certified.
-/
namespace Sys2Proof
namespace Machine

section
variable {s : State} {c : Call} {x : Conn}

/-! Events (R246, R253; 15 R386) -/

theorem execReceiptBatchClose_open {tenant : Nat} (hOpen : quietOf s tenant = none) :
    execReceiptBatchClose tenant s = .next { s with fix := { s.fix with
      batches := mapIf (fun b => b.tenant == tenant && !b.closed && confirmed s b.first (pIdxReceiptBatch s * usU)) (shutBatch s)
        s.fix.batches } } := by
  have hQuiet : ¬ (quietOf s tenant).isSome = true := by rw [hOpen]; exact Bool.false_ne_true
  exact congrArg Host.Outcome.next (if_neg hQuiet)

theorem execReceiptBatchSigned_picked {tenant : Nat} {p : Batch × Nat × List Flow} (hPick : signPick s = some p) (hTenant : p.1.tenant = tenant)
    (hReady : custodyReady s = true) :
    execReceiptBatchSigned tenant s = .next (signBatch p.1 { s with sch := { s.sch with signV := p.2.1, signFlows := p.2.2 } }) := by
  unfold execReceiptBatchSigned
  simp only [hPick, hReady, hTenant, beq_self_eq_true, Bool.and_self, if_true]

theorem execLanyardCheckpoint_due (hDue : confirmed s s.fix.lastCkpt (pIdxCkptInterval s * secU) = true) :
    execLanyardCheckpoint s = .next (signCheckpoint s) := congrArg Host.Outcome.next (if_pos hDue)

/-! Reading (R254 to R256). The checks of a command leave all that its rules read. -/

theorem afterConn_who : (afterConn s x).who = x.who := rfl

theorem lanyardAt_afterChecks {id : Digest} : lanyardAt (afterChecks s c x) id = lanyardAt s id :=
  afterChecks_same (fun z => lanyardAt z id) fun _ => rfl

theorem chainEpoch_afterChecks {chain : Nat} : chainEpoch (afterChecks s c x) chain = chainEpoch s chain :=
  afterChecks_same (fun z => chainEpoch z chain) fun _ => rfl

theorem readEpoch_afterChecks {p : Principal} {l : Lanyard} {chain : Nat} : readEpoch (afterChecks s c x) p l chain = readEpoch s p l chain :=
  afterChecks_same (fun z => readEpoch z p l chain) fun _ => rfl

theorem exportFrames_afterChecks {p : Principal} {l : Lanyard} : exportFrames (afterChecks s c x) p l = exportFrames s p l :=
  afterChecks_same (fun z => exportFrames z p l) fun _ => rfl

/-- A checked command whose rules only answer asks no drive, so it answers in any power state. -/
theorem mailboxCmd_replies {op st : Nat} {b : Flds} {n : Names} {allow : Principal → Bool} {act : Conn → State → State}
    (k : Checked s c op allow x) (h : act (afterConn s x) (afterChecks s c x) = reply c op st b (afterChecks s c x)) :
    mailboxCmd c op n allow act s = reply c op st b (afterChecks s c x) :=
  (mailboxCmd_quiet k (h ▸ reply_frame.drv rfl)).trans h

/-- A position from 1 up to a chain's length is one of its positions. -/
theorem position_of_chain {pos : Word64} {n : Nat} (hPos : pos ≠ 0) (hLast : pos.toNat ≤ n) : ¬ (pos.toNat = 0 ∨ n < pos.toNat) := by
  have hNat : pos.toNat ≠ 0 := fun e => hPos (BitVec.eq_of_toNat_eq e)
  omega

theorem execLanyardRead_answers {id : Digest} {chain : Word16} {first : Word64} {count : Word32} {l : Lanyard}
    (k : Checked s c 0x0701 readsLanyard x) (hMay : mayReadChain x.who chain.toNat = true) (hAt : lanyardAt s id = some l) (hFirst : first ≠ 0)
    (hLast : first.toNat ≤ (chainEntries l chain.toNat (readEpoch s x.who l chain.toNat)).length) :
    execLanyardRead c id chain first count s = .next (reply c 0x0701 sOk (fitting maxResponse ((((chainEntries l chain.toNat
      (readEpoch s x.who l chain.toNat)).drop (first.toNat - 1)).take count.toNat).map entryFull)).flatten (afterChecks s c x)) := by
  refine congrArg Host.Outcome.next (mailboxCmd_replies k ?_)
  simp only [afterConn_who, hMay, lanyardAt_afterChecks, hAt, readEpoch_afterChecks, position_of_chain hFirst hLast, Bool.not_true,
    Bool.false_eq_true, if_false]

theorem execLanyardProof_answers {id : Digest} {chain : Word16} {number : Word64} {y : Checkpoint} (k : Checked s c 0x0702 readsLanyard x)
    (hMay : mayReadChain x.who chain.toNat = true) (hChain : chain.toNat ≤ 4096)
    (hFind : (lanyardAt s id).bind (fun l => l.checkpoints.find? (fun z => z.number == number.toNat)) = some y)
    (hOwn : (x.who.tenant?.isSome && y.heads.any (fun h => h.1 == chain.toNat && h.2.1 != chainEpoch s chain.toNat)) = false) :
    execLanyardProof c id chain number s = .next (reply c 0x0702 sOk (checkpointFlds y ++ leafFlds y chain.toNat ++ hashPath (headLeaf
      y.heads) chain.toNat 13) (afterChecks s c x)) := by
  refine congrArg Host.Outcome.next (mailboxCmd_replies k ?_)
  simp only [afterConn_who, hMay, Nat.not_lt.mpr hChain, lanyardAt_afterChecks, hFind, chainEpoch_afterChecks, hOwn, Bool.not_true,
    Bool.false_eq_true, if_false]

theorem execLanyardExport_answers {id : Digest} {cursor : Word64} {l : Lanyard} (k : Checked s c 0x0703 readsLanyard x)
    (hAt : lanyardAt s id = some l) :
    execLanyardExport c id cursor s = .next (reply c 0x0703 sOk
      ((fitting (maxResponse - 8) ((exportFrames s x.who l).drop cursor.toNat)).flatten ++ [(8,
      cursor.toNat + (fitting (maxResponse - 8) ((exportFrames s x.who l).drop cursor.toNat)).length)]) (afterChecks s c x)) := by
  refine congrArg Host.Outcome.next (mailboxCmd_replies k ?_)
  simp only [afterConn_who, lanyardAt_afterChecks, hAt, exportFrames_afterChecks]

theorem execReceiptRead_signed {id : Digest} {chain : Word16} {pos : Word64} {l : Lanyard} {r : Receipt} (k : Checked s c 0x0704 readsLanyard x)
    (hMay : mayReadChain x.who chain.toNat = true) (hAt : lanyardAt s id = some l) (hPos : pos ≠ 0)
    (hLast : pos.toNat ≤ (chainEntries l chain.toNat (readEpoch s x.who l chain.toNat)).length)
    (hReceipt : receiptAt l chain.toNat (readEpoch s x.who l chain.toNat) pos.toNat = some r) (hSigned : r.signed = true) :
    execReceiptRead c id chain pos s = .next (reply c 0x0704 sOk (receiptFlds l r) (afterChecks s c x)) := by
  refine congrArg Host.Outcome.next (mailboxCmd_replies k ?_)
  simp only [afterConn_who, hMay, lanyardAt_afterChecks, hAt, readEpoch_afterChecks, position_of_chain hPos hLast, hReceipt, hSigned,
    Bool.not_true, Bool.false_eq_true, if_false, if_true]

/-! Disclosure (R240): its walk leaves the pair's mode (06 R156, R170) -/

theorem endFlush_mode {shard part : Nat} {f : FlushState} : (endFlush shard part f s).pair.mode = s.pair.mode := by
  have told {root gen : Nat} {covered : CStamp} {z : State} :
      (tellRoot shard part root gen covered (retireDelta shard part covered z)).pair.mode = z.pair.mode :=
    (tellRoot_frame.mode rfl).trans retireShard_mode
  have freed {covered : CStamp} {commits : List Nat} {p : Partition} :
      (releasePages (freeInline shard part covered (killRecs commits (putPart p s)))).pair.mode = s.pair.mode :=
    (releasePages_frame.mode rfl).trans ((freeInline_frame.mode rfl).trans ((killRecs_frame.mode rfl).trans (putPart_frame.mode rfl)))
  unfold endFlush
  dsimp only
  split
  · exact startFlush_mode.trans (told.trans freed)
  · exact told.trans freed

theorem recoverPart_mode {shard num : Nat} : (recoverPart shard num s).pair.mode = s.pair.mode := by
  unfold recoverPart
  dsimp only
  split
  · rfl
  · split
    · split
      · exact endFlush_mode.trans (putPart_frame.mode rfl)
      · exact dropFlush_frame.mode rfl
    · exact putPart_frame.mode rfl

theorem walkTo_mode {shard tenant num coll : Nat} {mac : Digest} : (walkTo shard tenant num coll mac s).pair.mode = s.pair.mode := by
  unfold walkTo walkPast
  dsimp only
  split
  · exact (noteWalk_frame.mode rfl).trans recoverPart_mode
  · exact (foldl_mode fun _ _ => takePage_frame.mode rfl).trans ((noteWalk_frame.mode rfl).trans recoverPart_mode)

/-- A walk leaves every way as it stands. -/
theorem Reachable.walkTo {shard tenant num coll n : Nat} {mac : Digest} (h : Reachable s n) : Reachable (walkTo shard tenant num coll mac s) n :=
  h.congr (walkTo_frame.trn rfl) (walkTo_frame.mbx rfl) (walkTo_frame.pwr rfl) walkTo_mode

/-- The state in which FIXITY_DISCLOSE answers: its walk to the object has ended. -/
def disclosed (k : Coll) (mac : Digest) (o : Obj) (s : State) : State :=
  walkEnded k mac (some o) (walkTo k.shard k.tenant (macPart mac) k.num mac s)

theorem Reachable.disclosed {k : Coll} {mac : Digest} {o : Obj} {n : Nat} (h : Reachable s n) : Reachable (disclosed k mac o s) n :=
  h.walkTo.of_frame walkEnded_frame rfl rfl rfl rfl

/-- The body that discloses a sealed object's fixity (R240). -/
def whipFlds (w : Whip) : Flds := [(32, w.salt.toNat), (8, w.size), (32, w.sha2.toNat), (32, w.sha3.toNat)]

theorem collAt_num {n : Nat} {k : Coll} (h : collAt s n = some k) : k.num = n := by
  unfold collAt at h
  simpa using List.find?_some h

theorem execFixityDisclose_sealed {coll : Word16} {mac : Digest} {k : Coll} {o : Obj} {w : Whip} (h : Checked s c 0x0706 isTenant x)
    (hColl : collAt s coll.toNat = some k) (hTenant : x.who.tenant? = some k.tenant) (hActive : k.state = .active)
    (hKey : keyHeld s k.tenant = true) (hObj : objAt s coll.toNat mac = some o) (hSealed : o.whip = some w) (up : s.pst.drivesDown = false) :
    ∃ t, execFixityDisclose c coll mac s = .next t ∧ Acted t (reply c 0x0706 sOk (whipFlds w) (disclosed k mac o (afterChecks s c x))) := by
  have hNum := collAt_num hColl
  have hColl := (afterChecks_same (c := c) (x := x) (fun z => collAt z coll.toNat) fun _ => rfl).trans hColl
  have hKey := (afterChecks_same (c := c) (x := x) (fun z => keyHeld z k.tenant) fun _ => rfl).trans hKey
  have hObj := (afterChecks_same (c := c) (x := x) (fun z => objAt z coll.toNat mac) fun _ => rfl).trans hObj
  refine ⟨_, rfl, (mailboxCmd_acted h up).of_eq ?_⟩
  simp only [afterConn_who, hColl, Option.filter_some, hTenant, hActive, beq_self_eq_true, Bool.and_self, if_true, hKey, hObj, hSealed,
    Option.bind_some, Bool.not_true, Bool.false_eq_true, if_false, disclosed, hNum, whipFlds]

/-! Certification (R243, R244): no later step takes it back -/

theorem Frame.certified {w : Nat} {t : State} (h : Frame w t s) (k : w.testBit 15 = false) : t.fix.certified = s.fix.certified :=
  congrArg (fun y => y.2.1) (h.chains k)

theorem enter_certified {chain type : Nat} {stamp : CStamp} {body : Flds} : (enter chain type stamp body s).fix.certified = s.fix.certified := by
  unfold enter appendEntry
  split
  · rfl
  · exact lanyardRecord_frame.certified rfl

theorem signCheckpoint_certified : (signCheckpoint s).fix.certified = s.fix.certified := by
  unfold signCheckpoint
  split
  · rfl
  · split
    · rfl
    · extract_lets _ _ _ _ s2
      have raised : s2.fix.certified = s.fix.certified := by
        unfold s2
        split
        · exact raise_frame.certified rfl
        · rfl
      split
      · exact raised
      · exact (lanyardRecord_frame.certified rfl).trans raised

theorem reformReceipts_certified : (reformReceipts s).fix.certified = s.fix.certified := by
  unfold reformReceipts
  split <;> rfl

theorem quorumDone_certified {q : QCtx} {chain : Nat} {stamp : CStamp} : (quorumDone q chain stamp s).fix.certified = s.fix.certified :=
  (raiseEvent_frame.certified rfl).trans (signCheckpoint_certified.trans enter_certified)

/-- The key's certificate is kept, and receipts left unsigned join new batches (R243, R558). -/
def keyCertified (cert : Cert) (s : State) : State :=
  touch .custodyKey (reformReceipts { s with fix := { s.fix with certified := true, certs := s.fix.certs ++ [cert] } })

/-- What waited for a certified key is signed, ended and answered (R244, R255, R558). -/
def caughtUp (s : State) : State := answerWaiting (endOwed (if s.fix.deferred then signCheckpoint s else s))

theorem keyCertified_certified {cert : Cert} : (keyCertified cert s).fix.certified = true := (touch_frame.certified rfl).trans reformReceipts_certified

theorem caughtUp_certified : (caughtUp s).fix.certified = s.fix.certified := by
  have signed : (if s.fix.deferred then signCheckpoint s else s).fix.certified = s.fix.certified := by
    split
    · exact signCheckpoint_certified
    · rfl
  exact (answerWaiting_frame.certified rfl).trans signed

/-- A certificate that matches the custody key is kept and answered whole. -/
theorem actCustodyCertify_matches {k : CertBody} {q : QCtx} (hVersion : k.version = 1) (hEpoch : s.fix.epoch ≠ 0)
    (hMatches : certMatches s k = true) : ∃ cert, actCustodyCertify k q s =
      qReply q sOk (certFlds cert) (quorumDone q shelfChain noStamp (caughtUp (keyCertified cert s))) := by
  have hAgrees : ¬ (s.fix.epoch = 0 ∨ (!certMatches s k) = true) := by
    rw [hMatches]
    exact fun h => h.elim hEpoch Bool.false_ne_true
  exact ⟨_, (if_neg (not_not.mpr hVersion)).trans (if_neg hAgrees)⟩

theorem actCustodyCertify_certified {k : CertBody} {q : QCtx} (hVersion : k.version = 1) (hEpoch : s.fix.epoch ≠ 0)
    (hMatches : certMatches s k = true) : (actCustodyCertify k q s).fix.certified = true := by
  obtain ⟨cert, e⟩ := actCustodyCertify_matches (q := q) hVersion hEpoch hMatches
  rw [e]
  exact (qReply_frame.certified rfl).trans (quorumDone_certified.trans (caughtUp_certified.trans keyCertified_certified))

theorem certMatches_of {k : CertBody} (hEpoch : k.epoch.toNat = s.fix.epoch) (hModule : k.module = Config.moduleDigest)
    (hPrevious : k.previous = previousKey s) (hKey : k.key = custodyKeyNow s) : certMatches s k = true := by
  unfold certMatches
  simp only [hEpoch, hModule, hPrevious, hKey, beq_self_eq_true, Bool.and_self]

/-- The checks of a quorum act and the close of its ceremony leave the lanyard. -/
theorem fix_actState {id : Digest} : (closeCeremony id (afterChecks s c x)).fix = s.fix := by
  obtain ⟨k, o, e⟩ := actState_eq s c x id
  rw [e]

end

end Machine

open Machine

/-- Settles O26: each event takes the branch its conditions choose, a reading command only answers, the walk of a disclosure leaves its answer's way
open, and what a certification brings with it keeps the key certified. -/
theorem lanyardCommandsComplete : Obligations.LanyardCommandsComplete := by
  unfold Obligations.LanyardCommandsComplete
  refine ⟨fun tenant s => execReceiptBatchClose_open, fun tenant p s => execReceiptBatchSigned_picked, fun s => execLanyardCheckpoint_due,
    fun c id chain first count l x s => execLanyardRead_answers, fun c id chain number k x s => execLanyardProof_answers,
    fun c id cursor l x s => execLanyardExport_answers, fun c id chain pos l r x s => execReceiptRead_signed, ?disclose, ?certify⟩
  case disclose =>
    intro c coll mac k o y x s h hColl hTenant hActive hKey hObj hSealed up
    obtain ⟨t, e, acted⟩ := execFixityDisclose_sealed h hColl hTenant hActive hKey hObj hSealed up
    exact ⟨t, e, acted.answers (reachable_afterChecks h).disclosed.answers⟩
  case certify =>
    intro c id cert x m s h q hVersion hOpen hEpoch hModule hPrevious hKey _ up
    refine ⟨_, rfl, ?_⟩
    show (quorumCmd ..).fix.certified = true
    rw [(quorumCmd_acted h q up).fix]
    refine actCustodyCertify_certified hVersion ?_ (certMatches_of ?_ hModule ?_ ?_)
    · rwa [fix_actState]
    · rwa [fix_actState]
    · rw [hPrevious]; unfold previousKey; rw [fix_actState]
    · rw [hKey]; unfold custodyKeyNow; rw [fix_actState]

end Sys2Proof
end

section
/-!
PROOFS. The Myavo messages that move objects (11 R287 to R292, R295). A message that is taken runs its rules on the hitch that has heard it, by
`myavoIn_taken`; hearing it leaves the objects, so the collection, the tenant and the name that a message's conditions read stand for its rules
as they stood before it.
-/
namespace Sys2Proof
namespace Machine

section
variable {s : State}

/-- Hearing a message leaves the tenants, collections, objects and locks. -/
theorem heardOf_obj {m : Myavo} {h : Hitch} : (heardOf s m h).obj = s.obj := tellSeq_frame.obj rfl

theorem collAt_heardOf {m : Myavo} {h : Hitch} : collAt (heardOf s m h) = collAt s := by
  unfold collAt; rw [heardOf_obj]

theorem tenantAt_heardOf {m : Myavo} {h : Hitch} {n : Nat} : tenantAt (heardOf s m h) n = tenantAt s n := by
  unfold tenantAt; rw [heardOf_obj]

theorem objAt_heardOf {m : Myavo} {h : Hitch} {n : Nat} {mac : Digest} : objAt (heardOf s m h) n mac = objAt s n mac := by
  unfold objAt; rw [heardOf_obj]

/-! OBJ_BEGIN (R287, R290) -/

/-- What an OBJ_BEGIN announces, with nothing of it arrived yet and fate 0: it is to be created (R290). -/
def begunArrival (b : ObjBegin) (mac : Digest) : Arrival :=
  { stream := b.stream, begin_ := b, mac := mac, part := [], fate := 0, excerpts := [], rows := [] }

/-- The hitch keeps an arrival in place of any other on its stream. -/
def keepArrival (id : BitVec 128) (a : Arrival) (s : State) : State :=
  mapHitch id (fun y => { y with arrivals := dropIf (fun z => z.stream == a.stream) y.arrivals ++ [a] }) s

/-- The open object of an arrival is sequenced at its collection's shard and recorded (R290). -/
def openArrival (k : Coll) (b : ObjBegin) (mac : Digest) (s : State) : State :=
  recordObj k (arrivalOpen b mac s).1 (sequence k.shard (arrivalOpen b mac s).2).1 (sequence k.shard (arrivalOpen b mac s).2).2

/-- A name that nothing holds is to be created (R290). -/
theorem arrivalFate_free {h : Hitch} {b : ObjBegin} {mac : Digest} (hFree : objAt s b.dstColl mac = none) : arrivalFate s h b mac = 0 := by
  unfold arrivalFate; rw [hFree]

/-- An OBJ_BEGIN within its limits for a free name opens the object (R287, R290). -/
theorem objBeginAct_opens {b : ObjBegin} {k : Coll} {v : Tenant} {root : BitVec 512} {h : Hitch} (hTarget : h.source = false)
    (hState : h.state = .streaming) (hLocks : b.locks.length ≤ 17) (hExcerpts : b.excerpts ≤ 64)
    (hMapped : h.collMap.any (fun y => y == (b.srcColl, b.dstColl)) = true) (hStream : b.stream ≠ 0)
    (hStreams : b.stream ≤ h.record.streams.toNat) (hColl : collAt s b.dstColl = some k) (hTenant : tenantAt s k.tenant = some v)
    (hRoot : v.root = some root) (hFree : objAt s b.dstColl (nameMac root b.name) = none) :
    objBeginAct b h s =
      openArrival k b (nameMac root b.name) (keepArrival h.record.id (begunArrival b (nameMac root b.name)) s) := by
  have within : ¬ (17 < b.locks.length ∨ 64 < b.excerpts) := by omega
  have formed : ¬ ((!h.collMap.any (fun y => y == (b.srcColl, b.dstColl))) = true ∨ b.stream = 0 ∨ h.record.streams.toNat < b.stream) := by
    simp only [hMapped, Bool.not_true, Bool.false_eq_true, false_or]
    omega
  unfold objBeginAct
  simp only [hTarget, hState, bne_self_eq_false, Bool.or_self, Bool.false_eq_true, if_false, if_neg within, if_neg formed, hColl, hTenant,
    Option.bind_some, hRoot, arrivalFate_free hFree, if_true]
  rfl

/-! OBJ_DATA and OBJ_ABORT (R288 to R290) -/

/-- Committing a part does not change what becomes of its object. -/
theorem arrivalPart_fate {a : Arrival} {part : Nat} : (arrivalPart a part s).1.fate = a.fate := by
  unfold arrivalPart
  cases arrivalObj s a <;> rfl

/-- The state in which a slot of a stream has landed (R288). -/
def landSlot (id : BitVec 128) (stream slot : Nat) (s : State) : State :=
  mapHitch id (fun y => { y with landed := y.landed ++ [(stream, slot)] }) s

section
variable {stream slot part : Nat} {data : Bytes} {a : Arrival} {h : Hitch} (hTarget : h.source = false) (hState : h.state = .streaming)
  (hStream : stream ≠ 0) (hSlot : slot < 256) (hOn : arrivalOn h stream = some a) (hFate : a.fate = 0)
include hTarget hState hStream hSlot hOn hFate

/-- Data of an object to be created joins the part in hand. -/
theorem objDataAct_joins :
    objDataAct stream slot part false false data h s =
      putArrival h.record.id { a with part := a.part ++ data } (landSlot h.record.id stream slot s) := by
  unfold objDataAct
  simp only [hTarget, hState, hStream, decide_eq_false (Nat.not_le.mpr hSlot), hOn, hFate, bne_self_eq_false, decide_false, Bool.or_self,
    Bool.false_and, Bool.not_false, Bool.false_eq_true, if_false, if_true]
  rfl

/-- The last data of an object to be created commits its part, and the object is whipped. -/
theorem objDataAct_whips :
    objDataAct stream slot part true true data h s =
      whipArrival h.record.id (arrivalPart { a with part := a.part ++ data } part (landSlot h.record.id stream slot s)).1
        (putArrival h.record.id (arrivalPart { a with part := a.part ++ data } part (landSlot h.record.id stream slot s)).1
          (arrivalPart { a with part := a.part ++ data } part (landSlot h.record.id stream slot s)).2) := by
  unfold objDataAct
  simp only [hTarget, hState, hStream, decide_eq_false (Nat.not_le.mpr hSlot), hOn, hFate, arrivalPart_fate, bne_self_eq_false, beq_self_eq_true,
    decide_false, Bool.or_self, Bool.and_self, Bool.not_true, Bool.false_eq_true, if_false, if_true]
  rfl

end

/-- An OBJ_ABORT ends the arrival on its stream, and no object of it is left (R290). -/
theorem objAbortAct_ends {stream cause : Nat} {a : Arrival} {h : Hitch} (hTarget : h.source = false) (hOn : arrivalOn h stream = some a) :
    objAbortAct stream cause h s = endArrival h.record.id a (arrivalLine a (if cause = 1 then 3 else 6)) (undoArrival a s) := by
  unfold objAbortAct
  simp only [hTarget, hOn, Bool.false_eq_true, if_false]

/-! Excerpts, checkpoints and credit (R288, R295) -/

theorem excerptAct_joins {chain position : Nat} {entry : Bytes} {a : Arrival} {h : Hitch}
    (hLatest : (h.arrivals.filter (fun y => decide (y.excerpts.length < y.begin_.excerpts))).getLast? = some a) :
    excerptAct chain position entry h s = putArrival h.record.id { a with excerpts := a.excerpts ++ [(chain, position, entry)] } s := by
  unfold excerptAct
  simp only [hLatest]

theorem checkpointAct_target {bytes : Bytes} {h : Hitch} (hTarget : h.source = false) :
    checkpointAct bytes h s = enter shelfChain 0x0063 noStamp [(16, h.record.id.toNat), (bytes.length, leValue bytes)] s :=
  if_neg (by rw [hTarget]; exact Bool.false_ne_true)

/-- The slots of a stream that a bitmap grants (R288). -/
def slotsGranted (stream slots : Nat) : List (Nat × Nat) := ((List.range 256).filter (fun k => slots.testBit k)).map (fun k => (stream, k))

theorem creditAct_source {stream slots : Nat} {h : Hitch} (hSource : h.source = true) :
    creditAct stream slots h s = kickStream h.record.id stream (mapHitch h.record.id
      (fun y => { y with credits := y.credits ++ (slotsGranted stream slots).filter (fun g => !y.credits.contains g) }) s) :=
  if_neg (by rw [hSource]; exact Bool.false_ne_true)

/-! Locks and deletions (R291, R292) -/

/-- A lock on a collection crosses to the collection that stands for it. -/
theorem lockUpdateAct_collection {srcColl : Nat} {lock : LockIn} {d : Coll} {h : Hitch} (hTarget : h.source = false)
    (hColl : (h.collMap.lookup srcColl).bind (collAt s) = some d) :
    lockUpdateAct srcColl none lock h s = setCrossed d 0 none lock s := by
  unfold lockUpdateAct
  simp only [hTarget, hColl, Bool.false_eq_true, if_false]

/-- The state in which the expiries that a deletion meets have been met (05 R142). -/
def expiriesMet (d : Coll) (o : Obj) (s : State) : State := meetExpiries d.num (some o.mac) (meetExpiries d.num none s)

section
variable {srcColl : Nat} {srcMac : Digest} {d : Coll} {o : Obj} {h : Hitch} (hTarget : h.source = false)
  (hCopy : crossedCopy s h srcColl srcMac = some (d, o))
include hTarget hCopy

/-- A copy that no lock in force binds goes, and the hitch forgets that it delivered it. -/
theorem deleteNoticeAct_deletes (hLock : lockRefusal (expiriesMet d o s) (bindingLocks (expiriesMet d o s) d.num o.mac) = none) :
    deleteNoticeAct srcColl srcMac h s = enter d.tenant 0x0066 noStamp [(1, 1), (7, 0), (32, srcMac.toNat), (32, o.mac.toNat)]
      (mapHitch h.record.id (fun y => { y with delivered := dropIf (fun e => e.1 == d.num && e.2.1 == o.mac) y.delivered })
        (deleteObj d o (sequence d.shard (expiriesMet d o s)).1 (sequence d.shard (expiriesMet d o s)).2).2) := by
  unfold expiriesMet at hLock ⊢
  unfold deleteNoticeAct
  simp only [hTarget, hCopy, hLock, Bool.false_eq_true, if_false]

/-- A copy that a lock in force binds stays. -/
theorem deleteNoticeAct_keeps
    (hLock : (lockRefusal (expiriesMet d o s) (bindingLocks (expiriesMet d o s) d.num o.mac)).isSome = true) :
    deleteNoticeAct srcColl srcMac h s = enter d.tenant 0x0066 noStamp [(1, 2), (7, 0), (32, srcMac.toNat), (32, o.mac.toNat)]
      (expiriesMet d o s) := by
  obtain ⟨r, refused⟩ := Option.isSome_iff_exists.mp hLock
  unfold expiriesMet at refused ⊢
  unfold deleteNoticeAct
  simp only [hTarget, hCopy, refused, Bool.false_eq_true, if_false]

end

end

end Machine

open Machine

/-- Settles O45: each message takes the branch of its rules that its conditions choose, on the objects that hearing it has left. -/
theorem hitchObjectMessagesComplete : Obligations.HitchObjectMessagesComplete := by
  unfold Obligations.HitchObjectMessagesComplete
  refine ⟨?begin_, ?data, ?lastData, ?abort_, ?excerpt, ?checkpoint, ?credit, ?lock, ?deleted, ?kept⟩
  case begin_ =>
    intro m b k v root c h s t hTarget hState hLocks hExcerpts hMapped hStream hStreams hColl hTenant hRoot hFree
    exact congrArg Host.Outcome.next ((myavoIn_taken t).trans (objBeginAct_opens (h := hearing s m h) hTarget hState hLocks hExcerpts hMapped
      hStream hStreams ((congrFun collAt_heardOf _).trans hColl) (tenantAt_heardOf.trans hTenant) hRoot (objAt_heardOf.trans hFree)))
  case data =>
    intro m slot part offset data a c h s t hTarget hState hStream hSlot hOn hFate
    exact congrArg Host.Outcome.next
      ((myavoIn_taken t).trans (objDataAct_joins (h := hearing s m h) hTarget hState hStream hSlot hOn hFate))
  case lastData =>
    intro m slot part offset data a c h s t hTarget hState hStream hSlot hOn hFate
    exact congrArg Host.Outcome.next
      ((myavoIn_taken t).trans (objDataAct_whips (h := hearing s m h) hTarget hState hStream hSlot hOn hFate))
  case abort_ =>
    intro m cause a c h s t hTarget hOn
    exact congrArg Host.Outcome.next ((myavoIn_taken t).trans (objAbortAct_ends (h := hearing s m h) hTarget hOn))
  case excerpt =>
    intro m chain position entry a c h s t hLatest
    exact congrArg Host.Outcome.next ((myavoIn_taken t).trans (excerptAct_joins (h := hearing s m h) hLatest))
  case checkpoint =>
    intro m bytes c h s t hTarget
    exact congrArg Host.Outcome.next ((myavoIn_taken t).trans (checkpointAct_target (h := hearing s m h) hTarget))
  case credit =>
    intro m stream slots c h s t hSource
    exact congrArg Host.Outcome.next ((myavoIn_taken t).trans (creditAct_source (h := hearing s m h) hSource))
  case lock =>
    intro m srcColl lock d c h s t hTarget hColl
    have mapped : ((hearing s m h).collMap.lookup srcColl).bind (collAt (heardOf s m h)) = some d := by
      rwa [hearing_collMap, collAt_heardOf]
    exact congrArg Host.Outcome.next ((myavoIn_taken t).trans (lockUpdateAct_collection (h := hearing s m h) hTarget mapped))
  case deleted =>
    intro m srcColl srcMac d o c h s t hTarget hCopy hLock
    exact congrArg Host.Outcome.next ((myavoIn_taken t).trans (deleteNoticeAct_deletes (h := hearing s m h) hTarget hCopy hLock))
  case kept =>
    intro m srcColl srcMac d o c h s t hTarget hCopy hLock
    exact congrArg Host.Outcome.next ((myavoIn_taken t).trans (deleteNoticeAct_keeps (h := hearing s m h) hTarget hCopy hLock))

end Sys2Proof
end

section
/-!
PROOFS. The timers of a session (12 R317 to R319, R327, R333, Table 12.6; 15 R379). A timer acts where its session stands on-die with no packet
held, which `ctxTimer_runs` says once; then the timer's own condition chooses its branch.
-/
namespace Sys2Proof
namespace Machine

section
variable {s t : State} {n : Nat} {c : Ctx}

theorem ctxTimer_runs {act : Ctx → State → State} (h : TimerRuns s n c) : ctxTimer n act s = act c s := by
  obtain ⟨hAt, hOpen, hServing, hPlace, hHeld⟩ := h
  have found : (ctxAt s n).filter (fun x => !x.closing && serving s) = some c :=
    Option.filter_eq_some_iff.mpr ⟨hAt, by rw [hOpen, hServing]; rfl⟩
  unfold ctxTimer
  simp only [found, hPlace, hHeld, bne_self_eq_false, Bool.false_eq_true, if_false]

/-- A command whose whole meaning is a timer answers what the timer's act makes of the session that runs it. -/
theorem timer_answers {act : Ctx → State → State} (h : TimerRuns s n c) (e : act c s = t) :
    (.next (ctxTimer n act s) : Host.Outcome State Fault Refusal) = .next t :=
  congrArg Host.Outcome.next ((ctxTimer_runs h).trans e)

theorem execNakDelayTimer_due {seq : Nat} {m : InMsg} (h : TimerRuns s n c)
    (hDue : c.inMsgs.find? (fun x => x.seq == seq && x.whole.isNone && x.nakAt.any (fun y => decide (y + ackW c ≤ mono s))) = some m) :
    execNakDelayTimer n seq s = .next (mapIn n seq (fun x => { x with nakAt := none }) (sendNak n m s)) :=
  timer_answers h (by simp only [hDue])

theorem execRetransmitTimeout_due {r : Nat} (h : TimerRuns s n c) (hQp : isQp c = false) (hDue : c.rtoAt.any (fun x => confirmed s x 0) = true)
    (hTwice : r = min (c.set.rtoMax * usU) (2 * c.rto)) :
    execRetransmitTimeout n s = .next ((c.outMsgs.filter (fun o => !o.queued)).foldl (fun acc o => resend n o [(o.packets - 1, 1)] acc)
      (putCtx { c with rto := r, rtoAt := some (mono s + r) } s)) := by
  subst hTwice
  exact timer_answers h (if_pos (by rw [hQp, hDue]; rfl))

theorem execMessageAgeTimeout_due {seq : Nat} (h : TimerRuns s n c) (hQp : isQp c = false)
    (hAged : c.outMsgs.any (fun o => o.seq == seq && !o.queued && !o.statusAsked && confirmed s o.sentAt (freshW c)) = true) :
    execMessageAgeTimeout n seq s = .next (sendCtl n 4 [(4, seq), (4, 0)]
      (putCtx { c with outMsgs := mapIf (fun o => o.seq == seq) (fun o => { o with statusAsked := true }) c.outMsgs } s)) :=
  timer_answers h (if_pos (by rw [hQp, hAged]; rfl))

theorem execDeadTimeExpiry_silent (h : TimerRuns s n c) (hQp : isQp c = false) (hSent : c.outMsgs.any (fun o => !o.queued) = true)
    (hDead : confirmed s c.heard (deadW c) = true) :
    execDeadTimeExpiry n s = .next (closeCtx eSession n (raise stTRN 4 noInst s)) :=
  timer_answers h (if_pos (by rw [hQp, hSent, hDead]; rfl))

/-- The first change of phase comes at any time; a later one not within 2W of the last (R327). -/
theorem execKeyPhaseChange_due (h : TimerRuns s n c) (hQp : isQp c = false) (hDue : c.txPhase = 0 ∨ c.txSince + 2 * freshW c ≤ mono s) :
    execKeyPhaseChange n s = .next (mirrorCtx n c.gen (putCtx (advancePhase s c) s)) := by
  have past : (decide (0 < c.txPhase) && decide (mono s < c.txSince + 2 * freshW c)) = false := by
    rcases hDue with hFirst | hLater
    · rw [hFirst]; rfl
    · rw [decide_eq_false (Nat.not_lt.mpr hLater), Bool.and_false]
  exact timer_answers h (if_neg (by rw [hQp, past]; exact Bool.false_ne_true))

theorem execOldSaExpiry_due {o at_ : Nat} (h : TimerRuns s n c) (hOld : c.oldSpi = some (o, at_)) (hSet : 0 < at_)
    (hDue : confirmed s at_ 0 = true) :
    execOldSaExpiry n s = .next (putCtx { c with oldSpi := none, keys := { c.keys with prevEspRx := none },
                                                 espOld := { top := 0, seen := [] } } s) :=
  timer_answers h (if_pos (by rw [hOld, Option.any_some, hDue, decide_eq_true hSet]; rfl))

theorem execCnp_queuePair (hTaking : taking s = true) (hAt : ctxAt s n = some c) (hQp : isQp c = true) (hOpen : c.closing = false) :
    execCnp n s = .next (ccSignal n s) :=
  congrArg Host.Outcome.next (if_pos (by rw [hTaking, hAt, Option.any_some, hQp, hOpen]; rfl))

theorem execCcRecoverTimer_due (hAt : ctxAt s n = some c) (hOpen : c.closing = false) (hServing : serving s = true)
    (hHeld : packetHeld s n = false) (hDue : confirmed s c.rateAt (pSchCcRecover s * usU) = true) :
    execCcRecoverTimer n s = .next (putCtx { c with cc := ccNow s c, ccAt := refillsNow s,
                                                    rate := min (macRate s c.mac) (c.rate + pSchCcStep s), rateAt := mono s } s) := by
  have found : (ctxAt s n).filter (fun x => !x.closing && serving s && !packetHeld s n && confirmed s x.rateAt (pSchCcRecover s * usU)) = some c :=
    Option.filter_eq_some_iff.mpr ⟨hAt, by rw [hOpen, hServing, hHeld, hDue]; rfl⟩
  unfold execCcRecoverTimer
  simp only [found]

end

end Machine

open Machine

/-- Settles O54: a timer that runs acts on its session, and each timer's condition is that of the branch it takes. -/
theorem transportTimersComplete : Obligations.TransportTimersComplete := by
  unfold Obligations.TransportTimersComplete
  refine ⟨?ackDelay, fun n seq c m s => execNakDelayTimer_due, fun n c r s => execRetransmitTimeout_due,
    fun n seq c s => execMessageAgeTimeout_due, fun n c s => execDeadTimeExpiry_silent, fun n c s => execKeyPhaseChange_due, ?oldKey, ?rekey,
    fun n o at_ c s => execOldSaExpiry_due, ?roceAck, fun n c s => execCnp_queuePair, fun n c s => execCcRecoverTimer_due⟩
  case ackDelay => exact fun n c s h hDue => timer_answers h (if_pos hDue)
  case oldKey => exact fun n c s h hDue => timer_answers h (if_pos hDue)
  case rekey => exact fun n c s h hKind => timer_answers h (if_pos (beq_iff_eq.mpr hKind))
  case roceAck => exact fun n c s h hQp hDue => timer_answers h (if_pos (by rw [hQp, hDue]; rfl))

end Sys2Proof
end

section
/-!
PROOFS. Delivery and the context store (12 R305 to R307, R314, R315, R321; 13 R343, R346). Every opcode is delivered by one operation, so
`deliver_turn` says what a whole message at its turn does, and an opcode only adds what its own act does with the message.
-/
namespace Sys2Proof
namespace Machine

section
variable {s t : State} {n seq op : Nat} {c : Ctx} {m : InMsg}

theorem deliver_turn {act : Ctx → InMsg → State → State} (h : AtItsTurn s n seq op c m) :
    deliver op n seq act s = turnDone n (act c m (turnTaken c seq s)) := by
  obtain ⟨hAt, hOpen, hQp, hServing, hNext, hWhole⟩ := h
  have found : (ctxAt s n).filter (fun x => !x.closing && !isQp x && serving s && decide (seq = seqNext x.through)) = some c :=
    Option.filter_eq_some_iff.mpr ⟨hAt, by rw [hOpen, hQp, hServing, decide_eq_true hNext]; rfl⟩
  unfold deliver
  simp only [found, hWhole]
  rfl

/-- A command whose whole meaning is a delivery answers what the opcode's act makes of the message. -/
theorem delivery_answers {act : Ctx → InMsg → State → State} (h : AtItsTurn s n seq op c m) (e : act c m (turnTaken c seq s) = t) :
    (.next (deliver op n seq act s) : Host.Outcome State Fault Refusal) = .next (turnDone n t) :=
  congrArg Host.Outcome.next ((deliver_turn h).trans (congrArg (turnDone n) e))

theorem execWriteImm_notifies {o : Nat} {z : State} (h : AtItsTurn s n seq 3 c m) (hRegion : m.region = some o) (hTaken : z = turnTaken c seq s) :
    execWriteImm n seq s = .next (turnDone n (notify o m.imm m.addr.toNat m.length (now z - (mono z - m.whole.getD (mono z)))
      (placeWrite c m z))) := by
  subst hTaken
  exact delivery_answers h (by simp only [hRegion])

/-- What is held for a context that is fetched is handled in turn, then its RNR NAKs leave (R305, R306). -/
theorem execContextFetchComplete_fetched (hAt : ctxAt s n = some c)
    (hFetch : c.place = .fetching ∨ (c.place = .writeBack ∧ packetHeld s n = true)) :
    execContextFetchComplete n s = .next ((s.trn.nakQ.filter (fun k => k.2.1 == n)).foldl
      (fun acc k => sendRoce n 7 0 [(3, k.2.2), (4, c.set.rnrTimer)] [] acc)
      ((s.trn.holding.filter (fun h => h.ctx == n)).foldl (fun acc h =>
        match (ctxAt acc n).filter (fun x => !x.closing) with
        | some x => handlePacket h.cmd h.ingress x acc
        | none => authFail acc)
        (bringIn c { s with trn := { s.trn with holding := dropIf (fun h => h.ctx == n) s.trn.holding,
                                                nakQ := dropIf (fun k => k.2.1 == n) s.trn.nakQ } }))) := by
  have awaited : (c.place == .fetching || (c.place == .writeBack && packetHeld s n)) = true := by
    rcases hFetch with hPlace | ⟨hPlace, hHeld⟩
    · rw [hPlace]; rfl
    · rw [hPlace, hHeld]; rfl
  have found : (ctxAt s n).filter (fun x => x.place == .fetching || (x.place == .writeBack && packetHeld s n)) = some c :=
    Option.filter_eq_some_iff.mpr ⟨hAt, awaited⟩
  unfold packetHeld at found
  unfold execContextFetchComplete
  simp only [found] <;> rfl

theorem execContextEvict_writesBack {z : State} (hServing : serving s = true) (hEnded : z = writtenBack s) :
    execContextEvict s = .next ((evictee z).elim z (fun x => putCtx { x with place := .writeBack } z)) := by
  subst hEnded
  have open_ : ¬ (!serving s) = true := by rw [hServing]; exact Bool.false_ne_true
  refine congrArg Host.Outcome.next ((if_neg open_).trans ?_)
  show (match evictee (writtenBack s) with | some x => putCtx { x with place := .writeBack } (writtenBack s) | none => writtenBack s) = _
  cases evictee (writtenBack s) <;> rfl

theorem execSeenEntryExpiry_forgets {id : Nat} (hHeld : packetHeld s n = false) :
    execSeenEntryExpiry n id s = .next { s with
      trn := { s.trn with seen := dropIf (fun e => e.1 % 1048576 == n && e.2.1 == id && decide (e.2.2 ≤ mono s)) s.trn.seen } } :=
  congrArg Host.Outcome.next (if_neg (by rw [hHeld]; exact Bool.false_ne_true))

end

end Machine

open Machine

/-- Settles O53: an opcode's act on a message at its turn, and for the context store the branch each event's condition chooses. -/
theorem deliveriesComplete : Obligations.DeliveriesComplete := by
  unfold Obligations.DeliveriesComplete
  refine ⟨?send, ?write, fun n seq o c m z s => execWriteImm_notifies, ?read, ?readRefused, ?readResp,
    fun n c s => execContextFetchComplete_fetched, fun s z => execContextEvict_writesBack, fun n id s => execSeenEntryExpiry_forgets, ?expiry⟩
  case send => exact fun n seq c m s h => delivery_answers h rfl
  case write => exact fun n seq c m s h => delivery_answers h rfl
  case read => exact fun n seq c m s h hLength => delivery_answers h (if_neg (Nat.not_lt.mpr hLength))
  case readRefused => exact fun n seq c m s h hLength => delivery_answers h (if_pos hLength)
  case readResp => exact fun n seq c m s h => delivery_answers h rfl
  case expiry => exact fun n seq c s h hAged => timer_answers h (if_pos hAged)

end Sys2Proof
end

section
/-!
PROOFS. Setups (12 R323 to R326, R332, R333). A setup message is judged by checks in the spec's order; each section takes those that come before
its branch as its hypotheses.
-/
namespace Sys2Proof
namespace Machine

/-! SETUP_INIT (R308, R323, R325) -/

section
variable {m : InitMsg} {p : Nat} {s : State} (hTaking : taking s = true)
  (hPort : if onTether m.mac then m.service = 4 else m.udp.toNat = pTrnUdpPort s) (hRsv : m.rsv = 0)
include hTaking hPort hRsv

/-- A SETUP_INIT that the network side takes, to the Bryndle port or over the tether for service 4, and well formed: the number of setups in
hand, its version, suite and payload sizes decide its answer. -/
theorem execSetupInit_heard : execSetupInit m s = .next (
    if pTrnSetupMax s ≤ s.trn.setups.length then refuseInit m eSetupBusy (raise stTRN 3 noInst s)
    else if m.version = 1 ∧ m.suite = 1 then
      (choosePayload s m.mac m.sizes).elim (refuseInit m eCipher s) (fun p =>
        sendSetup m.mac 0x11 m.ictx sOk (setupAnswer m p s).1
          ((setupPackets 0x11 m.ictx 1 false none (setupAnswer m p s).2.1).map (fun b => (m.src, b)))
          { (setupAnswer m p s).2.2.2 with
            trn := { (setupAnswer m p s).2.2.2.trn with setups := s.trn.setups ++ [(setupAnswer m p s).2.2.1] } })
    else refuseInit m eCipher s) := by
  have addressed : (if onTether m.mac then decide (m.service ≠ 4) else decide (m.udp.toNat ≠ pTrnUdpPort s)) = false := by
    split at hPort
    next h => rw [if_pos h, hPort]; rfl
    next h => rw [if_neg h, hPort]; exact decide_eq_false fun k => k rfl
  unfold execSetupInit
  simp only [hTaking, addressed, hRsv, Bool.not_true, Bool.or_self, bne_self_eq_false, Bool.false_eq_true, if_false]
  split
  next => rfl
  next =>
    by_cases hKnown : m.version = 1 ∧ m.suite = 1
    · rw [if_pos hKnown, decide_eq_true hKnown]
      cases choosePayload s m.mac m.sizes <;> rfl
    · rw [if_neg hKnown, decide_eq_false hKnown]

theorem execSetupInit_answers (hRoom : s.trn.setups.length < pTrnSetupMax s) (hVersion : m.version = 1) (hSuite : m.suite = 1)
    (hPayload : choosePayload s m.mac m.sizes = some p) :
    execSetupInit m s = .next (sendSetup m.mac 0x11 m.ictx sOk (setupAnswer m p s).1
      ((setupPackets 0x11 m.ictx 1 false none (setupAnswer m p s).2.1).map (fun b => (m.src, b)))
      { (setupAnswer m p s).2.2.2 with
        trn := { (setupAnswer m p s).2.2.2.trn with setups := s.trn.setups ++ [(setupAnswer m p s).2.2.1] } }) := by
  rw [execSetupInit_heard hTaking hPort hRsv, if_neg (Nat.not_le.mpr hRoom), if_pos ⟨hVersion, hSuite⟩, hPayload, Option.elim_some]

theorem execSetupInit_busy (hFull : pTrnSetupMax s ≤ s.trn.setups.length) :
    execSetupInit m s = .next (refuseInit m eSetupBusy (raise stTRN 3 noInst s)) := by
  rw [execSetupInit_heard hTaking hPort hRsv, if_pos hFull]

theorem execSetupInit_unsupported (hRoom : s.trn.setups.length < pTrnSetupMax s)
    (hNothing : ¬(m.version = 1 ∧ m.suite = 1) ∨ choosePayload s m.mac m.sizes = none) :
    execSetupInit m s = .next (refuseInit m eCipher s) := by
  rw [execSetupInit_heard hTaking hPort hRsv, if_neg (Nat.not_le.mpr hRoom)]
  rcases hNothing with hUnknown | hNone
  · rw [if_neg hUnknown]
  · rw [hNone, Option.elim_none, ite_self]

end

/-! SETUP_AUTH (R323 to R325) -/

/-- The state in which a setup has been taken up by its SETUP_AUTH. -/
def setupTaken (m : AuthMsg) (s : State) : State :=
  { s with trn := { s.trn with setups := dropIf (fun y => y.handle == m.handle && !y.initiator) s.trn.setups } }

theorem authSignatures_pass {m : AuthMsg} (hSig : m.sigOk = true) (hGrant : m.kind = 2 → m.grantOk = true) :
    (!m.sigOk || (decide (m.kind = 2) && !m.grantOk)) = false := by
  by_cases hKind : m.kind = 2
  · rw [hSig, hGrant hKind, Bool.not_true, Bool.and_false, Bool.or_self]
  · rw [hSig, decide_eq_false hKind, Bool.not_true, Bool.false_and, Bool.or_self]

section
variable {m : AuthMsg} {x : Setup} {who : Principal} {s : State} (hTaking : taking s = true)
  (hSetup : s.trn.setups.find? (fun y => y.handle == m.handle && !y.initiator) = some x)
include hTaking hSetup

theorem execSetupAuth_badSignature (hBad : m.sigOk = false ∨ (m.kind = 2 ∧ m.grantOk = false)) :
    execSetupAuth m s = .next (sendDone x eSignature [(2, 0), (4, 0)] (setupTaken m s)) := by
  have failed : (!m.sigOk || (decide (m.kind = 2) && !m.grantOk)) = true := by
    rcases hBad with hSig | ⟨hKind, hGrant⟩
    · rw [hSig]; rfl
    · rw [hKind, hGrant, Bool.or_eq_true]; exact .inr rfl
  unfold execSetupAuth
  simp only [hTaking, hSetup, failed, Bool.not_true, Bool.false_eq_true, if_false, if_true]
  rfl

variable (hSig : m.sigOk = true) (hGrant : m.kind = 2 → m.grantOk = true)
include hSig hGrant

/-- A credential that names no principal enrolled is denied (R325). -/
theorem execSetupAuth_noPrincipal (hNobody : credential (setupTaken m s) m.kind m.key m.grant = none) :
    execSetupAuth m s = .next (sendDone x eDenied [(2, 0), (4, 0)] (setupTaken m s)) := by
  unfold setupTaken at hNobody ⊢
  unfold execSetupAuth
  simp only [hTaking, hSetup, authSignatures_pass hSig hGrant, hNobody, Bool.not_true, Bool.false_eq_true, if_false]
  rfl

theorem execSetupAuth_opens (hWho : credential (setupTaken m s) m.kind m.key m.grant = some who)
    (hQuiet : quietDrops (setupTaken m s) who.tenant? x.mac = false)
    (hAdmitted : setupRefusal (setupTaken m s) x.service x.payload who = none) :
    execSetupAuth m s = .next (sendDone x sOk
      (doneFlds (authSession m x who (setupTaken m s)).2 (authSession m x who (setupTaken m s)).1)
      (authSession m x who (setupTaken m s)).2) := by
  unfold setupTaken at hWho hQuiet hAdmitted ⊢
  unfold execSetupAuth
  simp only [hTaking, hSetup, authSignatures_pass hSig hGrant, hWho, hQuiet, hAdmitted, Bool.not_true, Bool.false_eq_true, if_false]

end

/-! SETUP_CHILD, SETUP_CHILD_DONE and RDMA_CM on a parent session (R326, R332, R333) -/

section
variable {parent service ictx timestamp depth code : Nat} {nonce : Digest} {o : Nat × State} {c : Ctx} {s : State} (hAt : ctxAt s parent = some c)
  (hOpen : c.closing = false) (hQp : isQp c = false) (hHello : c.helloOnly = false) (hTaking : taking s = true)
include hAt hOpen hQp hHello hTaking

/-- The parent session of a SETUP_CHILD stands. -/
theorem childParent_stands : (ctxAt s parent).filter (fun x => !x.closing && !isQp x && !x.helloOnly && taking s) = some c :=
  Option.filter_eq_some_iff.mpr ⟨hAt, by rw [hOpen, hQp, hHello, hTaking]; rfl⟩

theorem execSetupChild_opens (hAdmitted : setupRefusal s service c.payload c.who = none)
    (hChild : o = childSession c service ictx nonce (drawDigest s).1 timestamp depth (drawDigest s).2) :
    execSetupChild parent service ictx nonce timestamp depth s = .next (sendCtl parent 0x15
      ([(2, sOk)] ++ (doneFlds o.2 o.1).take 2 ++ [(32, (drawDigest s).1.toNat)] ++ (doneFlds o.2 o.1).drop 2) o.2) := by
  subst hChild
  unfold execSetupChild
  simp only [childParent_stands hAt hOpen hQp hHello hTaking, hAdmitted]

theorem execSetupChild_refuses (hRefused : setupRefusal s service c.payload c.who = some code) :
    execSetupChild parent service ictx nonce timestamp depth s = .next
      (sendCtl parent 0x15 [(2, code), (2, 0), (4, 0), (32, 0)] (landingFlag code s)) := by
  unfold execSetupChild
  simp only [childParent_stands hAt hOpen hQp hHello hTaking, hRefused]

end

section
variable {parent depth code : Nat} {uop : Bool} {o : Nat × State} {c : Ctx} {s : State} (hAt : ctxAt s parent = some c) (hKind : c.kind = .bryndle 5)
  (hOpen : c.closing = false) (hTaking : taking s = true) (hGrant : grantOk s c.who = true)
include hAt hKind hOpen hTaking hGrant

/-- The SA session of an RDMA_CM stands, and its principal's grant is in force: the limits decide (R304, R339). -/
theorem execRdmaCm_limited : execRdmaCm parent uop depth s = .next ((setupLimit s (.qp parent uop) c.who).elim
    (sendRoce parent 12 0
      [(3, (openSession (.qp parent uop) c.who c.mac (choosePmtu s c.mac) (depthOf depth) 0 0 { peer := 0, src := c.src, keys := noKeys } s).1)] []
      (openSession (.qp parent uop) c.who c.mac (choosePmtu s c.mac) (depthOf depth) 0 0 { peer := 0, src := c.src, keys := noKeys } s).2)
    (fun code => sendRoce parent 11 code [] [] (landingFlag code s))) := by
  have found : (ctxAt s parent).filter (fun x => x.kind == .bryndle 5 && !x.closing && taking s) = some c :=
    Option.filter_eq_some_iff.mpr ⟨hAt, by rw [hKind, hOpen, hTaking]; rfl⟩
  unfold execRdmaCm
  simp only [found, hGrant, Bool.not_true, Bool.false_eq_true, if_false]
  cases setupLimit s (.qp parent uop) c.who <;> rfl

theorem execRdmaCm_opens (hRoom : setupLimit s (.qp parent uop) c.who = none)
    (hSession : o = openSession (.qp parent uop) c.who c.mac (choosePmtu s c.mac) (depthOf depth) 0 0
      { peer := 0, src := c.src, keys := noKeys } s) :
    execRdmaCm parent uop depth s = .next (sendRoce parent 12 0 [(3, o.1)] [] o.2) := by
  rw [execRdmaCm_limited hAt hKind hOpen hTaking hGrant, hRoom, Option.elim_none, hSession]

theorem execRdmaCm_rejects (hLimit : setupLimit s (.qp parent uop) c.who = some code) :
    execRdmaCm parent uop depth s = .next (sendRoce parent 11 code [] [] (landingFlag code s)) := by
  rw [execRdmaCm_limited hAt hKind hOpen hTaking hGrant, hLimit, Option.elim_some]

end

theorem execSetupChildDone_rekeys {parent ctx spiIn spiOut : Nat} {nonce : Digest} {c : Ctx} {s : State} (h : TimerRuns s parent c)
    (hKind : c.kind = .bryndle 5) :
    execSetupChildDone parent sOk ctx nonce spiIn spiOut s = .next (mirrorCtx parent c.gen (putCtx
      { c with oldSpi := some (c.spiIn, 0), spiIn := spiIn, spiOut := spiOut, spiSince := mono s,
               keys := { c.keys with espTx := (childKeys c.keys.child c.saNonce nonce true).espTx,
                                     espRx := (childKeys c.keys.child c.saNonce nonce true).espRx, prevEspRx := some c.keys.espRx },
               espOld := c.espIn, espIn := { top := 0, seen := [] }, espOut := 0 } s)) :=
  timer_answers h (if_pos (by rw [hKind]; rfl))

end Machine

open Machine

/-- Settles O51: a setup that passes the checks before a branch takes it, and its answer carries what that branch has made. -/
theorem setupsComplete : Obligations.SetupsComplete := by
  unfold Obligations.SetupsComplete
  refine ⟨fun m p s => execSetupInit_answers, fun m s => execSetupInit_busy, fun m s => execSetupInit_unsupported, ?opens,
    fun m x s => execSetupAuth_badSignature, ?noPrincipal, fun parent service ictx nonce timestamp depth c o s => execSetupChild_opens,
    fun parent service ictx nonce timestamp depth code c s => execSetupChild_refuses,
    fun parent ctx nonce spiIn spiOut c s => execSetupChildDone_rekeys (ctx := ctx), fun handle s => rfl,
    fun parent uop depth c o s => execRdmaCm_opens, fun parent uop depth code c s => execRdmaCm_rejects⟩
  case opens =>
    intro m x who s z hTaking hSetup hTaken hSig hGrant hWho hQuiet hAdmitted
    subst hTaken
    exact execSetupAuth_opens hTaking hSetup hSig hGrant hWho hQuiet hAdmitted
  case noPrincipal =>
    intro m x s z hTaking hSetup hTaken hSig hGrant hNobody
    subst hTaken
    exact execSetupAuth_noPrincipal hTaking hSetup hSig hGrant hNobody

end Sys2Proof
end

section
/-!
PROOFS. Packets that are taken (12 R308 to R320, R327, R331, R332; 15 R379). Where a packet is taken, it is handled in its session at its arrival
(`bryndleIn_taken`, `execRocePacket_taken`), and what it is judged in is the session that has heard it; each of the rules is a branch of the
packet's act from there. A RoCE packet is placed by the PSN its queue pair had before it was heard, and hearing it moves no PSN (`SamePsns`).
-/
namespace Sys2Proof
namespace Machine

/-! DATA and control packets of a session (R309, R313 to R320) -/

section
variable {s : State} {n gen mac : Nat} {headerOk tagOk : Bool} {c : Ctx}

theorem bryndleIn_taken {i : Instr} {bytes : Nat} (h : PacketTaken s n gen mac headerOk tagOk c) :
    bryndleIn i n gen mac bytes headerOk s = handlePacket i (mono s) c s := by
  obtain ⟨hTaking, hHeader, hSession, hPlace, hHeld, _, _⟩ := h
  unfold bryndleIn onDieOr
  simp only [hTaking, hHeader, hSession, hPlace, hHeld, beq_self_eq_true, Bool.not_true, Bool.not_false, Bool.and_self, Bool.false_eq_true,
    if_false, if_true]

theorem ctlIn_taken {p : CtlPkt} {act : Ctx → State → State} (h : PacketTaken s p.ctx p.gen p.mac p.headerOk p.tagOk c) :
    ctlIn p (mono s) act c s = act (ctxNow c (ctlHeard p c s)) (ctlHeard p c s) := by
  obtain ⟨_, _, _, _, _, hTag, hQuiet⟩ := h
  unfold ctlIn
  simp only [hTag, hQuiet, Bool.not_true, Bool.false_eq_true, if_false]
  rfl

/-- A control packet that is taken answers what its act makes of the session that has heard it. -/
theorem control_answers {p : CtlPkt} {i : Instr} {act : Ctx → State → State} {t : State}
    (h : PacketTaken s p.ctx p.gen p.mac p.headerOk p.tagOk c) (hAct : handlePacket i (mono s) c s = ctlIn p (mono s) act c s)
    (e : act (ctxNow c (ctlHeard p c s)) (ctlHeard p c s) = t) :
    (.next (ctlArrive i p s) : Host.Outcome State Fault Refusal) = .next t :=
  congrArg Host.Outcome.next (((bryndleIn_taken h).trans hAct).trans ((ctlIn_taken h).trans e))

theorem nakAct_found {seq : Nat} {ranges : List (Nat × Nat)} {o : OutMsg}
    (hFound : c.outMsgs.find? (fun x => x.seq == seq && !x.queued) = some o) : nakAct seq ranges c s = resend c.num o ranges s := by
  unfold nakAct
  simp only [hFound]

theorem statusReqAct_answers {seq : Nat} {x : Ctx} (hAt : ctxAt (discardIn c.num seq s) c.num = some x) :
    statusReqAct seq c s = sendCtl c.num 5 (ackFlds x) (discardIn c.num seq s) := by
  unfold statusReqAct
  simp only [hAt]

section
variable {through asked : Nat} {bitmap : BitVec 256} {x : Ctx} (hAt : ctxAt (takeAcks c.num through bitmap s) c.num = some x)
include hAt

/-- The message asked about is launched again where it is still among those sent (R319). -/
theorem statusAct_launches {o : OutMsg} (hFound : x.outMsgs.find? (fun y => y.seq == asked && y.statusAsked) = some o) :
    statusAct through bitmap asked c s = launch c.num o (takeAcks c.num through bitmap s) := by
  unfold statusAct
  simp only [hAt, Option.bind_some, hFound]

theorem statusAct_acknowledges (hNone : x.outMsgs.any (fun y => y.seq == asked && y.statusAsked) = false) :
    statusAct through bitmap asked c s = takeAcks c.num through bitmap s := by
  have gone : x.outMsgs.find? (fun y => y.seq == asked && y.statusAsked) = none :=
    List.find?_eq_none.mpr fun y hy hAsked => List.any_eq_false.mp hNone y hy hAsked
  unfold statusAct
  simp only [hAt, Option.bind_some, gone]

end

/-- A DATA packet that is taken is judged in its session, which has followed its key phase and heard it. -/
theorem execDataPacket_taken {p : DataPkt} {t : State} (h : PacketTaken s p.ctx p.gen p.mac (dataHeaderOk p) p.tagOk c)
    (e : takeData p (mono s) (dataCtx p c s) (dataHeard p c s) = t) : execDataPacket p s = .next t := by
  obtain ⟨_, _, hSession, hPlace, _, hTag, hQuiet⟩ := id h
  have fetchless : ∀ known : Ctx → Bool, (ctxFor s p.ctx p.gen).filter (fun x => x.place != .onDie && dataHeaderOk p && known x) = none := by
    intro known
    rw [hSession]
    exact Option.filter_some_neg (by rw [hPlace]; rfl)
  have judged : dataIn p (mono s) c s = takeData p (mono s) (dataCtx p c s) (dataHeard p c s) := by
    unfold dataIn
    simp only [hTag, hQuiet, Bool.not_true, Bool.false_eq_true, if_false]
    rfl
  unfold execDataPacket
  simp only [fetchless]
  exact congrArg Host.Outcome.next ((bryndleIn_taken h).trans (judged.trans e))

variable {p : DataPkt} {ing : Nat}

/-- A packet at or before the delivered-through sequence is a duplicate (R314). -/
theorem takeData_duplicate (hAfter : seqAfter c.through p.seq = false) : takeData p ing c s = paceAck c.num s :=
  if_pos (by rw [hAfter]; rfl)

section
variable (hAfter : seqAfter c.through p.seq = true)
include hAfter

theorem takeData_beyond (hDist : 256 < seqDist c.through p.seq) : takeData p ing c s = s :=
  (if_neg (by rw [hAfter]; exact Bool.false_ne_true)).trans (if_pos hDist)

variable (hDist : seqDist c.through p.seq ≤ 256)
include hDist

theorem takeData_joins {m : InMsg} (hFound : c.inMsgs.find? (fun x => x.seq == p.seq) = some m) (hAdmitted : m.refused = false)
    (hId : m.id = p.id) (hPart : m.whole = none) (hNew : m.got.lookup p.index = none) :
    takeData p ing c s = ackIf p.ackNow c.num (joinMsg c.num p ing s) := by
  unfold takeData
  simp only [hAfter, Nat.not_lt.mpr hDist, hFound, hAdmitted, hId, hPart, hNew, bne_self_eq_false, Option.isSome_none, Bool.not_true,
    Bool.or_self, Bool.false_eq_true, if_false]

variable (hNone : c.inMsgs.find? (fun x => x.seq == p.seq) = none)
include hNone

theorem takeData_stale (hOld : ((freshW c / nsU : Nat) : Int) < ageOf s c ing (p.id / 65536)) :
    takeData p ing c s = bumpFigure 0x12000054 1 s := by
  unfold takeData
  simp only [hAfter, Nat.not_lt.mpr hDist, hNone, hOld, Bool.not_true, Bool.false_eq_true, if_false, if_true]

/-- A packet of a new message opens it, unless it is stale or the seen table is full; the last of several would ask for the others at once. -/
theorem takeData_opens (hFresh : ageOf s c ing (p.id / 65536) ≤ ((freshW c / nsU : Nat) : Int)) (hRoom : s.trn.seen.length < 4194304)
    (hFirst : p.count = 1 ∨ p.index + 1 ≠ p.count) :
    takeData p ing c s = ackIf p.ackNow c.num (joinMsg c.num p ing (startMsg c p ing s)) := by
  have notLast : ¬ (1 < p.count ∧ p.index + 1 = p.count) := by omega
  unfold takeData
  simp only [hAfter, Nat.not_lt.mpr hDist, hNone, not_lt.mpr hFresh, decide_eq_false (Nat.not_le.mpr hRoom), notLast, Bool.not_true,
    Bool.false_and, Bool.false_eq_true, if_false]

end

end

/-! What moves no PSN: an egress queue, an SA's sequence number, a CNP (R331, R332; 15 R379) -/

/-- Every context has the expected PSN it had. -/
def SamePsns (t s : State) : Prop := ∀ n, (ctxAt t n).map Ctx.psn = (ctxAt s n).map Ctx.psn

section
variable {s z : State} {c : Ctx}

theorem SamePsns.refl : SamePsns s s := fun _ => rfl

theorem SamePsns.trans {t : State} (h : SamePsns t z) (k : SamePsns z s) : SamePsns t s := fun n => (h n).trans (k n)

theorem SamePsns.of_trn (h : z.trn = s.trn) : SamePsns z s := fun n => by unfold ctxAt; rw [h]

/-- A context of the state that is put back with its PSN moves none. -/
theorem SamePsns.putCtx {n : Nat} {x : Ctx} (e : ctxAt s n = some x) (hNum : c.num = x.num) (k : c.psn = x.psn) :
    SamePsns (putCtx c s) s := by
  intro i
  rw [ctxAt_putCtx]
  split
  next hSame =>
    have stands : ctxAt s i = some x := by rw [← hSame, hNum, ctxAt_num e, e]
    rw [stands, Option.map_some, Option.map_some, k]
  next => rfl

theorem chargeCc_psns {i : SchItem} : SamePsns (chargeCc i s) s := by
  unfold chargeCc itemCtx
  cases i.data.port with
  | ctx n =>
    dsimp only
    split
    next => exact .refl
    next x e => exact .putCtx e rfl rfl
  | _ => exact .refl

/-- Of what hands a frame to a MAC, only the charge of its session's congestion bucket puts a context back. -/
theorem pumpIdle_psns {n : Nat} : SamePsns (pumpIdle n s) s := by
  have framed : ∀ (x : Mac) (i : SchItem) (t : State), SamePsns (startFrame x i t) t := fun x i t => .of_trn (startFrame_frame.trn rfl)
  have placed : ∀ (e : Egress) (t : State), SamePsns (putEgress e t) t := fun e t => .of_trn (putEgress_frame.trn rfl)
  unfold pumpIdle
  split
  · exact .refl
  · split
    · exact .refl
    · dsimp only
      split
      · exact (framed _ _ _).trans (placed _ _)
      · exact (framed _ _ _).trans (placed _ _)
      · exact (framed _ _ _).trans (placed _ _)
      · split
        · exact placed _ _
        · refine (framed _ _ _).trans (chargeCc_psns.trans ((placed _ _).trans ?_))
          split
          · split
            · exact .refl
            · exact .of_trn (putBuckets_frame.trn rfl)
          · exact .refl

theorem pumpMac_psns {n : Nat} : SamePsns (pumpMac n s) s := by
  unfold pumpMac
  split
  · exact .refl
  · split
    · exact .refl
    · exact pumpIdle_psns.trans (.of_trn ((putEgress_frame.trn rfl).trans (putMac_frame.trn rfl)))

theorem transmit_psns {n k l : Nat} {o : EgOrder} {f : FlowId} {m : Msg} : SamePsns (transmit n o f k l m s) s := by
  unfold transmit
  split
  · exact .of_trn (mailboxFrames_frame.trn rfl)
  · split
    · exact .of_trn (putQuiet_frame.trn rfl)
    · split
      · exact .of_trn (send_frame.trn rfl)
      · unfold enqueue
        dsimp only
        split <;> exact pumpMac_psns.trans (.of_trn (putEgress_frame.trn rfl))

/-- The SA that carries a context's packets stands in the state: its parent's, or its own. -/
theorem ctxAt_of_saCtx {n : Nat} {a : Ctx} (e : ctxAt s n = some c) (k : saCtx s c = some a) : ctxAt s a.num = some a := by
  unfold saCtx at k
  split at k
  next p u hKind => rw [ctxAt_num k]; exact k
  next hKind => obtain rfl := Option.some.inj k; rw [ctxAt_num e]; exact e
  next => cases k

theorem espSend_psns {n packets : Nat} (e : ctxAt s n = some c) : SamePsns (espSend c packets s).2 s := by
  unfold espSend
  split
  next => exact .refl
  next a k => exact .putCtx (ctxAt_of_saCtx e k) rfl rfl

theorem sendRoce_psns {n op status : Nat} {body : Flds} {data : Bytes} : SamePsns (sendRoce n op status body data s) s := by
  unfold sendRoce
  split
  next => exact .refl
  next c e => exact transmit_psns.trans (espSend_psns e)

theorem qpMarked_psns {ce : Bool} {n : Nat} : SamePsns (qpMarked ce n s) s := by
  unfold qpMarked
  split
  next => exact .refl
  next c e =>
    split
    · exact sendRoce_psns.trans (.putCtx e rfl rfl)
    · exact .refl

/-- A queue pair that has heard a packet awaits the PSN it awaited. -/
theorem ctxNow_roceHeard_psn {p : RocePkt} {sa : Ctx} : (ctxNow c (roceHeard p sa c s)).psn = c.psn := by
  have heard := qpMarked_psns (ce := p.ce) (n := c.num) (s := passTag c p.mac (mono (espTaken p sa s)) c.src (espTaken p sa s)) c.num
  have kept : (ctxAt (roceHeard p sa c s) c.num).map Ctx.psn = some c.psn := by
    refine heard.trans ?_
    unfold passTag
    rw [ctxAt_putCtx, if_pos rfl, Option.map_some]
  obtain ⟨x, hAt, hPsn⟩ := Option.map_eq_some_iff.mp kept
  unfold ctxNow
  rw [hAt, Option.getD_some, hPsn]

/-! RoCE packets (R331, R332) -/

theorem execRocePacket_taken {p : RocePkt} {sa : Ctx} {uop : Bool} {t : State} (h : RoceTaken s p sa c uop)
    (e : quietDrops (espTaken p sa s) c.who.tenant? p.mac = false → roceIn p (mono (espTaken p sa s)) c (espTaken p sa s) = t) :
    execRocePacket p s = .next t := by
  obtain ⟨hTaking, hEsp, hIcv, hSa, hFresh, hAt, hOpen, hError, hKind, hPlace, hHeld, hQuiet⟩ := h
  refine congrArg Host.Outcome.next (Eq.trans ?_ (e hQuiet))
  unfold packetHeld espTaken at hHeld
  simp only [hTaking, hEsp, hIcv, hSa, hFresh, hAt, hPlace, hHeld, Option.filter_some, hOpen, hError, hKind, beq_self_eq_true, Bool.not_true,
    Bool.not_false, Bool.and_self, Bool.false_eq_true, if_false, if_true]
  rfl

/-- A packet outside ESP, that does not authenticate, or under an SPI that is no SA's is dropped and counted (R332). -/
theorem execRocePacket_fails {p : RocePkt} (hTaking : taking s = true) (hFails : p.esp = false ∨ p.icvOk = false ∨ saOf s p.spi = none) :
    execRocePacket p s = .next (authFail s) := by
  refine congrArg Host.Outcome.next ((if_neg (by rw [hTaking]; exact Bool.false_ne_true)).trans ?_)
  rcases hFails with hEsp | hIcv | hSa
  · simp only [hEsp, Bool.false_and]
  · simp only [hIcv, Bool.and_false]
  · rw [hSa]
    cases p.esp && p.icvOk <;> rfl

section
variable {p : RocePkt} {sa : Ctx} {uop : Bool} (h : RoceTaken s p sa c uop)
include h

theorem execRocePacket_acknowledges (hAck : p.opcode = 6) :
    execRocePacket p s = .next (qpAcked p.imm.toNat (ctxNow c (roceHeard p sa c s)) (roceHeard p sa c s)) := by
  refine execRocePacket_taken h fun hQuiet => ?_
  unfold roceIn
  simp only [hQuiet, hAck, Bool.false_eq_true, if_false]
  rfl

theorem execRocePacket_retries (hNak : p.opcode = 8) (hSyndrome : p.imm.toNat = 0x60) :
    execRocePacket p s = .next (qpRetry c.num (roceHeard p sa c s)) := by
  refine execRocePacket_taken h fun hQuiet => ?_
  unfold roceIn
  simp only [hQuiet, hNak, hSyndrome, Bool.false_eq_true, if_false, if_true]
  rfl

/-- A request is judged by how far its PSN lies ahead of the one its queue pair awaits (R331). -/
theorem execRocePacket_request (hLow : 1 ≤ p.opcode) (hHigh : p.opcode ≤ 4) :
    execRocePacket p s = .next
      (if (p.psn + 16777216 - (ctxNow c (roceHeard p sa c s)).psn) % 16777216 = 0 then
        qpRequest p (mono (espTaken p sa s)) (ctxNow c (roceHeard p sa c s)) (roceHeard p sa c s)
      else if (p.psn + 16777216 - (ctxNow c (roceHeard p sa c s)).psn) % 16777216 < 8388608 then
        sendRoce c.num 8 0x60 [] [] (roceHeard p sa c s)
      else sendRoce c.num 6 0 [(3, (ctxNow c (roceHeard p sa c s)).through % 16777216)] [] (roceHeard p sa c s)) := by
  have request : p.opcode = 1 ∨ p.opcode = 2 ∨ p.opcode = 3 ∨ p.opcode = 4 := by omega
  rw [ctxNow_roceHeard_psn]
  refine execRocePacket_taken h fun hQuiet => ?_
  unfold roceIn
  rcases request with hOp | hOp | hOp | hOp <;> simp only [hQuiet, hOp, Bool.false_eq_true, if_false] <;> rfl

end

end

end Machine

open Machine

/-- Settles O52: a packet that is taken is handled in the session that has heard it, and its rule is the branch its conditions choose there. -/
theorem packetsComplete : Obligations.PacketsComplete := by
  unfold Obligations.PacketsComplete
  refine ⟨?duplicate, ?beyond, ?joins, ?stale, ?opens, ?ack, ?nak, ?statusReq, ?status, ?again, ?close,
    fun p sa c uop s => execRocePacket_acknowledges, fun p sa c uop s => execRocePacket_retries, ?inOrder, ?outOfOrder, ?repeated,
    fun p s => execRocePacket_fails⟩
  case duplicate => exact fun p c s h hAfter => execDataPacket_taken h (takeData_duplicate hAfter)
  case beyond => exact fun p c s h hAfter hDist => execDataPacket_taken h (takeData_beyond hAfter hDist)
  case joins =>
    exact fun p c m s h hAfter hDist hFound hAdmitted hId hPart hNew =>
      execDataPacket_taken h (takeData_joins hAfter hDist hFound hAdmitted hId hPart hNew)
  case stale => exact fun p c s h hAfter hDist hNone hOld => execDataPacket_taken h (takeData_stale hAfter hDist hNone hOld)
  case opens =>
    exact fun p c s h hAfter hDist hNone hFresh hRoom hFirst =>
      execDataPacket_taken h (takeData_opens hAfter hDist hNone hFresh hRoom hFirst)
  case ack => exact fun p through bitmap ceMarks c s h => control_answers h rfl rfl
  case nak => exact fun p seq ranges c o s h hFound => control_answers h rfl (nakAct_found hFound)
  case statusReq => exact fun p seq c c1 s h hAt => control_answers h rfl (statusReqAct_answers hAt)
  case status => exact fun p through bitmap asked c c1 s h hAt hNone => control_answers h rfl (statusAct_acknowledges hAt hNone)
  case again => exact fun p through bitmap asked c c1 o s h hAt hFound => control_answers h rfl (statusAct_launches hAt hFound)
  case close => exact fun p code c s h => control_answers h rfl rfl
  case inOrder =>
    intro p sa c uop s h hLow hHigh hPsn
    exact (execRocePacket_request h hLow hHigh).trans (congrArg Host.Outcome.next (if_pos hPsn))
  case outOfOrder =>
    intro p sa c uop s h hLow hHigh hAhead hNear
    exact (execRocePacket_request h hLow hHigh).trans (congrArg Host.Outcome.next ((if_neg hAhead.ne').trans (if_pos hNear)))
  case repeated =>
    intro p sa c uop s h hLow hHigh hBehind
    refine (execRocePacket_request h hLow hHigh).trans (congrArg Host.Outcome.next ((if_neg ?_).trans (if_neg (Nat.not_lt.mpr hBehind))))
    omega

end Sys2Proof
end

section
/-!
PROOFS. The ends of landing regions and the trigger engine (13 R342 to R345, R349 to R352). A drain zeroes a range of landing memory, of which a
byte reads as zero inside and as before outside (`memByte_memZero`), and what follows the zeroing (the drain's figure, its event, the end of the
owner's context) leaves the regions and their bytes (`drainRegion_landingKept`). The other rules are each one branch of the event's act.
-/
namespace Sys2Proof
namespace Machine

/-! Landing memory (R341, R345) -/

/-- Of the cells kept by their address, a kept address reads as before and any other as zero. -/
theorem memByte_filter {p : Nat → Bool} {a : Nat} {m : List Host.Cell} :
    memByte (m.filter (fun c => p c.1)) a = if p a then memByte m a else 0 := by
  induction m with
  | nil => simp [memByte]
  | cons c r ih =>
    rw [List.filter_cons]
    by_cases hAt : c.1 = a
    · by_cases hKept : p a <;> simp [memByte, hAt, hKept, ih]
    · by_cases hKept : p c.1 <;> simp [memByte, hAt, hKept, ih]

theorem memByte_memZero {first n a : Nat} {m : List Host.Cell} :
    memByte (memZero first n m) a = if first ≤ a ∧ a < first + n then 0 else memByte m a := by
  refine (memByte_filter (p := fun x => !(decide (first ≤ x) && decide (x < first + n)))).trans ?_
  by_cases hIn : first ≤ a ∧ a < first + n <;> simp [← Bool.decide_and, hIn]

section
variable {s t : State}

/-! The ends of a region (R342 to R345) -/

/-- From `s` to `t` the landing regions and their bytes are as they were. -/
def LandingKept (t s : State) : Prop := t.reg.regions = s.reg.regions ∧ t.reg.mem = s.reg.mem

theorem LandingKept.trans {r : State} (h : LandingKept t r) (k : LandingKept r s) : LandingKept t s :=
  ⟨h.1.trans k.1, h.2.trans k.2⟩

theorem Frame.landingKept {w : Nat} (h : Frame w t s) (k : w &&& 1572864 = 0) : LandingKept t s :=
  ⟨congrArg (fun x => x.regions) (h.reg k), congrArg (fun x => x.mem) (h.reg k)⟩

/-- The end of a context frees its trigger entries; its region is another matter (R304, R352). -/
theorem freeCtx_landingKept {n : Nat} : LandingKept (freeCtx n s) s := by
  unfold freeCtx
  split
  · exact ⟨rfl, rfl⟩
  · exact (mirrorCtx_frame.landingKept rfl).trans ⟨rfl, rfl⟩

theorem LandingKept.ite {c : Prop} [Decidable c] {r : State} (h : LandingKept t s) (k : LandingKept r s) :
    LandingKept (if c then t else r) s := by
  split <;> assumption

/-- The state whose landing memory is zeroed on a region that has gone with its trigger entries (R345, R352). -/
def withoutRegion (r : Region) (s : State) : State :=
  { s with reg := { s.reg with regions := dropIf (fun x => x.owner == r.owner) s.reg.regions,
                               mem := memZero r.base r.size s.reg.mem,
                               triggers := dropIf (fun t => t.ctx == r.owner) s.reg.triggers } }

/-- What follows the zeroing leaves landing memory: the longest drain, the event of a late one, the end of an owner that has closed (R342). -/
theorem drainRegion_landingKept {r : Region} {c : Ctx} : LandingKept (drainRegion r c s) (withoutRegion r s) := by
  have timed {ms : Nat} : LandingKept (setFigure 0x1200011C ms (withoutRegion r s)) (withoutRegion r s) := setFigure_frame.landingKept rfl
  have told {z : State} : LandingKept (raise stRG 4 noInst z) z := raise_frame.landingKept rfl
  exact .ite (freeCtx_landingKept.trans (.ite (told.trans timed) timed)) (.ite (told.trans timed) timed)

theorem execRegionDrained_drains {owner : Nat} {r : Region} {c : Ctx} (hRegion : regionAt s owner = some r) (hCtx : ctxAt s owner = some c)
    (hRevoking : r.phase = .revoking) (hLanded : r.pushes = []) (hDecided : confirmed s r.revoked 0 = true)
    (hIdle : s.reg.triggers.any (fun t => t.ctx == owner && t.state == .firing) = false) :
    execRegionDrained owner s = .next (drainRegion r c s) := by
  simp only [execRegionDrained, hRegion, hCtx, hRevoking, hLanded, hDecided, hIdle, beq_self_eq_true, List.isEmpty_nil, Bool.not_false,
    Bool.and_self, if_true]

theorem execPushAbandonTimeout_abandons {owner : Nat} {r : Region} {c : Ctx} (hRegion : regionAt s owner = some r)
    (hCtx : ctxAt s owner = some c) (hRevoking : r.phase = .revoking) (hHeld : packetHeld s owner = false)
    (hDead : confirmed s r.revoked (deadW c) = true) :
    execPushAbandonTimeout owner s =
      .next (putRegion { r with pushes := dropIf (fun p => (ctxAt s p.1).any isQp) r.pushes } s) := by
  simp only [execPushAbandonTimeout, hRegion, hCtx, hRevoking, hHeld, hDead, beq_self_eq_true, Bool.not_false, Bool.and_self, if_true]

theorem execRegionRefusalTimeout_closes {ctx seq : Nat} {c : Ctx} (hCtx : ctxAt s ctx = some c) (hOpen : c.closing = false)
    (hHeld : packetHeld s ctx = false)
    (hRefused : c.inMsgs.any (fun m => m.refused && m.seq == seq && confirmed s m.first (freshW c)) = true) :
    execRegionRefusalTimeout ctx seq s = .next (closeCtx eRegion ctx s) := by
  simp only [execRegionRefusalTimeout, hCtx, Option.filter_some, hOpen, hHeld, hRefused, Bool.not_false, Bool.and_self, if_true]

/-! The trigger engine (R349 to R351) -/

theorem execWorkRequestComplete_continues {n : Nat} {status : Status} {e : TrigEntry} {w : WorkReq}
    (hFiring : s.reg.triggers.find? (fun t => t.num == n && t.state == .firing) = some e) (hRequest : e.work[e.at_]? = some w)
    (hOk : status.toNat = sOk) (hStands : postFails s e w = false) (hMore : e.at_ + 1 < e.work.length) :
    execWorkRequestComplete n status s = .next (mapTrig n (fun t => { t with at_ := t.at_ + 1 }) (requestDone e w s)) := by
  simp only [execWorkRequestComplete, hFiring, hRequest, hOk, hStands, hMore, ne_eq, not_true_eq_false, Bool.false_eq_true, if_false, if_true]

theorem execExceptionService_serves {action : Nat} {e : ExcRec} (h : s.reg.ring.find? (servable s) = some e) :
    execExceptionService action s = .next (serveRec action e { s with reg := { s.reg with ring := s.reg.ring.erase e } }) := by
  simp only [execExceptionService, h, Option.elim_some]

end

end Machine

open Machine

/-- Settles O23: each event takes the branch that its conditions choose, and a drain leaves landing memory zeroed on the range of its region and
nowhere else. -/
theorem regionsAndTriggersComplete : Obligations.RegionsAndTriggersComplete := by
  unfold Obligations.RegionsAndTriggersComplete
  refine ⟨fun ctx seq c s => execRegionRefusalTimeout_closes, fun owner r c s => execPushAbandonTimeout_abandons, ?drained,
    fun n status e w s => execWorkRequestComplete_continues, fun action e s => execExceptionService_serves⟩
  case drained =>
    intro owner r c s hRegion hCtx hRevoking hLanded hDecided hIdle
    obtain ⟨hRegions, hMem⟩ := drainRegion_landingKept (s := s) (r := r) (c := c)
    refine ⟨drainRegion r c s, execRegionDrained_drains hRegion hCtx hRevoking hLanded hDecided hIdle, hRegions, fun a => ?_⟩
    exact (congrArg (memByte · a) hMem).trans memByte_memZero

end Sys2Proof
end

section
/-!
PROOFS. The queue, and the rings and connections of a mailbox (19 R463 to R471). A response changes of the mailboxes only their rings, whatever
path it takes (`sendMbx_mbx`), so what a command has done to the connections and the nonces stands once it is answered; on a path that is no
session the response has left at once.
-/
namespace Sys2Proof
namespace Machine

section
variable {s : State}

/-! The queue -/

theorem step_of_front {c : Instr} {rest : List Instr} (h : s.pending = c :: rest) : step s = exec c { s with pending := rest } := by
  unfold step
  rw [h]

/-- No command's footprint names the queue or the vendor keys. -/
theorem footprint_omits (i : Instr) : (footprint i).contains .pending = false ∧ (footprint i).contains .vendorKeys = false := by
  cases i <;> exact ⟨rfl, rfl⟩

/-! Rings and connections -/

theorem ringAt_mbx {n : Nat} : (ringAt s n).mbx = n := by
  unfold ringAt
  cases h : s.mbx.rings.find? (fun r => r.mbx == n) with
  | none => rfl
  | some r => simpa using List.find?_some h

theorem connAt_putConn_of {x : Conn} {n : Nat} (h : x.mbx = n) : connAt (putConn x s) n = some x := h ▸ connAt_putConn

theorem ringAt_putRing {r : Ring} {n : Nat} (h : r.mbx = n) : ringAt (putRing r s) n = r := by
  subst h
  unfold ringAt putRing
  rw [find_putBy (by simp), Option.getD_some]

/-- What a filter drops is not found among those it never concerned. -/
theorem find_dropIf_ne {α : Type} {p q : α → Bool} {l : List α} (h : ∀ x, q x = true → p x = false) : (dropIf p l).find? q = l.find? q := by
  unfold dropIf
  rw [List.find?_filter]
  congr 1
  funext x
  cases hq : q x <;> simp [hq, h]

theorem connAt_closeConn {m n : Nat} : connAt (closeConn m s) n = if n = m then none else connAt s n := by
  unfold connAt closeConn
  split
  · rename_i e
    subst e
    exact find_dropIf
  · exact find_dropIf_ne fun x hx => by simp at hx ⊢; omega

/-! Responses (R463, R465) -/

/-- Moving entries into a response ring changes of the mailboxes only their rings. -/
theorem fillRing_mbx {n : Nat} : ∃ r, (fillRing n s).mbx = { s.mbx with rings := r } := by
  unfold fillRing
  dsimp only
  split
  · exact ⟨_, rfl⟩
  · exact ⟨_, signalVector_frame.mbx rfl⟩

/-- A response changes of the mailboxes only their rings. -/
theorem sendMbx_mbx {n : Nat} {m : Msg} : ∃ r, (sendMbx n m s).mbx = { s.mbx with rings := r } := by
  unfold sendMbx
  split
  · exact ⟨_, sendOn_frame.mbx rfl⟩
  · exact ⟨_, sendOn_frame.mbx rfl⟩
  · dsimp only
    split
    · obtain ⟨r, e⟩ := fillRing_mbx (n := n) (s := putRing { ringAt (send m s) n with owed := (ringAt (send m s) n).owed + msgEntries m } (send m s))
      refine ⟨r, e.trans ?_⟩
      unfold putRing
      rw [send_frame.mbx rfl]
    · exact ⟨_, send_frame.mbx rfl⟩

theorem connAt_sendMbx {n k : Nat} {m : Msg} : connAt (sendMbx n m s) k = connAt s k := by
  obtain ⟨r, e⟩ := sendMbx_mbx (s := s) (n := n) (m := m)
  unfold connAt
  rw [e]

theorem nonces_sendMbx {n : Nat} {m : Msg} : (sendMbx n m s).mbx.nonces = s.mbx.nonces := by
  obtain ⟨r, e⟩ := sendMbx_mbx (s := s) (n := n) (m := m)
  rw [e]

/-- The path of mailbox `n` is no session. -/
def Sessionless (s : State) (n : Nat) : Prop := ∀ q, pathAt s n ≠ some (.bryndle q) ∧ pathAt s n ≠ some (.tether q)

theorem sessionless_of_all {n : Nat} (h : (pathAt s n).all (fun p => p == .mctp || p == .endpoint) = true) : Sessionless s n := by
  intro q
  constructor <;> intro e <;> rw [e] at h <;> simp at h

theorem sessionless_of_path {n : Nat} {p : MbxPath} (h : pathAt s n = some p) (hPath : p = .mctp ∨ p = .endpoint) : Sessionless s n :=
  sessionless_of_all (by rw [h]; obtain rfl | rfl := hPath <;> rfl)

theorem sessionless_of_none {n : Nat} (h : connAt s n = none) : Sessionless s n :=
  sessionless_of_all (by unfold pathAt; rw [h]; rfl)

theorem Sessionless.congr {t : State} {n : Nat} (h : Sessionless s n) (e : pathAt t n = pathAt s n) : Sessionless t n := by
  unfold Sessionless
  rwa [e]

/-- A mailbox that has no connection is on MCTP or on the endpoint. -/
theorem barePath_cases {n : Nat} {p : MbxPath} (h : barePath s n = some p) : p = .mctp ∨ p = .endpoint := by
  unfold barePath at h
  split at h
  · exact .inr (Option.some.inj h).symm
  · split at h
    · exact .inl (Option.some.inj h).symm
    · cases h

/-- Entries that wait move into the ring; none is lost, and the head stays (R465). -/
theorem ringAt_fillRing {n : Nat} : (ringAt (fillRing n s) n).rspHead = (ringAt s n).rspHead ∧
    (ringAt (fillRing n s) n).rspTail + (ringAt (fillRing n s) n).owed = (ringAt s n).rspTail + (ringAt s n).owed := by
  have signalled {v : Nat} {z : State} : ringAt (signalVector v z) n = ringAt z n := by
    unfold ringAt
    rw [signalVector_frame.mbx rfl]
  unfold fillRing
  dsimp only
  split
  · exact ⟨rfl, rfl⟩
  · rw [signalled, ringAt_putRing]
    · exact ⟨rfl, by dsimp only; omega⟩
    · exact ringAt_mbx

/-! Requests (R465, R466) -/

theorem wake_running {cause : Nat} (hRun : s.pst.mode = .run) (hEntry : s.pst.entering = none) : wake cause s = s := by
  unfold wake
  rw [hRun, hEntry]
  rfl

/-- The state in which a request of mailbox `n` enters its ring: its connection, where it has one, has its instant. -/
def requested (n : Nat) (s : State) : State := (connAt s n).elim s (fun x => putConn { x with lastReq := mono s } s)

theorem requested_mbx {n : Nat} : ∃ k, requested n s = { s with mbx := k } ∧ k.rings = s.mbx.rings := by
  unfold requested
  cases connAt s n with
  | none => exact ⟨_, rfl, rfl⟩
  | some x => exact ⟨_, rfl, rfl⟩

theorem connAt_requested {n : Nat} : connAt (requested n s) n = (connAt s n).map (fun x => { x with lastReq := mono s }) := by
  unfold requested
  cases h : connAt s n with
  | none => exact h
  | some x => exact connAt_putConn_of (connAt_mbx (x := x) h)

theorem ringAt_requested {n : Nat} : ringAt (requested n s) n = ringAt s n := by
  obtain ⟨k, e, hRings⟩ := requested_mbx (s := s) (n := n)
  unfold ringAt
  rw [e]
  dsimp only
  rw [hRings]

theorem out_requested {n : Nat} : (requested n s).out = s.out := by
  obtain ⟨k, e, -⟩ := requested_mbx (s := s) (n := n)
  rw [e]

theorem tagHeld_requested {n tag : Nat} : tagHeld (requested n s) n tag = tagHeld s n tag := by
  unfold tagHeld
  rw [ringAt_requested, connAt_requested]
  cases connAt s n <;> rfl

/-- A whole message for which its ring has room is a request of its mailbox. -/
theorem execMailboxDoorbell_whole {mbx tag entries length tail : Nat} {endpoint : Bool} {opcode : Word16} (hMbx : mbx < 64)
    (hBound : endpoint = onEndpoint s mbx) (hRun : s.pst.mode = .run) (hEntry : s.pst.entering = none) (hServed : mbxServed s = true)
    (hWhole : wholeMessage entries length true = true) (hTail : endpoint = true → tail ≤ (ringAt s mbx).reqHead + 256)
    (hRoom : endpoint = false → ringUsed (ringAt s mbx) + entries ≤ 256) :
    execMailboxDoorbell mbx tag endpoint opcode entries length true tail s =
      .next (requestIn mbx tag opcode.toNat entries (requested mbx s)) := by
  have hOwn : (endpoint && !onEndpoint s mbx) = false ∧ (!endpoint && onEndpoint s mbx) = false := by
    rw [hBound]
    cases onEndpoint s mbx <;> exact ⟨rfl, rfl⟩
  have hAhead : (endpoint && decide ((ringAt s mbx).reqHead + 256 < tail)) = false := by
    cases endpoint with
    | false => rfl
    | true => simpa using hTail rfl
  have hFull : (!endpoint && decide (256 < ringUsed (ringAt s mbx) + entries)) = false := by
    cases endpoint with
    | false => simpa using hRoom rfl
    | true => rfl
  unfold execMailboxDoorbell
  simp only [Nat.not_le.mpr hMbx, hOwn.1, hOwn.2, wake_running hRun hEntry, ite_self, hServed, hWhole, hAhead, hFull, Bool.not_true,
    Bool.or_self, Bool.false_eq_true, if_false]
  rfl

theorem requestIn_joins {n tag opcode entries : Nat} (hKnown : catalogue.contains opcode = true) (hTag : tag < 64)
    (hFree : tagHeld s n tag = false) :
    requestIn n tag opcode entries s =
      putRing { ringAt s n with reqTail := (ringAt s n).reqTail + entries, ready := (ringAt s n).ready ++ [(tag, entries)] } s := by
  have ok : (tagHeld s n tag || decide (64 ≤ tag)) = false := by simp [hFree, hTag]
  unfold requestIn
  simp only [ok, hKnown, Bool.false_eq_true, if_false, if_true]

/-- A request whose tag is held or beyond 63 takes its place in the ring no longer than its answer E_TAG (R466). -/
theorem requestIn_badTag {n tag opcode entries : Nat} (h : 64 ≤ tag ∨ tagHeld s n tag = true) :
    requestIn n tag opcode entries s = sendMbx n (msg (.mbx n) .mailbox opcode tag eTag [])
      (putRing { ringAt s n with reqTail := (ringAt s n).reqTail + entries, reqHead := (ringAt s n).reqHead + entries } s) := by
  have bad : (tagHeld s n tag || decide (64 ≤ tag)) = true := by simpa using h.symm
  unfold requestIn
  simp only [bad, if_true]

theorem execResponseHeadWrite_moves {mbx head : Nat} (hMbx : mbx < 64) (hBound : onEndpoint s mbx = true) (hFrom : (ringAt s mbx).rspHead ≤ head)
    (hTo : head ≤ (ringAt s mbx).rspTail) :
    execResponseHeadWrite mbx head s = .next (fillRing mbx (putRing { ringAt s mbx with rspHead := head } s)) := by
  unfold execResponseHeadWrite
  simp only [Nat.not_le.mpr hMbx, hBound, hFrom, hTo, Bool.not_true, Bool.false_eq_true, and_self, if_false, if_true]

/-! Connections (R464) -/

theorem execMailboxIdleTimeout_idle {mbx : Nat} {x : Conn} (hConn : connAt s mbx = some x) (hPath : x.path = .mctp ∨ x.path = .endpoint)
    (hIdle : confirmed s x.lastReq (600 * secU) = true) : execMailboxIdleTimeout mbx s = .next (closeConn mbx s) := by
  have own : (x.path == .mctp || x.path == .endpoint) = true := by simpa using hPath
  unfold execMailboxIdleTimeout
  simp only [hConn, own, hIdle, Bool.and_self, if_true]

/-- The state in which a challenge is answered: its nonce is drawn and kept for its mailbox. -/
def nonceKept (mbx tag : Nat) (s : State) : State :=
  let z := (drawDigest (takeRequest mbx tag s)).2
  { z with mbx := { z.mbx with nonces := (mbx, (drawDigest s).1) :: z.mbx.nonces.filter (fun x => x.1 != mbx) } }

theorem execMbxChallenge_draws {mbx tag : Nat} {path : MbxPath} (hServed : mbxServed s = true) (hBare : barePath s mbx = some path)
    (hSan : s.block.shelfSan = none) (hConn : connAt s mbx = none) :
    execMbxChallenge mbx tag 0 s = .next (bareReply mbx tag 0x0001 sOk [(32, (drawDigest s).1.toNat)] (nonceKept mbx tag s)) := by
  have hDraw : (drawDigest (takeRequest mbx tag s)).1 = (drawDigest s).1 := by
    unfold drawDigest draw
    rw [takeRequest_frame.auth rfl]
  unfold execMbxChallenge nonceKept
  simp only [hServed, hBare, hSan, hConn, hDraw, Option.isNone_some, Option.isSome_none, Bool.not_true, Bool.or_self, bne_self_eq_false,
    Bool.false_eq_true, if_false]

theorem connAt_nonceKept {mbx tag n : Nat} : connAt (nonceKept mbx tag s) n = connAt s n := connAt_takeRequest

theorem execMbxOpen_opens {mbx tag : Nat} {kind : Byte} {key nonce : Digest} {grant : Option GrantRec} {who : Principal} {path : MbxPath}
    (hServed : mbxServed s = true) (hBare : barePath s mbx = some path) (hSan : s.block.shelfSan = none)
    (hKind : kind = 4 ∨ kind = 5 ∨ kind = 6) (hConn : connAt s mbx = none) (hNonce : s.mbx.nonces.lookup mbx = some nonce)
    (hWho : openWho s kind.toNat key grant = some who) (hRoom : (s.mbx.conns.filter (fun c => samePeer c.who who)).length < 2) :
    execMbxOpen mbx tag 0 kind key grant true s =
      .next (bareReply mbx tag 0x0002 sOk [] (openBare mbx path who key nonce (takeRequest mbx tag s))) := by
  unfold execMbxOpen
  simp only [hServed, hBare, hSan, hKind, hConn, hNonce, hWho, Nat.not_le.mpr hRoom, Option.isSome_none, Bool.not_true, decide_true,
    bne_self_eq_false, Bool.false_eq_true, if_false]

/-- The connection that a signed open makes, of its principal with trailer counter 0. -/
theorem connAt_openBare {mbx : Nat} {path : MbxPath} {who : Principal} {key nonce : Digest} :
    connAt (openBare mbx path who key nonce s) mbx =
      some { mbx := mbx, path := path, who := who, key := key, nonce := nonce, counter := 0, lastReq := mono s, tags := [],
             unanchored := !anchored s } :=
  connAt_putConn (x := { mbx := mbx, path := path, who := who, key := key, nonce := nonce, counter := 0, lastReq := mono s, tags := [],
                         unanchored := !anchored s })

theorem execMbxClose_closes {c : Call} {x : Conn} (k : Checked s c 0x0003 anyone x) (hPath : x.path = .mctp ∨ x.path = .endpoint) :
    execMbxClose c s = .next (closeConn c.mbx (reply c 0x0003 sOk [] (afterChecks s c x))) := by
  have act : (match (afterConn s x).path with
      | .bryndle n | .tether n => closeCtx sOk n (reply c 0x0003 sOk [] (afterChecks s c x))
      | .mctp | .endpoint => closeConn c.mbx (reply c 0x0003 sOk [] (afterChecks s c x))) =
      closeConn c.mbx (reply c 0x0003 sOk [] (afterChecks s c x)) := by
    rw [show (afterConn s x).path = x.path from rfl]
    obtain e | e := hPath <;> rw [e]
  refine congrArg Host.Outcome.next ((mailboxCmd_quiet k ?_).trans act)
  exact (congrArg (fun z : State => z.drv) act).trans ((closeConn_frame.drv rfl).trans (reply_frame.drv rfl))

theorem connAt_afterChecks_ne {c : Call} {x : Conn} {m : Nat} (hConn : connAt s c.mbx = some x) (h : m ≠ c.mbx) :
    connAt (afterChecks s c x) m = connAt s m := by
  unfold afterChecks
  refine Eq.trans ?_ (connAt_takeRequest (k := c.mbx) (t := c.tag))
  refine find_putBy_ne ?_ fun y hy => ?_ <;> have := connAt_mbx hConn <;> simp at * <;> omega

/-! The identity record (R471) -/

theorem execIdentityGet_answers {c : Call} {x : Conn} (k : Checked s c 0x0101 anyone x) :
    execIdentityGet c s = .next (reply c 0x0101 sOk (identityFlds s) (afterChecks s c x)) := by
  refine congrArg Host.Outcome.next (mailboxCmd_replies k ?_)
  rw [afterChecks_same identityFlds fun _ => rfl]

/-- Table 19.4 has 128 bytes. -/
theorem identityFlds_size : ((identityFlds s).map (fun f => f.1)).sum = 128 := by
  simp [identityFlds, asciiFld]

end

end Machine

open Machine

/-- Settles O1: `step` on a queue with a front. -/
theorem stepRunsTheFront : Obligations.StepRunsTheFront := by
  unfold Obligations.StepRunsTheFront
  exact fun c rest s h => step_of_front h

/-- Settles O3: every command stays in its footprint, and none names the queue or the vendor keys. -/
theorem commandsLeaveTheQueue : Obligations.CommandsLeaveTheQueue := by
  unfold Obligations.CommandsLeaveTheQueue
  intro i s t h
  obtain ⟨hQueue, hKeys⟩ := footprint_omits i
  exact ⟨exec_changesOnly i s t h .pending (by simpa using hQueue), exec_changesOnly i s t h .vendorKeys (by simpa using hKeys)⟩

/-- Settles O11: each event is taken apart once; a response changes of the mailboxes only their rings. -/
theorem mailboxRingsComplete : Obligations.MailboxRingsComplete := by
  unfold Obligations.MailboxRingsComplete
  refine ⟨?joins, ?badTag, ?head, ?idle, ?challenge, ?opens⟩
  case joins =>
    intro mbx tag endpoint opcode entries length tail s hMbx hBound hRun hEntry hServed hWhole hTail hRoom hKnown hTag hFree
    refine ⟨_, execMailboxDoorbell_whole hMbx hBound hRun hEntry hServed hWhole hTail hRoom, ?_⟩
    rw [requestIn_joins hKnown hTag (tagHeld_requested.trans hFree), ringAt_requested]
    exact ⟨ringAt_putRing (ringAt_mbx (s := s)), connAt_requested, out_requested⟩
  case badTag =>
    intro mbx tag endpoint opcode entries length tail s hMbx hBound hRun hEntry hServed hWhole hTail hRoom hBad hPath
    refine ⟨_, execMailboxDoorbell_whole hMbx hBound hRun hEntry hServed hWhole hTail hRoom, ?_⟩
    obtain ⟨k, e, -⟩ := requested_mbx (s := s) (n := mbx)
    rw [requestIn_badTag (hBad.imp_right tagHeld_requested.trans)]
    refine out_sendMbx ?_ ((sessionless_of_all hPath).congr ?_)
    · exact (congrArg (fun z : State => z.pwr.belay) e).trans (belay_of_served hServed)
    · show (connAt (requested mbx s) mbx).map (fun x => x.path) = _
      rw [connAt_requested, Option.map_map]
      rfl
  case head =>
    intro mbx head s hMbx hBound hFrom hTo
    refine ⟨_, execResponseHeadWrite_moves hMbx hBound hFrom hTo, ?_⟩
    obtain ⟨hHead, hSum⟩ := ringAt_fillRing (n := mbx) (s := putRing { ringAt s mbx with rspHead := head } s)
    rw [ringAt_putRing (r := { ringAt s mbx with rspHead := head }) ringAt_mbx] at hHead hSum
    exact ⟨hHead, hSum⟩
  case idle =>
    intro mbx x s hConn hPath hIdle
    exact ⟨_, execMailboxIdleTimeout_idle hConn hPath hIdle, connAt_closeConn.trans (if_pos rfl), fun m hm => connAt_closeConn.trans (if_neg hm)⟩
  case challenge =>
    intro mbx tag path s hServed hBare hSan hConn
    refine ⟨_, execMbxChallenge_draws hServed hBare hSan hConn, ?_, out_sendMbx ?_ (sessionless_of_none (connAt_nonceKept.trans hConn))⟩
    · refine (congrArg (fun l : List (Nat × Digest) => l.lookup mbx) nonces_sendMbx).trans ?_
      exact List.lookup_cons_self
    · exact (congrArg (fun p : Power => p.belay) ((takeRequest_frame (a1 := mbx) (a2 := tag)).pwr rfl)).trans (belay_of_served hServed)
  case opens =>
    intro mbx tag kind key nonce grant who path s hServed hBare hSan hKind hConn hNonce hWho hRoom
    refine ⟨_, execMbxOpen_opens hServed hBare hSan hKind hConn hNonce hWho hRoom, out_sendMbx ?_ ?_, ?_⟩
    · exact (congrArg (fun p : Power => p.belay) ((takeRequest_frame (a1 := mbx) (a2 := tag)).pwr rfl)).trans (belay_of_served hServed)
    · exact sessionless_of_path (congrArg (Option.map fun x : Conn => x.path) connAt_openBare) (barePath_cases hBare)
    · refine (congrArg (Option.map _) (connAt_sendMbx.trans connAt_openBare)).trans ?_
      rw [mono_takeRequest]
      rfl

/-- Settles O12: the answer leaves before its connection closes, and closing takes back neither a message that has left nor one that stands. -/
theorem mbxCloseCompletes : Obligations.MbxCloseCompletes := by
  unfold Obligations.MbxCloseCompletes
  intro c x s k hPath
  have hConn : connAt s c.mbx = some x := k.2.1
  refine ⟨_, execMbxClose_closes k hPath, (reachable_afterChecks k).answers, connAt_closeConn.trans (if_pos rfl), fun m hm => ?_⟩
  exact (connAt_closeConn.trans (if_neg hm)).trans (connAt_sendMbx.trans (connAt_afterChecks_ne hConn hm))

/-- Settles O13: the record is read of the state before the checks, which touch nothing it names. -/
theorem identityGetReturnsItsRecord : Obligations.IdentityGetReturnsItsRecord := by
  unfold Obligations.IdentityGetReturnsItsRecord
  exact fun c x s k => ⟨execIdentityGet_answers k, identityFlds_size⟩

end Sys2Proof
end

section
/-!
PROOFS. PARAM_SET and the base image (19 R474; 20 R476, R478). Neither what changed parameters do at once nor the answer writes the base layer.
The quorum act BASE_LOAD is answered as every act of a ceremony: begun at the mate's own place, its answer goes to the partner.
-/
namespace Sys2Proof
namespace Machine

section
variable {s t : State} {c : Call} {x : Conn} {es : List ParamWrite}

theorem Frame.base {w : Nat} (h : Frame w t s) (k : w.testBit 30 = false) : t.layers.base = s.layers.base :=
  congrArg (fun p => p.1) (h.config k)

/-- Of the base layer an accepted set leaves what its entries make it. -/
theorem base_applySet : (applySet es s).layers.base = (withSets es s).layers.base := by
  have acted {z : State} : Frame 436474672104 (es.foldl (fun acc e => entryActs e acc) z) z := frame_foldl (fun _ _ => entryActs_frame) .refl
  exact (acted.base rfl).trans (paramEffects_frame.base rfl)

/-- The entries of a set read and write the layers alone. -/
theorem setEntry_layers {r : State} {e : ParamWrite} (h : t.layers = r.layers) : (setEntry e t).layers = (setEntry e r).layers := by
  unfold setEntry baseEntry baseWord
  rw [h]

theorem withSets_layers {r : State} (h : t.layers = r.layers) : (withSets es t).layers = (withSets es r).layers := by
  induction es generalizing t r with
  | nil => exact h
  | cons e es ih => exact ih (setEntry_layers h)

theorem base_withSets_afterChecks : (withSets es (afterChecks s c x)).layers.base = (withSets es s).layers.base :=
  congrArg (fun l => l.base) (withSets_layers (afterChecks_same (fun z => z.layers) fun _ => rfl))

/-- A set that the checks let through is applied whole and answered S_OK. -/
theorem paramSetCmd_accepted (k : Checked s c 0x0103 isCustOper x) (hUse : s.boot.firstUse = false)
    (hChecks : checkSet (.param (isOperator x.who)) (afterChecks s c x) (withSets es (afterChecks s c x))
      (fun a => baseWord (afterChecks s c x) a (resetWord a)) es = none)
    (up : s.pst.drivesDown = false) (hLen : es.length = 1 ∨ es.length = 2) :
    Acted (paramSetCmd c es.length es s) (reply c 0x0103 sOk [(2, 0xFFFF), (6, 0)] (applySet es (afterChecks s c x))) := by
  have hUse : (afterChecks s c x).boot.firstUse = false := (afterChecks_same (fun z => z.boot.firstUse) fun _ => rfl).trans hUse
  have hOpen : firstBad (fun e => (afterChecks s c x).boot.firstUse && !firstUseField e) es = none := by
    unfold firstBad
    simp [hUse]
  have hCount : ¬ (es.length = 0 ∨ 64 < es.length) := by omega
  refine (mailboxCmd_acted k up).of_eq ?_
  simp only [ne_eq, not_true_eq_false, hCount, if_false, hOpen, afterConn_who, hChecks]

/-- A row that names one write is PARAM_SET of the entries it takes, one or two. -/
theorem paramSet_completes {i : Instr} (hExec : exec i s = .next (paramSetCmd c es.length es s)) (hLen : es.length = 1 ∨ es.length = 2)
    (k : Checked s c 0x0103 isCustOper x) (hUse : s.boot.firstUse = false)
    (hChecks : checkSet (.param (isOperator x.who)) (afterChecks s c x) (withSets es (afterChecks s c x))
      (fun a => baseWord (afterChecks s c x) a (resetWord a)) es = none)
    (up : s.pst.drivesDown = false) :
    Completes i s (fun t => { t with pst := s.pst }
      = { reply c 0x0103 sOk [(2, 0xFFFF), (6, 0)] (applySet es (afterChecks s c x)) with pst := s.pst } ∧
      t.layers.base = (withSets es s).layers.base) := by
  have acted := paramSetCmd_accepted k hUse hChecks up hLen
  refine ⟨_, hExec, by rw [acted], ?_⟩
  calc (paramSetCmd c es.length es s).layers.base
    _ = (reply c 0x0103 sOk [(2, 0xFFFF), (6, 0)] (applySet es (afterChecks s c x))).layers.base := by rw [acted]
    _ = (withSets es (afterChecks s c x)).layers.base := (reply_frame.base rfl).trans base_applySet
    _ = (withSets es s).layers.base := base_withSets_afterChecks

end

/-! A base image begun at the mate's place (20 R478; 02 R42) -/

/-- The base image of generation 1, without an entry. -/
def bareImage : BaseImage :=
  { version := 1, svcClass := 1, length := 64, count := 0, shelf := State.reset.boot.shelfId, generation := 1, releaseOk := true, rsv := 0,
    entries := [], digest := 9 }

/-- The ceremony that loads it, signed by its quorum. -/
def imageCeremony : Ceremony :=
  { timeKeyCeremony [11, 12] with
    opcode := actOp (.baseLoad bareImage), act := .baseLoad bareImage, target := actTarget (.baseLoad bareImage) }

/-- The serving module with custodian 11 at the mate's place and the ceremony open. -/
def mateImageState : State := { servingState with
  mbx := { servingState.mbx with conns := [custodianConn matePlace .mctp] },
  auth := { servingState.auth with ceremonies := [imageCeremony] } }

end Machine

open Machine

/-- Settles O19: each row is PARAM_SET of the entries it names. -/
theorem parameterWritesComplete : Obligations.ParameterWritesComplete := by
  unfold Obligations.ParameterWritesComplete
  refine ⟨?set, ?tsStatus, ?scrub, ?portMode, ?portRestart, ?movAbort, ?slotReset, ?sepCtrl, ?sepMap, ?home, ?handover, ?reeve, ?slotCh⟩
  case set => exact fun c e x s => paramSet_completes (es := [e]) rfl (.inl rfl)
  case tsStatus => exact fun c x s => paramSet_completes rfl (.inl rfl)
  case scrub => exact fun c x s => paramSet_completes rfl (.inl rfl)
  case portMode => exact fun c port mode x s => paramSet_completes rfl (.inl rfl)
  case portRestart => exact fun c port x s => paramSet_completes rfl (.inl rfl)
  case movAbort => exact fun c channels x s => paramSet_completes rfl (.inr rfl)
  case slotReset => exact fun c slot x s => paramSet_completes rfl (.inl rfl)
  case sepCtrl => exact fun c enable x s => paramSet_completes rfl (.inl rfl)
  case sepMap => exact fun c map x s => paramSet_completes rfl (.inr rfl)
  case home => exact fun c low high x s => paramSet_completes rfl (.inr rfl)
  case handover => exact fun c x s => paramSet_completes rfl (.inl rfl)
  case reeve => exact fun c x s => paramSet_completes rfl (.inl rfl)
  case slotCh => exact fun c slot value x s => paramSet_completes rfl (.inl rfl)

set_option maxRecDepth 10000 in
/-- Refutes O20: the answer to a BASE_LOAD at the mate's place goes to the partner, not into a response ring. -/
theorem not_paramGetOverlaysBaseComplete : ¬ Obligations.ParamGetOverlaysBaseComplete := by
  unfold Obligations.ParamGetOverlaysBaseComplete
  rintro ⟨-, -, -, -, load⟩
  have done := load (firstCall matePlace) 77 bareImage (custodianConn matePlace .mctp) imageCeremony mateImageState
    (by decide) (by decide) (by decide) rfl rfl
  have answered := done.nextWith (p := fun t => decide (AnswersInTime (firstCall matePlace) 0x0603 sOk [] t)) fun t ht => decide_eq_true ht.2.2.2
  exact absurd answered (by decide)

end Sys2Proof
end

section
/-!
PROOFS. The MACs (14 R356 to R370; 15 R384; 16 R397, R402). Each event on one of the 32 MACs takes the branch that its conditions choose; a link
that goes down is written and counted before its event is raised, which touches neither.
-/
namespace Sys2Proof
namespace Machine

section
variable {s : State} {mac : Nat} {m : Mac}

theorem onMac_of_lt {act : State → State} (h : mac < 32) : onMac mac act s = .next (act s) :=
  congrArg Host.Outcome.next (if_neg (Nat.not_le.mpr h))

/-- An event on one of the 32 MACs answers what its rules make of the state. -/
theorem onMac_answers {act : State → State} {z : State} (h : mac < 32) (e : act s = z) : onMac mac act s = .next z :=
  (onMac_of_lt h).trans (congrArg Host.Outcome.next e)

theorem macAt_num (h : macAt s mac = some m) : m.num = mac := by
  have := List.find?_some h
  simpa using this

theorem macAt_putMac (h : m.num = mac) : macAt (putMac m s) mac = some m := by
  subst h
  exact find_putBy (by simp)

theorem Frame.macAt {w : Nat} {t : State} (h : Frame w t s) (k : w.testBit 21 = false) : macAt t mac = Machine.macAt s mac := by
  unfold Machine.macAt
  rw [h.net k]

/-! Flow control sent (R366) -/

theorem execXoffRefresh_renews {cls : Nat} {y : Xoff} (hMac : mac < 32) (hAt : (xoffAt s mac cls).filter (fun z => z.active) = some y)
    (hFresh : confirmed s y.since (pMacPauseWdog s mac * msU) = false) (hDue : y.last + quantaNs s mac xoffQuanta * nsU / 2 ≤ mono s) :
    execXoffRefresh mac cls s = .next (putXoff mac { y with last := mono s } (sendPause mac cls xoffQuanta s)) := by
  refine onMac_answers hMac ?_
  simp only [hAt, hFresh, hDue, Bool.false_eq_true, if_false, if_true]

theorem execXoffRefresh_stops {cls : Nat} {y : Xoff} (hMac : mac < 32) (hAt : (xoffAt s mac cls).filter (fun z => z.active) = some y)
    (hLong : confirmed s y.since (pMacPauseWdog s mac * msU) = true) :
    execXoffRefresh mac cls s =
      .next (raise stMAC 0 mac (putXoff mac { y with active := false, barred := some (mono s + pMacPauseIgnore s mac * msU) } s)) := by
  refine onMac_answers hMac ?_
  simp only [hAt, hLong, if_true]

/-! Frames and address traffic (R359, R362) -/

theorem execFrameReceive_taken {f : FrameIn} (hMac : f.mac < 32) (hAt : macAt s f.mac = some m) (hUp : m.linkUp = true)
    (hCtrl : pMacCtrl0 s f.mac = 1) (hOn : s.pwr.socOn = true) (hBelay : s.pwr.belay = none) (hAwake : s.pst.mode ≠ .dormant) :
    execFrameReceive f s = .next (takeFrame f s) := by
  have hMode : (s.pst.mode == .dormant) = false := beq_eq_false_iff_ne.mpr hAwake
  refine onMac_answers hMac ?_
  simp only [hAt, Option.any_some, hUp, hCtrl, hOn, hBelay, hMode, Nat.reduceBEq, Option.isSome_none, Bool.not_true, Bool.or_self,
    Bool.false_eq_true, if_false]

theorem execArpRequest_answers {who : Nat} {v6 : Bool} {target : BitVec 128} (hMac : mac < 32) (hServes : macAnswers s mac = true)
    (hOwn : answersFor s mac v6 target.toNat = true) :
    execArpRequest mac v6 target who s = .next (sendNeighbour mac 2 v6 who target.toNat s) := by
  refine onMac_answers hMac ?_
  simp only [hServes, hOwn, Bool.and_self, if_true]

theorem execIcmpEcho_answers {who : Nat} {v6 : Bool} {data : Bytes} (hMac : mac < 32) (hAt : macAt s mac = some m)
    (hServes : macAnswers s mac = true) (hSecond : mono s < m.echoAt + secU) (hCount : m.echoes < 100)
    (hFits : data.length + 70 ≤ pMacFrameMax s mac) :
    execIcmpEcho mac v6 who data s = .next (transmit mac .fair .shelf (classOf s mac) (data.length + 70)
      { port := .mac mac, kind := .frame, op := if v6 then 129 else 0, tag := 0, status := 0, body := [(6, who), (6, stationOf s mac)],
        data := data }
      (putMac { m with echoes := m.echoes + 1 } s)) := by
  have hWithin : ¬ (100 ≤ m.echoes ∨ pMacFrameMax s mac < data.length + 70) := by omega
  refine onMac_answers hMac ?_
  simp only [hAt, hServes, Option.filter_some, Nat.not_le.mpr hSecond, hWithin, if_false, if_true]

theorem execNeighbourRefresh_resolves {tenant : Nat} {q : Quiet} (hMac : mac < 32) (hQuiet : quietOf s tenant = some q)
    (hNamed : q.item.macs.getLsbD mac = true) (hServes : macAnswers s mac = true) (hAt : macAt s mac = some m) :
    execNeighbourRefresh mac tenant s = .next (sendNeighbour mac 1 (q.item.ipVer == 6) (2 ^ 48 - 1)
      (hopOf s mac (q.item.ipVer == 6) q.item.sink.toNat) (putMac { m with sinkAt := some (mono s) } s)) := by
  refine onMac_answers hMac ?_
  simp only [hQuiet, hNamed, hServes, hAt, Option.filter_some, Bool.and_self, if_true]

/-! Links and optics (R358, R370) -/

theorem execLinkUp_trains (hMac : mac < 32) (hAt : macAt s mac = some m) (hDown : m.linkUp = false) (hCage : cageCarries s (mac / 8) = true)
    (hCtrl : pMacCtrl0 s mac = 1) (hOn : s.pwr.socOn = true) (hAwake : s.pst.mode ≠ .dormant) :
    execLinkUp mac s = .next (pumpMac mac (sendNeighbour mac 2 true (2 ^ 48 - 1) (ownAddress s mac true)
      (sendNeighbour mac 2 false (2 ^ 48 - 1) (ownAddress s mac false) (putMac { m with linkUp := true } s)))) := by
  have hMode : (s.pst.mode == .dormant) = false := beq_eq_false_iff_ne.mpr hAwake
  refine onMac_answers hMac ?_
  simp only [hAt, Option.filter_some, hDown, hCage, hCtrl, hOn, bne, hMode, beq_self_eq_true, Bool.not_false, Bool.true_or, Bool.and_self,
    Bool.false_eq_true, if_false, if_true]

/-- The state in which a MAC's link is down and counted (R370). -/
def linkLost (m : Mac) (s : State) : State :=
  setFigure (0x02001004 + 256 * m.num) (min 255 (figure s (0x02001004 + 256 * m.num) + 1))
    (putMac { m with linkUp := false, sending := none, pauses := [], xoffs := [] } s)

theorem execLinkDown_lost (hMac : mac < 32) (hAt : macAt s mac = some m) (hUp : m.linkUp = true) (hAwake : s.pst.mode ≠ .dormant) :
    execLinkDown mac s = .next (raise stMAC 2 mac (linkLost m s)) := by
  have hMode : (s.pst.mode == .dormant) = false := beq_eq_false_iff_ne.mpr hAwake
  have hNum := macAt_num hAt
  subst hNum
  refine onMac_answers hMac ?_
  simp only [hAt, Option.any_some, Option.filter_some, hUp, hMode, dropLink, Bool.false_and, Bool.false_eq_true, if_false, if_true]
  rfl

theorem macAt_linkLost : macAt (linkLost m s) m.num = some { m with linkUp := false, sending := none, pauses := [], xoffs := [] } :=
  (setFigure_frame.macAt rfl).trans (macAt_putMac rfl)

theorem figure_linkLost : figure (linkLost m s) (0x02001004 + 256 * m.num) = min 255 (figure s (0x02001004 + 256 * m.num) + 1) :=
  figure_setFigure (by omega)

/-- What stands in a cage changes: an empty or a refused one restarts its port, and a refused one is reported (R358). -/
theorem execOpticInsert_eq {port media cls : Nat} (hPort : port < 4) :
    execOpticInsert port media cls s = .next (
      let refused := media == 3 && decide (16 < cls)
      let cage : Cage := { media := media % 4, present := media != 0, powered := media != 0 && !refused, cls := cls }
      let z := { s with net := { s.net with cages := s.net.cages.set port cage } }
      let r := if media = 0 ∨ refused = true then restartPort port z else z
      if refused then raise stMAC 1 (8 * port) r else r) :=
  if_neg (Nat.not_le.mpr hPort)

/-! Pause received (R364, R365) -/

theorem execPauseFrame_ignored {pfc : Bool} {prios : List (Nat × Nat)} (hMac : mac < 32) (hAt : macAt s mac = some m) (hUp : m.linkUp = true)
    (hOff : pMacCtrl4 s mac ≠ (if pfc then 2 else 1)) :
    execPauseFrame mac pfc prios s = .next (bumpFigure (0x020010F8 + 256 * mac) 1 s) := by
  refine onMac_answers hMac ?_
  simp only [hAt, Option.any_some, hUp, hOff, Bool.not_true, Bool.false_eq_true, if_false]

theorem execPauseFrame_pfc {prios : List (Nat × Nat)} (hMac : mac < 32) (hAt : macAt s mac = some m) (hUp : m.linkUp = true)
    (hOn : pMacCtrl4 s mac = 2) :
    execPauseFrame mac true prios s = .next (pumpMac mac ((prios.filter (fun y => decide (y.1 < 8))).foldl
      (fun acc y => takePause mac y.1 y.2 acc) (bumpFigure (0x020010F8 + 256 * mac) 1 s))) := by
  refine onMac_answers hMac ?_
  simp only [hAt, Option.any_some, hUp, hOn, Bool.not_true, Bool.false_eq_true, if_false, if_true]

theorem execPauseExpiry_elapsed {prio n : Nat} (hMac : mac < 32) (hAt : macAt s mac = some m) (hUntil : (pauseAt m prio).until_ = some n)
    (hPast : n ≤ mono s) :
    execPauseExpiry mac prio s = .next (pumpMac mac (putPause mac { pauseAt m prio with until_ := none, heldAt := none } s)) := by
  refine onMac_answers hMac ?_
  simp only [hAt, hUntil, Option.any_some, hPast, decide_true, if_true]

theorem execPauseWatchdogTrip_trips {prio n k : Nat} (hMac : mac < 32) (hAt : macAt s mac = some m) (hUntil : (pauseAt m prio).until_ = some n)
    (hHeld : (pauseAt m prio).heldAt = some k) (hDue : confirmed s k (pMacPauseWdog s mac * msU) = true)
    (hLong : k + pMacPauseWdog s mac * msU < n) :
    execPauseWatchdogTrip mac prio s = .next (pumpMac mac (raise stMAC 0 mac (putPause mac
      { pauseAt m prio with until_ := none, heldAt := none, ignore := some (mono s + pMacPauseIgnore s mac * msU) } s))) := by
  have trips : (pauseAt m prio).heldAt.any (fun t => confirmed s t (pMacPauseWdog s mac * msU) &&
      (pauseAt m prio).until_.any (fun e => decide (t + pMacPauseWdog s mac * msU < e))) = true := by
    rw [hHeld, hUntil, Option.any_some, Option.any_some, hDue, Bool.true_and]
    exact decide_eq_true hLong
  refine onMac_answers hMac ?_
  simp only [hAt]
  exact if_pos trips

theorem execPauseIgnoreEnd_ends {prio n : Nat} (hMac : mac < 32) (hAt : macAt s mac = some m) (hIgnore : (pauseAt m prio).ignore = some n)
    (hPast : n ≤ mono s) :
    execPauseIgnoreEnd mac prio s = .next (putPause mac { pauseAt m prio with ignore := none } s) := by
  refine onMac_answers hMac ?_
  simp only [hAt, hIgnore, Option.any_some, hPast, decide_true, if_true]

/-! Frames sent (15 R384) -/

theorem execFrameTransmitComplete_sent {cls n : Nat} (hMac : mac < 32) (hAt : macAt s mac = some m) (hSending : m.sending = some (cls, n)) :
    execFrameTransmitComplete mac s = .next (pumpMac mac (endXoffs (readOut (fun f =>
      (s.hold.frames.find? (fun g => g.output == mac && g.cls == cls)).any (fun y => y.id == f.id)) (putMac { m with sending := none } s)))) := by
  refine onMac_answers hMac ?_
  simp only [hAt, hSending]

end

end Machine

open Machine

/-- Settles O39: each event takes the branch that its conditions choose. -/
theorem macCommandsComplete : Obligations.MacCommandsComplete := by
  unfold Obligations.MacCommandsComplete
  refine ⟨?renews, ?stops, fun f m s => execFrameReceive_taken, fun mac who v6 target s => execArpRequest_answers,
    fun mac who v6 data m s => execIcmpEcho_answers, ?resolve6, ?resolve4, fun mac m s => execLinkUp_trains, ?down, ?carried, ?refused, ?emptied,
    fun mac pfc prios m s => execPauseFrame_ignored, fun mac prios m s => execPauseFrame_pfc, fun mac prio n m s => execPauseExpiry_elapsed,
    fun mac prio n k m s => execPauseWatchdogTrip_trips, fun mac prio n m s => execPauseIgnoreEnd_ends,
    fun mac cls n m s => execFrameTransmitComplete_sent⟩
  case renews => exact fun mac cls y s => execXoffRefresh_renews
  case stops => exact fun mac cls y s => execXoffRefresh_stops
  case resolve6 =>
    intro mac tenant q m s hMac hQuiet hNamed hServes hAt h6
    refine (execNeighbourRefresh_resolves hMac hQuiet hNamed hServes hAt).trans ?_
    rw [beq_iff_eq.mpr h6]
    rfl
  case resolve4 =>
    intro mac tenant q m s hMac hQuiet hNamed hServes hAt h4
    refine (execNeighbourRefresh_resolves hMac hQuiet hNamed hServes hAt).trans ?_
    rw [beq_eq_false_iff_ne.mpr h4]
    rfl
  case down =>
    intro mac m s hMac hAt hUp hAwake
    refine ⟨_, execLinkDown_lost hMac hAt hUp hAwake, ?_⟩
    have hNum := macAt_num hAt
    subst hNum
    exact ⟨(raise_frame.macAt rfl).trans macAt_linkLost, (figure_raise (by omega)).trans figure_linkLost⟩
  case carried =>
    intro port media cls s hPort hMedia
    refine (execOpticInsert_eq hPort).trans ?_
    obtain rfl | rfl | ⟨rfl, hPower⟩ := hMedia
    · rfl
    · rfl
    · simp [Nat.not_lt.mpr hPower]
  case refused =>
    intro port cls s hPort hPower
    refine (execOpticInsert_eq hPort).trans ?_
    simp [hPower]
  case emptied => exact fun port cls s hPort => execOpticInsert_eq hPort

end Sys2Proof
end

section
/-!
PROOFS. The power channels (21 R498 to R507). What the unit writes in a channel stands there: what it tells the partner, the rest of the module
and the observers of its events leaves its record whole.
-/
namespace Sys2Proof
namespace Machine

section
variable {s t : State} {ch : ChanId} {k : Fin 24}

@[simp] theorem feedAt_putFeed {f : Feed} : feedAt (putFeed ch f s) ch = f := by
  cases ch with
  | input => rfl
  | slot n => exact feedAt_putFeed_slot

@[simp] theorem feedAt_feedTo {st : FeedState} :
    feedAt (feedTo ch st s) ch = { feedAt s ch with state := st, since := s.time.ticks, waits := false } := feedAt_putFeed

theorem putFeed_belay {f : Feed} : (putFeed ch f s).pwr.belay = s.pwr.belay := by
  cases ch <;> rfl

/-! Insertion and turns (R498) -/

theorem execInsertDelayExpiry_due (hState : (feedAt s ch).state = .insert)
    (hDue : ticked s (feedAt s ch).since (insertDelay s ch) = true) (hMay : mayStart (feedAt s ch) = true) :
    execInsertDelayExpiry ch s = .next (toPrecharge ch s) := by
  unfold execInsertDelayExpiry
  simp only [hState, hDue, hMay, beq_self_eq_true, Bool.and_self, if_true]

theorem execStaggerTurn_due (hState : (feedAt s (.slot k)).state = .insert ∨ (feedAt s (.slot k)).state = .retry)
    (hWaits : (feedAt s (.slot k)).waits = true) (hMay : mayStart (feedAt s (.slot k)) = true) :
    execStaggerTurn k s = .next (toPrecharge (.slot k) s) := by
  have waiting : ((feedAt s (.slot k)).state == .insert || (feedAt s (.slot k)).state == .retry) = true := by simpa using hState
  unfold execStaggerTurn
  simp only [hWaits, waiting, hMay, Bool.and_self, if_true]

/-- A channel enters PRECHARGE with its attempt. -/
def precharging (ch : ChanId) (s : State) : State :=
  putFeed ch { feedAt s ch with state := .precharge, since := s.time.ticks, attempt := s.time.ticks, waits := false } s

/-- A slot channel at its turn enters PRECHARGE, and the next turn counts from here. -/
theorem toPrecharge_atTurn (hTurn : turnComes s k = true) :
    toPrecharge (.slot k) s =
      { precharging (.slot k) s with pwr := { (precharging (.slot k) s).pwr with lastTurn := some s.time.ticks } } :=
  if_pos hTurn

/-! Pre-charge and ramp (R499, R500) -/

theorem execPrechargeDone_reached {mv : Nat} (hState : (feedAt s ch).state = .precharge) (hOut : s.pwr.sensed ≤ 2 * mv) :
    execPrechargeDone ch mv s = .next (feedTo ch .ramp s) := by
  unfold execPrechargeDone
  simp only [hState, hOut, beq_self_eq_true, decide_true, Bool.and_self, if_true]

theorem execPrechargeTimeout_due (hState : (feedAt s ch).state = .precharge)
    (hDue : ticked s (feedAt s ch).since (prechargeTime s ch) = true) : execPrechargeTimeout ch s = .next (failAttempt ch false s) := by
  unfold execPrechargeTimeout
  simp only [hState, hDue, beq_self_eq_true, Bool.and_self, if_true]

theorem execRampDone_reached {mv : Nat} (hState : (feedAt s ch).state = .ramp) (hOut : 9 * s.pwr.sensed ≤ 10 * mv) :
    execRampDone ch mv true s =
      .next (putFeed ch { feedAt (feedTo ch .qualify s) ch with attempt := s.time.ticks } (feedTo ch .qualify s)) := by
  unfold execRampDone
  simp only [hState, hOut, beq_self_eq_true, decide_true, Bool.and_self, if_true]

theorem execRampFaultTimeout_due (hState : (feedAt s ch).state = .ramp)
    (hDue : ticked s (feedAt s ch).since (rampFaultTime s ch) = true) : execRampFaultTimeout ch s = .next (failAttempt ch false s) := by
  unfold execRampFaultTimeout
  simp only [hState, hDue, beq_self_eq_true, Bool.and_self, if_true]

/-! The current limit (R501) -/

/-- A channel in QUALIFY or GOOD enters LIMIT: the input's is reported, a slot's is told to the partner. -/
theorem execCurrentLimitReached_limits {ma : Nat} (hState : (feedAt s ch).state = .qualify ∨ (feedAt s ch).state = .good)
    (hLimit : currentLimit s ch ≤ ma) :
    ∃ t, execCurrentLimitReached ch ma s = .next t ∧ feedAt t ch =
      { feedAt s ch with state := .limit, since := s.time.ticks, fromGood := (feedAt s ch).state == .good,
                         attempt := if (feedAt s ch).state == .good then s.time.ticks else (feedAt s ch).attempt } := by
  have drawing : ((feedAt s ch).state == .qualify || (feedAt s ch).state == .good) = true := by simpa using hState
  unfold execCurrentLimitReached
  simp only [drawing, hLimit, decide_true, Bool.and_self, if_true]
  cases ch with
  | input => exact ⟨_, rfl, (powerBit_frame.feedAt rfl _).trans feedAt_putFeed⟩
  | slot n => exact ⟨_, rfl, (tellMate_frame.feedAt rfl _).trans feedAt_putFeed⟩

/-- A channel whose current has fallen returns from LIMIT to the state it came from. -/
theorem execLimitRelease_returns {us : Nat} (hState : (feedAt s ch).state = .limit) (hBelow : 10 ≤ us) :
    ∃ t, execLimitRelease ch us s = .next t ∧ feedAt t ch =
      { feedAt s ch with state := if (feedAt s ch).fromGood then .good else .qualify, since := s.time.ticks, waits := false } := by
  unfold execLimitRelease
  simp only [hState, hBelow, beq_self_eq_true, decide_true, Bool.and_self, if_true]
  cases ch with
  | input => exact ⟨_, rfl, feedAt_feedTo⟩
  | slot n => exact ⟨_, rfl, (tellMate_frame.feedAt rfl _).trans feedAt_feedTo⟩

theorem execFaultTimerExpiry_due (hState : (feedAt s ch).state = .limit) (hDue : ticked s (feedAt s ch).since (faultTime s ch) = true) :
    execFaultTimerExpiry ch s = .next (failAttempt ch true s) := by
  unfold execFaultTimerExpiry
  simp only [hState, hDue, beq_self_eq_true, Bool.and_self, if_true]

/-! Power good (R502) -/

/-- A slot channel that has qualified is GOOD, whether or not its drive's discovery begins. -/
theorem execPgQualified_slot {us : Nat} (hState : (feedAt s (.slot k)).state = .qualify) (hHeld : qualTime s (.slot k) ≤ us)
    (hDue : ticked s (feedAt s (.slot k)).since (qualTime s (.slot k) * 1000) = true) :
    ∃ t, execPgQualified (.slot k) us s = .next t ∧
      feedAt t (.slot k) = { feedAt s (.slot k) with state := .good, since := s.time.ticks, pg := true } := by
  have told {z : State} : feedAt (tellMate k z) (.slot k) = feedAt z (.slot k) := tellMate_frame.feedAt rfl _
  unfold execPgQualified
  simp only [hState, hHeld, hDue, beq_self_eq_true, decide_true, Bool.and_self, if_true]
  refine ⟨_, rfl, ?_⟩
  split
  · exact (startDiscovery_frame.feedAt rfl _).trans (told.trans feedAt_putFeed)
  · exact told.trans feedAt_putFeed

theorem execPgQualified_input {us : Nat} (hState : s.pwr.input.state = .qualify) (hHeld : qualTime s .input ≤ us)
    (hDue : ticked s s.pwr.input.since (qualTime s .input * 1000) = true) :
    execPgQualified .input us s =
      .next (inputGood (putFeed .input { s.pwr.input with state := .good, since := s.time.ticks, pg := true } s)) := by
  unfold execPgQualified
  simp only [feedAt, hState, hHeld, hDue, beq_self_eq_true, decide_true, Bool.and_self, if_true]

theorem execPgLoss_low {mv : Nat} (hState : (feedAt s ch).state = .good) (hLow : 100 * mv < pPwrPgLow (unitView s) * s.pwr.sensed) :
    execPgLoss ch mv s = .next (slotFollows ch
      (putFeed ch { feedAt s ch with state := .qualify, since := s.time.ticks, pg := false, attempt := s.time.ticks } s)) := by
  unfold execPgLoss
  simp only [hState, hLow, beq_self_eq_true, decide_true, Bool.and_self, if_true]

/-! Retry, damage and latches (R503 to R507) -/

theorem execRetryWaitEnd_over (hState : (feedAt s ch).state = .retry) (hOver : (feedAt s ch).retryEnd ≤ s.time.ticks)
    (hBelay : s.pwr.belay.isSome = false) (hMay : mayStart (feedAt s ch) = true) :
    execRetryWaitEnd ch s = .next (toPrecharge ch s) := by
  unfold execRetryWaitEnd
  simp only [hState, Nat.not_lt.mpr hOver, hBelay, hMay, bne_self_eq_false, decide_false, Bool.or_self, Bool.and_false, Bool.false_eq_true,
    if_false, if_true]

theorem execFailureCountClear_due (hState : (feedAt s ch).state = .good) (hDue : ticked s (feedAt s ch).since 1000000000 = true) :
    execFailureCountClear ch s = .next (putFeed ch { feedAt s ch with fails := 0 } s) := by
  unfold execFailureCountClear
  simp only [hState, hDue, beq_self_eq_true, Bool.and_self, if_true]

/-- A test that a device has failed for its whole time latches its channel, but for the input's device that conducts when off (R504). -/
theorem execDeviceDamage_latches {test : DamageTest} {us : Nat} (hRuns : (damageTest test (feedAt s ch)).1 = true)
    (hWhole : (damageTest test (feedAt s ch)).2 ≤ us) (hOther : ¬ (ch = .input ∧ test = .conductsWhenOff)) :
    execDeviceDamage ch test us s = .next (latchChannel ch 2 s) := by
  unfold execDeviceDamage
  simp only [hRuns, Nat.not_lt.mpr hWhole, Bool.not_true, decide_false, Bool.or_self, Bool.false_eq_true, if_false]
  split
  · exact absurd ⟨rfl, rfl⟩ hOther
  · rfl

theorem execDeviceDamage_input {us : Nat} (hRuns : (damageTest .conductsWhenOff s.pwr.input).1 = true)
    (hWhole : (damageTest .conductsWhenOff s.pwr.input).2 ≤ us) :
    execDeviceDamage .input .conductsWhenOff us s =
      .next (powerBit stPWR 8 noInst (judgeKeepSafe { s with pwr := { s.pwr with damaged := true } })) := by
  unfold execDeviceDamage
  simp only [feedAt, hRuns, Nat.not_lt.mpr hWhole, Bool.not_true, decide_false, Bool.or_self, Bool.false_eq_true, if_false]

/-- A cause that holds takes the module into Keep-safe service (R494). -/
theorem judgeKeepSafe_caused (h : keepSafeCause s = true) :
    (judgeKeepSafe s).pwr = { s.pwr with keepSafe := true, clearSince := none } := by
  unfold judgeKeepSafe
  rw [if_pos h]
  dsimp only
  split
  · rfl
  · exact powerBit_pwr

theorem keepSafeCause_damaged (h : s.pwr.damaged = true) : keepSafeCause s = true := by
  unfold keepSafeCause
  rw [h, Bool.or_true, Bool.true_or]

theorem execInputLatchClear_withdrawn {us : Nat} (hState : s.pwr.input.state = .latched) :
    execInputLatchClear us true s = .next (putFeed .input
      { s.pwr.input with state := .off, since := s.time.ticks, inside := false, fails := 0, kind := 0 } s) := by
  unfold execInputLatchClear
  simp only [hState, beq_self_eq_true, Bool.true_or, Bool.and_self, if_true]

/-- The drive of a slot that is off leaves, and its member was in no use: nothing follows but that its failures clear (R503, R505). -/
theorem execSlotPresenceChange_leaves (hState : (feedAt s (.slot k)).state = .off) (hMember : inUseState (memberAt s k).state = false) :
    execSlotPresenceChange k false s = .next (putFeed (.slot k) { feedAt s (.slot k) with present := false, fails := 0 } s) := by
  have same {f : Feed} : memberAt (putFeed (.slot k) f s) k = memberAt s k := putFeed_frame.memberAt rfl
  unfold execSlotPresenceChange
  simp only [hState, same, hMember, bne_self_eq_false, Bool.false_and, Bool.and_false, Bool.false_eq_true, if_false]

end

end Machine

open Machine

/-- Settles O28: each event takes its channel's branch once, and what follows the change leaves the channel as it was written. -/
theorem powerChannelsComplete : Obligations.PowerChannelsComplete := by
  unfold Obligations.PowerChannelsComplete
  refine ⟨fun s => execInsertDelayExpiry_due (ch := .input), fun k s => execInsertDelayExpiry_due, ?turn, ?precharged,
    fun ch s => execPrechargeTimeout_due, ?ramped, fun ch s => execRampFaultTimeout_due, ?limit, ?release, fun ch s => execFaultTimerExpiry_due,
    ?qualified, fun us s => execPgQualified_input, ?loss, fun ch s => execRetryWaitEnd_over, fun ch s => execFailureCountClear_due,
    fun ch test us s => execDeviceDamage_latches, ?damage, ?latchClear, fun k s => rfl, fun k s => execSlotPresenceChange_leaves⟩
  case turn =>
    intro k s hState hWaits hMay hTurn
    have hFeed : feedAt (precharging (.slot k) s) (.slot k) = _ := feedAt_putFeed
    exact ⟨_, (execStaggerTurn_due hState hWaits hMay).trans (congrArg _ (toPrecharge_atTurn hTurn)), congrArg (·.state) hFeed,
      congrArg (·.attempt) hFeed, congrArg (·.waits) hFeed, rfl, rfl⟩
  case precharged =>
    intro ch mv s hState hOut
    refine ⟨_, execPrechargeDone_reached hState hOut, ?_⟩
    beta_reduce
    rw [feedAt_feedTo]
    exact ⟨rfl, rfl, rfl, rfl, putFeed_belay⟩
  case ramped =>
    intro ch mv s hState hOut
    refine ⟨_, execRampDone_reached hState hOut, ?_⟩
    beta_reduce
    rw [feedAt_putFeed, feedAt_feedTo]
    exact ⟨rfl, rfl, rfl, rfl⟩
  case limit =>
    intro ch ma s hState hLimit
    obtain ⟨t, e, hFeed⟩ := execCurrentLimitReached_limits hState hLimit
    refine ⟨t, e, ?_⟩
    beta_reduce
    rw [hFeed]
    exact ⟨rfl, rfl, rfl, rfl⟩
  case release =>
    intro ch us s hState hBelow
    obtain ⟨t, e, hFeed⟩ := execLimitRelease_returns hState hBelow
    refine ⟨t, e, ?_⟩
    beta_reduce
    rw [hFeed]
    exact ⟨rfl, rfl⟩
  case qualified =>
    intro k us s hState hHeld hDue
    obtain ⟨t, e, hFeed⟩ := execPgQualified_slot hState hHeld hDue
    refine ⟨t, e, ?_⟩
    beta_reduce
    rw [hFeed]
    exact ⟨rfl, rfl, rfl⟩
  case loss =>
    intro ch mv s hState hLow
    refine ⟨_, execPgLoss_low hState hLow, ?_⟩
    beta_reduce
    rw [slotFollows_frame.feedAt rfl, feedAt_putFeed]
    exact ⟨rfl, rfl, rfl, rfl⟩
  case damage =>
    intro us s hRuns hWhole
    refine ⟨_, execDeviceDamage_input hRuns hWhole, ?_⟩
    beta_reduce
    rw [powerBit_pwr, judgeKeepSafe_caused (keepSafeCause_damaged rfl)]
    exact ⟨rfl, rfl, rfl⟩
  case latchClear =>
    intro us s hState
    exact ⟨_, execInputLatchClear_withdrawn hState, rfl, rfl, rfl, rfl, rfl⟩

end Sys2Proof
end

section
/-!
PROOFS. The power states (22 R513 to R521; 20 R483, R485). An entry's steps and its end write the record of the power states; what they tell the
observers leaves it whole.
-/
namespace Sys2Proof
namespace Machine

section
variable {s : State} {m : PMode} {d : DormantItem} {domain : Nat} {slot : Fin 24}

/-! Entry and its steps (R513, R515, R517, R518) -/

theorem execDrowseIdleExpiry_due (hRun : s.pst.mode = .run) (hNone : s.pst.entering = none) (hMay : drowseMay s = true)
    (hDue : confirmed s s.pst.lastWork (pPstDrowseIdle s * msU) = true) : execDrowseIdleExpiry s = .next (beginEntry .drowse s) := by
  have begins : (s.pst.mode == .run && s.pst.entering.isNone && drowseMay s && confirmed s s.pst.lastWork (pPstDrowseIdle s * msU)) = true := by
    rw [hRun, hNone, hMay, hDue]
    rfl
  exact congrArg _ (if_pos begins)

theorem execDormantIdleExpiry_due (hMode : s.pst.mode ≠ .dormant) (hNone : s.pst.entering = none) (hMay : dormantMay s = true)
    (hDue : confirmed s s.pst.lastPkt (pPstDormantIdle s * secU) = true) : execDormantIdleExpiry s = .next (beginEntry .dormant s) := by
  have begins :
      (s.pst.mode != .dormant && s.pst.entering.isNone && dormantMay s && confirmed s s.pst.lastPkt (pPstDormantIdle s * secU)) = true := by
    rw [bne_iff_ne.mpr hMode, hNone, hMay, hDue]
    rfl
  exact congrArg _ (if_pos begins)

theorem nextPoint_eq {n : Nat} : nextPoint m n = if m = .drowse ∧ n = 3 then 6 else n + 1 := by
  unfold nextPoint
  simp only [Bool.and_eq_true, beq_iff_eq, decide_eq_true_eq]

/-- Before S5 a step that no wake has touched reaches the next abort point and does nothing else here. -/
theorem execEntryStepComplete_advances (hEnter : s.pst.entering = some m) (hPoint : s.pst.point < 5) (hHeld : s.pst.abandon = false) :
    execEntryStepComplete s = .next { s with pst := { s.pst with point := nextPoint m s.pst.point } } := by
  have early : ¬ 6 ≤ s.pst.point := by omega
  have notFive : s.pst.point ≠ 5 := by omega
  unfold execEntryStepComplete
  simp only [hEnter, hHeld, early, notFive, decide_false, Bool.and_false, Bool.false_eq_true, if_false]

/-- Step S5 of an entry into Dormant takes the links down. -/
theorem execEntryStepComplete_linksDown (hEnter : s.pst.entering = some .dormant) (hPoint : s.pst.point = 5) (hHeld : s.pst.abandon = false) :
    execEntryStepComplete s = .next { linksDown s with pst := { (linksDown s).pst with point := 6 } } := by
  unfold execEntryStepComplete
  simp only [hEnter, hHeld, hPoint, Nat.reduceLeDiff, beq_self_eq_true, decide_true, Bool.and_self, Bool.false_eq_true, if_false, if_true]
  rfl

theorem execEntryStepComplete_abandons (hEnter : s.pst.entering = some m) (hPoint : s.pst.point < 5) (hWake : s.pst.abandon = true) :
    execEntryStepComplete s = .next (abandonEntry s) := by
  have early : ¬ 6 ≤ s.pst.point := by omega
  have notFive : s.pst.point ≠ 5 := by omega
  unfold execEntryStepComplete
  simp only [hEnter, hWake, early, notFive, decide_false, Bool.and_false, Bool.false_eq_true, if_false, if_true]

theorem execEntryStepComplete_completes (hEnter : s.pst.entering = some m) (hPoint : 6 ≤ s.pst.point) :
    execEntryStepComplete s = .next (completeEntry m s) := by
  unfold execEntryStepComplete
  simp only [hEnter, hPoint, if_true]

theorem linksDown_pst : (linksDown s).pst = s.pst := linksDown_frame.pst rfl

theorem abandonEntry_pst : (abandonEntry s).pst =
    { s.pst with entering := none, point := 0, abandon := false, heldWake := false, mode := .run, woken := [] } :=
  (raise_frame.pst rfl).trans (bumpFigure_frame.pst rfl)

/-- An entry that no wake waits for ends in its state. -/
theorem completeEntry_pst (hHeld : s.pst.heldWake = false) : (completeEntry m s).pst =
    { s.pst with entering := none, point := 7, abandon := false, heldWake := false, mode := m, woken := [] } := by
  unfold completeEntry
  simp only [hHeld, Bool.false_eq_true, if_false]
  split
  · exact bumpFigure_frame.pst rfl
  · rfl

/-! Domains (R514) -/

theorem execDomainWake_drowse (hDrowse : s.pst.mode = .drowse) : execDomainWake domain s =
    .next { s with pst := { s.pst with woken := dropIf (fun x => x.1 == domain) s.pst.woken ++ [(domain, mono s)] } } :=
  congrArg _ (if_pos (beq_iff_eq.mpr hDrowse))

theorem execDomainIdleExpiry_due {n : Nat} (hWoken : s.pst.woken.lookup domain = some n)
    (hDue : confirmed s n (pPstDomainIdle s * usU) = true) : execDomainIdleExpiry domain s =
      .next { s with pst := { s.pst with woken := dropIf (fun x => x.1 == domain) s.pst.woken } } := by
  unfold execDomainIdleExpiry
  rw [hWoken]
  exact congrArg _ (if_pos hDue)

/-- What joins a list once its like is dropped stands in it once. -/
theorem filter_dropIf_append {α : Type} {p : α → Bool} {l : List α} {a : α} (ha : p a = true) : (dropIf p l ++ [a]).filter p = [a] := by
  have dropped : (dropIf p l).filter p = [] := List.filter_eq_nil_iff.mpr fun x hx => by
    simpa [dropIf] using (List.mem_filter.mp hx).2
  rw [List.filter_append, dropped, List.filter_cons_of_pos ha]
  rfl

/-! The drives under the schedule (R519 to R521; 20 R483, R485) -/

/-- The deltas of the owned partitions begin to be flushed. -/
theorem execDriveIdleTimeout_due (hItem : dormantItem s = some d) (hDown : s.pst.drivesDown = false) (hStep : s.pst.downStep = 0)
    (hMay : mayPowerDown s = true) (hHost : hostBusy s = false) (hDue : confirmed s s.pst.lastDrive (d.idle.toNat * secU) = true) :
    execDriveIdleTimeout s = .next (advanceDown (closeHeads
      { (s.idx.parts.filter (fun y => (shardAt s y.shard).owned)).foldl (fun acc y => startFlush y.shard y.num acc) s with
        pst := { ((s.idx.parts.filter (fun y => (shardAt s y.shard).owned)).foldl (fun acc y => startFlush y.shard y.num acc) s).pst with
          downStep := 1 } })) := by
  have goesOn : ¬ (s.pst.drivesDown || s.pst.downStep != 0 || !mayPowerDown s || hostBusy s ||
      !confirmed s s.pst.lastDrive (d.idle.toNat * secU)) = true := by
    rw [hDown, hStep, hMay, hHost, hDue]
    exact Bool.false_ne_true
  unfold execDriveIdleTimeout
  rw [hItem]
  exact congrArg _ (if_neg goesOn)

theorem execDriveShutdownComplete_waited (hStep : s.pst.downStep = 4) (hSlot : s.pst.shutting.contains (slot : Nat) = true) :
    execDriveShutdownComplete slot s = .next (shutOver slot s) := congrArg _ (if_pos ⟨hStep, hSlot⟩)

theorem execDriveShutdownTimeout_due (hStep : s.pst.downStep = 4) (hSlot : s.pst.shutting.contains (slot : Nat) = true)
    (hDue : confirmed s s.pst.shutAt (pPstShutdownMax s * msU) = true) :
    execDriveShutdownTimeout slot s = .next (shutOver slot (raise stPST 2 slot s)) := congrArg _ (if_pos ⟨hStep, hSlot, hDue⟩)

theorem execDormantWindowStart_due (hItem : dormantItem s = some d) (hIn : inAwakeWindow s d = true) (hShut : s.pst.window = false) :
    execDormantWindowStart s = .next (openWindow s) := by
  unfold execDormantWindowStart
  simp only [hItem, hIn, hShut, Bool.not_false, Bool.and_self, if_true]

theorem execDormantWindowEnd_over (hItem : dormantItem s = some d) (hIn : inAwakeWindow s d = false) (hOpen : s.pst.window = true) :
    execDormantWindowEnd s = .next { s with pst := { s.pst with window := false } } := by
  unfold execDormantWindowEnd
  simp only [hItem, hIn, hOpen, Bool.not_false, Bool.and_self, if_true]

/-- The timer unit wakes the module for each cause whose instant has come (R521). -/
theorem execDormantTimerWake_due {lock ckpt win : Bool} (hDown : s.pst.drivesDown = true)
    (hLock : s.obj.locks.any (fun l => l.locks.any (lockPast s)) = lock)
    (hCkpt : confirmed s s.fix.lastCkpt (pIdxCkptInterval s * secU) = ckpt)
    (hWin : (dormantItem s).any (fun d => inAwakeWindow s d && !s.pst.window) = win) (hCause : (lock || ckpt || win) = true) :
    execDormantTimerWake s =
      let signed := if ckpt then signCheckpoint (wake 4 s) else wake 4 s
      let powered := if lock then powerDrives signed else signed
      .next (if win then openWindow powered else powered) := by
  unfold execDormantTimerWake
  simp only [hDown, hLock, hCkpt, hWin, hCause, Bool.not_true, Bool.or_self, Bool.false_eq_true, if_false]

end

end Machine

open Machine

/-- Settles O30: each event takes the branch of its rule, and the observers' words change no record of the power states. -/
theorem powerStatesComplete : Obligations.PowerStatesComplete := by
  unfold Obligations.PowerStatesComplete
  refine ⟨?drowse, ?dormant, ?advances, ?linksDown, ?abandons, ?completes, ?wakes, ?gates, fun d s => execDriveIdleTimeout_due,
    fun slot s => execDriveShutdownComplete_waited, fun slot s => execDriveShutdownTimeout_due, fun d s => execDormantWindowStart_due,
    fun d s => execDormantWindowEnd_over, ?lockExpiry, ?checkpoint⟩
  case drowse =>
    intro s hRun hNone hMay hDue
    exact ⟨_, execDrowseIdleExpiry_due hRun hNone hMay hDue, rfl, rfl, rfl, hRun⟩
  case dormant =>
    intro s hMode hNone hMay hDue
    exact ⟨_, execDormantIdleExpiry_due hMode hNone hMay hDue, rfl, rfl, rfl, rfl⟩
  case advances =>
    intro m s hEnter hPoint hHeld
    rw [← nextPoint_eq]
    exact execEntryStepComplete_advances hEnter hPoint hHeld
  case linksDown =>
    intro s hEnter hPoint hHeld
    exact ⟨_, execEntryStepComplete_linksDown hEnter hPoint hHeld, rfl, (congrArg (·.entering) linksDown_pst).trans hEnter, rfl, rfl⟩
  case abandons =>
    intro m s hEnter hPoint hWake
    refine ⟨_, execEntryStepComplete_abandons hEnter hPoint hWake, ?_⟩
    beta_reduce
    rw [abandonEntry_pst]
    exact ⟨rfl, rfl, rfl, rfl⟩
  case completes =>
    intro m s hEnter hPoint hHeld
    refine ⟨_, execEntryStepComplete_completes hEnter hPoint, ?_⟩
    beta_reduce
    rw [completeEntry_pst hHeld]
    exact ⟨rfl, rfl, rfl, rfl⟩
  case wakes =>
    intro domain s hDrowse
    have once := filter_dropIf_append (p := fun y => y.1 == domain) (l := s.pst.woken) (a := (domain, mono s)) (beq_self_eq_true domain)
    exact ⟨_, execDomainWake_drowse hDrowse, List.getLast?_concat .., congrArg List.length once, hDrowse⟩
  case gates =>
    intro domain n s hWoken hDue
    exact ⟨_, execDomainIdleExpiry_due hWoken hDue, any_dropIf, rfl⟩
  case lockExpiry =>
    intro s hDown hLock hCkpt hWin
    have woken := execDormantTimerWake_due hDown hLock hCkpt hWin rfl
    exact woken
  case checkpoint =>
    intro s hDown hLock hCkpt hWin
    have woken := execDormantTimerWake_due hDown hLock hCkpt hWin rfl
    exact woken

end Sys2Proof
end

section
/-!
PROOFS. Start-up (24 R534 to R539, Table 24.1). The end of a phase that runs and the overrun of its budget are a choice by the phase's number;
the vault's words (P4) pass through the judgement of the hold-up capacity, which changes neither the time nor what the vault answered.
-/
namespace Sys2Proof
namespace Machine

section
variable {s : State} {r : PhaseIn} {mv n p : Nat}

/-! Power on (R534; 21 R498) -/

/-- The input of an unpowered module enters INSERT, and the start-up phases begin. -/
theorem startChannel_unpowered (hBelay : s.pwr.belay = none) (hSoc : s.pwr.socOn = false) (hOff : s.pwr.input.state = .off)
    (hMay : mayStart s.pwr.input = true) : startChannel .input s =
      beginStart (putFeed .input { s.pwr.input with state := .insert, since := s.time.ticks, waits := false } s) := by
  have inserts : startInsert .input s = putFeed .input { s.pwr.input with state := .insert, since := s.time.ticks, waits := false } s :=
    if_pos (Bool.and_eq_true_iff.mpr ⟨beq_iff_eq.mpr hOff, hMay⟩)
  rw [← inserts]
  unfold startChannel
  simp only [hBelay, hSoc, hOff, hMay, Option.isSome_none, Bool.not_false, beq_self_eq_true, Bool.and_self, Bool.false_eq_true, if_false, if_true]

theorem execPowerOn_inWindow (hSoc : s.pwr.socOn = false) (hIn : insideWindow s .input mv = true) : execPowerOn mv s =
    .next (startChannel .input (putFeed .input { s.pwr.input with inside := true } { s with pwr := { s.pwr with sensed := mv } })) := by
  unfold execPowerOn
  simp only [hSoc, hIn, Bool.not_true, Bool.or_self, Bool.false_eq_true, if_false]

/-! The end of a phase (R534, R535, Table 24.1) -/

/-- What the end of a phase that runs brings, by its number (Table 24.1). -/
def phaseEnds (p : Nat) (r : PhaseIn) (s : State) : State :=
  if p = 1 then if s.pwr.input.state == .good then startPhase 2 (setPhase 1 .done s) else s
  else if p = 2 then bootDone r.ok r.svn s
  else if p = 3 then if r.ok then dramDone (setPhase 3 .done s) else haltAs .dram (setPhase 3 .failed s)
  else if p = 4 then if r.ok then vaultDone r s else haltAs .vault (setPhase 4 .failed s)
  else if p = 5 then configDone r (setPhase 5 .done s)
  else if p = 6 then resumeForming (drivesDone s)
  else if p = 7 then resumeForming (pairDone s)
  else if p = 8 then setPhase 8 .done s
  else if p = 9 then keysDone r.keyHeld s
  else if p = 10 then recoveryDone s
  else if shelfMode s == .locked then tryOpen (setPhase p .done s) else s

/-- A phase that runs in a module that has not halted ends by its row. -/
theorem execStartupPhaseEnd_runs (hRuns : phaseRuns s p = true) (hHalt : s.boot.halted = none) :
    execStartupPhaseEnd p r s = .next (phaseEnds p r s) := by
  have goesOn : ¬ (!phaseRuns s p || s.boot.halted.isSome) = true := by
    rw [hRuns, hHalt]
    exact Bool.false_ne_true
  refine (if_neg goesOn).trans ?_
  unfold phaseEnds
  simp only [apply_ite Host.Outcome.next]

/-- P2 without a staged image: the image in force runs at the SVN the boot ROM takes (02 R63). -/
theorem bootDone_inForce {svn : Nat} (hStaged : stagedImage s = none) (hSvn : s.auth.fusedSvn ≤ svn) :
    bootDone true svn s = startPhase 3 (setPhase 2 .done { s with auth := { s.auth with runningSvn := svn } }) := by
  unfold bootDone
  simp only [hStaged, hSvn, decide_true, Bool.and_self, if_true]

/-- P4 ends, and an image that was written and is not valid is reported (07 R206). -/
def vaultReported (lost : Bool) (s : State) : State := setPhase 4 .done (if lost then raise stSTR 4 noInst s else s)

/-- The hold-up capacity is judged, and P5 begins (21 R495). -/
def capacityJudged (r : PhaseIn) (s : State) : State :=
  startPhase 5 (if r.capacity < pPwrHoldupMin (unitView (judgeKeepSafe s)) then powerBit stPWR 7 noInst (judgeKeepSafe s) else judgeKeepSafe s)

/-- The vault's words: its time, unanchored and free-running, the capacity, the image and the position (Table 24.1; 03 R67). -/
theorem vaultDone_steps : ∃ z, vaultDone r s = capacityJudged r (vaultReported (s.log.image && !r.image) z) ∧
    (z.time.shelf = s.time.vault ∧ z.time.mono = s.time.mono ∧ z.time.custody = s.time.vault ∧ z.time.mode = .freerun ∧
      z.time.anchor = .unanchored) ∧ z.pwr.capacity = r.capacity ∧ z.log.image = (s.log.image && r.image) ∧ z.pair.isB = r.posB :=
  ⟨_, rfl, ⟨rfl, rfl, rfl, rfl, rfl⟩, rfl, rfl, rfl⟩

theorem judgeKeepSafe_capacity : (judgeKeepSafe s).pwr.capacity = s.pwr.capacity := by
  unfold judgeKeepSafe
  split
  · dsimp only
    split
    · rfl
    · exact congrArg (·.capacity) powerBit_pwr
  · rfl

theorem vaultReported_frame {lost : Bool} : Frame 191193153536 (vaultReported lost s) s := by
  unfold vaultReported
  cases lost
  · exact setPhase_frame.mono rfl
  · exact (setPhase_frame.mono rfl).trans (raise_frame.mono rfl)

theorem capacityJudged_frame : Frame 204078055432 (capacityJudged r s) s := by
  unfold capacityJudged
  refine (startPhase_frame.mono rfl).trans ?_
  split
  · exact (powerBit_frame.mono rfl).trans (judgeKeepSafe_frame.mono rfl)
  · exact judgeKeepSafe_frame.mono rfl

theorem capacityJudged_capacity : (capacityJudged r s).pwr.capacity = s.pwr.capacity := by
  unfold capacityJudged
  split
  · exact (congrArg (·.capacity) powerBit_pwr).trans judgeKeepSafe_capacity
  · exact judgeKeepSafe_capacity

/-! Budgets and the wait for a lock (R534, R535, Table 24.1) -/

/-- The failure action of a phase past its budget, by its number (Table 24.1). -/
def phaseOverruns (p : Nat) (s : State) : State :=
  if p = 2 then haltAs .noImage (setPhase 2 .failed s)
  else if p = 3 then haltAs .dram (setPhase 3 .failed s)
  else if p = 4 then haltAs .vault (setPhase 4 .failed s)
  else if p = 6 then resumeForming (drivesDone s)
  else if p = 7 then resumeForming (pairDone s)
  else if p = 8 then setPhase 8 .failed s
  else if p = 9 then keysDone false s
  else if p = 10 then raise stIDX 2 noInst s
  else if p = 11 then tryOpen (setPhase 11 .failed { s with boot := { s.boot with lockWaited := true } })
  else s

/-- A phase past its budget in a module that has not halted takes its failure action. -/
theorem execStartupBudgetExpiry_over (hRuns : phaseAt s p = .running n) (hOver : ticked s n (phaseBudget s p) = true)
    (hHalt : s.boot.halted = none) : execStartupBudgetExpiry p s = .next (phaseOverruns p s) := by
  have acts : ¬ (!ticked s n (phaseBudget s p) || s.boot.halted.isSome) = true := by
    rw [hOver, hHalt]
    exact Bool.false_ne_true
  unfold execStartupBudgetExpiry
  rw [hRuns]
  refine (if_neg acts).trans ?_
  unfold phaseOverruns
  simp only [apply_ite Host.Outcome.next]

theorem execLockWaitExpiry_over (hRuns : phaseAt s 11 = .running n) (hOver : ticked s n (phaseBudget s 11) = true) :
    execLockWaitExpiry s = .next (tryOpen (setPhase 11 .done { s with boot := { s.boot with lockWaited := true } })) := by
  unfold execLockWaitExpiry
  rw [hRuns]
  exact congrArg _ (if_pos hOver)

end

end Machine

open Machine

/-- Settles O36: each phase takes its row of Table 24.1, at its end and past its budget. -/
theorem startUpPhasesComplete : Obligations.StartUpPhasesComplete := by
  unfold Obligations.StartUpPhasesComplete
  refine ⟨?powerOn, ?poweredUp, ?boot, ?dram, ?vault, fun r s => execStartupPhaseEnd_runs, fun r s => execStartupPhaseEnd_runs,
    fun r s => execStartupPhaseEnd_runs, fun r s => execStartupPhaseEnd_runs, fun r s => execStartupPhaseEnd_runs,
    fun r s => execStartupPhaseEnd_runs, ?locked, ?halts, fun n s => execStartupBudgetExpiry_over, fun n s => execStartupBudgetExpiry_over,
    fun n s => execStartupBudgetExpiry_over, fun n s => execStartupBudgetExpiry_over, fun n s => execStartupBudgetExpiry_over,
    fun n s => execStartupBudgetExpiry_over, fun n s => execLockWaitExpiry_over⟩
  case powerOn =>
    intro mv s hSoc hIn hBelay hOff hPresent hEnabled
    have may : mayStart { s.pwr.input with inside := true } = true := by
      simp only [mayStart, hPresent, hEnabled, Bool.and_self]
    exact ⟨_, (execPowerOn_inWindow hSoc hIn).trans (congrArg _ (startChannel_unpowered hBelay hSoc hOff may)), rfl, rfl, rfl, rfl, rfl⟩
  case poweredUp =>
    intro r s hRuns hHalt hGood
    rw [← show phaseEnds 1 r s = startPhase 2 (setPhase 1 .done s) from if_pos (beq_iff_eq.mpr hGood)]
    exact execStartupPhaseEnd_runs hRuns hHalt
  case boot =>
    intro r s hRuns hHalt hStaged hOk hSvn
    have runs : phaseEnds 2 r s = _ := (congrArg (bootDone · r.svn s) hOk).trans (bootDone_inForce hStaged hSvn)
    exact ⟨_, (execStartupPhaseEnd_runs hRuns hHalt).trans (congrArg _ runs), rfl, rfl, hHalt⟩
  case dram =>
    intro r s hRuns hHalt hOk
    have trained : phaseEnds 3 r s = dramDone (setPhase 3 .done s) := if_pos hOk
    exact ⟨_, (execStartupPhaseEnd_runs hRuns hHalt).trans (congrArg _ trained), rfl, rfl, rfl⟩
  case vault =>
    intro r s hRuns hHalt hOk
    obtain ⟨z, eSteps, ⟨hShelf, hMono, hCustody, hMode, hAnchor⟩, hCapacity, hImage, hPosition⟩ := vaultDone_steps (r := r) (s := s)
    have known : phaseEnds 4 r s = _ := (if_pos hOk).trans eSteps
    have reported := vaultReported_frame (s := z) (lost := s.log.image && !r.image)
    have kept := (capacityJudged_frame (r := r)).trans (reported.mono rfl)
    refine ⟨_, (execStartupPhaseEnd_runs hRuns hHalt).trans (congrArg _ known), ?_⟩
    beta_reduce
    rw [kept.time rfl, kept.log rfl, kept.pair rfl, capacityJudged_capacity, reported.pwr rfl]
    exact ⟨hShelf, hMono, hCustody, hMode, hAnchor, hCapacity, hImage, hPosition⟩
  case locked =>
    intro r s hRuns hHalt hLocked
    rw [← show phaseEnds 11 r s = tryOpen (setPhase 11 .done s) from if_pos (beq_iff_eq.mpr hLocked)]
    exact execStartupPhaseEnd_runs hRuns hHalt
  case halts =>
    intro p n s hRuns hOver hHalt hPhase
    have acts := execStartupBudgetExpiry_over hRuns hOver hHalt
    obtain rfl | rfl | rfl := hPhase
    · exact acts
    · exact acts
    · exact acts

end Sys2Proof
end
